-- ==== Sys2Proof/Word.lean ====
section
/-! DEFINITION. Bytes, words, little-endian strings and the narrowing operations of R9. -/

namespace Sys2Proof

/-- One byte. -/
abbrev Byte := BitVec 8
/-- A 16-bit field. -/
abbrev Half := BitVec 16
/-- A 32-bit register or U32 field. -/
abbrev Word := BitVec 32
/-- A 64-bit field. -/
abbrev DWord := BitVec 64
/-- A string of bytes, first byte first (R5). -/
abbrev Bytes := List Byte

/-- Byte `i` of a string as a number; bytes beyond its end count as 0 (the length is checked apart, R266). -/
def u8 (b : Bytes) (i : Nat) : Nat := (b.getD i 0).toNat

/-- A little-endian U16 at offset `i` (R5). -/
def u16 (b : Bytes) (i : Nat) : Nat := u8 b i + 256 * u8 b (i + 1)

/-- A little-endian U32 at offset `i` (R5). -/
def u32 (b : Bytes) (i : Nat) : Nat := u16 b i + 65536 * u16 b (i + 2)

/-- A little-endian U40 at offset `i` (R260). -/
def u40 (b : Bytes) (i : Nat) : Nat := u32 b i + 4294967296 * u8 b (i + 4)

/-- A little-endian U64 at offset `i`. -/
def u64 (b : Bytes) (i : Nat) : Nat := u32 b i + 4294967296 * u32 b (i + 4)

/-- The two's complement reading of the low `w` bits of `n` (R5). -/
def toSigned (w n : Nat) : Int := (BitVec.ofNat w n).toInt

def s16 (b : Bytes) (i : Nat) : Int := toSigned 16 (u16 b i)
def s32 (b : Bytes) (i : Nat) : Int := toSigned 32 (u32 b i)
def s40 (b : Bytes) (i : Nat) : Int := toSigned 40 (u40 b i)

/-- The `n` bytes of a string from offset `i`. -/
def slice (b : Bytes) (i n : Nat) : Bytes := (b.drop i).take n

/-- `n` little-endian bytes of a natural number (R5). -/
def leBytes : Nat → Nat → Bytes
  | 0, _ => []
  | k + 1, v => BitVec.ofNat 8 v :: leBytes k (v / 256)

/-- `n` little-endian bytes of a signed number (R5). -/
def leInt (n : Nat) (v : Int) : Bytes := leBytes n (BitVec.ofInt (8 * n) v).toNat

/-- The number that a little-endian string spells. -/
def ofLe : Bytes → Nat
  | [] => 0
  | b :: r => b.toNat + 256 * ofLe r

/-- `n` zero bytes (Zn of R260). -/
def zeros (n : Nat) : Bytes := List.replicate n 0

/-- sat(v) to a signed width (R9). -/
def satS (w : Nat) (v : Int) : Int :=
  if v < -(2 : Int) ^ (w - 1) then -(2 : Int) ^ (w - 1)
  else if v > (2 : Int) ^ (w - 1) - 1 then (2 : Int) ^ (w - 1) - 1 else v

/-- Truncation to a signed width: the low bits are kept (R9). -/
def wrapS (w : Nat) (v : Int) : Int := (BitVec.ofInt w v).toInt

/-- A counter that stops at its largest value. -/
def satU (w n : Nat) : Nat := min n (2 ^ w - 1)

/-- Division that truncates toward zero (R9). -/
def tdiv (a b : Int) : Int := Int.tdiv a b

/-- Arithmetic shift right, toward minus infinity (R9). -/
def asr (a : Int) (n : Nat) : Int := a / (2 : Int) ^ n

/-- Ceiling of a quotient of natural numbers. -/
def ceilDiv (a b : Nat) : Nat := (a + b - 1) / b

/-- Bits `hi:lo` of a word as a number (R4). -/
def bits (w : Word) (hi lo : Nat) : Nat := (w.toNat >>> lo) % 2 ^ (hi + 1 - lo)

/-- Bit `i` of a word. -/
def bit (w : Word) (i : Nat) : Bool := w.getLsbD i

/-- The mask of bits `hi:lo`. -/
def fieldMask (hi lo : Nat) : Word := BitVec.ofNat 32 ((2 ^ (hi + 1 - lo) - 1) <<< lo)

/-- A word with bits `hi:lo` set to the low bits of `v`. -/
def putBits (w : Word) (hi lo v : Nat) : Word :=
  (w &&& ~~~ fieldMask hi lo) ||| (BitVec.ofNat 32 (v <<< lo) &&& fieldMask hi lo)

/-- A word with bit `i` set to `b`. -/
def putBit (w : Word) (i : Nat) (b : Bool) : Word := putBits w i i b.toNat

/-- A transport endpoint to which a session is bound (R221): a PCIe mailbox pair, a UDP source address and port on
one Ethernet port, or HSPI. -/
inductive Endpoint where
  | pcie (pair : Nat)
  | udp (ip : Nat) (port : Nat) (eth : Nat)
  | hspi
deriving DecidableEq, Repr

/-- An Omneax packet (R210, Table CMD-1) less SYNC, LENGTH and CRC, which its byte form adds. -/
structure Packet where
  version : Nat := 2
  flags : Byte := 0
  session : Nat := 0
  priority : Nat := 0
  seq : Half := 0
  opcode : Nat := 0
  handle : Nat := 0
  status : Nat := 0
  payload : Bytes := []
deriving DecidableEq, Repr

/-- A request packet together with the endpoint that it came from; for a request over UDP, the source MAC address of its frame and the tag that
the MAC removed, to which the answer goes (R733). -/
structure Req where
  ep : Endpoint
  pkt : Packet
  mac : Nat := 0
  tci : Option Nat := none
deriving DecidableEq, Repr

/-- A Tideline frame as received (R375, R376), less its EtherType: the port, the source MAC as a number with the first byte sent most
significant, the header fields and the bytes that follow the header. `length` is the LENGTH field as received. -/
structure TlFrame where
  port : Nat := 0
  src : Nat := 0
  version : Nat := 1
  stationId : Nat := 0
  flags : Nat := 1
  epoch : Nat := 0
  length : Nat := 0
  cycle : Nat := 0
  mark : Nat := 0
  body : Bytes := []
deriving DecidableEq, Repr

/-- The LENGTH bytes of a Tideline frame's payload; padding is not counted (R375). -/
def TlFrame.payload (f : TlFrame) : Bytes := f.body.take f.length

/-- The 64-bit word of a Plain macro-instruction (Table PIS-1). -/
abbrev MacroInstr := BitVec 64

/-- A bus-matrix master (0 HM instruction, 1 HM data, 2 DMA, 3 Fairway inbound, 4 debug) and, for M3, the Fairway node. -/
structure Initiator where
  master : Nat
  node : Nat := 0
deriving DecidableEq, Repr

/-- A request at the bus matrix (R656 to R669): address, direction, bytes per beat, beats, data of a write, QoS of an M3 request, transaction ID,
the SYS cycles that it has waited, and whether its holder makes the path wait (write data not supplied, or read data not accepted). -/
structure BusReq where
  who : Initiator
  addr : Nat
  write : Bool
  size : Nat
  beats : Nat
  data : Bytes := []
  qos : Nat := 0
  id : Nat := 0
  waited : Nat := 0
  stalled : Bool := false
deriving DecidableEq, Repr

/-- An access that the other port of a Basin makes to one 64-bit word (R680, R681): the Quay at Basins 2 and 3, the Pilot fetch at Basin 1, the
Reclaim controller at Basin 4; `again` marks the second read after a BUSY. -/
structure PortUse where
  write : Bool
  addr : Nat
  data : Bytes := []
  again : Bool := false
deriving DecidableEq, Repr

/-- What a queue controller does at port B of Basin 2: a whole transfer of its stream, or one access in RAW mode; a locked one keeps the port (R799,
R800). -/
inductive QcWork where
  | transfer (words : List DWord)
  | raw (write : Bool) (offset : Nat) (data : DWord) (locked : Bool)
deriving DecidableEq, Repr

/-- An access of a queue controller, with the SYS cycles for which it has waited (R798). -/
structure QcAccess where
  qc : Nat
  work : QcWork
  waited : Nat := 0
deriving DecidableEq, Repr

/-- A Fairway packet (Table FWY-2): the head's fields, the payload, the cycles for which a request has waited at its initiator, whether a reserved
bit of the head is set, and what happens to it on its way: the nodes that correct a single-bit error, and an uncorrectable error in the head or
in a body flit at node `errAt` of its route, or at its end (R706). -/
structure FwPacket where
  dst : Nat
  src : Nat
  kind : Nat
  qos : Nat := 0
  tid : Nat
  epoch : Nat := 0
  status : Nat := 0
  addr : Nat := 0
  length : Nat := 0
  data : Bytes := []
  bulk : Bool := false
  headUe : Bool := false
  poisoned : Bool := false
  crcBad : Bool := false
  allowNs : Nat := 0
  waited : Nat := 0
  reserved : Bool := false
  corrected : List Nat := []
  errAt : Option Nat := none
deriving DecidableEq, Repr

/-- A received Ethernet frame less its FCS, with the conditions that the MAC reports of it (R730). -/
structure RxFrame where
  bytes : Bytes
  fcsOk : Bool := true
  fifoOverflow : Bool := false
  stampSec : Nat := 0
  stampNs : Nat := 0
  dataFails : Option Nat := none
  descFails : Bool := false
deriving DecidableEq, Repr

/-- The fields of a PTP message that R748 to R754 use. -/
structure PtpMsg where
  domain : Nat := 0
  seq : Nat := 0
  srcIdentity : Nat := 0
  srcPort : Nat := 1
  twoStep : Bool := false
  correctionNs : Int := 0
  rxNs : Int := 0
  txNs : Int := 0
  priority1 : Nat := 128
  clockClass : Nat := 248
  accuracy : Nat := 254
  variance : Nat := 65535
  priority2 : Nat := 128
  gmIdentity : Nat := 0
  stepsRemoved : Nat := 0
deriving DecidableEq, Repr

/-- The two floating-point formats (R636). -/
inductive FpFmt where
  | s | d
deriving DecidableEq, Repr

/-- What a debug access does (R620 to R622). -/
inductive DebugAction where
  | halt
  | resume
  | step
  | readReg (n : Nat)
  | writeReg (n : Nat) (value : Word)
  | readMem (addr : Nat)
  | writeMem (addr : Nat) (value : Word)
  | setBreak (n : Nat) (addr : Word) (on : Bool)
  | setWatch (n : Nat) (addr : Word) (on : Bool)
deriving DecidableEq, Repr

/-- The Harbourmaster's loads and stores. -/
inductive HmMemOp where
  | load8s | load8u | load16s | load16u | load32 | store8 | store16 | store32
deriving DecidableEq, Repr

/-- The Harbourmaster's branches and jumps (formats BR and J of Table HMC-5). -/
inductive HmBranchOp where
  | cond (code : BitVec 4)
  | jump
  | call
  | jumpReg
deriving DecidableEq, Repr

/-- The ordinary integer instructions: ADDI is the one that the spec writes out; the others go by OPC and FUNC10. -/
inductive HmIntOp where
  | addi
  | other (opc : BitVec 7) (func : BitVec 10) (useImm : Bool)
deriving DecidableEq, Repr

end Sys2Proof
end

