-- ==== Sys2Proof/Syntax.lean ====
section
/-! DEFINITION. The commands: one constructor per row of spec/opcode_table.json, with the row's operands. -/

namespace Sys2Proof

/-- A command of the block. Each constructor is one row of the opcode table; its docstring gives the row's mnemonic and rule. -/
inductive Instr where
  /-- PING (R271). -/
  | ping (q : Req)
  /-- INFO (R271). -/
  | info (q : Req)
  /-- SESSION_OPEN (R221). -/
  | sessionOpen (q : Req)
  /-- SESSION_CLOSE (R273). -/
  | sessionClose (q : Req)
  /-- CTRL_TAKE (R225). -/
  | ctrlTake (q : Req)
  /-- CTRL_RELEASE (R274). -/
  | ctrlRelease (q : Req)
  /-- TIME_GET (R271). -/
  | timeGet (q : Req)
  /-- RESET_DEVICE (R275). -/
  | resetDevice (q : Req)
  /-- AUTH_CHALLENGE (R250). -/
  | authChallenge (q : Req)
  /-- AUTH_RESPONSE (R250). -/
  | authResponse (q : Req)
  /-- CYCLE_SET (R276). -/
  | cycleSet (q : Req)
  /-- CYCLE_START (R21). -/
  | cycleStart (q : Req)
  /-- CYCLE_STOP (R22). -/
  | cycleStop (q : Req)
  /-- CYCLE_STATUS (R277). -/
  | cycleStatus (q : Req)
  /-- CH_CREATE (R279). -/
  | chCreate (q : Req)
  /-- CH_DESTROY (R280). -/
  | chDestroy (q : Req)
  /-- CH_CONFIG (R333). -/
  | chConfig (q : Req)
  /-- CH_BIND (R282). -/
  | chBind (q : Req)
  /-- CH_ARM (R30). -/
  | chArm (q : Req)
  /-- CH_DISARM (R283). -/
  | chDisarm (q : Req)
  /-- CH_SETPOINT (R284). -/
  | chSetpoint (q : Req)
  /-- CH_READ (R278). -/
  | chRead (q : Req)
  /-- CH_LIST (R268). -/
  | chList (q : Req)
  /-- CH_DEPEND (R286). -/
  | chDepend (q : Req)
  /-- CH_MODEL_READ (R361). -/
  | chModelRead (q : Req)
  /-- CH_MODEL_WRITE (R361). -/
  | chModelWrite (q : Req)
  /-- CH_MODEL_TRIM_ON (R361). -/
  | chModelTrimOn (q : Req)
  /-- CH_MODEL_TRIM_OFF (R834). -/
  | chModelTrimOff (q : Req)
  /-- CH_MODEL_RESTORE (R361). -/
  | chModelRestore (q : Req)
  /-- CH_SAFE (R285). -/
  | chSafe (q : Req)
  /-- ST_LIST (R287). -/
  | stList (q : Req)
  /-- ST_ADMIT (R288). -/
  | stAdmit (q : Req)
  /-- ST_FALLBACK (R289). -/
  | stFallback (q : Req)
  /-- ST_RELEASE (R290). -/
  | stRelease (q : Req)
  /-- ST_STATUS (R287). -/
  | stStatus (q : Req)
  /-- VSL_LOAD (R292). -/
  | vslLoad (q : Req)
  /-- VSL_COMMIT (R293). -/
  | vslCommit (q : Req)
  /-- TANK_DEFINE (R291). -/
  | tankDefine (q : Req)
  /-- SECTION_DEFINE (R291). -/
  | sectionDefine (q : Req)
  /-- LIMITS_SET (R295). -/
  | limitsSet (q : Req)
  /-- COND_READ (R296). -/
  | condRead (q : Req)
  /-- STRENGTH_READ (R296). -/
  | strengthRead (q : Req)
  /-- PROG_LOAD (R298). -/
  | progLoad (q : Req)
  /-- PROG_UNLOAD (R297). -/
  | progUnload (q : Req)
  /-- PROG_INFO (R297). -/
  | progInfo (q : Req)
  /-- SLIP_LOAD_BEGIN (R300). -/
  | slipLoadBegin (q : Req)
  /-- SLIP_LOAD_DATA (R300). -/
  | slipLoadData (q : Req)
  /-- SLIP_LOAD_APPLY (R301). -/
  | slipLoadApply (q : Req)
  /-- SLIP_LOAD_ABORT (R300). -/
  | slipLoadAbort (q : Req)
  /-- SLIP_STATUS (R299). -/
  | slipStatus (q : Req)
  /-- SLIP_CAPTURE (R815). -/
  | slipCapture (q : Req)
  /-- SLIP_READBACK (R816). -/
  | slipReadback (q : Req)
  /-- BB_STATUS (R302). -/
  | bbStatus (q : Req)
  /-- BB_READ (R303). -/
  | bbRead (q : Req)
  /-- BB_MARK (R304). -/
  | bbMark (q : Req)
  /-- BB_RELEASE (R894). -/
  | bbRelease (q : Req)
  /-- TM_SUBSCRIBE (R306). -/
  | tmSubscribe (q : Req)
  /-- TM_CANCEL (R305). -/
  | tmCancel (q : Req)
  /-- WEAR_READ (R307). -/
  | wearRead (q : Req)
  /-- WEAR_RESET (R841). -/
  | wearReset (q : Req)
  /-- CAL_RUN_SENSOR_ZERO (R835). -/
  | calRunSensorZero (q : Req)
  /-- CAL_RUN_SENSOR_SPAN (R835). -/
  | calRunSensorSpan (q : Req)
  /-- CAL_RUN_TEMP (R837). -/
  | calRunTemp (q : Req)
  /-- CAL_RUN_SUPMON (R837). -/
  | calRunSupmon (q : Req)
  /-- CAL_RUN_PLAUSIBILITY (R838). -/
  | calRunPlausibility (q : Req)
  /-- CAL_READ (R307). -/
  | calRead (q : Req)
  /-- DUTY_SET (R309). -/
  | dutySet (q : Req)
  /-- MIRROR_SET (R478). -/
  | mirrorSet (q : Req)
  /-- FW_UPDATE_BEGIN (R311). -/
  | fwUpdateBegin (q : Req)
  /-- FW_UPDATE_DATA (R311). -/
  | fwUpdateData (q : Req)
  /-- FW_UPDATE_COMMIT (R311). -/
  | fwUpdateCommit (q : Req)
  /-- FW_UPDATE_ABORT (R311). -/
  | fwUpdateAbort (q : Req)
  /-- PATCH_LOAD (R312). -/
  | patchLoad (q : Req)
  /-- OTP_PROGRAM_KEY_HASH (R313). -/
  | otpProgramKeyHash (q : Req)
  /-- OTP_PROGRAM_REVOKE (R313). -/
  | otpProgramRevoke (q : Req)
  /-- OTP_PROGRAM_ROLLBACK (R313). -/
  | otpProgramRollback (q : Req)
  /-- OTP_PROGRAM_OPEN_FW (R313). -/
  | otpProgramOpenFw (q : Req)
  /-- OTP_PROGRAM_JTAG_LOCK (R313). -/
  | otpProgramJtagLock (q : Req)
  /-- OTP_PROGRAM_SLIP_SIGN_REQ (R313). -/
  | otpProgramSlipSignReq (q : Req)
  /-- OTP_PROGRAM_CUSTOMER_KEY (R314). -/
  | otpProgramCustomerKey (q : Req)
  /-- DIAG_REG_READ (R315). -/
  | diagRegRead (q : Req)
  /-- DIAG_REG_WRITE (R315). -/
  | diagRegWrite (q : Req)
  /-- DIAG_MEM_READ (R315). -/
  | diagMemRead (q : Req)
  /-- DIAG_BAR2_ON (R767). -/
  | diagBar2On (q : Req)
  /-- DIAG_BAR2_OFF (R767). -/
  | diagBar2Off (q : Req)
  /-- CONT_FRAGMENT (R228). -/
  | contFragment (q : Req)
  /-- ASSEMBLY_TIMEOUT (R229). -/
  | assemblyTimeout (sess : Nat)
  /-- SESSION_LIVENESS_EXPIRY (R222). -/
  | sessionLivenessExpiry (sess : Nat)
  /-- UDP_GAP_EXPIRY (R241). -/
  | udpGapExpiry (sess : Nat)
  /-- AUTH_NONCE_EXPIRY (R250). -/
  | authNonceExpiry (sess : Nat)
  /-- AUTH_LOCKOUT_EXPIRY (R253). -/
  | authLockoutExpiry
  /-- PCIE_REQ_DOORBELL (R235). -/
  | pcieReqDoorbell (pair : Nat) (buffer : Bytes) (count : Nat) (oneDword : Bool)
  /-- PCIE_REPLY_DOORBELL (R236). -/
  | pcieReplyDoorbell (pair : Nat) (oneDword : Bool)
  /-- PCIE_EVT_CONS (R237). -/
  | pcieEvtCons (pair index : Nat) (oneDword : Bool)
  /-- HOST_IRQ_STATUS_CLEAR (R764). -/
  | hostIrqStatusClear (mask : Word) (oneDword : Bool)
  /-- PCIE_CONFIG_REQUEST (R159). -/
  | pcieConfigRequest (write : Bool) (offset : Nat) (value : Word)
  /-- PCIE_BAR2_READ (R202). -/
  | pcieBar2Read (offset : Nat) (oneDword : Bool)
  /-- PCIE_BAR2_WRITE (R202). -/
  | pcieBar2Write (offset : Nat) (value : Word)
  /-- PERST_N_ASSERT (R65). -/
  | perstNAssert
  /-- PERST_N_DEASSERT (R159). -/
  | perstNDeassert
  /-- FUNCTION_LEVEL_RESET (R765). -/
  | functionLevelReset
  /-- PCIE_LINK_DOWN_EXPIRY (R223). -/
  | pcieLinkDownExpiry
  /-- HSPI_WRITE_PACKET (R243). -/
  | hspiWritePacket (command : Word) (clocked : Bytes)
  /-- HSPI_READ_STATUS (R243). -/
  | hspiReadStatus (command : Word) (clocked : Nat)
  /-- HSPI_READ_PACKET (R246). -/
  | hspiReadPacket (command : Word) (clocked : Nat)
  /-- LOAD_CHUNK (R771). -/
  | loadChunk (ep : Endpoint) (offset total : Nat) (data : Bytes)
  /-- POR_RELEASE (R72). -/
  | porRelease (vbatGood : Bool)
  /-- INTERNAL_RESET_RELEASE (R140). -/
  | internalResetRelease (bootMode : BitVec 2) (testN : Bool)
  /-- BASIN_CLEAR_DONE (R139). -/
  | basinClearDone (otpOk : Bool)
  /-- FLASH_HEADER_RETRY (R150). -/
  | flashHeaderRetry (slot : Nat) (retryFailed : Bool)
  /-- BOOT_IMAGE_CHECKED (R149). -/
  | bootImageChecked (slot : Nat)
  /-- PLAIN_SELF_TEST_DONE (R155). -/
  | plainSelfTestDone (failed : BitVec 16)
  /-- HARBOUR_OPEN (R163). -/
  | harbourOpen
  /-- WARNING_ASSERT (R86). -/
  | warningAssert (sense io33 : Bool)
  /-- WARNING_IRQ (R86). -/
  | warningIrq
  /-- WARNING_RECOVERY_START (R92). -/
  | warningRecoveryStart
  /-- WARNING_CLEAR (R93). -/
  | warningClear
  /-- SAG_RESET (R94). -/
  | sagReset (io33 core plain : Bool) (also : List Nat)
  /-- SAG_RESET_RELEASE (R95). -/
  | sagResetRelease
  /-- SENSE_CONVERSION (R85). -/
  | senseConversion (mv : Nat)
  /-- VBAT_LOW (R81). -/
  | vbatLow
  /-- AON_SUPPLY_SWITCH (R79). -/
  | aonSupplySwitch (onVbat : Bool)
  /-- PIN_RESET (R133). -/
  | pinReset (also : List Nat)
  /-- JTAG_SYSRESET (R133). -/
  | jtagSysreset (also : List Nat)
  /-- SYSCTL_SWRESET (R133). -/
  | sysctlSwreset (who : Initiator)
  /-- DOUBLE_TRAP (R871). -/
  | doubleTrap (also : List Nat)
  /-- PLL_LOCK (R121). -/
  | pllLock (pll : Nat)
  /-- CLOCK_LOST (R117). -/
  | clockLost (clocks : List Nat)
  /-- CLOCK_GOOD (R118). -/
  | clockGood (clock : Nat)
  /-- TIME_FREQ_CHECK (R123). -/
  | timeFreqCheck (ppm : BitVec 16)
  /-- TIME_HOLDOVER_ENTRY (R122). -/
  | timeHoldoverEntry
  /-- TIME_HOLDOVER_EXIT (R124). -/
  | timeHoldoverExit
  /-- ARR_HALF_CHANGE (R105). -/
  | arrHalfChange
  /-- WATCH_MARK (R112). -/
  | watchMark
  /-- PILOT_MARK_ARRIVAL (R508). -/
  | pilotMarkArrival
  /-- WATCH_MARK_IRQ (R26). -/
  | watchMarkIrq
  /-- MAC_MARK_ARRIVAL (R746). -/
  | macMarkArrival (port : Nat)
  /-- ADMISSION_ROUND (R166). -/
  | admissionRound
  /-- CONFIG_RESEND (R384). -/
  | configResend (station : Nat)
  /-- JOIN_FORGET (R382). -/
  | joinForget (station : Nat)
  /-- ANNOUNCE (R381). -/
  | announce
  /-- GATHER_DEADLINE (R394). -/
  | gatherDeadline
  /-- MARK_COMPARE (R616). -/
  | markCompare (n : Nat)
  /-- QUAY_LD_GO (R578). -/
  | quayLdGo
  /-- LOAD_DONE (R566). -/
  | loadDone
  /-- QUAY_UL_GO (R575). -/
  | quayUlGo
  /-- UNLOAD_DONE (R576). -/
  | unloadDone
  /-- QUAY_ABORT (R587). -/
  | quayAbort
  /-- COMMIT_FLIP (R24). -/
  | commitFlip
  /-- COMMIT_DEADLINE (R16). -/
  | commitDeadline
  /-- CYCLE_DEADLINE (R517). -/
  | cycleDeadline
  /-- CYCLE_ABANDONED (R519). -/
  | cycleAbandoned
  /-- SAGWARN_REQUEST (R517). -/
  | sagwarnRequest
  /-- MICRO_TRAP (R518). -/
  | microTrap
  /-- ACK_TIMEOUT (R522). -/
  | ackTimeout
  /-- PILOT_START (R494). -/
  | pilotStart
  /-- PILOT_BREAK (R517). -/
  | pilotBreak
  /-- PILOT_RESUME (R519). -/
  | pilotResume
  /-- PILOT_PRAM_WRITE (R513). -/
  | pilotPramWrite (data3 : Word)
  /-- PILOT_MBOX_WRITE (R503). -/
  | pilotMboxWrite (n : Nat) (data : Word)
  /-- MACRO_FETCH (R494). -/
  | macroFetch
  /-- MICRO_JUMP (R501). -/
  | microJump (word : BitVec 112)
  /-- MICRO_CALL (R501). -/
  | microCall (word : BitVec 112)
  /-- MICRO_RETURN (R501). -/
  | microReturn (word : BitVec 112)
  /-- MICRO_LOOP (R501). -/
  | microLoop (word : BitVec 112)
  /-- MICRO_DISPATCH (R496). -/
  | microDispatch (word : BitVec 112)
  /-- MICRO_WAIT (R501). -/
  | microWait (word : BitVec 112)
  /-- MICRO_TRET (R519). -/
  | microTret (word : BitVec 112)
  /-- MICRO_IDLE (R501). -/
  | microIdle (word : BitVec 112)
  /-- PLAIN_ILLEGAL (R533). -/
  | plainIllegal (m : MacroInstr)
  /-- NOP (R541). -/
  | plainNop (m : MacroInstr)
  /-- MOV (R541). -/
  | plainMov (m : MacroInstr)
  /-- MOVX (R541). -/
  | plainMovx (m : MacroInstr)
  /-- LDI (R541). -/
  | plainLdi (m : MacroInstr)
  /-- LDIX (R541). -/
  | plainLdix (m : MacroInstr)
  /-- STIX (R541). -/
  | plainStix (m : MacroInstr)
  /-- ADD (R541). -/
  | plainAdd (m : MacroInstr)
  /-- SUB (R541). -/
  | plainSub (m : MacroInstr)
  /-- ADDI (R541). -/
  | plainAddi (m : MacroInstr)
  /-- NEG (R541). -/
  | plainNeg (m : MacroInstr)
  /-- ABS (R541). -/
  | plainAbs (m : MacroInstr)
  /-- MUL (R543). -/
  | plainMul (m : MacroInstr)
  /-- MULW (R543). -/
  | plainMulw (m : MacroInstr)
  /-- SMUL (R543). -/
  | plainSmul (m : MacroInstr)
  /-- DIV (R544). -/
  | plainDiv (m : MacroInstr)
  /-- REM (R544). -/
  | plainRem (m : MacroInstr)
  /-- CEQ (R541). -/
  | plainCeq (m : MacroInstr)
  /-- CNE (R541). -/
  | plainCne (m : MacroInstr)
  /-- CLT (R541). -/
  | plainClt (m : MacroInstr)
  /-- CLE (R541). -/
  | plainCle (m : MacroInstr)
  /-- CGT (R541). -/
  | plainCgt (m : MacroInstr)
  /-- CGE (R541). -/
  | plainCge (m : MacroInstr)
  /-- AND (R541). -/
  | plainAnd (m : MacroInstr)
  /-- OR (R541). -/
  | plainOr (m : MacroInstr)
  /-- XOR (R541). -/
  | plainXor (m : MacroInstr)
  /-- ANDN (R541). -/
  | plainAndn (m : MacroInstr)
  /-- NOT (R541). -/
  | plainNot (m : MacroInstr)
  /-- SEL (R541). -/
  | plainSel (m : MacroInstr)
  /-- MIN (R541). -/
  | plainMin (m : MacroInstr)
  /-- MAX (R541). -/
  | plainMax (m : MacroInstr)
  /-- SHL (R541). -/
  | plainShl (m : MacroInstr)
  /-- SHR (R541). -/
  | plainShr (m : MacroInstr)
  /-- SCL (R541). -/
  | plainScl (m : MacroInstr)
  /-- SATN (R541). -/
  | plainSatn (m : MacroInstr)
  /-- NSHN (R548). -/
  | plainNshn (m : MacroInstr)
  /-- NSHE (R548). -/
  | plainNshe (m : MacroInstr)
  /-- NSHS (R548). -/
  | plainNshs (m : MacroInstr)
  /-- NSHW (R548). -/
  | plainNshw (m : MacroInstr)
  /-- PSUM (R546). -/
  | plainPsum (m : MacroInstr)
  /-- PSUMX (R546). -/
  | plainPsumx (m : MacroInstr)
  /-- RMAX (R546). -/
  | plainRmax (m : MacroInstr)
  /-- RMIN (R546). -/
  | plainRmin (m : MacroInstr)
  /-- GMAX (R547). -/
  | plainGmax (m : MacroInstr)
  /-- GMIN (R547). -/
  | plainGmin (m : MacroInstr)
  /-- MPUSH (R538). -/
  | plainMpush (m : MacroInstr)
  /-- MPUSHF (R538). -/
  | plainMpushf (m : MacroInstr)
  /-- MPOP (R538). -/
  | plainMpop (m : MacroInstr)
  /-- MELSE (R538). -/
  | plainMelse (m : MacroInstr)
  /-- TSRCH (R545). -/
  | plainTsrch (m : MacroInstr)
  /-- TLERP (R545). -/
  | plainTlerp (m : MacroInstr)
  /-- BR (R541). -/
  | plainBr (m : MacroInstr)
  /-- BRGOR (R549). -/
  | plainBrgor (m : MacroInstr)
  /-- BRNGOR (R549). -/
  | plainBrngor (m : MacroInstr)
  /-- BRFOR (R549). -/
  | plainBrfor (m : MacroInstr)
  /-- LOOP (R550). -/
  | plainLoop (m : MacroInstr)
  /-- CALL (R550). -/
  | plainCall (m : MacroInstr)
  /-- RET (R550). -/
  | plainRet (m : MacroInstr)
  /-- WAITM (R551). -/
  | plainWaitm (m : MacroInstr)
  /-- END (R551). -/
  | plainEnd (m : MacroInstr)
  /-- FCLR (R541). -/
  | plainFclr (m : MacroInstr)
  /-- DZCLR (R541). -/
  | plainDzclr (m : MacroInstr)
  /-- ENTER (R598). -/
  | enter (rd rs1 : Nat) (imm : BitVec 10)
  /-- LEAVE (R598). -/
  | leave (rd rs1 : Nat) (imm : BitVec 10)
  /-- SYSCALL (R603). -/
  | syscall (imm : BitVec 10)
  /-- ERET (R606). -/
  | eret (skip : Bool)
  /-- RDSYS (R618). -/
  | rdsys (rd sys : Nat)
  /-- WRSYS (R619). -/
  | wrsys (sys rs : Nat)
  /-- WVMSET (R599). -/
  | wvmset (bank : Nat)
  /-- WVMCLR (R599). -/
  | wvmclr (bank : Nat)
  /-- STWIN (R602). -/
  | stwin (window rs : Nat)
  /-- LDWIN (R602). -/
  | ldwin (window rs : Nat)
  /-- CWB (R594). -/
  | cwb (rs : Nat) (imm : BitVec 10)
  /-- CINV (R594). -/
  | cinv (rs : Nat) (imm : BitVec 10)
  /-- CWBINV (R594). -/
  | cwbinv (rs : Nat) (imm : BitVec 10)
  /-- FLUSHI (R594). -/
  | flushi
  /-- MEMBAR (R595). -/
  | membar
  /-- RDFLT (R618). -/
  | rdflt (rd code : Nat)
  /-- WFI (R618). -/
  | wfi
  /-- FBAR (R649). -/
  | fbar
  /-- RDFSR (R650). -/
  | rdfsr (rd : Nat)
  /-- WRFSR (R650). -/
  | wrfsr (rs : Nat) (imm : BitVec 10)
  /-- RDFQ (R650). -/
  | rdfq (rd code : Nat)
  /-- MUL_LO (R627). -/
  | mulLo (rd rs1 rs2 : Nat)
  /-- MUL_HS (R627). -/
  | mulHs (rd rs1 rs2 : Nat)
  /-- MUL_HU (R627). -/
  | mulHu (rd rs1 rs2 : Nat)
  /-- MULW_S (R628). -/
  | mulwS (rd rs1 rs2 : Nat)
  /-- MULW_U (R628). -/
  | mulwU (rd rs1 rs2 : Nat)
  /-- ADDF (R629). -/
  | addf (rd rs1 rs2 : Nat)
  /-- ADDCF (R630). -/
  | addcf (rd rs1 rs2 : Nat)
  /-- SUBF (R629). -/
  | subf (rd rs1 rs2 : Nat)
  /-- SUBBF (R630). -/
  | subbf (rd rs1 rs2 : Nat)
  /-- DIV_S (R634). -/
  | divS (rd rs1 rs2 : Nat)
  /-- DIV_U (R632). -/
  | divU (rd rs1 rs2 : Nat)
  /-- REM_S (R634). -/
  | remS (rd rs1 rs2 : Nat)
  /-- REM_U (R632). -/
  | remU (rd rs1 rs2 : Nat)
  /-- DIVL_U (R635). -/
  | divlU (rd rs2 : Nat)
  /-- CLZ (R627). -/
  | clz (rd rs1 : Nat)
  /-- FADD (R638). -/
  | fadd (fmt : FpFmt) (fd fs1 fs2 rm : Nat)
  /-- FSUB (R638). -/
  | fsub (fmt : FpFmt) (fd fs1 fs2 rm : Nat)
  /-- FMUL (R638). -/
  | fmul (fmt : FpFmt) (fd fs1 fs2 rm : Nat)
  /-- FDIV (R638). -/
  | fdiv (fmt : FpFmt) (fd fs1 fs2 rm : Nat)
  /-- FSQRT (R638). -/
  | fsqrt (fmt : FpFmt) (fd fs1 rm : Nat)
  /-- FMAC (R643). -/
  | fmac (fmt : FpFmt) (fd fs1 fs2 rm : Nat)
  /-- FMSC (R643). -/
  | fmsc (fmt : FpFmt) (fd fs1 fs2 rm : Nat)
  /-- FNMAC (R643). -/
  | fnmac (fmt : FpFmt) (fd fs1 fs2 rm : Nat)
  /-- FMINN (R644). -/
  | fminn (fmt : FpFmt) (fd fs1 fs2 rm : Nat)
  /-- FMAXN (R644). -/
  | fmaxn (fmt : FpFmt) (fd fs1 fs2 rm : Nat)
  /-- FCMPEQ (R638). -/
  | fcmpeq (fmt : FpFmt) (rd fs1 fs2 rm : Nat)
  /-- FCMPLT (R638). -/
  | fcmplt (fmt : FpFmt) (rd fs1 fs2 rm : Nat)
  /-- FCMPLE (R638). -/
  | fcmple (fmt : FpFmt) (rd fs1 fs2 rm : Nat)
  /-- FTOI (R645). -/
  | ftoi (fmt : FpFmt) (rd fs1 rm : Nat)
  /-- FTOU (R645). -/
  | ftou (fmt : FpFmt) (rd fs1 rm : Nat)
  /-- ITOF (R638). -/
  | itof (fmt : FpFmt) (fd rs1 rm : Nat)
  /-- UTOF (R638). -/
  | utof (fmt : FpFmt) (fd rs1 rm : Nat)
  /-- FTOF (R638). -/
  | ftof (fmt : FpFmt) (fd fs1 rm : Nat)
  /-- FCPYS (R638). -/
  | fcpys (fmt : FpFmt) (fd fs1 fs2 rm : Nat)
  /-- FNEG (R638). -/
  | fneg (fmt : FpFmt) (fd fs1 rm : Nat)
  /-- FABS (R638). -/
  | fabs (fmt : FpFmt) (fd fs1 rm : Nat)
  /-- FPUT (R638). -/
  | fput (fmt : FpFmt) (fd rs1 rs2 rm : Nat)
  /-- FGET (R638). -/
  | fget (fmt : FpFmt) (rd fs1 rm : Nat)
  /-- FLOAD_S (R638). -/
  | floadS (f rs : Nat) (imm : BitVec 32)
  /-- FLOAD_D (R638). -/
  | floadD (f rs : Nat) (imm : BitVec 32)
  /-- FSTORE_S (R638). -/
  | fstoreS (f rs : Nat) (imm : BitVec 32)
  /-- FSTORE_D (R638). -/
  | fstoreD (f rs : Nat) (imm : BitVec 32)
  /-- INTERRUPT_TAKEN (R609). -/
  | interruptTaken
  /-- INTC_CLAIM (R610). -/
  | intcClaim (who : Initiator)
  /-- INTC_COMPLETE (R610). -/
  | intcComplete (who : Initiator) (source : Nat)
  /-- INTC_END_SERVICE (R610). -/
  | intcEndService (who : Initiator) (index : Nat) (mask : Word)
  /-- DEBUG_ACCESS (R620). -/
  | debugAccess (a : DebugAction)
  /-- DBG_FLUSH (R620). -/
  | dbgFlush
  /-- TAP_TEST_LOGIC_RESET (R863). -/
  | tapTestLogicReset
  /-- REGISTER_WRITE (R7). -/
  | registerWrite (who : Initiator) (addr : Nat) (value : Word)
  /-- GUARD_KEY (R183). -/
  | guardKey (who : Initiator) (block : Nat)
  /-- GUARD_WRONG_KEY (R183). -/
  | guardWrongKey (who : Initiator) (block : Nat) (key : BitVec 16)
  /-- GUARD_CLEAR_FLAGS (R183). -/
  | guardClearFlags (who : Initiator) (block : Nat) (value : Word)
  /-- GUARD_EXPIRY (R186). -/
  | guardExpiry (block : Nat)
  /-- OTP_PROG_CMD (R90). -/
  | otpProgCmd (who : Initiator) (value : Word)
  /-- OTP_PROG_DONE (R90). -/
  | otpProgDone (verified : Bool)
  /-- WDT_SERVICE (R612). -/
  | wdtService (who : Initiator) (value : Word)
  /-- WDT_PREWARN (R612). -/
  | wdtPrewarn
  /-- WDT_EXPIRY (R614). -/
  | wdtExpiry (also : List Nat)
  /-- TIMER_SYSCNT_LATCH (R178). -/
  | timerSyscntLatch (who : Initiator)
  /-- PTP_TIME_SNAPSHOT (R199). -/
  | ptpTimeSnapshot (who : Initiator)
  /-- FAIRWAY_TRACE_READ (R178). -/
  | fairwayTraceRead (who : Initiator)
  /-- SHADOW_DATA_READ (R816). -/
  | shadowDataRead (who : Initiator)
  /-- DCQ_DROP_CLEAR (R198). -/
  | dcqDropClear (who : Initiator)
  /-- QUAY_BUSY_CLEAR (R198). -/
  | quayBusyClear (who : Initiator)
  /-- CLR_COLL (R198). -/
  | clrColl (who : Initiator)
  /-- CLR_ECC (R198). -/
  | clrEcc (who : Initiator)
  /-- CLR_COUNTS (R198). -/
  | clrCounts (who : Initiator)
  /-- SCRUB_CLR (R198). -/
  | scrubClr (who : Initiator)
  /-- ETH_CNT_CLEAR (R198). -/
  | ethCntClear (who : Initiator) (port : Nat)
  /-- ETH_RX_KICK (R737). -/
  | ethRxKick (who : Initiator) (port ring : Nat)
  /-- ETH_TX_KICK (R744). -/
  | ethTxKick (who : Initiator) (port ring : Nat)
  /-- MDIO_COMMAND (R727). -/
  | mdioCommand (who : Initiator) (port : Nat) (value : Word)
  /-- MDIO_DONE (R727). -/
  | mdioDone (port : Nat) (data : BitVec 16)
  /-- MDIO_POLL (R728). -/
  | mdioPoll (port : Nat) (linkGood fullDuplex : Bool) (speed : BitVec 2)
  /-- PTP_STEP (R749). -/
  | ptpStep (who : Initiator)
  /-- DMA_GO (R671). -/
  | dmaGo (who : Initiator) (channel : Nat)
  /-- DMA_DONE (R671). -/
  | dmaDone (channel : Nat)
  /-- DMA_ERROR (R672). -/
  | dmaError (channel : Nat) (addr : Nat)
  /-- MATRIX_REQUEST (R662). -/
  | matrixRequest (r : BusReq) (also : List BusReq) (other : List PortUse)
  /-- ECC_WRITE_BACK (R675). -/
  | eccWriteBack (addr : Nat)
  /-- BASIN_POWER_WRITE (R687). -/
  | basinPowerWrite (who : Initiator) (value : Word)
  /-- BASIN_WAKE_DONE (R685). -/
  | basinWakeDone (basin : Nat)
  /-- ARR_HALF_WRITE (R125). -/
  | arrHalfWrite (who : Initiator) (half : Bool)
  /-- SLIPCTL_APPLY_GO (R812). -/
  | slipctlApplyGo (who : Initiator)
  /-- SLIPCTL_CAPTURE_GO (R815). -/
  | slipctlCaptureGo (who : Initiator) (clock : BitVec 2)
  /-- SHADOW_CAPTURE (R815). -/
  | shadowCapture (clock : BitVec 2)
  /-- RECLAIM_UNFENCE (R862). -/
  | reclaimUnfence (who : Initiator) (domain : Nat)
  /-- BBR_RELEASE (R894). -/
  | bbrRelease (who : Initiator) (index : Nat)
  /-- RTC_SET (R888). -/
  | rtcSet (who : Initiator) (seconds : Word)
  /-- BBR_APPEND (R882). -/
  | bbrAppend (who : Initiator) (beats : Nat) (low : Word) (payload : Word)
  /-- ANCHOR (R887). -/
  | anchor
  /-- FAIRWAY_REQUEST (R702). -/
  | fairwayRequest (p : FwPacket) (also : List FwPacket) (other : List PortUse)
  /-- FAIRWAY_RESPONSE (R704). -/
  | fairwayResponse (p : FwPacket)
  /-- WAKING (R714). -/
  | waking (p : FwPacket)
  /-- WAKE_RETRY (R715). -/
  | wakeRetry (p : FwPacket)
  /-- FAIRWAY_TIMEOUT (R709). -/
  | fairwayTimeout (node tid : Nat)
  /-- TID_QUARANTINE_END (R710). -/
  | tidQuarantineEnd (node tid : Nat)
  /-- HOLD_LEASE_EXPIRY (R665). -/
  | holdLeaseExpiry (master port addr : Nat)
  /-- INJECTION_LEASE_EXPIRY (R856). -/
  | injectionLeaseExpiry (node tid : Nat)
  /-- QC_PORT_LEASE_EXPIRY (R800). -/
  | qcPortLeaseExpiry (qc : Nat)
  /-- BBR_PORT_LEASE_EXPIRY (R855). -/
  | bbrPortLeaseExpiry (master : Nat) (burst : Bool)
  /-- QUAY_PASS_TIMEOUT (R867). -/
  | quayPassTimeout
  /-- FENCE_SEQUENCE (R858). -/
  | fenceSequence (domain lease resource low : Nat)
  /-- DOMAIN_RESET_RELEASE (R858). -/
  | domainResetRelease (domain : Nat)
  /-- HM_FENCE_LIFT (R860). -/
  | hmFenceLift (port : Nat)
  /-- ETH_RX_FRAME (R730). -/
  | ethRxFrame (port : Nat) (frame : RxFrame)
  /-- RX_DESCRIPTOR_RETRY (R737). -/
  | rxDescriptorRetry (port ring : Nat)
  /-- DESCRIPTOR_WAIT_EXPIRY (R739). -/
  | descriptorWaitExpiry (port ring : Nat)
  /-- ETH_TX_DONE (R745). -/
  | ethTxDone (port queue : Nat)
  /-- JOIN (R383). -/
  | join (f : TlFrame)
  /-- CONFIG_ACK (R386). -/
  | configAck (f : TlFrame)
  /-- INPUT (R394). -/
  | input (f : TlFrame)
  /-- ANNOUNCE_RECEIVED (R409). -/
  | announceReceived (f : TlFrame)
  /-- COMMIT_RECEIVED (R410). -/
  | commitReceived (f : TlFrame)
  /-- ARP_REQUEST (R733). -/
  | arpRequest (port srcMac srcIp targetIp : Nat)
  /-- ICMP_ECHO_REQUEST (R733). -/
  | icmpEchoRequest (port srcMac srcIp dstIp echo : Nat) (data : Bytes)
  /-- PTP_SYNC (R753). -/
  | ptpSync (port : Nat) (m : PtpMsg)
  /-- PTP_FOLLOW_UP (R751). -/
  | ptpFollowUp (port : Nat) (m : PtpMsg)
  /-- PTP_DELAY_REQ (R751). -/
  | ptpDelayReq (port : Nat) (m : PtpMsg)
  /-- PTP_DELAY_RESP (R751). -/
  | ptpDelayResp (port : Nat) (m : PtpMsg)
  /-- PTP_ANNOUNCE (R751). -/
  | ptpAnnounce (port : Nat) (m : PtpMsg)
  /-- MODBUS_POLL_START (R782). -/
  | modbusPollStart (uart : Nat)
  /-- MODBUS_RESPONSE (R781). -/
  | modbusResponse (uart : Nat) (frame : Bytes) (lineOk : Bool)
  /-- MODBUS_TIMEOUT (R781). -/
  | modbusTimeout (uart : Nat)
  /-- NMEA_SENTENCE (R784). -/
  | nmeaSentence (uart : Nat) (sentence : Bytes)
  /-- CAN_FRAME_RECEIVED (R777). -/
  | canFrameReceived (can id : Nat) (extended : Bool) (data : Bytes)
  /-- CAN_TX_DONE (R773). -/
  | canTxDone (can : Nat)
  /-- CAN_RX_TIMEOUT (R774). -/
  | canRxTimeout (can : Nat)
  /-- POINT_AGE_EXPIRY (R777). -/
  | pointAgeExpiry (station point : Nat)
  /-- CAN_BUS_OFF (R778). -/
  | canBusOff (can : Nat)
  /-- CAN_BUS_OFF_RECOVERY (R778). -/
  | canBusOffRecovery (can : Nat)
  /-- VS_POST (R804). -/
  | vsPost (n : Nat) (entries : List (Nat × Nat × Int)) (lastApplied : Nat)
  /-- VS_PRESENT_RISE (R806). -/
  | vsPresentRise (n : Nat)
  /-- VS_PRESENT_FALL (R806). -/
  | vsPresentFall (n : Nat)
  /-- QC_TRANSFER (R799). -/
  | qcTransfer (qc : Nat) (words : List DWord) (also : List QcAccess) (other : List PortUse)
  /-- QC_RAW_ACCESS (R800). -/
  | qcRawAccess (qc : Nat) (write : Bool) (offset : Nat) (data : DWord) (locked : Bool) (also : List QcAccess) (other : List PortUse)
  /-- BANK_LOW (R797). -/
  | bankLow (bank : Nat)
  /-- BANK_RESTORED (R797). -/
  | bankRestored (bank : Nat)
  /-- LANE_LOST (R824). -/
  | laneLost (lane dropped : Nat)
  /-- SLIP_WINDOW_ACCESS (R808). -/
  | slipWindowAccess (who : Initiator) (write : Bool) (offset : Nat) (data : Word) (answer : Word)
  /-- WIN_TIMEOUT (R199). -/
  | winTimeout (who : Initiator)
  /-- SLIP_APPLY_START (R812). -/
  | slipApplyStart
  /-- SLIP_APPLY_DONE (R812). -/
  | slipApplyDone (ok : Bool)
  /-- EBB_SLICE (R826). -/
  | ebbSlice
  /-- QUAY_SLOT (R583). -/
  | quaySlot
  /-- PLAIN_WINDOW_ACCESS (R487). -/
  | plainWindowAccess (r : BusReq)
  /-- FIELD_WAKE_DONE (R472). -/
  | fieldWakeDone (field : Nat)
  /-- FIELD_SLEEP (R474). -/
  | fieldSleep (field : Nat) (off : Bool)
  /-- PLAIN_SCRUB_SLICE (R828). -/
  | plainScrubSlice
  /-- BASIN_SCRUB_READ (R829). -/
  | basinScrubRead (basin : Nat)
  /-- SLIP_CONFIG_SCRUB_READ (R830). -/
  | slipConfigScrubRead (offset : Nat) (errorBits : Nat)
  /-- TELEMETRY_BUILD (R846). -/
  | telemetryBuild
  /-- WEAR_COUNTING (R841). -/
  | wearCounting
  /-- TRIM_SAMPLE (R832). -/
  | trimSample
  /-- TRIM_REPLAY (R833). -/
  | trimReplay (slot : Nat)
  /-- DUTY_ROTATION_CHECK (R843). -/
  | dutyRotationCheck
  /-- DUTY_CHANGEOVER_CONFIRM (R843). -/
  | dutyChangeoverConfirm (group : Nat)
  /-- DUTY_ABORT (R843). -/
  | dutyAbort (group : Nat)
  /-- CALIBRATION_SAMPLE (R836). -/
  | calibrationSample
  /-- PLAUSIBILITY_CHECK (R838). -/
  | plausibilityCheck
  /-- DRIFT_TRACKING (R840). -/
  | driftTracking
  /-- JOURNAL_FLUSH (R845). -/
  | journalFlush
  /-- JOURNAL_COMPACTION (R845). -/
  | journalCompaction
  /-- QSPI_COMMAND_DONE (R90). -/
  | qspiCommandDone
  /-- XIP_READ (R787). -/
  | xipRead (who : Initiator) (offset : Nat)
  /-- TEMP_SAMPLE (R839). -/
  | tempSample (readings : List (Option Int))
  /-- THERMAL_STEP1 (R870). -/
  | thermalStep1
  /-- THERMAL_STEP2 (R870). -/
  | thermalStep2
  /-- THERMAL_CLEAR (R870). -/
  | thermalClear
  /-- THERMAL_SHUTDOWN (R870). -/
  | thermalShutdown (also : List Nat)
  /-- PCIE_LINK_STATE_CHANGE (R223). -/
  | pcieLinkStateChange (up : Bool) (gen width : Nat)
  /-- HM_LOAD_STORE (R595). -/
  | hmLoadStore (op : HmMemOp) (rd rs1 : Nat) (imm : Word)
  /-- HM_BRANCH (R617). -/
  | hmBranch (op : HmBranchOp) (rd rs1 rs2 : Nat) (imm : Word)
  /-- HM_INTEGER_INSTRUCTION (R591). -/
  | hmIntegerInstruction (op : HmIntOp) (rd rs1 rs2 : Nat) (imm : Word)
  /-- HM_UNDEFINED_ENCODING (R603). -/
  | hmUndefinedEncoding (word : Word)
  /-- FP_INSTRUCTION_COMPLETE (R647). -/
  | fpInstructionComplete
  /-- PTP_ANNOUNCE_RECEIPT_TIMEOUT (R753). -/
  | ptpAnnounceReceiptTimeout (port : Nat)
  /-- PTP_MESSAGE_INTERVAL (R751). -/
  | ptpMessageInterval (port kind : Nat)
  /-- BBR_STAMP_UPDATE (R881). -/
  | bbrStampUpdate
  /-- TIME_BASE_SECOND (R748). -/
  | timeBaseSecond
  /-- SUPMON_CROSSING (R84). -/
  | supmonCrossing (monitor : Nat) (low : Bool)
  /-- LANE_LOCK_REGAINED (R824). -/
  | laneLockRegained (lane : Nat)
  /-- VBAT_RECOVERED (R81). -/
  | vbatRecovered
deriving DecidableEq, Repr

end Sys2Proof
end

