-- ==== Sys2Proof/Machine/Blocks.lean ====
section
/-! DEFINITION. The configuration blocks of stations: network (Table STN-3), serial (Table HPS-5), CAN (Table HPS-4) and virtual
(Table SLP-2); their points and their checks. -/

namespace Sys2Proof.Machine

/-! ### Which layout a station uses -/

/-- The offset of the first point record and the size of each, by station number (R380, R776, R780, R802). -/
def pointRecords (id : Nat) (c : Bytes) : Nat × Nat × Nat :=
  if id < 112 then (u8 c 2, 8, 8)
  else if id < 120 then
    if u8 c 5 = 2 then (u8 c 13, 16, 12) else (u8 c 13, 16 + 8 * u8 c 12, 8)
  else if id < 124 then (u8 c 13, 16 + 8 * u8 c 12, 12)
  else (u8 c 0, 4, 2)

/-- The offset of POINT inside a point record; a CAN record begins with its identifier. -/
def pointOffset (id : Nat) : Nat := if 120 ≤ id ∧ id < 124 then 4 else 0

/-- The direction of a point record: NMEA stations take IN points only (R780). -/
def recordIsOut (id : Nat) (c : Bytes) (o : Nat) : Bool :=
  if 112 ≤ id ∧ id < 120 ∧ u8 c 5 = 2 then false else u8 c (o + pointOffset id + 1) == 1

/-- The declared points: number, whether OUT, and the record's offset, in block order. -/
def stationPoints (id : Nat) (c : Bytes) : List (Nat × Bool × Nat) :=
  if c.isEmpty then [] else
  let (n, o, z) := pointRecords id c
  (List.range (min n 64)).map fun i => (u8 c (o + z * i + pointOffset id), recordIsOut id c (o + z * i), o + z * i)

/-- The declared IN points in block order. -/
def inPoints (id : Nat) (c : Bytes) : List Nat := ((stationPoints id c).filter fun x => !x.2.1).map fun x => x.1

/-- The declared OUT points in block order. -/
def outPoints (id : Nat) (c : Bytes) : List Nat := ((stationPoints id c).filter fun x => x.2.1).map fun x => x.1

/-- The declared direction of a station point: `some true` for OUT. -/
def pointDir (id : Nat) (c : Bytes) (point : Nat) : Option Bool :=
  ((stationPoints id c).find? fun x => x.1 == point).map fun x => x.2.1

/-- LOST_N of a block: 0 means 3 (R395, Tables HPS-4, HPS-5, SLP-2). -/
def blockLostN (id : Nat) (c : Bytes) : Nat :=
  let n := u8 c (if id < 112 then 4 else if id < 120 then 7 else if id < 124 then 14 else 1)
  if n = 0 then 3 else n

/-! ### Modbus polls (R780) -/

/-- SLAVE, FUNCTION, START and COUNT of poll `p`. -/
def pollSlave (c : Bytes) (p : Nat) : Nat := u8 c (16 + 8 * p)
def pollFn (c : Bytes) (p : Nat) : Nat := u8 c (17 + 8 * p)
def pollStart (c : Bytes) (p : Nat) : Nat := u16 c (18 + 8 * p)
def pollCount (c : Bytes) (p : Nat) : Nat := u8 c (20 + 8 * p)

/-- Whether a poll writes. -/
def pollWrites (c : Bytes) (p : Nat) : Bool := pollFn c p == 6 || pollFn c p == 16

/-- The read polls in list order. -/
def readPolls (c : Bytes) : List Nat := (List.range (u8 c 12)).filter fun p => !pollWrites c p

/-- The points of a poll: number, register, PFLAGS. -/
def pollPoints (id : Nat) (c : Bytes) (p : Nat) : List (Nat × Nat × Nat) :=
  ((stationPoints id c).filter fun x => u8 c (x.2.2 + 2) == p).map fun x => (x.1, u8 c (x.2.2 + 3), u8 c (x.2.2 + 4))

/-! ### Checks -/

/-- Whether a list of natural numbers rises strictly. -/
def risesNat : List Nat → Bool
  | a :: b :: r => decide (a < b) && risesNat (b :: r)
  | _ => true

/-- The first failing check of a list: its offset, and whether it is a reserved field (R266). A check is an offset, its condition and
whether its field is reserved. -/
def firstFault (l : List (Nat × Bool × Bool)) : Option (Nat × Bool) := (l.find? fun x => !x.2.1).map fun x => (x.1, x.2.2)

/-- A check of a value's range. -/
def ranged (off : Nat) (good : Bool) : Nat × Bool × Bool := (off, good, false)

/-- A check of a reserved field of `n` bytes. -/
def reservedAt (c : Bytes) (off n : Nat) : Nat × Bool × Bool := (off, (List.range n).all fun k => u8 c (off + k) == 0, true)

/-- A network station's CONFIG content (R380, R395). -/
def networkFault (c : Bytes) : Option (Nat × Bool) :=
  let n := u8 c 2
  firstFault ([ranged 2 (decide (1 ≤ n) && decide (n ≤ 64)), ranged 2 (c.length == 8 + 8 * n), ranged 3 (decide (1 ≤ u8 c 3) && decide (u8 c 3 ≤ 15)),
      ranged 4 (decide (u8 c 4 ≤ 15)), reservedAt c 5 3] ++
    (List.range (min n 64)).flatMap fun i =>
      let o := 8 + 8 * i
      [ranged o (decide (u8 c o ≤ 63) && decide (u8 c (o + 1) ≤ 1) && decide (u8 c (o + 2) ≤ 2) &&
          (i == 0 || decide (u8 c (o - 8) < u8 c o)) && (u8 c (o + 1) == 1 || u8 c (o + 2) == 0)),
       reservedAt c (o + 3) 1, ranged o (u8 c (o + 1) == 1 || (u16 c (o + 4) == 0 && u16 c (o + 6) == 0))])

/-- A serial station's block (R780). -/
def serialFault (c : Bytes) : Option (Nat × Bool) :=
  let polls := u8 c 12
  let n := u8 c 13
  let modbus := u8 c 5 == 1
  let fn (p : Nat) : Nat := u8 c (17 + 8 * p)
  let write (p : Nat) : Bool := fn p == 6 || fn p == 16
  firstFault ([ranged 0 (decide (300 ≤ u32 c 0) && decide (u32 c 0 ≤ 10000000)), ranged 4 (decide (u8 c 4 % 4 ≤ 2) && decide (u8 c 4 < 16)),
      ranged 5 (decide (1 ≤ u8 c 5) && decide (u8 c 5 ≤ 2)), ranged 6 (decide (u8 c 6 ≤ 1)), ranged 7 (decide (u8 c 7 ≤ 15)),
      ranged 8 (!modbus || (decide (5 ≤ u16 c 8) && decide (u16 c 8 ≤ 1000))), ranged 10 (decide (50 ≤ u16 c 10) && decide (u16 c 10 ≤ 60000)),
      ranged 12 (if modbus then decide (1 ≤ polls) && decide (polls ≤ 64) else polls == 0), ranged 13 (decide (1 ≤ n) && decide (n ≤ 64)),
      reservedAt c 14 2, ranged 13 (c.length == (if modbus then 16 + 8 * polls + 8 * n else 16 + 12 * n))] ++
    (if modbus then
      ((List.range polls).flatMap fun p =>
        let o := 16 + 8 * p
        [ranged o (decide (1 ≤ u8 c o) && decide (u8 c o ≤ 247) && [3, 4, 6, 16].contains (fn p) && decide (1 ≤ u8 c (o + 4)) &&
          decide (u8 c (o + 4) ≤ 32) && (fn p != 6 || u8 c (o + 4) == 1)), reservedAt c (o + 5) 3]) ++
      ((List.range n).flatMap fun i =>
        let o := 16 + 8 * polls + 8 * i
        [ranged o (decide (u8 c o ≤ 63) && decide (u8 c (o + 1) ≤ 1) && decide (u8 c (o + 2) < polls) &&
          (u8 c (o + 1) == 1) == write (u8 c (o + 2)) && decide (u8 c (o + 3) < u8 c (20 + 8 * u8 c (o + 2))) &&
          decide (u8 c (o + 4) ≤ 1)), reservedAt c (o + 5) 3])
    else (List.range n).flatMap fun i =>
      let o := 16 + 12 * i
      [ranged o (decide (u8 c o ≤ 63) && decide (1 ≤ u8 c (o + 1)) && decide (u8 c (o + 1) ≤ 40) && decide (-3 ≤ toSigned 8 (u8 c (o + 2))) &&
        decide (toSigned 8 (u8 c (o + 2)) ≤ 6)), reservedAt c (o + 3) 1, reservedAt c (o + 9) 3]))

/-- The identifier word of transmit frame `t` and of a point record (Table HPS-4). -/
def canTxId (c : Bytes) (t : Nat) : Nat := u32 c (16 + 8 * t)

/-- A CAN station's block (R776). -/
def canFault (c : Bytes) : Option (Nat × Bool) :=
  let nt := u8 c 12
  let n := u8 c 13
  let po (i : Nat) : Nat := 16 + 8 * nt + 12 * i
  let rx := (((List.range n).filter fun i => u8 c (po i + 5) == 0).map fun i => u32 c (po i) % 1073741824).eraseDups
  firstFault ([ranged 0 (decide (10000 ≤ u32 c 0) && decide (u32 c 0 ≤ 1000000)),
      ranged 4 (u32 c 4 == 0 || (decide (u32 c 0 ≤ u32 c 4) && decide (u32 c 4 ≤ 5000000))),
      ranged 8 (decide (50 ≤ u8 c 8) && decide (u8 c 8 ≤ 90)), ranged 9 (decide (50 ≤ u8 c 9) && decide (u8 c 9 ≤ 90)),
      ranged 10 (decide (10 ≤ u16 c 10) && decide (u16 c 10 ≤ 10000)), ranged 12 (decide (nt ≤ 16)), ranged 13 (decide (1 ≤ n) && decide (n ≤ 64)),
      ranged 14 (decide (u8 c 14 ≤ 15)), reservedAt c 15 1, ranged 13 (c.length == 16 + 8 * nt + 12 * n), ranged 13 (decide (rx.length ≤ 32))] ++
    ((List.range nt).flatMap fun t =>
      let o := 16 + 8 * t
      [ranged o (decide (u8 c (o + 4) ≤ (if u32 c o / 1073741824 % 2 = 1 then 64 else 8))), reservedAt c (o + 5) 3]) ++
    ((List.range n).map fun i =>
      let o := po i
      ranged o (decide (u8 c (o + 4) ≤ 63) && decide (u8 c (o + 5) ≤ 1) && decide (u8 c (o + 6) ≤ 63) && decide (u8 c (o + 7) ≤ 7) &&
        decide (1 ≤ u8 c (o + 8)) && decide (u8 c (o + 8) ≤ 16) && decide (u8 c (o + 9) ≤ 3) &&
        decide (10 ≤ u16 c (o + 10)) && decide (u16 c (o + 10) ≤ 60000) &&
        (u8 c (o + 5) == 0 || (List.range nt).any fun t => canTxId c t % 1073741824 == u32 c o % 1073741824))))

/-- A virtual station's block (R802): `presents` is whether the running design presents the station, `hasOut` whether it has a QC_OUT. -/
def virtualFault (c : Bytes) (presents hasOut : Bool) : Option (Nat × Bool) :=
  let n := u8 c 0
  firstFault ([ranged 0 presents, ranged 0 (decide (1 ≤ n) && decide (n ≤ 64)), ranged 1 (decide (u8 c 1 ≤ 15)), reservedAt c 2 2,
      ranged 0 (c.length == 4 + 2 * n)] ++
    (List.range (min n 64)).map fun i =>
      let o := 4 + 2 * i
      ranged o (decide (u8 c o ≤ 63) && decide (u8 c (o + 1) ≤ 1) && (i == 0 || decide (u8 c (o - 2) < u8 c o)) &&
        (u8 c (o + 1) == 0 || hasOut)))

end Sys2Proof.Machine
end

