-- ==== Sys2Proof/Machine/Crypto.lean ====
section
/-! DEFINITION. CRC-32 (R211), SHA-256, HMAC-SHA-256 (R250) and ECDSA P-256 verification (R142, Table BOT-4). -/

namespace Sys2Proof.Machine

/-- One bit of the reflected CRC-32 of R211. -/
def crcBit (c : Word) : Word := if c.getLsbD 0 then (c >>> 1) ^^^ 0xEDB88320 else c >>> 1

/-- One byte of the reflected CRC-32. -/
def crcByte (c : Word) (b : Byte) : Word :=
  crcBit (crcBit (crcBit (crcBit (crcBit (crcBit (crcBit (crcBit (c ^^^ b.setWidth 32))))))))

/-- CRC-32 with the IEEE 802.3 polynomial in reflected form, initial value and final XOR all ones (R211). -/
def crc32 (b : Bytes) : Word := ~~~ b.foldl crcByte 0xFFFFFFFF

/-- The first 64 primes. -/
def shaPrimes : List Nat :=
  (List.range 312).filter fun n => 2 ≤ n && (List.range n).all fun d => d < 2 || n % d != 0

/-- The greatest number whose power `e` is at most `x`, found bit by bit from bit `i - 1` above `acc`. -/
def rootBelow (e x : Nat) : Nat → Nat → Nat
  | 0, acc => acc
  | i + 1, acc => rootBelow e x i (if (acc + 2 ^ i) ^ e ≤ x then acc + 2 ^ i else acc)

/-- The first 32 bits of the fractional part of the root of exponent `e` of `n`: SHA-256 (named by R250) takes its constants from such roots of primes. -/
def rootFraction (e n : Nat) : Nat := rootBelow e (n * 2 ^ (32 * e)) 40 0 % 2 ^ 32

/-- The constants of the rounds: cube roots of the first 64 primes. -/
def shaK : List Nat := shaPrimes.map (rootFraction 3)

/-- The eight working words of SHA-256. -/
structure Sha where
  a : Word
  b : Word
  c : Word
  d : Word
  e : Word
  f : Word
  g : Word
  h : Word
deriving DecidableEq, Repr

/-- The initial hash value of SHA-256: square roots of the first eight primes. -/
def Sha.init : Sha :=
  let r (i : Nat) : Word := BitVec.ofNat 32 (rootFraction 2 (shaPrimes.getD i 0))
  ⟨r 0, r 1, r 2, r 3, r 4, r 5, r 6, r 7⟩

/-- One round of the SHA-256 compression. -/
def Sha.round (s : Sha) (k w : Word) : Sha :=
  let s1 := s.e.rotateRight 6 ^^^ s.e.rotateRight 11 ^^^ s.e.rotateRight 25
  let ch := (s.e &&& s.f) ^^^ (~~~ s.e &&& s.g)
  let t1 := s.h + s1 + ch + k + w
  let s0 := s.a.rotateRight 2 ^^^ s.a.rotateRight 13 ^^^ s.a.rotateRight 22
  let maj := (s.a &&& s.b) ^^^ (s.a &&& s.c) ^^^ (s.b &&& s.c)
  ⟨t1 + (s0 + maj), s.a, s.b, s.c, s.d + t1, s.e, s.f, s.g⟩

/-- The next word of the message schedule from the sixteen before it, oldest first. -/
def shaNextW (w : List Word) : Word :=
  let x := w.getD 1 0
  let y := w.getD 14 0
  let s0 := x.rotateRight 7 ^^^ x.rotateRight 18 ^^^ x >>> 3
  let s1 := y.rotateRight 17 ^^^ y.rotateRight 19 ^^^ y >>> 10
  w.getD 0 0 + s0 + w.getD 9 0 + s1

/-- The rounds of one block over the round constants; `w` holds the next sixteen schedule words. -/
def shaRounds : List Nat → List Word → Sha → Sha
  | [], _, s => s
  | k :: ks, w, s => shaRounds ks (w.drop 1 ++ [shaNextW w]) (s.round (BitVec.ofNat 32 k) (w.getD 0 0))

/-- A big-endian word. -/
def beWord (b : Bytes) (i : Nat) : Word :=
  BitVec.ofNat 32 (u8 b i * 16777216 + u8 b (i + 1) * 65536 + u8 b (i + 2) * 256 + u8 b (i + 3))

/-- The compression of one 64-byte block. -/
def shaBlock (s : Sha) (blk : Bytes) : Sha :=
  let t := shaRounds shaK ((List.range 16).map fun i => beWord blk (4 * i)) s
  ⟨s.a + t.a, s.b + t.b, s.c + t.c, s.d + t.d, s.e + t.e, s.f + t.f, s.g + t.g, s.h + t.h⟩

/-- The blocks of a padded message; `n` counts the blocks left. -/
def shaBlocks : Nat → Bytes → Sha → Sha
  | 0, _, s => s
  | n + 1, b, s => shaBlocks n (b.drop 64) (shaBlock s (b.take 64))

/-- `n` big-endian bytes. -/
def beBytes (n v : Nat) : Bytes := (leBytes n v).reverse

/-- The number that a big-endian string spells. -/
def ofBe (b : Bytes) : Nat := ofLe b.reverse

/-- SHA-256 of a string. -/
def sha256 (b : Bytes) : Bytes :=
  let padded := b ++ [0x80] ++ zeros ((119 - b.length % 64) % 64) ++ beBytes 8 (8 * b.length)
  let s := shaBlocks (padded.length / 64) padded Sha.init
  [s.a, s.b, s.c, s.d, s.e, s.f, s.g, s.h].flatMap fun w => beBytes 4 w.toNat

/-- HMAC-SHA-256 (R250). Keys longer than a block do not occur: every key here has 32 bytes. -/
def hmac (key msg : Bytes) : Bytes :=
  let k := (key ++ zeros 64).take 64
  sha256 ((k.map fun x => x ^^^ 0x5C) ++ sha256 ((k.map fun x => x ^^^ 0x36) ++ msg))

/-- The field prime of P-256. -/
def p256P : Nat := 0xFFFFFFFF00000001000000000000000000000000FFFFFFFFFFFFFFFFFFFFFFFF
/-- The group order of P-256. -/
def p256N : Nat := 0xFFFFFFFF00000000FFFFFFFFFFFFFFFFBCE6FAADA7179E84F3B9CAC2FC632551
/-- The curve coefficient b of P-256. -/
def p256B : Nat := 0x5AC635D8AA3A93E7B3EBBD55769886BC651D06B0CC53B0F63BCE3C3E27D2604B
/-- The base point of P-256. -/
def p256G : Nat × Nat :=
  (0x6B17D1F2E12C4247F8BCE6E563A440F277037D812DEB33A0F4A13945D898C296,
   0x4FE342E2FE1A7F9B8EE7EB4A7C0F9E162BCE33576B315ECECBB6406837BF51F5)

/-- `b ^ e` modulo `m`, by the low `fuel` bits of `e`. -/
def modPow (m : Nat) : Nat → Nat → Nat → Nat
  | 0, _, _ => 1 % m
  | f + 1, b, e => (if e % 2 = 1 then b else 1) * modPow m f (b * b % m) (e / 2) % m

/-- The inverse modulo a prime. -/
def modInv (m x : Nat) : Nat := modPow m 256 (x % m) (m - 2)

/-- The sum of two points of P-256; `none` is the point at infinity. -/
def ecAdd (a b : Option (Nat × Nat)) : Option (Nat × Nat) :=
  match a, b with
  | none, q => q
  | q, none => q
  | some (x1, y1), some (x2, y2) =>
    if x1 = x2 && (y1 + y2) % p256P = 0 then none
    else
      let l := if x1 = x2 then (3 * x1 * x1 + (p256P - 3)) * modInv p256P (2 * y1) % p256P
               else (y2 + p256P - y1) * modInv p256P (x2 + p256P - x1) % p256P
      let x3 := (l * l + 2 * p256P - x1 - x2) % p256P
      some (x3, (l * (x1 + p256P - x3) + p256P - y1) % p256P)

/-- A multiple of a point, by the low `fuel` bits of the factor. -/
def ecMul : Nat → Nat → Option (Nat × Nat) → Option (Nat × Nat)
  | 0, _, _ => none
  | f + 1, k, p => ecAdd (if k % 2 = 1 then p else none) (ecMul f (k / 2) (ecAdd p p))

/-- ECDSA P-256 verification over SHA-256 of `msg`; signature and key are big-endian pairs of 32 bytes (R142). -/
def ecdsaVerify (key sig msg : Bytes) : Bool :=
  let x := ofBe (key.take 32)
  let y := ofBe (slice key 32 32)
  let r := ofBe (sig.take 32)
  let s := ofBe (slice sig 32 32)
  if x < p256P && y < p256P && (y * y % p256P == (x * x * x + (p256P - 3) * x + p256B) % p256P)
      && 0 < r && r < p256N && 0 < s && s < p256N then
    let e := ofBe (sha256 msg)
    let w := modInv p256N s
    match ecAdd (ecMul 256 (e * w % p256N) (some p256G)) (ecMul 256 (r * w % p256N) (some (x, y))) with
    | some (px, _) => px % p256N == r
    | none => false
  else false

end Sys2Proof.Machine
end

