-- ==== Sys2Proof/Config.lean ====
section
/-! DEFINITION. The values that the spec leaves open: constants without a body, so that nothing can evaluate them. -/

namespace Sys2Proof.Config

/-- A fresh value that the spec does not state, numbered by the counter `State.freeCtr` that each use advances.
It stands for undefined results, for the device's own random source and for unstated numbers; the assumption log names each use. -/
opaque freeWord : Nat → BitVec 64

/-- Whether a conditional Harbourmaster branch is taken, from its COND and HSR: the spec names the field and lists no codes (log entry 12). -/
opaque hmCond : BitVec 4 → BitVec 32 → Bool

/-- What a branch displacement counts from, in words from the branch's own address: the spec gives displacements and no base (log entry 12). -/
opaque branchBase : BitVec 32

/-- The result of an ordinary Harbourmaster ALU instruction that the spec does not list by opcode (log entry 13). -/
opaque hmAlu : BitVec 7 → BitVec 10 → BitVec 32 → BitVec 32 → BitVec 32

/-- The Pilot ROM word at a micro-address: the mask ROM contents are not in the spec (log entry 14). -/
opaque pilotRom : Nat → BitVec 112

/-- The state of a Slipway design after one user clock: the design is the user's and the spec gives only its interface. -/
opaque designShadow : Nat → Nat → BitVec 32

/-- The worst-case Plain cycles of limits and interlocks for a number of armed channels (log entry 7). -/
opaque limitsCost : Nat → Nat

/-- The full worst-case Plain cycles of a hydrostatics pass for a number of tanks and of sections (log entry 7). -/
opaque hydroCost : Nat → Nat → Nat

/-- Whether the table store of the staging model has no room for that many bytes (R291, log entry 184). -/
opaque tableStoreFull : Nat → Bool

/-- A byte of a flash sector whose erase was cut short (R91): the sector is partly erased, from the index of the cut and the address. -/
opaque doubtByte : Nat → Nat → BitVec 8

/-- X, Y, C, T and NB of an element after a macro-instruction: its routine leaves them at values that the spec does not state (R537);
from the index of the instruction's free value and the element number. -/
opaque plainLeft : Nat → Nat → BitVec 5

/-- IX of an element after DIV or REM, which change it (R537). -/
opaque plainIx : Nat → Nat → BitVec 13

/-- The scratch bits that DIV, REM, SMUL and TLERP overwrite in an element (R537). -/
opaque plainScratch : Nat → Nat → BitVec 380

/-- Whether the routine of an OPCODE steps an address register downward: each routine's dispatch micro-word sets the steps, and the
micro-word's layout has no field for them (R499). -/
opaque pilotDown : Nat → Nat → Bool

/-- IX after one bit is shifted in by a micro-word: the spec does not say at which end the bit enters (R497). -/
opaque ixShift : BitVec 13 → Bool → BitVec 13

/-- The code of the phase UNLOAD in a PHASE_DONE notice, which the spec does not state (R497). -/
opaque unloadPhase : Nat

/-- The flags C and V after a scalar shift: the spec names the flags and not their meaning there (R506). -/
opaque shiftFlags : BitVec 32 → BitVec 16 → Bool × Bool

/-- C after a scalar subtraction, from whether it borrows (R506). -/
opaque subCarry : Bool → Bool

/-- A byte of the Boot ROM, whose contents are the part's own. -/
opaque bootRom : Nat → BitVec 8

/-- What the design in the Slipway answers in its register window: whether it answers within 1,024 SYS cycles, and the word, from the
design's number, the address and the index of the access's free value; the design is the user's. -/
opaque designWindow : Nat → Nat → Nat → Option (BitVec 32)

/-- Whether a physical row of element memory holds hydrostatics storage or tables, by address: the Harbour firmware's own layout within the
table and scratch regions of Table PLN-2, which the spec does not give. -/
opaque hydroRow : Nat → Bool

/-- Which of the four fields of a Fairway node of field control an address names, modulo 4: the spec does not give those registers. -/
opaque fieldControl : Nat → Nat

/-- Bytes of Basin 1 that the Harbour firmware's own programs take, which the spec does not state. -/
opaque harbourCode : Nat

/-- A bit that the Harbour firmware rewrites after an uncorrectable error in a state or table row: Basin 3 and the master copies hold it, in
the firmware's own layout (R484); from the index of a free value, the element and the address. -/
opaque masterBit : Nat → Nat → Nat → Bool

/-- An entry of the 128-entry reciprocal table in element memory, of which the Harbour firmware holds the master copy (R526, R561). -/
opaque recipSeed : Nat → BitVec 8

/-- Whether an offset is the last word of the Slipway's configuration memory, whose size the spec does not give. -/
opaque slipLastWord : Nat → Bool

/-- An octet of a frame that the device sends for which the spec states no value, by its place: 0 to 4 of the IPv4 header (type of service,
identification, the octet of DF, time to live), 16 to 18 of a PTP message (the UTC offset, the time source). -/
opaque frameByte : Nat → BitVec 8

/-- The quotient of a division by a displacement of 0, which U40 can wrap to (R425, R433) and for which the spec states no result. -/
opaque zeroQuotient : Int → Int

/-- The value of a RATE channel in its first cycle, when no term 0 of a committed cycle exists (R351), by the cycle number. -/
opaque firstRate : Nat → Int

/-- The model input of a channel whose station has confirmed no application yet (R363), by the cycle number. -/
opaque unconfirmed : Nat → Int

/-- What a record of limits reports where no margin is computed: the set is not complete, or no section is checked, or a section is not (R440,
R442 state no value there); by the publishing cycle and the field, numbered from 0 for GM_MARGIN_MM, the two worst sections, their two
margins, then two for each section. -/
opaque uncheckedMargin : Nat → Nat → BitVec 32

end Sys2Proof.Config
end

