-- ==== Sys2Proof/Machine/Store.lean ====
section
/-! DEFINITION. Keyed stores in one canonical form (keys strictly rising) and byte memory over them. -/

namespace Sys2Proof.Machine

/-- A store: pairs of a key and a value, keys strictly rising (`Store.sorted`). -/
abbrev Store (α : Type) := List (Nat × α)

/-- The value that a store holds under a key. -/
def Store.find? {α : Type} : Store α → Nat → Option α
  | [], _ => none
  | (a, v) :: r, k => if a = k then some v else Store.find? r k

/-- The value under a key, or the value that an unlisted key reads as. -/
def Store.get {α : Type} (m : Store α) (k : Nat) (d : α) : α := (Store.find? m k).getD d

/-- The store with the key's pair set; the order of keys is kept. -/
def Store.insert {α : Type} : Store α → Nat → α → Store α
  | [], k, v => [(k, v)]
  | (a, w) :: r, k, v =>
    if k < a then (k, v) :: (a, w) :: r
    else if k = a then (k, v) :: r
    else (a, w) :: Store.insert r k v

/-- The store with no pair under the key. -/
def Store.erase {α : Type} (m : Store α) (k : Nat) : Store α := m.filter fun p => p.1 != k

/-- Writes `v`; a pair equal to what an unlisted key reads as is not kept, so that equal contents are equal data. -/
def Store.set {α : Type} [DecidableEq α] (m : Store α) (k : Nat) (v d : α) : Store α :=
  if v = d then Store.erase m k else Store.insert m k v

/-- Replaces the value under a key by a function of it, where the key is listed. -/
def Store.modify {α : Type} (m : Store α) (k : Nat) (f : α → α) : Store α :=
  m.map fun p => if p.1 = k then (p.1, f p.2) else p

/-- Applies a function of key and value to every pair. -/
def Store.mapKV {α β : Type} (m : Store α) (f : Nat → α → β) : Store β := m.map fun p => (p.1, f p.1 p.2)

/-- Keys strictly rising. -/
def Store.sorted {α : Type} : Store α → Bool
  | [] => true
  | [_] => true
  | (a, _) :: (b, w) :: r => decide (a < b) && Store.sorted ((b, w) :: r)

/-- Byte memory: an unlisted address reads as 0 (R139 and R462 clear the memories; log entry 2 for the others). -/
abbrev Memory := Store Byte

/-- What an address that no pair lists reads as. -/
def Memory.unlisted : Byte := 0

/-- The canonical form: addresses strictly rising and no pair equal to what an unlisted address reads as. -/
def Memory.wf (m : Memory) : Bool := Store.sorted m && m.all fun p => p.2 != Memory.unlisted

/-- One byte of memory. -/
def Memory.read (m : Memory) (a : Nat) : Byte := Store.get m a Memory.unlisted

/-- One byte written. -/
def Memory.write (m : Memory) (a : Nat) (b : Byte) : Memory := Store.set m a b Memory.unlisted

/-- `n` bytes from `a` upward. -/
def Memory.readBytes (m : Memory) (a : Nat) : Nat → Bytes
  | 0 => []
  | n + 1 => Memory.read m a :: Memory.readBytes m (a + 1) n

/-- A string of bytes stored from `a` upward, first byte lowest (R5). -/
def Memory.writeBytes (m : Memory) (a : Nat) : Bytes → Memory
  | [] => m
  | b :: r => Memory.writeBytes (Memory.write m a b) (a + 1) r

/-- The byte range set to zero. -/
def Memory.clear (m : Memory) (lo n : Nat) : Memory := m.filter fun p => !(decide (lo ≤ p.1) && decide (p.1 < lo + n))

end Sys2Proof.Machine
end

