-- ==== Sys2Proof/Machine/RegMap.lean ====
section
/-! DEFINITION. The register map: every register of the spec's register tables, with its address, its fields and their
access type (Table SCP-3), write class (Table SCP-4) and reset value. Written from the register tables of chapters 03 to 25. -/

namespace Sys2Proof.Machine

/-- The access types of Table SCP-3 (R6). -/
inductive Access where
  | rw | ro | w1c | wo | rwg
deriving DecidableEq, Repr

/-- The write classes of Table SCP-4 (R7). -/
inductive WriteClass where
  | i | g | q
deriving DecidableEq, Repr

/-- A field: bits `hi:lo`, access type, write class, reset value. -/
structure RegField where
  hi : Nat
  lo : Nat
  access : Access
  cls : WriteClass
  reset : Nat
deriving DecidableEq, Repr

/-- A row of the map: `count` registers of one layout, `stride` bytes apart from `base`. -/
structure RegRow where
  base : Nat
  count : Nat
  stride : Nat
  fields : List RegField
deriving DecidableEq, Repr

namespace Reg

def sysctlRemap : Nat := 0x40000000
def sysctlResetCause : Nat := 0x40000004
def sysctlStraps : Nat := 0x40000008
def sysctlBootStatus : Nat := 0x4000000C
def sysctlBootTries : Nat := 0x40000010
def sysctlSwreset : Nat := 0x40000014
def sysctlIdcode : Nat := 0x40000018
def sysctlPlainFail : Nat := 0x4000001C
def supmonCtrl : Nat := 0x40010000
def supmonSenseThr : Nat := 0x40010004
def supmonFilter : Nat := 0x40010008
def supmonStatus : Nat := 0x40010010
def supmonEvents : Nat := 0x40010014
def supmonIrqEn : Nat := 0x40010018
def supmonResetSrc : Nat := 0x4001001C
def supmonAonStatus : Nat := 0x40010020
def supmonSenseMv : Nat := 0x40010024
def clkgenCtrl : Nat := 0x40020000
def clkgenTimeCfg : Nat := 0x40020004
def clkgenMonEn : Nat := 0x40020008
def clkgenStatus : Nat := 0x40020010
def clkgenLoss : Nat := 0x40020014
def clkgenIrqEn : Nat := 0x40020018
def clkgenTimePpm : Nat := 0x4002001C
def clkgenDcqDrop : Nat := 0x40020020
def pilotCtrl : Nat := 0x40030000
def pilotStatus : Nat := 0x40030004
def pilotTrapPend : Nat := 0x40030008
def pilotFault : Nat := 0x4003000C
def pilotDeadline : Nat := 0x40030010
def pilotDlLeft : Nat := 0x40030014
def pilotWatch : Nat := 0x40030018
def pilotProgBase : Nat := 0x4003001C
def pilotMboxHm : Nat := 0x40030020
def pilotMboxPilot : Nat := 0x40030028
def pilotSave : Nat := 0x40030100
def pilotUeVec : Nat := 0x40030180
def pilotUeAddr : Nat := 0x400301A0
def pilotMatch : Nat := 0x40030200
def pilotPramAddr : Nat := 0x40030300
def pilotPramData : Nat := 0x40030304
def quayCtrl : Nat := 0x40040000
def quayLdPtr : Nat := 0x40040004
def quayUlPtr : Nat := 0x40040008
def quayJobPtr : Nat := 0x4004000C
def quayStatus : Nat := 0x40040010
def quayEvents : Nat := 0x40040014
def quayIrqEn : Nat := 0x40040018
def quayLdTime : Nat := 0x4004001C
def quayUlTime : Nat := 0x40040020
def quayBusyCnt : Nat := 0x40040024
def quayErrInfo : Nat := 0x40040028
def fairwayTimeout : Nat := 0x40050000
def fairwayQosLo : Nat := 0x40050040
def fairwayQosHi : Nat := 0x40050044
def fairwayFence : Nat := 0x40050050
def fairwayEvents : Nat := 0x40050054
def fairwayIrqEn : Nat := 0x40050058
def fairwayClear : Nat := 0x4005005C
def fairwayLastErr : Nat := 0x40050060
def fairwayCntA : Nat := 0x40050100
def fairwayCntB : Nat := 0x40050104
def fairwayCntC : Nat := 0x40050108
def fairwayState : Nat := 0x4005010C
def fairwayTraceMatch : Nat := 0x40050200
def fairwayTraceData : Nat := 0x40050204
def matrixQos : Nat := 0x40060000
def matrixPolicy : Nat := 0x40060004
def matrixErrStatus : Nat := 0x40060010
def matrixErrAddr : Nat := 0x40060014
def matrixErrInfo : Nat := 0x40060018
def matrixOutstanding : Nat := 0x40060020
def matrixDmaSrc : Nat := 0x40060100
def matrixDmaDst : Nat := 0x40060104
def matrixDmaLen : Nat := 0x40060108
def matrixDmaCtrl : Nat := 0x4006010C
def matrixDmaStatus : Nat := 0x40060110
def matrixDmaErraddr : Nat := 0x40060114
def basinctlPwr : Nat := 0x40070000
def basinctlPwrStatus : Nat := 0x40070004
def basinctlPrecedence : Nat := 0x40070008
def basinctlColl : Nat := 0x40070010
def basinctlEcc : Nat := 0x40070020
def basinctlUeAddr : Nat := 0x40070040
def basinctlEvents : Nat := 0x40070048
def basinctlIrqEn : Nat := 0x4007004C
def basinctlClear : Nat := 0x40070050
def ethCtrl : Nat := 0x40080000
def ethStatus : Nat := 0x40080004
def ethMacLo : Nat := 0x40080008
def ethMacHi : Nat := 0x4008000C
def ethIpAddr : Nat := 0x40080010
def ethVidA : Nat := 0x40080014
def ethVidB : Nat := 0x40080018
def ethVlanCfg : Nat := 0x4008001C
def ethMdioCmd : Nat := 0x40080020
def ethMdioData : Nat := 0x40080024
def ethEvents : Nat := 0x40080030
def ethIrqEn : Nat := 0x40080034
def eth0RxRingBase : Nat := 0x40080040
def eth0RxRingCfg : Nat := 0x40080044
def eth0RxKick : Nat := 0x40080048
def eth0RxHead : Nat := 0x4008004C
def eth0TxRingBase : Nat := 0x40080080
def eth0TxRingCfg : Nat := 0x40080084
def eth0TxKick : Nat := 0x40080088
def eth0TxHead : Nat := 0x4008008C
def eth0Cnt : Nat := 0x40080100
def ethTsLat : Nat := 0x40080180
def ethTlDiscard : Nat := 0x40080184
def ethCntClear : Nat := 0x400801FC
def eth1RxRingBase : Nat := 0x40090040
def eth1RxRingCfg : Nat := 0x40090044
def eth1RxKick : Nat := 0x40090048
def eth1RxHead : Nat := 0x4009004C
def eth1TxRingBase : Nat := 0x40090080
def eth1TxRingCfg : Nat := 0x40090084
def eth1TxKick : Nat := 0x40090088
def eth1TxHead : Nat := 0x4009008C
def eth1Cnt : Nat := 0x40090100
def ptpTimeSecLo : Nat := 0x400A0000
def ptpTimeSecHi : Nat := 0x400A0004
def ptpTimeNs : Nat := 0x400A0008
def ptpTimeUsLo : Nat := 0x400A000C
def ptpTimeUsHi : Nat := 0x400A0010
def ptpAddend : Nat := 0x400A0020
def ptpStepSec : Nat := 0x400A0024
def ptpStepNs : Nat := 0x400A0028
def ptpStep : Nat := 0x400A002C
def ptpEvents : Nat := 0x400A0030
def ptpIrqEn : Nat := 0x400A0034
def canCtrl : Nat := 0x400B0000
def canTiming : Nat := 0x400B0004
def uartCtrl : Nat := 0x400C0000
def uartBaud : Nat := 0x400C0004
def uartErrors : Nat := 0x400C0008
def pcieOutBaseLo : Nat := 0x400D0000
def pcieOutBaseHi : Nat := 0x400D0004
def pcieStatus : Nat := 0x400D0008
def qspiCtrl : Nat := 0x400E0000
def slipctlStatus : Nat := 0x400F0000
def slipctlEvents : Nat := 0x400F0004
def slipctlIrqEn : Nat := 0x400F0008
def slipctlApply : Nat := 0x400F000C
def slipctlCapture : Nat := 0x400F0010
def slipctlShadowAddr : Nat := 0x400F0014
def slipctlShadowData : Nat := 0x400F0018
def slipctlCounts : Nat := 0x400F001C
def slipctlWinTo : Nat := 0x400F0020
def slipctlQcCfg : Nat := 0x400F0100
def slipctlQcBase : Nat := 0x400F0104
def slipctlQcSize : Nat := 0x400F0108
def slipctlQcStatus : Nat := 0x400F010C
def scrubCtrl : Nat := 0x40100000
def scrubPlainCfg : Nat := 0x40100004
def scrubPlainPos : Nat := 0x40100008
def scrubInterval : Nat := 0x40100010
def scrubInterval4 : Nat := 0x40100020
def scrubPlainCnt : Nat := 0x40100024
def scrubSweeps : Nat := 0x40100028
def scrubEvents : Nat := 0x40100040
def scrubIrqEn : Nat := 0x40100044
def scrubClear : Nat := 0x40100048
def bbrStatus : Nat := 0x40110000
def bbrHead : Nat := 0x40110004
def bbrTrigger : Nat := 0x40110008
def bbrTriggerCycle : Nat := 0x4011000C
def bbrPost : Nat := 0x40110010
def bbrWritten : Nat := 0x40110014
def bbrDropped : Nat := 0x40110018
def bbrRtcS : Nat := 0x4011001C
def bbrRtcSet : Nat := 0x40110020
def bbrAnchorS : Nat := 0x40110024
def bbrRelease : Nat := 0x40110028
def bbrEvents : Nat := 0x4011002C
def bbrIrqEn : Nat := 0x40110030
def reclaimStatus : Nat := 0x40120000
def reclaimFenced : Nat := 0x40120004
def reclaimUnfence : Nat := 0x40120008
def reclaimEvents : Nat := 0x4012000C
def reclaimIrqEn : Nat := 0x40120010
def reclaimLast : Nat := 0x40120014
def reclaimCount : Nat := 0x40120018
def tempCtrl : Nat := 0x40130000
def tempMax : Nat := 0x40130004
def tempOffset : Nat := 0x40130008
def tempSensor : Nat := 0x40130010
def tempEvents : Nat := 0x40130030
def tempIrqEn : Nat := 0x40130034
def otpStatus : Nat := 0x40140000
def otpConfig : Nat := 0x40140004
def otpKeyState : Nat := 0x40140008
def otpRollback : Nat := 0x4014000C
def otpProgAddr : Nat := 0x40140010
def otpProgData : Nat := 0x40140014
def otpProgCmd : Nat := 0x40140018
def otpKeyHash : Nat := 0x40140100
def hspiCount : Nat := 0x40150000
def timerWdtCtrl : Nat := 0x40160000
def timerWdtMax : Nat := 0x40160004
def timerWdtMin : Nat := 0x40160008
def timerWdtService : Nat := 0x4016000C
def timerWdtStatus : Nat := 0x40160010
def timerMarkCmp : Nat := 0x40160020
def timerEvents : Nat := 0x40160030
def timerIrqEn : Nat := 0x40160034
def timerSyscntLo : Nat := 0x40160038
def timerSyscntHi : Nat := 0x4016003C
def intcLevel : Nat := 0x40170000
def intcPend : Nat := 0x40170020
def intcClaim : Nat := 0x40170028
def intcComplete : Nat := 0x4017002C
def intcSoft : Nat := 0x40170030
def intcInservice : Nat := 0x40170034
def slipctlLane : Nat := 0x600F0200

end Reg

def regRows0 : List RegRow := [
  ⟨Reg.sysctlRemap, 1, 0x4, [⟨0, 0, .rwg, .g, 0⟩]⟩,
  ⟨Reg.sysctlResetCause, 1, 0x4, [⟨3, 0, .ro, .i, 1⟩, ⟨16, 8, .w1c, .i, 1⟩]⟩,
  ⟨Reg.sysctlStraps, 1, 0x4, [⟨1, 0, .ro, .i, 0⟩, ⟨2, 2, .ro, .i, 0⟩]⟩,
  ⟨Reg.sysctlBootStatus, 1, 0x4, [⟨1, 0, .rw, .i, 0⟩, ⟨7, 4, .rw, .i, 0⟩, ⟨11, 8, .rw, .i, 0⟩, ⟨12, 12, .rw, .i, 0⟩, ⟨13, 13, .rw, .i, 0⟩, ⟨14, 14, .rw, .i, 0⟩, ⟨15, 15, .rw, .i, 0⟩, ⟨16, 16, .ro, .i, 0⟩, ⟨17, 17, .rw, .i, 0⟩]⟩,
  ⟨Reg.sysctlBootTries, 1, 0x4, [⟨1, 0, .rwg, .i, 0⟩, ⟨3, 2, .rwg, .i, 0⟩]⟩,
  ⟨Reg.sysctlSwreset, 1, 0x4, [⟨0, 0, .rwg, .i, 0⟩]⟩,
  ⟨Reg.sysctlIdcode, 1, 0x4, [⟨31, 0, .ro, .i, 722864101⟩]⟩,
  ⟨Reg.sysctlPlainFail, 1, 0x4, [⟨15, 0, .ro, .i, 0⟩]⟩,
  ⟨Reg.supmonCtrl, 1, 0x4, [⟨0, 0, .rwg, .i, 1⟩, ⟨1, 1, .rwg, .i, 1⟩]⟩,
  ⟨Reg.supmonSenseThr, 1, 0x4, [⟨10, 0, .rwg, .g, 600⟩]⟩,
  ⟨Reg.supmonFilter, 1, 0x4, [⟨4, 0, .rwg, .g, 7⟩]⟩,
  ⟨Reg.supmonStatus, 1, 0x4, [⟨0, 0, .ro, .i, 0⟩, ⟨1, 1, .ro, .i, 0⟩, ⟨2, 2, .ro, .i, 0⟩, ⟨3, 3, .ro, .i, 0⟩, ⟨4, 4, .ro, .i, 0⟩]⟩]

def regRows1 : List RegRow := [
  ⟨Reg.supmonEvents, 1, 0x4, [⟨0, 0, .w1c, .i, 0⟩, ⟨1, 1, .w1c, .i, 0⟩, ⟨2, 2, .w1c, .i, 0⟩]⟩,
  ⟨Reg.supmonIrqEn, 1, 0x4, [⟨2, 0, .rw, .i, 0⟩]⟩,
  ⟨Reg.supmonResetSrc, 1, 0x4, [⟨0, 0, .w1c, .i, 0⟩, ⟨1, 1, .w1c, .i, 0⟩, ⟨2, 2, .w1c, .i, 0⟩]⟩,
  ⟨Reg.supmonAonStatus, 1, 0x4, [⟨0, 0, .ro, .i, 0⟩, ⟨1, 1, .ro, .i, 0⟩, ⟨2, 2, .w1c, .i, 1⟩, ⟨31, 16, .ro, .i, 0⟩]⟩,
  ⟨Reg.supmonSenseMv, 1, 0x4, [⟨11, 0, .ro, .i, 0⟩]⟩,
  ⟨Reg.clkgenCtrl, 1, 0x4, [⟨0, 0, .rwg, .g, 0⟩]⟩,
  ⟨Reg.clkgenTimeCfg, 1, 0x4, [⟨0, 0, .rwg, .g, 0⟩, ⟨1, 1, .rwg, .i, 0⟩]⟩,
  ⟨Reg.clkgenMonEn, 1, 0x4, [⟨0, 0, .rw, .i, 0⟩, ⟨1, 1, .rw, .i, 0⟩, ⟨2, 2, .rw, .i, 0⟩, ⟨6, 3, .rw, .i, 0⟩]⟩,
  ⟨Reg.clkgenStatus, 1, 0x4, [⟨0, 0, .ro, .i, 0⟩, ⟨1, 1, .ro, .i, 0⟩, ⟨2, 2, .ro, .i, 0⟩, ⟨3, 3, .ro, .i, 1⟩, ⟨4, 4, .ro, .i, 0⟩, ⟨5, 5, .ro, .i, 0⟩, ⟨6, 6, .ro, .i, 0⟩, ⟨7, 7, .ro, .i, 0⟩, ⟨11, 8, .ro, .i, 0⟩, ⟨12, 12, .ro, .i, 0⟩, ⟨13, 13, .ro, .i, 0⟩]⟩,
  ⟨Reg.clkgenLoss, 1, 0x4, [⟨0, 0, .w1c, .i, 0⟩, ⟨2, 2, .w1c, .i, 0⟩, ⟨4, 4, .w1c, .i, 0⟩, ⟨5, 5, .w1c, .i, 0⟩, ⟨6, 6, .w1c, .i, 0⟩, ⟨7, 7, .w1c, .i, 0⟩, ⟨11, 8, .w1c, .i, 0⟩, ⟨12, 12, .w1c, .i, 0⟩]⟩,
  ⟨Reg.clkgenIrqEn, 1, 0x4, [⟨12, 0, .rw, .i, 0⟩]⟩,
  ⟨Reg.clkgenTimePpm, 1, 0x4, [⟨15, 0, .ro, .i, 0⟩]⟩]

def regRows2 : List RegRow := [
  ⟨Reg.clkgenDcqDrop, 1, 0x4, [⟨15, 0, .ro, .i, 0⟩, ⟨16, 16, .wo, .i, 0⟩]⟩,
  ⟨Reg.pilotCtrl, 1, 0x4, [⟨0, 0, .wo, .i, 0⟩, ⟨1, 1, .wo, .i, 0⟩, ⟨2, 2, .wo, .i, 0⟩]⟩,
  ⟨Reg.pilotStatus, 1, 0x4, [⟨2, 0, .ro, .i, 0⟩, ⟨5, 3, .ro, .i, 0⟩, ⟨6, 6, .ro, .i, 0⟩, ⟨9, 7, .ro, .i, 0⟩, ⟨13, 10, .ro, .i, 0⟩, ⟨28, 14, .ro, .i, 0⟩]⟩,
  ⟨Reg.pilotTrapPend, 1, 0x4, [⟨6, 0, .ro, .i, 0⟩]⟩,
  ⟨Reg.pilotFault, 1, 0x4, [⟨0, 0, .w1c, .i, 0⟩, ⟨1, 1, .w1c, .i, 0⟩, ⟨2, 2, .w1c, .i, 0⟩, ⟨3, 3, .w1c, .i, 0⟩, ⟨4, 4, .w1c, .i, 0⟩, ⟨5, 5, .w1c, .i, 0⟩, ⟨6, 6, .w1c, .i, 0⟩]⟩,
  ⟨Reg.pilotDeadline, 1, 0x4, [⟨17, 0, .rw, .i, 0⟩]⟩,
  ⟨Reg.pilotDlLeft, 1, 0x4, [⟨31, 0, .ro, .i, 0⟩]⟩,
  ⟨Reg.pilotWatch, 1, 0x4, [⟨0, 0, .rw, .i, 0⟩]⟩,
  ⟨Reg.pilotProgBase, 1, 0x4, [⟨17, 0, .rw, .i, 0⟩]⟩,
  ⟨Reg.pilotMboxHm, 2, 0x4, [⟨31, 0, .rw, .i, 0⟩]⟩,
  ⟨Reg.pilotMboxPilot, 2, 0x4, [⟨31, 0, .ro, .i, 0⟩]⟩,
  ⟨Reg.pilotSave, 32, 0x4, [⟨31, 0, .ro, .i, 0⟩]⟩]

def regRows3 : List RegRow := [
  ⟨Reg.pilotUeVec, 8, 0x4, [⟨31, 0, .w1c, .i, 0⟩]⟩,
  ⟨Reg.pilotUeAddr, 1, 0x4, [⟨12, 0, .ro, .i, 0⟩]⟩,
  ⟨Reg.pilotMatch, 32, 0x4, [⟨13, 0, .rwg, .q, 0⟩, ⟨24, 16, .rwg, .q, 0⟩, ⟨31, 31, .rwg, .q, 0⟩]⟩,
  ⟨Reg.pilotPramAddr, 1, 0x4, [⟨8, 0, .rw, .i, 0⟩]⟩,
  ⟨Reg.pilotPramData, 4, 0x4, [⟨31, 0, .rw, .i, 0⟩]⟩,
  ⟨Reg.quayCtrl, 1, 0x4, [⟨0, 0, .wo, .i, 0⟩, ⟨1, 1, .wo, .i, 0⟩, ⟨2, 2, .wo, .i, 0⟩]⟩,
  ⟨Reg.quayLdPtr, 1, 0x4, [⟨20, 0, .rwg, .q, 0⟩]⟩,
  ⟨Reg.quayUlPtr, 1, 0x4, [⟨20, 0, .rwg, .q, 0⟩]⟩,
  ⟨Reg.quayJobPtr, 1, 0x4, [⟨20, 0, .rwg, .q, 0⟩]⟩,
  ⟨Reg.quayStatus, 1, 0x4, [⟨2, 0, .ro, .i, 0⟩, ⟨6, 3, .ro, .i, 0⟩, ⟨22, 7, .ro, .i, 0⟩]⟩,
  ⟨Reg.quayEvents, 1, 0x4, [⟨0, 0, .w1c, .i, 0⟩, ⟨1, 1, .w1c, .i, 0⟩, ⟨2, 2, .w1c, .i, 0⟩, ⟨3, 3, .w1c, .i, 0⟩, ⟨4, 4, .w1c, .i, 0⟩, ⟨5, 5, .w1c, .i, 0⟩, ⟨6, 6, .w1c, .i, 0⟩]⟩,
  ⟨Reg.quayIrqEn, 1, 0x4, [⟨6, 0, .rw, .i, 0⟩]⟩]

def regRows4 : List RegRow := [
  ⟨Reg.quayLdTime, 1, 0x4, [⟨31, 0, .ro, .i, 0⟩]⟩,
  ⟨Reg.quayUlTime, 1, 0x4, [⟨31, 0, .ro, .i, 0⟩]⟩,
  ⟨Reg.quayBusyCnt, 1, 0x4, [⟨15, 0, .ro, .i, 0⟩, ⟨30, 16, .ro, .i, 0⟩, ⟨31, 31, .wo, .i, 0⟩]⟩,
  ⟨Reg.quayErrInfo, 1, 0x4, [⟨3, 0, .ro, .i, 0⟩, ⟨19, 4, .ro, .i, 0⟩]⟩,
  ⟨Reg.fairwayTimeout, 16, 0x4, [⟨9, 0, .rw, .i, 8⟩]⟩,
  ⟨Reg.fairwayQosLo, 1, 0x4, [⟨31, 0, .rw, .i, 3264⟩]⟩,
  ⟨Reg.fairwayQosHi, 1, 0x4, [⟨31, 0, .rw, .i, 2103971⟩]⟩,
  ⟨Reg.fairwayFence, 1, 0x4, [⟨15, 0, .ro, .i, 0⟩, ⟨31, 16, .ro, .i, 0⟩]⟩,
  ⟨Reg.fairwayEvents, 1, 0x4, [⟨0, 0, .w1c, .i, 0⟩, ⟨1, 1, .w1c, .i, 0⟩, ⟨2, 2, .w1c, .i, 0⟩, ⟨3, 3, .w1c, .i, 0⟩, ⟨4, 4, .w1c, .i, 0⟩, ⟨5, 5, .w1c, .i, 0⟩, ⟨6, 6, .w1c, .i, 0⟩, ⟨7, 7, .w1c, .i, 0⟩]⟩,
  ⟨Reg.fairwayIrqEn, 1, 0x4, [⟨0, 0, .rw, .i, 0⟩, ⟨1, 1, .rw, .i, 0⟩, ⟨2, 2, .rw, .i, 0⟩, ⟨3, 3, .rw, .i, 0⟩, ⟨4, 4, .rw, .i, 0⟩, ⟨5, 5, .rw, .i, 0⟩, ⟨6, 6, .rw, .i, 0⟩, ⟨7, 7, .rw, .i, 0⟩]⟩,
  ⟨Reg.fairwayClear, 1, 0x4, [⟨0, 0, .wo, .i, 0⟩]⟩,
  ⟨Reg.fairwayLastErr, 1, 0x4, [⟨3, 0, .ro, .i, 0⟩, ⟨7, 4, .ro, .i, 0⟩, ⟨11, 8, .ro, .i, 0⟩, ⟨19, 12, .ro, .i, 0⟩]⟩]

def regRows5 : List RegRow := [
  ⟨Reg.fairwayCntA, 16, 0x10, [⟨31, 0, .ro, .i, 0⟩]⟩,
  ⟨Reg.fairwayCntB, 16, 0x10, [⟨31, 0, .ro, .i, 0⟩]⟩,
  ⟨Reg.fairwayCntC, 16, 0x10, [⟨31, 0, .ro, .i, 0⟩]⟩,
  ⟨Reg.fairwayState, 16, 0x10, [⟨3, 0, .ro, .i, 0⟩, ⟨8, 4, .ro, .i, 0⟩, ⟨9, 9, .ro, .i, 0⟩]⟩,
  ⟨Reg.fairwayTraceMatch, 1, 0x4, [⟨3, 0, .rw, .i, 0⟩, ⟨7, 4, .rw, .i, 0⟩, ⟨8, 8, .rw, .i, 0⟩, ⟨9, 9, .rw, .i, 0⟩, ⟨31, 31, .rw, .i, 0⟩]⟩,
  ⟨Reg.fairwayTraceData, 1, 0x4, [⟨31, 0, .ro, .i, 0⟩]⟩,
  ⟨Reg.matrixQos, 1, 0x4, [⟨3, 0, .rw, .i, 8⟩, ⟨7, 4, .rw, .i, 8⟩, ⟨11, 8, .rw, .i, 4⟩, ⟨19, 16, .rw, .i, 2⟩]⟩,
  ⟨Reg.matrixPolicy, 1, 0x4, [⟨7, 0, .rwg, .g, 224⟩]⟩,
  ⟨Reg.matrixErrStatus, 1, 0x4, [⟨0, 0, .w1c, .i, 0⟩, ⟨1, 1, .w1c, .i, 0⟩, ⟨2, 2, .w1c, .i, 0⟩, ⟨3, 3, .w1c, .i, 0⟩, ⟨4, 4, .w1c, .i, 0⟩]⟩,
  ⟨Reg.matrixErrAddr, 1, 0x4, [⟨31, 0, .ro, .i, 0⟩]⟩,
  ⟨Reg.matrixErrInfo, 1, 0x4, [⟨2, 0, .ro, .i, 0⟩, ⟨6, 4, .ro, .i, 0⟩, ⟨10, 8, .ro, .i, 0⟩]⟩,
  ⟨Reg.matrixOutstanding, 1, 0x4, [⟨19, 0, .ro, .i, 0⟩]⟩]

def regRows6 : List RegRow := [
  ⟨Reg.matrixDmaSrc, 8, 0x20, [⟨31, 3, .rw, .q, 0⟩]⟩,
  ⟨Reg.matrixDmaDst, 8, 0x20, [⟨31, 3, .rw, .q, 0⟩]⟩,
  ⟨Reg.matrixDmaLen, 8, 0x20, [⟨23, 3, .rw, .q, 0⟩]⟩,
  ⟨Reg.matrixDmaCtrl, 8, 0x20, [⟨0, 0, .wo, .i, 0⟩, ⟨1, 1, .rw, .i, 0⟩, ⟨2, 2, .rw, .q, 0⟩, ⟨7, 4, .rw, .q, 0⟩]⟩,
  ⟨Reg.matrixDmaStatus, 8, 0x20, [⟨0, 0, .ro, .i, 0⟩, ⟨1, 1, .w1c, .i, 0⟩, ⟨2, 2, .w1c, .i, 0⟩]⟩,
  ⟨Reg.matrixDmaErraddr, 8, 0x20, [⟨31, 0, .ro, .i, 0⟩]⟩,
  ⟨Reg.basinctlPwr, 1, 0x4, [⟨7, 0, .rwg, .g, 0⟩]⟩,
  ⟨Reg.basinctlPwrStatus, 1, 0x4, [⟨7, 0, .ro, .i, 0⟩, ⟨11, 8, .ro, .i, 0⟩]⟩,
  ⟨Reg.basinctlPrecedence, 1, 0x4, [⟨4, 1, .rw, .i, 15⟩]⟩,
  ⟨Reg.basinctlColl, 4, 0x4, [⟨15, 0, .ro, .i, 0⟩, ⟨31, 16, .ro, .i, 0⟩]⟩,
  ⟨Reg.basinctlEcc, 5, 0x4, [⟨15, 0, .ro, .i, 0⟩, ⟨31, 16, .ro, .i, 0⟩]⟩,
  ⟨Reg.basinctlUeAddr, 1, 0x4, [⟨20, 0, .ro, .i, 0⟩, ⟨23, 21, .ro, .i, 0⟩]⟩]

def regRows7 : List RegRow := [
  ⟨Reg.basinctlEvents, 1, 0x4, [⟨4, 0, .w1c, .i, 0⟩, ⟨8, 5, .w1c, .i, 0⟩]⟩,
  ⟨Reg.basinctlIrqEn, 1, 0x4, [⟨4, 0, .rw, .i, 0⟩, ⟨8, 5, .rw, .i, 0⟩]⟩,
  ⟨Reg.basinctlClear, 1, 0x4, [⟨0, 0, .wo, .i, 0⟩, ⟨1, 1, .wo, .i, 0⟩]⟩,
  ⟨Reg.ethCtrl, 2, 0x10000, [⟨0, 0, .rw, .i, 0⟩, ⟨1, 1, .rw, .i, 0⟩, ⟨3, 2, .rwg, .g, 2⟩, ⟨4, 4, .rwg, .g, 0⟩, ⟨5, 5, .rwg, .g, 0⟩, ⟨6, 6, .rw, .i, 0⟩, ⟨12, 8, .rw, .i, 0⟩]⟩,
  ⟨Reg.ethStatus, 2, 0x10000, [⟨0, 0, .ro, .i, 0⟩, ⟨1, 1, .ro, .i, 0⟩, ⟨4, 2, .ro, .i, 0⟩]⟩,
  ⟨Reg.ethMacLo, 2, 0x10000, [⟨31, 0, .rw, .i, 0⟩]⟩,
  ⟨Reg.ethMacHi, 2, 0x10000, [⟨15, 0, .rw, .i, 0⟩]⟩,
  ⟨Reg.ethIpAddr, 2, 0x10000, [⟨31, 0, .rw, .i, 0⟩]⟩,
  ⟨Reg.ethVidA, 2, 0x10000, [⟨11, 0, .rw, .i, 0⟩, ⟨15, 15, .rw, .i, 0⟩, ⟨27, 16, .rw, .i, 0⟩, ⟨31, 31, .rw, .i, 0⟩]⟩,
  ⟨Reg.ethVidB, 2, 0x10000, [⟨11, 0, .rw, .i, 0⟩, ⟨15, 15, .rw, .i, 0⟩, ⟨27, 16, .rw, .i, 0⟩, ⟨31, 31, .rw, .i, 0⟩]⟩,
  ⟨Reg.ethVlanCfg, 2, 0x10000, [⟨0, 0, .rw, .i, 0⟩, ⟨1, 1, .rw, .i, 1⟩]⟩,
  ⟨Reg.ethMdioCmd, 2, 0x10000, [⟨4, 0, .rw, .i, 0⟩, ⟨9, 5, .rw, .i, 0⟩, ⟨11, 10, .rw, .i, 0⟩, ⟨31, 31, .rw, .i, 0⟩]⟩]

def regRows8 : List RegRow := [
  ⟨Reg.ethMdioData, 2, 0x10000, [⟨15, 0, .rw, .i, 0⟩]⟩,
  ⟨Reg.ethEvents, 2, 0x10000, [⟨2, 0, .w1c, .i, 0⟩, ⟨6, 3, .w1c, .i, 0⟩, ⟨7, 7, .w1c, .i, 0⟩, ⟨8, 8, .w1c, .i, 0⟩]⟩,
  ⟨Reg.ethIrqEn, 2, 0x10000, [⟨2, 0, .rw, .i, 0⟩, ⟨6, 3, .rw, .i, 0⟩, ⟨7, 7, .rw, .i, 0⟩, ⟨8, 8, .rw, .i, 0⟩]⟩,
  ⟨Reg.eth0RxRingBase, 3, 0x10, [⟨20, 4, .rw, .q, 0⟩]⟩,
  ⟨Reg.eth0RxRingCfg, 3, 0x10, [⟨10, 0, .rw, .q, 16⟩, ⟨24, 16, .rw, .q, 32⟩]⟩,
  ⟨Reg.eth0RxKick, 3, 0x10, [⟨0, 0, .wo, .i, 0⟩]⟩,
  ⟨Reg.eth0RxHead, 3, 0x10, [⟨9, 0, .ro, .i, 0⟩]⟩,
  ⟨Reg.eth0TxRingBase, 4, 0x10, [⟨20, 4, .rw, .q, 0⟩]⟩,
  ⟨Reg.eth0TxRingCfg, 4, 0x10, [⟨8, 0, .rw, .q, 16⟩]⟩,
  ⟨Reg.eth0TxKick, 4, 0x10, [⟨0, 0, .wo, .i, 0⟩]⟩,
  ⟨Reg.eth0TxHead, 4, 0x10, [⟨7, 0, .ro, .i, 0⟩]⟩,
  ⟨Reg.eth0Cnt, 13, 0x4, [⟨31, 0, .ro, .i, 0⟩]⟩]

def regRows9 : List RegRow := [
  ⟨Reg.ethTsLat, 2, 0x10000, [⟨15, 0, .rw, .i, 0⟩, ⟨31, 16, .rw, .i, 0⟩]⟩,
  ⟨Reg.ethTlDiscard, 2, 0x10000, [⟨31, 0, .rw, .i, 0⟩]⟩,
  ⟨Reg.ethCntClear, 2, 0x10000, [⟨0, 0, .wo, .i, 0⟩]⟩,
  ⟨Reg.eth1RxRingBase, 3, 0x10, [⟨20, 4, .rw, .q, 0⟩]⟩,
  ⟨Reg.eth1RxRingCfg, 3, 0x10, [⟨10, 0, .rw, .q, 16⟩, ⟨24, 16, .rw, .q, 32⟩]⟩,
  ⟨Reg.eth1RxKick, 3, 0x10, [⟨0, 0, .wo, .i, 0⟩]⟩,
  ⟨Reg.eth1RxHead, 3, 0x10, [⟨9, 0, .ro, .i, 0⟩]⟩,
  ⟨Reg.eth1TxRingBase, 4, 0x10, [⟨20, 4, .rw, .q, 0⟩]⟩,
  ⟨Reg.eth1TxRingCfg, 4, 0x10, [⟨8, 0, .rw, .q, 16⟩]⟩,
  ⟨Reg.eth1TxKick, 4, 0x10, [⟨0, 0, .wo, .i, 0⟩]⟩,
  ⟨Reg.eth1TxHead, 4, 0x10, [⟨7, 0, .ro, .i, 0⟩]⟩,
  ⟨Reg.eth1Cnt, 13, 0x4, [⟨31, 0, .ro, .i, 0⟩]⟩]

def regRows10 : List RegRow := [
  ⟨Reg.ptpTimeSecLo, 1, 0x4, [⟨31, 0, .ro, .i, 0⟩]⟩,
  ⟨Reg.ptpTimeSecHi, 1, 0x4, [⟨15, 0, .ro, .i, 0⟩]⟩,
  ⟨Reg.ptpTimeNs, 1, 0x4, [⟨29, 0, .ro, .i, 0⟩]⟩,
  ⟨Reg.ptpTimeUsLo, 1, 0x4, [⟨31, 0, .ro, .i, 0⟩]⟩,
  ⟨Reg.ptpTimeUsHi, 1, 0x4, [⟨31, 0, .ro, .i, 0⟩]⟩,
  ⟨Reg.ptpAddend, 1, 0x4, [⟨31, 0, .rw, .i, 0⟩]⟩,
  ⟨Reg.ptpStepSec, 1, 0x4, [⟨31, 0, .rw, .i, 0⟩]⟩,
  ⟨Reg.ptpStepNs, 1, 0x4, [⟨31, 0, .rw, .i, 0⟩]⟩,
  ⟨Reg.ptpStep, 1, 0x4, [⟨0, 0, .rwg, .g, 0⟩]⟩,
  ⟨Reg.ptpEvents, 1, 0x4, [⟨0, 0, .w1c, .i, 0⟩, ⟨1, 1, .w1c, .i, 0⟩, ⟨2, 2, .w1c, .i, 0⟩]⟩,
  ⟨Reg.ptpIrqEn, 1, 0x4, [⟨0, 0, .rw, .i, 0⟩, ⟨1, 1, .rw, .i, 0⟩, ⟨2, 2, .rw, .i, 0⟩]⟩,
  ⟨Reg.canCtrl, 4, 0x100, [⟨0, 0, .rw, .i, 0⟩, ⟨1, 1, .rw, .i, 1⟩, ⟨2, 2, .ro, .i, 0⟩, ⟨15, 8, .ro, .i, 0⟩, ⟨23, 16, .ro, .i, 0⟩]⟩]

def regRows11 : List RegRow := [
  ⟨Reg.canTiming, 4, 0x100, [⟨15, 0, .rwg, .q, 0⟩, ⟨31, 16, .rwg, .q, 0⟩]⟩,
  ⟨Reg.uartCtrl, 8, 0x100, [⟨0, 0, .rw, .i, 0⟩, ⟨2, 1, .rw, .q, 0⟩, ⟨3, 3, .rw, .q, 0⟩, ⟨7, 4, .rw, .q, 0⟩]⟩,
  ⟨Reg.uartBaud, 8, 0x100, [⟨19, 0, .rw, .q, 34722⟩]⟩,
  ⟨Reg.uartErrors, 8, 0x100, [⟨15, 0, .ro, .i, 0⟩, ⟨31, 16, .ro, .i, 0⟩]⟩,
  ⟨Reg.pcieOutBaseLo, 1, 0x4, [⟨31, 29, .rwg, .q, 0⟩]⟩,
  ⟨Reg.pcieOutBaseHi, 1, 0x4, [⟨31, 0, .rwg, .q, 0⟩]⟩,
  ⟨Reg.pcieStatus, 1, 0x4, [⟨0, 0, .ro, .i, 0⟩, ⟨2, 1, .ro, .i, 0⟩, ⟨4, 3, .ro, .i, 0⟩, ⟨5, 5, .ro, .i, 0⟩, ⟨6, 6, .ro, .i, 0⟩]⟩,
  ⟨Reg.qspiCtrl, 1, 0x4, [⟨1, 0, .rw, .q, 0⟩, ⟨5, 2, .rw, .q, 6⟩, ⟨6, 6, .rw, .q, 0⟩, ⟨7, 7, .ro, .i, 0⟩, ⟨15, 8, .ro, .i, 0⟩]⟩,
  ⟨Reg.slipctlStatus, 1, 0x4, [⟨1, 0, .ro, .i, 0⟩, ⟨3, 2, .ro, .i, 0⟩, ⟨7, 4, .ro, .i, 0⟩, ⟨8, 8, .ro, .i, 0⟩]⟩,
  ⟨Reg.slipctlEvents, 1, 0x4, [⟨0, 0, .w1c, .i, 0⟩, ⟨1, 1, .w1c, .i, 0⟩, ⟨2, 2, .w1c, .i, 0⟩, ⟨3, 3, .w1c, .i, 0⟩, ⟨4, 4, .w1c, .i, 0⟩, ⟨5, 5, .w1c, .i, 0⟩, ⟨6, 6, .w1c, .i, 0⟩]⟩,
  ⟨Reg.slipctlIrqEn, 1, 0x4, [⟨0, 0, .rw, .i, 0⟩, ⟨1, 1, .rw, .i, 0⟩, ⟨2, 2, .rw, .i, 0⟩, ⟨3, 3, .rw, .i, 0⟩, ⟨4, 4, .rw, .i, 0⟩, ⟨5, 5, .rw, .i, 0⟩, ⟨6, 6, .rw, .i, 0⟩]⟩,
  ⟨Reg.slipctlApply, 1, 0x4, [⟨0, 0, .rwg, .i, 0⟩]⟩]

def regRows12 : List RegRow := [
  ⟨Reg.slipctlCapture, 1, 0x4, [⟨1, 0, .rw, .i, 0⟩, ⟨15, 8, .ro, .i, 0⟩, ⟨31, 31, .wo, .i, 0⟩]⟩,
  ⟨Reg.slipctlShadowAddr, 1, 0x4, [⟨15, 0, .rw, .i, 0⟩]⟩,
  ⟨Reg.slipctlShadowData, 1, 0x4, [⟨31, 0, .ro, .i, 0⟩]⟩,
  ⟨Reg.slipctlCounts, 1, 0x4, [⟨15, 0, .ro, .i, 0⟩, ⟨31, 16, .ro, .i, 0⟩]⟩,
  ⟨Reg.slipctlWinTo, 1, 0x4, [⟨31, 0, .ro, .i, 0⟩]⟩,
  ⟨Reg.slipctlQcCfg, 24, 0x10, [⟨1, 0, .rw, .q, 0⟩, ⟨2, 2, .rw, .q, 0⟩, ⟨4, 3, .rw, .q, 0⟩]⟩,
  ⟨Reg.slipctlQcBase, 24, 0x10, [⟨17, 0, .rw, .q, 0⟩]⟩,
  ⟨Reg.slipctlQcSize, 24, 0x10, [⟨17, 0, .rw, .q, 0⟩]⟩,
  ⟨Reg.slipctlQcStatus, 24, 0x10, [⟨0, 0, .ro, .i, 0⟩, ⟨15, 1, .ro, .i, 0⟩, ⟨31, 16, .ro, .i, 0⟩]⟩,
  ⟨Reg.scrubCtrl, 1, 0x4, [⟨0, 0, .rw, .q, 0⟩, ⟨5, 1, .rw, .q, 0⟩, ⟨6, 6, .rw, .q, 0⟩]⟩,
  ⟨Reg.scrubPlainCfg, 1, 0x4, [⟨3, 0, .rw, .i, 1⟩]⟩,
  ⟨Reg.scrubPlainPos, 1, 0x4, [⟨12, 0, .ro, .i, 0⟩]⟩]

def regRows13 : List RegRow := [
  ⟨Reg.scrubInterval, 4, 0x4, [⟨15, 0, .rw, .q, 64⟩]⟩,
  ⟨Reg.scrubInterval4, 1, 0x4, [⟨15, 0, .rw, .q, 256⟩]⟩,
  ⟨Reg.scrubPlainCnt, 1, 0x4, [⟨15, 0, .ro, .i, 0⟩, ⟨31, 16, .ro, .i, 0⟩]⟩,
  ⟨Reg.scrubSweeps, 4, 0x4, [⟨15, 0, .ro, .i, 0⟩, ⟨31, 16, .ro, .i, 0⟩]⟩,
  ⟨Reg.scrubEvents, 1, 0x4, [⟨0, 0, .w1c, .i, 0⟩, ⟨1, 1, .w1c, .i, 0⟩, ⟨2, 2, .w1c, .i, 0⟩, ⟨3, 3, .w1c, .i, 0⟩, ⟨4, 4, .w1c, .i, 0⟩]⟩,
  ⟨Reg.scrubIrqEn, 1, 0x4, [⟨0, 0, .rw, .i, 0⟩, ⟨1, 1, .rw, .i, 0⟩, ⟨2, 2, .rw, .i, 0⟩, ⟨3, 3, .rw, .i, 0⟩, ⟨4, 4, .rw, .i, 0⟩]⟩,
  ⟨Reg.scrubClear, 1, 0x4, [⟨0, 0, .wo, .i, 0⟩]⟩,
  ⟨Reg.bbrStatus, 1, 0x4, [⟨0, 0, .ro, .i, 0⟩, ⟨2, 1, .ro, .i, 0⟩, ⟨3, 3, .ro, .i, 0⟩, ⟨4, 4, .ro, .i, 0⟩]⟩,
  ⟨Reg.bbrHead, 1, 0x4, [⟨11, 0, .ro, .i, 0⟩]⟩,
  ⟨Reg.bbrTrigger, 1, 0x4, [⟨11, 0, .ro, .i, 0⟩]⟩,
  ⟨Reg.bbrTriggerCycle, 1, 0x4, [⟨31, 0, .ro, .i, 0⟩]⟩,
  ⟨Reg.bbrPost, 1, 0x4, [⟨8, 0, .rwg, .i, 128⟩, ⟨24, 16, .ro, .i, 0⟩]⟩]

def regRows14 : List RegRow := [
  ⟨Reg.bbrWritten, 1, 0x4, [⟨31, 0, .ro, .i, 0⟩]⟩,
  ⟨Reg.bbrDropped, 1, 0x4, [⟨15, 0, .ro, .i, 0⟩, ⟨31, 16, .ro, .i, 0⟩]⟩,
  ⟨Reg.bbrRtcS, 1, 0x4, [⟨31, 0, .ro, .i, 0⟩]⟩,
  ⟨Reg.bbrRtcSet, 1, 0x4, [⟨31, 0, .rwg, .g, 0⟩]⟩,
  ⟨Reg.bbrAnchorS, 1, 0x4, [⟨31, 0, .ro, .i, 0⟩]⟩,
  ⟨Reg.bbrRelease, 1, 0x4, [⟨11, 0, .rwg, .i, 0⟩, ⟨31, 31, .rwg, .i, 0⟩]⟩,
  ⟨Reg.bbrEvents, 1, 0x4, [⟨0, 0, .w1c, .i, 0⟩, ⟨1, 1, .w1c, .i, 0⟩, ⟨2, 2, .w1c, .i, 0⟩]⟩,
  ⟨Reg.bbrIrqEn, 1, 0x4, [⟨0, 0, .rw, .i, 0⟩, ⟨1, 1, .rw, .i, 0⟩, ⟨2, 2, .rw, .i, 0⟩]⟩,
  ⟨Reg.reclaimStatus, 1, 0x4, [⟨1, 0, .ro, .i, 0⟩, ⟨2, 2, .ro, .i, 0⟩, ⟨3, 3, .ro, .i, 0⟩]⟩,
  ⟨Reg.reclaimFenced, 1, 0x4, [⟨15, 1, .ro, .i, 0⟩, ⟨30, 16, .ro, .i, 0⟩]⟩,
  ⟨Reg.reclaimUnfence, 1, 0x4, [⟨4, 0, .rwg, .i, 0⟩, ⟨31, 31, .rwg, .i, 0⟩]⟩,
  ⟨Reg.reclaimEvents, 1, 0x4, [⟨0, 0, .w1c, .i, 0⟩, ⟨1, 1, .w1c, .i, 0⟩, ⟨2, 2, .w1c, .i, 0⟩]⟩]

def regRows15 : List RegRow := [
  ⟨Reg.reclaimIrqEn, 1, 0x4, [⟨0, 0, .rw, .i, 0⟩, ⟨1, 1, .rw, .i, 0⟩, ⟨2, 2, .rw, .i, 0⟩]⟩,
  ⟨Reg.reclaimLast, 1, 0x4, [⟨4, 0, .ro, .i, 0⟩, ⟨11, 8, .ro, .i, 0⟩, ⟨15, 12, .ro, .i, 0⟩, ⟨31, 16, .ro, .i, 0⟩]⟩,
  ⟨Reg.reclaimCount, 1, 0x4, [⟨15, 0, .ro, .i, 0⟩, ⟨23, 16, .ro, .i, 0⟩, ⟨31, 24, .ro, .i, 0⟩]⟩,
  ⟨Reg.tempCtrl, 1, 0x4, [⟨0, 0, .rw, .i, 1⟩]⟩,
  ⟨Reg.tempMax, 1, 0x4, [⟨15, 0, .ro, .i, 0⟩, ⟨21, 16, .ro, .i, 0⟩]⟩,
  ⟨Reg.tempOffset, 1, 0x4, [⟨15, 0, .rwg, .g, 0⟩]⟩,
  ⟨Reg.tempSensor, 6, 0x4, [⟨15, 0, .ro, .i, 0⟩]⟩,
  ⟨Reg.tempEvents, 1, 0x4, [⟨0, 0, .w1c, .i, 0⟩]⟩,
  ⟨Reg.tempIrqEn, 1, 0x4, [⟨0, 0, .rw, .i, 0⟩]⟩,
  ⟨Reg.otpStatus, 1, 0x4, [⟨0, 0, .ro, .i, 0⟩, ⟨1, 1, .ro, .i, 0⟩, ⟨2, 2, .w1c, .i, 0⟩, ⟨3, 3, .w1c, .i, 0⟩]⟩,
  ⟨Reg.otpConfig, 1, 0x4, [⟨0, 0, .ro, .i, 0⟩, ⟨1, 1, .ro, .i, 0⟩, ⟨2, 2, .ro, .i, 0⟩, ⟨3, 3, .ro, .i, 0⟩, ⟨4, 4, .ro, .i, 0⟩]⟩,
  ⟨Reg.otpKeyState, 1, 0x4, [⟨3, 0, .ro, .i, 0⟩, ⟨7, 4, .ro, .i, 0⟩, ⟨11, 8, .ro, .i, 0⟩]⟩]

def regRows16 : List RegRow := [
  ⟨Reg.otpRollback, 1, 0x4, [⟨5, 0, .ro, .i, 0⟩]⟩,
  ⟨Reg.otpProgAddr, 1, 0x4, [⟨31, 0, .rwg, .i, 0⟩]⟩,
  ⟨Reg.otpProgData, 1, 0x4, [⟨31, 0, .rwg, .i, 0⟩]⟩,
  ⟨Reg.otpProgCmd, 1, 0x4, [⟨31, 0, .rwg, .i, 0⟩]⟩,
  ⟨Reg.otpKeyHash, 32, 0x4, [⟨31, 0, .ro, .i, 0⟩]⟩,
  ⟨Reg.hspiCount, 1, 0x4, [⟨15, 0, .ro, .i, 0⟩, ⟨31, 16, .ro, .i, 0⟩]⟩,
  ⟨Reg.timerWdtCtrl, 1, 0x4, [⟨0, 0, .rwg, .g, 0⟩]⟩,
  ⟨Reg.timerWdtMax, 1, 0x4, [⟨13, 0, .rwg, .g, 2000⟩]⟩,
  ⟨Reg.timerWdtMin, 1, 0x4, [⟨13, 0, .rwg, .g, 0⟩]⟩,
  ⟨Reg.timerWdtService, 1, 0x4, [⟨15, 0, .wo, .i, 0⟩]⟩,
  ⟨Reg.timerWdtStatus, 1, 0x4, [⟨13, 0, .ro, .i, 0⟩, ⟨16, 16, .ro, .i, 0⟩, ⟨17, 17, .w1c, .i, 0⟩, ⟨18, 18, .w1c, .i, 0⟩]⟩,
  ⟨Reg.timerMarkCmp, 4, 0x4, [⟨17, 0, .rw, .i, 0⟩, ⟨31, 31, .rw, .i, 0⟩]⟩]

def regRows17 : List RegRow := [
  ⟨Reg.timerEvents, 1, 0x4, [⟨0, 0, .w1c, .i, 0⟩, ⟨4, 1, .w1c, .i, 0⟩]⟩,
  ⟨Reg.timerIrqEn, 1, 0x4, [⟨0, 0, .rw, .i, 0⟩, ⟨4, 1, .rw, .i, 0⟩]⟩,
  ⟨Reg.timerSyscntLo, 1, 0x4, [⟨31, 0, .ro, .i, 0⟩]⟩,
  ⟨Reg.timerSyscntHi, 1, 0x4, [⟨31, 0, .ro, .i, 0⟩]⟩,
  ⟨Reg.intcLevel, 8, 0x4, [⟨31, 0, .rw, .i, 0⟩]⟩,
  ⟨Reg.intcPend, 2, 0x4, [⟨31, 0, .ro, .i, 0⟩]⟩,
  ⟨Reg.intcClaim, 1, 0x4, [⟨5, 0, .ro, .i, 0⟩, ⟨11, 8, .ro, .i, 0⟩, ⟨31, 31, .ro, .i, 1⟩]⟩,
  ⟨Reg.intcComplete, 1, 0x4, [⟨5, 0, .wo, .i, 0⟩]⟩,
  ⟨Reg.intcSoft, 1, 0x4, [⟨3, 0, .rw, .i, 0⟩]⟩,
  ⟨Reg.intcInservice, 2, 0x4, [⟨31, 0, .w1c, .i, 0⟩]⟩,
  ⟨Reg.slipctlLane, 12, 0x4, [⟨0, 0, .ro, .i, 0⟩, ⟨31, 16, .ro, .i, 0⟩]⟩]

/-- Every register of the register tables. SLIPCTL_LANEn stands outside the bus map: its stated addresses are those of
SLIPCTL_QC16 to QC18 (log entry 5). -/
def regTable : List RegRow :=
  regRows0 ++ regRows1 ++ regRows2 ++ regRows3 ++ regRows4 ++ regRows5 ++ regRows6 ++ regRows7 ++ regRows8 ++ regRows9 ++ regRows10 ++ regRows11 ++ regRows12 ++ regRows13 ++ regRows14 ++ regRows15 ++ regRows16 ++ regRows17

/-- Whether an address is one of a row's registers. -/
def RegRow.covers (r : RegRow) (a : Nat) : Bool :=
  decide (r.base ≤ a) && decide (a < r.base + r.count * r.stride) && decide ((a - r.base) % r.stride = 0)

/-- The row of the register at an address. -/
def regRow? (a : Nat) : Option RegRow := regTable.find? fun r => r.covers a

/-- A row's reset word. -/
def RegRow.resetWord (r : RegRow) : Word :=
  BitVec.ofNat 32 (r.fields.foldl (fun n f => n + f.reset * 2 ^ f.lo) 0)

/-- The reset value of the register at an address; 0 where no register stands. -/
def regReset (a : Nat) : Word :=
  match regRow? a with
  | some r => r.resetWord
  | none => 0

end Sys2Proof.Machine
end

