-- ==== Sys2Proof/Machine/State.lean ====
section
/-! DEFINITION. The state of the block as plain data, the reasons a step can stop, and the state right after reset. -/

namespace Sys2Proof.Machine

/-! ### Outcomes of a step -/

/-- Why the machine stops. -/
inductive Fault where
  /-- Raised by no command of the table: a fault reserved for an access that the spec says does not exist. Safe. -/
  | noSuchAddress
deriving DecidableEq, Repr

/-- Why a command has no meaning. -/
inductive Refusal where
  /-- Raised by an arm of `exec` whose command has no meaning yet. Safe. -/
  | notModelled (mnemonic : String)
deriving DecidableEq, Repr

/-! ### Sessions and transports (chapter 07) -/

/-- A continuation in assembly (R227): the opcode and handle it belongs to and the payload so far. -/
structure Assembly where
  opcode : Nat
  handle : Nat
  bytes : Bytes
deriving DecidableEq, Repr

/-- An AUTH_CHALLENGE that has not been spent (R250). -/
structure Challenge where
  hostNonce : Bytes
  devNonce : Bytes
deriving DecidableEq, Repr

/-- A consumed SEQ and its reply (R218). -/
structure Cached where
  seq : Half
  reply : Packet
deriving DecidableEq, Repr

/-- A telemetry subscription (R305, R306). -/
structure Subscription where
  interval : Nat
  onChange : Bool
  entries : List (Nat × Nat)
  lastSent : List Bytes
  sinceSent : List Nat
  firstCycle : Word
deriving DecidableEq, Repr

/-- One open session (R221). -/
structure Session where
  ep : Endpoint
  livenessMs : Nat
  expected : Half
  cache : List Cached := []
  evNum : Half := 0
  events : List Packet := []
  assembly : Option Assembly := none
  authed : Bool := false
  ks : Bytes := []
  challenge : Option Challenge := none
  heldReqs : List Req := []
  subs : Store Subscription := []
  /-- Which SESSION_OPEN opened it, counted from the device reset: a COMPLETION goes to that opening alone (R224, R234). -/
  opening : Nat := 0
deriving DecidableEq, Repr

/-- One PCIe mailbox pair (R235 to R237): the request buffer, the reply buffer, replies that wait for it, and the
event share's indices. -/
structure Mailbox where
  reqBuf : Bytes := []
  replyBuf : Option Packet := none
  replyReady : Bool := false
  replyWait : List Packet := []
  evRing : List (Nat × Bytes) := []
  evProd : Nat := 0
  evCons : Nat := 0
deriving DecidableEq, Repr

/-- The link-layer address of an endpoint on UDP: the source MAC and the tag of its latest request (R733). -/
structure Peer where
  mac : Nat
  tci : Option Nat
deriving DecidableEq, Repr

/-- Who is told by COMPLETION: the session and its opening, SEQ, opcode and handle (R232, R234). -/
structure Notify where
  session : Nat
  opening : Nat
  seq : Half
  opcode : Nat
  handle : Nat
deriving DecidableEq, Repr

/-- A table image under VSL_LOAD (R292): bytes so far, TOTAL and the CRC it must have. -/
structure TableLoad where
  total : Nat
  crc : Nat
  data : Bytes
  complete : Bool
deriving DecidableEq, Repr

/-- A vessel model, staging or live. Definitions keep their command payloads; tables are keyed by KIND × 65,536 + INDEX. -/
structure VesselModel where
  modelId : Nat := 0
  tanks : Store Bytes := []
  sections : Store Bytes := []
  tables : Store TableLoad := []
deriving DecidableEq, Repr

/-- A background write that waits for a flash slot or for bracing to end (R294, R301, R320). -/
inductive BgTask where
  | persistModel (model : VesselModel)
  | persistProg (progId : Nat) (image : Bytes)
  | persistStation (id : Nat) (record : Bytes)
  | persistSlip (image : Bytes)
  | writeFwSlot (slot : Nat) (image : Bytes) (notify : Option Notify)
deriving DecidableEq, Repr

/-- An image staging that one session owns (R300, R311). -/
structure Staging where
  owner : Nat
  total : Nat
  persist : Bool
  data : Bytes
deriving DecidableEq, Repr

/-- The Omneax interpreter and its transports. -/
structure Omneax where
  sessions : Store Session := []
  token : Nat := 0
  authFailRun : Nat := 0
  lockout : Bool := false
  interp : List Req := []
  discards : Nat := 0
  /-- The MTU of each Ethernet port, from which R212 gives the UDP unit; the spec names it and gives no register (log entry 6). -/
  mtu : List Nat := [1500, 1500]
  boxes : Store Mailbox := []
  udpOut : List (Endpoint × Packet) := []
  peers : List (Endpoint × Peer) := []
  openings : Nat := 0
  hspiWait : List Packet := []
  resetAnnounced : Bool := false
  firmware : Option Staging := none
  background : List BgTask := []
deriving DecidableEq, Repr

/-! ### The watch cycle (chapter 01) -/

/-- The phase of the watch cycle (Table SYS-3). -/
inductive Phase where
  | idle | gather | load | compute | unload | commit | ebb
deriving DecidableEq, Repr

/-- The outcome of a cycle (Table SYS-6). -/
inductive CycleOutcome where
  | committed | late | discarded | braced
deriving DecidableEq, Repr

/-- An event that the COMMIT of the cycle will raise. -/
inductive ChEvent where
  | state (slot : Nat) (old new cause : Nat)
  | discord (slot : Nat) (set : Bool) (measured model : Int)
  | limit (slot : Nat) (crossed : Bool) (value limit : Int)
deriving DecidableEq, Repr

/-- The watch cycle's parameters, counters and position (R13 to R41). -/
structure WatchCycle where
  running : Bool := false
  startAtUs : Option Nat := none
  stopPending : Bool := false
  everStarted : Bool := false
  cycle : Word := 0
  markUs : Nat := 0
  periodUs : Nat := 20000
  gatherPct : Nat := 10
  leadUs : Nat := 1000
  decimation : Nat := 1
  /-- The decimation that a pass starting in the current cycle takes (R19, R26). -/
  decUsed : Nat := 1
  /-- The last cycle that committed. -/
  lastCommitted : Word := 0
  phase : Phase := .idle
  boundaryTaken : Bool := false
  gathered : Bool := false
  ended : Bool := false
  bracedVerdict : Bool := false
  discardVerdict : Bool := false
  lateRun : Nat := 0
  committedRun : Nat := 0
  /-- A check of the reciprocal table is posted: every 50 committed cycles, until a slice has run it (R561). -/
  checkPosted : Bool := false
  restricted : Bool := false
  lastCycle : Word := 0
  lastOutcome : CycleOutcome := .committed
  nCommitted : Nat := 0
  nLate : Nat := 0
  nDiscarded : Nat := 0
  nBraced : Nat := 0
  /-- The events that the COMMIT of the cycle in computation will raise. -/
  workEvents : List ChEvent := []
deriving DecidableEq, Repr

/-! ### Channels (chapter 09) -/

/-- The seven channel types (Table CHN-1). -/
inductive ChType where
  | level | valve | pump | loop | derived | margin | custom
deriving DecidableEq, Repr

/-- The channel states (Table OPC-3); FREE is the absence of a channel. -/
inductive ChState where
  | defined | bound | armed | active | adrift | safed | faulted
deriving DecidableEq, Repr

/-- A role bound to a station point (R328). -/
structure RoleBind where
  role : Nat
  station : Nat
  point : Nat
deriving DecidableEq, Repr

/-- One dependency: a handle and its dependency-lost action 0 CONTINUE_ON_ESTIMATE, 1 HOLD, 2 SAFE (R356, R357). -/
structure Dep where
  handle : Nat
  action : Nat
deriving DecidableEq, Repr

/-- A RAMP in progress (R355). -/
structure Ramp where
  from0 : Int
  target : Int
  rate : Nat
  t0 : Nat
deriving DecidableEq, Repr

/-- One half's dynamic channel state (R23). -/
structure ChHalf where
  value : Int := 0
  quality : Byte := 0
  /-- The committed output sample of each OUT role, with its quality. -/
  outputs : List (Nat × Byte × Int) := []
  output : Int := 0
  setpoint : Int := 0
  ramp : Option Ramp := none
  integ : Int := 0
  term0 : Option Int := none
  filter : List Int := []
  stopOut : Bool := false
  running : Bool := false
  speed : Int := 0
  lastStartUs : Option Nat := none
  lastStopUs : Option Nat := none
  starts : List Nat := []
  /-- Consecutive cycles without a fresh value, by required input role (R342). -/
  grace : List (Nat × Nat) := []
  adriftSince : Option Nat := none
  safeSince : Option Nat := none
  safeFrom : Int := 0
  x1 : Int := 0
  y : Int := 0
  delay : List Int := []
  /-- The model's input u and the measurement y that it predicts, as this cycle had them (Table CHN-6): MODEL_U and MODEL_Y of Table QUY-4. -/
  modelU : Int := 0
  modelY : Int := 0
  modelFresh : Bool := true
  /-- The checksum of the kernel image whose tables the berth of a CUSTOM channel holds (R557). -/
  tables : Option Word := none
  /-- The model input of recent cycles, newest first, and the last one that its station confirmed (R363). -/
  applied : List (Word × Int) := []
  confirmed : Option Int := none
  discrepancy : Int := 0
  discord : Bool := false
  discRun : Nat := 0
  substInput : Bool := false
  depLost : Bool := false
  /-- A lost dependency held the channel in the last cycle (R357, R358). -/
  held : Bool := false
  limitState : Nat := 0
deriving DecidableEq, Repr

/-- A channel (R323 to R366). The parameter and model blocks keep their byte layouts (Tables CHN-2, CHN-3, CHN-5). -/
structure Channel where
  typ : ChType
  state : ChState
  params : Bytes
  roles : List RoleBind := []
  deps : List Dep := []
  model : Bytes
  modelWritten : Bytes
  trim : Bool := false
  half : ChHalf := {}
  destroying : Bool := false
  /-- The cycle of its CH_DESTROY has committed: the slot is freed when that cycle ends (R281). -/
  leaving : Bool := false
  /-- Of a CUSTOM channel the Basin 3 state image: the committed STATE_BITS of each element of its berth (R584). -/
  image : List Nat := []
deriving DecidableEq, Repr

/-- A change that waits for its cycle (R26, Table OPC-2). -/
inductive Change where
  | config (slot off : Nat) (data : Bytes)
  | arm (slot : Nat)
  | disarm (slot : Nat) (safeFirst : Bool)
  | setpoint (slot : Nat) (ramp : Bool) (value : Int) (rate : Nat)
  | depend (slot : Nat) (deps : List Dep)
  | modelWrite (slot : Nat) (block : Bytes)
  | trim (slot : Nat) (on : Bool)
  | modelRestore (slot : Nat)
  | safe (slot : Nat)
  | destroyForce (slot : Nat)
  | limits (payload : Bytes)
  | mirror (pairs : Nat)
  | duty (payload : Bytes)
  | program (id : Nat) (image : Bytes) (cost : Nat) (persist : Bool)
  | stRelease (station : Nat) (force : Bool)
  | calRun (kind slot : Nat) (reference : Int) (tell : Option Notify)
  | calApply (slot : Nat) (gain offset : Int)
  | trimModel (slot : Nat) (block : Bytes)
  | slipApply
  | decimation
  | vessel (modelId : Nat) (persist : Bool) (model : VesselModel)
  | none
deriving DecidableEq, Repr

/-- The boundary at which a change acts (Table OPC-2): C, E or V. -/
inductive Effect where
  | atCycle | atCommit | atPass
deriving DecidableEq, Repr

/-- A pending change: its boundary, the first cycle in which it takes part, whether the current cycle uses it. -/
structure Pending where
  effect : Effect
  cycle : Word
  used : Bool := false
  /-- The time mark of the first cycle that used it (R355). -/
  firstMark : Option Nat := none
  notify : Option Notify := none
  change : Change
deriving DecidableEq, Repr

/-- A kernel program (R297). -/
structure Program where
  image : Bytes
  worstCost : Nat
  crc : Word
  persisted : Bool
  harbour : Bool
deriving DecidableEq, Repr

/-! ### Stations (chapter 10) -/

/-- The station states on the device side (Table OPC-3). -/
inductive StState where
  | absent | hailed | joining | moored | slack | lost
deriving DecidableEq, Repr

/-- ST_ADMIT's MODE (R288). -/
inductive AdmitMode where
  | auto | locked | refuse
deriving DecidableEq, Repr

/-- A pending JOIN (R382). -/
structure PendingJoin where
  mac : Nat
  port : Nat
  cycle : Nat
  /-- The state to which the station returns when the JOIN is forgotten. -/
  back : StState
deriving DecidableEq, Repr

/-- One station, network or built-in. -/
structure Station where
  state : StState := .absent
  mode : AdmitMode := .auto
  lockMac : Nat := 0
  lockPort : Nat := 0
  mac : Nat := 0
  port : Nat := 0
  config : Bytes := []
  configSeq : Nat := 0
  ackedSeq : Option Nat := none
  sends : Nat := 0
  notifyFb : Option Notify := none
  newFb : Bytes := []
  /-- Fallback CONFIGs that a later one in flight includes and supersedes: CONFIG_SEQ, block, who is told (R289). -/
  fbQueue : List (Nat × Bytes × Option Notify) := []
  /-- Fallback changes kept for the next JOIN of a station that is not MOORED (R289). -/
  fbKept : List (Bytes × Option Notify) := []
  /-- Who is told when the station has joined with the fallback values kept for it (R289). -/
  fbWait : List Notify := []
  firstConfig : Bool := false
  refusedCfg : Bool := false
  enabled : Bool := false
  takePart : Bool := false
  sinceLost : Bool := false
  join : Option PendingJoin := none
  missRun : Nat := 0
  missK : Nat := 3
  nMissed : Nat := 0
  nInputLate : Nat := 0
  lastApplied : Nat := 0
  lastInput : Nat := 0
  inputFor : Option Nat := none
  braced : Bool := false
  epoch : Nat := 0
  memberLast : Bool := false
  points : Store (Byte × Int) := []
  inbox : Store (Byte × Int) := []
  /-- Receive buffers of its INPUT frames that the firmware has not handed back: port, first descriptor and how many (R569). -/
  rxHeld : List (Nat × Nat × Nat) := []
  pointUs : Store Nat := []
  dcOut : Store (Byte × Int) := []
  imageComplete : Bool := false
  /-- A block that an enabled UART or CAN station takes at the next gather deadline (R793). -/
  cfgNext : Option Bytes := none
  /-- Exchanges completed, and whether one failed, since the previous gather deadline (R774). -/
  nDone : Nat := 0
  failed : Bool := false
  /-- A built-in station: the committed cycle whose output writes are due at the next mark, and the one issued at the last mark (R773). -/
  due : Option Nat := none
  issued : Option Nat := none
  /-- A built-in station becomes MOORED at the next time mark (Table STN-5). -/
  willMoor : Bool := false
deriving DecidableEq, Repr

/-- A device's role on the station network (R407). -/
inductive DevRole where
  | standby | idle | active
deriving DecidableEq, Repr

/-- Another device as heard in its ANNOUNCE frames (R408 to R410). -/
structure PeerDevice where
  mac : Nat
  epoch : Nat
  role : Nat
  periodUs : Nat
  heardUs : Nat
  commits : List Nat
deriving DecidableEq, Repr

/-- A Tideline frame handed to a MAC for transmission (R378, R380). -/
structure TxTl where
  port : Nat
  /-- The tag control information of R415, where tagging is enabled on the port. -/
  tci : Option Nat := none
  dest : Nat
  typ : Nat
  stationId : Nat
  cycle : Nat
  mark : Nat
  epoch : Nat
  payload : Bytes
deriving DecidableEq, Repr

/-- The station link (chapter 10). -/
structure Tideline where
  stations : Store Station := []
  epoch : Nat := 0
  role : DevRole := .idle
  followed : Option PeerDevice := none
  /-- The latest ANNOUNCE of each other device (R407, R408). -/
  heard : List PeerDevice := []
  missedMarks : Nat := 0
  /-- Ports that have sent an ANNOUNCE, one bit each (R165). -/
  announced : Nat := 0
deriving DecidableEq, Repr

/-! ### The vessel model (chapter 11) -/

/-- One limit set (R440, R441). -/
structure LimitSet where
  complete : Bool := false
  gmMin : Int := 0
  draftMax : Int := 0
  trimMax : Int := 0
  heelMax : Int := 0
  sections : Store (Int × Int) := []
deriving DecidableEq, Repr

/-- The snapshot entry of one tank (R428, R429): level and whether it is estimated and whether VALID was set. -/
structure TankSnap where
  level : Int
  valid : Bool
  estimated : Bool
deriving DecidableEq, Repr

/-- The result of one section (R438, R442). -/
structure SectionResult where
  sf : Int
  bm : Int
  sfMargin : Int
  bmMargin : Int
  sfChecked : Bool
deriving DecidableEq, Repr

/-- The published results of a pass (R433 to R445). -/
structure HydroResult where
  cycle : Word := 0
  snapCycle : Word := 0
  disp : Int := 0
  estimatedFlag : Bool := false
  nEstimated : Nat := 0
  ta : Int := 0
  tf : Int := 0
  tm : Int := 0
  trim : Int := 0
  heel : Int := 0
  kg : Int := 0
  gmSolid : Int := 0
  gmFluid : Int := 0
  dGm : Int := 0
  dT : Int := 0
  dTrim : Int := 0
  dHeel : Int := 0
  dSf : Int := 0
  dBm : Int := 0
  outOfRange : Bool := false
  noBuoyancy : Bool := false
  strengthOk : Bool := false
  strengthCycle : Word := 0
  strengthEst : Bool := false
  sections : Store (Int × Int) := []
  levels : Store Int := []
deriving DecidableEq, Repr

/-- A pass in progress: the model and snapshot that it runs on and its slices (R35 to R37). -/
structure HydroPass where
  model : VesselModel
  snap : Store TankSnap
  snapCycle : Word
  slices : Nat
  done : Nat
deriving DecidableEq, Repr

/-- The hydrostatics engine's double-buffered state (R37). -/
structure HydroHalf where
  live : Option VesselModel := none
  pass : Option HydroPass := none
  published : Option HydroResult := none
  sinceCommit : Bool := false
  crossed : List (Nat × Nat) := []
  rangeRun : Bool := false
deriving DecidableEq, Repr

/-- The vessel side of the device. -/
structure Vessel where
  staging : VesselModel := {}
  harbour : LimitSet := {}
  sea : LimitSet := {}
  seaActive : Bool := false
  half : HydroHalf := {}
deriving DecidableEq, Repr

/-! ### Registers, guards, time and the black-box recorder (chapters 06, 20, 25) -/

/-- One block's GUARD (R183 to R188): the holder and its Fairway node, the sticky flags, the wrong-key run. -/
structure Guard where
  holder : Option (Nat × Nat) := none
  fault : Bool := false
  denied : Bool := false
  cfgAbort : Bool := false
  wrongRun : Nat := 0
  faultMaster : Nat := 0
  faultNode : Nat := 0
deriving DecidableEq, Repr

/-- The TIME base (R748): seconds, nanoseconds and the 32-bit fraction; the snapshot that a read of SEC_LO takes. -/
structure TimeBase where
  sec : Nat := 0
  ns : Nat := 0
  frac : Nat := 0
  snapSec : Nat := 0
  snapNs : Nat := 0
deriving DecidableEq, Repr

/-- An entry of the black-box ring (Table BBR-1). -/
structure BbrEntry where
  event : Nat
  severity : Nat
  source : Nat
  flags : Nat
  cycle : Word
  timeUs : Word
  payload : Word
deriving DecidableEq, Repr

/-- The black-box recorder's parts that no register holds: the ring, the stamp register, the tick latch and whether a
post-trigger entry was appended since the last tick (R881, R887, R891). Its registers are in the register file. -/
structure Bbr where
  ring : Store BbrEntry := []
  stampCycle : Word := 0
  stampUs : Word := 0
  latchUs : Word := 0
  postSinceTick : Bool := false
  /-- The POST_COUNT in force at the trigger (R893). -/
  postLimit : Nat := 128
  subSecond : Nat := 0
deriving DecidableEq, Repr

/-! ### OTP and host ports, first parts (chapters 05, 21) -/

/-- The OTP contents (R313; OTP registers of chapter 05). Keys 0 and 1 are programmed at manufacture with vendor owner; their hashes
are the part's own and read as zeros here (log entry 15). The customer key is never readable. -/
structure Otp where
  keyHash : Store Bytes := []
  programmed : Nat := 3
  revoked : Nat := 0
  customer : Nat := 0
  rollback : Nat := 0
  openFw : Bool := false
  jtagLock : Bool := false
  slipSign : Bool := false
  gradeAx : Bool := false
  custKey : Option Bytes := none
  raw : Store Word := []
deriving DecidableEq, Repr

/-- How the endpoint completes a host's read or configuration request: data, Configuration Request Retry Status, Unsupported Request,
Completer Abort (R159, R201, R202, R767). -/
inductive Completion where
  | data (w : Word)
  | retry
  | unsupported
  | abort
deriving DecidableEq, Repr

/-- The MSI-X table at reset: 16 entries of four words, address, upper address, data and control, every entry masked (R761, R762). PRESUMED (log
entry 210): the mask bit at reset is that of PCI Express. -/
def msixReset : List Word := (List.range 64).map fun i => if i % 4 = 3 then 1 else 0

/-- The host-facing parts of the PCIe endpoint and the boot loader (chapter 21) that no register of the map holds. -/
structure HostPorts where
  irqStatus : Word := 0
  msix : List Word := msixReset
  msixPending : Nat := 0
  discards : Nat := 0
  perst : Bool := true
  busMaster : Bool := false
  memEnable : Bool := false
  irqMode : Nat := 0
  subsysVendor : Nat := 0x1E5B
  subsysId : Nat := 0xB160
  powerState : Nat := 0
  bars : List Word := [0, 0, 0, 0]
  linkDownPending : Bool := false
  configRetry : Nat := 0
  completion : Option Completion := none
  hspiOut : Bytes := []
  bootWait : Bool := false
  bootResult : Nat := 0
  load : Option (Nat × Bytes) := none
deriving DecidableEq, Repr

/-- A Slipway design as its image header describes it (Table SLP-4): DESIGN_ID, the image CRC, VSTATIONS, QC_IN and QC_OUT by virtual
station, and the image. -/
structure Design where
  id : Nat
  crc : Nat
  vst : Nat
  qcs : List (Nat × Nat)
  image : Bytes
deriving DecidableEq, Repr

/-- An accepted apply (R301): the verified image, PERSIST and who is told. -/
structure SlipApply where
  image : Bytes
  persist : Bool
  notify : Option Notify
deriving DecidableEq, Repr

/-- A queue controller's block memory, its place in its ring of the queue-controller region, the accesses of its locked sequence, and the answer to
its last RAW access: an error, B2_BUSY, the word (R798 to R801). -/
structure Qc where
  words : List DWord := []
  pos : Nat := 0
  locked : Nat := 0
  error : Bool := false
  busy : Bool := false
  word : DWord := 0
deriving DecidableEq, Repr

/-- The signals of a virtual station (Table SLP-3). -/
structure VStation where
  present : Bool := false
  posts : Nat := 0
  missRun : Nat := 0
  apply : Bool := false
  cycle : Nat := 0
  lastApplied : Nat := 0
  braced : Bool := false
deriving DecidableEq, Repr

/-- The Slipway's parts that no register holds (chapter 22). -/
structure Slipway where
  staging : Option Staging := none
  /-- STAGED as SLIP_STATUS reports it after a failure (R811). -/
  verified : Nat := 0
  lastStatus : Nat := 0
  waiting : Option SlipApply := none
  /-- The COMMIT of the accepted apply's EFFECT_CYCLE has passed (R301). -/
  applyArmed : Bool := false
  applying : Option SlipApply := none
  design : Option Design := none
  captureArmed : Option Nat := none
  /-- Accesses that wait for a locked sequence at Basin 2 port B, and the controller whose turn it is by class (R798, R800). -/
  portWait : List QcAccess := []
  turns : List Nat := [0, 0, 0, 0]
  /-- The shadow: the index of its contents among the free values and the capture's TIME_US (R815). -/
  shadow : Option (Nat × Nat) := none
  qcs : Store Qc := []
  vs : Store VStation := []
  /-- Whether the design of the fabric must be applied again from flash in the next Ebb window (R818). -/
  reapply : Bool := false
deriving DecidableEq, Repr

/-! ### Flash (chapter 21) -/

/-- A flash operation: the erase of a 64 KiB sector, a page program, the write of a persisted record whose layout the spec does not give,
a page of journal records, or a journal sector's header, which after a compaction marks the sector free (R845). -/
inductive FlashOp where
  | erase (addr : Nat)
  | program (addr : Nat) (data : Bytes)
  | record (t : BgTask)
  | journal (addr : Nat) (records : List Bytes)
  | header (addr : Nat) (bytes : Bytes) (frees : Bool)
deriving DecidableEq, Repr

/-- The flash on the two chip selects and the QSPI master's queue (R785 to R794), whose first operation runs while QSPI_CTRL BUSY is
set; an unlisted byte reads as 0xFF, erased. -/
structure Flash where
  cs0 : Store Byte := []
  cs1 : Store Byte := []
  /-- Sectors whose erase was cut short, with the index of their free bytes (R91). -/
  doubt : Store Nat := []
  ops : List FlashOp := []
  task : Option BgTask := none
  /-- Which of the two Slipway copies is the newer one (R788). -/
  slipNewer : Nat := 1
  progs : Store Bytes := []
  stations : Store Bytes := []
  models : List VesselModel := []
deriving DecidableEq, Repr

/-- The wear journal (R844, R845): records that wait in Basin 0, the head page, standing records by KIND × 65,536 + KEY, the
next SEQ, the sectors' sequence numbers. -/
structure Journal where
  buffer : List Bytes := []
  headPage : Nat := 1
  standing : Store Bytes := []
  seq : Nat := 0
  firstUs : Option Nat := none
  sectorSeq : Nat := 0
  freeSectors : Nat := 256
deriving DecidableEq, Repr

/-! ### Serial and CAN stations (chapter 21) -/

/-- What a UART does on its line: the poll in flight and the writes to insert, each as poll, first
register and count, and the next read poll. -/
structure Uart where
  inFlight : Option (Nat × Nat × Nat) := none
  nextRead : Nat := 0
  writes : List (Nat × Nat × Nat) := []
  writeCycle : Option Nat := none
  writeFailed : Bool := false
  out : List Bytes := []
deriving DecidableEq, Repr

/-- What a CAN controller has to send and what it has received: transmit frames by index, identifiers with their reception times. -/
structure Can where
  txQueue : List Nat := []
  txCycle : Option Nat := none
  sent : List (Nat × Bytes) := []
  heard : Store Nat := []
deriving DecidableEq, Repr

/-! ### The Plain and the Pilot (chapters 12 to 14) -/

/-- A field's power state (Table PLN-4). -/
inductive Power where
  | off | ret | on
deriving DecidableEq, Repr

/-- The registers of one processing element (Table PLN-1), at their values after a wake. -/
structure Elem where
  x : Bool := false
  y : Bool := false
  c : Bool := false
  m : Bool := true
  stack : List Bool := [true, true, true, true]
  f : Bool := false
  t : Bool := false
  nb : Bool := false
  ix : Nat := 0
  dz : Bool := false
deriving DecidableEq, Repr

/-- The Plain: field power, fields that are waking (with whether from OFF), element memory by Plain-window offset (R486), element
registers by element number, HALF, group rows in error by group × 8,192 + physical address (1 correctable, 2 uncorrectable or poison),
the repair queue of 8, the correctable counts by field, the enabled mirror pairs. -/
structure Plain where
  power : List Power := List.replicate 16 .off
  waking : List (Nat × Bool) := []
  mem : Store Byte := []
  elems : Store Elem := []
  half : Bool := false
  ecc : Store Nat := []
  repair : List Nat := []
  corrected : Store Nat := []
  mirrorPairs : Nat := 0
  /-- Pairs enabled since the last commit, which the next LOAD copies first (R478). -/
  mirrorNew : Nat := 0
  /-- Sleep requests that wait until no transfer or access to the field is pending, with whether to OFF (R474). -/
  sleeps : List (Nat × Bool) := []
  /-- The first physical address that erred in each group of the UE vector (R484). -/
  ueFirst : Store Nat := []
  /-- Groups in error that the firmware rewrites in the next Ebb window (R484). -/
  rewrite : List Nat := []
  /-- The run of mismatch cycles by pair (R481). -/
  mismatchRun : Store Nat := []
  /-- After a macro-instruction X, Y, C, T and NB hold what its routine left: the key of the free values that they are (R537). -/
  left : Option Nat := none
deriving DecidableEq, Repr

/-- The Pilot's STATE (PILOT_STATUS). -/
inductive PilotState where
  | idle | foreground | ebb | trap | haltedBreak | haltedFault
deriving DecidableEq, Repr

/-- The Pilot sequencer: position, latches of the macro-instruction, address registers with their steps, scalar registers, loop
counters, flags, call stack (top first), mask depth, save slots (outermost first, Table PLT-8), the information latched with each
pending request, the field-OR vectors of the last Plain cycles (latest first), the fetch queue, patch RAM. -/
structure Pilot where
  st : PilotState := .idle
  upc : Nat := 0
  mpc : Nat := 0
  a : List Nat := [0, 0, 0, 0]
  down : List Bool := [false, false, false, false]
  opcode : Nat := 0
  width : Nat := 0
  mode : Nat := 0
  dst : Nat := 0
  src1 : Nat := 0
  src2 : Nat := 0
  s : List Word := List.replicate 16 0
  lc : List Nat := [0, 0, 0, 0]
  z : Bool := false
  n : Bool := false
  c : Bool := false
  v : Bool := false
  calls : List Nat := []
  depth : Nat := 0
  slots : List (List Word) := []
  info : List Word := [0, 0, 0, 0, 0, 0, 0]
  history : List Nat := [0, 0, 0, 0]
  dlLeft : Nat := 0
  /-- The admitted worst-case cost C of the cycle in hand, and the Plain cycles that Ebb slices have taken inside its foreground window (R33). -/
  admitted : Nat := 0
  windowEbb : Nat := 0
  /-- The cycle that the pending SAGWARN request decides on; none where it decides nothing (R87, R88). -/
  sagFor : Option Word := none
  mark : Bool := false
  mboxNew : Bool := false
  deadlinePassed : Bool := false
  unloadDone : Bool := false
  /-- A CYCLE_DEADLINE request awaits its TACK (R522). -/
  ackPending : Bool := false
  /-- The Pilot waits for the next mark (R127, R551). -/
  waitMark : Bool := false
  /-- The last word carried TRAP_OK, so that a micro-trap may be taken after it (R518); the words of the ROM's own programs end with one. -/
  trapOk : Bool := true
  /-- The current WAIT word has already acted (R498). -/
  inWait : Bool := false
  /-- The state under the micro-traps in progress, which the last TRET returns to. -/
  under : PilotState := .idle
  queue : List MacroInstr := []
  pram : Store (BitVec 112) := []
  /-- The macro-instruction loops that run: first and last instruction's MPC; their counts are in LC2 and LC3 (R550). -/
  loops : List (Nat × Nat) := []
  /-- Return addresses in S8 to S11 that are in use (R550). -/
  macroCalls : Nat := 0
deriving DecidableEq, Repr

/-- The boot sequence and internal reset (chapters 03 and 05): the running image, whether internal reset is held and by what, the
latched straps, the Basin clear, header retries and slots whose body failed, the image's Pilot patch. -/
structure Boot where
  held : Bool := true
  sagLow : Bool := false
  hot : Bool := false
  mode : Nat := 0
  testMode : Bool := false
  basins : Bool := false
  retries : List Nat := [0, 0]
  noAnswer : List Nat := []
  failed : List Nat := []
  imaged : Bool := false
  /-- Port records that took defaults, bit 2 when the whole record is missing (CONFIG_DEFAULT). -/
  configFault : Nat := 0
  imgSeq : Nat := 0
  imgRollback : Nat := 0
  fwVersion : Nat := 0
  patchId : Nat := 0
  patch : Bytes := []
  /-- VBAT_LOW has been written in this power-up (R81). -/
  vbatLogged : Bool := false
  /-- The RESET entry of the last reset, its CYCLE and PAYLOAD, which each session receives first (R873). -/
  resetEntry : Option (Word × Word) := none
deriving DecidableEq, Repr

/-- The Reclaim controller's parts that no register holds (chapter 24): domains held in reset with the lease that fenced them, the
HM's fences by target port, times of ARR domain resets, of automatic unfences by domain, when the HM's last fence ended. -/
structure Reclaim where
  inReset : List Nat := []
  unfenceAtRelease : List Nat := []
  hmPorts : List Nat := []
  arrResets : List Nat := []
  autoUnfences : List (Nat × Nat) := []
  hmFenceEnd : Option Nat := none
deriving DecidableEq, Repr

/-- One PTP instance (R751 to R753): its settings from the port configuration record, its role now, the best Announce heard, the Sync
that waits for its Follow_Up, the last complete Sync, the Delay_Req in flight with its transmit time, the mean path delay, the runs of
offsets that lock and unlock it, its sequence numbers by message kind. -/
structure PtpPort where
  role : Nat := 0
  udp : Bool := false
  oneStep : Bool := false
  domain : Nat := 0
  priority1 : Nat := 128
  priority2 : Nat := 128
  clockClass : Nat := 248
  logSync : Int := -3
  logAnnounce : Int := 1
  logDelay : Int := -3
  master : Bool := false
  parent : Option PtpMsg := none
  waiting : Option PtpMsg := none
  delaySeq : Option (Nat × Nat) := none
  delayNs : Int := 0
  /-- Receive time less origin time of the last complete Sync, corrected. -/
  diffNs : Int := 0
  locked : Bool := false
  lostMaster : Bool := false
  okRun : Nat := 0
  badRun : Nat := 0
  seqs : List Nat := [0, 0, 0]
  /-- MASK and GATEWAY of the port record (R729, R789). -/
  mask : Nat := 0
  gateway : Nat := 0
deriving DecidableEq, Repr

/-- PTP: whether the device acts as master, and the two instances. -/
structure Ptp where
  isMaster : Bool := false
  ports : List PtpPort := [{}, {}]
deriving DecidableEq, Repr

/-- A pump duty group as DUTY_SET gives it (R309, R842): MODE, ROTATE_S, the members by handle in rank order; seconds that the
member at rank 0 has run since it took that rank; the members and setpoints by rank before a changeover in progress (R843). -/
structure DutyGroup where
  mode : Nat
  rotateS : Nat
  members : List Nat
  ran : Nat := 0
  before : Option (List Nat × List Int) := none
deriving DecidableEq, Repr

/-- The wear counts of a VALVE or PUMP channel (R841), with the command at the last counted operation, RUNNING_IN as last seen, and
the microseconds that do not yet make a whole second. -/
structure Wear where
  operations : Nat := 0
  runUs : Nat := 0
  sinceUs : Nat := 0
  lastCmd : Int := 0
  running : Bool := false
  seenUs : Nat := 0
deriving DecidableEq, Repr

/-- A calibration run in progress (R835 to R838): the channel, REFERENCE, who is told, the sum and count of samples, cycles so far. -/
structure CalRun where
  slot : Nat
  reference : Int
  notify : Option Notify
  sum : Int := 0
  count : Nat := 0
  cycles : Nat := 0
deriving DecidableEq, Repr

/-- The result of the last run of a KIND (Table OPC-13). -/
structure CalResult where
  result : Nat := 2
  offset : Int := 0
  gainPpm : Int := 0
  cycle : Word := 0
deriving DecidableEq, Repr

/-- Calibration (R835 to R838): runs and results by KIND, x0 and ZERO_REF by slot, the new input scaling that takes effect at the next
boundary, the offset of SENSE in millivolts. -/
structure Calibration where
  runs : Store CalRun := []
  results : Store CalResult := []
  zeros : Store (Int × Int) := []
  senseOffsetMv : Int := 0
deriving DecidableEq, Repr

/-- A plausibility check of a channel (R838): whether it is set, the run of equal evaluations, the sample that FROZEN and PINNED
watch, since when, and whether the primary output has changed since. -/
structure Plaus where
  set : Bool := false
  run : Nat := 0
  sample : Int := 0
  sinceUs : Nat := 0
  output : Int := 0
  moved : Bool := false
  /-- When the condition last set (R850). -/
  setUs : Option Nat := none
deriving DecidableEq, Repr

/-- A trim collector's history of a channel (R832): u and y samples, oldest first. -/
structure TrimHist where
  collector : Nat := 0
  u : List Int := []
  y : List Int := []
deriving DecidableEq, Repr

/-- Drift tracking (R840): 3,600 times the smoothed holdover addend, the samples since it was last written to the journal, and whether it
stands in PTP_ADDEND for the present holdover. -/
structure Drift where
  sum : Int := 0
  samples : Nat := 0
  applied : Bool := false
deriving DecidableEq, Repr

/-- The scrub engine and the scrub slices (R828 to R831): the next byte of each Basin's sweep, and the slices granted in a cycle. -/
structure Scrub where
  basinPos : List Nat := [0, 0, 0, 0, 0]
  cycle : Word := 0
  slices : Nat := 0
deriving DecidableEq, Repr

/-! ### The bus, the debug unit and the watchdog (chapters 06, 16, 18) -/

/-- How a bus access ends: with data, with a bus error, with FENCED, with an ECC error (R177, R670, R676); and a load, store or write-back that
meets a parity error in a dirty line of the data cache (R623). -/
inductive BusStatus where
  | ok | error | fenced | ecc | parity
deriving DecidableEq, Repr

/-- The response that the last access command received, and the data of a read. -/
structure BusResp where
  status : BusStatus := .ok
  data : Bytes := []
deriving DecidableEq, Repr

/-- The debug unit (R177, R620): whether it halts the HM, whether one instruction may run, its sticky error, its breakpoints and
watchpoints, the value that the last register read returned. -/
structure Debug where
  halted : Bool := false
  stepping : Bool := false
  stickyErr : Bool := false
  breaks : Store Word := []
  watches : Store Word := []
  data : Word := 0
deriving DecidableEq, Repr

/-- An outstanding Fairway transaction: its request, the nanoseconds by which WAKING and WAKE_RETRY have extended its timer, how many
WAKE_RETRY answers it has had (R714, R715). -/
structure FwTid where
  req : FwPacket
  extNs : Nat := 0
  retries : Nat := 0
deriving DecidableEq, Repr

/-- How an initiator's transaction ended (R704, R709). -/
structure FwDone where
  node : Nat
  tid : Nat
  status : Nat
  data : Bytes := []
deriving DecidableEq, Repr

/-- The Fairway: outstanding transactions by node × 256 + TID, TIDs that wait 1,024 µs (R710), the wake buffers by node (R713),
responses on their way, requests that wait at their initiator for response space (R703), node 15's trace of captured heads with the words of
the oldest already read, the last transaction completed, and of the packets last injected together the place, source and the cycles in which
head and last flit arrived (R699). -/
structure Fairway where
  tids : Store FwTid := []
  quarantine : List (Nat × Nat) := []
  wake : Store FwPacket := []
  parked : List FwPacket := []
  responses : List FwPacket := []
  waiting : List FwPacket := []
  trace : List (List Word) := []
  tracePos : Nat := 0
  last : Option FwDone := none
  arrived : List (Nat × Nat × Nat) := []
deriving DecidableEq, Repr


/-! ### Ethernet (chapter 20) -/

/-- What the Harbour firmware hands to a MAC besides Tideline and Omneax: ARP replies, ICMP echo replies with the request's identifier and sequence number, PTP messages by kind (0 Sync,
1 Announce, 2 Delay_Req, 3 Follow_Up, 4 Delay_Resp, which names the request that it answers). -/
inductive NetTx where
  | arpReply (port mac ip : Nat)
  | echoReply (port mac ip echo : Nat) (data : Bytes)
  | ptp (port kind seq : Nat) (domain : Nat) (timeNs : Nat) (answers : Option PtpMsg := none)
deriving DecidableEq, Repr

/-- A frame on its way through a MAC's receive path (R737 to R740): its ring and class, the stored octets, the tag, the descriptors
that it has filled with their lengths, the octets already stored, and which of its DMA writes the Fairway fails (R755). -/
structure RxFill where
  ring : Nat
  cls : Nat
  bytes : Bytes
  tci : Option Nat
  sec : Nat
  ns : Nat
  filled : List (Nat × Nat) := []
  done : Nat := 0
  dataFails : Option Nat := none
  descFails : Bool := false
deriving DecidableEq, Repr

/-- What stands in queue 0 of a port (Table ETH-4): an ARP or ICMP reply, an Omneax reply, an event of a session over UDP. -/
inductive TxItem where
  | net
  | reply
  | event (session : Nat)
deriving DecidableEq, Repr

/-- A port's MAC: frames in the receive FIFO that wait for a descriptor (oldest first), the firmware's place in each ring, polls that
read link good in a row, the instants of the last echo replies, the Omneax datagrams in ring 1 that the firmware has not yet read, with their
tags, the octets of the last frame sent, FCS included, the queue whose frame is in progress, the places of queue 3's ring that a mark completed behind HEAD's frame, and what stands in queue 0, oldest first (R744). -/
structure Mac where
  fifo : List RxFill := []
  tails : List Nat := [0, 0, 0]
  goodRun : Nat := 0
  echoes : List Nat := []
  inbox : List (Option Nat × Bytes) := []
  sent : Bytes := []
  sending : Option Nat := none
  passed : List Nat := []
  order : List TxItem := []
deriving DecidableEq, Repr

/-! ### WATCH_MARK (chapter 04) -/

/-- What a holding register of WATCH_MARK holds: the number of the cycle that begins at the mark, and the low 32 bits of the mark in
microseconds (R112). -/
structure MarkHold where
  cycle : Word := 0
  markUs : Word := 0
deriving DecidableEq, Repr

/-- The holding registers of the destinations, and what each has sampled: 0 the Pilot, 1 TIMER, 2 and 3 the MACs (R112, Table CLK-4). -/
structure Marks where
  hold : List MarkHold := [{}, {}, {}, {}]
  taken : List MarkHold := [{}, {}, {}, {}]
deriving DecidableEq, Repr

/-! ### The Quay (chapter 15) -/

/-- The Quay's place in the job list, and whether jobs wait (R584). -/
structure Quay where
  jobs : Bool := false
  job : Nat := 0
deriving DecidableEq, Repr


/-! ### The Harbourmaster core (chapters 16 and 17) -/

/-- An entry of the FP exception queue FQ. -/
structure FqEntry where
  pc : Word
  instr : Word
  exc : Nat
deriving DecidableEq, Repr

/-- An FP instruction in flight (R647): its address and word, its FP destination (none where it writes an integer register or memory),
whether it holds the shared divider, and the exceptions it will write. -/
structure FpOp where
  pc : Word
  instr : Word
  dest : Option Nat
  divider : Bool
  exc : Nat
deriving DecidableEq, Repr

/-- A line of the data cache; `bad` while its tag or data hold a parity error (R593, R623). -/
structure CacheLine where
  bytes : Bytes
  dirty : Bool
  bad : Bool := false
deriving DecidableEq, Repr

/-- The processor's own state: G registers, L banks (window × 8 + number), H half-banks (window × 4 + number), HSR, WVM, TVEC, the
exception registers, the address of the next instruction, fault cause and address (R618), INTC_TAKEN (R610), whether it waits in WFI,
F registers, FSR less its queue fields, FQ, FP instructions in flight, the caches by line address. -/
structure Hm where
  g : List Word := List.replicate 8 0
  l : List Word := List.replicate 64 0
  h : List Word := List.replicate 32 0
  hsr : Word := 0
  wvm : BitVec 8 := 1
  tvec : Word := 0x01000000
  estat : Word := 0
  epc : Word := 0
  ecause : Word := 0
  pc : Word := 0
  fltCause : Nat := 0
  fltAddr : Word := 0
  taken : Nat := 0
  waiting : Bool := false
  f : List DWord := List.replicate 32 0
  fsr : Word := 0
  fq : List FqEntry := []
  flight : List FpOp := []
  dcache : Store CacheLine := []
  icache : List Nat := []
  /-- The lines of the instruction cache that hold a parity error (R593, R623). -/
  icacheBad : List Nat := []
deriving DecidableEq, Repr

/-! ### The state -/

/-- Everything the spec gives the machine, and the queue of commands that wait. -/
structure State where
  /-- Registers that differ from their reset value, by address (register tables). -/
  regs : Store Word := []
  /-- GUARD registers by block number (chapter 06). -/
  guards : Store Guard := []
  /-- Basins 0 to 3, by system address (chapter 18). -/
  mem : Memory := []
  /-- Basin words in error by the address of their 8 bytes: 1 correctable, 2 uncorrectable (R675, R676). -/
  memErr : Store Nat := []
  time : TimeBase := {}
  bbr : Bbr := {}
  otp : Otp := {}
  host : HostPorts := {}
  boot : Boot := {}
  ptp : Ptp := {}
  omx : Omneax := {}
  wc : WatchCycle := {}
  /-- The committed half of the channel table, by slot (R23). -/
  chans : Store Channel := []
  /-- The working half while a cycle is being computed (R23). -/
  chansWork : Option (Store Channel) := none
  /-- Current generation of each slot, where it is not 1 (R323). -/
  gens : Store Nat := []
  changes : List Pending := []
  programs : Store Program := []
  tl : Tideline := {}
  slip : Slipway := {}
  flash : Flash := {}
  journal : Journal := {}
  uarts : Store Uart := []
  cans : Store Can := []
  duty : Store DutyGroup := []
  wear : Store Wear := []
  cal : Calibration := {}
  /-- Trim collectors by slot, at most 8 (R832). -/
  trims : Store TrimHist := []
  /-- The slot that each trim collector last served (R832). -/
  trimLast : List (Option Nat) := List.replicate 8 none
  plaus : Store Plaus := []
  drift : Drift := {}
  scrub : Scrub := {}
  /-- Tideline frames handed to the MACs and not yet sent, oldest first. -/
  tx : List TxTl := []
  ves : Vessel := {}
  plain : Plain := {}
  pilot : Pilot := {}
  /-- Interrupt sources that a unit without an event register holds asserted until they are taken, one bit per source (R610). -/
  pulses : Nat := 0
  reclaim : Reclaim := {}
  bus : BusResp := {}
  /-- Accesses that a port holds until its Basin or field is ON (R685, R713). -/
  held : List BusReq := []
  /-- Basins whose write of RET or OFF waits until no access is pending, with the state asked for (R687). -/
  pwrWait : List (Nat × Nat) := []
  /-- Requests that the matrix holds back at their master ports (R667 to R669). -/
  atPort : List BusReq := []
  /-- The bursts that keep a HOLD path, by target port (R665). -/
  paths : List (Nat × BusReq) := []
  /-- The responses of the last MATRIX_REQUEST, by the place of the request in it. -/
  answers : List (Nat × BusResp) := []
  fw : Fairway := {}
  dbg : Debug := {}
  /-- Q-class values that wait for the end of a flash command or of an apply, which a write never aborts (Table REG-2). -/
  deferred : List (Nat × Word) := []
  /-- Clocks declared lost and not yet good again, one bit per code of R119. -/
  lostClocks : Nat := 0
  /-- When the window watchdog was last serviced, in TIME_US (R612). -/
  wdtUs : Nat := 0
  /-- Since when the inputs of the SENSE and the VDD_IO33 warn monitor have stayed below their thresholds, where they do; a write of the
  threshold or the filter starts the count anew (R84, R191). -/
  belowUs : List (Option Nat) := [none, none]
  /-- The present assertion of the warning has sent its SAGWARN request, an edge (R87, R521). -/
  sagAsked : Bool := false
  marks : Marks := {}
  hydroWork : Option HydroHalf := none
  /-- The two MACs, by port (chapter 20). -/
  macs : List Mac := [{}, {}]
  /-- Frames other than Tideline and Omneax handed to the MACs, oldest first. -/
  netOut : List NetTx := []
  quay : Quay := {}
  hm : Hm := {}
  /-- The model's own field: numbers the free values of `Config.freeWord` (log entry 1). -/
  freeCtr : Nat := 0
  /-- Commands that wait, first in first out. -/
  pending : List Instr := []
deriving DecidableEq, Repr

/-- The machine right after a power-on reset, before the boot ROM has run: every register at the value of its table, the
memories cleared, no session, no channel, no station, the watch cycle stopped, the queue empty. -/
def State.reset : State := {}

end Sys2Proof.Machine
end

