-- ==== Sys2Proof/Machine/Ops.lean ====
section
/-! DEFINITION. The named operations over registers, memory, time, free values and the black-box recorder. -/

namespace Sys2Proof.Machine

/-- What a command answers. -/
abbrev Out := Host.Outcome State Fault Refusal

/-! ### Registers -/

/-- The stored value of the register at an address. -/
def State.reg (s : State) (a : Nat) : Word := Store.get s.regs a (regReset a)

/-- The register file with one register set, in canonical form. -/
def State.setReg (s : State) (a : Nat) (v : Word) : State :=
  { s with regs := Store.set s.regs a v (regReset a) }

/-- Bits `hi:lo` of a register. -/
def State.fld (s : State) (a hi lo : Nat) : Nat := bits (s.reg a) hi lo

/-- One bit of a register. -/
def State.rbit (s : State) (a i : Nat) : Bool := bit (s.reg a) i

/-- A hardware update of bits `hi:lo` of a register. -/
def State.setFld (s : State) (a hi lo v : Nat) : State := s.setReg a (putBits (s.reg a) hi lo v)

/-- A hardware update of one bit of a register. -/
def State.setRbit (s : State) (a i : Nat) (b : Bool) : State := s.setReg a (putBit (s.reg a) i b)

/-- A hardware event sets bits of a register (R196: a bit set by hardware stays set). -/
def State.orReg (s : State) (a : Nat) (m : Word) : State := s.setReg a (s.reg a ||| m)

/-- A saturating counter field advances by `n`. -/
def State.addFld (s : State) (a hi lo n : Nat) : State :=
  s.setFld a hi lo (satU (hi + 1 - lo) (s.fld a hi lo + n))

/-! ### Free values -/

/-- The next free value; nothing constrains it (log entry 1). -/
def State.free (s : State) : DWord := Config.freeWord s.freeCtr

/-- The state after one free value has been used. -/
def State.usedFree (s : State) : State := { s with freeCtr := s.freeCtr + 1 }

/-- `n` bytes of free values from index `k`. -/
def freeBytes (k : Nat) : Nat → Bytes
  | 0 => []
  | n + 1 => (Config.freeWord k).setWidth 8 :: freeBytes (k + 1) n

/-! ### Time -/

/-- TIME_US (R748): whole microseconds of the TIME base. -/
def TimeBase.us (t : TimeBase) : Nat := t.sec * 1000000 + t.ns / 1000

/-- The TIME base set to a microsecond instant. -/
def TimeBase.atUs (t : TimeBase) (us : Nat) : TimeBase :=
  { t with sec := us / 1000000, ns := us % 1000000 * 1000, frac := 0 }

/-- TIME_US now. -/
def State.nowUs (s : State) : Nat := s.time.us

/-! ### The black-box recorder (R880 to R894) -/

/-- Whether an entry meets a freeze condition (R890); `mark` is a HOST_MARK with FREEZE. -/
def bbrFreezes (e : BbrEntry) (mark : Bool) : Bool := decide (e.severity ≥ 3) || e.event == 0x011 || mark

/-- TRIGGER of BB_STATUS for a trigger entry (R890). -/
def bbrTriggerCode (e : BbrEntry) (mark : Bool) : Nat := if e.event == 0x011 then 2 else if mark then 3 else 1

/-- Whether a port's domain is held in reset or fenced: its DMA fetches no frame, so none is sent (R717, R879, Table FLT-2). -/
def State.portShut (s : State) (port : Nat) : Bool := s.rbit Reg.reclaimFenced (5 + port) || s.reclaim.inReset.contains (5 + port)

/-- The appender (R881, R884, R890): places an entry at HEAD with the stamp register's time; while the ring is frozen the
entry is a post-trigger entry, or is refused and counted when none remains; an entry that meets a freeze condition triggers. -/
def State.bbrPut (s : State) (e : BbrEntry) (mark : Bool := false) : State :=
  let frozen := s.rbit Reg.bbrStatus 0
  let post := if frozen then s.bbr.postLimit else s.fld Reg.bbrPost 8 0
  let done := s.fld Reg.bbrPost 24 16
  if frozen && decide (done ≥ post) then
    (s.addFld Reg.bbrDropped 15 0 1).orReg Reg.bbrEvents 4
  else
    let head := s.fld Reg.bbrHead 11 0
    let e := { e with cycle := s.bbr.stampCycle, timeUs := s.bbr.stampUs, flags := if frozen then e.flags ||| 1 else e.flags }
    let s := { s with bbr := { s.bbr with ring := Store.insert s.bbr.ring head e, postSinceTick := s.bbr.postSinceTick || frozen } }
    let s := (s.setFld Reg.bbrHead 11 0 ((head + 1) % 4096)).addFld Reg.bbrWritten 31 0 1
    if frozen then
      let s := s.setFld Reg.bbrPost 24 16 (done + 1)
      if done + 1 ≥ post then s.orReg Reg.bbrEvents 2 else s
    else if bbrFreezes e mark then
      let s := (s.setFld Reg.bbrStatus 2 0 (1 + 2 * bbrTriggerCode e mark)).setFld Reg.bbrTrigger 11 0 head
      let s := ((s.setReg Reg.bbrTriggerCycle e.cycle).orReg Reg.bbrEvents 1).setFld Reg.bbrPost 24 16 0
      let s := { s with bbr := { s.bbr with postLimit := post } }
      if post = 0 then s.orReg Reg.bbrEvents 2 else s
    else s

/-- An entry appended by the Harbour firmware through port A (R882); in error mode the HM writes none (R901). -/
def State.bbrA (s : State) (event sev source : Nat) (payload : Word) (flags : Nat := 0) (mark : Bool := false) : State :=
  if s.rbit Reg.reclaimStatus 2 then s else s.bbrPut { event := event, severity := sev, source := source, flags := flags, cycle := 0, timeUs := 0, payload := payload } mark

/-- An entry appended by the Reclaim controller through port B, with WRITTEN_BY_RECLAIM set (R883). -/
def State.bbrB (s : State) (event sev source : Nat) (payload : Word) (flags : Nat := 0) : State :=
  s.bbrPut { event := event, severity := sev, source := source, flags := flags ||| 4, cycle := 0, timeUs := 0, payload := payload }

/-- The 16 bytes of an entry (Table BBR-1). -/
def BbrEntry.bytes (e : BbrEntry) : Bytes :=
  leBytes 2 (e.event % 4096 + 4096 * e.severity) ++ [BitVec.ofNat 8 e.source, BitVec.ofNat 8 e.flags] ++
    leBytes 4 e.cycle.toNat ++ leBytes 4 e.timeUs.toNat ++ leBytes 4 e.payload.toNat

/-- The ring slot at an index; a cleared slot reads as EMPTY (R880). -/
def State.bbrEntry (s : State) (i : Nat) : BbrEntry :=
  Store.get s.bbr.ring i { event := 0, severity := 0, source := 0, flags := 0, cycle := 0, timeUs := 0, payload := 0 }

/-! ### Guards (R183 to R188) -/

/-- The block number of a register address: address bits 23:16 (R188). -/
def blockOf (a : Nat) : Nat := a / 65536 % 256

/-- A block's guard; every guard is closed and clear after a device reset (R209). -/
def State.guard (s : State) (b : Nat) : Guard := Store.get s.guards b {}

/-- A block's guard set. -/
def State.setGuard (s : State) (b : Nat) (g : Guard) : State := { s with guards := Store.set s.guards b g {} }

/-- BLOCK_GUARD as read (chapter 06, Registers). -/
def Guard.word (g : Guard) : Word :=
  BitVec.ofNat 32 ((match g.holder with | some (m, _) => 1 + 2 * m | none => 0) + 16 * g.fault.toNat + 32 * g.denied.toNat +
    64 * g.cfgAbort.toNat + 256 * g.wrongRun + 65536 * g.faultMaster + 1048576 * g.faultNode)

/-! ### Channels, stations and other keyed parts -/

/-- A function applied to one channel, in the committed half and in the working half. -/
def State.updChan (s : State) (slot : Nat) (f : Channel → Channel) : State :=
  { s with chans := Store.modify s.chans slot f, chansWork := s.chansWork.map fun w => Store.modify w slot f }

/-- A station's record; a station never heard of is ABSENT in mode AUTO (R288). -/
def State.station (s : State) (id : Nat) : Station := Store.get s.tl.stations id {}

/-- A station's record set. -/
def State.setStation (s : State) (id : Nat) (x : Station) : State :=
  { s with tl := { s.tl with stations := Store.set s.tl.stations id x {} } }

/-- A write that a queue or handshake on the boundary of a lost clock accepts and discards (R117). -/
def State.dcqDrop (s : State) (n : Nat) : State := s.addFld Reg.clkgenDcqDrop 15 0 n

/-! ### The MACs' counters and what they are handed (R744, R747) -/

/-- A port's MAC. -/
def State.mac (s : State) (port : Nat) : Mac := s.macs.getD port {}

/-- A port's MAC set. -/
def State.setMac (s : State) (port : Nat) (m : Mac) : State := { s with macs := s.macs.set port m }

/-- The counters of a port, by the index of ETHn_CNT. -/
def ethCnt (port i : Nat) : Nat := (if port = 0 then Reg.eth0Cnt else Reg.eth1Cnt) + 4 * i

/-- A counter of a port advances (ETHn_CNT). -/
def State.ethCount (s : State) (port i n : Nat) : State := s.addFld (ethCnt port i) 31 0 n

/-- An event bit of a port. -/
def State.ethEvent (s : State) (port i : Nat) : State := s.setRbit (Reg.ethEvents + 65536 * port) i true

/-- TX_EN and LINK. -/
def State.txEn (s : State) (port : Nat) : Bool := s.rbit (Reg.ethCtrl + 65536 * port) 1
def State.linkUp (s : State) (port : Nat) : Bool := s.rbit (Reg.ethStatus + 65536 * port) 0

/-- Whether the MAC sends: link up and TX_EN set (R747). -/
def State.sends (s : State) (port : Nat) : Bool := s.linkUp port && s.txEn port

/-- The queue of a Tideline frame type (Table ETH-4). -/
def tlQueue (typ : Nat) : Nat := if typ = 0x11 ∨ typ = 0x12 ∨ typ = 0x13 then 3 else 1

/-- A frame handed to a queue of a port: a MAC between frames starts it; one that cannot send completes it with ABORTED and counts it (R744,
R747). `item` is its place in queue 0. -/
def State.queueTx (s : State) (port q : Nat) (item : List TxItem) (put : State → State) : State :=
  if s.sends port then
    let t := put s
    t.setMac port { t.mac port with sending := (t.mac port).sending.orElse fun _ => some q, order := (t.mac port).order ++ item }
  else (s.ethCount port 12 1).ethEvent port (3 + q)

/-- PTP_ADDEND as the PTP firmware sets it: in holdover the last correction stays frozen (R122). -/
def State.setAddend (s : State) (v : Word) : State := if s.rbit Reg.clkgenStatus 3 then s else s.setReg Reg.ptpAddend v

/-- Whether the supply warning holds (R86). -/
def State.warning (s : State) : Bool := s.rbit Reg.supmonStatus 0

/-- Whether the Harbour firmware is open (R163). -/
def State.harbourOpen (s : State) : Bool := s.rbit Reg.sysctlBootStatus 15

/-- Whether the device runs in the recovery state (R153). -/
def State.recovery (s : State) : Bool := s.rbit Reg.sysctlBootStatus 14

/-- Whether the Harbour firmware runs: an image or the ROM's own firmware, not a customer's program (R147). -/
def State.firmwareRuns (s : State) : Bool := s.boot.imaged && (!s.otp.openFw || s.recovery)

/-- The Harbour firmware sets a clock monitor's enable after it has enabled the unit that the clock serves, and clears it before it disables
that unit (R116); the OK bit of a disabled monitor reads 0. A customer's program makes its own settings. -/
def State.monitor (s : State) (i : Nat) (on : Bool) : State :=
  if !s.firmwareRuns then s
  else
    let t := s.setRbit Reg.clkgenMonEn i on
    if on then t else t.setRbit Reg.clkgenStatus (5 + i) false

/-- Whether a customer's program has the HM: no Omneax behaviour holds then (R147). -/
def State.customerRuns (s : State) : Bool := s.boot.imaged && s.otp.openFw && !s.recovery

/-- Whether the endpoint cannot answer: PERST_N is asserted or the PIPE clock is lost (R120, Table REG-3). -/
def State.pcieDown (s : State) : Bool := s.host.perst || s.lostClocks.testBit 5

/-- A destination of WATCH_MARK samples its holding register (R112): 0 the Pilot, 1 TIMER, 2 and 3 the MACs. -/
def State.sampleMark (s : State) (i : Nat) : State :=
  { s with marks := { s.marks with taken := s.marks.taken.set i (s.marks.hold.getD i {}) } }

/-- Whether the watch cycle runs: from an accepted CYCLE_START until the interrupt of the mark that ends it (R21, R22, R407). -/
def State.cycleOn (s : State) : Bool := s.wc.running || s.wc.startAtUs.isSome || s.wc.stopPending

/-- MARK of a frame: the running cycle's mark, or the last instant that is a whole multiple of P (R376, R378). -/
def State.frameMark (s : State) : Nat :=
  (if s.wc.running then s.wc.markUs else s.nowUs / s.wc.periodUs * s.wc.periodUs) % 4294967296

/-- CYCLE of ANNOUNCE: 0 while the cycle is stopped. -/
def State.frameCycle (s : State) : Nat := if s.wc.running then s.wc.cycle.toNat else 0

end Sys2Proof.Machine
end

