-- ==== Sys2Proof/Machine/Omneax.lean ====
section
/-! DEFINITION. Omneax packets, the checks of a request, sessions, replies and events (chapter 07). -/

namespace Sys2Proof

/-! ### Packets as bytes -/

/-- FLAGS bits of Table CMD-1. -/
def Packet.isReply (p : Packet) : Bool := p.flags.getLsbD 0
def Packet.isEvent (p : Packet) : Bool := p.flags.getLsbD 1
def Packet.isCont (p : Packet) : Bool := p.flags.getLsbD 2
def Packet.isAsync (p : Packet) : Bool := p.flags.getLsbD 3
def Packet.isAuth (p : Packet) : Bool := p.flags.getLsbD 4

/-- The 16-byte header (Table CMD-1). -/
def Packet.header (p : Packet) : Bytes :=
  [0x6D, 0x4F, BitVec.ofNat 8 p.version, p.flags, BitVec.ofNat 8 p.session, BitVec.ofNat 8 p.priority] ++
    leBytes 2 p.seq.toNat ++ leBytes 2 p.opcode ++ leBytes 2 p.handle ++ leBytes 2 p.payload.length ++ leBytes 2 p.status

/-- A packet on the wire: header, payload, CRC (R210). -/
def Packet.encode (p : Packet) : Bytes :=
  let b := p.header ++ p.payload
  b ++ leBytes 4 (Machine.crc32 b).toNat

/-- The header's fields and payload of a received unit (Table CMD-1). -/
def Packet.ofBytes (b : Bytes) : Packet :=
  { version := u8 b 2, flags := b.getD 3 0, session := u8 b 4, priority := u8 b 5, seq := BitVec.ofNat 16 (u16 b 6),
    opcode := u16 b 8, handle := u16 b 10, status := u16 b 14, payload := slice b 16 (u16 b 12) }

/-- The payload before the tag (R251). -/
def Packet.content (q : Packet) : Bytes := if q.isAuth then q.payload.take (q.payload.length - 16) else q.payload

/-- Whether an endpoint is on UDP. -/
def Endpoint.onUdp : Endpoint → Bool
  | .udp .. => true
  | _ => false

end Sys2Proof

namespace Sys2Proof.Machine

/-! ### Status codes (Table CMD-7) -/

namespace St
def ok : Nat := 0x0000
def accepted : Nat := 0x0001
def badCrc : Nat := 0x0101
def badLength : Nat := 0x0102
def badVersion : Nat := 0x0103
def unknownOpcode : Nat := 0x0104
def reservedBits : Nat := 0x0105
def invalidHandle : Nat := 0x0201
def staleHandle : Nat := 0x0202
def wrongType : Nat := 0x0203
def noSlot : Nat := 0x0301
def budget : Nat := 0x0302
def noMemory : Nat := 0x0303
def pointTaken : Nat := 0x0304
def wrongState : Nat := 0x0401
def dependent : Nat := 0x0402
def notController : Nat := 0x0403
def starting : Nat := 0x0501
def busySessions : Nat := 0x0502
def busy : Nat := 0x0503
def bracing : Nat := 0x0504
def authRequired : Nat := 0x0601
def authFailed : Nat := 0x0602
def tableCrc : Nat := 0x0701
def tableRange : Nat := 0x0702
def slipTruncated : Nat := 0x0703
def slipWrongDevice : Nat := 0x0704
def imageSignature : Nat := 0x0705
def internalFault : Nat := 0x0F01
end St

/-- The "Consumed" column of Table CMD-7, for results of an executed command. -/
def consumes (status : Nat) : Bool :=
  !([St.badCrc, St.badLength, St.badVersion, St.reservedBits, St.starting, St.busySessions, St.busy, St.authFailed].contains status)

/-! ### Opcodes (Table OPC-1) -/

/-- The defined command codes of Table OPC-1. -/
def opcodes : List Nat := [
  0x0001, 0x0002, 0x0003, 0x0004, 0x0005, 0x0006, 0x0007, 0x0008, 0x0009, 0x000A, 0x0101, 0x0102, 0x0103, 0x0104,
  0x0201, 0x0202, 0x0203, 0x0204, 0x0205, 0x0206, 0x0207, 0x0208, 0x0209, 0x020A, 0x020B, 0x020C,
  0x0301, 0x0302, 0x0303, 0x0304, 0x0305, 0x0401, 0x0402, 0x0403, 0x0404, 0x0405, 0x0406, 0x0407,
  0x0501, 0x0502, 0x0503, 0x0601, 0x0602, 0x0603, 0x0604, 0x0701, 0x0702, 0x0703, 0x0704, 0x0801, 0x0802,
  0x0901, 0x0902, 0x0903, 0x0904, 0x0905, 0x0A01, 0x0F01, 0x0F02, 0x0F03, 0x0F04]

/-- The sessionless opcodes of R216. -/
def sessionless (op : Nat) : Bool := [0x0001, 0x0002, 0x0003, 0x0007].contains op

/-- The commands that accept fragments: mark c of Table OPC-1 (R227). -/
def continuable (op : Nat) : Bool := [0x0302, 0x0401, 0x0405, 0x0501, 0x0601, 0x0F01, 0x0F02].contains op

/-- Mark rec of Table OPC-1 (R262). -/
def inRecovery (op : Nat) : Bool :=
  [0x0001, 0x0002, 0x0003, 0x0004, 0x0005, 0x0006, 0x0007, 0x0008, 0x0009, 0x000A, 0x0104, 0x0701, 0x0702, 0x0703, 0x0704,
   0x0F01].contains op

/-- Column Token of Table OPC-1, with its conditions on OP (CH_MODEL, DIAG: R315). -/
def needsToken (op : Nat) (p : Bytes) : Bool :=
  if op = 0x020B then u8 p 0 != 0
  else if op = 0x0F04 then [2, 4, 5].contains (u8 p 0)
  else [0x0008, 0x0101, 0x0102, 0x0103, 0x0201, 0x0202, 0x0203, 0x0204, 0x0205, 0x0206, 0x0207, 0x020A, 0x0302, 0x0303, 0x0304,
        0x0401, 0x0402, 0x0403, 0x0404, 0x0405, 0x0501, 0x0502, 0x0601, 0x0704, 0x0902, 0x0903, 0x0905, 0x0A01,
        0x0F01, 0x0F02, 0x0F03].contains op

/-- The commands that return BRACING while the warning holds: exactly the list of R270. -/
def bracingRefuses (op : Nat) (p : Bytes) : Bool :=
  [0x0102, 0x0902, 0x0F01, 0x0F03].contains op || (op == 0x0601 && u8 p 0 != 3) ||
    (op == 0x0302 && u8 p 3 % 2 == 1) || ((op == 0x0402 || op == 0x0501) && u8 p 0 % 2 == 1)

/-- The commands that carry a handle (R265, R278, R307, R308). -/
def carriesHandle (op : Nat) (p : Bytes) : Bool :=
  [0x0202, 0x0203, 0x0204, 0x0205, 0x0206, 0x0207, 0x0208, 0x020A, 0x020B, 0x020C, 0x0901, 0x0902].contains op ||
    (op == 0x0903 && (u8 p 0 == 1 || u8 p 0 == 2))

/-- Guarded commands (R252), less the first programming of the customer key (R314). -/
def guarded (s : State) (op : Nat) (p : Bytes) : Bool :=
  (op / 256 == 0x0F && !(op == 0x0F03 && u8 p 0 == 7 && s.otp.custKey.isNone)) || op == 0x0905 ||
    (op == 0x0601 && s.otp.slipSign)

/-- The largest LENGTH of an endpoint's transport (Table CMD-2). -/
def State.maxLength (s : State) : Endpoint → Nat
  | .pcie _ => 8172
  | .udp _ _ eth => min 8192 (s.omx.mtu.getD eth 1500 - 48)
  | .hspi => 8192

/-! ### Sessions -/

/-- An open session. -/
def State.session (s : State) (n : Nat) : Option Session := Store.find? s.omx.sessions n

/-- The largest LENGTH of a reply to a request: the tag of a request with AUTH takes 16 bytes of the unit (R213, R251). -/
def State.replyMax (s : State) (ep : Endpoint) (q : Packet) : Nat := s.maxLength ep - 16 * q.isAuth.toNat

/-- A function applied to one session. -/
def State.updSession (s : State) (n : Nat) (f : Session → Session) : State :=
  { s with omx := { s.omx with sessions := Store.modify s.omx.sessions n f } }

/-- Whether an endpoint has a session bound to it (R221). -/
def State.endpointBound (s : State) (ep : Endpoint) : Bool := s.omx.sessions.any fun p => decide (p.2.ep = ep)

/-- The open sessions as bits, bit n − 1 for session n (Table OPC-4). -/
def State.sessionBits (s : State) : Nat := s.omx.sessions.foldl (fun b p => b ||| 2 ^ (p.1 - 1)) 0

/-! ### MSI-X vectors and replies -/

/-- Whether an entry of the MSI-X table is masked. -/
def HostPorts.masked (h : HostPorts) (v : Nat) : Bool := bit (h.msix.getD (4 * v + 3) 1) 0

/-- An MSI-X vector fires, which HOST_IRQ_STATUS records (R238, R763, R764); a masked one stays in the pending bit array while MSI-X is enabled. -/
def State.raiseVector (s : State) (v : Nat) : State :=
  { s with host := { s.host with
      irqStatus := s.host.irqStatus ||| BitVec.ofNat 32 (2 ^ v)
      msixPending := if s.rbit Reg.pcieStatus 5 && s.host.masked v then s.host.msixPending ||| 2 ^ v else s.host.msixPending } }

/-- A mailbox pair. -/
def State.box (s : State) (n : Nat) : Mailbox := Store.get s.omx.boxes n {}

/-- A mailbox pair set. -/
def State.setBox (s : State) (n : Nat) (b : Mailbox) : State :=
  { s with omx := { s.omx with boxes := Store.set s.omx.boxes n b {} } }

/-- A packet leaves on its endpoint: into the reply buffer of a pair, never over an unacknowledged reply (R236); as a datagram
handed to the MAC (R239); or into the packets that wait for READ_PACKET (R246). -/
def State.send (s : State) (ep : Endpoint) (p : Packet) : State :=
  match ep with
  | .pcie n =>
    let b := s.box n
    if b.replyReady then s.setBox n { b with replyWait := b.replyWait ++ [p] }
    else (s.setBox n { b with replyBuf := some p, replyReady := true }).raiseVector n
  | .udp _ _ eth => s.queueTx eth 0 [.reply] fun t => { t with omx := { t.omx with udpOut := t.omx.udpOut ++ [(ep, p)] } }
  | .hspi => { s with omx := { s.omx with hspiWait := s.omx.hspiWait ++ [p] } }

/-- The reply to a request (R230), with a tag when the request carried AUTH (R251). -/
def mkReply (ks : Bytes) (q : Packet) (status : Nat) (handle : Nat) (payload : Bytes) (cont : Bool := false) : Packet :=
  let r : Packet := { version := 2, flags := BitVec.ofNat 8 (1 + 4 * cont.toNat), session := q.session, priority := 0, seq := q.seq,
                      opcode := q.opcode, handle := handle, status := status, payload := payload }
  if q.isAuth && !ks.isEmpty then
    let h := { r with flags := r.flags ||| 16, payload := payload ++ zeros 16 }
    { h with payload := payload ++ (hmac ks (h.header ++ payload)).take 16 }
  else r

/-! ### Events (R233, R234, R237) -/

/-- Space of an event share: bytes between producer and consumer, one unit kept free. -/
def Mailbox.space (b : Mailbox) : Nat := 16384 - 16 - (b.evProd + 16384 - b.evCons) % 16384

/-- An event packet written whole into the share at a 16-byte boundary, with the wrap word when it would not fit before the
end; dropped when the free space is less than the event (R237). -/
def Mailbox.putEvent (b : Mailbox) (p : Packet) : Mailbox × Bool :=
  let bytes := p.encode
  let room := (bytes.length + 15) / 16 * 16
  let wrap := decide (b.evProd + bytes.length > 16384)
  let need := if wrap then room + (16384 - b.evProd) else room
  if need > b.space then (b, false)
  else if wrap then
    ({ b with evRing := b.evRing ++ [(b.evProd, [0, 0]), (0, bytes)], evProd := room % 16384 }, true)
  else ({ b with evRing := b.evRing ++ [(b.evProd, bytes)], evProd := (b.evProd + room) % 16384 }, true)

/-- An event for one session: its number advances even when the event is dropped (R233). -/
def State.emitTo (s : State) (n : Nat) (code handle : Nat) (payload : Bytes) : State :=
  match s.session n with
  | none => s
  | some x =>
    let p : Packet := { version := 2, flags := 2, session := n, priority := 0, seq := x.evNum, opcode := code, handle := handle,
                        status := 0, payload := payload }
    let s := s.updSession n fun x => { x with evNum := x.evNum + 1 }
    match x.ep with
    | .pcie k =>
      match (s.box k).putEvent p with
      | (b, true) => (s.setBox k b).raiseVector (4 + k)
      | (_, false) => s
    | .udp _ _ eth =>
      if x.events.length < 64 then s.queueTx eth 0 [.event n] fun t => t.updSession n fun x => { x with events := x.events ++ [p] } else s
    | .hspi => if x.events.length < 64 then s.updSession n fun x => { x with events := x.events ++ [p] } else s

/-- An event for every open session (R234). -/
def State.emitAll (s : State) (code handle : Nat) (payload : Bytes) : State :=
  s.omx.sessions.foldl (fun t p => t.emitTo p.1 code handle payload) s

/-- A FAULT event to every session (Table OPC-15). -/
def State.emitFault (s : State) (severity source event : Nat) (payload : Word) : State :=
  s.emitAll 0x8006 0 (leBytes 1 severity ++ leBytes 1 source ++ leBytes 2 event ++ leBytes 4 s.wc.cycle.toNat ++
    leBytes 4 payload.toNat)

/-- A Harbour firmware BBR entry together with the FAULT event that tells the hosts of it. -/
def State.faultA (s : State) (event severity source : Nat) (payload : Word) : State :=
  (s.bbrA event severity source payload).emitFault severity source event payload

/-- COMPLETION to the session that issued a command (Table OPC-15, R232); the COMPLETION of a session that has ended is dropped (R224). -/
def State.emitCompletion (s : State) (n : Notify) (status : Nat) (cycle : Word) : State :=
  if ((s.session n.session).map fun x => x.opening) = some n.opening then
    s.emitTo n.session 0x8009 0 (leBytes 2 n.seq.toNat ++ leBytes 2 n.opcode ++ leBytes 2 n.handle ++ leBytes 2 status ++
      leBytes 4 cycle.toNat)
  else s

/-! ### The control token and the end of a session -/

/-- When the token changes hands the staging model, any open Slipway or FW_UPDATE staging, and the assemblies of those
commands are discarded (R274). The Slipway staging is cleared by `dropSlip`. -/
def State.dropStaging (s : State) : State :=
  { s with
    ves := { s.ves with staging := {} }
    slip := { s.slip with staging := none }
    omx := { s.omx with
      firmware := none
      sessions := Store.mapKV s.omx.sessions fun _ x =>
        match x.assembly with
        | some a => if [0x0401, 0x0601, 0x0F01].contains a.opcode then { x with assembly := none } else x
        | none => x } }

/-- The events of a session that is bound to a pair: what the host has not consumed of the pair's share is discarded (R224). -/
def State.dropEvents (s : State) (ep : Endpoint) : State :=
  match ep with
  | .pcie k => s.setBox k { s.box k with evRing := [], evProd := (s.box k).evCons }
  | _ => s

/-- The effects of R224: the token is released, the session's authentication, assembly, events, cached replies and requests
end, and the remaining sessions receive FAULT SESSION_VANISHED (R317). Its commands that wait in the interpreter queue still execute. -/
def State.endSession (s : State) (n : Nat) : State :=
  match s.session n with
  | none => s
  | some x =>
  let s := s.dropEvents x.ep
  let held := s.omx.token == n
  let payload := BitVec.ofNat 32 (n + 256 * held.toNat)
  let s := if held then { s with omx := { s.omx with token := 0 } }.dropStaging else s
  let s := { s with
    slip := { s.slip with staging := s.slip.staging.filter fun g => g.owner != n }
    omx := { s.omx with
      sessions := Store.erase s.omx.sessions n
      firmware := s.omx.firmware.filter fun g => g.owner != n } }
  s.faultA 0x043 1 0x13 payload

/-! ### Checks 4 to 10 of Table CMD-3 -/

/-- What the checks before execution answer. -/
inductive Verdict where
  | drop
  | quiet
  | again (reply : Packet)
  | hold
  | answer (status : Nat) (payload : Bytes)
  | go
deriving DecidableEq, Repr

/-- The effective PRIORITY of a request (R248). -/
def State.effPriority (s : State) (q : Packet) : Nat := if s.omx.token == q.session && q.session != 0 then q.priority else min q.priority 7

/-- The requests of a session that wait in the interpreter queue, in arrival order. -/
def State.waiting (s : State) (n : Nat) (ep : Endpoint) : List Req :=
  s.omx.interp.filter fun r => r.pkt.session == n && decide (r.ep = ep)

/-- Check 7: the request's SEQ against the session (R217 to R219, R241). The requests of the session that wait in the queue have the SEQs from
the expected value on, so the next request is the one behind them; a UDP session may have four outstanding. -/
def checkSeq (x : Session) (waiting : List Req) (q : Packet) : Verdict :=
  match x.cache.find? fun c => c.seq == q.seq with
  | some c => .again c.reply
  | none =>
    let ahead := (q.seq - x.expected).toNat
    if (waiting ++ x.heldReqs).any fun r => r.pkt.seq == q.seq then .quiet
    else if ahead = waiting.length ∧ (ahead = 0 ∨ x.ep.onUdp ∧ ahead ≤ 3) then .go
    else if x.ep.onUdp ∧ 1 ≤ ahead ∧ ahead ≤ 3 then .hold
    else .answer St.wrongState (leBytes 2 x.expected.toNat)

/-- The tag of R251 matches. -/
def tagOk (ks : Bytes) (q : Packet) : Bool :=
  decide (16 ≤ q.payload.length) &&
    (hmac ks (q.header ++ q.payload.take (q.payload.length - 16))).take 16 == q.payload.drop (q.payload.length - 16)

/-- Checks 8 and 9 of Table CMD-3: the status of the refusal, if any. Without a session key no tag is right (R251, R252). -/
def State.check89 (s : State) (x : Session) (q : Packet) : Option Nat :=
  if !(opcodes.contains q.opcode) then some St.unknownOpcode
  else if guarded s q.opcode q.content && !(q.isAuth && x.authed) then some St.authRequired
  else if q.isAuth && !(x.authed && tagOk x.ks q) then some St.authFailed
  else none

/-- Whether a transport can carry a reply before Harbour Open (R162): PCIe from CFG_READY, UDP from its port's receive enable, HSPI from
60 ms after POR release, which the model takes as the end of the image load. -/
def State.canReply (s : State) : Endpoint → Bool
  | .pcie _ => s.rbit Reg.sysctlBootStatus 17
  | .udp _ _ eth => s.rbit (Reg.ethCtrl + 65536 * eth) 0
  | .hspi => s.boot.imaged

/-- Whether the Harbour firmware hears a request on a transport: nothing does while a customer's program has the HM (R147), and before Harbour
Open a command on a transport that cannot carry a reply is lost (R162). -/
def State.hears (s : State) (ep : Endpoint) : Bool := s.harbourOpen || (!s.customerRuns && s.canReply ep)

/-- The answer STARTING with a retry-after of 10 to 400 ms, a multiple of 10 (R162). -/
def State.startingReply (s : State) : Bytes := leBytes 2 (10 + 10 * (s.free.toNat % 40))

/-- Check 2's LENGTH and checks 4 to 9 of Table CMD-3, in order. A request that checks 8 and 9 refuse waits for the earlier requests of its
session, whose replies leave before its own (R247). -/
def State.checkReq (s : State) (ep : Endpoint) (q : Packet) : Verdict :=
  if !s.hears ep then .quiet
  else if s.maxLength ep < q.payload.length then .answer St.badLength []
  else if !s.harbourOpen then .answer St.starting s.startingReply
  else if q.version != 2 then .answer St.badVersion []
  else if q.isReply || q.isEvent || q.flags.toNat ≥ 32 || q.priority ≥ 16 || q.status != 0 then .answer St.reservedBits []
  else if sessionless q.opcode && q.session == 0 then (if q.isAuth then .answer St.authFailed [] else .go)
  else if q.session == 0 then .answer St.wrongState []
  else match s.session q.session with
    | none => .answer St.wrongState []
    | some x =>
      if x.ep ≠ ep then .drop
      else match checkSeq x (s.waiting q.session ep) q with
        | .go => match s.check89 x q with
          | some st => if (s.waiting q.session ep).isEmpty then .answer st [] else .hold
          | none => .go
        | v => v

/-! ### Replies -/

/-- The last four of a session's cached replies (R218). -/
def lastFour (c : List Cached) : List Cached := c.drop (c.length - 4)

/-- Records the reply of a consumed SEQ: the expected SEQ advances and the last four replies are kept (R217, R218). -/
def Session.consume (x : Session) (seq : Half) (reply : Packet) : Session :=
  { x with
    expected := if x.expected == seq then seq + 1 else x.expected
    cache := lastFour (x.cache ++ [⟨seq, reply⟩]) }

/-- A result that does not consume its SEQ leaves the expected value at it (R217); requests that wait behind it are then ahead of the expected
value again, and are held for the gap (R241, R247). -/
def State.unconsumed (s : State) (n : Nat) (ep : Endpoint) : State :=
  let back := s.waiting n ep
  { s with omx := { s.omx with interp := s.omx.interp.filter fun r => !(r.pkt.session == n && decide (r.ep = ep)) } }.updSession n fun x =>
    { x with heldReqs := back ++ x.heldReqs }

/-- The session key that a request's reply is tagged with: that of its session, where the request comes from the session's endpoint. -/
def State.keyFor (s : State) (ep : Endpoint) (q : Packet) : Bytes :=
  match s.session q.session with
  | some x => if x.ep = ep then x.ks else []
  | none => []

/-- Three consecutive AUTH_FAILED results write AUTH_FAIL and start the lockout, and a FAULT event reports it (R253, R872). DESIGN CHOICE
(log entry 32): only a result that shows a right response or a right tag ends the run. -/
def State.noteAuth (s : State) (q : Packet) (proved : Bool) (status : Nat) : State :=
  if status = St.authFailed then
    if s.omx.authFailRun + 1 ≥ 3 then
      let s := { s with omx := { s.omx with authFailRun := 0, lockout := true } }
      s.faultA 0x042 2 0x13 (BitVec.ofNat 32 (q.session % 8))
    else { s with omx := { s.omx with authFailRun := s.omx.authFailRun + 1 } }
  else if proved then { s with omx := { s.omx with authFailRun := 0 } }
  else s

/-- Whether a result shows that its request carried a right tag or, for AUTH_RESPONSE, a right response: checks 9 and later let it pass. -/
def provedBy (q : Packet) (status : Nat) : Bool :=
  if status = St.unknownOpcode ∨ status = St.authRequired then false else q.isAuth || (q.opcode == 0x000A && status == St.ok)

/-- A reply to a request, its SEQ consumed as Table CMD-7 says; that of SESSION_OPEN carries SESSION 0 (R272). The reply is tagged with the key
that the session has when the reply leaves. DESIGN CHOICE (log entry 170): after a second AUTH_RESPONSE that is the new one. -/
def State.reply (s : State) (ep : Endpoint) (q : Packet) (status handle : Nat) (payload : Bytes) (cont : Bool := false) : State :=
  let r := mkReply (s.keyFor ep q) { q with session := if q.opcode = 0x0003 then 0 else q.session } status handle payload cont
  let s := s.noteAuth q (provedBy q status) status
  let s := if q.session = 0 || !(((s.session q.session).map fun x => decide (x.ep = ep)).getD true) then s
    else if consumes status then s.updSession q.session fun x => x.consume q.seq r
    else s.unconsumed q.session ep
  s.send ep r

/-- The failures of checks 2 to 5 and STARTING, whose replies carry no tag (R215). -/
def earlyStatus (status : Nat) : Bool := [St.badLength, St.badCrc, St.badVersion, St.reservedBits, St.starting].contains status

/-- A reply that leaves the session's SEQ as it is (R216, R219, R249, checks 2 to 5); from check 6 on it is tagged as R251 says. -/
def State.replyBare (s : State) (ep : Endpoint) (q : Packet) (status : Nat) (payload : Bytes) : State :=
  (s.noteAuth q false status).send ep (mkReply (if earlyStatus status then [] else s.keyFor ep q) q status q.handle payload)

/-- A discarded packet is counted (R214). -/
def State.countDiscard (s : State) : State := { s with omx := { s.omx with discards := s.omx.discards + 1 } }

/-- A packet of the session that names another opcode or handle discards the assembly (R229). -/
def State.dropOtherAssembly (s : State) (q : Packet) : State :=
  s.updSession q.session fun x =>
    match x.assembly with
    | some a => if a.opcode = q.opcode && a.handle = q.handle then x else { x with assembly := none }
    | none => x

/-- The answer of a verdict other than `go`. -/
def State.answer (s : State) (q : Req) : Verdict → State
  | .drop => s.countDiscard
  | .quiet => s
  | .again r => s.send q.ep r
  | .hold => s.updSession q.pkt.session fun x => { x with heldReqs := x.heldReqs ++ [q] }
  | .answer st pl =>
    if st = St.starting then s.usedFree.replyBare q.ep q.pkt st pl
    else if st = St.unknownOpcode || st = St.authRequired then (s.dropOtherAssembly q.pkt).reply q.ep q.pkt st q.pkt.handle pl
    else if st = St.authFailed then (s.dropOtherAssembly q.pkt).replyBare q.ep q.pkt st pl
    else s.replyBare q.ep q.pkt st pl
  | .go => s

/-! ### Execution -/

/-- What a command's body answers: the new state, the status, the handle and the payload of the reply. -/
structure Rep where
  state : State
  status : Nat := St.ok
  payload : Bytes := []
  handle : Nat := 0
  /-- What follows the reply: the close of R273, the COMPLETION of R267. -/
  after : State → State := id

/-- A refusal: no effect, a status and the payload that R266 or a command's entry gives. -/
def refuse (s : State) (status : Nat) (payload : Bytes := []) (handle : Nat := 0) : Rep :=
  { state := s, status := status, payload := payload, handle := handle }

/-- TABLE_RANGE or RESERVED_BITS with the offset of the first offending field (R266). -/
def refuseAt (s : State) (status off : Nat) (handle : Nat := 0) : Rep := refuse s status (leBytes 2 off) handle

/-- A payload of the wrong length (R266). -/
def refuseLen (s : State) (handle : Nat := 0) : Rep := refuseAt s St.tableRange 0xFFFF handle

/-- INTERNAL_FAULT: the command failed inside the device, and a BBR entry and a FAULT event follow (Table CMD-7, R263, Table BBR-3). -/
def failInside (s : State) (q : Packet) (payload : Bytes := []) : Rep :=
  { state := s, status := St.internalFault, payload := payload, after := fun t => t.faultA 0x037 3 0x13 (BitVec.ofNat 32 (q.opcode % 65536)) }

/-- The offset `i` of a reserved field of `n` bytes when one of its bytes is not zero (R266). -/
def firstNonZero (p : Bytes) (i n : Nat) : Option Nat :=
  if (List.range n).all fun k => u8 p (i + k) == 0 then none else some i

/-- The slot of a handle (R323). -/
def slotOf (h : Nat) : Nat := h % 1024

/-- The generation in a handle (R323). -/
def genOf (h : Nat) : Nat := h / 1024 % 64

/-- A slot's current generation: 1 until a destroy advances it (R323, R325). -/
def State.gen (s : State) (slot : Nat) : Nat := Store.get s.gens slot 1

/-- The handle that a slot has now. -/
def State.handleOf (s : State) (slot : Nat) : Nat := s.gen slot * 1024 + slot

/-- The check of a handle (R324): the status of a refusal, or the channel. -/
def State.checkHandle (s : State) (h : Nat) : Except Nat Channel :=
  if genOf h = 0 then .error St.invalidHandle
  else if genOf h ≠ s.gen (slotOf h) then .error St.staleHandle
  else match Store.find? s.chans (slotOf h) with
    | some c => .ok c
    | none => .error St.invalidHandle

/-- Parts 1 to 4 of check 11 (R264): recovery, token, bracing, handle. -/
def State.check11 (s : State) (q : Packet) : Option Nat :=
  if s.recovery && !inRecovery q.opcode then some St.wrongState
  else if needsToken q.opcode q.payload && !(s.omx.token == q.session && q.session != 0) then some St.notController
  else if s.warning && bracingRefuses q.opcode q.payload then some St.bracing
  else if carriesHandle q.opcode q.payload then
    match s.checkHandle q.handle with
    | .error e => some e
    | .ok _ => none
  else if q.handle ≠ 0 then some St.reservedBits
  else none

/-- The body of a command: the packet with the tag taken off and the assembly put before its payload. -/
abbrev Body := Endpoint → Packet → State → Rep

/-- A fragment that is not the last of a continuable command (R227 to R229): the assembly grows, its SEQ is consumed, and the reply sets
CONT; beyond 65,536 bytes the fragment returns BAD_LENGTH and the assembly is discarded. -/
def State.fragment (s : State) (q : Req) : State :=
  let s := s.dropOtherAssembly q.pkt
  if !continuable q.pkt.opcode then s.reply q.ep q.pkt St.reservedBits q.pkt.handle [] else
  let before := match (s.session q.pkt.session).bind fun x => x.assembly with
    | some a => a.bytes
    | none => []
  let all := before ++ q.pkt.content
  if all.length > 65536 then
    (s.updSession q.pkt.session fun x => { x with assembly := none }).reply q.ep q.pkt St.badLength q.pkt.handle []
  else
    let a : Assembly := { opcode := q.pkt.opcode, handle := q.pkt.handle, bytes := all }
    (s.updSession q.pkt.session fun x => { x with assembly := some a }).reply q.ep q.pkt St.ok q.pkt.handle [] true

/-- A request that passed checks 1 to 9: BUSY with a retry-after of 10 to 200 ms while the queue holds 16 (check 10, R249); a fragment that comes
first in its session is taken at once (R228); any other request waits in the interpreter queue. -/
def State.accept (s : State) (q : Req) : State :=
  if s.omx.interp.length ≥ 16 then s.usedFree.replyBare q.ep q.pkt St.busy (leBytes 2 (10 + s.free.toNat % 191))
  else if q.pkt.isCont && (s.waiting q.pkt.session q.ep).isEmpty then s.fragment q
  else { s with omx := { s.omx with interp := s.omx.interp ++ [q] } }

/-- The next held request of a session whose SEQ has come up is checked and accepted (R241); none where no request can follow. -/
def State.releaseOne (s : State) (n : Nat) : Option State :=
  match s.session n with
  | none => none
  | some x =>
    match x.heldReqs.find? fun q => (q.pkt.seq - x.expected).toNat == (s.waiting n q.ep).length with
    | none => none
    | some q =>
      let t := s.updSession n fun x => { x with heldReqs := x.heldReqs.filter fun r => r.pkt.seq != q.pkt.seq }
      match t.checkReq q.ep q.pkt with
      | .hold => none
      | .go => some (t.accept q)
      | v => some (t.answer q v)

/-- What follows in a session once its first request has been answered: a fragment that now comes first is taken (R228, R247), and held
requests whose gap has filled are accepted (R241). At most four requests of a session are outstanding, so eight rounds serve all. -/
def State.settle (s : State) (n : Nat) : Nat → State
  | 0 => s
  | fuel + 1 =>
    match s.omx.interp.find? fun r => r.pkt.session == n && n != 0 with
    | some q =>
      if q.pkt.isCont then ({ s with omx := { s.omx with interp := s.omx.interp.erase q } }.fragment q).settle n fuel
      else match s.releaseOne n with
        | some t => t.settle n fuel
        | none => s
    | none => match s.releaseOne n with
      | some t => t.settle n fuel
      | none => s

/-- A request that arrives: the checks, then the queue (R214). -/
def State.arrive (s : State) (q : Req) : State :=
  (match s.checkReq q.ep q.pkt with
    | .go => s.accept q
    | v => s.answer q v).settle q.pkt.session 8

/-- The packet that a command's body reads: the bytes of the assembly that it closes stand before its own (R230). -/
def State.bodyPacket (s : State) (p : Packet) : Packet :=
  let before := match ((s.dropOtherAssembly p).session p.session).bind fun x => x.assembly with
    | some a => a.bytes
    | none => []
  { p with payload := before ++ p.content }

/-- The state in which a command's body runs: no assembly of its session is left (R229, R230). -/
def State.bodyState (s : State) (p : Packet) : State :=
  (s.dropOtherAssembly p).updSession p.session fun x => { x with assembly := none }

/-- The end of a command: its reply, what follows the reply, and the next held request of its session. -/
def Rep.finish (r : Rep) (q : Req) : State :=
  (r.after (r.state.reply q.ep q.pkt r.status (if r.handle = 0 then q.pkt.handle else r.handle) r.payload)).settle q.pkt.session 8

/-- Executes a request that passed checks 1 to 10: check 11, then the body, then the reply (R264, R230). -/
def State.runBody (s : State) (q : Req) (body : Body) : State :=
  let full := s.bodyPacket q.pkt
  let u := s.bodyState q.pkt
  let r := if full.payload.length > 65536 then refuse u St.badLength [] q.pkt.handle else match u.check11 full with
    | some st => refuse u st (if st = St.reservedBits then leBytes 2 0xFFFF else []) q.pkt.handle
    | none => body q.ep full u
  r.finish q

/-- The waiting requests that come first in their sessions; a request of session 0 waits for none (R247). -/
def firstOfEach (l : List Req) : List Req :=
  l.foldl (fun (h : List Req) q => if q.pkt.session != 0 && h.any (fun x => x.pkt.session == q.pkt.session) then h else h ++ [q]) []

/-- The waiting request that the interpreter takes next: the highest effective PRIORITY, then arrival order (R247). -/
def State.interpNext (s : State) : Option Req :=
  (firstOfEach s.omx.interp).foldl (fun best q =>
    match best with
    | none => some q
    | some b => if s.effPriority q.pkt > s.effPriority b.pkt then some q else some b) none

/-- The link-layer address of a UDP endpoint is that of its latest request (R733). -/
def State.heard (s : State) (q : Req) : State :=
  if q.ep.onUdp then
    { s with omx := { s.omx with peers := (s.omx.peers.filter fun x => decide (x.1 ≠ q.ep)) ++ [(q.ep, { mac := q.mac, tci := q.tci })] } }
  else s

/-- Whether a request that arrives now executes at once: it passes the checks, is whole, and the interpreter queue is empty. -/
def State.runsNow (s : State) (q : Req) : Bool :=
  decide (s.checkReq q.ep q.pkt = .go) && s.omx.interp.isEmpty && !q.pkt.isCont

/-- A command row: a request that waits in the interpreter queue executes when R247 puts it first; a request that is not in the
queue arrives now, passes the checks and executes, or waits behind the requests that are queued. -/
def State.runCommand (s : State) (q : Req) (body : Body) : Out :=
  if s.omx.interp.contains q then
    if s.interpNext = some q then
      .next ({ s with omx := { s.omx with interp := s.omx.interp.erase q } }.runBody q body)
    else .next s
  else if (s.heard q).runsNow q then .next ((s.heard q).runBody q body)
  else .next ((s.heard q).arrive q)

/-- The reply status of a change of cycle state: ACCEPTED with ASYNC, OK without (R232). -/
def changeStatus (q : Packet) : Nat := if q.isAsync then St.accepted else St.ok

/-- Who is told by COMPLETION, when ASYNC asks for it. -/
def State.notifyOf (s : State) (q : Packet) (long : Bool := false) : Option Notify :=
  if q.isAsync || long then
    some { session := q.session, opening := ((s.session q.session).map fun x => x.opening).getD 0, seq := q.seq, opcode := q.opcode,
           handle := q.handle }
  else none

end Sys2Proof.Machine
end

