-- ==== Sys2Proof/Machine/Channels.lean ====
section
/-! DEFINITION. Channel parameter blocks, roles, model blocks, admission cost and budget, and changes that wait for a cycle
(chapter 09; R27 to R31, R329 to R338, R361). -/

namespace Sys2Proof.Machine

/-! ### Types -/

/-- The type that a TYPE code names (Table CHN-1, in its order). -/
def chType? : Nat → Option ChType
  | 1 => some .level
  | 2 => some .valve
  | 3 => some .pump
  | 4 => some .loop
  | 5 => some .derived
  | 6 => some .margin
  | 7 => some .custom
  | _ => none

/-- A type's code. -/
def ChType.code : ChType → Nat
  | .level => 1
  | .valve => 2
  | .pump => 3
  | .loop => 4
  | .derived => 5
  | .margin => 6
  | .custom => 7

/-- The code of a channel state (Table OPC-3). -/
def ChState.code : ChState → Nat
  | .defined => 1
  | .bound => 2
  | .armed => 3
  | .active => 4
  | .adrift => 5
  | .safed => 6
  | .faulted => 7

/-- The states in which a channel runs its kernel (R340). -/
def ChState.runs : ChState → Bool
  | .armed | .active | .adrift => true
  | _ => false

/-! ### Parameter block fields (Tables CHN-2 and CHN-3) -/

def pInputGrace (p : Bytes) : Nat := u8 p 2
def pAdriftMs (p : Bytes) : Nat := u32 p 4
def pSafeAction (p : Bytes) : Nat := u8 p 8
def pSafeValue (p : Bytes) : Int := s32 p 12
def pSafeRate (p : Bytes) : Nat := u32 p 16
def pSpMin (p : Bytes) : Int := s32 p 20
def pSpMax (p : Bytes) : Int := s32 p 24
def pHiLimit (p : Bytes) : Int := s32 p 28
def pLoLimit (p : Bytes) : Int := s32 p 32
def pLimitEn (p : Bytes) : Bool := u8 p 1 % 2 == 1
def pDiscBand (p : Bytes) : Nat := u32 p 36
def pDiscCycles (p : Bytes) : Nat := u16 p 40
def pInGain (p : Bytes) : Int := s32 p 44
def pInOffset (p : Bytes) : Int := s32 p 48
def pOutGain (p : Bytes) : Int := s32 p 52
def pOutOffset (p : Bytes) : Int := s32 p 56

/-- The block length of a type (Table CHN-3). -/
def blockLength (t : ChType) (p : Bytes) : Nat :=
  match t with
  | .level | .valve | .pump => 80
  | .loop => 96
  | .derived => 132
  | .margin => 72
  | .custom => 72 + u16 p 66

/-- A check of one field: its offset, whether it holds, and the status of its failure. -/
structure FieldCheck where
  off : Nat
  good : Bool
  status : Nat := St.tableRange
deriving DecidableEq, Repr

/-- The bytes of a reserved field must be zero (R266, R333). -/
def zChecks (p : Bytes) (off n : Nat) : List FieldCheck :=
  [⟨off, (List.range n).all fun k => u8 p (off + k) == 0, St.reservedBits⟩]

/-- A dependency index: 0 to 7 or 0xFF (R332). -/
def depIndexOk (n : Nat) : Bool := decide (n ≤ 7) || n == 0xFF

/-- The header checks in order of offset (R329, R333). -/
def headerChecks (t : ChType) (p : Bytes) : List FieldCheck :=
  [⟨0, u8 p 0 == t.code, St.tableRange⟩, ⟨1, decide (u8 p 1 ≤ 1), St.tableRange⟩, ⟨2, decide (1 ≤ u8 p 2), St.tableRange⟩,
   ⟨4, decide (u32 p 4 ≤ 600000), St.tableRange⟩, ⟨8, decide (u8 p 8 ≤ 2), St.tableRange⟩] ++ zChecks p 9 3 ++
  [⟨24, decide (pSpMin p ≤ pSpMax p), St.tableRange⟩, ⟨32, decide (pLoLimit p ≤ pHiLimit p), St.tableRange⟩,
   ⟨36, decide (1 ≤ pDiscBand p), St.tableRange⟩, ⟨40, decide (1 ≤ u16 p 40) && decide (u16 p 40 ≤ 1000), St.tableRange⟩] ++
  zChecks p 42 2 ++
  [⟨52, if t = .derived || t = .margin then pOutGain p == 0 else true, St.tableRange⟩] ++ zChecks p 60 4

/-- The checks of term `i` of a DERIVED block. -/
def termChecks (p : Bytes) (i : Nat) : List FieldCheck :=
  let o := 68 + 8 * i
  [⟨o, decide (u8 p o ≤ 1), St.tableRange⟩,
   ⟨o + 1, if u8 p o = 0 then decide (u8 p (o + 1) ≤ 7) else decide (1 ≤ u8 p (o + 1)) && decide (u8 p (o + 1) ≤ 8), St.tableRange⟩] ++
  zChecks p (o + 2) 2

/-- The number of terms that OP asks for (Table CHN-3). -/
def nTermsOk (op n : Nat) : Bool :=
  if op = 3 then n == 2 else if op = 4 || op = 5 then n == 1 else decide (1 ≤ n) && decide (n ≤ 8)

/-- The checks of the type part, in order of offset (Table CHN-3). -/
def typeChecks (t : ChType) (p : Bytes) : List FieldCheck :=
  match t with
  | .level =>
    [⟨64, decide (u16 p 64 ≤ 511) || u16 p 64 == 0xFFFF, St.tableRange⟩,
     ⟨66, decide (1 ≤ u8 p 66) && decide (u8 p 66 ≤ 64), St.tableRange⟩, ⟨67, depIndexOk (u8 p 67), St.tableRange⟩,
     ⟨68, decide (0 ≤ s32 p 68), St.tableRange⟩, ⟨72, decide (0 ≤ s32 p 72), St.tableRange⟩] ++ zChecks p 76 4
  | .valve =>
    [⟨64, decide (u8 p 64 ≤ 1), St.tableRange⟩] ++ zChecks p 65 3 ++
    [⟨68, decide (1000 ≤ u32 p 68) && decide (u32 p 68 ≤ 180000), St.tableRange⟩, ⟨72, decide (0 ≤ s32 p 72), St.tableRange⟩] ++
    zChecks p 76 4
  | .pump =>
    [⟨64, decide (u8 p 64 ≤ 1), St.tableRange⟩, ⟨65, depIndexOk (u8 p 65), St.tableRange⟩,
     ⟨66, decide (u16 p 66 ≤ 3600), St.tableRange⟩, ⟨68, decide (u16 p 68 ≤ 3600), St.tableRange⟩,
     ⟨70, decide (u16 p 70 ≤ 60), St.tableRange⟩, ⟨72, decide (u32 p 72 ≤ 120000), St.tableRange⟩] ++ zChecks p 76 4
  | .loop =>
    [⟨64, depIndexOk (u8 p 64), St.tableRange⟩, ⟨65, depIndexOk (u8 p 65), St.tableRange⟩, ⟨66, decide (u8 p 66 ≤ 1), St.tableRange⟩] ++
    zChecks p 67 1 ++
    [⟨72, u32 p 72 == 0 || (decide (100 ≤ u32 p 72) && decide (u32 p 72 ≤ 3600000)), St.tableRange⟩,
     ⟨80, decide (s32 p 76 < s32 p 80), St.tableRange⟩, ⟨92, decide (s32 p 88 < s32 p 92), St.tableRange⟩]
  | .derived =>
    [⟨64, decide (u8 p 64 ≤ 5), St.tableRange⟩, ⟨65, nTermsOk (u8 p 64) (u8 p 65), St.tableRange⟩] ++ zChecks p 66 2 ++
    (List.range 8).flatMap (termChecks p)
  | .margin =>
    [⟨64, decide (1 ≤ u8 p 64) && decide (u8 p 64 ≤ 6), St.tableRange⟩,
     ⟨65, u8 p 65 == 0 || (u8 p 65 == 1 && decide (5 ≤ u8 p 64)), St.tableRange⟩, ⟨66, decide (u16 p 66 ≤ 255), St.tableRange⟩] ++
    zChecks p 68 4
  | .custom =>
    [⟨64, decide (1 ≤ u16 p 64) && decide (u16 p 64 ≤ 255), St.tableRange⟩,
     ⟨66, decide (u16 p 66 ≤ 952) && u16 p 66 % 4 == 0, St.tableRange⟩, ⟨68, decide (u8 p 68 ≤ 1), St.tableRange⟩] ++ zChecks p 69 3

/-- The first failing field of a parameter block (R333). -/
def badField (t : ChType) (p : Bytes) : Option FieldCheck :=
  (headerChecks t p ++ typeChecks t p).find? fun c => !c.good

/-- Whether a byte range touches a disarm-only field (column Change of Tables CHN-2 and CHN-3). -/
def touchesD (t : ChType) (p : Bytes) (off len : Nat) : Bool :=
  let hit (lo n : Nat) : Bool := decide (off < lo + n) && decide (lo < off + len)
  hit 44 16 || match t with
    | .level => hit 64 2 || hit 67 1
    | .valve => hit 64 1
    | .pump => hit 64 2
    | .loop => hit 64 2
    | .derived => hit 64 2 || (List.range (min 8 (u8 p 65))).any fun i => hit (68 + 8 * i) 2
    | .margin => hit 64 4
    | .custom => hit 64 5

/-! ### Roles (Table CHN-1) -/

/-- A role of a type: number, whether it is IN, whether it is required under the channel's parameters. -/
structure RoleDef where
  role : Nat
  isIn : Bool
  required : Bool
deriving DecidableEq, Repr

/-- The roles that a kernel image declares (Table PIS-6). -/
def imageRoles (img : Bytes) : List RoleDef :=
  (List.range (u8 img 7)).map fun i => ⟨u8 img (32 + 4 * i), u8 img (33 + 4 * i) == 0, u8 img (34 + 4 * i) == 1⟩

/-- The roles of a channel (R328). -/
def State.rolesOf (s : State) (t : ChType) (p : Bytes) : List RoleDef :=
  match t with
  | .level => [⟨1, true, true⟩, ⟨2, true, false⟩, ⟨3, false, false⟩]
  | .valve => [⟨1, false, true⟩, ⟨2, true, true⟩, ⟨3, true, false⟩, ⟨4, true, false⟩]
  | .pump => [⟨1, false, true⟩, ⟨2, true, true⟩, ⟨3, false, u8 p 64 == 1⟩, ⟨4, true, false⟩]
  | .loop => [⟨1, true, u8 p 64 == 0xFF⟩, ⟨2, false, true⟩]
  | .derived => (List.range 8).map fun i => ⟨i + 1, true,
      (List.range (min 8 (u8 p 65))).any fun k => u8 p (68 + 8 * k) == 1 && u8 p (69 + 8 * k) == i + 1⟩
  | .margin => []
  | .custom => match Store.find? s.programs (u16 p 64) with
    | some g => imageRoles g.image
    | none => []

/-- Whether every required role is bound (R282, R337). -/
def State.allBound (s : State) (c : Channel) : Bool :=
  (s.rolesOf c.typ c.params).all fun r => !r.required || c.roles.any fun b => b.role == r.role

/-- The dependency indices that a parameter block names (R359). -/
def namedDeps (t : ChType) (p : Bytes) : List Nat :=
  match t with
  | .level => [u8 p 67].filter fun x => x != 0xFF
  | .pump => [u8 p 65].filter fun x => x != 0xFF
  | .loop => [u8 p 64, u8 p 65].filter fun x => x != 0xFF
  | .derived => ((List.range (min 8 (u8 p 65))).filter fun k => u8 p (68 + 8 * k) == 0).map fun k => u8 p (69 + 8 * k)
  | _ => []

/-- Whether a channel's type accepts a setpoint (R354). -/
def hasSetpoint (c : Channel) : Bool :=
  match c.typ with
  | .derived | .margin => false
  | .custom => u8 c.params 68 % 2 == 1
  | _ => true

/-- The primary output's role (Table CHN-1). -/
def primaryRole : ChType → Option Nat
  | .level => some 3
  | .valve | .pump | .custom => some 1
  | .loop => some 2
  | _ => none

/-! ### The model block (Table CHN-5) -/

/-- CH_MODEL WRITE's checks, in order of offset (R361). -/
def modelChecks (t : ChType) (m : Bytes) : List FieldCheck :=
  let k := u8 m 0
  [⟨0, decide (k ≤ 2) && (k == 0 || !(t == .derived || t == .margin)), St.tableRange⟩,
   ⟨1, decide (u8 m 1 ≤ 1) && (u8 m 1 == 0 || k == 1), St.tableRange⟩] ++ zChecks m 2 2 ++
  [⟨4, k == 0 || (decide (s32 m 24 ≤ s32 m 4) && decide (s32 m 4 ≤ s32 m 28)), St.tableRange⟩,
   ⟨8, k == 0 || (decide (1 ≤ u32 m 8) && decide (u32 m 32 ≤ u32 m 8) && decide (u32 m 8 ≤ u32 m 36)), St.tableRange⟩,
   ⟨12, if k = 2 then decide (u32 m 40 ≤ u32 m 12) && decide (u32 m 12 ≤ u32 m 44) else u32 m 12 == 0, St.tableRange⟩,
   ⟨16, decide (u32 m 16 ≤ 60000) && (k == 0 || (decide (u32 m 48 ≤ u32 m 16) && decide (u32 m 16 ≤ u32 m 52))), St.tableRange⟩,
   ⟨28, decide (s32 m 24 ≤ s32 m 28), St.tableRange⟩, ⟨36, decide (u32 m 32 ≤ u32 m 36), St.tableRange⟩,
   ⟨44, decide (u32 m 40 ≤ u32 m 44), St.tableRange⟩, ⟨52, decide (u32 m 48 ≤ u32 m 52), St.tableRange⟩]

/-! ### Points -/

/-- Whether any channel binds an output point (R338): the slot and role that hold it. -/
def State.pointUser (s : State) (station point : Nat) : Option (Nat × Nat) :=
  s.chans.findSome? fun (slot, c) =>
    (c.roles.find? fun b => b.station == station && b.point == point &&
      (s.rolesOf c.typ c.params).any fun r => r.role == b.role && !r.isIn).map fun b => (slot, b.role)

/-- Stations with at least one output point bound to a channel that runs (R16, R389). -/
def State.outputStations (s : State) (chans : Store Channel) : List Nat :=
  (chans.flatMap fun (_, c) =>
    if c.state.runs then
      (c.roles.filter fun b => (s.rolesOf c.typ c.params).any fun r => r.role == b.role && !r.isIn).map fun b => b.station
    else []).eraseDups

/-! ### Admission (R27 to R31) -/

/-- The worst-case kernel cost of a channel type (Table SYS-7; one cost whatever the number of channels). -/
def kernelCost : ChType → Nat
  | .level => 38000
  | .valve => 26000
  | .pump => 31000
  | .loop => 54000
  | .derived => 22000
  | .margin => 9000
  | .custom => 0

/-- The per-cycle slice of the hydrostatics cost (R35). -/
def hydroSlice (h n : Nat) : Nat := if n ≤ 1 then h else ceilDiv h n + 2000

/-- Tanks and sections of the live model. -/
def State.modelSize (s : State) : Nat × Nat :=
  match s.ves.half.live with
  | some m => (m.tanks.length, m.sections.length)
  | none => (0, 0)

/-- The compare cost of mirror mode while any pair is enabled (R480). -/
def mirrorCost (pairs : Nat) : Nat := if pairs % 256 = 0 then 0 else 2060

/-- The channels of a table that run, by field: armed berths, input entries and output entries of each field that holds any (R579). -/
def State.fieldLoads (s : State) (chans : Store Channel) : List (Nat × Nat × Nat) :=
  (List.range 16).filterMap fun f =>
    let l := chans.filter fun p => p.2.state.runs && p.1 / 64 == f
    let bound (isIn : Bool) : Nat := (l.map fun p =>
      (p.2.roles.filter fun b => (s.rolesOf p.2.typ p.2.params).any fun r => r.role == b.role && r.isIn == isIn).length).foldl (· + ·) 0
    if l.isEmpty then none else some (l.length, bound true, bound false)

/-- The ARR frequency in MHz (R29). -/
def State.arrMhz (s : State) : Nat := if s.rbit Reg.clkgenStatus 13 then 200 else 400

/-- LOAD's admitted cost (R579). A field that holds armed berths lies in RET between cycles (R474), so its wake counts. -/
def loadCost (f : Nat) (l : List (Nat × Nat × Nat)) : Nat :=
  let sl := 136 + (l.map fun x => max (8 + 2 * x.1 + 4 * x.2.1) 170).foldl (· + ·) 0
  (if l.isEmpty then 0 else ceilDiv (3 * f) 2) + ceilDiv (f * sl) 250 + 136

/-- UNLOAD's admitted cost without the compare (R579). -/
def unloadCost (f : Nat) (l : List (Nat × Nat × Nat)) : Nat :=
  let su := 8 + (l.map fun x => max (8 + 14 * x.1 + 6 * x.2.2) 180).foldl (· + ·) 0
  144 + ceilDiv (f * su) 250

/-- The foreground cost C (R27) of a channel table at a decimation, a model size and a set of mirror pairs. -/
def State.costOf (s : State) (chans : Store Channel) (dec : Nat) (size : Nat × Nat) (pairs : Nat) : Nat :=
  let armed := chans.filter fun p => p.2.state.runs
  let types := [ChType.level, .valve, .pump, .loop, .derived, .margin].filter fun t => armed.any fun p => p.2.typ == t
  let fixed := (types.map kernelCost).foldl (· + ·) 0
  let custom := (armed.filter fun p => p.2.typ == .custom).foldl (fun n p =>
    n + ((Store.find? s.programs (u16 p.2.params 64)).map fun g => g.worstCost).getD 0) 0
  let hydro := if size.2 = 0 then 0 else hydroSlice (Config.hydroCost size.1 size.2) dec
  let l := s.fieldLoads chans
  loadCost s.arrMhz l + fixed + custom + hydro + Config.limitsCost armed.length + unloadCost s.arrMhz l + mirrorCost pairs

/-- The frame-build allowance B in µs (R16). -/
def State.frameBuild (s : State) (chans : Store Channel) : Nat := 100 + 3 * (s.outputStations chans).length

/-- The gather window in µs, truncated (R15). -/
def gatherUs (period pct : Nat) : Nat := period * pct / 100

/-- The foreground window in Plain cycles (R29). -/
def windowCycles (f p g l b : Nat) : Int := f * ((p : Int) - g - l - b)

/-- The floor shortfall s that Ebb work takes from the window (R29). -/
def shortfall (f p g l b : Nat) : Int :=
  max 0 ((ceilDiv (f * p * 5) 100 : Nat) - ((f * p : Nat) - windowCycles f p g l b))

/-- The foreground budget A in Plain cycles (R29). -/
def budget (f p g l b : Nat) : Int := windowCycles f p g l b - shortfall f p g l b - 4096

/-- The compute deadline in µs after the mark: P − L − B (R16). -/
def State.deadlineUs (s : State) : Nat := s.wc.periodUs - s.wc.leadUs - s.frameBuild s.chans

/-- The firmware's PILOT_DEADLINE for the cycle that begins (R16, R508; log entry 160). -/
def State.setDeadline (s : State) : State := s.setFld Reg.pilotDeadline 17 0 s.deadlineUs

/-- The foreground window of the cycle in Plain cycles, and its floor shortfall (R29, R33). -/
def State.window (s : State) : Int :=
  windowCycles s.arrMhz s.wc.periodUs (gatherUs s.wc.periodUs s.wc.gatherPct) s.wc.leadUs (s.frameBuild s.chans)

/-- The floor shortfall of the cycle (R33). -/
def State.floorShort (s : State) : Int :=
  shortfall s.arrMhz s.wc.periodUs (gatherUs s.wc.periodUs s.wc.gatherPct) s.wc.leadUs (s.frameBuild s.chans)

/-- A at the cycle parameters in force. -/
def State.budgetNow (s : State) (chans : Store Channel) : Int :=
  budget s.arrMhz s.wc.periodUs (gatherUs s.wc.periodUs s.wc.gatherPct) s.wc.leadUs (s.frameBuild chans)

/-- The enabled mirror pairs. -/
def State.pairs (s : State) : Nat := s.plain.mirrorPairs

/-- C now. -/
def State.costNow (s : State) : Nat := s.costOf s.chans s.wc.decimation s.modelSize s.pairs

/-- The state as an admission check sees it: CH_ARM, PROG_LOAD, MIRROR_SET and VSL_COMMIT that wait for their cycle count (R26, R30). -/
def State.admitView (s : State) : State :=
  s.changes.foldl (fun (t : State) (p : Pending) =>
    match p.change with
    | .arm slot => { t with chans := Store.modify t.chans slot fun c => if c.state = .bound then { c with state := .armed } else c }
    | .program id img cost _ => { t with programs := Store.modify t.programs id fun g => { g with image := img, worstCost := cost } }
    | .mirror pairs => { t with plain := { t.plain with mirrorPairs := pairs } }
    | .vessel _ _ m => { t with ves := { t.ves with half := { t.ves.half with live := some m } } }
    | _ => t) s

/-! ### The cycle in which a change takes part (R26, R267, R319) -/

/-- A cycle number's successor; 0 is skipped (R13). -/
def nextCycle (c : Word) : Word := if c + 1 = 0 then 1 else c + 1

/-- The cycle number `n` after a given one; 0 is skipped (R13). -/
def laterCycle (c : Word) (n : Nat) : Word :=
  if c.toNat + n < 4294967296 then c + BitVec.ofNat 32 n else c + BitVec.ofNat 32 (n + 1)

/-- EFFECT_CYCLE (R26, R267, R319): the current cycle until its WATCH_MARK interrupt has been taken, then the next one; the first cycle
while a start waits; 0 while stopped and when a pending stop comes first. -/
def State.effectCycle (s : State) : Word :=
  if s.wc.running then
    if !s.wc.boundaryTaken then s.wc.cycle else if s.wc.stopPending then 0 else nextCycle s.wc.cycle
  else if s.wc.startAtUs.isSome && !s.wc.stopPending then nextCycle s.wc.cycle
  else 0

/-- The slices that come before the first slice of the next pass that a change accepted now can reach (R19, R37, R294). -/
def State.slicesLeft (s : State) : Nat :=
  let mid := s.wc.running && s.wc.boundaryTaken && !s.wc.ended
  match s.ves.half.pass with
  | some p => p.slices - p.done - (if mid then 1 else 0)
  | none => if mid && s.ves.half.live.isSome then s.wc.decUsed - 1 else 0

/-- EFFECT_CYCLE of a change that the next hydrostatics pass takes (R276, R294): the cycle of its first slice. -/
def State.passCycle (s : State) : Word :=
  let n := s.slicesLeft
  if s.effectCycle = 0 then 0 else if s.wc.stopPending && n != 0 then 0 else laterCycle s.effectCycle n

/-- Whether a change applies at execution (R267, R319): no cycle runs, and neither a start nor a stop waits. -/
def State.appliesNow (s : State) : Bool := !s.cycleOn

/-- A change put on the list of those that wait. -/
def State.pend (s : State) (e : Effect) (c : Change) (n : Option Notify) : State :=
  { s with changes := s.changes ++ [{ effect := e, cycle := if e = .atPass then s.passCycle else s.effectCycle, notify := n, change := c }] }

/-! ### Fallback fields (R289, R387) -/

/-- A network station's block with the fallback fields that an ST_FALLBACK payload gives, MISS_K when that is not 0, and a CONFIG_SEQ. -/
def withFallback (c p : Bytes) (seq : Nat) : Bytes :=
  let head := leBytes 2 seq ++ [c.getD 2 0] ++ [if u8 p 2 = 0 then c.getD 3 0 else p.getD 2 0] ++ slice c 4 4
  head ++ (List.range (u8 c 2)).flatMap fun i =>
    match (List.range (u8 p 1)).find? fun k => u8 p (4 + 8 * k) == u8 c (8 + 8 * i) with
    | some k => slice c (8 + 8 * i) 2 ++ slice p (4 + 8 * k + 1) 1 ++ [0] ++ slice p (4 + 8 * k + 4) 4
    | none => slice c (8 + 8 * i) 8

/-- A fallback change kept in the record of a station that is not MOORED: it is sent at the next JOIN (R289). -/
def Station.keepFallback (st : Station) (p : Bytes) (n : Option Notify) : Station := { st with fbKept := st.fbKept ++ [(p, n)] }

/-- The block of a station that joins, with the fallback changes kept for this JOIN. -/
def Station.takeKept (st : Station) : Station :=
  let x := st.fbKept.foldl (fun (u : Station) f =>
    let seq := (u.configSeq + 1) % 65536
    let c := withFallback u.config f.1 seq
    { u with config := c, configSeq := seq, missK := u8 c 3, fbWait := u.fbWait ++ f.2.toList }) st
  { x with fbKept := [] }

/-- A station leaves JOINING, MOORED and SLACK: the fallback values of the CONFIG in flight are kept for its next JOIN. -/
def Station.keepAll (st : Station) : Station :=
  let x := if st.sends > 0 && !st.firstConfig && !st.newFb.isEmpty then
      { st with config := st.newFb, missK := u8 st.newFb 3,
                fbWait := st.fbWait ++ st.fbQueue.filterMap (fun f => f.2.2) ++ st.notifyFb.toList } else st
  { x with newFb := [], notifyFb := none, fbQueue := [], sends := 0 }

end Sys2Proof.Machine
end

