-- ==== Sys2Proof/Machine/Hydro.lean ====
section
/-! DEFINITION. The vessel model's tables and one hydrostatics pass, exactly as R424 to R447 compute it. -/

namespace Sys2Proof.Machine

/-! ### The vessel model's tables (Table HYD-2) -/

/-- The key of a table: KIND and INDEX. -/
def tableKey (kind index : Nat) : Nat := kind * 65536 + index

/-- A complete table's bytes. -/
def VesselModel.table (m : VesselModel) (kind index : Nat) : Bytes :=
  match Store.find? m.tables (tableKey kind index) with
  | some t => if t.complete then t.data else []
  | none => []

/-- PARTICULARS. -/
def VesselModel.part (m : VesselModel) : Bytes := m.table 1 0

def VesselModel.lpp (m : VesselModel) : Int := s32 m.part 0
def VesselModel.xMid (m : VesselModel) : Int := s32 m.part 12
def VesselModel.lightship (m : VesselModel) : Int := u40 m.part 16
def VesselModel.lsVcg (m : VesselModel) : Int := s32 m.part 24
def VesselModel.lsTcg (m : VesselModel) : Int := s32 m.part 28
def VesselModel.seaDensity (m : VesselModel) : Int := u32 m.part 32
def VesselModel.nHydro (m : VesselModel) : Nat := u16 m.part 36
def VesselModel.nItems (m : VesselModel) : Nat := u8 m.part 38
def VesselModel.trimAxis (m : VesselModel) : List Int := (List.range 9).map fun i => s32 m.part (40 + 4 * i)
def VesselModel.heelAxis (m : VesselModel) : List Int := (List.range 9).map fun i => s32 m.part (76 + 4 * i)

/-- A column of the HYDROSTATIC table at a field offset. -/
def VesselModel.hydroCol (m : VesselModel) (f : Bytes → Nat → Int) (off : Nat) : List Int :=
  (List.range m.nHydro).map fun i => f (m.table 2 0) (32 * i + off)

def colT (m : VesselModel) : List Int := m.hydroCol s32 0
def colDisp (m : VesselModel) : List Int := m.hydroCol (fun b i => (u40 b i : Int)) 4
def colKmt (m : VesselModel) : List Int := m.hydroCol s32 12
def colLcb (m : VesselModel) : List Int := m.hydroCol s32 16
def colLcf (m : VesselModel) : List Int := m.hydroCol s32 20
def colMct (m : VesselModel) : List Int := m.hydroCol (fun b i => (u32 b i : Int)) 24

/-- TANK_DEFINE's fields in a stored definition (Table OPC-8). -/
def tkKind (d : Bytes) : Nat := u8 d 2
def tkCapacity (d : Bytes) : Nat := u32 d 4
def tkDensity (d : Bytes) : Nat := u32 d 8
def tkHandle (d : Bytes) : Nat := u16 d 12
def tkPoints (d : Bytes) : Nat := u16 d 14
def tkUncertainty (d : Bytes) : Nat := u32 d 16

/-- SECTION_DEFINE's fields. -/
def scPoints (d : Bytes) : Nat := u8 d 3
def scAft (d : Bytes) : Int := s32 d 4
def scFwd (d : Bytes) : Int := s32 d 8
def scLightship (d : Bytes) : Int := u40 d 12

/-- A column of a tank's SOUNDING table. -/
def VesselModel.soundCol (m : VesselModel) (t n : Nat) (f : Bytes → Nat → Int) (off : Nat) : List Int :=
  (List.range n).map fun i => f (m.table 3 t) (8 + 32 * i + off)

/-- COR[a][b] of a tank (R426). -/
def VesselModel.cor (m : VesselModel) (t n a b : Nat) : Int := s16 (m.table 3 t) (8 + 32 * n + 2 * (9 * a + b))

/-! ### Lookups (R430) -/

/-- clamp of R430. -/
def clampTo (h : Int) (H : List Int) : Int := min (max h (H.headD 0)) (H.getLastD 0)

/-- The largest i in 0 .. n−2 with H[i] ≤ clamp(h). -/
def ival (h : Int) (H : List Int) : Nat :=
  let c := clampTo h H
  ((List.range (H.length - 1)).filter fun i => decide (H.getD i 0 ≤ c)).getLastD 0

/-- look of R430. -/
def look (V H : List Int) (h : Int) : Int :=
  let i := ival h H
  let c := clampTo h H
  V.getD i 0 + tdiv ((V.getD (i + 1) 0 - V.getD i 0) * (c - H.getD i 0)) (H.getD (i + 1) 0 - H.getD i 0)

/-! ### Tank contents (R428 to R432) -/

/-- One tank's contents in a pass. -/
structure TankState where
  tank : Nat
  level : Int
  mass : Int
  x : Int
  y : Int
  z : Int
  fs : Int
  aft : Int
  fwd : Int
  uMass : Int
  estimated : Bool
deriving DecidableEq, Repr

/-- The level correction for trim and heel (R431). -/
def levelCor (m : VesselModel) (t n : Nat) (trim heel : Int) : Int :=
  let ta := m.trimAxis
  let ha := m.heelAxis
  let tr := clampTo trim ta
  let he := clampTo heel ha
  let a := ival tr ta
  let b := ival he ha
  let da := ta.getD (a + 1) 0 - ta.getD a 0
  let c0 := m.cor t n a b + tdiv ((m.cor t n (a + 1) b - m.cor t n a b) * (tr - ta.getD a 0)) da
  let c1 := m.cor t n a (b + 1) + tdiv ((m.cor t n (a + 1) (b + 1) - m.cor t n a (b + 1)) * (tr - ta.getD a 0)) da
  c0 + tdiv ((c1 - c0) * (he - ha.getD b 0)) (ha.getD (b + 1) 0 - ha.getD b 0)

/-- Assignment to an unsigned variable of a stated width: the low bits are kept (R9, Table HYD-1). -/
def wrapU (w : Nat) (v : Int) : Int := v % (2 : Int) ^ w

/-- A quotient by the displacement or by a product with it (R433, R436, R444). -/
def divBy (a b : Int) : Int := if b = 0 then Config.zeroQuotient a else tdiv a b

/-- The trim and heel of the last published pass, or 0 for both in the first pass after VSL_COMMIT (R431). -/
def prevTrimHeel (prev : Option HydroResult) (fresh : Bool) : Int × Int :=
  if fresh then (0, 0) else match prev with
    | some r => (r.trim, r.heel)
    | none => (0, 0)

/-- The contents of one tank: the corrected level, or the last published one when the snapshot is not valid (R429), then R432. -/
def tankState (m : VesselModel) (prev : Option HydroResult) (fresh : Bool) (t : Nat) (d : Bytes) (sn : TankSnap) : TankState :=
  let n := tkPoints d
  let L := m.soundCol t n s32 0
  let dens : Int := tkDensity d
  let th := prevTrimHeel prev fresh
  let corrected := wrapS 32 (sn.level + levelCor m t n th.1 th.2)
  let last := (prev.bind fun r => Store.find? r.levels t).getD (L.headD 0)
  let h := if sn.valid then corrected else last
  let v := look (m.soundCol t n (fun b i => (u32 b i : Int)) 4) L h
  { tank := t, level := h, mass := wrapU 40 (tdiv (v * dens) 1000000),
    x := look (m.soundCol t n s32 8) L h, y := look (m.soundCol t n s32 12) L h, z := look (m.soundCol t n s32 16) L h,
    fs := wrapS 64 (tdiv (dens * look (m.soundCol t n (fun b i => (u32 b i : Int)) 20) L h) 1000),
    aft := s32 (m.table 3 t) 0, fwd := s32 (m.table 3 t) 4,
    uMass := tdiv ((tkUncertainty d : Int) * dens) 1000000, estimated := sn.estimated }

/-- A weight with an extent: a tank or a constant item. -/
structure Weight where
  mass : Int
  aft : Int
  fwd : Int
deriving DecidableEq, Repr

/-- One constant item of LIGHTSHIP_DIST: mass, extent, VCG, TCG. -/
def VesselModel.items (m : VesselModel) : List (Weight × Int × Int) :=
  (List.range m.nItems).map fun i =>
    let b := m.table 5 0
    let o := 24 * i
    (⟨u40 b o, s32 b (o + 8), s32 b (o + 12)⟩, s32 b (o + 16), s32 b (o + 20))

/-- The sum of a list of integers. -/
def sumI (l : List Int) : Int := l.foldl (· + ·) 0

/-! ### Draft and trim (R434) -/

/-- The three iterations: the trim, the draft Tm, and the lcf and mct of the last iteration. -/
def trimLoop (m : VesselModel) (disp lcg tk : Int) : Nat → Int → Int × Int × Int × Int
  | 0, tm => (0, tm, 0, 1)
  | n + 1, tm =>
    let lcb := look (colLcb m) (colT m) tm
    let lcf := look (colLcf m) (colT m) tm
    let mct := look (colMct m) (colT m) tm
    let trim := wrapS 32 (tdiv (disp * (lcb - lcg)) mct)
    let tm' := wrapS 32 (tk + tdiv (trim * (lcf - m.xMid)) m.lpp)
    if n = 0 then (trim, tm', lcf, mct) else trimLoop m disp lcg tk n tm'

/-! ### Hull strength (R437, R438) -/

/-- The overlap of an extent with a section. -/
def overlap (a f xa xf : Int) : Int := max 0 (min f xf - max a xa)

/-- The shares of one weight over the sections, in section order (R437). -/
def spread (secs : List (Int × Int)) (w : Weight) : List Int :=
  let lo := (secs.headD (0, 0)).1
  let hi := (secs.getLastD (0, 0)).2
  let n := secs.length
  if w.fwd ≤ lo then (List.range n).map fun i => if i = 0 then w.mass else 0
  else if w.aft ≥ hi then (List.range n).map fun i => if i + 1 = n then w.mass else 0
  else
    let a := max w.aft lo
    let f := min w.fwd hi
    let hits := (List.range n).filter fun i => let x := secs.getD i (0, 0); decide (0 < overlap a f x.1 x.2)
    match hits.getLast? with
    | none => (List.range n).map fun i => let x := secs.getD i (0, 0); if x.1 ≤ a ∧ a < x.2 then w.mass else 0
    | some last =>
      let part (i : Nat) : Int := let x := secs.getD i (0, 0); tdiv (overlap a f x.1 x.2 * w.mass) (f - a)
      let given := sumI ((hits.filter fun i => i != last).map part)
      (List.range n).map fun i => if i = last then w.mass - given else if hits.contains i then part i else 0

/-- The running sums Q and Rm along the sections (R438): q and len per section, then Q and Rm after it. -/
def prefixSums : Int → Int → List (Int × Int) → List (Int × Int)
  | _, _, [] => []
  | q0, r0, (q, len) :: rest =>
    let q1 := q0 + q
    let r1 := r0 + (2 * q0 + q) * len
    (q1, r1) :: prefixSums q1 r1 rest

/-- A section of the model: its number, bounds and definition. -/
structure Section where
  no : Nat
  aft : Int
  fwd : Int
  points : Nat
  ls : Int
deriving DecidableEq, Repr

/-- The model's sections in ascending order. -/
def VesselModel.sectionList (m : VesselModel) : List Section :=
  m.sections.map fun (i, d) => ⟨i, scAft d, scFwd d, scPoints d, scLightship d⟩

/-- The shear force and bending moment at the fore boundary of each section, or none when the buoyancy is 0 (R438, R439). -/
def strength (m : VesselModel) (disp ta trim : Int) (weights : List Weight) : Option (List (Nat × Int × Int)) :=
  let secs := m.sectionList
  let bounds := secs.map fun c => (c.aft, c.fwd)
  let shares := weights.map (spread bounds)
  let w := (List.range secs.length).map fun i =>
    (secs.getD i ⟨0, 0, 0, 0, 0⟩).ls + sumI (shares.map fun l => l.getD i 0)
  let b := secs.map fun c =>
    let tx := wrapS 32 (ta - tdiv (trim * tdiv (c.aft + c.fwd) 2) m.lpp)
    let tab := m.table 4 c.no
    let Tc := (List.range c.points).map fun i => s32 tab (8 * i)
    let Ac := (List.range c.points).map fun i => (u32 tab (8 * i + 4) : Int)
    wrapU 40 (tdiv (look Ac Tc tx * (c.fwd - c.aft) * m.seaDensity) 10000000000)
  let bt := sumI b
  if bt = 0 then none
  else
    let n := secs.length
    let scaled := b.map fun x => tdiv (x * disp) bt
    let last := disp - sumI (scaled.take (n - 1))
    let b' := scaled.take (n - 1) ++ [last]
    let q := (List.range n).map fun i => (wrapS 48 (w.getD i 0 - b'.getD i 0),
      (secs.getD i ⟨0, 0, 0, 0, 0⟩).fwd - (secs.getD i ⟨0, 0, 0, 0, 0⟩).aft)
    let sums := prefixSums 0 0 q
    let rEnd := (sums.getLastD (0, 0)).2
    let xa0 := (bounds.headD (0, 0)).1
    let xfN := (bounds.getLastD (0, 0)).2
    some ((List.range n).map fun i =>
      let c := secs.getD i ⟨0, 0, 0, 0, 0⟩
      let (Q, Rm) := sums.getD i (0, 0)
      let rc := Rm - tdiv (rEnd * (c.fwd - xa0)) (xfN - xa0)
      (c.no, satS 32 (tdiv (Q * 980665) 100000000), satS 40 (tdiv (rc * 980665) 200000000000)))

/-! ### One pass -/

/-- The results of one pass on a model and a snapshot, given the results published before it (R428 to R444). -/
def runPass (m : VesselModel) (snap : Store TankSnap) (prev : Option HydroResult) (fresh : Bool) (cycle snapCycle : Word) : HydroResult :=
  let tanks := m.tanks.map fun (t, d) => tankState m prev fresh t d (Store.get snap t ⟨0, false, true⟩)
  let items := m.items
  let secs := m.sectionList
  let disp := wrapU 40 (m.lightship + sumI (items.map fun i => i.1.mass) + sumI (tanks.map fun t => t.mass))
  let mx := sumI (secs.map fun c => c.ls * tdiv (c.aft + c.fwd) 2) +
    sumI (items.map fun i => i.1.mass * tdiv (i.1.aft + i.1.fwd) 2) + sumI (tanks.map fun t => t.mass * t.x)
  let mz := m.lightship * m.lsVcg + sumI (items.map fun i => i.1.mass * i.2.1) + sumI (tanks.map fun t => t.mass * t.z)
  let my := m.lightship * m.lsTcg + sumI (items.map fun i => i.1.mass * i.2.2) + sumI (tanks.map fun t => t.mass * t.y)
  let f := sumI (tanks.map fun t => t.fs)
  let lcg := wrapS 32 (divBy mx disp)
  let kg := wrapS 32 (divBy mz disp)
  let fsc := wrapS 32 (divBy f disp)
  let D := colDisp m
  let T := colT m
  let i := ival disp D
  let c := clampTo disp D
  let dD := D.getD (i + 1) 0 - D.getD i 0
  let dT' := T.getD (i + 1) 0 - T.getD i 0
  let tk := T.getD i 0 + tdiv (dT' * (c - D.getD i 0)) dD
  let (trim, tm, lcf, mct) := trimLoop m disp lcg tk 3 tk
  let kmt := look (colKmt m) T tm
  let ta := wrapS 32 (tk + tdiv (trim * lcf) m.lpp)
  let tf := wrapS 32 (ta - trim)
  let tmid := wrapS 32 (ta - tdiv (trim * m.xMid) m.lpp)
  let gmSolid := wrapS 32 (kmt - kg)
  let gmFluid := wrapS 32 (gmSolid - fsc)
  let heel := if gmFluid > 0 then satS 32 (divBy (my * 1000000) (disp * gmFluid))
    else if my ≥ 0 then 2147483647 else -2147483648
  let est := tanks.filter fun t => t.estimated
  let U := sumI (est.map fun t => t.uMass)
  let dSf := tdiv (U * 980665) 100000000
  let weights := (items.map fun x => x.1) ++ tanks.map fun t => ⟨t.mass, t.aft, t.fwd⟩
  let st := strength m disp ta trim weights
  { cycle := cycle, snapCycle := snapCycle, disp := disp,
    estimatedFlag := !est.isEmpty || c != disp || st.isNone, nEstimated := est.length,
    ta := ta, tf := tf, tm := tmid, trim := trim, heel := heel, kg := kg, gmSolid := gmSolid, gmFluid := gmFluid,
    dGm := divBy (sumI (est.map fun t => t.uMass * (Int.natAbs (t.z - kg) : Int))) disp,
    dT := tdiv (U * dT') dD,
    dTrim := tdiv (sumI (est.map fun t => t.uMass * (Int.natAbs (t.x - lcf) : Int))) mct,
    dHeel := if gmFluid > 0 then divBy (sumI (est.map fun t => t.uMass * (Int.natAbs t.y : Int)) * 1000000) (disp * gmFluid) else 0,
    dSf := dSf, dBm := tdiv (dSf * m.lpp) 4000,
    outOfRange := c != disp, noBuoyancy := st.isNone, strengthOk := st.isSome || ((prev.map fun r => r.strengthOk).getD false),
    strengthCycle := if st.isSome then cycle else (prev.map fun r => r.strengthCycle).getD 0,
    strengthEst := st.isNone || !est.isEmpty,
    sections := match st with
      | some l => l
      | none => (prev.map fun r => r.sections).getD []
    levels := tanks.map fun t => (t.tank, t.level) }

/-! ### Limits and margins (R440 to R445) -/

/-- The active limit set (R440). -/
def Vessel.active (v : Vessel) : LimitSet := if v.seaActive then v.sea else v.harbour

/-- A margin in basis points, truncated and saturated (R442). -/
def marginBp (num lim : Int) : Int := satS 32 (tdiv (wrapS 64 (num * 10000)) lim)

/-- The largest draft (Table HYD-3). -/
def maxDraft (r : HydroResult) : Int := max r.ta (max r.tf r.tm)

/-- The margins of KIND 1 to 4 (Table HYD-3): GM, DRAFT, TRIM, HEEL. -/
def marginOf (r : HydroResult) (l : LimitSet) : Nat → Int
  | 1 => marginBp (r.gmFluid - r.dGm - l.gmMin) l.gmMin
  | 2 => marginBp (l.draftMax - (maxDraft r + r.dT)) l.draftMax
  | 3 => marginBp (l.trimMax - ((Int.natAbs r.trim : Int) + r.dTrim)) l.trimMax
  | _ => marginBp (l.heelMax - ((Int.natAbs r.heel : Int) + r.dHeel)) l.heelMax

/-- The sections that are checked: listed, defined by the model and with strength results (R440): number, SF margin, BM margin. -/
def sectionMargins (r : HydroResult) (l : LimitSet) : List (Nat × Int × Int) :=
  if r.strengthOk then
    l.sections.filterMap fun (no, sfMax, bmMax) =>
      (Store.find? r.sections no).map fun (sf, bm) =>
        (no, marginBp (sfMax - ((Int.natAbs sf : Int) + r.dSf)) sfMax, marginBp (bmMax - ((Int.natAbs bm : Int) + r.dBm)) bmMax)
  else []

/-- The least margin and its section; ties go to the lowest section (R442). -/
def worst (l : List (Nat × Int)) : Option (Nat × Int) :=
  l.foldl (fun b x => match b with
    | none => some x
    | some y => if x.2 < y.2 then some x else some y) none

/-- A margin by KIND and SCOPE for a MARGIN channel; none where R445 clears VALID. -/
def marginFor (r : HydroResult) (l : LimitSet) (kind scope sec : Nat) : Option Int :=
  if kind ≤ 4 then (if l.complete then some (marginOf r l kind) else none)
  else
    let ms := (sectionMargins r l).map fun x => (x.1, if kind = 5 then x.2.1 else x.2.2)
    if !l.complete then none
    else if scope = 1 then (ms.find? fun x => x.1 == sec).map fun x => x.2
    else (worst ms).map fun x => x.2

/-- The margins that are watched: (KIND, REF), margin, unwidened value, limit (R443). -/
def watched (r : HydroResult) (l : LimitSet) : List ((Nat × Nat) × Int × Int × Int) :=
  (if l.complete then
    [((1, 0), marginOf r l 1, r.gmFluid, l.gmMin), ((2, 0), marginOf r l 2, maxDraft r, l.draftMax),
     ((3, 0), marginOf r l 3, r.trim, l.trimMax), ((4, 0), marginOf r l 4, r.heel, l.heelMax)]
   else []) ++
  (sectionMargins r l).flatMap fun (no, sm, bm) =>
    let v := Store.get r.sections no (0, 0)
    let lim := Store.get l.sections no (1, 1)
    [((5, no), sm, v.1, lim.1), ((6, no), bm, satS 32 v.2, satS 32 lim.2)]

/-- The crossed states after a publication: crossed below 0, cleared at 100 bp or more, otherwise as before (R443). -/
def newCrossed (old : List (Nat × Nat)) (w : List ((Nat × Nat) × Int × Int × Int)) : List (Nat × Nat) :=
  (w.filter fun x => decide (x.2.1 < 0) || (old.contains x.1 && decide (x.2.1 < 100))).map fun x => x.1

/-- The limits whose crossed state changed, with the new state. -/
def crossChanges (old new : List (Nat × Nat)) (w : List ((Nat × Nat) × Int × Int × Int)) : List ((Nat × Nat) × Bool × Int × Int) :=
  w.filterMap fun x =>
    let a := old.contains x.1
    let b := new.contains x.1
    if a = b then none else some (x.1, b, x.2.2.1, x.2.2.2)

end Sys2Proof.Machine
end

