-- ==== Sys2Proof/Machine/Kernels.lean ====
section
/-! DEFINITION. What one watch cycle computes for a channel: inputs, dependencies, setpoint, the type's law, the shadow model, DISCORD,
the state transition and the safe action (R330, R331, R341 to R367). -/

namespace Sys2Proof.Machine

/-- The quality bits of Table SCP-10. -/
def qValid : Byte := 1
def qStale : Byte := 2
def qSubst : Byte := 4
def qLo : Byte := 8
def qHi : Byte := 16
def qForced : Byte := 32

/-- VALID set and STALE clear. -/
def fresh (q : Byte) : Bool := q.getLsbD 0 && !q.getLsbD 1

/-- Two qualities met in one value: VALID when both are, every other bit when either has it. -/
def qJoin (a b : Byte) : Byte := (a &&& b &&& qValid) ||| ((a ||| b) &&& 0x3E)

/-- What a CUSTOM channel's kernel left in its berth in a cycle (Table PIS-4): VALUE and its quality, the model's u and y, the outputs by role,
whether an element of the berth holds DZ (R559), and the checksum of the image whose tables the berth holds (R557). -/
structure KernelRun where
  value : Int
  quality : Byte
  u : Int
  y : Int
  outs : List (Nat × Byte × Int)
  div0 : Bool
  tables : Word
deriving DecidableEq, Repr

/-- What a cycle gives every channel: its number, its time mark, the period, the committed table and hydrostatics, and what the kernels of
the CUSTOM channels computed, by slot. -/
structure Env where
  s : State
  cycle : Word
  markUs : Nat
  periodUs : Nat
  com : Store Channel
  hydro : HydroHalf
  limits : LimitSet
  publishes : Bool
  runs : Store KernelRun := []

/-- An input sample in channel units (R330): 48-bit product, saturated. -/
def scaleIn (p : Bytes) (x : Int) : Int := satS 32 (asr (wrapS 48 (x * pInGain p)) 16 + pInOffset p)

/-- A channel value as an output sample with its quality (R330): 64-bit product, saturated, which RANGE_LO or RANGE_HI shows (R11). -/
def scaleOut (p : Bytes) (v : Int) (q : Byte) : Byte × Int :=
  let full := asr (wrapS 64 ((v - pOutOffset p) * pOutGain p)) 16
  (q ||| (if full > 32767 then qHi else if full < -32768 then qLo else 0), satS 16 full)

/-- The point bound to a role. -/
def Channel.point (c : Channel) (role : Nat) : Option RoleBind := c.roles.find? fun b => b.role == role

/-- The quality and raw sample of a role's point; none when the role is unbound. Quality bits 7 and 6 are ignored (R12). -/
def Env.raw (e : Env) (c : Channel) (role : Nat) : Option (Byte × Int) :=
  (c.point role).map fun b =>
    let st := e.s.station b.station
    let v := Store.get st.points b.point (0, 0)
    ((if st.sinceLost then v.1 ||| qStale else v.1) &&& 0x3F, v.2)

/-- RANGE_LO or RANGE_HI of an input whose scaling saturates (R11, R330). -/
def inRange (p : Bytes) (x : Int) : Byte :=
  let full := asr (wrapS 48 (x * pInGain p)) 16 + pInOffset p
  if full > 2147483647 then qHi else if full < -2147483648 then qLo else 0

/-- A role's input in channel units; a saturated one shows it in its quality. -/
def Env.input (e : Env) (c : Channel) (role : Nat) : Option (Byte × Int) :=
  (e.raw c role).map fun v => (v.1 ||| inRange c.params v.2, scaleIn c.params v.2)

/-- FORCED of the points that a channel reads, which passes to the channel unchanged (R12). -/
def Env.forced (e : Env) (c : Channel) : Byte :=
  ((e.s.rolesOf c.typ c.params).filterMap fun r => if r.isIn then (e.raw c r.role).map fun v => v.1 else none).foldl (fun q x => q ||| (x &&& qForced)) 0

/-! ### Dependencies (R356 to R358) -/

/-- The channel that a dependency names now, if its handle is current. -/
def Env.depChan (e : Env) (d : Dep) : Option Channel :=
  if genOf d.handle = e.s.gen (slotOf d.handle) then Store.find? e.com (slotOf d.handle) else none

/-- Whether a dependency is lost (R357, R369). -/
def Env.depLost (e : Env) (d : Dep) : Bool :=
  match e.depChan d with
  | none => true
  | some c => !(c.state = .armed || c.state = .active) || !c.half.quality.getLsbD 0 || c.destroying

/-- The action of the lost dependencies: SAFE before HOLD before CONTINUE_ON_ESTIMATE; none when no dependency is lost. -/
def Env.lostAction (e : Env) (c : Channel) : Option Nat :=
  (c.deps.filter e.depLost).foldl (fun m d => match m with
    | none => some d.action
    | some a => some (max a d.action)) none

/-- The committed value and quality of the dependency at an index (R356, R360). -/
def Env.depValue (e : Env) (c : Channel) (i : Nat) : Byte × Int :=
  match (c.deps[i]?).bind e.depChan with
  | some d => (d.half.quality, d.half.value)
  | none => (0, 0)

/-! ### Setpoints (R354, R355) -/

/-- Where a ramp stands at a time mark. -/
def rampAt (r : Ramp) (t : Nat) : Int :=
  let d : Int := (r.rate * (t - r.t0) / 1000000 : Nat)
  if r.target ≥ r.from0 then min r.target (r.from0 + d) else max r.target (r.from0 - d)

/-- The setpoint of a cycle, which lies between SP_MIN and SP_MAX (R334, R354), and the ramp that remains; under HOLD the ramp freezes and
goes on from where it stands (R357). -/
def stepSetpoint (p : Bytes) (h : ChHalf) (t : Nat) (frozen : Bool) : Int × Option Ramp :=
  match h.ramp with
  | none => (h.setpoint, none)
  | some r =>
    if frozen then (h.setpoint, some { r with from0 := h.setpoint, t0 := t })
    else
      let v := rampAt r t
      (min (max v (pSpMin p)) (pSpMax p), if v = r.target then none else some r)

/-! ### What a type measures (R347 to R353, Table CHN-6) -/

/-- The measurement of a cycle: the value and its quality, the factor that makes it the model's y, the dynamic state, and of a CUSTOM
channel the model's u and y as its kernel writes them (Table CHN-6). -/
structure Sense where
  value : Int
  quality : Byte
  factor : Int := 1
  half : ChHalf
  kernelU : Option Int := none
  kernelY : Option Int := none
  div0 : Bool := false
  outs : List (Nat × Byte × Int) := []

/-- The measurement that the model predicts (Table CHN-6). -/
def Sense.measured (x : Sense) : Int := x.kernelY.getD (wrapS 32 (x.value * x.factor))

/-- The moving mean of the filter (R347). -/
def filterMean (l : List Int) : Int := tdiv (sumI l) l.length

/-- LEVEL (R347): the mean of the VALID inputs, filtered, with the RATE_MAX check; with neither VALID the last value stays, with STALE (R11).
DESIGN CHOICE (log entry 188): the rate is that of the filtered value from one cycle to the next. -/
def senseLevel (e : Env) (c : Channel) : Sense :=
  let h := c.half
  let ins := ([e.input c 1, e.input c 2].filterMap fun x => x).filter fun x => x.1.getLsbD 0
  match ins with
  | [] => { value := if h.filter.isEmpty then h.value else filterMean h.filter,
            quality := (((e.input c 1).getD (0, 0)).1 &&& ~~~ qValid) ||| qStale, half := h }
  | a :: rest =>
    let q := rest.foldl (fun q x => qJoin q x.1) a.1
    let fl := (tdiv (sumI (ins.map fun x => x.2)) ins.length :: h.filter).take (max 1 (u8 c.params 66))
    let v := wrapS 32 (filterMean fl)
    let fast := 0 < s32 c.params 68 && !h.filter.isEmpty &&
      decide ((Int.natAbs (v - filterMean h.filter) : Int) * 1000000 > s32 c.params 68 * e.periodUs)
    { value := v, quality := if fast then q &&& ~~~ qValid else q, half := { h with filter := fl } }

/-- Whether a PUMP's model runs on speed: SPEED mode with SPEED_IN bound (Table CHN-6). -/
def Channel.onSpeed (c : Channel) : Bool := u8 c.params 64 = 1 && (c.point 4).isSome

/-- Term `i` of a DERIVED channel: quality and weighted value (R351). -/
def Env.term (e : Env) (c : Channel) (i : Nat) : Byte × Int :=
  let o := 68 + 8 * i
  let src := if u8 c.params o = 0 then e.depValue c (u8 c.params (o + 1)) else (e.input c (u8 c.params (o + 1))).getD (0, 0)
  (src.1, asr (src.2 * s32 c.params (o + 4)) 16)

/-- DERIVED (R351). The total is an integrator, which HOLD freezes (R357); RATE before any committed term has no stated result. -/
def senseDerived (e : Env) (c : Channel) (hold : Bool) : Sense :=
  let h := c.half
  let ts := (List.range (min 8 (u8 c.params 65))).map (e.term c)
  let q := ts.foldl (fun q t => qJoin q t.1) qValid
  let vs := ts.map fun t => t.2
  let t0 := vs.headD 0
  let op := u8 c.params 64
  let t1 := vs.getD 1 0
  let (v, q) : Int × Byte :=
    if op = 0 then (wrapS 32 (sumI vs), q)
    else if op = 1 then (wrapS 32 (vs.foldl min t0), q)
    else if op = 2 then (wrapS 32 (vs.foldl max t0), q)
    else if op = 3 then
      if t1 = 0 then (if t0 < 0 then -2147483648 else 2147483647, (q &&& ~~~ qValid) ||| (if t0 < 0 then qLo else qHi))
      else (wrapS 32 (tdiv (t0 * 10000) t1), q)
    else if op = 4 then (match h.term0 with
      | some x => (wrapS 32 (tdiv ((t0 - x) * 1000000) e.periodUs), q)
      | none => (wrapS 32 (Config.firstRate e.cycle.toNat), q))
    else (if hold then h.value else wrapS 32 (h.value + tdiv (t0 * e.periodUs) 1000000), q)
  { value := v, quality := q, half := { h with term0 := some t0 } }

/-- MARGIN (R352, R445): in the cycle in which a pass publishes; otherwise the last published value, which is of an earlier cycle and so
carries STALE (R11; DEDUCED, log entry 189). -/
def senseMargin (e : Env) (c : Channel) : Sense :=
  let h := c.half
  if !e.publishes then { value := h.value, quality := (if e.hydro.sinceCommit then h.quality &&& ~~~ qValid else h.quality) ||| qStale, half := h }
  else match e.hydro.published with
    | none => { value := h.value, quality := 0, half := h }
    | some r =>
      match marginFor r e.limits (u8 c.params 64) (u8 c.params 65) (u16 c.params 66) with
      | some v => { value := v, quality := qValid ||| (if r.nEstimated > 0 then qSubst else 0), half := h }
      | none => { value := h.value, quality := if r.nEstimated > 0 then qSubst else 0, half := h }

/-- CUSTOM (R353, R553): what the kernel wrote into its berth; with no program in Basin 1 nothing runs, and the last value loses VALID. -/
def senseCustom (e : Env) (slot : Nat) (c : Channel) : Sense :=
  let h := c.half
  match Store.find? e.runs slot with
  | none => { value := h.value, quality := (h.quality &&& ~~~ qValid) ||| qStale, half := h }
  | some r => { value := r.value, quality := r.quality, half := { h with tables := some r.tables }, div0 := r.div0, outs := r.outs,
                kernelU := some r.u, kernelY := some r.y }

/-- What a channel measures or computes in a cycle, before any substitution. -/
def sense (e : Env) (slot : Nat) (c : Channel) (hold : Bool) : Sense :=
  let plain (v : Byte × Int) (f : Int) : Sense := { value := v.2, quality := v.1 ||| e.forced c, factor := f, half := c.half }
  match c.typ with
  | .level => let x := senseLevel e c; { x with quality := x.quality ||| e.forced c }
  | .valve => plain ((e.input c 2).getD (0, 0)) 1
  | .pump => if c.onSpeed then plain ((e.input c 4).getD (0, 0)) 1 else plain ((e.input c 2).getD (0, 0)) 10000
  | .loop => plain (if u8 c.params 64 = 0xFF then (e.input c 1).getD (0, 0) else e.depValue c (u8 c.params 64)) 1
  | .derived => let x := senseDerived e c hold; { x with quality := x.quality ||| e.forced c }
  | .margin => senseMargin e c
  | .custom => let x := senseCustom e slot c; { x with quality := x.quality ||| e.forced c }

/-! ### The laws of the types (R347 to R350) -/

/-- What a channel does with its outputs in a cycle: it tracks in ARMED, keeps them for a lost dependency, or controls. -/
inductive Mode where
  | track | hold | resume | control
deriving DecidableEq, Repr

/-- What a law gives: the outputs that it writes, the primary output in channel units, the model input of the cycle, the dynamic state
and quality bits that it adds to the value. -/
structure Law where
  outs : List (Nat × Byte × Int) := []
  output : Int
  uval : Option Int := none
  half : ChHalf
  qAdd : Byte := 0

/-- A digital output's sample. -/
def digitalOut (b : Bool) : Byte × Int := (qValid, if b then 1 else 0)

/-- LEVEL (R347): STOP_OUT, which repeats while the channel tracks. -/
def lawLevel (c : Channel) (v sp : Int) (m : Mode) (h : ChHalf) : Law :=
  match m with
  | .control =>
    let stop := if v ≥ sp then true else if v < sp - s32 c.params 72 then false else h.stopOut
    { outs := [(3, digitalOut stop)], output := if stop then 1 else 0, half := { h with stopOut := stop } }
  | _ => { output := h.output, half := h }

/-- VALVE (R348): the commanded position; a change below DEADBAND is not sent; while tracking the measured position. -/
def lawValve (c : Channel) (v : Int) (q : Byte) (sp : Int) (m : Mode) (h : ChHalf) : Law :=
  match m with
  | .track => { outs := [(1, scaleOut c.params v q)], output := v, uval := some v, half := h }
  | .control =>
    let want := if u8 c.params 64 = 1 then (if sp ≥ 5000 then 10000 else 0) else sp
    let cmd := if decide ((Int.natAbs (want - h.output) : Int) < s32 c.params 72) then h.output else want
    { outs := [(1, scaleOut c.params cmd qValid)], output := cmd, uval := some cmd, half := h }
  | _ => { output := h.output, uval := some h.output, half := h }

/-- The starts of the last 3,600 s (R349). -/
def startsInHour (h : ChHalf) (t : Nat) : List Nat := h.starts.filter fun x => decide (t < x + 3600000000)

/-- The model input of a PUMP: the speed, or its run state × 10,000 (Table CHN-6). -/
def pumpU (c : Channel) (run : Bool) (spd : Int) : Int := if c.onSpeed then spd else if run then 10000 else 0

/-- PUMP in control (R349): run state with minimum times, starts per hour and interlock. -/
def pumpControl (e : Env) (c : Channel) (sp : Int) (h : ChHalf) : Law :=
  let t := e.markUs
  let il := u8 c.params 65
  let interlock := il == 0xFF || (match c.deps[il]? with
    | some d => !e.depLost d && decide ((e.depValue c il).2 > 0)
    | none => false)
  let want := decide (sp > 0)
  let minStop := match h.lastStopUs with
    | some x => decide (t < x + u16 c.params 68 * 1000000)
    | none => false
  let minRun := match h.lastStartUs with
    | some x => decide (t < x + u16 c.params 66 * 1000000)
    | none => false
  let starts := startsInHour h t
  let limit := u16 c.params 70 != 0 && decide (starts.length ≥ u16 c.params 70)
  let refused := want && !h.running && (minStop || limit || !interlock)
  let run := if !interlock then false else if want then (h.running || !refused) else h.running && minRun
  let started := run && !h.running
  let stopped := !run && h.running
  let speed := u8 c.params 64 = 1
  { outs := [(1, digitalOut run)] ++ (if speed then [(3, scaleOut c.params sp qValid)] else []),
    output := if run then 1 else 0, uval := some (pumpU c run sp), qAdd := if refused then qLo else 0,
    half := { h with
      running := run
      lastStartUs := if started then some t else h.lastStartUs
      lastStopUs := if stopped then some t else h.lastStopUs
      starts := if started then starts ++ [t] else starts
      speed := if speed then sp else h.speed } }

/-- PUMP (R349): while it tracks, RUN_OUT and SPEED_OUT follow RUNNING_IN and SPEED_IN where these are VALID. -/
def lawPump (e : Env) (c : Channel) (sp : Int) (m : Mode) (h : ChHalf) : Law :=
  match m with
  | .control => pumpControl e c sp h
  | .track =>
    let runIn := (e.raw c 2).getD (0, 0)
    let spdIn := (e.input c 4).getD (0, 0)
    let run := if runIn.1.getLsbD 0 then decide (runIn.2 > 0) else h.running
    let spd := if spdIn.1.getLsbD 0 then spdIn.2 else h.speed
    { outs := (if runIn.1.getLsbD 0 then [(1, digitalOut run)] else []) ++
        (if spdIn.1.getLsbD 0 then [(3, scaleOut c.params spd spdIn.1)] else []),
      output := if run then 1 else 0, uval := some (pumpU c run spd), half := { h with running := run, speed := spd } }
  | _ => { output := h.output, uval := some (pumpU c h.running h.speed), half := h }

/-- LOOP (R350): values S32, products S64. -/
def lawLoop (e : Env) (c : Channel) (v sp : Int) (m : Mode) (h : ChHalf) : Law :=
  let p := c.params
  let prev := h.output
  let err := wrapS 32 (if u8 p 66 % 2 = 1 then v - sp else sp - v)
  let pterm := wrapS 32 (asr (wrapS 64 (err * s32 p 68)) 16)
  match m with
  | .hold => { output := prev, uval := some prev, half := h }
  | .control =>
    let inew := if u32 p 72 = 0 then h.integ else wrapS 32 (h.integ + tdiv (wrapS 64 (pterm * e.periodUs)) ((u32 p 72 : Int) * 1000))
    let d0 := wrapS 32 (pterm + inew)
    let step := wrapS 32 (tdiv ((u32 p 84 : Int) * e.periodUs) 1000000)
    let d1 := if u32 p 84 = 0 then d0 else min (max d0 (wrapS 32 (prev - step))) (wrapS 32 (prev + step))
    let d2 := min (max d1 (s32 p 76)) (s32 p 80)
    let d3 := if u8 p 65 = 0xFF then d2 else
      let mg := (e.depValue c (u8 p 65)).2
      let lim := wrapS 32 (s32 p 76 + tdiv (wrapS 64 ((s32 p 80 - s32 p 76) * (mg - s32 p 88))) (s32 p 92 - s32 p 88))
      min d2 (max lim (s32 p 76))
    { outs := [(2, scaleOut p d3 qValid)], output := d3, uval := some d3, half := { h with integ := if d3 = d0 then inew else h.integ } }
  | _ => { output := prev, uval := some prev, half := { h with integ := wrapS 32 (prev - pterm) } }

/-- The channel value that an output sample stands for: the inverse of R330, which the safe action of a CUSTOM channel starts from (log
entry 190). -/
def unscaleOut (p : Bytes) (x : Int) : Int := if pOutGain p = 0 then x else satS 32 (tdiv (x * 65536) (pOutGain p) + pOutOffset p)

/-- The law of a channel's type, on the value of the cycle. -/
def law (e : Env) (c : Channel) (v : Int) (q : Byte) (sp : Int) (m : Mode) (x : Sense) (h : ChHalf) : Law :=
  match c.typ with
  | .level => lawLevel c v sp m h
  | .valve => lawValve c v q sp m h
  | .pump => lawPump e c sp m h
  | .loop => lawLoop e c v sp m h
  | .derived | .margin => { output := 0, half := h }
  | .custom => match m with
    | .hold | .resume => { output := h.output, half := h }
    | _ => { outs := x.outs, output := ((x.outs.find? fun o => o.1 == 1).map fun o => unscaleOut c.params o.2.2).getD h.output, half := h }

/-! ### The shadow model and DISCORD (R362 to R366) -/

/-- The model input that the station of the primary output has confirmed as applied, if any (R363). -/
def Env.confirmed (e : Env) (c : Channel) : Option Int :=
  match (primaryRole c.typ).bind c.point with
  | none => none
  | some b =>
    match c.half.applied.find? fun a => decide (a.1.toNat ≤ (e.s.station b.station).lastApplied) with
    | some a => some a.2
    | none => c.half.confirmed

/-- The model's input u (Table CHN-6). Before any confirmed application the spec states no u. -/
def Env.modelInput (e : Env) (c : Channel) (x : Sense) : Int :=
  match c.typ with
  | .level => if u8 c.params 67 = 0xFF then 0 else (e.depValue c (u8 c.params 67)).2
  | .valve | .pump | .loop => (e.confirmed c).getD (wrapS 32 (Config.unconfirmed e.cycle.toNat))
  | _ => x.kernelU.getD 0

/-- One committed cycle of a model block: the two states x1 and y and the delay history, newest first, with the input u (R364). -/
def modelAdvance (m : Bytes) (period : Nat) (u : Int) (x : Int × Int × List Int) : Int × Int × List Int :=
  let (x1, y, delay) := x
  let pu : Int := period
  let hist := (u :: delay).take 65
  let d := min 64 (ceilDiv (u32 m 16 * 1000) period)
  let ud := hist.getD d (hist.getLastD u)
  let a1 := tdiv (pu * 65536) ((u32 m 8 : Int) * 1000 + pu)
  let a2 := tdiv (pu * 65536) ((u32 m 12 : Int) * 1000 + pu)
  let drive := asr (s32 m 4 * ud) 16
  if u8 m 0 = 0 then (x1, y, hist)
  else if u8 m 1 % 2 = 1 then (x1, wrapS 32 (y + tdiv (drive * pu) 1000000), hist)
  else
    let x1 := wrapS 32 (x1 + asr ((drive + s32 m 20 - x1) * a1) 16)
    (x1, if u8 m 0 = 2 then wrapS 32 (y + asr ((x1 - y) * a2) 16) else x1, hist)

/-- One step of the model (R364). In the first ARMED cycle it takes the measured value and fills its history; with KIND NONE its states
follow the VALID measurements. -/
def modelStep (c : Channel) (h : ChHalf) (period : Nat) (u meas : Int) (good : Bool) : ChHalf :=
  if h.modelFresh then { h with x1 := meas, y := meas, delay := List.replicate 65 u, modelFresh := false }
  else
    let (x1, y, d) := modelAdvance c.model period u (h.x1, h.y, h.delay)
    if u8 c.model 0 = 0 && good then { h with x1 := meas, y := meas, delay := d } else { h with x1 := x1, y := y, delay := d }

/-- DISCORD after one qualifying cycle (R365). -/
def discordStep (p : Bytes) (h : ChHalf) (disc : Int) : ChHalf :=
  let mag : Int := Int.natAbs disc
  let hit := if h.discord then decide (2 * mag ≤ (pDiscBand p : Int)) else decide (mag > pDiscBand p)
  let run := if hit then h.discRun + 1 else 0
  if run ≥ pDiscCycles p then { h with discord := !h.discord, discRun := 0 } else { h with discRun := run }

/-- Whether a channel's measured input is its value, which a model replaces in ADRIFT (R344, Table CHN-6). -/
def hasModel : ChType → Bool
  | .level | .valve | .pump | .loop => true
  | _ => false

/-- Whether a channel has a model input and a measurement that the model predicts: by its type, or for CUSTOM by HAS_MODEL (Tables CHN-6 and
PIS-6). -/
def Env.modelled (e : Env) (c : Channel) : Bool :=
  hasModel c.typ || (c.typ == .custom && ((Store.find? e.s.programs (u16 c.params 64)).map fun g => (u8 g.image 22).testBit 1).getD false)

/-- The model and DISCORD in one cycle, from the measurement y and its quality; `adrift`: the measurement is being replaced. -/
def Env.shadow (e : Env) (c : Channel) (x : Sense) (adrift : Bool) : ChHalf :=
  let h := x.half
  let y := x.measured
  if !e.modelled c then h
  else
    let good := x.quality.getLsbD 0 && !x.quality.getLsbD 2 && !adrift
    let u := e.modelInput c x
    let h := { modelStep c h e.periodUs u y good with confirmed := e.confirmed c, modelU := u, modelY := y }
    if u8 c.model 0 = 0 then { h with discrepancy := 0 }
    else
      let h := { h with discrepancy := satS 32 (y - h.y) }
      if good then discordStep c.params h (y - h.y) else h

/-! ### The safe action (R367) -/

/-- The primary output under SAFE_ACTION at a time mark, in channel units. -/
def safeOutput (c : Channel) (t : Nat) : Int :=
  let h := c.half
  match pSafeAction c.params with
  | 1 => pSafeValue c.params
  | 2 => rampAt { from0 := h.safeFrom, target := pSafeValue c.params, rate := pSafeRate c.params, t0 := h.safeSince.getD t } t
  | _ => h.safeFrom

/-- An output written into the image of a channel's outputs. -/
def ChHalf.put (h : ChHalf) (o : Nat × Byte × Int) : ChHalf := { h with outputs := (h.outputs.filter fun x => x.1 != o.1) ++ [o] }

/-- The outputs of a SAFED or FAULTED channel: the primary output follows SAFE_ACTION and every other repeats (R340, R367). -/
def safeHalf (c : Channel) (t : Nat) : ChHalf :=
  match primaryRole c.typ with
  | none => c.half
  | some r =>
    if pSafeAction c.params = 0 then c.half
    else
      let v := safeOutput c t
      let sample : Byte × Int :=
        if c.typ = .pump then digitalOut (decide (pSafeValue c.params > 0))
        else if c.typ = .level then digitalOut (decide (v > 0))
        else scaleOut c.params v qValid
      { c.half.put (r, sample) with output := v }

/-! ### One channel in one cycle -/

/-- Whether a station bound to the channel counts as LOST (R342, R397). -/
def Env.stationLost (e : Env) (c : Channel) : Bool := c.roles.any fun b => (e.s.station b.station).sinceLost

/-- The required input roles of a channel. -/
def Env.requiredIns (e : Env) (c : Channel) : List Nat :=
  ((e.s.rolesOf c.typ c.params).filter fun r => r.isIn && r.required).map fun r => r.role

/-- Whether a role's input is VALID and not STALE. -/
def Env.inputFresh (e : Env) (c : Channel) (role : Nat) : Bool :=
  match e.raw c role with
  | some v => fresh v.1
  | none => false

/-- Whether every required input is VALID and not STALE. -/
def Env.inputsFresh (e : Env) (c : Channel) : Bool := (e.requiredIns c).all (e.inputFresh c)

/-- The consecutive cycles without a fresh value, for each required input (R342). -/
def Env.graceCounts (e : Env) (c : Channel) : List (Nat × Nat) :=
  (e.requiredIns c).map fun r =>
    (r, if e.inputFresh c r then 0 else ((c.half.grace.find? fun g => g.1 == r).map fun g => g.2).getD 0 + 1)

/-- Whether the channel has an output role bound. -/
def Env.hasOutput (e : Env) (c : Channel) : Bool :=
  c.roles.any fun b => (e.s.rolesOf c.typ c.params).any fun r => r.role == b.role && !r.isIn

/-- Whether the channel is ready (R341). -/
def Env.ready (e : Env) (c : Channel) (q : Byte) (action : Option Nat) : Bool :=
  if e.hasOutput c then
    e.inputsFresh c && (c.roles.all fun b => (e.s.station b.station).state = .moored) && action.isNone
  else q.getLsbD 0

/-- The next state and cause by Table CHN-4 and the precedence of R345, for a channel that runs. `arming`: CH_ARM takes effect in this
cycle, whose COMMIT makes it ARMED. -/
def Env.nextState (e : Env) (c : Channel) (lost ready div0 : Bool) (action : Option Nat) (safeCmd disarm arming : Bool) : ChState × Nat :=
  if disarm then (.bound, 0)
  else if arming then (.armed, 0)
  else if div0 then (.faulted, 4)
  else if safeCmd then (.safed, 0)
  else if action = some 2 then (.safed, 3)
  else match c.state with
    | .adrift =>
      if e.markUs - c.half.adriftSince.getD e.markUs ≥ pAdriftMs c.params * 1000 then (.safed, 2)
      else if !lost && ready then (.active, 1)
      else (.adrift, 1)
    | .active =>
      if lost then (if pAdriftMs c.params = 0 then (.safed, 2) else (.adrift, 1)) else (.active, 0)
    | .armed => if ready && !lost then (.active, 0) else (.armed, 0)
    | st => (st, 0)

/-- The limit state of a value: 0 within, 1 above, 2 below (R331). -/
def limitOf (p : Bytes) (v : Int) : Nat :=
  if !pLimitEn p then 0 else if v > pHiLimit p then 1 else if v < pLoLimit p then 2 else 0

/-- LIMIT_CROSSED of KIND 7 when the limit state changes, with LIMIT_EN set (R331). -/
def limitEvents (slot : Nat) (p : Bytes) (old : Nat) (v : Int) : List ChEvent :=
  let new := limitOf p v
  if new = old || !pLimitEn p then []
  else [.limit slot (new != 0) v (if (if new = 0 then old else new) = 1 then pHiLimit p else pLoLimit p)]

/-- A channel that leaves the armed states for BOUND: DISCORD is cleared (R365), and nothing is substituted or lost any more. -/
def leaveArmed (h : ChHalf) : ChHalf :=
  { h with discord := false, discRun := 0, substInput := false, depLost := false, held := false, adriftSince := none }

/-- The DISCORD event of a CH_DISARM. -/
def disarmEvents (slot : Nat) (h : ChHalf) : List ChEvent := if h.discord then [.discord slot false (h.y + h.discrepancy) h.y] else []

/-- A channel that takes its safe action now (R281, R283). -/
def safeNow (c : Channel) (t : Nat) : Channel :=
  let d := if c.state.runs then { c with half := { c.half with safeSince := some t, safeFrom := c.half.output } } else c
  { d with half := safeHalf d t }

/-- A channel that does not run, in one cycle: the safe action, or the end of it by CH_DISARM. -/
def computeStill (e : Env) (slot : Nat) (c : Channel) (disarm : Bool) : Channel × List ChEvent :=
  if disarm then ({ c with state := .bound, half := leaveArmed c.half }, .state slot c.state.code ChState.bound.code 0 :: disarmEvents slot c.half)
  else ({ c with half := safeHalf c e.markUs }, [])

/-- The mode of a cycle's outputs (R341, R357, R358): after a loss that held the channel ends, one further cycle keeps the outputs. -/
def modeOf (c : Channel) (action : Option Nat) : Mode :=
  if c.state = .armed then .track
  else match action with
    | some 0 => .control
    | some _ => .hold
    | none => if c.half.held then .resume else .control

/-- The dynamic state that a cycle leaves, by the new state: entry to SAFED or FAULTED and CH_DISARM repeat the committed outputs (R283, R367). -/
def settle (c : Channel) (h : ChHalf) (st : ChState) (t : Nat) : ChHalf :=
  let same := { h with outputs := c.half.outputs, output := c.half.output }
  match st with
  | .safed | .faulted => { same with safeSince := some t, safeFrom := c.half.output }
  | .bound => leaveArmed same
  | _ => h

/-- One channel computed in one cycle: the working channel and the events of its COMMIT. `safeCmd`, `disarm`, `arming`: a CH_SAFE, CH_DISARM
or CH_ARM takes effect in this cycle. -/
def computeChannel (e : Env) (slot : Nat) (c : Channel) (safeCmd disarm arming : Bool) : Channel × List ChEvent :=
  if !c.state.runs then computeStill e slot c disarm
  else
    let grace := e.graceCounts c
    let lost := e.stationLost c || grace.any fun g => decide (g.2 ≥ pInputGrace c.params)
    let action := e.lostAction c
    let mode := modeOf c action
    let hold := mode = .hold || mode = .resume
    let (sp, ramp) := stepSetpoint c.params c.half e.markUs hold
    let x := sense e slot c hold
    let adrift := hasModel c.typ && (c.state = .adrift || (c.state = .active && lost && pAdriftMs c.params != 0 && action != some 2))
    let h1 := e.shadow c x adrift
    let v := if adrift then tdiv h1.y x.factor else x.value
    let q := if adrift then qValid ||| qSubst else x.quality
    let l := law e c v q sp mode x h1
    let (st, cause) := e.nextState c lost (e.ready c q action) x.div0 action safeCmd disarm arming
    let h2 := l.outs.foldl ChHalf.put l.half
    let h3 : ChHalf := { h2 with
      value := v, quality := q ||| l.qAdd, setpoint := sp, ramp := ramp, output := l.output, grace := grace, substInput := adrift,
      depLost := action.isSome, held := (match action with | some (_ + 1) => true | _ => false),
      adriftSince := if st = .adrift then some (c.half.adriftSince.getD e.markUs) else none,
      limitState := limitOf c.params v,
      applied := match l.uval with
        | some u => ((e.cycle, u) :: h2.applied).take 64
        | none => h2.applied }
    let evs := (if st = c.state then [] else [ChEvent.state slot c.state.code st.code cause]) ++
      (if disarm then disarmEvents slot c.half
       else if h3.discord = c.half.discord then []
       else [ChEvent.discord slot h3.discord x.measured h3.y]) ++
      limitEvents slot c.params c.half.limitState v
    ({ c with state := st, half := settle c h3 st e.markUs }, evs)

end Sys2Proof.Machine
end

