-- ==== Sys2Proof/Machine/Operands.lean ====
section
/-! DEFINITION. The operand fields of a Plain macro-instruction (Tables PIS-1 and PIS-2). -/

namespace Sys2Proof.Machine

/-- The fields of a macro-instruction (Table PIS-1). -/
def macroField (m : MacroInstr) (hi lo : Nat) : Nat := (m.toNat >>> lo) % 2 ^ (hi + 1 - lo)

/-- The OPCODE of a macro-instruction. -/
def mOp (m : MacroInstr) : Nat := macroField m 7 0

/-! ### Fields of a macro-instruction (Tables PIS-1 and PIS-2) -/

def mW (m : MacroInstr) : Nat := macroField m 13 8 + 1
def mDst (m : MacroInstr) : Nat := macroField m 26 14
def mSrc1 (m : MacroInstr) : Nat := macroField m 39 27
def mSrc2 (m : MacroInstr) : Nat := macroField m 52 40
def mMsel (m : MacroInstr) : Nat := macroField m 54 53
def mIdx (m : MacroInstr) : Nat := macroField m 56 55
def mEdge (m : MacroInstr) : Nat := macroField m 58 57
def mSign (m : MacroInstr) : Bool := macroField m 59 59 == 1
def mSat (m : MacroInstr) : Bool := macroField m 60 60 == 1
/-- SRC2:SRC1, 26 bits. -/
def mImm26 (m : MacroInstr) : Nat := mSrc1 m + 8192 * mSrc2 m

end Sys2Proof.Machine
end

