-- ==== Sys2Proof/Machine/CmdSystem.lean ====
section
/-! DEFINITION. System and cycle commands: Tables OPC-4 and OPC-5, authentication (R250), the control token (R225, R274). -/

namespace Sys2Proof.Machine

/-! ### Payloads that several commands share -/

/-- The result code of an outcome (Table OPC-3). -/
def CycleOutcome.code : CycleOutcome → Nat
  | .committed => 0
  | .late => 1
  | .discarded => 2
  | .braced => 3

/-- A budget as a U32 (a negative budget reads as 0). -/
def u32Of (n : Int) : Nat := n.toNat % 4294967296

/-- The CYCLE_STATUS reply (Table OPC-5). -/
def State.cycleStatus (s : State) : Bytes :=
  leBytes 1 s.cycleOn.toNat ++ leBytes 1 s.wc.decimation ++ leBytes 1 s.wc.gatherPct ++ leBytes 1 (min s.wc.lateRun 255) ++
    leBytes 4 s.wc.periodUs ++ leBytes 4 s.wc.leadUs ++ leBytes 4 s.wc.cycle.toNat ++ leBytes 4 s.wc.lastCycle.toNat ++
    leBytes 1 s.wc.lastOutcome.code ++
    leBytes 1 (s.wc.restricted.toNat + 2 * s.warning.toNat + 4 * (s.rbit Reg.clkgenStatus 13).toNat) ++ zeros 2 ++
    leBytes 4 (u32Of (s.budgetNow s.chans)) ++ leBytes 4 s.costNow ++
    leBytes 4 s.wc.nCommitted ++ leBytes 4 s.wc.nLate ++ leBytes 4 s.wc.nDiscarded ++ leBytes 4 s.wc.nBraced

/-- The slots that CH_CREATE may still allocate: not held, not in a failed field, not in the upper field of an enabled pair (R279). -/
def State.slotUsable (s : State) (slot : Nat) : Bool :=
  !(s.rbit Reg.sysctlPlainFail (slot / 64)) && !(decide (slot / 64 ≥ 8) && (s.pairs.testBit (slot / 64 - 8) || s.admitView.pairs.testBit (slot / 64 - 8)))

/-- The lowest FREE slot that may be allocated. -/
def State.freeSlots (s : State) : List Nat :=
  (List.range 1024).filter fun i => (Store.find? s.chans i).isNone && s.slotUsable i

/-! ### System commands (Table OPC-4) -/

/-- PING: the payload returns unchanged (R271). -/
def bodyPing : Body := fun _ q s =>
  if q.payload.length > 64 then refuseLen s else { state := s, payload := q.payload }

/-- INFO (R271). -/
def bodyInfo : Body := fun _ q s =>
  if q.payload ≠ [] then refuseLen s else
  { state := s,
    payload := leBytes 4 0x2B1607E5 ++ leBytes 1 s.otp.gradeAx.toNat ++
      leBytes 1 (if s.recovery then 2 else if s.rbit Reg.sysctlBootStatus 13 then 1 else 0) ++
      leBytes 1 (s.fld Reg.sysctlBootStatus 1 0) ++ leBytes 1 2 ++ leBytes 4 s.boot.imgSeq ++ leBytes 2 s.otp.rollback ++
      leBytes 2 (s.fld Reg.sysctlPlainFail 15 0) ++ leBytes 2 s.freeSlots.length ++ leBytes 1 s.sessionBits ++
      leBytes 1 s.omx.token ++ leBytes 4 s.boot.fwVersion ++ leBytes 4 s.boot.patchId ++ leBytes 1 s.warning.toNat ++
      leBytes 1 s.pairs ++ zeros 2 }

/-- The number of a new session: one that is not open, a number that no waiting request of an ended session still names if there is one, and of
those the lowest (DESIGN CHOICE, log entry 171). -/
def State.freeSession (s : State) : Option Nat :=
  match [1, 2, 3, 4].filter fun n => (s.session n).isNone with
  | [] => none
  | n :: r => some (((n :: r).find? fun k => s.omx.interp.all fun q => q.pkt.session != k).getD n)

/-- SENSE_MV as reports give it: corrected by the calibration offset (R837). -/
def State.senseReport (s : State) : Nat := ((s.fld Reg.supmonSenseMv 11 0 : Int) + s.cal.senseOffsetMv).toNat

/-- SUPPLY_WARNING to one session (Table OPC-15). -/
def State.supplyEventTo (s : State) (n : Nat) (warn : Bool) (monitors : Nat) : State :=
  s.emitTo n 0x8005 0 (leBytes 1 warn.toNat ++ leBytes 1 monitors ++ leBytes 2 s.senseReport ++ leBytes 4 s.wc.cycle.toNat)

/-- The first events of a session: the RESET entry of the last reset, when its cause was not POR (R873), then SUPPLY_WARNING when
the warning holds (R97). -/
def State.firstEvents (s : State) (n : Nat) : State :=
  let t := match s.boot.resetEntry with
    | some p => s.emitTo n 0x8006 0 (leBytes 1 5 ++ leBytes 1 0x12 ++ leBytes 2 0x011 ++ leBytes 4 p.1.toNat ++ leBytes 4 p.2.toNat)
    | none => s
  if t.warning then t.supplyEventTo n true (t.fld Reg.supmonStatus 2 1) else t

/-- SESSION_OPEN (R97, R164, R217, R221, R222, R272, R873). -/
def bodySessionOpen : Body := fun ep q s =>
  let live := u16 q.payload 0
  if q.payload.length ≠ 4 then refuseLen s
  else if live ≠ 0 ∧ (live < 500 ∨ 60000 < live) then refuseAt s St.tableRange 0
  else match firstNonZero q.payload 2 2 with
  | some o => refuseAt s St.reservedBits o
  | none =>
    if s.endpointBound ep then refuse s St.wrongState
    else match s.freeSession with
    | none => refuse s St.busySessions
    | some n =>
      let ms := if live = 0 then 3000 else live
      let x : Session := { ep := ep, livenessMs := ms, expected := q.seq + 1, opening := s.omx.openings }
      { state := { s with omx := { s.omx with sessions := Store.insert s.omx.sessions n x, openings := s.omx.openings + 1 } },
        payload := [BitVec.ofNat 8 n, 0] ++ leBytes 2 ms ++ leBytes 2 (q.seq + 1).toNat,
        after := fun t => t.firstEvents n }

/-- SESSION_CLOSE: the reply leaves before R224 is applied (R273). -/
def bodySessionClose : Body := fun _ q s =>
  if q.payload ≠ [] then refuseLen s else { state := s, after := fun t => t.endSession q.session }

/-- CTRL_TAKE (R225, R273, R274). -/
def bodyCtrlTake : Body := fun _ q s =>
  if q.payload.length ≠ 4 then refuseLen s
  else if u8 q.payload 0 > 1 then refuseAt s St.reservedBits 0
  else match firstNonZero q.payload 1 3 with
  | some o => refuseAt s St.reservedBits o
  | none =>
    let take := u8 q.payload 0 = 1
    let authed := q.isAuth && ((s.session q.session).map fun x => x.authed).getD false
    if take && !authed then refuse s St.authRequired
    else if s.omx.token = q.session then { state := s, payload := [BitVec.ofNat 8 q.session] }
    else if s.omx.token ≠ 0 && !take then refuse s St.wrongState
    else
      let prev := s.omx.token
      let t := { s with omx := { s.omx with token := q.session } }
      let t := t.dropStaging
      { state := t, payload := [BitVec.ofNat 8 prev],
        after := fun u => if prev = 0 then u else u.emitTo prev 0x8006 0
          (leBytes 1 1 ++ leBytes 1 0x13 ++ leBytes 2 0x043 ++ leBytes 4 u.wc.cycle.toNat ++ leBytes 4 (prev + 256)) }

/-- CTRL_RELEASE (R274). -/
def bodyCtrlRelease : Body := fun _ q s =>
  if s.omx.token ≠ q.session then refuse s St.notController
  else if q.payload ≠ [] then refuseLen s
  else { state := { s with omx := { s.omx with token := 0 } }.dropStaging }

/-- TIME_GET (R271). -/
def bodyTimeGet : Body := fun _ q s =>
  if q.payload ≠ [] then refuseLen s else
  { state := s,
    payload := leBytes 8 s.nowUs ++ leBytes 4 s.wc.cycle.toNat ++ leBytes 4 (s.reg Reg.bbrRtcS).toNat ++
      leBytes 1 ((s.rbit Reg.clkgenStatus 3).toNat + 2 * s.ptp.isMaster.toNat + 4 * s.cycleOn.toNat) ++ zeros 3 }

/-- RESET_DEVICE: its reply, MSI-X vector 8 on every pair, and a reset announced for 10 ms later (R275). -/
def bodyResetDevice : Body := fun _ q s =>
  if q.payload.length ≠ 8 then refuseLen s
  else if u32 q.payload 0 ≠ 0xA5A5 then refuseAt s St.tableRange 0
  else if u8 q.payload 4 > 1 then refuseAt s St.reservedBits 4
  else match firstNonZero q.payload 5 3 with
  | some o => refuseAt s St.reservedBits o
  | none =>
    if s.cycleOn && u8 q.payload 4 = 0 then refuse s St.wrongState
    else { state := s, after := fun t => { t.raiseVector 8 with omx := { t.omx with resetAnnounced := true } } }

/-- AUTH_CHALLENGE: a fresh device nonce from the device's own random source (R250, R253). DESIGN CHOICE (log entry 172): a challenge that is not
yet spent is replaced. -/
def bodyAuthChallenge : Body := fun _ q s =>
  if q.payload.length ≠ 16 then refuseLen s
  else if s.otp.custKey.isNone then refuse s St.wrongState
  else if s.omx.lockout then refuse s St.authFailed
  else
    let nd := freeBytes s.freeCtr 16
    let t := { s with freeCtr := s.freeCtr + 16 }
    { state := t.updSession q.session fun x => { x with challenge := some { hostNonce := q.payload, devNonce := nd } }, payload := nd }

/-- An ASCII label of R250. -/
def label (l : List Nat) : Bytes := l.map fun c => BitVec.ofNat 8 c

/-- "OMX-HOST". -/
def labelHost : Bytes := label [0x4F, 0x4D, 0x58, 0x2D, 0x48, 0x4F, 0x53, 0x54]
/-- "OMX-DEV". -/
def labelDev : Bytes := label [0x4F, 0x4D, 0x58, 0x2D, 0x44, 0x45, 0x56]
/-- "OMX-KEY". -/
def labelKey : Bytes := label [0x4F, 0x4D, 0x58, 0x2D, 0x4B, 0x45, 0x59]

/-- AUTH_RESPONSE (Table CMD-5, R250); SESSION enters the HMAC as one byte (log entry 9). -/
def bodyAuthResponse : Body := fun _ q s =>
  if q.payload.length ≠ 32 then refuseLen s
  else match s.otp.custKey, (s.session q.session).bind fun x => x.challenge with
  | some k, some c =>
    let t := s.updSession q.session fun x => { x with challenge := none }
    let sess : Bytes := [BitVec.ofNat 8 q.session]
    if q.payload = hmac k (labelHost ++ c.devNonce ++ c.hostNonce ++ sess) then
      let t := t.updSession q.session fun x => { x with authed := true, ks := hmac k (labelKey ++ c.devNonce ++ c.hostNonce) }
      { state := t, payload := hmac k (labelDev ++ c.hostNonce ++ c.devNonce ++ sess) }
    else { state := t, status := St.authFailed }
  | _, _ => refuse s St.wrongState

/-! ### Cycle commands (Table OPC-5) -/

/-- CYCLE_SET (R15, R18 to R20, R276): zero fields leave their parameter unchanged. -/
def bodyCycleSet : Body := fun _ q s =>
  let p := q.payload
  let per := if u32 p 0 = 0 then s.wc.periodUs else u32 p 0
  let gat := if u8 p 4 = 0 then s.wc.gatherPct else u8 p 4
  let dec := if u8 p 5 = 0 then s.wc.decimation else u8 p 5
  let lead := if u32 p 8 = 0 then s.wc.leadUs else u32 p 8
  if p.length ≠ 12 then refuseLen s
  else if per < 1000 ∨ 200000 < per then refuseAt s St.tableRange 0
  else if gat < 2 ∨ 50 < gat then refuseAt s St.tableRange 4
  else if 16 < dec then refuseAt s St.tableRange 5
  else match firstNonZero p 6 2 with
  | some o => refuseAt s St.reservedBits o
  | none =>
    if lead < 200 ∨ 10000 < lead then refuseAt s St.tableRange 8
    else if s.cycleOn && (per != s.wc.periodUs || gat != s.wc.gatherPct || lead != s.wc.leadUs) then refuse s St.wrongState
    else
      let v := s.admitView
      let a := budget v.arrMhz per (gatherUs per gat) lead (v.frameBuild v.chans)
      let c := v.costOf v.chans dec v.modelSize v.pairs
      if a < (s.arrMhz * 100 : Nat) ∨ a < (c : Int) then refuse s St.budget
      else
        let t := { s with wc := { s.wc with periodUs := per, gatherPct := gat, leadUs := lead, decimation := dec } }
        let tail := leBytes 4 (u32Of a) ++ leBytes 4 c
        if s.appliesNow || u8 p 5 = 0 then
          { state := t, status := changeStatus q, payload := leBytes 4 0 ++ tail,
            after := match s.notifyOf q with | some n => fun u => u.emitCompletion n St.ok 0 | none => id }
        else { state := t.pend .atPass .decimation (s.notifyOf q), status := changeStatus q, payload := leBytes 4 s.passCycle.toNat ++ tail }

/-- The first aligned mark at least one full period after an instant (R13, R21). -/
def firstMark (now period : Nat) : Nat := ceilDiv (now + period) period * period

/-- The number of the first cycle of a start: 1 after a device reset, else one above the last that ran (R21). -/
def State.firstCycle (s : State) : Word := nextCycle s.wc.cycle

/-- The role at an accepted CYCLE_START: STANDBY when an ACTIVE device was heard within 300 ms (R407). -/
def State.startRole (s : State) : DevRole :=
  if s.tl.heard.any fun d => d.role == 2 && decide (s.nowUs ≤ d.heardUs + 300000) then .standby else .active

/-- CYCLE_START (R21, R173, R277, R407). -/
def bodyCycleStart : Body := fun _ q s =>
  if q.payload ≠ [] then refuseLen s
  else if s.cycleOn then refuse s St.wrongState
  else if s.fld Reg.sysctlPlainFail 15 0 = 0xFFFF then refuse s St.wrongState
  else
    let m := firstMark s.nowUs s.wc.periodUs
    { state := { s with
        wc := { s.wc with startAtUs := some m, nCommitted := 0, nLate := 0, nDiscarded := 0, nBraced := 0 }
        tl := { s.tl with role := s.startRole, missedMarks := 0 } }.setDeadline,
      payload := leBytes 4 s.firstCycle.toNat ++ leBytes 8 m }

/-- CYCLE_STOP (R22, R277). -/
def bodyCycleStop : Body := fun _ q s =>
  if q.payload ≠ [] then refuseLen s
  else if !s.cycleOn || s.wc.stopPending then refuse s St.wrongState
  else { state := { s with wc := { s.wc with stopPending := true } }, payload := leBytes 4 s.wc.cycle.toNat }

/-- CYCLE_STATUS (R277). -/
def bodyCycleStatus : Body := fun _ q s =>
  if q.payload ≠ [] then refuseLen s else { state := s, payload := s.cycleStatus }

/-! ### The rows -/

def execPing (q : Req) (s : State) : Out := s.runCommand q bodyPing
def execInfo (q : Req) (s : State) : Out := s.runCommand q bodyInfo
def execSessionOpen (q : Req) (s : State) : Out := s.runCommand q bodySessionOpen
def execSessionClose (q : Req) (s : State) : Out := s.runCommand q bodySessionClose
def execCtrlTake (q : Req) (s : State) : Out := s.runCommand q bodyCtrlTake
def execCtrlRelease (q : Req) (s : State) : Out := s.runCommand q bodyCtrlRelease
def execTimeGet (q : Req) (s : State) : Out := s.runCommand q bodyTimeGet
def execResetDevice (q : Req) (s : State) : Out := s.runCommand q bodyResetDevice
def execAuthChallenge (q : Req) (s : State) : Out := s.runCommand q bodyAuthChallenge
def execAuthResponse (q : Req) (s : State) : Out := s.runCommand q bodyAuthResponse
def execCycleSet (q : Req) (s : State) : Out := s.runCommand q bodyCycleSet
def execCycleStart (q : Req) (s : State) : Out := s.runCommand q bodyCycleStart
def execCycleStop (q : Req) (s : State) : Out := s.runCommand q bodyCycleStop
def execCycleStatus (q : Req) (s : State) : Out := s.runCommand q bodyCycleStatus

end Sys2Proof.Machine
end

