-- ==== Sys2Proof/Machine/Flash.lean ====
section
/-! DEFINITION. The flash and the QSPI master's queue of operations (chapter 21, R785 to R794). -/

namespace Sys2Proof.Machine

/-- One byte of the flash on chip select 0: 0xFF where erased, and a free value in a sector whose erase was cut short. -/
def Flash.read (f : Flash) (a : Nat) : Byte :=
  match Store.find? f.doubt (a / 65536) with
  | some k => Config.doubtByte k a
  | none => Store.get f.cs0 a 0xFF

/-- `n` bytes of the flash from `a`. -/
def Flash.readBytes (f : Flash) (a : Nat) : Nat → Bytes
  | 0 => []
  | n + 1 => f.read a :: f.readBytes (a + 1) n

/-- The page programs of a string from an address; a page is 256 bytes (R785). -/
def pagesFrom : Nat → Nat → Bytes → List FlashOp
  | 0, _, _ => []
  | n + 1, a, b => if b.isEmpty then [] else .program a (b.take 256) :: pagesFrom n (a + 256) (b.drop 256)

/-- The erases of the sectors of a region. -/
def erasesFrom (a bytes : Nat) : List FlashOp := (List.range (ceilDiv bytes 65536)).map fun i => .erase (a + 65536 * i)

/-- A region erased and written. -/
def rewriteRegion (a : Nat) (b : Bytes) : List FlashOp := erasesFrom a b.length ++ pagesFrom (ceilDiv b.length 256) a b

/-- The address of a Slipway copy (Table HPS-6). -/
def slipCopyAddr (i : Nat) : Nat := 0x400000 + 0x80000 * i

/-- The operations of a background write; the records whose layout the spec does not give are one operation each. The older Slipway copy
is rewritten (R788). -/
def State.opsOf (s : State) : BgTask → List FlashOp
  | .persistSlip b => rewriteRegion (slipCopyAddr (1 - s.flash.slipNewer)) b
  | .writeFwSlot slot b _ => rewriteRegion (0x100000 * slot) b
  | t => [.record t]

/-- The next operation starts when none runs and no warning holds (R89, R794); an empty queue takes the next background write. -/
def State.feedFlash (s : State) : State :=
  if s.rbit Reg.qspiCtrl 7 || s.warning then s
  else if !s.flash.ops.isEmpty then s.setRbit Reg.qspiCtrl 7 true
  else match s.omx.background with
    | [] => s
    | t :: r =>
      { s with omx := { s.omx with background := r }, flash := { s.flash with ops := s.opsOf t, task := some t } }.setRbit Reg.qspiCtrl 7 true

/-- A background write is queued. -/
def State.queueWrite (s : State) (t : BgTask) : State :=
  { s with omx := { s.omx with background := s.omx.background ++ [t] } }.feedFlash

/-! ### The journal (R844, R845) -/

/-- The flash address of a journal page; page 0 of each 256 is the sector's header. -/
def journalAddr (page : Nat) : Nat := 0x1000000 + 256 * page

/-- A journal record of 32 bytes. -/
def journalRecord (kind key seq : Nat) (payload : Bytes) : Bytes :=
  let b := leBytes 1 kind ++ leBytes 1 20 ++ leBytes 2 key ++ leBytes 4 seq ++ (payload ++ zeros 20).take 20
  b ++ leBytes 4 (crc32 b).toNat

/-- KIND and KEY of a record as one number. -/
def recordKey (r : Bytes) : Nat := 65536 * u8 r 0 + u16 r 2

/-- The payload of the record that stands for a KIND and KEY. -/
def Journal.payload (j : Journal) (kind key : Nat) : Option Bytes :=
  (Store.find? j.standing (65536 * kind + key)).map fun r => slice r 8 20

/-- A record is buffered when its content differs from the newest of its KIND and KEY. -/
def State.journalPut (s : State) (kind key : Nat) (payload : Bytes) : State :=
  let j := s.journal
  let p := (payload ++ zeros 20).take 20
  let last := match (j.buffer.filter fun r => recordKey r == 65536 * kind + key).getLast? with
    | some r => some (slice r 8 20)
    | none => j.payload kind key
  if last = some p then s
  else { s with journal := { j with
    buffer := j.buffer ++ [journalRecord kind key j.seq p], seq := (j.seq + 1) % 4294967296, firstUs := some (j.firstUs.getD s.nowUs) } }

/-- A record stands unless one of its KIND and KEY with a higher SEQ does. -/
def Journal.stand (j : Journal) (r : Bytes) : Journal :=
  match Store.find? j.standing (recordKey r) with
  | some old => if u32 old 4 > u32 r 4 then j else { j with standing := Store.insert j.standing (recordKey r) r }
  | none => { j with standing := Store.insert j.standing (recordKey r) r }

/-- Whether a sector's header verifies. -/
def Flash.sectorOk (f : Flash) (sector : Nat) : Bool :=
  let h := f.readBytes (journalAddr (256 * sector)) 16
  u32 h 0 == 0x4A59444E && (crc32 (h.take 12)).toNat == u32 h 12

/-- The erase of a journal sector and its new header. -/
def State.prepareSector (s : State) (sector seq : Nat) (frees : Bool) : List FlashOp :=
  let a := journalAddr (256 * sector)
  let count := if s.flash.sectorOk sector then u32 (s.flash.readBytes a 16) 8 + 1 else 1
  let h := leBytes 4 0x4A59444E ++ leBytes 4 seq ++ leBytes 4 count
  [.erase a, .header a (h ++ leBytes 4 (crc32 h).toNat) frees]

/-- Operations of the Harbour firmware's journal are queued behind those that wait. -/
def State.queueOps (s : State) (l : List FlashOp) : State :=
  { s with flash := { s.flash with ops := s.flash.ops ++ l } }.feedFlash

/-- The page that the journal writes next: a sector whose header does not verify, and whose erase is not on its way, is empty, so that the
journal goes on at its first page (R91). -/
def State.journalNext (s : State) : Nat :=
  let sec := s.journal.headPage / 256
  if s.flash.sectorOk sec || s.flash.ops.any (fun o => decide (o = .erase (journalAddr (256 * sec)))) then s.journal.headPage else 256 * sec + 1

/-- Up to 8 records written to the next page; a sector entered anew, or left by an erase cut short, is erased first unless its header
verifies (R91). -/
def State.journalPage (s : State) (recs : List Bytes) : State :=
  let j := s.journal
  let p := s.journalNext
  let fresh := p % 256 == 1
  let prep := fresh && !s.flash.sectorOk (p / 256)
  let ops := (if prep then s.prepareSector (p / 256) (j.sectorSeq + 1) false else []) ++ [.journal (journalAddr p) recs]
  let next := if (p + 1) % 256 = 0 then p + 2 else p + 1
  let t := s.queueOps ops
  { t with journal := { t.journal with
    headPage := next % 65536
    sectorSeq := if prep then j.sectorSeq + 1 else j.sectorSeq
    freeSectors := if fresh && p == j.headPage then j.freeSectors - 1 else j.freeSectors } }

/-- Records written page by page. -/
def State.journalPages : Nat → List Bytes → State → State
  | 0, _, s => s
  | n + 1, l, s => if l.isEmpty then s else State.journalPages n (l.drop 8) (s.journalPage (l.take 8))

end Sys2Proof.Machine
end

