-- ==== Sys2Proof/Machine/Changes.lean ====
section
/-! DEFINITION. What a configuration change does when its cycle comes, and how a command hands it over: at execution while the
cycle is stopped, on the waiting list otherwise (R26, R267, R280 to R285, R294, R295). -/

namespace Sys2Proof.Machine

/-- The code of a station state (Table OPC-3). -/
def StState.code : StState → Nat
  | .absent => 0
  | .hailed => 1
  | .joining => 2
  | .moored => 3
  | .slack => 4
  | .lost => 5

/-! ### Changes of one channel -/

/-- CH_CONFIG's bytes in a parameter block; a narrowed setpoint range clamps the setpoint and aims a ramp at the clamped target (R334). -/
def applyConfig (off : Nat) (data : Bytes) (c : Channel) : Channel :=
  let p := c.params.take off ++ data ++ c.params.drop (off + data.length)
  let lim (v : Int) : Int := min (max v (pSpMin p)) (pSpMax p)
  { c with params := p,
           half := { c.half with setpoint := lim c.half.setpoint, ramp := c.half.ramp.map fun r => { r with target := lim r.target } } }

/-- BOUND or DEFINED re-evaluated for a channel that is in one of the two (R282, R336, R337). -/
def State.rebind (s : State) (c : Channel) : Channel :=
  if c.state = .defined || c.state = .bound then { c with state := if s.allBound c then .bound else .defined } else c

/-- The dynamic state of a channel that is about to be ARMED: its model, filter and counts start anew (R342, R364). -/
def freshHalf (h : ChHalf) : ChHalf :=
  { h with modelFresh := true, tables := none, grace := [], adriftSince := none, filter := [], applied := [], confirmed := none, term0 := none, held := false }

/-- CH_ARM takes effect: the channel is ARMED and its model starts from the measurement (R364). -/
def applyArm (c : Channel) : Channel :=
  if c.state = .bound then { c with state := .armed, half := freshHalf c.half } else c

/-- CH_DISARM takes effect outside a cycle: BOUND, DISCORD cleared, with SAFE_FIRST after the safe action (R283, R365). -/
def applyDisarm (safeFirst : Bool) (t : Nat) (c : Channel) : Channel :=
  match c.state with
  | .defined | .bound => c
  | _ =>
    let d := if safeFirst then safeNow c t else c
    { d with state := .bound, half := leaveArmed d.half }

/-- CH_SETPOINT takes effect: a STEP, or a RAMP from the current setpoint starting at the cycle's mark (R284, R355). -/
def applySetpoint (ramp : Bool) (v : Int) (rate : Nat) (t : Nat) (c : Channel) : Channel :=
  if ramp then
    let r : Ramp := { from0 := c.half.setpoint, target := v, rate := rate, t0 := t }
    { c with half := { c.half with ramp := if v = c.half.setpoint then none else some r } }
  else { c with half := { c.half with setpoint := v, ramp := none } }

/-- CH_SAFE takes effect outside a cycle (R285, R367). -/
def applySafe (t : Nat) (c : Channel) : Channel :=
  if c.state.runs then { c with state := .safed, half := { c.half with safeSince := some t, safeFrom := c.half.output } } else c

/-- IN_GAIN and IN_OFFSET of a passing calibration run (R836). -/
def applyScaling (gain off : Int) (c : Channel) : Channel :=
  { c with params := c.params.take 44 ++ leInt 4 gain ++ leInt 4 off ++ c.params.drop 52 }

/-- The slot of a change that acts inside the channel table, with its function at the mark of the first cycle that uses it; changes of state are made by the cycle itself. -/
def chanChange (t : Nat) : Change → Option (Nat × (Channel → Channel))
  | .config slot off data => some (slot, applyConfig off data)
  | .arm slot => some (slot, applyArm)
  | .setpoint slot r v rate => some (slot, applySetpoint r v rate t)
  | .depend slot deps => some (slot, fun c => { c with deps := deps })
  | .modelWrite slot b => some (slot, fun c => { c with model := b, modelWritten := b })
  | .trim slot on => some (slot, fun c => { c with trim := on })
  | .modelRestore slot => some (slot, fun c => { c with model := c.modelWritten })
  | .calApply slot gain off => some (slot, applyScaling gain off)
  | .trimModel slot b => some (slot, fun c => { c with model := b })
  | _ => none

/-- Waiting changes with the results of calibration runs last, so that such a result stands beside a CH_CONFIG of the same boundary (R849). -/
def calLast (l : List Pending) : List Pending :=
  let cal (p : Pending) : Bool := match p.change with
    | .calApply _ _ _ => true
    | _ => false
  l.filter (fun p => !cal p) ++ l.filter cal

/-- The slot on which a change acts, if it acts on one channel. -/
def Change.slot? : Change → Option Nat
  | .config slot _ _ | .arm slot | .disarm slot _ | .setpoint slot _ _ _ | .depend slot _ | .modelWrite slot _ | .trim slot _
  | .modelRestore slot | .safe slot | .destroyForce slot | .calApply slot _ _ | .trimModel slot _ => some slot
  | .limits _ | .mirror _ | .duty _ | .program _ _ _ _ | .stRelease _ _ | .calRun _ _ _ _ | .slipApply | .decimation | .vessel _ _ _
  | .none => Option.none

/-- The channel of a slot with every accepted CH_CONFIG and CH_DEPEND, whether or not its cycle has come (R26): what a later command is
judged against. -/
def State.latest (s : State) (slot : Nat) (c : Channel) : Channel :=
  s.changes.foldl (fun (d : Channel) (p : Pending) =>
    match p.change with
    | .config n off data => if n = slot then applyConfig off data d else d
    | .depend n deps => if n = slot then { d with deps := deps } else d
    | _ => d) c

/-- Whether a CH_ARM of the slot waits for its cycle. -/
def State.arming (s : State) (slot : Nat) : Bool := s.changes.any fun (p : Pending) => p.change == .arm slot

/-! ### Destroy (R280, R281, R325) -/

/-- A slot freed: its generation advances by 1, from 63 to 1 (R325); what waited for the channel acts on nothing. -/
def State.freeSlot (s : State) (slot : Nat) : State :=
  let g := s.gen slot
  { s with chans := Store.erase s.chans slot, chansWork := s.chansWork.map fun w => Store.erase w slot,
           changes := s.changes.map fun (p : Pending) => if p.change.slot? = some slot then { p with change := .none } else p,
           gens := Store.set s.gens slot (if g ≥ 63 then 1 else g + 1) 1,
           wear := Store.erase s.wear slot, trims := Store.erase s.trims slot,
           cal := { s.cal with zeros := Store.erase s.cal.zeros slot },
           plaus := s.plaus.filter fun (x : Nat × Plaus) => x.1 / 256 != slot }

/-- CHANNEL_STATE to the hosts and its BBR entry (Table OPC-15, Table BBR-2). -/
def State.chanStateEvent (s : State) (slot old new cause : Nat) : State :=
  let h := s.handleOf slot
  let flags := match Store.find? s.chans slot with
    | some c => c.half.discord.toNat + 2 * c.half.substInput.toNat + 4 * c.half.ramp.isSome.toNat + 8 * c.half.depLost.toNat
    | none => 0
  (s.emitAll 0x8003 h (leBytes 1 old ++ leBytes 1 new ++ leBytes 1 cause ++ leBytes 1 flags ++ leBytes 4 s.wc.cycle.toNat)).bbrA
    0x070 1 0x15 (BitVec.ofNat 32 (h + 65536 * old + 1048576 * new + 16777216 * cause))

/-- One event of a COMMIT, or of a change at execution (R331, R345, R365). -/
def State.emitCh (s : State) (e : ChEvent) : State :=
  match e with
  | .state slot old new cause => s.chanStateEvent slot old new cause
  | .discord slot set m y =>
    let h := s.handleOf slot
    (s.emitAll 0x8008 h (leBytes 1 set.toNat ++ zeros 3 ++ leBytes 4 s.wc.cycle.toNat ++ leInt 4 m ++ leInt 4 y)).bbrA 0x071 1 0x15
      (BitVec.ofNat 32 (h + 65536 * set.toNat))
  | .limit slot crossed v lim =>
    let h := s.handleOf slot
    (s.emitAll 0x8004 0 (leBytes 4 s.wc.cycle.toNat ++ leBytes 1 7 ++ leBytes 1 crossed.toNat ++ leBytes 2 h ++ leInt 4 v ++ leInt 4 lim)).bbrA
      0x072 1 0x14 (BitVec.ofNat 32 (7 + 16 * crossed.toNat + 65536 * h))

/-- A channel changed at execution: CHANNEL_STATE when its state changes, and DISCORD when that ends (R339, R365). -/
def State.changeChan (s : State) (slot : Nat) (f : Channel → Channel) : State :=
  match Store.find? s.chans slot with
  | none => s
  | some c =>
    let t := s.updChan slot f
    let new := ((Store.find? t.chans slot).map fun d => d.state).getD c.state
    let u := if new = c.state then t else t.emitCh (.state slot c.state.code new.code 0)
    let quiet := ((Store.find? t.chans slot).map fun d => d.half.discord).getD false
    if c.half.discord && !quiet then (disarmEvents slot c.half).foldl (fun (v : State) e => v.emitCh e) u else u

/-- A channel destroyed: CHANNEL_STATE with CAUSE 6, and the slot is free (R280, R339). -/
def State.destroyChan (s : State) (slot : Nat) : State :=
  (s.chanStateEvent slot (((Store.find? s.chans slot).map fun c => c.state.code).getD 0) 0 6).freeSlot slot

/-! ### Limits (R295, R440, R441) -/

/-- A limit set written by LIMITS_SET with VALUES. -/
def limitsOf (p : Bytes) : LimitSet :=
  { complete := true, gmMin := s32 p 4, draftMax := s32 p 8, trimMax := s32 p 12, heelMax := s32 p 16,
    sections := (List.range (u16 p 2)).foldl (fun m i =>
      let o := 20 + 12 * i
      Store.insert m (u16 p o) (s32 p (o + 2), s40 p (o + 6))) [] }

/-- LIMITS_SET on the live limit sets: VALUES writes the set, ACTIVATE makes it the active one. -/
def applyLimits (p : Bytes) (v : Vessel) : Vessel :=
  let sea := u8 p 0 = 1
  let v := if u8 p 1 / 2 % 2 = 1 then (if sea then { v with sea := limitsOf p } else { v with harbour := limitsOf p }) else v
  if u8 p 1 % 2 = 1 then { v with seaActive := sea } else v

/-- LIMIT_CROSSED for each limit whose crossed state changed, with its BBR entry (R443, Table OPC-15). -/
def State.crossEvents (s : State) (l : List ((Nat × Nat) × Bool × Int × Int)) : State :=
  l.foldl (fun t x =>
    let ((kind, ref), crossed, v, lim) := x
    (t.emitAll 0x8004 0 (leBytes 4 t.wc.cycle.toNat ++ leBytes 1 kind ++ leBytes 1 crossed.toNat ++ leBytes 2 ref ++
      leInt 4 v ++ leInt 4 lim)).bbrA 0x072 1 0x14 (BitVec.ofNat 32 (kind + 16 * crossed.toNat + 65536 * ref))) s

/-- The crossed states evaluated again on the published results (R443). -/
def State.recheckLimits (s : State) : State :=
  match s.ves.half.published with
  | none => s
  | some r =>
    let w := watched r s.ves.active
    let new := newCrossed s.ves.half.crossed w
    ({ s with ves := { s.ves with half := { s.ves.half with crossed := new } } }).crossEvents (crossChanges s.ves.half.crossed new w)

/-- An accepted model becomes the live one; a pass in progress keeps its own (R294, R441). -/
def State.installModel (s : State) (id : Nat) (persist : Bool) (model : VesselModel) : State :=
  let m := { model with modelId := id }
  let s := { s with ves := { s.ves with half := { s.ves.half with live := some m, sinceCommit := true } } }
  if persist then s.queueWrite (.persistModel m) else s

/-- A station changes state: STATION_STATE to the hosts with its cause, and the BBR entry (Tables OPC-15 and BBR-2); a station that
becomes LOST or ABSENT takes part in no cycle (R397). -/
def State.stationTo (s : State) (id : Nat) (new : StState) (cause : Nat) : State :=
  let st := s.station id
  if st.state = new then s else
  let gone := new = .lost || new = .absent
  let st := if gone && id < 112 then st.keepAll else st
  let s := s.setStation id { st with state := new, sinceLost := st.sinceLost || gone, takePart := st.takePart && !gone }
  let pay := BitVec.ofNat 32 (id + 256 * st.state.code + 4096 * new.code + 65536 * cause)
  (s.emitAll 0x8002 0 (leBytes 1 id ++ leBytes 1 st.state.code ++ leBytes 1 new.code ++ leBytes 1 cause ++
    leBytes 4 s.wc.cycle.toNat)).bbrA 0x060 1 0x16 pay

/-- A Tideline frame from the device to a MAC, which may hold no station (Table STN-2). -/
def State.frameTo (s : State) (port mac id typ : Nat) (payload : Bytes) : TxTl :=
  { port := port, dest := mac, typ := typ, stationId := id, cycle := s.frameCycle, mark := s.frameMark, epoch := s.tl.epoch, payload := payload }

/-- A Tideline frame from the device to one station. -/
def State.tlFrame (s : State) (id typ : Nat) (payload : Bytes) : TxTl := s.frameTo (s.station id).port (s.station id).mac id typ payload

/-- The enabled VIDs of a port, in the order of its entries (R731). -/
def State.vids (s : State) (port : Nat) : List Nat :=
  [Reg.ethVidA, Reg.ethVidB].flatMap fun r =>
    let a := r + 65536 * port
    (if s.rbit a 15 then [s.fld a 11 0] else []) ++ (if s.rbit a 31 then [s.fld a 27 16] else [])

/-- The tag of a Tideline frame: the priority code points of Table STN-6 (R415). DESIGN CHOICE (log entry 173): tagging is enabled on a port whose
FILTER_EN is set and that has an enabled VID, and the frames carry the first of these. -/
def State.tlTag (s : State) (port typ : Nat) : Option Nat :=
  match s.vids port with
  | v :: _ => if s.rbit (Reg.ethVlanCfg + 65536 * port) 0 then some ((if 0x10 ≤ typ ∧ typ ≤ 0x13 then 6 else 5) * 8192 + v) else none
  | [] => none

/-- A frame handed to its MAC; a STANDBY device sends no frame but ANNOUNCE (R407), and a shut port sends none. -/
def State.sendTl (s : State) (f : TxTl) : State :=
  if s.tl.role = .standby && f.typ != 0x01 || s.portShut f.port then s
  else s.queueTx f.port (tlQueue f.typ) [] fun t =>
    { t with tx := t.tx ++ [{ f with tci := s.tlTag f.port f.typ }] }

/-- RELEASE of a station: the frame, and ABSENT (R290, R405); with FORCE its channels become ADRIFT by R342. -/
def State.releaseStation (s : State) (id : Nat) (reason : Nat) : State :=
  let st := s.station id
  let fr : TxTl := { port := st.port, dest := st.mac, typ := 0x14, stationId := id, cycle := s.wc.cycle.toNat, mark := s.wc.markUs % 4294967296,
                     epoch := s.tl.epoch, payload := leBytes 1 reason ++ zeros 1 ++ leBytes 2 10 }
  let s := if id < 112 then s.sendTl fr else s
  (s.setStation id { st with join := none, braced := false }).stationTo id .absent 3

/-- A duty group as DUTY_SET gives it (R309): a pump named here leaves any other group. -/
def applyDuty (p : Bytes) (g : Store DutyGroup) : Store DutyGroup :=
  let id := u16 p 0
  let hs := (List.range (u8 p 2)).map fun i => u16 p (8 + 2 * i)
  let g := Store.mapKV g fun _ d => { d with members := d.members.filter fun h => !(hs.contains h) }
  if hs.isEmpty then Store.erase g id
  else Store.insert g id { mode := u8 p 3, rotateS := u32 p 4, members := hs }

/-- MIRROR_SET takes effect: pairs that it enables anew are copied by the next LOAD (R476, R478), and the upper fields of those that it disables
are to enter RET (R482). -/
def State.applyMirror (s : State) (pairs : Nat) : State :=
  let p := s.plain
  let fresh := (List.range 8).foldl (fun n f => if pairs.testBit f && (!p.mirrorPairs.testBit f || p.mirrorNew.testBit f) then n + 2 ^ f else n) 0
  let gone := (List.range 8).filter fun f => p.mirrorPairs.testBit f && !pairs.testBit f
  { s with plain := { p with mirrorPairs := pairs, mirrorNew := fresh, sleeps := p.sleeps ++ gone.map fun f => (f + 8, false) } }

/-- A REPLACE load in force: the new image, its cost and whether flash keeps it (R297, R557). -/
def State.replaceProgram (s : State) (id : Nat) (img : Bytes) (cost : Nat) (persist : Bool) : State :=
  { s with programs := Store.modify s.programs id fun g =>
      { g with image := img, worstCost := cost, crc := crc32 (img.take (img.length - 4)), persisted := persist } }

/-- The channels whose CH_DESTROY took part in the cycle that ends are gone with it (R281). -/
def State.freeLeaving (s : State) : State :=
  ((s.chans.filter fun (x : Nat × Channel) => x.2.leaving).map fun (x : Nat × Channel) => x.1).foldl (fun (t : State) slot => t.freeSlot slot) s

/-- One change applied outside a cycle, at execution, to the committed state (R267). -/
def State.applyStopped (s : State) (c : Change) : State :=
  match c with
  | .arm slot => s.changeChan slot applyArm
  | .disarm slot sf => s.changeChan slot (applyDisarm sf s.nowUs)
  | .safe slot => s.changeChan slot (applySafe s.nowUs)
  | .destroyForce slot => s.destroyChan slot
  | .config slot off data => s.changeChan slot fun c => s.rebind (applyConfig off data c)
  | .setpoint slot r v rate => s.updChan slot (applySetpoint r v rate s.nowUs)
  | .depend slot deps => s.updChan slot fun c => { c with deps := deps }
  | .modelWrite slot b => s.updChan slot fun c => { c with model := b, modelWritten := b }
  | .trim slot on => s.updChan slot fun c => { c with trim := on }
  | .modelRestore slot => s.updChan slot fun c => { c with model := c.modelWritten }
  | .limits p => { s with ves := applyLimits p s.ves }.recheckLimits
  | .mirror pairs => s.applyMirror pairs
  | .duty p => { s with duty := applyDuty p s.duty }
  | .program id img cost persist => s.replaceProgram id img cost persist
  | .stRelease id _ => s.releaseStation id 0
  | .calRun kind slot ref n => { s with cal := { s.cal with runs := Store.insert s.cal.runs kind { slot := slot, reference := ref, notify := n } } }
  | .calApply slot gain off => s.updChan slot (applyScaling gain off)
  | .trimModel slot b => s.updChan slot fun c => { c with model := b }
  | .slipApply => { s with slip := { s.slip with applyArmed := true } }
  | .vessel id persist m => s.installModel id persist m
  | .decimation => s
  | .none => s

/-- The hand-over of an accepted change of effect C, E or V: at execution to the committed state with EFFECT_CYCLE 0 and its
COMPLETION at once, or on the waiting list with the cycle of R26 (R232, R267). -/
def State.change (s : State) (e : Effect) (c : Change) (n : Option Notify) : State × Word × (State → State) :=
  if s.appliesNow then
    (s.applyStopped c, 0, match n with
      | some x => fun t => t.emitCompletion x St.ok 0
      | none => id)
  else (s.pend e c n, if e = .atPass then s.passCycle else s.effectCycle, id)

end Sys2Proof.Machine
end

