-- ==== Sys2Proof/Machine/Duty.lean ====
section
/-! DEFINITION. Pump duty groups: ranks, the rotation and its conditions (R842, R843). -/

namespace Sys2Proof.Machine

/-- The duty group and rank of a handle; group 0 is none (Table OPC-13). -/
def State.dutyOf (s : State) (h : Nat) : Nat × Nat :=
  match List.find? (fun (p : Nat × DutyGroup) => p.2.members.contains h) s.duty with
  | some (g, d) => (g, d.members.findIdx fun x => x == h)
  | none => (0, 0)

/-- A member's channel. -/
def State.member (s : State) (h : Nat) : Option Channel :=
  match s.checkHandle h with
  | .ok c => some c
  | .error _ => none

/-- The setpoints by rank. -/
def State.rankSetpoints (s : State) (d : DutyGroup) : List Int :=
  d.members.map fun h => ((s.member h).map fun c => c.half.setpoint).getD 0

/-- The members by rank after a rotation: rank r goes to the member that held rank r + 1, rank n − 1 to the one that held rank 0 (R842). -/
def rotated (m : List Nat) : List Nat := m.drop 1 ++ m.take 1

/-- Whether a member's MIN_RUN_S or MIN_STOP_S would be broken by a change of running at an instant (R843). -/
def minTimesOk (c : Channel) (run : Bool) (now : Nat) : Bool :=
  let since (t : Option Nat) (sec : Nat) : Bool := match t with
    | some x => decide (x + sec * 1000000 ≤ now)
    | none => true
  if run == c.half.running then true
  else if run then since c.half.lastStopUs (u16 c.params 68) else since c.half.lastStartUs (u16 c.params 66)

/-! ### Plausibility: what the checks read (R838, Table EBB-3) -/

/-- The bound IN roles of a channel that its type requires. -/
def State.requiredIns (s : State) (c : Channel) : List RoleBind :=
  (s.rolesOf c.typ c.params).filterMap fun r => if r.isIn && r.required then c.roles.find? fun b => b.role == r.role else none

/-- The value and quality of a role's point in the committed cycle. -/
def State.pointNow (s : State) (b : RoleBind) : Byte × Int := Store.get (s.station b.station).points b.point (0, 0)

/-- The key of a check's record: the slot, the check, and a role for what FROZEN and PINNED watch. -/
def plausKey (slot code role : Nat) : Nat := 256 * slot + 64 * code + role

/-- DUAL_INPUT of a LEVEL channel. -/
def State.dualInput (s : State) (c : Channel) : Bool :=
  c.typ == .level && match c.point 1, c.point 2 with
    | some a, some b =>
      let x := s.pointNow a
      let y := s.pointNow b
      x.1.getLsbD 0 && y.1.getLsbD 0 && decide (Int.natAbs (scaleIn c.params x.2 - scaleIn c.params y.2) > pDiscBand c.params)
    | _, _ => false

/-- Whether a check's condition holds now. -/
def State.plausHolds (s : State) (slot : Nat) (c : Channel) (code : Nat) : Bool :=
  let any (f : Plaus → Bool) : Bool := (s.requiredIns c).any fun b => (Store.find? s.plaus (plausKey slot code (1 + b.role))).any f
  match code with
  | 1 => s.dualInput c
  | 2 => any fun p => p.moved && decide (p.sinceUs + 600000000 ≤ s.nowUs)
  | _ => any fun p => p.moved && decide (p.sinceUs + 60000000 ≤ s.nowUs)

/-- Whether the checks are evaluated on a channel. -/
def plausOn (c : Channel) : Bool := c.state == .armed || c.state == .active || c.state == .adrift

/-! ### The conditions of a rotation (R843, R850) -/

/-- Whether a plausibility condition sets on a member in the second that ends now: it has set within the last second, or has held in the two
evaluations before and holds now, so that the one which comes next sets it (R838, R850). -/
def State.plausSets (s : State) (h : Nat) (c : Channel) : Bool :=
  plausOn c && [1, 2, 3].any fun code =>
    let p := Store.get s.plaus (plausKey (slotOf h) code 0) {}
    (match p.setUs with
      | some t => decide (s.nowUs < t + 1000000)
      | none => false) || (!p.set && decide (p.run ≥ 2) && s.plausHolds (slotOf h) c code)

/-- Whether a due rotation may run: every member ACTIVE, none with DISCORD set or with a plausibility
condition that sets in the same second, no minimum time broken, no changeover under way (R843, R850). -/
def State.rotationAllowed (s : State) (d : DutyGroup) : Bool :=
  d.before.isNone && !d.members.isEmpty && (List.range d.members.length).all fun r =>
    match s.member ((rotated d.members).getD r 0) with
    | some c => c.state == ChState.active && !c.half.discord && !s.plausSets ((rotated d.members).getD r 0) c &&
        minTimesOk c ((s.rankSetpoints d).getD r 0 != 0) s.nowUs
    | none => false

/-- The member that a setpoint given to a handle reaches, and the state with the EACH_START rotation that takes effect before it when
every rank's setpoint is 0 (Table EBB-4). -/
def State.setpointTarget (s : State) (h : Nat) (v : Int) : State × Nat :=
  let (g, r) := s.dutyOf h
  match Store.find? s.duty g with
  | some d =>
    if d.mode = 2 && v ≠ 0 && (s.rankSetpoints d).all (fun x => x == 0) && s.rotationAllowed d then
      let d' := { d with members := rotated d.members, ran := 0 }
      ({ s with duty := Store.insert s.duty g d' }, d'.members.getD r h)
    else (s, h)
  | none => (s, h)

end Sys2Proof.Machine
end

