-- ==== Sys2Proof/Machine/CmdChannel.lean ====
section
/-! DEFINITION. Channel commands (Table OPC-6, R278 to R286, R323 to R361). -/

namespace Sys2Proof.Machine

/-- A command on a channel that is being destroyed: parts 5 and 6 of check 11 stand, and part 7 is WRONG_STATE (R264, R281). -/
def whileDestroyed (s : State) (r : Rep) : Rep :=
  if r.status = St.wrongType ∨ r.status = St.tableRange ∨ r.status = St.reservedBits then r else refuse s St.wrongState

/-- The channel that a command names; check 11 has passed its handle (R264). -/
def State.named (s : State) (q : Packet) (k : Nat → Channel → Rep) : Rep :=
  match s.checkHandle q.handle with
  | .error e => refuse s e
  | .ok c => if c.destroying then whileDestroyed s (k (slotOf q.handle) c) else k (slotOf q.handle) c

/-- The setpoint of a new channel: the higher of SP_MIN and 0, limited to no more than SP_MAX (R354). -/
def firstSetpoint (p : Bytes) : Int := min (max (pSpMin p) 0) (pSpMax p)

/-- The slot that CH_CREATE takes (R279). -/
def State.pickSlot (s : State) (hint : Nat) (useHint : Bool) : Option Nat :=
  if useHint && (Store.find? s.chans hint).isNone && s.slotUsable hint then some hint
  else s.freeSlots.head?

/-- The image rule for a CUSTOM block: CUSTOM_FLAGS bit 0 equals the image's HAS_SETPOINT (R556). -/
def State.customOk (s : State) (t : ChType) (p : Bytes) : Bool :=
  match t with
  | .custom => match Store.find? s.programs (u16 p 64) with
    | some g => u8 p 68 % 2 == u8 g.image 22 % 2
    | none => true
  | _ => true

/-- CH_CREATE raises CHANNEL_STATE (R339); the journal restores the wear counts of the same handle (R852). -/
def bodyChCreate : Body := fun _ q s =>
  let p := q.payload
  let blk := p.drop 8
  if p.length < 8 ∨ p.length ≠ 8 + u16 p 4 then refuseLen s
  else match chType? (u8 p 0) with
  | none => refuseAt s St.tableRange 0
  | some t =>
    if u8 p 1 > 1 then refuseAt s St.reservedBits 1
    else if u16 p 2 > 1023 then refuseAt s St.tableRange 2
    else if u16 p 4 ≠ blockLength t blk ∨ u16 p 4 > 1024 then refuseAt s St.tableRange 4
    else match firstNonZero p 6 2 with
    | some o => refuseAt s St.reservedBits o
    | none => match badField t blk with
      | some f => refuseAt s f.status (8 + f.off)
      | none =>
        if !s.customOk t blk then refuseAt s St.tableRange 68
        else match s.pickSlot (u16 p 2) (u8 p 1 % 2 == 1) with
        | none => refuse s St.noSlot
        | some slot =>
          if t = .custom && (Store.find? s.programs (u16 blk 64)).isNone then refuse s St.noMemory
          else
            let c : Channel := { typ := t, state := .defined, params := blk, model := zeros 56, modelWritten := zeros 56,
                                 half := { setpoint := firstSetpoint blk } }
            let h := s.handleOf slot
            let w := match s.journal.payload 1 h with
              | some b => if t = .valve || t = .pump then
                  Store.insert s.wear slot { operations := u32 b 0, runUs := 1000000 * u32 b 4, sinceUs := 1000000 * u32 b 8, lastCmd := s32 b 12, seenUs := s.nowUs }
                else s.wear
              | none => s.wear
            let t := { s with chans := Store.insert s.chans slot c, chansWork := s.chansWork.map fun w => Store.insert w slot c, wear := w }
            { state := t.chanStateEvent slot 0 ChState.defined.code 0,
              handle := h, payload := leBytes 2 h ++ leBytes 1 (slot / 64) ++ leBytes 1 (slot % 64) }

/-- Whether another channel lists the slot's handle in its dependencies; `armed` asks only for channels that run.
A CH_DEPEND that waits for its cycle counts as made. -/
def State.dependents (s : State) (slot : Nat) (armed : Bool) : Bool :=
  s.chans.any fun p => p.1 != slot && (!armed || p.2.state.runs) &&
    (s.latest p.1 p.2).deps.any fun d => d.handle == s.handleOf slot

/-- CH_DESTROY (R280, R281, R369). -/
def bodyChDestroy : Body := fun _ q s => s.named q fun slot c =>
  let p := q.payload
  if p.length ≠ 4 then refuseLen s
  else if u8 p 0 > 1 then refuseAt s St.reservedBits 0
  else match firstNonZero p 1 3 with
  | some o => refuseAt s St.reservedBits o
  | none =>
    if u8 p 0 = 0 then
      if !(c.state = .defined || c.state = .bound) then refuse s St.wrongState
      else if s.dependents slot false then refuse s St.dependent
      else { state := s.destroyChan slot, payload := leBytes 4 0 }
    else if s.appliesNow then
      { state := s.destroyChan slot, status := changeStatus q, payload := leBytes 4 0,
        after := match s.notifyOf q with | some n => fun t => t.emitCompletion n St.ok 0 | none => id }
    else
      let t := s.updChan slot fun c => { c with destroying := true }
      { state := t.pend .atCommit (.destroyForce slot) (s.notifyOf q), status := changeStatus q,
        payload := leBytes 4 s.effectCycle.toNat }

/-- A change handed over with EFFECT_CYCLE in the reply. -/
def changeRep (s : State) (q : Packet) (e : Effect) (c : Change) (tail : Bytes := []) : Rep :=
  let (t, eff, after) := s.change e c (s.notifyOf q)
  { state := t, status := changeStatus q, payload := leBytes 4 eff.toNat ++ tail, after := after }

/-- Whether a channel is neither in an armed state nor about to be (R339): its blocks change at execution. -/
def State.atRest (s : State) (slot : Nat) (c : Channel) : Bool := (c.state = .defined || c.state = .bound) && !s.arming slot

/-- CH_CONFIG or CH_DEPEND on a channel at rest: it acts at execution, and EFFECT_CYCLE is still that of R26. -/
def restRep (s : State) (q : Packet) (slot : Nat) (c : Channel) (x : Change) : Rep :=
  if s.atRest slot c then changeRep (s.applyStopped x) q .atCycle .none else changeRep s q .atCycle x

/-- The offset that CH_CONFIG reports of a field of the block: its place in the written bytes, or 0 where the field is not written. -/
def configOffset (off len field : Nat) : Nat := if off ≤ field && field < off + len then 8 + field - off else 0

/-- CH_CONFIG (R333, R334, R339). DESIGN CHOICE (log entry 182): a PROG_ID that no program has is out of range, since Table OPC-6 gives CH_CONFIG no
NO_MEMORY. -/
def bodyChConfig : Body := fun _ q s => s.named q fun slot c =>
  let p := q.payload
  let off := u16 p 0
  let len := u16 p 2
  let d := s.latest slot c
  if p.length < 8 ∨ p.length ≠ 8 + len then refuseLen s
  else if off > d.params.length then refuseAt s St.tableRange 0
  else if off + len > d.params.length then refuseAt s St.tableRange 2
  else match firstNonZero p 4 4 with
  | some o => refuseAt s St.reservedBits o
  | none =>
    let new := d.params.take off ++ p.drop 8 ++ d.params.drop (off + len)
    match badField c.typ new with
    | some f => refuseAt s f.status (configOffset off len f.off)
    | none =>
      if new.length ≠ blockLength c.typ new then refuseAt s St.tableRange (configOffset off len 66)
      else if c.typ = .custom && (Store.find? s.programs (u16 new 64)).isNone then refuseAt s St.tableRange (configOffset off len 64)
      else if !s.customOk c.typ new then refuseAt s St.tableRange (configOffset off len 68)
      else if c.state.runs && touchesD c.typ d.params off len then refuse s St.wrongState
      else restRep s q slot c (.config slot off (p.drop 8))

/-- One entry of CH_BIND (R335, R336): the new bindings, or the refusal. The entry's own bytes count before its FLAGS. -/
def State.bindEntry (s : State) (c : Channel) (i : Nat) (p : Bytes) : Except (Nat × Nat) (List RoleBind) :=
  let o := 4 + 4 * i
  let role := u8 p o
  let st := u8 p (o + 1)
  let pt := u8 p (o + 2)
  let flags := u8 p (o + 3)
  let done (l : List RoleBind) : Except (Nat × Nat) (List RoleBind) := if flags > 1 then .error (St.reservedBits, o + 3) else .ok l
  if pt > 63 then .error (St.tableRange, o)
  else if role = 0 then (if st = 0 && pt = 0 then done c.roles else .error (St.tableRange, o))
  else match (s.rolesOf c.typ c.params).find? fun r => r.role == role with
  | none => .error (St.tableRange, o)
  | some r =>
    if flags % 2 = 1 then done (c.roles.filter fun b => b.role != role)
    else if st > 127 ∨ pointDir st (s.station st).config pt ≠ some (!r.isIn) then .error (St.tableRange, o)
    else done ((c.roles.filter fun b => b.role != role) ++ [⟨role, st, pt⟩])

/-- CH_BIND's entries in order: all of them or none (R282). An output value kept for a binding that changes goes with it. -/
def State.bindAll (s : State) (p : Bytes) : Nat → Nat → Channel → Except (Nat × Nat) Channel
  | 0, _, c => .ok c
  | n + 1, i, c =>
    match s.bindEntry c i p with
    | .error e => .error e
    | .ok r => State.bindAll s p n (i + 1) { c with
        roles := r
        half := { c.half with outputs := c.half.outputs.filter fun x =>
          (r.find? fun b => b.role == x.1) == (c.roles.find? fun b => b.role == x.1) } }

/-- The OUT bindings of a channel. -/
def State.outBinds (s : State) (c : Channel) : List RoleBind :=
  c.roles.filter fun b => (s.rolesOf c.typ c.params).any fun r => r.role == b.role && !r.isIn

/-- Whether an output point of the bindings has a second user (R338). -/
def State.taken (s : State) (slot : Nat) (c : Channel) : Bool :=
  (s.outBinds c).any fun b =>
    ((s.outBinds c).any fun d => d.role != b.role && d.station == b.station && d.point == b.point) ||
    s.chans.any fun x => x.1 != slot && (s.outBinds x.2).any fun d => d.station == b.station && d.point == b.point

/-- CH_BIND (R282, R335 to R338). -/
def bodyChBind : Body := fun _ q s => s.named q fun slot c =>
  let p := q.payload
  let n := u8 p 0
  if p.length < 4 ∨ p.length ≠ 4 + 4 * n then refuseLen s
  else if n < 1 ∨ 16 < n then refuseAt s St.tableRange 0
  else match firstNonZero p 1 3 with
  | some o => refuseAt s St.reservedBits o
  | none => match s.bindAll p n 0 c with
    | .error (st, off) => refuseAt s st off
    | .ok d =>
      if !(c.state = .defined || c.state = .bound) then refuse s St.wrongState
      else if s.taken slot d then refuse s St.pointTaken
      else
        let x := s.rebind d
        { state := s.changeChan slot fun _ => x, payload := leBytes 1 x.state.code ++ zeros 3 }

/-- CH_ARM (R30, R359). -/
def bodyChArm : Body := fun _ q s => s.named q fun slot c =>
  if q.payload.length ≠ 4 then refuseLen s
  else match firstNonZero q.payload 0 4 with
  | some o => refuseAt s St.reservedBits o
  | none =>
    let d := s.latest slot c
    if c.state ≠ .bound || (namedDeps d.typ d.params).any (fun i => decide (i ≥ d.deps.length)) then refuse s St.wrongState
    else
      let v := (s.pend .atCycle (.arm slot) none).admitView
      let cost := v.costNow
      let a := v.budgetNow v.chans
      if a < (cost : Int) then refuse s St.budget
      else changeRep s q .atCycle (.arm slot) (leBytes 4 cost ++ leBytes 4 (u32Of a))

/-- CH_DISARM (R283). -/
def bodyChDisarm : Body := fun _ q s => s.named q fun slot c =>
  if q.payload.length ≠ 4 then refuseLen s
  else if u8 q.payload 0 > 1 then refuseAt s St.reservedBits 0
  else match firstNonZero q.payload 1 3 with
  | some o => refuseAt s St.reservedBits o
  | none =>
    if c.state = .defined || c.state = .bound then refuse s St.wrongState
    else if s.dependents slot true then refuse s St.dependent
    else changeRep s q .atCycle (.disarm slot (u8 q.payload 0 = 1))

/-- CH_SETPOINT (R284, R354). -/
def bodyChSetpoint : Body := fun _ q s => s.named q fun slot c =>
  let p := q.payload
  if !hasSetpoint c then refuse s St.wrongType
  else if p.length ≠ 12 then refuseLen s
  else if u8 p 0 > 1 then refuseAt s St.tableRange 0
  else match firstNonZero p 1 3 with
  | some o => refuseAt s St.reservedBits o
  | none =>
    let d := s.latest slot c
    if s32 p 4 < pSpMin d.params ∨ pSpMax d.params < s32 p 4 then refuseAt s St.tableRange 4
    else if u8 p 0 = 1 && u32 p 8 == 0 then refuseAt s St.tableRange 8
    else if u8 p 0 = 0 && u32 p 8 != 0 then refuseAt s St.tableRange 8
    else if c.state = .safed || c.state = .faulted then refuse s St.wrongState
    else
      let (t, h) := s.setpointTarget q.handle (s32 p 4)
      changeRep t q .atCycle (.setpoint (if h = q.handle then slot else slotOf h) (u8 p 0 = 1) (s32 p 4) (u32 p 8))

/-- The CH_READ record of a slot (Table OPC-6), 36 bytes. -/
def State.chRecord (s : State) (slot : Nat) (c : Channel) : Bytes :=
  let h := c.half
  leBytes 2 (s.handleOf slot) ++ leBytes 1 c.typ.code ++ leBytes 1 c.state.code ++
    leBytes 1 (h.discord.toNat + 2 * h.substInput.toNat + 4 * h.ramp.isSome.toNat + 8 * h.depLost.toNat) ++ [h.quality] ++ zeros 2 ++
    leBytes 4 s.wc.lastCommitted.toNat ++ leInt 4 h.value ++ leInt 4 h.setpoint ++ leInt 4 h.output ++ leInt 4 h.y ++ leInt 4 h.discrepancy ++
    leBytes 4 (match h.adriftSince with
      | some t => pAdriftMs c.params - (s.wc.markUs - t) / 1000
      | none => pAdriftMs c.params)

/-- CH_READ. -/
def bodyChRead : Body := fun _ q s =>
  match s.checkHandle q.handle with
  | .error e => refuse s e
  | .ok c =>
    if q.payload.length ≠ 4 then refuseLen s
    else if u8 q.payload 0 > 1 then refuseAt s St.reservedBits 0
    else match firstNonZero q.payload 1 3 with
    | some o => refuseAt s St.reservedBits o
    | none =>
      let base := s.chRecord (slotOf q.handle) c
      { state := s, payload := if u8 q.payload 0 = 1 then base ++ leBytes 2 c.params.length ++ zeros 2 ++ c.params else base }

/-- The entries of a page (R268). -/
def pageSize (lmax pre entry cap : Nat) : Nat := min cap ((lmax - pre) / entry)

/-- CH_LIST (R268). -/
def bodyChList : Body := fun ep q s =>
  let p := q.payload
  if p.length ≠ 4 then refuseLen s
  else if u16 p 0 > 1023 then refuseAt s St.tableRange 0
  else if 7 < u8 p 2 ∧ u8 p 2 ≠ 0xFF then refuseAt s St.tableRange 2
  else if 7 < u8 p 3 then refuseAt s St.tableRange 3
  else
    let all := s.chans.filter fun x => decide (u16 p 0 ≤ x.1) && (u8 p 2 == 0xFF || x.2.state.code == u8 p 2) &&
      (u8 p 3 == 0 || x.2.typ.code == u8 p 3)
    let n := pageSize (s.replyMax ep q) 4 4 256
    let page := all.take n
    let next := match all.drop n with
      | [] => 0xFFFF
      | x :: _ => x.1
    { state := s, payload := leBytes 2 page.length ++ leBytes 2 next ++ page.flatMap fun x =>
        leBytes 2 (s.handleOf x.1) ++ leBytes 1 x.2.typ.code ++ leBytes 1 (x.2.state.code + 16 * x.2.half.discord.toNat) }

/-- Whether a channel is reached from others through dependency lists whose handles are current, within `fuel` steps. -/
def State.reaches (s : State) (target : Nat) : Nat → List Nat → Bool
  | 0, _ => false
  | n + 1, slots =>
    slots.contains target || State.reaches s target n ((slots.flatMap fun slot =>
      match Store.find? s.chans slot with
      | some c => ((s.latest slot c).deps.filter fun d => d.handle == s.handleOf (slotOf d.handle)).map fun d => slotOf d.handle
      | none => []).eraseDups)

/-- The first offending entry of a dependency list: a stale, invalid or repeated handle, the channel itself, a loop, a reserved byte. -/
def State.badDep (s : State) (slot : Nat) (p : Bytes) : Option (Nat × Nat) :=
  (List.range (u8 p 0)).findSome? fun i =>
    let o := 4 + 4 * i
    let h := u16 p o
    match s.checkHandle h with
    | .error _ => some (St.tableRange, o)
    | .ok _ =>
      if slotOf h = slot || (List.range i).any (fun k => u16 p (4 + 4 * k) == h) || s.reaches slot 1024 [slotOf h] || u8 p (o + 2) > 2 then
        some (St.tableRange, o)
      else if u8 p (o + 3) != 0 then some (St.reservedBits, o + 3)
      else none

/-- CH_DEPEND (R286, R356). -/
def bodyChDepend : Body := fun _ q s => s.named q fun slot c =>
  let p := q.payload
  if p.length < 4 ∨ p.length ≠ 4 + 4 * u8 p 0 then refuseLen s
  else if u8 p 0 > 8 then refuseAt s St.tableRange 0
  else match firstNonZero p 1 3 with
  | some o => refuseAt s St.reservedBits o
  | none => match s.badDep slot p with
    | some (st, o) => refuseAt s st o
    | none => restRep s q slot c (.depend slot ((List.range (u8 p 0)).map fun i => ⟨u16 p (4 + 4 * i), u8 p (6 + 4 * i)⟩))

/-- CH_MODEL's common layout: OP, MODEL_LENGTH and the reserved bytes; only WRITE carries a block. DESIGN CHOICE (log entry 183): MODEL_LENGTH is 0 in
a request that carries no block, and in a reply that carries none. -/
def modelLayout (s : State) (q : Packet) (write : Bool) (k : Rep) : Rep :=
  let p := q.payload
  if p.length ≠ (if write then 64 else 8) then refuseLen s
  else if u8 p 0 > 4 then refuseAt s St.tableRange 0
  else match firstNonZero p 1 1 with
  | some o => refuseAt s St.reservedBits o
  | none =>
    if u16 p 2 ≠ (if write then 56 else 0) then refuseAt s St.tableRange 2
    else match firstNonZero p 4 4 with
    | some o => refuseAt s St.reservedBits o
    | none => k

/-- CH_MODEL READ. -/
def modelRead (s : State) (c : Channel) : Rep := { state := s, payload := leBytes 4 0 ++ leBytes 2 56 ++ zeros 2 ++ c.model }

/-- CH_MODEL WRITE (R361). -/
def modelWrite (s : State) (q : Packet) (slot : Nat) (c : Channel) : Rep :=
  let m := q.payload.drop 8
  match (modelChecks c.typ m).find? fun f => !f.good with
  | some f => refuseAt s f.status (8 + f.off)
  | none => changeRep s q .atCycle (.modelWrite slot m) (zeros 4)

/-- CH_MODEL TRIM_ON. -/
def modelTrimOn (s : State) (q : Packet) (slot : Nat) : Rep := changeRep s q .atCycle (.trim slot true) (zeros 4)

/-- CH_MODEL TRIM_OFF: any history being collected is discarded (R834). -/
def modelTrimOff (s : State) (q : Packet) (slot : Nat) : Rep :=
  changeRep { s with trims := Store.erase s.trims slot } q .atCycle (.trim slot false) (zeros 4)

/-- CH_MODEL RESTORE: the block returns to the last written values (R361). -/
def modelRestore (s : State) (q : Packet) (slot : Nat) : Rep := changeRep s q .atCycle (.modelRestore slot) (zeros 4)

/-- CH_MODEL of any OP (Table OPC-6). -/
def bodyChModel : Body := fun _ q s => s.named q fun slot c =>
  modelLayout s q (u8 q.payload 0 == 1) (
    match u8 q.payload 0 with
    | 0 => modelRead s c
    | 1 => modelWrite s q slot c
    | 2 => modelTrimOn s q slot
    | 3 => modelTrimOff s q slot
    | _ => modelRestore s q slot)

/-- CH_SAFE: on a channel that is already SAFED it returns OK and changes nothing (R285). -/
def bodyChSafe : Body := fun _ q s => s.named q fun slot c =>
  if q.payload.length ≠ 4 then refuseLen s
  else match firstNonZero q.payload 0 4 with
  | some o => refuseAt s St.reservedBits o
  | none =>
    if c.state = .safed then { state := s, payload := leBytes 4 s.effectCycle.toNat }
    else if !c.state.runs then refuse s St.wrongState
    else changeRep s q .atCommit (.safe slot)

def execChCreate (q : Req) (s : State) : Out := s.runCommand q bodyChCreate
def execChDestroy (q : Req) (s : State) : Out := s.runCommand q bodyChDestroy
def execChConfig (q : Req) (s : State) : Out := s.runCommand q bodyChConfig
def execChBind (q : Req) (s : State) : Out := s.runCommand q bodyChBind
def execChArm (q : Req) (s : State) : Out := s.runCommand q bodyChArm
def execChDisarm (q : Req) (s : State) : Out := s.runCommand q bodyChDisarm
def execChSetpoint (q : Req) (s : State) : Out := s.runCommand q bodyChSetpoint
def execChRead (q : Req) (s : State) : Out := s.runCommand q bodyChRead
def execChList (q : Req) (s : State) : Out := s.runCommand q bodyChList
def execChDepend (q : Req) (s : State) : Out := s.runCommand q bodyChDepend
def execChModelRead (q : Req) (s : State) : Out := s.runCommand q bodyChModel
def execChModelWrite (q : Req) (s : State) : Out := s.runCommand q bodyChModel
def execChModelTrimOn (q : Req) (s : State) : Out := s.runCommand q bodyChModel
def execChModelTrimOff (q : Req) (s : State) : Out := s.runCommand q bodyChModel
def execChModelRestore (q : Req) (s : State) : Out := s.runCommand q bodyChModel
def execChSafe (q : Req) (s : State) : Out := s.runCommand q bodyChSafe

end Sys2Proof.Machine
end

