-- ==== Sys2Proof/Machine/CmdStation.lean ====
section
/-! DEFINITION. Station and vessel commands (Tables OPC-7 and OPC-8, R287 to R296, R426, R427). -/

namespace Sys2Proof.Machine

/-- The port code of a station: ETH0, ETH1, UART, CAN, Slipway (Table OPC-3). -/
def stationPort (id : Nat) (st : Station) : Nat := if id < 112 then st.port else if id < 120 then 2 else if id < 124 then 3 else 4

/-- Points declared by a station's configuration. -/
def pointCount (id : Nat) (st : Station) : Nat := (stationPoints id st.config).length

/-- A mask of points as 8 bytes. -/
def pointMask (l : List Nat) : Bytes := leBytes 8 (l.foldl (fun m p => m ||| 2 ^ (p % 64)) 0)

/-- The ST_STATUS record, 48 bytes (Table OPC-7). -/
def State.stRecord (s : State) (id : Nat) : Bytes :=
  let st := s.station id
  let bound := s.chans.flatMap fun x => (x.2.roles.filter fun b => b.station == id).map fun b => b.point
  let outs := outPoints id st.config
  leBytes 1 id ++ leBytes 1 st.state.code ++ leBytes 1 (stationPort id st) ++ leBytes 1 (pointCount id st) ++ beBytes 6 st.mac ++
    leBytes 1 st.missRun ++ leBytes 1 st.missK ++ leBytes 4 st.lastApplied ++ leBytes 4 st.lastInput ++ leBytes 4 st.nInputLate ++
    leBytes 4 st.nMissed ++ leBytes 2 st.epoch ++ leBytes 1 st.braced.toNat ++ zeros 1 ++ pointMask bound ++ pointMask outs

/-- The persisted record of a station: MODE, PORT, MAC, then its block; the MODE of a built-in station says whether it is enabled. -/
def stationRecord (id : Nat) (st : Station) : Bytes :=
  let mode := if id ≥ 112 then (if st.enabled then 0 else 2) else
    match st.mode with
    | .auto => 0
    | .locked => 1
    | .refuse => 2
  leBytes 1 mode ++ leBytes 1 st.lockPort ++ beBytes 6 st.lockMac ++ st.cfgNext.getD st.config

/-- ST_LIST (R268). DESIGN CHOICE (log entry 185): it lists the stations that the device knows, whose record differs from that of a station never
heard of. -/
def bodyStList : Body := fun ep q s =>
  let p := q.payload
  if p.length ≠ 4 then refuseLen s
  else if u8 p 0 > 127 then refuseAt s St.tableRange 0
  else match firstNonZero p 1 3 with
  | some o => refuseAt s St.reservedBits o
  | none =>
    let all := (List.range 128).filter fun i => decide (u8 p 0 ≤ i) && (Store.find? s.tl.stations i).isSome
    let n := pageSize (s.replyMax ep q) 4 8 128
    let page := all.take n
    { state := s, payload := leBytes 1 page.length ++ leBytes 1 ((all.drop n).headD 0xFF) ++ zeros 2 ++ page.flatMap fun i =>
        let st := s.station i
        leBytes 1 i ++ leBytes 1 st.state.code ++ leBytes 1 (stationPort i st) ++ leBytes 1 (pointCount i st) ++ leBytes 4 st.lastApplied }

/-- The block that ST_ADMIT carries, checked against the layout of the station's kind (R288, R776, R780, R802). -/
def State.configFault (s : State) (id : Nat) (c : Bytes) : Option (Nat × Bool) :=
  if id < 112 then networkFault c
  else if id < 120 then serialFault c
  else if id < 124 then canFault c
  else match s.slip.design with
    | some d => virtualFault c (d.vst.testBit (id - 124)) (decide ((d.qcs.getD (id - 124) (255, 255)).2 < 24))
    | none => virtualFault c false false

/-- A built-in station's port set up from its block and enabled: a UART's mode, format and divider, of which the register keeps its low
20 bits; a CAN controller's prescalers and segments, whose encoding the spec does not give, are free values. -/
def State.setPort (s : State) (id : Nat) : State :=
  let c := (s.station id).config
  if c.isEmpty || id < 112 || id ≥ 124 then s
  else if id < 120 then
    let o := 256 * (id - 112)
    let t := (s.setFld (Reg.uartCtrl + o) 2 1 (u8 c 5)).setFld (Reg.uartCtrl + o) 7 4 (u8 c 4 % 16)
    let t := (t.setRbit (Reg.uartCtrl + o) 3 (u8 c 6 % 2 == 1)).setFld (Reg.uartBaud + o) 19 0 ((4000000000 + u32 c 0 / 2) / u32 c 0)
    t.setRbit (Reg.uartCtrl + o) 0 true
  else
    let o := 256 * (id - 120)
    let t := (s.setReg (Reg.canTiming + o) (s.free.setWidth 32)).usedFree
    (t.setRbit (Reg.canCtrl + o) 0 true).setRbit (Reg.canCtrl + o) 1 false

/-- A disabled station's port stops. -/
def State.stopPort (s : State) (id : Nat) : State :=
  if 112 ≤ id && id < 120 then s.setRbit (Reg.uartCtrl + 256 * (id - 112)) 0 false
  else if 120 ≤ id && id < 124 then s.setRbit (Reg.canCtrl + 256 * (id - 120)) 0 false
  else s

/-- ST_ADMIT (R288, R385, R395). A built-in station's block keeps the layout of its own chapter. -/
def bodyStAdmit : Body := fun _ q s =>
  let p := q.payload
  let id := u8 p 0
  let len := u16 p 10
  let cfg := p.drop 16
  if p.length < 16 ∨ p.length ≠ 16 + len then refuseLen s
  else if id > 127 then refuseAt s St.tableRange 0
  else if u8 p 1 > 2 then refuseAt s St.tableRange 1
  else if id < 112 && u8 p 1 = 1 && u8 p 2 > 1 then refuseAt s St.tableRange 2
  else if u8 p 3 > 1 then refuseAt s St.reservedBits 3
  else if len > 16384 then refuseAt s St.tableRange 10
  else match firstNonZero p 12 4 with
  | some o => refuseAt s St.reservedBits o
  | none => match (if len ≠ 0 then s.configFault id cfg else none) with
    | some (o, reserved) => refuseAt s (if reserved then St.reservedBits else St.tableRange) (16 + o)
    | none =>
      let st := s.station id
      if id < 112 && u8 p 1 = 2 && (st.state = .moored || st.state = .slack) then refuse s St.wrongState
      else
        let mode : AdmitMode := if u8 p 1 = 1 then .locked else if u8 p 1 = 2 then .refuse else .auto
        let st1 := { st with mode := mode }
        let st2 := if id < 112 then { st1 with lockPort := u8 p 2, lockMac := ofBe (slice p 4 6) }
          else if u8 p 1 = 0 then { st1 with enabled := true, willMoor := !(st.enabled && (st.state = .moored || st.state = .slack)) }
          else if u8 p 1 = 2 then { st1 with enabled := false, willMoor := false } else st1
        let st3 := if len = 0 then st2
          else if 112 ≤ id && id < 124 && st.enabled && st2.enabled then { st2 with cfgNext := some cfg, refusedCfg := false }
          else
            let k := if id < 112 then u8 cfg 3 else st2.missK
            { st2 with config := cfg, refusedCfg := false, configSeq := if id < 112 then u16 cfg 0 else (st2.configSeq + 1) % 65536, missK := k }
        let t := s.setStation id st3
        let t := if id ≥ 112 && u8 p 1 = 2 then (t.stationTo id .absent 3).stopPort id
          else if id ≥ 112 && st3.enabled && st3.cfgNext.isNone then t.setPort id else t
        let t := if u8 p 3 = 1 then t.queueWrite (.persistStation id (stationRecord id st3)) else t
        { state := t, payload := [BitVec.ofNat 8 (t.station id).state.code] }

/-- The LOST_N that CONFIG carries and the device uses: 0 means 3 (R395). -/
def lostN (c : Bytes) : Nat := if u8 c 4 = 0 then 3 else u8 c 4

/-- CONFIG's payload for a station: CONFIG_SEQ in front of the block, LOST_N never 0 (R384, R395). -/
def configPayload (seq : Nat) (c : Bytes) : Bytes := leBytes 2 seq ++ slice c 2 2 ++ leBytes 1 (lostN c) ++ zeros 3 ++ c.drop 8

/-- CONFIG with new fallback fields. One that is in flight is superseded: the new one includes its changes and is sent in its place (DEDUCED,
log entry 82: R289 gives the cycle of this frame as EFFECT_CYCLE, so it does not wait). -/
def State.sendFallback (s : State) (id : Nat) (p : Bytes) (n : Option Notify) : State :=
  let st := s.station id
  let seq := (st.configSeq + 1) % 65536
  let flying := decide (st.sends > 0) && !st.firstConfig
  let c := withFallback (if flying then st.newFb else st.config) p seq
  let old := if flying then st.fbQueue ++ [(st.configSeq, st.newFb, st.notifyFb)] else []
  let t := s.setStation id { st with newFb := c, configSeq := seq, sends := 1, notifyFb := n, firstConfig := false, fbQueue := old }
  t.sendTl (t.tlFrame id 0x05 (configPayload seq c))

/-- ST_FALLBACK: always ACCEPTED; CONFIG is sent, or kept for the next JOIN (R289, R387). -/
def bodyStFallback : Body := fun _ q s =>
  let p := q.payload
  let id := u8 p 0
  let n := u8 p 1
  let st := s.station id
  if p.length < 4 ∨ p.length ≠ 4 + 8 * n then refuseLen s
  else if id ≥ 112 then refuseAt s St.tableRange 0
  else if n < 1 ∨ 64 < n then refuseAt s St.tableRange 1
  else if u8 p 2 > 15 then refuseAt s St.tableRange 2
  else if u8 p 3 ≠ 0 then refuseAt s St.reservedBits 3
  else match (List.range n).findSome? fun k =>
      let o := 4 + 8 * k
      if u8 p o > 63 ∨ u8 p (o + 1) > 2 ∨ pointDir id st.config (u8 p o) ≠ some true then some (St.tableRange, o)
      else if u8 p (o + 2) ≠ 0 ∨ u8 p (o + 3) ≠ 0 then some (St.reservedBits, o + 2) else none with
  | some (e, o) => refuseAt s e o
  | none =>
    let n := s.notifyOf q true
    if st.state = .moored || st.state = .slack then
      { state := s.sendFallback id p n, status := St.accepted, payload := leBytes 4 s.frameCycle }
    else { state := s.setStation id (st.keepFallback p n), status := St.accepted, payload := leBytes 4 0 }

/-- ST_RELEASE (R290). -/
def bodyStRelease : Body := fun _ q s =>
  let p := q.payload
  let id := u8 p 0
  if p.length ≠ 4 then refuseLen s
  else if id > 127 then refuseAt s St.tableRange 0
  else if u8 p 1 > 1 then refuseAt s St.reservedBits 1
  else match firstNonZero p 2 2 with
  | some o => refuseAt s St.reservedBits o
  | none =>
    if (s.station id).state = .absent then refuse s St.wrongState
    else if u8 p 1 = 0 && s.chans.any (fun x => x.2.state.runs && x.2.roles.any fun b => b.station == id) then refuse s St.dependent
    else changeRep s q .atCommit (.stRelease id (u8 p 1 = 1))

/-- ST_STATUS. -/
def bodyStStatus : Body := fun _ q s =>
  if q.payload.length ≠ 4 then refuseLen s
  else if u8 q.payload 0 > 127 then refuseAt s St.tableRange 0
  else match firstNonZero q.payload 1 3 with
  | some o => refuseAt s St.reservedBits o
  | none => { state := s, payload := s.stRecord (u8 q.payload 0) }

/-! ### Vessel commands -/

/-- The TOTAL that a table's layout gives, when the definitions it depends on have been made (R426). -/
def VesselModel.tableLength (m : VesselModel) (kind index : Nat) : Option Nat :=
  match kind with
  | 1 => some 112
  | 2 => if m.part.isEmpty then none else some (32 * m.nHydro)
  | 3 => (Store.find? m.tanks index).map fun d => 8 + 32 * tkPoints d + 162
  | 4 => (Store.find? m.sections index).map fun d => 8 * scPoints d
  | 5 => if m.part.isEmpty then none else some (24 * m.nItems)
  | _ => none

/-- The bytes that a staging model holds: its tables and its definitions. -/
def VesselModel.size (m : VesselModel) : Nat :=
  (m.tables.map fun (x : Nat × TableLoad) => x.2.data.length).sum + 28 * m.tanks.length + 20 * m.sections.length

/-- A new staging model; NO_MEMORY when the table store does not hold it, whose size the spec does not give (log entry 184). -/
def stage (s : State) (m : VesselModel) (r : Rep) : Rep :=
  if Config.tableStoreFull m.size then refuse s St.noMemory else { r with state := { s with ves := { s.ves with staging := m } } }

/-- VSL_LOAD (R292, R426): chunks in order, the TABLE_CRC checked when TOTAL is complete. Later chunks repeat the TOTAL and the TABLE_CRC of the
first; a complete table has received all its bytes, so that only OFFSET 0 may follow. -/
def bodyVslLoad : Body := fun _ q s =>
  let p := q.payload
  let m := s.ves.staging
  let kind := u8 p 0
  let idx := u16 p 2
  let off := u32 p 4
  let total := u32 p 8
  let data := p.drop 16
  if p.length < 16 then refuseLen s
  else if kind < 1 ∨ 5 < kind then refuseAt s St.tableRange 0
  else if u8 p 1 ≠ 0 then refuseAt s St.reservedBits 1
  else if ((kind = 1 ∨ kind = 2 ∨ kind = 5) ∧ idx ≠ 0) ∨ (kind = 3 ∧ idx > 511) ∨ (kind = 4 ∧ idx > 255) then refuseAt s St.tableRange 2
  else
    let key := tableKey kind idx
    let old : TableLoad := (Store.find? m.tables key).getD { total := total, crc := u32 p 12, data := [], complete := false }
    if off ≠ 0 ∧ (off ≠ old.data.length ∨ old.complete) then refuse s St.tableRange (leBytes 4 old.data.length)
    else if (off = 0 ∧ m.tableLength kind idx ≠ some total) ∨ (off ≠ 0 ∧ total ≠ old.total) then refuseAt s St.tableRange 8
    else if off ≠ 0 ∧ u32 p 12 ≠ old.crc then refuseAt s St.tableRange 12
    else
      let body := (if off = 0 then [] else old.data) ++ data
      let put (t : TableLoad) : VesselModel := { m with tables := Store.insert m.tables key t }
      if body.length > total then refuseAt s St.tableRange 8
      else if body.length < total then
        stage s (put { total := total, crc := u32 p 12, data := body, complete := false }) { state := s, payload := leBytes 4 body.length }
      else if (crc32 body).toNat ≠ u32 p 12 then
        { state := { s with ves := { s.ves with staging := { m with tables := Store.erase m.tables key } } }, status := St.tableCrc }
      else stage s (put { total := total, crc := u32 p 12, data := body, complete := true }) { state := s, payload := leBytes 4 total }

/-- Whether a list rises strictly. -/
def rising : List Int → Bool
  | a :: b :: r => decide (a < b) && rising (b :: r)
  | _ => true

/-- Whether a list never falls. -/
def nonFalling : List Int → Bool
  | a :: b :: r => decide (a ≤ b) && nonFalling (b :: r)
  | _ => true

/-- The first faulty table of a staging model: KIND and INDEX (R293, R427). -/
def State.modelFault (s : State) (m : VesselModel) : Option (Nat × Nat) :=
  let secs := m.sectionList
  let n := secs.length
  let complete (k i : Nat) : Bool := !(m.table k i).isEmpty && decide (m.tableLength k i = some (m.table k i).length)
  if !complete 1 0 || !rising m.trimAxis || !rising m.heelAxis || decide (m.lpp < 50000) || decide (500000 < m.lpp) ||
      decide (m.xMid < 1) || decide (m.lpp - 1 < m.xMid) || decide (m.lightship < 1) || decide (m.seaDensity < 900000) ||
      decide (1100000 < m.seaDensity) || decide (m.nHydro < 2) || decide (256 < m.nHydro) || decide (64 < m.nItems) then some (1, 0)
  else if !complete 2 0 || !rising (colT m) || !rising (colDisp m) || (colMct m).any (fun x => decide (x < 1)) then some (2, 0)
  else match List.find? (fun (x : Nat × Bytes) =>
      let t := x.1
      let d := x.2
      let k := tkPoints d
      let L := m.soundCol t k s32 0
      let V := m.soundCol t k (fun b i => (u32 b i : Int)) 4
      let h := tkHandle d
      !complete 3 t || !rising L || !nonFalling V || decide ((tkCapacity d : Int) < V.getLastD 0) ||
        decide (s32 (m.table 3 t) 4 ≤ s32 (m.table 3 t) 0) || (h != 0 && (match s.checkHandle h with
          | .error _ => true
          | .ok c => !(c.typ == ChType.level && (u16 c.params 64 == t || u16 c.params 64 == 0xFFFF))))) m.tanks with
    | some (t, _) => some (3, t)
    | none =>
      match (List.range n).find? (fun i =>
          let c := secs.getD i ⟨0, 0, 0, 0, 0⟩
          c.no != i || !complete 4 c.no || decide (c.fwd ≤ c.aft) || (decide (0 < i) && c.aft != (secs.getD (i - 1) ⟨0, 0, 0, 0, 0⟩).fwd) ||
            (i == 0 && decide (0 < c.aft)) || (i + 1 == n && decide (c.fwd < m.lpp))) with
      | some i => some (4, i)
      | none =>
        if n = 0 then some (4, 0)
        else if sumI (secs.map fun c => c.ls) ≠ m.lightship then some (1, 0)
        else if m.nItems ≠ 0 && !complete 5 0 then some (5, 0)
        else none

/-- Whether a staging model holds nothing. -/
def VesselModel.isEmpty (m : VesselModel) : Bool := m.tanks.isEmpty && m.sections.isEmpty && m.tables.isEmpty

/-- VSL_COMMIT: always ACCEPTED; the model replaces the live one at effect V, or DISCARD empties the staging (R293, R294). -/
def bodyVslCommit : Body := fun _ q s =>
  let p := q.payload
  if p.length ≠ 8 then refuseLen s
  else if u8 p 0 > 3 then refuseAt s St.reservedBits 0
  else match firstNonZero p 1 3 with
  | some o => refuseAt s St.reservedBits o
  | none =>
    if s.ves.staging.isEmpty then refuse s St.wrongState
    else if u8 p 0 / 2 = 1 then
      { state := { s with ves := { s.ves with staging := {} } }, status := St.accepted,
        payload := leBytes 4 0 ++ leBytes 4 s.costNow ++ leBytes 4 (u32Of (s.budgetNow s.chans)),
        after := match s.notifyOf q true with | some n => fun t => t.emitCompletion n St.ok 0 | none => id }
    else match s.modelFault s.ves.staging with
    | some (k, i) => refuse s St.tableRange (leBytes 1 k ++ zeros 1 ++ leBytes 2 i)
    | none =>
      let m := s.ves.staging
      let v := s.admitView
      let cost := v.costOf v.chans v.wc.decimation (m.tanks.length, m.sections.length) v.pairs
      let a := v.budgetNow v.chans
      if a < (cost : Int) then refuse s St.budget
      else
        let u := { s with ves := { s.ves with staging := {} } }
        let (t, eff, after) := u.change .atPass (.vessel (u32 p 4) (u8 p 0 % 2 = 1) m) (s.notifyOf q true)
        { state := t, status := St.accepted, payload := leBytes 4 eff.toNat ++ leBytes 4 cost ++ leBytes 4 (u32Of a), after := after }

/-- Whether bytes are ASCII text with zeros after it. -/
def asciiPadded (b : Bytes) : Bool :=
  let text := b.takeWhile fun c => c != 0
  text.all (fun c => decide (c.toNat < 128)) && (b.drop text.length).all fun c => c == 0

/-- TANK_DEFINE. -/
def bodyTankDefine : Body := fun _ q s =>
  let p := q.payload
  let m := s.ves.staging
  if p.length ≠ 28 then refuseLen s
  else if u16 p 0 > 511 then refuseAt s St.tableRange 0
  else if u8 p 3 > 1 then refuseAt s St.reservedBits 3
  else if u8 p 3 = 1 then
    { state := { s with ves := { s.ves with staging := { m with
        tanks := Store.erase m.tanks (u16 p 0), tables := Store.erase m.tables (tableKey 3 (u16 p 0)) } } } }
  else if u8 p 2 < 1 ∨ 4 < u8 p 2 then refuseAt s St.tableRange 2
  else if u16 p 14 < 2 ∨ 256 < u16 p 14 then refuseAt s St.tableRange 14
  else if !asciiPadded (slice p 20 8) then refuseAt s St.tableRange 20
  else stage s { m with tanks := Store.insert m.tanks (u16 p 0) p } { state := s }

/-- SECTION_DEFINE. -/
def bodySectionDefine : Body := fun _ q s =>
  let p := q.payload
  let m := s.ves.staging
  if p.length ≠ 20 then refuseLen s
  else if u16 p 0 > 255 then refuseAt s St.tableRange 0
  else if u8 p 2 > 1 then refuseAt s St.reservedBits 2
  else if u8 p 2 = 1 then
    { state := { s with ves := { s.ves with staging := { m with
        sections := Store.erase m.sections (u16 p 0), tables := Store.erase m.tables (tableKey 4 (u16 p 0)) } } } }
  else if u8 p 3 < 2 ∨ 64 < u8 p 3 then refuseAt s St.tableRange 3
  else match firstNonZero p 17 3 with
  | some o => refuseAt s St.reservedBits o
  | none => { state := { s with ves := { s.ves with staging := { m with sections := Store.insert m.sections (u16 p 0) p } } } }

/-- LIMITS_SET (R295, R440, R441). -/
def bodyLimitsSet : Body := fun _ q s =>
  let p := q.payload
  let n := u16 p 2
  let vals := u8 p 1 / 2 % 2 = 1
  if p.length < 20 ∨ p.length ≠ 20 + 12 * n then refuseLen s
  else if u8 p 0 > 1 then refuseAt s St.tableRange 0
  else if u8 p 1 > 3 then refuseAt s St.reservedBits 1
  else if n > 256 ∨ (!vals ∧ n ≠ 0) then refuseAt s St.tableRange 2
  else match ([4, 8, 12, 16].find? fun o => vals && decide (s32 p o < 1)) with
  | some o => refuseAt s St.tableRange o
  | none => match (List.range n).findSome? fun i =>
      let o := 20 + 12 * i
      if u16 p o > 255 ∨ s32 p (o + 2) < 1 ∨ s40 p (o + 6) < 1 ∨ (List.range i).any (fun k => u16 p (20 + 12 * k) == u16 p o) then
        some (St.tableRange, o)
      else if u8 p (o + 11) ≠ 0 then some (St.reservedBits, o + 11) else none with
    | some (e, o) => refuseAt s e o
    | none =>
      if s.ves.half.live.isNone then refuse s St.wrongState
      else changeRep s q .atCycle (.limits p)

/-- The COND_READ record (Table OPC-8, R442, R444), 64 bytes. -/
def condRecord (v : Vessel) (r : HydroResult) : Bytes :=
  let l := v.active
  let ms := sectionMargins r l
  let wsf := worst (ms.map fun x => (x.1, x.2.1))
  let wbm := worst (ms.map fun x => (x.1, x.2.2))
  let crossed := (watched r l).any fun x => decide (x.2.1 < 0)
  let open_ (i n : Nat) : Bytes := leBytes n (Config.uncheckedMargin r.cycle.toNat i).toNat
  leBytes 4 r.cycle.toNat ++ leBytes 4 r.snapCycle.toNat ++ leInt 5 r.disp ++
    leBytes 1 (r.estimatedFlag.toNat + 2 * v.seaActive.toNat + 4 * crossed.toNat) ++ leBytes 2 r.nEstimated ++
    leInt 4 r.ta ++ leInt 4 r.tf ++ leInt 4 r.tm ++ leInt 4 r.trim ++ leInt 4 r.heel ++ leInt 4 r.kg ++ leInt 4 r.gmSolid ++
    leInt 4 r.gmFluid ++ (if l.complete then leInt 4 (r.gmFluid - r.dGm - l.gmMin) else open_ 0 4) ++
    ((wsf.map fun x => leBytes 2 x.1).getD (open_ 1 2)) ++ ((wbm.map fun x => leBytes 2 x.1).getD (open_ 2 2)) ++
    ((wsf.map fun x => leInt 4 x.2).getD (open_ 3 4)) ++ ((wbm.map fun x => leInt 4 x.2).getD (open_ 4 4))

/-- COND_READ (R296). -/
def bodyCondRead : Body := fun _ q s =>
  if q.payload ≠ [] then refuseLen s
  else match s.ves.half.published with
  | none => refuse s St.wrongState
  | some r => { state := s, payload := condRecord s.ves r }

/-- STRENGTH_READ (R268, R296): the last published strength results, with the CYCLE of the pass that made them (R439). -/
def bodyStrengthRead : Body := fun ep q s =>
  let p := q.payload
  if p.length ≠ 4 then refuseLen s
  else match firstNonZero p 2 2 with
  | some o => refuseAt s St.reservedBits o
  | none => if u16 p 0 > 255 then refuseAt s St.tableRange 0 else match s.ves.half.published with
    | none => refuse s St.wrongState
    | some r =>
      if !r.strengthOk then refuse s St.wrongState
      else
        let l := s.ves.active
        let ms := sectionMargins r l
        let all := r.sections.filter fun x => decide (u16 p 0 ≤ x.1)
        let n := pageSize (s.replyMax ep q) 8 16 256
        let page := all.take n
        let next := match all.drop n with
          | [] => 0xFFFF
          | x :: _ => x.1
        { state := s, payload := leBytes 4 r.strengthCycle.toNat ++ leBytes 2 page.length ++ leBytes 2 next ++ page.flatMap fun x =>
            let mg := (ms.find? fun y => y.1 == x.1).map fun y => y.2
            let below (m : Option Int) : Nat := (m.any fun v => decide (v < 0)).toNat
            let bp (m : Option Int) (i : Nat) : Bytes := match m with
              | some v => leInt 2 (max (-32767) (satS 16 v))
              | none => leBytes 2 (Config.uncheckedMargin r.strengthCycle.toNat (5 + 2 * x.1 + i)).toNat
            let sm := mg.map fun y => y.1
            let bm := mg.map fun y => y.2
            leBytes 2 x.1 ++ leInt 4 x.2.1 ++ leInt 5 x.2.2 ++
              leBytes 1 (below sm + 2 * below bm + 4 * r.strengthEst.toNat) ++ bp sm 0 ++ bp bm 1 }

def execStList (q : Req) (s : State) : Out := s.runCommand q bodyStList
def execStAdmit (q : Req) (s : State) : Out := s.runCommand q bodyStAdmit
def execStFallback (q : Req) (s : State) : Out := s.runCommand q bodyStFallback
def execStRelease (q : Req) (s : State) : Out := s.runCommand q bodyStRelease
def execStStatus (q : Req) (s : State) : Out := s.runCommand q bodyStStatus
def execVslLoad (q : Req) (s : State) : Out := s.runCommand q bodyVslLoad
def execVslCommit (q : Req) (s : State) : Out := s.runCommand q bodyVslCommit
def execTankDefine (q : Req) (s : State) : Out := s.runCommand q bodyTankDefine
def execSectionDefine (q : Req) (s : State) : Out := s.runCommand q bodySectionDefine
def execLimitsSet (q : Req) (s : State) : Out := s.runCommand q bodyLimitsSet
def execCondRead (q : Req) (s : State) : Out := s.runCommand q bodyCondRead
def execStrengthRead (q : Req) (s : State) : Out := s.runCommand q bodyStrengthRead

end Sys2Proof.Machine
end

