-- ==== Sys2Proof/Machine/Reset.lean ====
section
/-! DEFINITION. Device reset: causes, the RESET entry, what is kept (R133 to R138, Table PWR-5, Table BOT-2). -/

namespace Sys2Proof.Machine

/-! ### Entries of the Reclaim controller -/

/-- Whether the Harbour firmware reports entries now: it is open and the HM is not in error mode (R872, R873). -/
def State.reports (s : State) : Bool := s.harbourOpen && !s.rbit Reg.reclaimStatus 2

/-- An entry through port B that the Harbour firmware then reports as a FAULT event (R872). -/
def State.faultB (s : State) (event severity source : Nat) (payload : Word) (flags : Nat := 0) : State :=
  let t := s.bbrB event severity source payload flags
  if t.reports then t.emitFault severity source event payload else t

/-- An entry of the Harbour firmware, reported as a FAULT event once the firmware is open (R872, R873). -/
def State.faultF (s : State) (event severity source : Nat) (payload : Word) : State :=
  let t := s.bbrA event severity source payload
  if t.reports then t.emitFault severity source event payload else t

/-- RECLAIM_LAST of a fence: the domain, the lease code, the resource and the cycle. -/
def State.lastFence (s : State) (d lease res : Nat) : State :=
  s.setReg Reg.reclaimLast (BitVec.ofNat 32 (d % 32 + 256 * (lease % 16) + 4096 * (res % 16) + 65536 * (s.wc.cycle.toNat % 65536)))

/-! ### Causes -/

/-! The codes of Table BOT-1. -/
namespace Cause
def por : Nat := 1
def sag : Nat := 2
def pin : Nat := 3
def wdt : Nat := 4
def doubleTrap : Nat := 5
def reclaim : Nat := 6
def host : Nat := 7
def thermal : Nat := 8
def jtag : Nat := 9
end Cause

/-- The order in which sources of one SVO_CLK cycle give CAUSE (R135). -/
def causeOrder : List Nat :=
  [Cause.por, Cause.sag, Cause.thermal, Cause.reclaim, Cause.doubleTrap, Cause.wdt, Cause.pin, Cause.jtag, Cause.host]

/-- The cause that sources firing in the same SVO_CLK cycle give (R135). -/
def firstCause (l : List Nat) : Nat := (causeOrder.find? fun c => l.contains c).getD 0

/-- Sources fire in the same SVO_CLK cycle: CAUSE is latched only while no reset is held, and CAUSES_SEEN always (R134, R135). -/
def State.latchCause (s : State) (l : List Nat) : State :=
  causeOrder.foldl (fun t c => if l.contains c then t.setRbit Reg.sysctlResetCause (7 + c) true else t)
    (if s.boot.held then s else s.setFld Reg.sysctlResetCause 3 0 (firstCause l))

/-- The payload of RESET: CAUSE in [3:0] and CAUSES_SEEN in [16:8] (R137). -/
def State.resetPayload (s : State) : Word := s.reg Reg.sysctlResetCause &&& 0x1FF0F

/-! ### What a reset keeps -/

/-- The registers that a device reset keeps: the AON ones of Table BOT-2, every field of the BBR block (R96, chapter 25), RECLAIM_LAST and
RECLAIM_COUNT (chapter 24), and the last conversion of SENSE, which SUPMON clears only at POR release (R85). -/
def keptRegs : List Nat :=
  [Reg.sysctlResetCause, Reg.sysctlBootTries, Reg.supmonResetSrc, Reg.supmonAonStatus, Reg.supmonSenseMv, Reg.bbrStatus, Reg.bbrHead,
   Reg.bbrTrigger, Reg.bbrTriggerCycle, Reg.bbrPost, Reg.bbrWritten, Reg.bbrDropped, Reg.bbrRtcS, Reg.bbrRtcSet, Reg.bbrAnchorS,
   Reg.bbrRelease, Reg.bbrEvents, Reg.bbrIrqEn, Reg.reclaimLast, Reg.reclaimCount]

/-- The register file after a device reset: reset values but for the kept registers and the warning, which persists (R96); the stamp
is not being updated and the tick latch is invalid (R881, R887). -/
def State.regsAfterReset (s : State) : Store Word :=
  let keep := s.regs.filter fun (p : Nat × Word) => keptRegs.contains p.1
  let warn := s.reg Reg.supmonStatus &&& 0xF
  let t : State := { s with regs := keep }
  let t := if warn = 0 then t else t.setReg Reg.supmonStatus warn
  ((t.setFld Reg.bbrStatus 4 3 0)).regs

/-- The flash after a device reset: an erase in progress (`busy`) leaves its sector partly erased (R91); operations that have not
started are lost. -/
def Flash.afterReset (f : Flash) (busy : Bool) (key : Nat) : Flash :=
  let f := match f.ops with
    | .erase a :: _ => if busy then { f with doubt := Store.insert f.doubt (a / 65536) key } else f
    | _ => f
  { f with ops := [], task := none }

/-- Everything at its reset value but what Table BOT-2 keeps: the AON registers and ring, OTP, flash; the TIME base restarts from the
real-time seconds. A declared loss of a clock stands until its monitor sees the clock good (R119). The queue of commands and the free-value
counter are the model's own. -/
def State.cleared (s : State) : State :=
  { State.reset with
    regs := s.regsAfterReset
    bbr := s.bbr
    otp := s.otp
    flash := s.flash.afterReset (s.rbit Reg.qspiCtrl 7) s.freeCtr
    journal := { s.journal with buffer := [], firstUs := none }
    time := State.reset.time.atUs ((s.reg Reg.bbrRtcS).toNat * 1000000)
    host := { State.reset.host with perst := s.host.perst }
    boot := { State.reset.boot with vbatLogged := s.boot.vbatLogged }
    sagAsked := s.warning
    lostClocks := s.lostClocks
    freeCtr := s.freeCtr + 1
    pending := s.pending }

/-- A device reset by sources that fire in the same SVO_CLK cycle (R133, R135): the cause is latched, the Reclaim controller writes RESET unless
the cause is POR, and everything that Table BOT-2 does not keep returns to its reset value. Sources that fire while a reset is held only mark
CAUSES_SEEN (R134). -/
def State.deviceResets (s : State) (l : List Nat) : State :=
  let t := s.latchCause l
  if s.boot.held then t
  else
    let por := firstCause l == Cause.por
    let t := if por then t else t.bbrB 0x011 5 0x12 t.resetPayload
    let u := t.cleared
    { u with boot := { u.boot with resetEntry := if por then none else some (s.bbr.stampCycle, t.resetPayload) } }

/-- A device reset by one source. -/
def State.deviceReset (s : State) (cause : Nat) : State := s.deviceResets [cause]

end Sys2Proof.Machine
end

