-- ==== Sys2Proof/Machine/Cycle.lean ====
section
/-! DEFINITION. The end of a watch cycle: outcomes, LATE escalation, the CYCLE entry (R25, R37 to R42, R886). -/

namespace Sys2Proof.Machine

/-- Marks an interrupt source that has no event register as asserted (R610). -/
def State.raiseIrq (s : State) (n : Nat) : State := { s with pulses := s.pulses ||| 2 ^ n }

/-- A request in a node's wake buffer is answered without being performed. -/
def State.answerWake (s : State) (node : Nat) (p : FwPacket) (status : Nat) : State :=
  let r : FwPacket := { dst := p.src, src := node, kind := 9, qos := p.qos, tid := p.tid, epoch := p.epoch, status := status }
  { s with fw := { s.fw with wake := Store.erase s.fw.wake node, responses := s.fw.responses ++ [r] } }

/-- The requests to the field control of nodes 2 to 5 that wait for their fields are answered (R722). -/
def State.dropControl (s : State) (status : Nat) : State :=
  [2, 3, 4, 5].foldl (fun (t : State) n => match Store.find? t.fw.wake n with
    | some p => t.answerWake n p status
    | none => t) s

/-- Accesses to the Plain window that wait for their field are answered without being performed: one in node 1's wake buffer with a status
of Table FWY-3, those at the matrix with a bus error; the wakes go on (R487, R722, R723). -/
def State.dropWindow (s : State) (status : Nat) : State :=
  let win (a : Nat) : Bool := decide (0x30000000 ≤ a) && decide (a < 0x31000000)
  let gone := s.held.any fun r => win r.addr
  let t := if gone then { s with held := s.held.filter (fun r => !win r.addr), bus := { status := .error } } else s
  match Store.find? t.fw.wake 1 with
  | some p => if win p.addr then t.answerWake 1 p status else t
  | none => t

/-- The CYCLE entry (R886, Table BBR-2). -/
def State.cycleEntry (s : State) (o : CycleOutcome) : State :=
  s.bbrA 0x020 0 0x01 (BitVec.ofNat 32 (o.code + 4 * s.wc.restricted.toNat + 8 * (s.rbit Reg.clkgenStatus 13).toNat +
    256 * s.wc.decimation + 65536 * (min s.wc.lateRun 255)))

/-- CYCLE_LATE to the hosts and its entry (Tables OPC-15 and BBR-2). -/
def State.raiseLate (s : State) (reason : Nat) : State :=
  let run := min s.wc.lateRun 255
  (s.emitAll 0x8001 0 (leBytes 4 s.wc.cycle.toNat ++ leBytes 1 reason ++ leBytes 1 s.wc.decimation ++ leBytes 1 run ++ zeros 1)).bbrA
    0x021 2 0x01 (BitVec.ofNat 32 (reason + 256 * s.wc.decimation + 65536 * run))

/-- LATE escalation after a LATE cycle (R40, R41). -/
def State.escalateLate (s : State) : State :=
  let run := s.wc.lateRun + 1
  let s := { s with wc := { s.wc with lateRun := run } }
  let s := if run = 3 then { s with wc := { s.wc with restricted := true } }.raiseLate 1 else s
  if run % 8 = 0 then
    if s.wc.decimation ≥ 16 then s.raiseLate 3
    else { s with wc := { s.wc with decimation := min 16 (2 * s.wc.decimation) } }.raiseLate 2
  else s

/-- The outcome recorded of a cycle that ends without COMMIT: the highest cause in Table SYS-6 (R38). -/
def WatchCycle.verdict (w : WatchCycle) (o : CycleOutcome) : CycleOutcome :=
  if w.bracedVerdict then .braced else if w.discardVerdict && o != .braced then .discarded else o

/-- Whether the cycle has already been given up by the Pilot, so that no COMMIT is sent and the halves do not flip (Table SYS-6). -/
def WatchCycle.refused (w : WatchCycle) : Bool := w.bracedVerdict || w.discardVerdict

/-- The cycle ends without COMMIT: the committed half stays as it is, changes stay pending, and the next cycle starts from the same
committed state (R25, R26, R37, R38, R39, R415). -/
def State.endCycle (s : State) (cause : CycleOutcome) : State :=
  if !s.wc.running || s.wc.ended then s
  else
    let o := s.wc.verdict cause
    let w := s.wc
    let w := { w with
      ended := true, phase := .ebb, lastCycle := w.cycle, lastOutcome := o, committedRun := 0,
      nLate := w.nLate + (if o == CycleOutcome.late then 1 else 0), nDiscarded := w.nDiscarded + (if o == CycleOutcome.discarded then 1 else 0),
      nBraced := w.nBraced + (if o == CycleOutcome.braced then 1 else 0) }
    let s := { s with wc := w, chansWork := none, hydroWork := none, changes := s.changes.map fun (p : Pending) => { p with used := false } }
    let s := if o == CycleOutcome.late then s.escalateLate else s
    s.cycleEntry o

/-- A commit's effect on the counts: the LATE run ends, and the restriction lifts after 16 committed cycles in a row (R38, R40). -/
def State.countCommit (s : State) : State :=
  let w := s.wc
  let w := { w with
    ended := true, phase := .ebb, lastCycle := w.cycle, lastCommitted := w.cycle, lastOutcome := .committed, nCommitted := w.nCommitted + 1, lateRun := 0,
    committedRun := w.committedRun + 1, checkPosted := w.checkPosted || (w.nCommitted + 1) % 50 == 0 }
  let s := { s with wc := w }
  if w.restricted && decide (w.committedRun ≥ 16) then
    { s with wc := { s.wc with restricted := false } }.raiseLate 4
  else s

end Sys2Proof.Machine
end

