-- ==== Sys2Proof/Machine/Plain.lean ====
section
/-! DEFINITION. The Plain: geometry, element memory and ECC, links, GOR and FOR, field power (chapter 12). -/

namespace Sys2Proof.Machine

/-! ### Geometry (R453, R454, R459) -/

/-- The element at a row and a column. -/
def elemAt (r c : Nat) : Nat := 128 * r + c

/-- The field of an element. -/
def fieldOf (n : Nat) : Nat := 4 * (n / 128 / 32) + n % 128 / 32

/-- The ring index within the field. -/
def ringOf (n : Nat) : Nat :=
  let lr := n / 128 % 32
  let lc := n % 32
  if lr % 2 = 0 then 32 * lr + lc else 32 * lr + 31 - lc

/-- The chain index. -/
def chainOf (n : Nat) : Nat := 1024 * fieldOf n + ringOf n

/-- The element at a ring index of a field. -/
def elemOfRing (f j : Nat) : Nat :=
  let lr := j / 32
  let lc := if lr % 2 = 0 then j % 32 else 31 - j % 32
  elemAt (32 * (f / 4) + lr) (32 * (f % 4) + lc)

/-- The element at a chain index. -/
def elemOfChain (i : Nat) : Nat := elemOfRing (i / 1024) (i % 1024)

/-- The elements of a field. -/
def fieldElems (f : Nat) : List Nat := (List.range 1024).map (elemOfRing f)

/-- The ECC group of an element: 16 × field + group (R459). -/
def groupOf (n : Nat) : Nat := 16 * fieldOf n + 2 * (n / 128 % 32 / 4) + n % 32 / 16

/-- The berth of 16 elements of a slot (R326): berth `b` covers 4 rows and 4 columns of its field, element `e` at row e >> 2, column e & 3;
berths 4g to 4g + 3 are ECC group g (R459). -/
def berthElems (slot : Nat) : List Nat :=
  let f := slot / 64
  let b := slot % 64
  (List.range 16).map fun e => elemAt (32 * (f / 4) + 4 * (b / 8) + e / 4) (32 * (f % 4) + 4 * (b % 8) + e % 4)

/-! ### Memory (R463, R465, R486) -/

/-- The physical address of a logical one (R463), modulo 8,192 (R465). -/
def Plain.phys (p : Plain) (a : Nat) : Nat :=
  let a := a % 8192
  if a < 4096 && p.half then a ^^^ 2048 else a

/-- One physical bit of an element. -/
def Plain.bitAt (p : Plain) (n a : Nat) : Bool := (Store.get p.mem (n * 1024 + a / 8) 0).getLsbD (a % 8)

/-- One physical bit of an element written. -/
def Plain.setBit (p : Plain) (n a : Nat) (b : Bool) : Plain :=
  let k := n * 1024 + a / 8
  let m : Byte := BitVec.ofNat 8 (2 ^ (a % 8))
  let old := Store.get p.mem k 0
  { p with mem := Store.set p.mem k (if b then old ||| m else old &&& ~~~ m) 0 }

/-- Bytes of an element's memory set. -/
def Plain.putBytes (p : Plain) (n off : Nat) (b : Bytes) : Plain :=
  { p with mem := (b.zip (List.range b.length)).foldl (fun (m : Store Byte) x => Store.set m (n * 1024 + off + x.2) x.1 0) p.mem }

/-- Bytes of an element's memory. -/
def Plain.getBytes (p : Plain) (n off k : Nat) : Bytes := (List.range k).map fun i => Store.get p.mem (n * 1024 + off + i) 0

/-- An operand of `w` bits at logical address `a`, least significant bit first (R534). -/
def Plain.bits (p : Plain) (n a : Nat) : Nat → Nat
  | 0 => 0
  | w + 1 => p.bits n a w + (p.bitAt n (p.phys (a + w))).toNat * 2 ^ w

/-- The low `w` bits of a number written as an operand. -/
def Plain.putBits (p : Plain) (n a : Nat) : Nat → Nat → Plain
  | 0, _ => p
  | w + 1, v => (p.setBit n (p.phys a) (v % 2 == 1)).putBits n (a + 1) w (v / 2)

/-! ### Elements -/

/-- Whether a field is ON. -/
def Plain.on (p : Plain) (f : Nat) : Bool := p.power.getD f .off == .on

/-- The elements of the fields that are ON. -/
def Plain.onElems (p : Plain) : List Nat := ((List.range 16).filter p.on).flatMap fieldElems

/-- An element's registers; after a macro-instruction X, Y, C, T and NB are the values that its routine left (R537). -/
def Plain.elem (p : Plain) (n : Nat) : Elem :=
  let e := Store.get p.elems n {}
  match p.left with
  | none => e
  | some k =>
    if p.on (fieldOf n) then
      let r := Config.plainLeft k n
      { e with x := r.getLsbD 0, y := r.getLsbD 1, c := r.getLsbD 2, t := r.getLsbD 3, nb := r.getLsbD 4 }
    else e

/-- An element's registers set. -/
def Plain.setElem (p : Plain) (n : Nat) (e : Elem) : Plain := { p with elems := Store.set p.elems n e {} }

/-- The left-over registers made explicit, so that a micro-word can act on them. -/
def Plain.settle (p : Plain) : Plain :=
  match p.left with
  | none => p
  | some _ => { p.onElems.foldl (fun q n => q.setElem n (p.elem n)) p with left := none }

/-- Which elements of the ON fields a mask select passes: 0 ALL, 1 M, 2 NOT_M (R456). -/
def Plain.active (p : Plain) (msel : Nat) : List Nat :=
  p.onElems.filter fun n => msel == 0 || (msel == 1 && (p.elem n).m) || (msel == 2 && !(p.elem n).m)

/-! ### Links (R467 to R469) -/

/-- The source element of a neighbour read: direction 0 N, 1 E, 2 S, 3 W; mode 0 ZERO, 1 WRAP, 2 SNAKE, 3 FIELDRING; `split` while
any mirror pair is enabled (Table PLN-3, R469). -/
def neighbour (dir mode : Nat) (split : Bool) (n : Nat) : Option Nat :=
  let r := n / 128
  let c := n % 128
  if dir = 0 || dir = 2 then
    let north := dir == 0
    let edge := if north then r == 0 || (split && r == 64) else r == 127 || (split && r == 63)
    if mode = 1 then
      let size := if split then 64 else 128
      let base := r / size * size
      let lr := r % size
      some (elemAt (base + (if north then (lr + size - 1) % size else (lr + 1) % size)) c)
    else if edge then none
    else
      let src := elemAt (if north then r - 1 else r + 1) c
      if mode = 3 && fieldOf src != fieldOf n then none else some src
  else
    let east := dir == 1
    if mode = 0 then
      if east then (if c = 127 then none else some (n + 1)) else if c = 0 then none else some (n - 1)
    else if mode = 1 then some (elemAt r (if east then (c + 1) % 128 else (c + 127) % 128))
    else if mode = 2 then
      let i := chainOf n
      let first := i == 0 || (split && i == 8192)
      let last := i == 16383 || (split && i == 8191)
      if east then (if first then none else some (elemOfChain (i - 1))) else if last then none else some (elemOfChain (i + 1))
    else
      let j := ringOf n
      some (elemOfRing (fieldOf n) (if east then (j + 1023) % 1024 else (j + 1) % 1024))

/-- NB as a neighbour reads it: 0 without a source and from a field that is not ON (R467, R468). -/
def Plain.linkIn (p : Plain) (dir mode n : Nat) : Bool :=
  match neighbour dir mode (p.mirrorPairs % 256 != 0) n with
  | some src => p.on (fieldOf src) && (p.elem src).nb
  | none => false

/-! ### GOR and FOR (R470) -/

/-- The field-OR vector: a field that is not ON or is marked failed contributes 0. -/
def State.forVec (s : State) : Nat :=
  (List.range 16).foldl (fun v f =>
    if s.plain.on f && !s.rbit Reg.sysctlPlainFail f && (fieldElems f).any fun n => (s.plain.elem n).f then v + 2 ^ f else v) 0

/-- The vector of the fields in which an element of a list stands. -/
def fieldVec (l : List Nat) : Nat := ((List.range 16).filter fun f => l.any fun n => fieldOf n == f).foldl (fun v f => v + 2 ^ f) 0

/-! ### Micro-trap requests and uncorrectable errors (R483, R518) -/

/-- A micro-trap request sets its pending bit and latches its information (R518, Table PLT-6). -/
def State.requestTrap (s : State) (code : Nat) (info : Word) : State :=
  let t := s.orReg Reg.pilotTrapPend (BitVec.ofNat 32 (2 ^ code))
  { t with pilot := { t.pilot with info := t.pilot.info.set code info } }

/-- An uncorrectable error of a group row: the UE vector's bit, the first address, ECC_UE (R483). -/
def State.noteUe (s : State) (group addr : Nat) : State :=
  let f := group / 16
  let empty := (List.range 8).all fun i => s.reg (Reg.pilotUeVec + 4 * i) == 0
  let p := s.plain
  let first := if s.rbit (Reg.pilotUeVec + 4 * (f / 2)) (group % 16 + 16 * (f % 2)) then p.ueFirst else Store.insert p.ueFirst group addr
  let s := { s with plain := { p with ueFirst := first } }
  let t := s.orReg (Reg.pilotUeVec + 4 * (f / 2)) (BitVec.ofNat 32 (2 ^ (group % 16 + 16 * (f % 2))))
  let t := if empty then t.setFld Reg.pilotUeAddr 12 0 addr else t
  t.requestTrap 3 (BitVec.ofNat 32 (if empty then addr else (s.reg Reg.pilotUeAddr).toNat))

/-- A correctable error of a group row: the field's count and the repair queue of 8 (R460). -/
def State.noteCe (s : State) (key : Nat) : State :=
  let f := key / 8192 / 16
  let p := { s.plain with corrected := Store.insert s.plain.corrected f (Store.get s.plain.corrected f 0 + 1) }
  if p.repair.contains key then { s with plain := p }
  else if p.repair.length < 8 then { s with plain := { p with repair := p.repair ++ [key] } }
  else { s with plain := p }.orReg Reg.scrubEvents 16

/-- What one element does in an access: its registers afterwards, the operands it reads (logical address and width), the operands it
writes (address, width, value). -/
structure ElemOut where
  elem : Elem
  reads : List (Nat × Nat) := []
  writes : List (Nat × Nat × Nat) := []

/-- Whether a list of operands covers a physical address. -/
def Plain.covers (p : Plain) (l : List (Nat × Nat)) (addr : Nat) : Bool :=
  l.any fun o => (List.range o.2).any fun i => p.phys (o.1 + i) == addr

/-- The ECC effect of an access on each group row in error: reads note it; a write by all 64 elements of the group, or any write to a
row with a correctable error, leaves fresh check bits, and a part write to an uncorrectable row leaves poison (R460, R461, R491). -/
def State.eccAccess (s : State) (outs : List (Nat × ElemOut)) : State :=
  s.plain.ecc.foldl (fun t (e : Nat × Nat) =>
    let key := e.1
    let kind := e.2
    let inGroup := outs.filter fun o => groupOf o.1 == key / 8192
    let wrote := (inGroup.filter fun o => s.plain.covers (o.2.writes.map fun w => (w.1, w.2.1)) (key % 8192)).length
    let read := inGroup.any fun o => s.plain.covers o.2.reads (key % 8192)
    let t := if read || (decide (0 < wrote) && decide (wrote < 64)) then (if kind = 1 then t.noteCe key else t.noteUe (key / 8192) (key % 8192)) else t
    if wrote = 64 || (kind = 1 && decide (0 < wrote)) then
      { t with plain := { t.plain with ecc := Store.erase t.plain.ecc key, repair := t.plain.repair.filter fun k => k != key } }
    else t) s

/-- Every active element acts at once on the state before the access (R456, R498). -/
def State.elemStep (s : State) (outs : List (Nat × ElemOut)) : State :=
  let p := outs.foldl (fun q o => o.2.writes.foldl (fun q w => q.putBits o.1 w.1 w.2.1 w.2.2) (q.setElem o.1 o.2.elem)) s.plain
  let q := (s.eccAccess outs).plain
  { s.eccAccess outs with plain := { p with ecc := q.ecc, repair := q.repair, corrected := q.corrected, ueFirst := q.ueFirst } }

/-! ### Field power (R77, R472 to R475) -/

/-- A wake request for one field: it joins a wake in progress; at most four fields wake from OFF at the same time (R77, R473). -/
def State.wakeOne (s : State) (f : Nat) : State :=
  match s.plain.power.getD f .on with
  | .on => s
  | pw =>
    if s.plain.waking.any fun w => w.1 == f then s
    else { s with plain := { s.plain with waking := s.plain.waking ++ [(f, pw == .off)] } }

/-- A field and, in an enabled mirror pair, the upper field that follows its power state (R477). -/
def Plain.withFollower (p : Plain) (f : Nat) : List Nat := if f < 8 && p.mirrorPairs.testBit f then [f, f + 8] else [f]

/-- A wake request (R473, R477). -/
def State.wakeField (s : State) (f : Nat) : State := (s.plain.withFollower f).foldl (fun (t : State) g => t.wakeOne g) s

/-- A field becomes ON: with zero memory when it was OFF, and every register at its wake value (R462, R472). -/
def State.fieldUp (s : State) (field : Nat) (fromOff : Bool) : State :=
  let p := { s.plain.settle with
    waking := s.plain.waking.filter fun x => x.1 != field
    power := s.plain.power.set field .on
    elems := s.plain.settle.elems.filter fun (x : Nat × Elem) => fieldOf x.1 != field }
  { s with plain := if fromOff then { p with
      mem := p.mem.filter fun (x : Nat × Byte) => fieldOf (x.1 / 1024) != field
      ecc := p.ecc.filter fun (x : Nat × Nat) => x.1 / 8192 / 16 != field } else p }

/-- A wake whose issuer waits for it: a field that is OFF waits until fewer than four others ramp from OFF, the earliest of which then finish
first (R77). -/
def State.wakeNow (s : State) (f : Nat) : State :=
  let p : Power := s.plain.power.getD f .on
  if p == Power.off then
    let before := ((s.plain.waking.filter fun x => x.2).map fun x => x.1).takeWhile fun g => g != f
    ((before.take (before.length - 3)).foldl (fun (t : State) g => t.fieldUp g true) s).fieldUp f true
  else s.fieldUp f false

/-- Whether a field holds a channel that runs, or its mirror copy (R28, R476). -/
def State.fieldArmed (s : State) (f : Nat) : Bool :=
  s.chans.any fun (x : Nat × Channel) => x.2.state.runs && (x.1 / 64 == f || (decide (8 ≤ f) && x.1 / 64 + 8 == f && s.pairs.testBit (f - 8)))

/-- Whether every slot of a field is FREE, DEFINED or BOUND (R474). -/
def State.fieldIdle (s : State) (f : Nat) : Bool :=
  s.chans.all fun (x : Nat × Channel) => x.1 / 64 != f || x.2.state == .defined || x.2.state == .bound

/-- The foreground window: from LOAD to the end of UNLOAD (R474). -/
def State.inWindow (s : State) : Bool :=
  match s.wc.phase with
  | .load | .compute | .unload => s.wc.running
  | _ => false

/-- A field enters RET or OFF: its registers are lost, in OFF its memory as well (R472). -/
def State.fieldDown (s : State) (field : Nat) (off : Bool) : State :=
  if s.plain.power.getD field .off = .off then s
  else
    let p := { s.plain.settle with
      power := s.plain.power.set field (if off then .off else .ret)
      elems := s.plain.settle.elems.filter fun (x : Nat × Elem) => fieldOf x.1 != field }
    { s with plain := if off then { p with
        mem := p.mem.filter fun (x : Nat × Byte) => fieldOf (x.1 / 1024) != field
        ecc := p.ecc.filter fun (x : Nat × Nat) => x.1 / 8192 / 16 != field
        repair := p.repair.filter fun k => k / 8192 / 16 != field } else p }

/-- Whether a sleep of a field has to wait: it is waking for a transfer or an access, an access to it is held, a Quay pass or a copy job runs, or
it holds an armed berth in the foreground window (R474). -/
def State.sleepWaits (s : State) (field : Nat) : Bool :=
  (s.plain.waking.any fun w => w.1 == field) ||
    (s.held.any fun r => decide (0x30000000 ≤ r.addr) && decide (r.addr < 0x31000000) && fieldOf ((r.addr - 0x30000000) / 1024) == field) ||
    s.fld Reg.quayStatus 2 0 != 0 || (s.inWindow && s.fieldArmed field)

/-- A sleep request taken or kept waiting; the upper field of a pair follows the lower one alone (R474, R477, R482). -/
def State.sleepField (s : State) (r : Nat × Bool) : State :=
  let l := s.plain.withFollower r.1
  if decide (8 ≤ r.1) && s.plain.mirrorPairs.testBit (r.1 - 8) then s
  else if l.any s.sleepWaits then (if s.plain.sleeps.contains r then s else { s with plain := { s.plain with sleeps := s.plain.sleeps ++ [r] } })
  else l.foldl (fun (t : State) f => t.fieldDown f r.2) s

/-- The sleep requests that wait, each taken where nothing is pending any more (R474). -/
def State.takeSleeps (s : State) : State :=
  s.plain.sleeps.foldl (fun (t : State) r => t.sleepField r) { s with plain := { s.plain with sleeps := [] } }

/-- FIELD_SLEEP (R28, R474): ON to RET, or to OFF when every slot of the field is FREE, DEFINED or BOUND; a request that meets a transfer or an
access waits. -/
def execFieldSleep (field : Nat) (off : Bool) (s : State) : Out :=
  .next (if s.plain.power.getD field .off = .off || (off && !s.fieldIdle field) then s else s.sleepField (field, off))

end Sys2Proof.Machine
end

