-- ==== Sys2Proof/Machine/Pilot.lean ====
section
/-! DEFINITION. The Pilot sequencer: micro-words, conditions, scalar operations, patch matches, micro-traps, halts (chapter 13). -/

namespace Sys2Proof.Machine

/-- Bits `hi:lo` of a micro-word (Table PLT-1). -/
def mbits (w : BitVec 112) (hi lo : Nat) : Nat := (w.toNat >>> lo) % 2 ^ (hi + 1 - lo)

/-! ### ARR domain reset (R489, R528, R864) -/

/-- The Pilot after an ARR domain reset: patch RAM is kept, everything else is cleared, and it waits for the next mark (R127, R528). -/
def Pilot.afterReset (p : Pilot) : Pilot := { ({} : Pilot) with pram := p.pram, waitMark := true }

/-- ARR domain resets within the last 10 s, this one included (R864). -/
def State.arrRun (s : State) : List Nat := (s.reclaim.arrResets.filter fun t => decide (s.nowUs < t + 10000000)) ++ [s.nowUs]

/-- An ARR domain reset: element registers at their wake values, UE vector and repair queue cleared, memory, field power, HALF, patch RAM
and match registers kept; the cycle in progress is LATE; the third within 10 s resets the device (R489, R528, R864, Table CLK-6). -/
def State.arrReset (s : State) : State :=
  let t := { s with
    plain := { s.plain with elems := [], repair := [], left := none, ueFirst := [] }
    pilot := s.pilot.afterReset
    reclaim := { s.reclaim with arrResets := s.arrRun, inReset := if s.reclaim.inReset.contains 2 then s.reclaim.inReset else s.reclaim.inReset ++ [2] } }
  let t := (List.range 8).foldl (fun u i => u.setReg (Reg.pilotUeVec + 4 * i) 0) t
  let t := (((t.setReg Reg.pilotUeAddr 0).setReg Reg.pilotTrapPend 0).addFld Reg.reclaimCount 23 16 1).setGuard 3 {}
  let t := ((t.dropWindow 2).dropControl 2).endCycle .late
  if s.arrRun.length ≥ 3 then (t.addFld Reg.reclaimCount 31 24 1).deviceReset Cause.reclaim else t

/-- Whether ARR runs: it is not lost and no ARR domain reset is in progress (Tables REG-3 and CLK-6). -/
def State.arrUp (s : State) : Bool := !s.lostClocks.testBit 0 && !s.reclaim.inReset.contains 2

/-! ### Halts (R495, R509, R512, R520) -/

/-- The Pilot halts in HALTED_FAULT with a bit of PILOT_FAULT set. -/
def State.pilotHalt (s : State) (bit : Nat) : State :=
  { s.setRbit Reg.pilotFault bit true with pilot := { s.pilot with st := .haltedFault } }.raiseIrq 10

/-- PILOT_OVERFLOW and the halts with its consequences: the entry, and the ARR domain reset (R509, R520). -/
def State.pilotOverflow (s : State) (bit : Nat) : State :=
  ((s.pilotHalt bit).faultB 0x023 4 0x02 (BitVec.ofNat 32 (s.pilot.upc % 32768))).arrReset

/-! ### Next address and patch matches (R510 to R512) -/

/-- The enabled match registers whose MATCH_ADDR is a micro-address; addresses in patch RAM are never matched. -/
def State.matches (s : State) (a : Nat) : List Nat :=
  if a ≥ 0x4000 then []
  else (List.range 32).filterMap fun i =>
    let w := s.reg (Reg.pilotMatch + 4 * i)
    if bit w 31 && bits w 13 0 == a then some (0x4000 + bits w 24 16) else none

/-- The Pilot continues at a next address: the ROM word, or the patch word that a match substitutes; two matches halt it. -/
def State.goto (s : State) (a : Nat) : State :=
  match s.matches a with
  | [] => { s with pilot := { s.pilot with upc := a % 32768 } }
  | [b] => { s with pilot := { s.pilot with upc := b } }
  | _ => s.pilotHalt 5

/-! ### Conditions (Table PLT-4, R504) -/

/-- Four bits as a number, bit 3 first. -/
def nib (d c b a : Bool) : Nat := 8 * d.toNat + 4 * c.toNat + 2 * b.toNat + a.toNat

/-- The field-OR vector in the condition latch: F writes of four Plain cycles ago (R504). -/
def Pilot.latch (p : Pilot) : Nat := p.history.getD 3 0

/-- The condition group that CSEL selects; a reserved group reads zeros (R503). -/
def State.cond (s : State) (csel : Nat) : Nat :=
  let p := s.pilot
  let lc0 (i : Nat) : Bool := p.lc.getD i 0 == 0
  match csel with
  | 1 => (p.latch != 0).toNat
  | 2 => p.latch % 16
  | 3 => p.latch / 16 % 16
  | 4 => p.latch / 256 % 16
  | 5 => p.latch / 4096 % 16
  | 6 => nib (lc0 3) (lc0 2) (lc0 1) (lc0 0)
  | 7 => nib p.v p.c p.n p.z
  | 8 => p.mode % 16
  | 9 => p.mode / 16 % 16
  | 10 => p.mode / 256 % 8
  | 11 => nib (decide (33 ≤ p.width)) (decide (17 ≤ p.width)) (decide (9 ≤ p.width)) (decide (5 ≤ p.width))
  | 12 => nib p.mark s.plain.half (s.plain.mirrorPairs % 256 != 0) p.mboxNew
  | 13 => nib false false p.deadlinePassed s.warning
  | _ => 0

/-! ### Plain cycles -/

/-- `n` Plain cycles pass: DL_LEFT falls, stopping at 0, the condition latch moves on, and GOR_WATCH is requested when GOR in the latch
rises while WATCH_EN is set (R504, R508, R517). -/
def State.plainCycles (s : State) (n : Nat) : State :=
  let p := s.pilot
  let v := s.forVec
  let q := { p with dlLeft := p.dlLeft - n, history := (List.replicate (min n 4) v ++ p.history).take 4 }
  let t := { s with pilot := q }
  if s.rbit Reg.pilotWatch 0 && p.latch == 0 && q.latch != 0 then t.requestTrap 5 (BitVec.ofNat 32 q.latch) else t

/-! ### Scalar operations (Table PLT-5) -/

/-- The S registers with one set. -/
def Pilot.setS (p : Pilot) (i : Nat) (v : Word) : Pilot := { p with s := p.s.set i v }

/-- Z and N of a result, and given C and V. -/
def Pilot.setFlags (p : Pilot) (r : Word) (c v : Bool) : Pilot := { p with z := r == 0, n := r.getLsbD 31, c := c, v := v }

/-- An external source of SOP 4. -/
def State.sopSource (s : State) (k : Nat) : Word :=
  let p := s.pilot
  BitVec.ofNat 32 (match k with
    | 0 => p.dst
    | 1 => p.src1
    | 2 => p.src2
    | 3 => p.width
    | 4 => p.mode
    | 5 => p.opcode
    | 6 => p.mpc
    | 7 => p.dlLeft
    | 8 => (s.reg Reg.pilotMboxHm).toNat
    | 9 => (s.reg (Reg.pilotMboxHm + 4)).toNat
    | 10 => (s.reg Reg.pilotMboxPilot).toNat
    | 11 => (s.reg (Reg.pilotMboxPilot + 4)).toNat
    | 12 => s.wc.cycle.toNat
    | 13 => (s.reg Reg.pilotUeAddr).toNat
    | 14 => ((p.slots.getLast?.getD []).getD 7 0).toNat
    | _ => 0)

/-- One scalar operation. -/
def State.sop (s : State) (op sd ss imm : Nat) : State :=
  let p := s.pilot
  let a := p.s.getD sd 0
  let b := p.s.getD ss 0
  match op with
  | 1 =>
    let r := a + b
    { s with pilot := (p.setS sd r).setFlags r (decide (a.toNat + b.toNat ≥ 2 ^ 32)) (decide (a.toInt + b.toInt ≠ r.toInt)) }
  | 2 =>
    let r := a - b
    { s with pilot := (p.setS sd r).setFlags r (Config.subCarry (decide (a.toNat < b.toNat))) (decide (a.toInt - b.toInt ≠ r.toInt)) }
  | 3 => { s with pilot := p.setS sd (BitVec.ofInt 32 (toSigned 16 imm)) }
  | 4 =>
    let t := { s with pilot := p.setS sd (s.sopSource (imm % 16)) }
    if imm % 16 = 8 then { t with pilot := { t.pilot with mboxNew := false } } else t
  | 5 =>
    match imm % 16 with
    | 0 => { s with pilot := { p with mpc := b.toNat / 8 * 8 % 262144, queue := [] } }
    | 1 => { s with pilot := { p with a := p.a.set 3 (b.toNat % 8192) } }
    | 2 => s.setReg Reg.pilotMboxPilot b
    | 3 => s.setReg (Reg.pilotMboxPilot + 4) b
    | _ => s
  | 6 =>
    let k := toSigned 16 imm
    let r : Word := if k ≥ 0 then b <<< k.toNat else BitVec.sshiftRight b (-k).toNat
    let f := Config.shiftFlags b (BitVec.ofNat 16 imm)
    { s with pilot := (p.setS sd r).setFlags r f.1 f.2 }
  | 7 => { s with pilot := p.setS sd (a &&& b) }
  | _ => s

/-! ### Element operations (R498, Table PLT-2) -/

/-- maj(x, y, z). -/
def maj (a b c : Bool) : Bool := (a && b) || (a && c) || (b && c)

/-- XFN. -/
def xfn (code : Nat) (e : Elem) (nbr : Bool) : Bool :=
  match code with
  | 1 => e.y
  | 2 => !e.x
  | 3 => e.x && e.y
  | 4 => e.x || e.y
  | 5 => e.x != e.y
  | 6 => (e.x != e.y) != e.c
  | 7 => (e.x != !e.y) != e.c
  | 8 => e.t
  | 9 => nbr
  | 10 => e.x && !e.y
  | 11 => if e.t then e.y else e.x
  | 12 => false
  | 13 => true
  | 14 => e.c
  | 15 => e.f
  | _ => e.x

/-- CFN; code 7 is reserved and holds. -/
def cfn (code : Nat) (e : Elem) : Bool :=
  match code with
  | 1 => maj e.x e.y e.c
  | 2 => maj (!e.x) e.y e.c
  | 3 => false
  | 4 => true
  | 5 => e.y
  | 6 => e.x
  | _ => e.c

/-- FFN. -/
def ffn (code : Nat) (e : Elem) : Bool :=
  match code with
  | 1 => e.x
  | 2 => e.f || e.x
  | 3 => e.f && e.x
  | 4 => false
  | 5 => e.x != e.y
  | 6 => e.t
  | 7 => e.f || (e.x != e.y)
  | _ => e.f

/-- TFN. -/
def tfn (code : Nat) (e : Elem) : Bool :=
  match code with
  | 1 => e.x
  | 2 => e.y
  | 3 => e.c
  | _ => e.t

/-- NBFN. -/
def nbfn (code : Nat) (e : Elem) : Bool :=
  match code with
  | 1 => e.x
  | 2 => e.t
  | 3 => false
  | _ => e.nb

/-- A read bit replaces its destination: port A (`code` of PA_DST less mirror compare). -/
def portA (code : Nat) (b : Bool) (e : Elem) : Elem :=
  match code with
  | 1 => { e with x := b }
  | 2 => { e with y := b }
  | 3 => { e with t := b }
  | 4 => { e with c := b }
  | 5 => { e with ix := (Config.ixShift (BitVec.ofNat 13 e.ix) b).toNat }
  | 7 => { e with f := b }
  | _ => e

/-- Port B. -/
def portB (code : Nat) (b : Bool) (e : Elem) : Elem :=
  match code with
  | 1 => { e with y := b }
  | 2 => { e with t := b }
  | 3 => { e with f := e.f || b }
  | _ => e

/-- The bit that the write port stores. -/
def writeSrc (code : Nat) (e : Elem) : Bool :=
  match code with
  | 1 => e.x
  | 2 => e.y
  | 3 => e.c
  | 4 => e.t
  | 5 => e.f
  | 6 => e.nb
  | 7 => e.dz
  | _ => false

/-- MASKOP on the X just latched: M and the mask stack (R457). -/
def maskOp (code : Nat) (e : Elem) : Elem :=
  let top := e.stack.headD true
  match code with
  | 1 => { e with m := e.m && e.x, stack := (e.m :: e.stack).take 4 }
  | 2 => { e with m := e.m && !e.x, stack := (e.m :: e.stack).take 4 }
  | 3 => { e with m := top, stack := e.stack.drop 1 ++ [true] }
  | 4 => { e with m := top && !e.m }
  | 5 => { e with m := true }
  | 6 => { e with m := top && e.x }
  | _ => e

/-- The elements of the upper fields of enabled pairs, less the groups in the UE vector (R479, R485). -/
def State.compareElems (s : State) : List Nat :=
  ((List.range 8).filter fun f => s.pairs.testBit f).flatMap fun f =>
    (fieldElems (f + 8)).filter fun n =>
      let ue (g : Nat) : Bool := s.rbit (Reg.pilotUeVec + 4 * (g / 16 / 2)) (g % 16 + 16 * (g / 16 % 2))
      s.plain.on (f + 8) && !ue (groupOf n) && !ue (groupOf n - 128)

/-- The mirror compare of one plane (R479, R500): F := F OR (bit XOR partner's bit). -/
def State.compareStep (s : State) (a : Nat) : State :=
  s.elemStep (s.compareElems.map fun n =>
    let e := s.plain.elem n
    let d := s.plain.bitAt n (s.plain.phys a) != s.plain.bitAt (n - 8192) (s.plain.phys a)
    (n, { elem := { e with f := e.f || d }, reads := [(a, 1)] }))

/-- The element operations of one micro-word (R498). -/
def State.microElems (s : State) (w : BitVec 112) : State :=
  let s := { s with plain := s.plain.settle }
  let p := s.plain
  let msel := mbits w 70 69
  let act := p.active (if msel = 3 then s.pilot.mode % 4 else msel)
  let reg (i : Nat) : Nat := s.pilot.a.getD i 0
  let pa := mbits w 32 30
  let pb := mbits w 36 35
  let src := mbits w 41 39
  let idx := mbits w 45 44
  let mode := if bit (BitVec.ofNat 32 (mbits w 68 68)) 0 then s.pilot.mode / 16 % 4 else mbits w 67 66
  let step (n : Nat) : Nat × ElemOut :=
    let e0 := p.elem n
    let aa := reg (mbits w 34 33) + (if idx = 1 then e0.ix else 0)
    let ab := reg (mbits w 38 37)
    let aw := reg (mbits w 43 42) + (if idx = 2 then e0.ix else 0)
    let useA := pa != 0 && pa != 6
    let e1 := if useA then portA pa (p.bitAt n (p.phys aa)) e0 else e0
    let e1 := if pb = 0 then e1 else portB pb (p.bitAt n (p.phys ab)) e1
    let nbr := p.linkIn (mbits w 65 64) mode n
    let e2 : Elem := { e1 with x := xfn (mbits w 53 50) e1 nbr, c := cfn (mbits w 56 54) e1, f := ffn (mbits w 59 57) e1,
                               t := tfn (mbits w 61 60) e1, nb := nbfn (mbits w 63 62) e1 }
    let dz := mbits w 75 74
    let e3 := { e2 with dz := if dz = 1 then e2.dz || e2.x else if dz = 2 then false else e2.dz }
    (n, { elem := e3,
          reads := (if useA then [(aa, 1)] else []) ++ (if pb = 0 then [] else [(ab, 1)]),
          writes := if src = 0 then [] else [(aw, 1, (writeSrc src e2).toNat)] })
  let outs := act.map step
  let t := s.elemStep outs
  let t := if pa = 6 then t.compareStep (reg (mbits w 34 33)) else t
  -- MASKOP acts in every element of every ON field
  let t := if mbits w 73 71 = 0 then t else
    { t with plain := t.plain.onElems.foldl (fun q n => q.setElem n (maskOp (mbits w 73 71) (q.elem n))) t.plain }
  let bad := fieldVec ((outs.filter fun o => o.2.elem.x).map fun o => o.1)
  if mbits w 75 74 = 1 && bad != 0 then t.requestTrap 4 (BitVec.ofNat 32 bad) else t

/-- The depth count of a MASKOP: none when it would push at 4 or pop at 0 (R457, R509). -/
def maskDepth (code d : Nat) : Option Nat :=
  if code = 1 || code = 2 then (if d ≥ 4 then none else some (d + 1))
  else if code = 3 then (if d = 0 then none else some (d - 1))
  else if code = 5 then some 0 else some d

/-- LCOP. -/
def Pilot.lcOp (p : Pilot) (w : BitVec 112) : Pilot :=
  let i := mbits w 27 26
  match mbits w 104 103 with
  | 1 => { p with lc := p.lc.set i (mbits w 102 87) }
  | 2 => { p with lc := p.lc.set i p.width }
  | 3 => { p with lc := p.lc.set i ((p.s.getD (mbits w 86 83) 0).toNat % 65536) }
  | _ => p

/-- AINC: the named address registers step. -/
def Pilot.aInc (p : Pilot) (mask : Nat) : Pilot :=
  { p with a := (List.range 4).map fun i =>
      let v := p.a.getD i 0
      if mask.testBit i then (if p.down.getD i false then (v + 8191) % 8192 else (v + 1) % 8192) else v }

/-- NOTE. -/
def State.note (s : State) (w : BitVec 112) : State :=
  match mbits w 106 105 with
  | 1 =>
    let t := s.raiseIrq 8
    if mbits w 89 87 = Config.unloadPhase % 8 then { t with pilot := { t.pilot with unloadDone := true } } else t
  | 3 => s.raiseIrq 9
  | _ => s

/-- TACK: MARK is cleared, and the acknowledge lease of a CYCLE_DEADLINE handler ends (R522, Table PLT-4). -/
def State.tack (s : State) : State :=
  let inDeadline := !s.pilot.slots.isEmpty && bits ((s.pilot.slots.getLast?.getD []).getD 0 0) 17 15 == 1
  { s with pilot := { s.pilot with mark := false, ackPending := s.pilot.ackPending && !inDeadline } }

/-- Whether the Pilot executes words. -/
def State.pilotRuns (s : State) : Bool :=
  match s.pilot.st with
  | .foreground | .ebb | .trap => !s.pilot.waitMark && s.arrUp
  | _ => false

/-- Everything of a micro-word but its next address: element operations, scalar operation, counters, notices, TACK, and its Plain cycles
(R498, R506). -/
def State.microBody (s : State) (w : BitVec 112) (act : Bool) : State :=
  let t := if act then s.microElems w else s
  let t := (t.sop (mbits w 78 76) (mbits w 82 79) (mbits w 86 83) (mbits w 102 87)).note w
  let t := { t with pilot := (t.pilot.lcOp w).aInc (mbits w 49 46) }
  let t := if mbits w 29 29 = 1 then t.tack else t
  let t := { t with pilot := { t.pilot with trapOk := mbits w 28 28 == 1 } }
  t.plainCycles (if mbits w 45 44 = 0 then 1 else 2)

/-- One micro-word: its mask operation stays within the stack or halts the Pilot (R509), then its operations, then the next address
that `next` gives. -/
def State.micro (s : State) (w : BitVec 112) (next : State → State) : State :=
  if !s.pilotRuns then s
  else match maskDepth (mbits w 73 71) s.pilot.depth with
    | none => s.pilotOverflow 2
    | some d =>
      let t := s.microBody w true
      next { t with pilot := { t.pilot with depth := d, inWait := false } }

/-- t = NEXT OR c[K − 1:0] (R501), with the conditions as the word finds them. -/
def State.target (s : State) (w : BitVec 112) : Nat :=
  let k := mbits w 20 18
  mbits w 14 0 ||| (s.cond (mbits w 25 21) % 2 ^ min k 4)

/-- MICRO_JUMP. -/
def execMicroJump (word : BitVec 112) (s : State) : Out := .next (s.micro word fun t => t.goto (s.target word))

/-- MICRO_CALL: at depth 8 the Pilot halts with CALL_STACK (R509). -/
def execMicroCall (word : BitVec 112) (s : State) : Out :=
  .next (s.micro word fun t =>
    if t.pilot.calls.length ≥ 8 then t.pilotOverflow 1
    else { t with pilot := { t.pilot with calls := (s.pilot.upc + 1) :: t.pilot.calls } }.goto (s.target word))

/-- MICRO_RETURN. -/
def execMicroReturn (word : BitVec 112) (s : State) : Out :=
  .next (s.micro word fun t =>
    match t.pilot.calls with
    | [] => t.pilotOverflow 1
    | a :: r => { t with pilot := { t.pilot with calls := r } }.goto a)

/-- MICRO_LOOP. -/
def execMicroLoop (word : BitVec 112) (s : State) : Out :=
  let i := mbits word 27 26
  let n := s.pilot.lc.getD i 0
  .next (s.micro word fun t =>
    if n ≠ 0 then { t with pilot := { t.pilot with lc := t.pilot.lc.set i (n - 1) } }.goto (s.target word)
    else t.goto (s.pilot.upc + 1))

/-- Dispatch of a macro-instruction: address registers, latches, mask state (R496). -/
def State.dispatch (s : State) (m : MacroInstr) : State :=
  let dst := macroField m 26 14
  let a1 := macroField m 39 27
  let a2 := macroField m 52 40
  let op := macroField m 7 0
  let p := { s.pilot with
    a := [dst, a1, a2, s.pilot.a.getD 3 0], opcode := op, width := macroField m 13 8 + 1, mode := macroField m 63 53,
    dst := dst, src1 := a1, src2 := a2, depth := 0, mpc := (s.pilot.mpc + 8) % 262144,
    down := (List.range 4).map fun i => Config.pilotDown op i }
  { s with pilot := p, plain := { s.plain with elems := Store.mapKV s.plain.elems fun n e => if s.plain.on (fieldOf n) then { e with m := true } else e } }

/-- MICRO_DISPATCH (R496): the next macro-instruction from the queue; with an empty queue the word waits. -/
def execMicroDispatch (word : BitVec 112) (s : State) : Out :=
  .next (match s.pilot.queue with
    | [] => s
    | m :: r => s.micro word fun t => ({ t with pilot := { t.pilot with queue := r } }.dispatch m).goto (16 * macroField m 7 0))

/-- MICRO_WAIT: repeats while its condition is 0; its element operations act only in its first cycle (R498). -/
def execMicroWait (word : BitVec 112) (s : State) : Out :=
  .next (if !s.pilotRuns then s
    else match maskDepth (mbits word 73 71) s.pilot.depth with
    | none => s.pilotOverflow 2
    | some d =>
      let first := !s.pilot.inWait
      let t := s.microBody word first
      let t := if first then { t with pilot := { t.pilot with depth := d } } else t
      if s.cond (mbits word 25 21) % 2 = 0 then { t with pilot := { t.pilot with inWait := true } }
      else { t with pilot := { t.pilot with inWait := false } }.goto (mbits word 14 0))

/-- MICRO_IDLE. -/
def execMicroIdle (word : BitVec 112) (s : State) : Out :=
  .next (s.micro word fun t => { t with pilot := { t.pilot with st := .idle } })

/-! ### Micro-traps (R517 to R523) -/

/-- A half-word in each half of a word. -/
def pair16 (lo hi : Nat) : Word := BitVec.ofNat 32 (lo % 65536 + 65536 * (hi % 65536))

/-- The save slot of a trap (Table PLT-8). -/
def Pilot.slot (p : Pilot) (code : Nat) : List Word :=
  [BitVec.ofNat 32 (p.upc % 32768 + 32768 * code + 262144 * p.calls.length + 4194304 * p.depth),
   pair16 (p.lc.getD 0 0) (p.lc.getD 1 0), pair16 (p.lc.getD 2 0) (p.lc.getD 3 0),
   pair16 (p.a.getD 0 0) (p.a.getD 1 0), pair16 (p.a.getD 2 0) (p.a.getD 3 0), p.s.getD 14 0, p.s.getD 15 0, p.info.getD code 0]

/-- The source of a save slot (Table PLT-8). -/
def slotCode (x : List Word) : Nat := bits (x.getD 0 0) 17 15

/-- The STATE to which a TRET returns: that under the traps, or that of the handler below, where the Harbour handler of HOST_BREAK waits in
HALTED_BREAK (R529). -/
def State.stateUnder (s : State) (rest : List (List Word)) : PilotState :=
  match rest.getLast? with
  | none => s.pilot.under
  | some x => if slotCode x = 6 && (s.matches 0x3F60).isEmpty then .haltedBreak else .trap

/-- TRET: the top slot is restored and freed (R519); the call-stack depth returns by dropping the entries above it. -/
def State.tret (s : State) : State :=
  match s.pilot.slots.getLast? with
  | none => s
  | some x =>
    let w (i : Nat) : Word := x.getD i 0
    let p := s.pilot
    let rest := p.slots.dropLast
    let q := { p with
      lc := [bits (w 1) 15 0, bits (w 1) 31 16, bits (w 2) 15 0, bits (w 2) 31 16],
      a := [bits (w 3) 12 0, bits (w 3) 28 16, bits (w 4) 12 0, bits (w 4) 28 16],
      s := (p.s.set 14 (w 5)).set 15 (w 6), depth := bits (w 0) 24 22,
      calls := p.calls.drop (p.calls.length - bits (w 0) 21 18), slots := rest, st := s.stateUnder rest, trapOk := true }
    ({ s with pilot := q }.goto (bits (w 0) 14 0)).plainCycles 2

/-- MICRO_TRET. -/
def execMicroTret (word : BitVec 112) (s : State) : Out := .next (s.micro word fun t => t.tret)

/-- Abandoning (R519): every slot is discarded, the stacks are empty, the outcome is posted through MBOX2, and the scheduler is entered;
requests of codes 3 to 5 survive (R527). The outcome is posted by its code of Table OPC-3. An UNLOAD that runs stops with ABORTED (R587). -/
def State.abandon (s : State) (o : CycleOutcome) : State :=
  let s := if s.fld Reg.quayStatus 2 0 = 2 then (s.setReg Reg.quayStatus 0).setRbit Reg.quayEvents 2 true else s
  let p := { s.pilot with slots := [], calls := [], depth := 0, st := .idle, loops := [], macroCalls := 0, queue := [], trapOk := true }
  (({ s with pilot := p }.setReg Reg.pilotMboxPilot (BitVec.ofNat 32 o.code)).setReg Reg.pilotTrapPend
    (s.reg Reg.pilotTrapPend &&& 0x38)).raiseIrq 9

/-- The source of the innermost active trap, 7 outside any. -/
def Pilot.innermost (p : Pilot) : Nat := (p.slots.getLast?.map slotCode).getD 7

/-- Whether a foreground is pending (R521). -/
def State.foreground (s : State) : Bool := s.pilot.under == .foreground || s.pilot.st == .foreground

/-- The trap is taken: save slot, pending bit, vector (R518). -/
def State.takeTrap (s : State) (code : Nat) : State :=
  let p := s.pilot
  let q := { p with slots := p.slots ++ [p.slot code], under := if p.slots.isEmpty then p.st else p.under, st := .trap, trapOk := false }
  ((({ s with pilot := q }.setRbit Reg.pilotTrapPend code false).goto (0x3F00 + 16 * code)).plainCycles 2)

/-- The Harbour handler of a source (Table PLT-6, R521, R522). SAGWARN decides only on the cycle in which the warning asserted (R87). -/
def State.harbourHandler (s : State) (code : Nat) : State :=
  match code with
  | 0 =>
    if !s.foreground || s.pilot.sagFor != some s.wc.cycle || s.wc.ended || decide ((s.pilot.s.getD 14 0).toNat ≤ s.pilot.dlLeft) then s.tack.tret
    else { s.tack with wc := { s.wc with bracedVerdict := true } }.abandon .braced
  | 1 => s.tack.abandon .late
  | 2 => { s with wc := { s.wc with discardVerdict := true } }.abandon .discarded
  | 3 | 4 | 5 => s.tret
  | _ => { s with pilot := { s.pilot with st := .haltedBreak, trapOk := true } }.raiseIrq 10

/-- The highest pending source that may be taken now (R518). -/
def State.nextTrap (s : State) : Option Nat :=
  (List.range 7).find? fun c => s.rbit Reg.pilotTrapPend c && decide (c < s.pilot.innermost)

/-- MICRO_TRAP (R518, R520), at the end of a word with TRAP_OK set: with all 4 slots in use the Pilot halts with OVERFLOW; where a match
register substitutes the vector, the patch's handler runs; otherwise the Harbour handler does. -/
def execMicroTrap (s : State) : Out :=
  .next (if !(s.pilotRuns || s.pilot.st == .haltedBreak) || !s.pilot.trapOk then s
    else match s.nextTrap with
    | none => s
    | some c =>
      if s.pilot.slots.length ≥ 4 then s.pilotOverflow 0
      else
        let t := s.takeTrap c
        if (s.matches (0x3F00 + 16 * c)).isEmpty then t.harbourHandler c else t)

/-! ### Requests -/

/-- SAGWARN_REQUEST (R517, R87, R88, Table PWR-4 step 3): once for each assertion of the warning. It decides on the cycle in progress unless the
watch cycle is stopped or stopping, or the cycle's COMMIT has been handed over. -/
def execSagwarnRequest (s : State) : Out :=
  .next (if !s.warning || s.sagAsked || s.boot.held then s
    else
      let t := { s.requestTrap 0 0 with sagAsked := true }
      { t with pilot := { t.pilot with sagFor := if s.wc.running && !s.wc.stopPending && !s.wc.ended then some s.wc.cycle else none } })

/-- CYCLE_DEADLINE (R517, R522): discarded after PHASE_DONE for UNLOAD, and when PILOT_DEADLINE is 0. -/
def execCycleDeadline (s : State) : Out :=
  .next (if s.pilot.unloadDone || s.fld Reg.pilotDeadline 17 0 = 0 then s
    else
      let t := s.requestTrap 1 0
      { t with pilot := { t.pilot with deadlinePassed := true, ackPending := true, dlLeft := 0 } })

/-- ACK_TIMEOUT (R522, R866): no TACK in a CYCLE_DEADLINE handler within 100 µs. -/
def execAckTimeout (s : State) : Out :=
  .next (if !s.pilot.ackPending then s
    else
      let t := ((s.setRbit Reg.pilotFault 3 true).faultB 0x024 4 0x02 (BitVec.ofNat 32 (s.pilot.upc % 32768)))
      t.arrReset)

/-- PILOT_MARK_ARRIVAL (R127, R508, R551): MARK is set, DL_LEFT is loaded, and a Pilot that waits for a mark goes on; a mark that falls
while ARR is in reset or relocking is not seen. -/
def execPilotMarkArrival (s : State) : Out :=
  .next (if !s.arrUp then s else { s.sampleMark 0 with pilot := { s.pilot with
    mark := true, waitMark := false, dlLeft := s.fld Reg.pilotDeadline 17 0 * s.arrMhz, deadlinePassed := false, unloadDone := false } })

/-- PILOT_START (R494). -/
def execPilotStart (s : State) : Out :=
  .next (if s.pilot.st ≠ .idle || !s.arrUp then s
    else { s with pilot := { s.pilot with
      mpc := s.fld Reg.pilotProgBase 17 0 / 8 * 8, queue := [], st := if s.inWindow then .foreground else .ebb,
      under := if s.inWindow then .foreground else .ebb } })

/-- PILOT_BREAK (R517, R529). -/
def execPilotBreak (s : State) : Out := .next (s.requestTrap 6 0)

/-- PILOT_RESUME (R519). -/
def execPilotResume (s : State) : Out :=
  .next (if s.pilot.st = .haltedBreak then s.tret else s)

/-- PILOT_PRAM_WRITE (R513): patch RAM accepts a word only in IDLE with every match register disabled; PRAM_ADDR advances after each
DATA3 write. -/
def execPilotPramWrite (data3 : Word) (s : State) : Out :=
  let a := s.fld Reg.pilotPramAddr 8 0
  let s := s.setReg (Reg.pilotPramData + 12) (data3 &&& 0xFFFF)
  let busy := (List.range 32).any fun i => s.rbit (Reg.pilotMatch + 4 * i) 31
  let word : BitVec 112 := BitVec.ofNat 112 ((s.reg Reg.pilotPramData).toNat + 2 ^ 32 * (s.reg (Reg.pilotPramData + 4)).toNat +
    2 ^ 64 * (s.reg (Reg.pilotPramData + 8)).toNat + 2 ^ 96 * (data3.toNat % 65536))
  .next (if s.pilot.st ≠ .idle || busy then s.setRbit Reg.pilotFault 6 true
    else { s with pilot := { s.pilot with pram := Store.set s.pilot.pram a word 0 } }.setFld Reg.pilotPramAddr 8 0 ((a + 1) % 512))

/-- PILOT_MBOX_WRITE (R503): MBOX0 and MBOX1 carry data to the Pilot. -/
def execPilotMboxWrite (n : Nat) (data : Word) (s : State) : Out :=
  .next (if n ≥ 2 then s
    else
      let t := s.setReg (Reg.pilotMboxHm + 4 * n) data
      if n = 0 then { t with pilot := { t.pilot with mboxNew := true } } else t)

/-! ### Fetch (R494, R495) -/

/-- A Basin's power state: 0 ON, 1 RET, 2 OFF; Basin 4 is always on (R674). -/
def State.basinState (s : State) (b : Nat) : Nat := if b ≥ 4 then 0 else s.fld Reg.basinctlPwrStatus (2 * b + 1) (2 * b)

/-- Whether a Basin is waking or clearing. -/
def State.basinWaking (s : State) (b : Nat) : Bool := decide (b < 4) && s.rbit Reg.basinctlPwrStatus (8 + b)

/-- A Basin starts to wake. -/
def State.wakeBasin (s : State) (b : Nat) : State := s.setRbit Reg.basinctlPwrStatus (8 + b) true

/-- Eight bytes of Basin 1 at an offset, as a macro-instruction. -/
def State.basin1Word (s : State) (off : Nat) : MacroInstr := BitVec.ofNat 64 (ofLe (Memory.readBytes s.mem (0x21000000 + off) 8))

/-- MACRO_FETCH: the next macro-instruction from Basin 1 enters the queue of 32; an uncorrectable error halts the Pilot with FETCH_UE, and
the cycle ends LATE; a fetch while the Basin is OFF halts it in the same way (R686), and one while the Basin sleeps wakes it and waits
(R685). -/
def execMacroFetch (s : State) : Out :=
  let off := (s.pilot.mpc + 8 * s.pilot.queue.length) % 262144
  .next (if s.pilot.queue.length ≥ 32 || !s.pilotRuns then s
    else if s.basinState 1 = 2 then (s.pilotHalt 4).endCycle .late
    else if s.basinState 1 = 1 || s.basinWaking 1 then s.wakeBasin 1
    else if Store.get s.memErr (0x21000000 + off) 0 = 2 then (s.pilotHalt 4).endCycle .late
    else { s with pilot := { s.pilot with queue := s.pilot.queue ++ [s.basin1Word off] } })

end Sys2Proof.Machine
end

