-- ==== Sys2Proof/Machine/PlainInstr.lean ====
section
/-! DEFINITION. The Plain macro-instructions (chapter 14): dispatch, operands, masking, the effect and cost of each. -/

namespace Sys2Proof.Machine

/-! ### Numbers of a width (R536) -/

/-- The reading of a `w`-bit operand: two's complement with SIGN, unsigned without. -/
def reading (sign : Bool) (w n : Nat) : Int := if sign then toSigned w n else n

/-- A result in `w` bits: wrapped, or clamped to the range of width and signedness with SAT (R536). -/
def narrow (sat sign : Bool) (w : Nat) (v : Int) : Nat :=
  let v := if !sat then v else if sign then satS w v else max 0 (min v (2 ^ w - 1))
  (BitVec.ofInt w v).toNat

/-- Rounding shift right to nearest, ties away from zero (SCL). -/
def roundShift (v : Int) (k : Nat) : Int :=
  let d : Int := 2 ^ k
  let r := ((Int.natAbs v : Int) * 2 + d) / (2 * d)
  if v < 0 then -r else r

/-! ### The kernel mask (R538) -/

/-- The current mask of an element: plane d − 1, or 1 at d = 0. -/
def Plain.mask (p : Plain) (d n : Nat) : Bool := d == 0 || p.bitAt n (0x1EFC + d - 1)

/-- The macro mask depth d, held in S13. -/
def Pilot.maskD (p : Pilot) : Nat := (p.s.getD 13 0).toNat

/-- MSEL M and NOT_M load the current mask into M (R538). -/
def State.loadMask (s : State) (m : MacroInstr) : State :=
  if mMsel m = 0 then s
  else { s with plain := s.plain.onElems.foldl (fun q n => q.setElem n { q.elem n with m := s.plain.mask s.pilot.maskD n }) s.plain }

/-! ### Cost (R539, Table PIS-3) -/

/-- The adders of R539. -/
def addCost (m : MacroInstr) (satOp : Bool) : Nat :=
  (if mMsel m = 0 then 0 else 1) + (if mIdx m = 0 then 0 else mW m + 2) + (if satOp && mSat m then mW m + 1 else 0)

/-- The Newton count of R526. -/
def newton (w : Nat) : Nat := if w ≤ 8 then 0 else if w ≤ 16 then 1 else if w ≤ 32 then 2 else 3

/-- The admitted cost of DIV. -/
def divCost (w : Nat) (sign : Bool) : Nat := (2 * newton w + 2) * (w * (w + 3)) + 7 * w + 33 + (if sign then 3 * w + 6 else 0)

/-- The admitted cost of SMUL. -/
def smulCost (w : Nat) : Nat := w * (w + 3) + 2 * w + 6

/-- The cycles of the multiply routine for the multipliers of the active elements (R524). -/
def mulCycles (w : Nat) (mults : List Nat) : Nat :=
  if w ≤ 4 then w * (w + 1) + 2
  else
    let g := (w + 3) / 4
    let has (j : Nat) : Bool := mults.any fun v => v / 16 ^ j % 16 != 0
    match ((List.range g).filter fun j => decide (0 < j) && has j).getLast? with
    | some j => 5 * (g - j) + 4 + min w (4 * (j + 1)) * (w + 1)
    | none => 5 * (g - 1) + 4 + min w 4 * (w + 1)

/-! ### One macro-instruction -/

/-- The instruction's Plain cycles pass; S14, the admitted cycles that remain, falls by the admitted cost (R507). -/
def State.charge (s : State) (admitted spent : Nat) : State :=
  let p := s.pilot
  { s with pilot := p.setS 14 (BitVec.ofNat 32 ((p.s.getD 14 0).toNat - admitted)) }.plainCycles spent

/-- The loop counter of the innermost loop of `n` (R550). -/
def loopCounter (n : Nat) : Nat := if n ≤ 1 then 2 else 3

/-- The end of a LOOP body: another turn from its start, or the loop is over (R550, Table PIS-3). -/
def State.loopBack (s : State) (at_ : Nat) : State :=
  match s.pilot.loops.getLast? with
  | none => s
  | some l =>
    if l.2 ≠ at_ then s
    else
      let i := loopCounter s.pilot.loops.length
      let c := s.pilot.lc.getD i 0
      if c > 1 then { s with pilot := { s.pilot with lc := s.pilot.lc.set i (c - 1), mpc := l.1, queue := [] } }.charge 11 11
      else { s with pilot := { s.pilot with lc := s.pilot.lc.set i 0, loops := s.pilot.loops.dropLast } }

/-- A macro-instruction executes: dispatch (R496), the mask (R538), its effect, its cost, the registers that its routine leaves (R537),
the ends of loops. -/
def State.plainOp (s : State) (m : MacroInstr) (admitted : Nat) (spent : State → Nat) (eff : State → State) : State :=
  if !s.pilotRuns then s
  else
    let at_ := s.pilot.mpc
    let q := match s.pilot.queue with
      | x :: r => if x = m then r else s.pilot.queue
      | [] => []
    let t := (({ s with pilot := { s.pilot with queue := q } }).dispatch m).loadMask m
    let n := spent t
    let u := eff t
    let u := { u.usedFree with plain := { u.plain with left := some u.freeCtr }, pilot := { u.pilot with trapOk := true } }
    ((u.charge admitted n).loopBack at_).loopBack at_

/-- A macro-instruction whose cost is exact. -/
def State.plainFix (s : State) (m : MacroInstr) (cost : Nat) (eff : State → State) : State := s.plainOp m cost (fun _ => cost) eff

/-- The cycles that a routine with a data-dependent cost spends: a free value, at most the admitted cost. -/
def freeSpent (cost : Nat) (s : State) : Nat := cost - s.free.toNat % (cost + 1)

/-- The elements on which an instruction acts. -/
def State.macroActive (s : State) (m : MacroInstr) : List Nat := s.plain.active (if mMsel m = 3 then 0 else mMsel m)

/-- An element-wise effect. -/
def State.plainMap (s : State) (m : MacroInstr) (f : Plain → Nat → Elem → ElemOut) : State :=
  s.elemStep ((s.macroActive m).map fun n => (n, f s.plain n (s.plain.elem n)))

/-- An operand's address: IX is added for the indexed one (R534). -/
def opAddr (m : MacroInstr) (e : Elem) (which base : Nat) : Nat := base + (if mIdx m = which then e.ix else 0)

/-- SRC1 and SRC2 of an element as numbers. -/
def src1Of (m : MacroInstr) (p : Plain) (n : Nat) (e : Elem) (w : Nat) : Nat := p.bits n (opAddr m e 1 (mSrc1 m)) w
def src2Of (m : MacroInstr) (p : Plain) (n : Nat) (e : Elem) (w : Nat) : Nat := p.bits n (opAddr m e 3 (mSrc2 m)) w

/-- A unary instruction on SRC1 of width `ws`. -/
def unary (m : MacroInstr) (ws : Nat) (f : Nat → Elem → Nat) (p : Plain) (n : Nat) (e : Elem) : ElemOut :=
  { elem := e, reads := [(opAddr m e 1 (mSrc1 m), ws)], writes := [(opAddr m e 2 (mDst m), mW m, f (src1Of m p n e ws) e)] }

/-- A binary instruction on SRC1 and SRC2. -/
def binary (m : MacroInstr) (f : Nat → Nat → Elem → Nat × Elem) (wd : Nat) (p : Plain) (n : Nat) (e : Elem) : ElemOut :=
  let w := mW m
  let r := f (src1Of m p n e w) (src2Of m p n e w) e
  { elem := r.2, reads := [(opAddr m e 1 (mSrc1 m), w), (opAddr m e 3 (mSrc2 m), w)], writes := [(opAddr m e 2 (mDst m), wd, r.1)] }

/-- F := 0 in every element of every ON field. -/
def State.clearF (s : State) : State :=
  { s with plain := s.plain.onElems.foldl (fun q n => q.setElem n { q.elem n with f := false }) s.plain }

/-! ### Moves (0x00 to 0x05) -/

/-- NOP. -/
def execPlainNop (m : MacroInstr) (s : State) : Out := .next (s.plainFix m 2 id)

/-- MOV. -/
def execPlainMov (m : MacroInstr) (s : State) : Out :=
  .next (s.plainFix m (mW m + 1 + addCost m false) fun t => t.plainMap m (unary m (mW m) fun v _ => v))

/-- MOVX. -/
def execPlainMovx (m : MacroInstr) (s : State) : Out :=
  let ws := mSrc2 m % 64 + 1
  .next (s.plainFix m (mW m + 1 + addCost m true) fun t =>
    t.plainMap m (unary m ws fun v _ => narrow (mSat m) (mSign m) (mW m) (reading (mSign m) ws v)))

/-- LDI. -/
def execPlainLdi (m : MacroInstr) (s : State) : Out :=
  .next (s.plainFix m (mW m + 1 + addCost m false) fun t => t.plainMap m fun _ _ e =>
    { elem := e, writes := [(opAddr m e 2 (mDst m), mW m, narrow false (mSign m) (mW m) (reading (mSign m) 26 (mImm26 m)))] })

/-- LDIX. -/
def execPlainLdix (m : MacroInstr) (s : State) : Out :=
  .next (s.plainFix m (mW m + 2 + addCost m false) fun t => t.plainMap m fun p n e =>
    { elem := { e with ix := p.bits n (mSrc1 m) (mW m) % 8192 }, reads := [(mSrc1 m, mW m)] })

/-- STIX. -/
def execPlainStix (m : MacroInstr) (s : State) : Out :=
  .next (s.plainFix m (mW m + 1 + addCost m false) fun t => t.plainMap m fun _ _ e =>
    { elem := e, writes := [(mDst m, mW m, e.ix)] })

/-! ### Addition (0x10 to 0x14) -/

/-- A sum or difference, wrapped or saturated. -/
def plainSum (m : MacroInstr) (f : Int → Int → Int) : Plain → Nat → Elem → ElemOut :=
  binary m (fun a b e => (narrow (mSat m) (mSign m) (mW m) (f (reading (mSign m) (mW m) a) (reading (mSign m) (mW m) b)), e)) (mW m)

/-- ADD. -/
def execPlainAdd (m : MacroInstr) (s : State) : Out :=
  .next (s.plainFix m (mW m + 2 + addCost m true) fun t => t.plainMap m (plainSum m fun a b => a + b))

/-- SUB. -/
def execPlainSub (m : MacroInstr) (s : State) : Out :=
  .next (s.plainFix m (mW m + 2 + addCost m true) fun t => t.plainMap m (plainSum m fun a b => a - b))

/-- ADDI: SRC2 taken as S13 with SIGN or U13 without. -/
def execPlainAddi (m : MacroInstr) (s : State) : Out :=
  .next (s.plainFix m (mW m + 2 + addCost m true) fun t => t.plainMap m
    (unary m (mW m) fun v _ => narrow (mSat m) (mSign m) (mW m) (reading (mSign m) (mW m) v + reading (mSign m) 13 (mSrc2 m))))

/-- NEG. -/
def execPlainNeg (m : MacroInstr) (s : State) : Out :=
  .next (s.plainFix m (mW m + 2 + addCost m true) fun t => t.plainMap m
    (unary m (mW m) fun v _ => narrow (mSat m) (mSign m) (mW m) (-(reading (mSign m) (mW m) v))))

/-- ABS. -/
def execPlainAbs (m : MacroInstr) (s : State) : Out :=
  .next (s.plainFix m (2 * mW m + 3 + addCost m true) fun t => t.plainMap m
    (unary m (mW m) fun v _ => narrow (mSat m) (mSign m) (mW m) (Int.natAbs (reading (mSign m) (mW m) v))))

/-! ### Multiplication and division (0x18 to 0x1D) -/

/-- The multipliers of the active elements. -/
def State.multipliers (s : State) (m : MacroInstr) (mag : Bool) : List Nat :=
  (s.macroActive m).map fun n =>
    let v := src2Of m s.plain n (s.plain.elem n) (mW m)
    if mag then Int.natAbs (toSigned (mW m) v) else v

/-- MUL. -/
def execPlainMul (m : MacroInstr) (s : State) : Out :=
  let w := mW m
  .next (s.plainOp m (w * (w + 3) + addCost m false) (fun t => mulCycles w (t.multipliers m false) + addCost m false) fun t =>
    (t.plainMap m (binary m (fun a b e => (narrow false true w (reading (mSign m) w a * b), e)) w)).clearF)

/-- MULW. -/
def execPlainMulw (m : MacroInstr) (s : State) : Out :=
  let w := mW m
  .next (s.plainOp m (w * (w + 3) + addCost m false) (fun t => mulCycles w (t.multipliers m false) + addCost m false) fun t =>
    (t.plainMap m (binary m (fun a b e => (narrow false true (2 * w) (reading (mSign m) w a * b), e)) (2 * w))).clearF)

/-- An element's scratch bits 0x1D80 to 0x1EFB overwritten (R537). -/
def scratch (k n : Nat) (o : ElemOut) : ElemOut := { o with writes := (0x1D80, 380, (Config.plainScratch k n).toNat) :: o.writes }

/-- SMUL. -/
def execPlainSmul (m : MacroInstr) (s : State) : Out :=
  let w := mW m
  .next (s.plainOp m (smulCost w + addCost m false) (fun t => mulCycles w (t.multipliers m true) + 2 * w + 6 + addCost m false) fun t =>
    (t.plainMap m fun p n e =>
      scratch t.freeCtr n (binary m (fun a b e => (narrow false true w (toSigned w a * toSigned w b), e)) w p n e)).clearF)

/-- The quotient and remainder of R544 and whether the divisor is 0. -/
def plainDiv (sign : Bool) (w a b : Nat) : Int × Int × Bool :=
  let x := reading sign w a
  let y := reading sign w b
  if y = 0 then ((if !sign then 2 ^ w - 1 else if x ≥ 0 then 2 ^ (w - 1) - 1 else -(2 ^ (w - 1))), x, true)
  else if sign && x = -(2 ^ (w - 1)) && y = -1 then (2 ^ (w - 1) - 1, 0, false)
  else (Int.tdiv x y, Int.tmod x y, false)


/-- ARITH when active elements divided by zero, with the vector of the fields in which that set DZ (R471, Table PLT-6). -/
def State.arith (s : State) (l : List Nat) : State := if l.isEmpty then s else s.requestTrap 4 (BitVec.ofNat 32 (fieldVec l))

/-- DIV and REM: IX changes, DZ is set at a zero divisor, F ends 0 (R537, R544). -/
def State.divide (s : State) (m : MacroInstr) (rem : Bool) : State :=
  let w := mW m
  let zero := (s.macroActive m).filter fun n => src2Of m s.plain n (s.plain.elem n) w == 0
  let t := s.plainMap m fun p n e =>
    scratch s.freeCtr n (binary m (fun a b e =>
      let r := plainDiv (mSign m) w a b
      (narrow false true w (if rem then r.2.1 else r.1), { e with dz := e.dz || r.2.2, ix := (Config.plainIx s.freeCtr n).toNat })) w p n e)
  t.clearF.arith zero

/-- DIV. -/
def execPlainDiv (m : MacroInstr) (s : State) : Out :=
  let c := divCost (mW m) (mSign m) + addCost m false
  .next (s.plainOp m c (freeSpent c) fun t => t.divide m false)

/-- REM. -/
def execPlainRem (m : MacroInstr) (s : State) : Out :=
  let c := divCost (mW m) (mSign m) + addCost m false
  .next (s.plainOp m c (freeSpent c) fun t => t.divide m true)

/-! ### Compares (0x20 to 0x25) -/

/-- A compare: the bit into DST and F. -/
def State.compare (s : State) (m : MacroInstr) (rel : Int → Int → Bool) : State :=
  s.plainFix m (mW m + 3 + addCost m false) fun t => t.plainMap m
    (binary m (fun a b e =>
      let r := rel (reading (mSign m) (mW m) a) (reading (mSign m) (mW m) b)
      (r.toNat, { e with f := r })) 1)

/-- CEQ. -/
def execPlainCeq (m : MacroInstr) (s : State) : Out := .next (s.compare m fun a b => a == b)
/-- CNE. -/
def execPlainCne (m : MacroInstr) (s : State) : Out := .next (s.compare m fun a b => a != b)
/-- CLT. -/
def execPlainClt (m : MacroInstr) (s : State) : Out := .next (s.compare m fun a b => decide (a < b))
/-- CLE. -/
def execPlainCle (m : MacroInstr) (s : State) : Out := .next (s.compare m fun a b => decide (a ≤ b))
/-- CGT. -/
def execPlainCgt (m : MacroInstr) (s : State) : Out := .next (s.compare m fun a b => decide (a > b))
/-- CGE. -/
def execPlainCge (m : MacroInstr) (s : State) : Out := .next (s.compare m fun a b => decide (a ≥ b))

/-! ### Logic and selection (0x28 to 0x32) -/

/-- A bitwise instruction. -/
def State.bitwise (s : State) (m : MacroInstr) (f : Nat → Nat → Nat) : State :=
  s.plainFix m (mW m + 1 + addCost m false) fun t => t.plainMap m (binary m (fun a b e => (f a b, e)) (mW m))

/-- AND. -/
def execPlainAnd (m : MacroInstr) (s : State) : Out := .next (s.bitwise m fun a b => a &&& b)
/-- OR. -/
def execPlainOr (m : MacroInstr) (s : State) : Out := .next (s.bitwise m fun a b => a ||| b)
/-- XOR. -/
def execPlainXor (m : MacroInstr) (s : State) : Out := .next (s.bitwise m fun a b => a ^^^ b)
/-- ANDN. -/
def execPlainAndn (m : MacroInstr) (s : State) : Out := .next (s.bitwise m fun a b => a &&& (2 ^ mW m - 1 - b))

/-- NOT. -/
def execPlainNot (m : MacroInstr) (s : State) : Out :=
  .next (s.plainFix m (mW m + 1 + addCost m false) fun t => t.plainMap m (unary m (mW m) fun v _ => 2 ^ mW m - 1 - v))

/-- SEL. -/
def execPlainSel (m : MacroInstr) (s : State) : Out :=
  .next (s.plainFix m (mW m + 2 + addCost m false) fun t => t.plainMap m (binary m (fun a b e => (if e.f then a else b, e)) (mW m)))

/-- MIN and MAX: F marks where SRC1 was chosen; ties go to SRC1. -/
def State.extreme (s : State) (m : MacroInstr) (first : Int → Int → Bool) : State :=
  s.plainFix m (2 * mW m + 4 + addCost m false) fun t => t.plainMap m
    (binary m (fun a b e =>
      let one := first (reading (mSign m) (mW m) a) (reading (mSign m) (mW m) b)
      (if one then a else b, { e with f := one })) (mW m))

/-- MIN. -/
def execPlainMin (m : MacroInstr) (s : State) : Out := .next (s.extreme m fun a b => decide (a ≤ b))
/-- MAX. -/
def execPlainMax (m : MacroInstr) (s : State) : Out := .next (s.extreme m fun a b => decide (a ≥ b))

/-! ### Shifts (0x38 to 0x3B) -/

/-- SHL. -/
def execPlainShl (m : MacroInstr) (s : State) : Out :=
  .next (s.plainFix m (mW m + 1 + addCost m true) fun t => t.plainMap m
    (unary m (mW m) fun v _ => narrow (mSat m) (mSign m) (mW m) (reading (mSign m) (mW m) v * 2 ^ (mSrc2 m % 64))))

/-- SHR. -/
def execPlainShr (m : MacroInstr) (s : State) : Out :=
  .next (s.plainFix m (mW m + 1 + addCost m false) fun t => t.plainMap m
    (unary m (mW m) fun v _ => narrow false (mSign m) (mW m) (asr (reading (mSign m) (mW m) v) (mSrc2 m % 64))))

/-- SCL. -/
def execPlainScl (m : MacroInstr) (s : State) : Out :=
  let k := toSigned 13 (mSrc2 m)
  .next (s.plainFix m (mW m + 3 + addCost m true) fun t => t.plainMap m
    (unary m (mW m) fun v _ =>
      let x := reading (mSign m) (mW m) v
      narrow (mSat m) (mSign m) (mW m) (if k ≥ 0 then x * 2 ^ k.toNat else roundShift x (-k).toNat)))

/-- SATN. -/
def execPlainSatn (m : MacroInstr) (s : State) : Out :=
  let ws := mSrc2 m % 64 + 1
  .next (s.plainFix m (ws + mW m + 4 + addCost m false) fun t => t.plainMap m
    (unary m ws fun v _ => narrow true (mSign m) (mW m) (reading (mSign m) ws v)))

/-! ### Neighbour shifts (R548) -/

/-- One hop of a `w`-bit value through the NB latches: an active element takes its neighbour's, any other keeps its own. -/
def Plain.hop (p : Plain) (dir mode : Nat) (act : List Nat) (vals : Store Nat) : Store Nat :=
  Store.mapKV vals fun n v =>
    if act.contains n then
      match neighbour dir mode (p.mirrorPairs % 256 != 0) n with
      | some src => if p.on (fieldOf src) then Store.get vals src 0 else 0
      | none => 0
    else v

/-- `k` hops. -/
def Plain.hops (p : Plain) (dir mode : Nat) (act : List Nat) : Nat → Store Nat → Store Nat
  | 0, v => v
  | k + 1, v => p.hops dir mode act k (p.hop dir mode act v)

/-- NSH in a direction: 0 N, 1 E, 2 S, 3 W. -/
def State.shiftLink (s : State) (m : MacroInstr) (dir : Nat) : State :=
  let w := mW m
  let k := mSrc2 m
  s.plainFix m (w * (k + 1) + 2 + addCost m false) fun t =>
    let act := t.macroActive m
    let p := t.plain
    let first := p.onElems.foldl (fun v n => Store.insert v n
      (if act.contains n then src1Of m p n (p.elem n) w else if (p.elem n).nb then 2 ^ w - 1 else 0)) ([] : Store Nat)
    let vals := p.hops dir (mEdge m) act k first
    t.plainMap m fun _ n e =>
      { elem := e, reads := [(opAddr m e 1 (mSrc1 m), w)], writes := [(opAddr m e 2 (mDst m), w, Store.get vals n 0)] }

/-- NSHN. -/
def execPlainNshn (m : MacroInstr) (s : State) : Out := .next (s.shiftLink m 0)
/-- NSHE. -/
def execPlainNshe (m : MacroInstr) (s : State) : Out := .next (s.shiftLink m 1)
/-- NSHS. -/
def execPlainNshs (m : MacroInstr) (s : State) : Out := .next (s.shiftLink m 2)
/-- NSHW. -/
def execPlainNshw (m : MacroInstr) (s : State) : Out := .next (s.shiftLink m 3)

/-! ### Prefix sums and segment extremes (R546) -/

/-- An element's index in its chain or ring and the element at an index of the same chain or ring. -/
def chainPos (ring : Bool) (n : Nat) : Nat × (Nat → Nat) :=
  if ring then (ringOf n, elemOfRing (fieldOf n)) else (chainOf n, elemOfChain)

/-- The accumulation over indices `lo ..` of `cnt` elements: a field that is not ON relays 0, an element that fails MSEL adds nothing. -/
def State.accumulate (s : State) (m : MacroInstr) (op : Int → Int → Int) (at_ : Nat → Nat) (act : List Nat) (lo cnt : Nat) : Option Int :=
  (List.range cnt).foldl (fun acc i =>
    let n := at_ (lo + i)
    if !s.plain.on (fieldOf n) then some 0
    else if act.contains n then
      let v := reading (mSign m) (mW m) (src1Of m s.plain n (s.plain.elem n) (mW m))
      some (match acc with
        | none => v
        | some a => op a v)
    else acc) none

/-- PSUM, PSUMX, RMAX and RMIN: each active element receives the accumulation of its segment up to itself. -/
def State.scanOp (s : State) (m : MacroInstr) (cost : Nat) (op : Int → Int → Int) (inclusive : Bool) : State :=
  s.plainFix m (cost + addCost m false) fun t =>
    let act := t.macroActive m
    let size := 2 ^ min (mSrc2 m) 14
    t.plainMap m fun _ n e =>
      let (i, at_) := chainPos (mEdge m == 3) n
      let lo := i / size * size
      let r := (t.accumulate m op at_ act lo (i - lo + inclusive.toNat)).getD 0
      { elem := e, reads := [(opAddr m e 1 (mSrc1 m), mW m)], writes := [(opAddr m e 2 (mDst m), mW m, narrow false true (mW m) r)] }

/-- The cost of a scan with `a` per bit and step and `b` per step. -/
def scanCost (m : MacroInstr) (a b : Nat) : Nat := mW m * (2 ^ mSrc2 m - 1) + mSrc2 m * (a * mW m + b) + 2

/-- PSUM. -/
def execPlainPsum (m : MacroInstr) (s : State) : Out := .next (s.scanOp m (scanCost m 3 2) (fun a b => a + b) true)
/-- PSUMX. -/
def execPlainPsumx (m : MacroInstr) (s : State) : Out := .next (s.scanOp m (scanCost m 3 2) (fun a b => a + b) false)
/-- RMAX. -/
def execPlainRmax (m : MacroInstr) (s : State) : Out := .next (s.scanOp m (scanCost m 4 4) max true)
/-- RMIN. -/
def execPlainRmin (m : MacroInstr) (s : State) : Out := .next (s.scanOp m (scanCost m 4 4) min true)

/-! ### Global extremes (R547) -/

/-- GMAX and GMIN: DST in every active element holds the extreme, and F is 1 exactly in the active elements that hold it. -/
def State.globalExtreme (s : State) (m : MacroInstr) (pick : Int → Int → Int) : State :=
  s.plainFix m (7 * mW m + 6 + addCost m false) fun t =>
    let val (n : Nat) : Int := reading (mSign m) (mW m) (src1Of m t.plain n (t.plain.elem n) (mW m))
    match (t.macroActive m).map val with
    | [] => t.clearF
    | v :: r =>
      let x := r.foldl pick v
      t.clearF.plainMap m fun _ n e =>
        { elem := { e with f := val n == x }, reads := [(opAddr m e 1 (mSrc1 m), mW m)],
          writes := [(opAddr m e 2 (mDst m), mW m, narrow false true (mW m) x)] }

/-- GMAX. -/
def execPlainGmax (m : MacroInstr) (s : State) : Out := .next (s.globalExtreme m max)
/-- GMIN. -/
def execPlainGmin (m : MacroInstr) (s : State) : Out := .next (s.globalExtreme m min)

/-! ### Masks (R538) -/

/-- Mask plane `d` written in every element of every ON field. -/
def State.putMask (s : State) (d : Nat) (f : Nat → Bool) : State :=
  s.elemStep (s.plain.onElems.map fun n => (n, { elem := s.plain.elem n, writes := [(0x1EFC + d, 1, (f n).toNat)] }))

/-- S13 := d. -/
def State.setMaskD (s : State) (d : Nat) : State := { s with pilot := s.pilot.setS 13 (BitVec.ofNat 32 d) }

/-- An instruction that halts the Pilot by R509 where `bad` holds, with a bit of PILOT_FAULT. -/
def State.plainGuarded (s : State) (m : MacroInstr) (cost : Nat) (bad : Bool) (bit : Nat) (eff : State → State) : State :=
  if s.pilotRuns && bad then (s.dispatch m).pilotOverflow bit else s.plainFix m cost eff

/-- A push; at depth 4 the Pilot halts with MASK_STACK. -/
def State.maskPush (s : State) (cond : State → Nat → Bool) : State :=
  let d := s.pilot.maskD
  (s.putMask d fun n => s.plain.mask d n && cond s n).setMaskD (d + 1)

/-- MPUSH. -/
def execPlainMpush (m : MacroInstr) (s : State) : Out :=
  .next (s.plainGuarded m 4 (decide (s.pilot.maskD ≥ 4)) 2 fun t => t.maskPush fun u n => src1Of m u.plain n (u.plain.elem n) 1 == 1)

/-- MPUSHF. -/
def execPlainMpushf (m : MacroInstr) (s : State) : Out := .next (s.plainGuarded m 3 (decide (s.pilot.maskD ≥ 4)) 2 fun t => t.maskPush fun u n => (u.plain.elem n).f)

/-- MPOP. -/
def execPlainMpop (m : MacroInstr) (s : State) : Out :=
  .next (s.plainGuarded m 2 (decide (s.pilot.maskD = 0)) 2 fun t => t.setMaskD (t.pilot.maskD - 1))

/-- MELSE. -/
def execPlainMelse (m : MacroInstr) (s : State) : Out :=
  .next (s.plainGuarded m 4 (decide (s.pilot.maskD = 0)) 2 fun t =>
    let d := t.pilot.maskD
    t.putMask (d - 1) fun n => t.plain.mask (d - 1) n && !t.plain.mask d n)

/-! ### Tables (R545) -/

/-- TSRCH: IX := w × ival(DST, H at SRC2, m). -/
def execPlainTsrch (m : MacroInstr) (s : State) : Out :=
  let w := mW m
  let k := mSrc1 m % 512
  .next (s.plainFix m (24 * w + 272 + addCost m false) fun t =>
    (t.plainMap m fun p n e =>
      let tab := (List.range k).map fun i => reading (mSign m) w (p.bits n (mSrc2 m + i * w) w)
      { elem := { e with ix := w * ival (reading (mSign m) w (p.bits n (mDst m) w)) tab % 8192 },
        reads := [(mDst m, w), (mSrc2 m, k * w)] }).clearF)

/-- TLERP: look() over the interval in IX, with a 2w-bit product and a signed 2w-bit division; a zero interval follows R544. -/
def execPlainTlerp (m : MacroInstr) (s : State) : Out :=
  let w := mW m
  let c := 16 * w + 28 + smulCost (2 * w) + divCost (2 * w) true + addCost m false
  .next (s.plainOp m c (freeSpent c) fun t =>
    let rd (p : Plain) (n a : Nat) : Int := reading (mSign m) w (p.bits n a w)
    let zero := (t.macroActive m).filter fun n =>
      let i := (t.plain.elem n).ix
      rd t.plain n (mSrc2 m + i) == rd t.plain n (mSrc2 m + i + w)
    let u := t.plainMap m fun p n e =>
      let v0 := rd p n (mSrc1 m + e.ix)
      let v1 := rd p n (mSrc1 m + e.ix + w)
      let h0 := rd p n (mSrc2 m + e.ix)
      let h1 := rd p n (mSrc2 m + e.ix + w)
      let h := min (max (rd p n (mDst m)) h0) h1
      let num := wrapS (2 * w) ((v1 - v0) * (h - h0))
      let r := plainDiv true (2 * w) (narrow false true (2 * w) num) (narrow false true (2 * w) (h1 - h0))
      scratch t.freeCtr n
        { elem := { e with dz := e.dz || r.2.2 },
          reads := [(mSrc1 m + e.ix, 2 * w), (mSrc2 m + e.ix, 2 * w), (mDst m, w)],
          writes := [(mDst m, w, narrow false true w (v0 + r.1))] }
    u.clearF.arith zero)

/-! ### Control flow (R549 to R551) -/

/-- A jump by an offset in instructions from the instruction after the branch; the queue is flushed. -/
def State.jumpBy (s : State) (off : Int) : State :=
  { s with pilot := { s.pilot with mpc := (((s.pilot.mpc : Int) + 8 * off) % 262144).toNat, queue := [] } }

/-- A conditional branch: 6 cycles, or 16 when taken. -/
def State.branch (s : State) (m : MacroInstr) (c : State → Bool) : State :=
  s.plainOp m 16 (fun t => if c t then 16 else 6) fun t => if c t then t.jumpBy (toSigned 13 (mDst m)) else t

/-- BR. -/
def execPlainBr (m : MacroInstr) (s : State) : Out := .next (s.plainFix m 12 fun t => t.jumpBy (toSigned 13 (mDst m)))
/-- BRGOR. -/
def execPlainBrgor (m : MacroInstr) (s : State) : Out := .next (s.branch m fun t => t.forVec != 0)
/-- BRNGOR. -/
def execPlainBrngor (m : MacroInstr) (s : State) : Out := .next (s.branch m fun t => t.forVec == 0)
/-- BRFOR. -/
def execPlainBrfor (m : MacroInstr) (s : State) : Out := .next (s.branch m fun t => t.forVec.testBit (mSrc1 m % 16))

/-- LOOP: the next DST instructions are repeated c times, counted in LC2 and, nested, in LC3. -/
def execPlainLoop (m : MacroInstr) (s : State) : Out :=
  .next (s.plainFix m 3 fun t =>
    let p := t.pilot
    let loops := p.loops ++ [(p.mpc, p.mpc + 8 * (mDst m - 1))]
    { t with pilot := { p with loops := loops, lc := p.lc.set (loopCounter loops.length) (mImm26 m % 65536) } })

/-- CALL: the return address goes to S8 to S11; a fifth nested call halts the Pilot with CALL_STACK. -/
def execPlainCall (m : MacroInstr) (s : State) : Out :=
  .next (s.plainGuarded m 12 (decide (s.pilot.macroCalls ≥ 4)) 1 fun t =>
    let p := t.pilot
    { t with pilot := { p.setS (8 + p.macroCalls) (BitVec.ofNat 32 p.mpc) with macroCalls := p.macroCalls + 1 } }.jumpBy (toSigned 13 (mDst m)))

/-- RET. -/
def execPlainRet (m : MacroInstr) (s : State) : Out :=
  .next (s.plainGuarded m 12 (decide (s.pilot.macroCalls = 0)) 1 fun t =>
    let p := t.pilot
    { t with pilot := { p with macroCalls := p.macroCalls - 1, mpc := (p.s.getD (7 + p.macroCalls) 0).toNat, queue := [] } })

/-- WAITM: waits for the next WATCH_MARK. -/
def execPlainWaitm (m : MacroInstr) (s : State) : Out :=
  .next (s.plainFix m 2 fun t => { t with pilot := { t.pilot with waitMark := true } })

/-- END: the Pilot returns to its scheduler. -/
def execPlainEnd (m : MacroInstr) (s : State) : Out :=
  .next (s.plainFix m 2 fun t => { t with pilot := { t.pilot with st := .idle, under := .idle, loops := [], macroCalls := 0, queue := [] } })

/-- FCLR. -/
def execPlainFclr (m : MacroInstr) (s : State) : Out := .next (s.plainFix m 2 State.clearF)

/-- DZCLR. -/
def execPlainDzclr (m : MacroInstr) (s : State) : Out :=
  .next (s.plainFix m (2 + addCost m false) fun t => t.plainMap m fun _ _ e => { elem := { e with dz := false } })

/-- PLAIN_ILLEGAL (R533): the foreground is abandoned with outcome LATE, and the entry carries the MPC. -/
def execPlainIllegal (_m : MacroInstr) (s : State) : Out :=
  .next (if !s.pilotRuns then s else (s.abandon .late).faultF 0x025 2 0x02 (BitVec.ofNat 32 s.pilot.mpc))

end Sys2Proof.Machine
end

