-- ==== Sys2Proof/Machine/Custom.lean ====
section
/-! DEFINITION. CUSTOM kernels on the Plain: the berth interface, the entry, the run of a kernel image and what it leaves (R353, R552, R553,
R557, R559, R560, Tables PIS-4 and PIS-6). -/

namespace Sys2Proof.Machine

/-- One macro-instruction by its opcode (Table PIS-3); any other enters the ROM fault routine (R533). -/
def runMacroOut (m : MacroInstr) (s : State) : Out :=
  match mOp m with
  | 0x00 => execPlainNop m s
  | 0x01 => execPlainMov m s
  | 0x02 => execPlainMovx m s
  | 0x03 => execPlainLdi m s
  | 0x04 => execPlainLdix m s
  | 0x05 => execPlainStix m s
  | 0x10 => execPlainAdd m s
  | 0x11 => execPlainSub m s
  | 0x12 => execPlainAddi m s
  | 0x13 => execPlainNeg m s
  | 0x14 => execPlainAbs m s
  | 0x18 => execPlainMul m s
  | 0x19 => execPlainMulw m s
  | 0x1A => execPlainSmul m s
  | 0x1C => execPlainDiv m s
  | 0x1D => execPlainRem m s
  | 0x20 => execPlainCeq m s
  | 0x21 => execPlainCne m s
  | 0x22 => execPlainClt m s
  | 0x23 => execPlainCle m s
  | 0x24 => execPlainCgt m s
  | 0x25 => execPlainCge m s
  | 0x28 => execPlainAnd m s
  | 0x29 => execPlainOr m s
  | 0x2A => execPlainXor m s
  | 0x2B => execPlainAndn m s
  | 0x2C => execPlainNot m s
  | 0x30 => execPlainSel m s
  | 0x31 => execPlainMin m s
  | 0x32 => execPlainMax m s
  | 0x38 => execPlainShl m s
  | 0x39 => execPlainShr m s
  | 0x3A => execPlainScl m s
  | 0x3B => execPlainSatn m s
  | 0x40 => execPlainNshn m s
  | 0x41 => execPlainNshe m s
  | 0x42 => execPlainNshs m s
  | 0x43 => execPlainNshw m s
  | 0x48 => execPlainPsum m s
  | 0x49 => execPlainPsumx m s
  | 0x4A => execPlainRmax m s
  | 0x4B => execPlainRmin m s
  | 0x4C => execPlainGmax m s
  | 0x4D => execPlainGmin m s
  | 0x50 => execPlainMpush m s
  | 0x51 => execPlainMpushf m s
  | 0x52 => execPlainMpop m s
  | 0x53 => execPlainMelse m s
  | 0x58 => execPlainTsrch m s
  | 0x59 => execPlainTlerp m s
  | 0x60 => execPlainBr m s
  | 0x61 => execPlainBrgor m s
  | 0x62 => execPlainBrngor m s
  | 0x63 => execPlainBrfor m s
  | 0x64 => execPlainLoop m s
  | 0x65 => execPlainCall m s
  | 0x66 => execPlainRet m s
  | 0x67 => execPlainWaitm m s
  | 0x68 => execPlainEnd m s
  | 0x69 => execPlainFclr m s
  | 0x6A => execPlainDzclr m s
  | _ => execPlainIllegal m s

/-- The state after one macro-instruction. -/
def runMacro (m : MacroInstr) (s : State) : State :=
  match runMacroOut m s with
  | .next t => t
  | _ => s

/-- The code of a kernel image (Table PIS-6). -/
def kernelCode (img : Bytes) : List MacroInstr := (List.range (u32 img 8)).map fun i => BitVec.ofNat 64 (u64 img (32 + 4 * u8 img 7 + 8 * i))

/-- A kernel runs from the instruction that MPC names until END, with `n` instructions at most: no instruction costs less than 2 Plain cycles, so
WORST_COST bounds them (R540). -/
def State.runCode (code : List MacroInstr) : Nat → State → State
  | 0, s => s
  | n + 1, s =>
    if !s.pilotRuns then s
    else match code[s.pilot.mpc / 8]? with
      | none => s
      | some m => (runMacro m s).runCode code n

/-- The elements in which a channel's kernel is active: its berth, and the copy of it while the field is mirrored (R327, R552). -/
def State.kernelElems (s : State) (slot : Nat) : List Nat :=
  berthElems slot ++ (if slot < 512 && s.pairs.testBit (slot / 64) then berthElems (slot + 512) else [])

/-- An operand written in one element. -/
def State.putOperand (s : State) (n a w v : Nat) : State := { s with plain := s.plain.putBits n a w v }

/-- The user bytes: byte u in element u mod 16, at 0x1000 + 8 × (u / 16) (Table PIS-4). -/
def State.putUser (s : State) (l : List Nat) (user : Bytes) : State :=
  user.zipIdx.foldl (fun (t : State) b => t.putOperand (l.getD (b.2 % 16) 0) (0x1000 + 8 * (b.2 / 16)) 8 b.1.toNat) s

/-- Bit `i` of packed bytes. -/
def packedBit (b : Bytes) (i : Nat) : Bool := (b.getD (i / 8) 0).getLsbD (i % 8)

/-- The image's tables: 16 records of TABLE_BITS bits, at TABLE_BASE of each element (Table PIS-6). -/
def State.putTables (s : State) (l : List Nat) (img : Bytes) : State :=
  let bits := u16 img 18
  let tab := img.drop (32 + 4 * u8 img 7 + 8 * u32 img 8)
  l.zipIdx.foldl (fun (t : State) n => (List.range bits).foldl (fun (t : State) i =>
    t.putOperand n.1 (u16 img 16 + i) 1 (packedBit tab (n.2 % 16 * bits + i)).toNat) t) s

/-- The input rows that the Quay fills at LOAD (Table PIS-4): samples and qualities of the IN roles, setpoint, period. -/
def State.putInputs (s : State) (e : Env) (c : Channel) (sp : Int) (l : List Nat) : State :=
  let hasSp := u8 c.params 68 % 2 == 1
  l.zipIdx.foldl (fun (t : State) n =>
    let role := n.2 % 16 + 1
    let t := if (e.s.rolesOf .custom c.params).any fun r => r.role == role && r.isIn then
        let v := (e.raw c role).getD (0, 0)
        (t.putOperand n.1 0x1F00 16 (BitVec.ofInt 16 v.2).toNat).putOperand n.1 0x1F10 8 v.1.toNat
      else t
    let t := if hasSp then t.putOperand n.1 0x1F20 32 (BitVec.ofInt 32 sp).toNat else t
    t.putOperand n.1 0x1F40 32 e.periodUs) s

/-- The entry of a CUSTOM kernel (R552, R559): F, NB and DZ clear in every element of every ON field, mask plane 0 set in the berth alone,
d = 1, and the kernel starts at its first instruction. -/
def State.kernelEntry (s : State) (l : List Nat) : State :=
  let p := s.plain.settle
  let s := { s with plain := p.onElems.foldl (fun q n => q.setElem n { q.elem n with f := false, nb := false, dz := false }) p }
  let t := s.putMask 0 fun n => l.contains n
  { t with pilot := { t.pilot.setS 13 1 with st := .foreground, mpc := 0, queue := [], loops := [], macroCalls := 0, waitMark := false } }

/-- What the Quay reads from the berth at UNLOAD (Table PIS-4). -/
def State.kernelResult (s : State) (e : Env) (c : Channel) (tables : Word) (slot : Nat) : KernelRun :=
  let l := berthElems slot
  let at_ (n a w : Nat) : Nat := s.plain.bits (l.getD n 0) a w
  { value := toSigned 32 (at_ 0 0x1FA0 32), quality := BitVec.ofNat 8 (at_ 0 0x1FC0 8) &&& 0x3F, u := toSigned 32 (at_ 1 0x1FA0 32),
    y := toSigned 32 (at_ 2 0x1FA0 32), div0 := (s.kernelElems slot).any fun n => (s.plain.elem n).dz, tables := tables,
    outs := ((e.s.rolesOf .custom c.params).filter fun r => !r.isIn).map fun r =>
      (r.role, BitVec.ofNat 8 (at_ (r.role - 1) 0x1F90 8) &&& 0x3F, toSigned 16 (at_ (r.role - 1) 0x1F80 16)) }

/-- One CUSTOM channel's kernel in a cycle (R353, R560). The Pilot's own registers are those of the Harbour program afterwards, and what the
kernel changed on the Plain stays. DEDUCED (log entry 8). -/
def State.runKernel (s : State) (e : Env) (slot : Nat) (c : Channel) (g : Program) : State × KernelRun :=
  let l := s.kernelElems slot
  let sp := (stepSetpoint c.params c.half e.markUs (modeOf c (e.lostAction c) matches .hold | .resume)).1
  let t := if c.half.tables = some g.crc then s else s.putTables l g.image
  let t := (t.putUser l (c.params.drop 72)).putInputs e c sp l
  let t := (t.kernelEntry l).runCode (kernelCode g.image) g.worstCost
  let r := t.kernelResult e c g.crc slot
  ({ t with pilot := { s.pilot with info := t.pilot.info }, wc := s.wc }, r)

/-- The kernels of the CUSTOM channels that run in a cycle, by slot, one after another. -/
def State.runKernels (s : State) (e : Env) (tab : Store Channel) : State × Store KernelRun :=
  tab.foldl (fun (r : State × Store KernelRun) x =>
    match x.2.typ, Store.find? e.s.programs (u16 x.2.params 64) with
    | .custom, some g => let y := r.1.runKernel e x.1 x.2 g; (y.1, Store.insert r.2 x.1 y.2)
    | _, _ => r) (s, [])

end Sys2Proof.Machine
end

