-- ==== Sys2Proof/Machine/CmdSlip.lean ====
section
/-! DEFINITION. Slipway commands (Table OPC-10, R299 to R301) and the checks of a configuration image (Tables SLP-4 and SLP-5). -/

namespace Sys2Proof.Machine

/-! ### The image (R809, R810) -/

/-- Whether every byte of a range is zero. -/
def zeroRange (b : Bytes) (i n : Nat) : Bool := (slice b i n).all fun x => x == 0

/-- VST_QC of a header. -/
def imgQcs (h : Bytes) : List (Nat × Nat) := (List.range 4).map fun v => (u8 h (24 + 2 * v), u8 h (25 + 2 * v))

/-- Whether VST_QC values are in range and all distinct, with 0xFF 0xFF where VSTATIONS has a clear bit. -/
def qcsOk (h : Bytes) : Bool :=
  let l := imgQcs h
  let used := (l.flatMap fun q => [q.1, q.2]).filter fun n => n != 255
  ((List.range 4).all fun v =>
    let q := l.getD v (255, 255)
    if (u8 h 23).testBit v then decide (q.1 < 24) && (decide (q.2 < 24) || q.2 == 255) else q.1 == 255 && q.2 == 255) &&
  decide (used.eraseDups.length = used.length)

/-- The BEGIN checks of Table SLP-5: the status of the first failure and the payload offset of a value out of range. -/
def State.slipHeaderFault (s : State) (h : Bytes) : Option (Nat × Nat) :=
  if h.length < 256 then some (St.slipTruncated, 0)
  else if u32 h 0 ≠ 0x5359444E ∨ u16 h 6 ≠ 0x4E44 ∨ u16 h 8 ≠ 0xB160 then some (St.slipWrongDevice, 0)
  else if (crc32 (h.take 252)).toNat ≠ u32 h 252 ∨ u16 h 4 ≠ 1 ∨ u16 h 10 / 2 ≠ 0 ∨ u8 h 23 / 16 ≠ 0 ∨ !zeroRange h 36 28 ∨
      !zeroRange h 224 28 then some (St.slipTruncated, 0)
  else if u16 h 20 < 1 ∨ 63 < u16 h 20 ∨ u32 h 16 ≠ 256 + 4096 * u16 h 20 then some (St.tableRange, 28)
  else if u8 h 22 > 3 ∨ u32 h 12 = 0 then some (St.tableRange, 24)
  else if !qcsOk h then some (St.tableRange, 36)
  else if s.otp.slipSign && u16 h 10 % 2 == 0 then some (St.imageSignature, 0)
  else none

/-- Whether block `i` of an image carries its CRC (R809). -/
def blockOk (img : Bytes) (i : Nat) : Bool :=
  let b := slice img (256 + 4096 * i) 4096
  (crc32 (b.take 4092)).toNat == u32 b 4092

/-- The first faulty block among blocks `a` to `b − 1`. -/
def badBlock (img : Bytes) (a b : Nat) : Option Nat := ((List.range b).filter fun i => decide (a ≤ i)).find? fun i => !blockOk img i

/-- Blocks that are whole in the first `n` bytes of an image. -/
def blocksIn (n : Nat) : Nat := (n - 256) / 4096

/-- The public key's hash under a header: programmed, not revoked, equal to the key's SHA-256 (R810, R143). -/
def State.keyAccepted (s : State) (h : Bytes) (index : Nat) : Bool :=
  s.rbit Reg.otpStatus 0 && s.otp.programmed.testBit index && !s.otp.revoked.testBit index &&
    decide (Store.find? s.otp.keyHash index = some (sha256 (slice h 160 64)))

/-- The signature of a header over its bytes 0 to 95 (R142, R809). -/
def signatureOk (h : Bytes) : Bool := ecdsaVerify (slice h 160 64) (slice h 96 64) (h.take 96)

/-- The APPLY checks of Table SLP-5. -/
def State.slipApplyFault (s : State) (img : Bytes) : Option Nat :=
  if img.length ≠ u32 img 16 ∨ (crc32 (img.drop 256)).toNat ≠ u32 img 32 then some St.slipTruncated
  else if s.otp.slipSign && !(s.keyAccepted img (u8 img 22) && sha256 (img.drop 256) == slice img 64 32 && signatureOk img) then
    some St.imageSignature
  else none

/-- The design that a verified image describes. -/
def designOf (img : Bytes) : Design :=
  { id := u32 img 12, crc := u32 img 32, vst := u8 img 23, qcs := imgQcs img, image := img }

/-! ### SLIP_LOAD (R300, R301, R811) -/

/-- A failure of the staging: LAST_STATUS and the offset of the first byte not verified; `close` ends the staging. -/
def State.slipFail (s : State) (status verified : Nat) (close : Bool) : State :=
  { s with slip := { s.slip with lastStatus := status, verified := verified, staging := if close then none else s.slip.staging } }

/-- The reply of a refused SLIP_LOAD. -/
def slipRefuse (s : State) (status off : Nat) : Rep :=
  if status = St.tableRange then refuseAt s status off else refuse s status

/-- Staged bytes placed in the region of R567. -/
def State.slipPlace (s : State) (off : Nat) (data : Bytes) : State := { s with mem := Memory.writeBytes s.mem (0x22100000 + off) data }

/-- The field checks that all operations of SLIP_LOAD share: only BEGIN and DATA carry data. -/
def slipFields (s : State) (p : Bytes) (begin : Bool) : Option Rep :=
  if p.length < 12 ∨ ((u8 p 0 = 2 ∨ u8 p 0 = 3) ∧ p.length ≠ 12) then some (refuseLen s)
  else if u8 p 0 > 3 then some (refuseAt s St.tableRange 0)
  else if u8 p 1 > 1 then some (refuseAt s St.reservedBits 1)
  else match firstNonZero p 2 2 with
  | some o => some (refuseAt s St.reservedBits o)
  | none => if !begin && u32 p 8 ≠ 0 then some (refuseAt s St.tableRange 8) else none

/-- Staged data accepted: STAGED grows and each block that completes is checked. -/
def State.slipTake (s : State) (owner total : Nat) (before data : Bytes) : Rep :=
  let img := before ++ data
  match badBlock img (blocksIn before.length) (blocksIn img.length) with
  | some i => refuse (s.slipFail St.slipTruncated (256 + 4096 * i) true) St.slipTruncated
  | none =>
    let g : Staging := { owner := owner, total := total, persist := false, data := img }
    { state := { s.slipPlace before.length data with slip := { s.slip with staging := some g } },
      payload := leBytes 4 img.length ++ leBytes 4 0 }

/-- Whether the staging is another session's. -/
def State.slipOthers (s : State) (session : Nat) : Bool :=
  match s.slip.staging with
  | some g => g.owner != session
  | none => false

/-- SLIP_LOAD BEGIN: a value out of range comes before WRONG_STATE, and that before a fault of the image (R264). -/
def slipBegin (s : State) (q : Packet) : Rep :=
  let p := q.payload
  let d := p.drop 12
  let other := s.slipOthers q.session
  if u32 p 4 ≠ 0 then refuseAt s St.tableRange 4
  else match s.slipHeaderFault d with
  | some (st, off) =>
    if other then (if st = St.tableRange then refuseAt s st off else refuse s St.wrongState)
    else slipRefuse (s.slipFail st 0 false) st off
  | none =>
    if u32 p 8 ≠ u32 d 16 ∨ d.length > u32 d 16 then
      refuseAt (if other then s else s.slipFail St.tableRange 0 false) St.tableRange 8
    else if other then refuse s St.wrongState
    else
      let t := { s with slip := { s.slip with lastStatus := 0, verified := 0 } }
      t.slipTake q.session (u32 d 16) [] d

/-- SLIP_LOAD DATA. -/
def slipData (s : State) (q : Packet) : Rep :=
  let p := q.payload
  let d := p.drop 12
  match s.slip.staging with
    | none => refuse s St.wrongState
    | some g =>
      if g.owner ≠ q.session then refuse s St.wrongState
      else if u32 p 4 ≠ g.data.length then refuseAt s St.tableRange 4
      else if g.data.length + d.length > g.total then
        refuseAt (s.slipFail St.tableRange (256 + 4096 * blocksIn g.data.length) true) St.tableRange 4
      else s.slipTake g.owner g.total g.data d

/-- SLIP_LOAD APPLY: always ACCEPTED when it passes (R301). -/
def slipApply (s : State) (q : Packet) : Rep :=
  let p := q.payload
  match s.slip.staging with
    | none => refuse s St.wrongState
    | some g =>
      if g.owner ≠ q.session ∨ s.slip.waiting.isSome ∨ s.slip.applying.isSome then refuse s St.wrongState
      else
        let v := 256 + 4096 * blocksIn g.data.length
        match (if g.data.length ≠ g.total then some St.slipTruncated else s.slipApplyFault g.data) with
        | some st => refuse (s.slipFail st v true) st
        | none =>
          let w : SlipApply := { image := g.data, persist := u8 p 1 % 2 == 1, notify := s.notifyOf q true }
          let t := { s with slip := { s.slip with staging := none, waiting := some w, applyArmed := false } }
          let (t, eff, _) := t.change .atCommit .slipApply none
          { state := t, status := St.accepted, payload := leBytes 4 g.data.length ++ leBytes 4 eff.toNat }

/-- SLIP_LOAD ABORT. -/
def slipAbort (s : State) (q : Packet) : Rep :=
  match s.slip.staging with
  | none => refuse s St.wrongState
  | some g =>
    if g.owner ≠ q.session then refuse s St.wrongState
    else { state := { s with slip := { s.slip with staging := none } }, payload := leBytes 4 g.data.length ++ leBytes 4 0 }

/-- SLIP_LOAD of any OP (Table OPC-10). -/
def bodySlipLoad : Body := fun _ q s =>
  match slipFields s q.payload (u8 q.payload 0 == 0) with
  | some r => r
  | none =>
    match u8 q.payload 0 with
    | 0 => slipBegin s q
    | 1 => slipData s q
    | 2 => slipApply s q
    | _ => slipAbort s q

/-! ### SLIP_STATUS, SLIP_CAPTURE, SLIP_READBACK -/

/-- STATE of SLIP_STATUS: a fabric that is being written, an open staging, else what runs. -/
def State.slipState (s : State) : Nat :=
  if s.fld Reg.slipctlStatus 1 0 = 3 then 3 else if s.slip.staging.isSome then 2 else s.fld Reg.slipctlStatus 1 0

/-- STAGED of SLIP_STATUS (R811). -/
def State.slipStaged (s : State) : Nat :=
  match s.slip.staging with
  | some g => g.data.length
  | none => s.slip.verified

/-- SLIP_STATUS. -/
def bodySlipStatus : Body := fun _ q s =>
  if q.payload ≠ [] then refuseLen s else
  let d := s.slip.design
  { state := s,
    payload := leBytes 1 s.slipState ++ leBytes 1 ((d.map fun x => x.vst).getD 0) ++ leBytes 2 s.slip.lastStatus ++
      leBytes 4 ((d.map fun x => x.id).getD 0) ++ leBytes 4 ((d.map fun x => x.crc).getD 0) ++ leBytes 4 s.slipStaged ++
      leBytes 4 (s.fld Reg.slipctlCounts 15 0) ++ leBytes 4 (s.fld Reg.slipctlCounts 31 16) }

/-- Whether a design runs and SLIPn is not lost (R815). -/
def State.canCapture (s : State) (n : Nat) : Bool :=
  s.fld Reg.slipctlStatus 1 0 == 1 && !s.lostClocks.testBit (8 + n)

/-- A capture: the identifier advances by 1 modulo 256, and the shadow takes the design's state, which the spec leaves to the
design (R815). -/
def State.takeCapture (s : State) : State :=
  let t := s.setFld Reg.slipctlCapture 15 8 ((s.fld Reg.slipctlCapture 15 8 + 1) % 256)
  { t with slip := { t.slip with shadow := some (s.freeCtr, s.nowUs), captureArmed := none } }.usedFree

/-- SLIP_CAPTURE. -/
def bodySlipCapture : Body := fun _ q s =>
  let p := q.payload
  if p.length ≠ 4 then refuseLen s
  else if u8 p 0 > 3 then refuseAt s St.tableRange 0
  else match firstNonZero p 1 3 with
  | some o => refuseAt s St.reservedBits o
  | none =>
    if !s.canCapture (u8 p 0) then refuse s St.wrongState
    else
      let t := (s.setFld Reg.slipctlCapture 1 0 (u8 p 0)).takeCapture
      { state := t, payload := leBytes 4 (t.fld Reg.slipctlCapture 15 8) ++ leBytes 8 s.nowUs }

/-- The shadow's length in bytes (R816). -/
def shadowBytes : Nat := 56064

/-- Byte `i` of the shadow. -/
def shadowByte (key i : Nat) : Byte := (Config.designShadow key (i / 4) >>> (8 * (i % 4))).setWidth 8

/-- SLIP_READBACK, paged. -/
def bodySlipReadback : Body := fun ep q s =>
  let p := q.payload
  if p.length ≠ 8 then refuseLen s
  else if u32 p 0 % 4 ≠ 0 ∨ u32 p 0 ≥ shadowBytes then refuseAt s St.tableRange 0
  else if u16 p 4 % 4 ≠ 0 then refuseAt s St.tableRange 4
  else match firstNonZero p 6 2 with
  | some o => refuseAt s St.reservedBits o
  | none => match s.slip.shadow with
    | none => refuse s St.wrongState
    | some (key, _) =>
      let n := min (min (u16 p 4) (shadowBytes - u32 p 0)) ((s.replyMax ep q - 12) / 4 * 4)
      { state := s,
        payload := leBytes 4 (s.fld Reg.slipctlCapture 15 8) ++ leBytes 4 (u32 p 0) ++ leBytes 4 shadowBytes ++
          (List.range n).map fun i => shadowByte key (u32 p 0 + i) }

def execSlipLoadBegin (q : Req) (s : State) : Out := s.runCommand q bodySlipLoad
def execSlipLoadData (q : Req) (s : State) : Out := s.runCommand q bodySlipLoad
def execSlipLoadApply (q : Req) (s : State) : Out := s.runCommand q bodySlipLoad
def execSlipLoadAbort (q : Req) (s : State) : Out := s.runCommand q bodySlipLoad
def execSlipStatus (q : Req) (s : State) : Out := s.runCommand q bodySlipStatus
def execSlipCapture (q : Req) (s : State) : Out := s.runCommand q bodySlipCapture
def execSlipReadback (q : Req) (s : State) : Out := s.runCommand q bodySlipReadback

end Sys2Proof.Machine
end

