-- ==== Sys2Proof/Machine/ProgCheck.lean ====
section
/-! DEFINITION. What PROG_LOAD refuses in a CUSTOM kernel, and the worst-case cost that it recomputes (R533 to R535, R539 to R542, R550,
R554 to R556, Tables PIS-3, PIS-5, PIS-6). -/

namespace Sys2Proof.Machine

/-! ### Shape of an instruction -/

/-- The opcodes of Table PIS-3. -/
def definedOps : List Nat :=
  [0x00, 0x01, 0x02, 0x03, 0x04, 0x05, 0x10, 0x11, 0x12, 0x13, 0x14, 0x18, 0x19, 0x1A, 0x1C, 0x1D, 0x20, 0x21, 0x22, 0x23, 0x24, 0x25,
   0x28, 0x29, 0x2A, 0x2B, 0x2C, 0x30, 0x31, 0x32, 0x38, 0x39, 0x3A, 0x3B] ++
  [0x40, 0x41, 0x42, 0x43, 0x48, 0x49, 0x4A, 0x4B, 0x4C, 0x4D, 0x50, 0x51, 0x52, 0x53, 0x58, 0x59, 0x60, 0x61, 0x62, 0x63, 0x64, 0x65,
   0x66, 0x67, 0x68, 0x69, 0x6A]

/-- An operand of an instruction in element memory: which IDXU value names it, its address and width, whether it is written. -/
structure MacroOperand where
  which : Nat
  addr : Nat
  width : Nat
  written : Bool
deriving DecidableEq, Repr

/-- The operands in element memory (Table PIS-3). -/
def macroOperands (m : MacroInstr) : List MacroOperand :=
  let w := mW m
  let ws := mSrc2 m % 64 + 1
  let d (n : Nat) : MacroOperand := ⟨2, mDst m, n, true⟩
  let a (n : Nat) : MacroOperand := ⟨1, mSrc1 m, n, false⟩
  let b (n : Nat) : MacroOperand := ⟨3, mSrc2 m, n, false⟩
  let op := mOp m
  if [0x02, 0x3B].contains op then [d w, a ws]
  else if [0x03, 0x05].contains op then [d w]
  else if op = 0x04 then [a w]
  else if op = 0x19 then [d (2 * w), a w, b w]
  else if 0x20 ≤ op ∧ op ≤ 0x25 then [d 1, a w, b w]
  else if [0x10, 0x11, 0x18, 0x1A, 0x1C, 0x1D, 0x28, 0x29, 0x2A, 0x2B, 0x30, 0x31, 0x32].contains op then [d w, a w, b w]
  else if [0x01, 0x12, 0x13, 0x14, 0x2C, 0x38, 0x39, 0x3A, 0x40, 0x41, 0x42, 0x43, 0x48, 0x49, 0x4A, 0x4B, 0x4C, 0x4D].contains op then [d w, a w]
  else if op = 0x50 then [a 1]
  else if op = 0x58 then [{ d w with written := false }, b (mSrc1 m % 512 * w)]
  else if op = 0x59 then [d w, a w, b w]
  else []

/-- The opcodes that read WIDTH, DST, SRC1 and SRC2 in any form. -/
def usesWidth (op : Nat) : Bool := (decide (0x01 ≤ op) && decide (op ≤ 0x4D)) || op == 0x58 || op == 0x59
def usesDst (op : Nat) : Bool :=
  (decide (0x01 ≤ op) && decide (op ≤ 0x4D) && op != 0x04) || [0x58, 0x59, 0x60, 0x61, 0x62, 0x63, 0x64, 0x65].contains op
def usesSrc1 (op : Nat) : Bool := (decide (0x01 ≤ op) && decide (op ≤ 0x4D) && op != 0x05) || [0x50, 0x58, 0x59, 0x63, 0x64].contains op
def usesSrc2 (op : Nat) : Bool :=
  (decide (0x01 ≤ op) && decide (op ≤ 0x4B) && !([0x01, 0x04, 0x05, 0x13, 0x14, 0x2C].contains op)) || [0x58, 0x59, 0x64].contains op

/-- The opcodes that act on elements and so read MSEL. -/
def usesMsel (op : Nat) : Bool := (decide (0x01 ≤ op) && decide (op ≤ 0x4D)) || [0x50, 0x51, 0x58, 0x59, 0x6A].contains op

/-- The opcodes that read EDGE, SIGN and SAT. -/
def usesEdge (op : Nat) : Bool := decide (0x40 ≤ op) && decide (op ≤ 0x4B)
def usesSat (op : Nat) : Bool := [0x10, 0x11, 0x12, 0x13, 0x14, 0x38, 0x3A, 0x02].contains op
def usesSign (op : Nat) : Bool :=
  (decide (0x10 ≤ op) && decide (op ≤ 0x25)) || [0x02, 0x03, 0x31, 0x32, 0x38, 0x39, 0x3A, 0x3B, 0x48, 0x49, 0x4A, 0x4B, 0x4C, 0x4D, 0x58, 0x59].contains op

/-- The opcodes that forbid an indexed operand (Table PIS-5). -/
def noIndex (op : Nat) : Bool := [0x1C, 0x1D, 0x58, 0x59, 0x04, 0x05].contains op

/-- Whether an instruction writes element state. -/
def writesElements (m : MacroInstr) : Bool := (macroOperands m).any (fun o => o.written) || [0x04, 0x58, 0x6A].contains (mOp m)

/-- Whether two bit ranges overlap. -/
def overlaps (a n b k : Nat) : Bool := decide (a < b + k) && decide (b < a + n)

/-- Whether an operand that is not indexed lies within the memory and crosses no boundary (R534), and names no mask plane. -/
def operandOk (idx : Nat) (o : MacroOperand) : Bool :=
  idx == o.which ||
  (decide (o.addr + o.width ≤ 8192) && ([0x0800, 0x1000, 0x1C00, 0x1F00].all fun b => decide (o.addr + o.width ≤ b) || decide (b ≤ o.addr)) &&
    !overlaps o.addr o.width 0x1EFC 4)

/-- The ranges that a CUSTOM kernel must not write (Table PIS-5). -/
def customWriteOk (o : MacroOperand) : Bool :=
  !o.written || ([(0, 0x800), (0x1000, 0x1E0), (0x1800, 0x400), (0x1F00, 0x80)].all fun r => !overlaps o.addr o.width r.1 r.2)

/-- A destination equals a source exactly or is disjoint from it (R535). -/
def disjointOk (l : List MacroOperand) : Bool :=
  l.all fun d => !d.written || l.all fun o => o.written || (o.addr == d.addr && o.width == d.width) || !overlaps d.addr d.width o.addr o.width

/-- Limits of w, s, k and ws (Table PIS-3). -/
def countsOk (m : MacroInstr) : Bool :=
  let w := mW m
  let op := mOp m
  (op != 0x04 || decide (w ≤ 13)) && (op != 0x05 || w == 13) && (!([0x19, 0x59].contains op) || decide (w ≤ 32)) &&
    (op != 0x3B || decide (w < mSrc2 m % 64 + 1)) && (!([0x02, 0x3B, 0x38, 0x39].contains op) || decide (mSrc2 m < 64)) &&
    (op != 0x3A || decide (-63 ≤ toSigned 13 (mSrc2 m)) && decide (toSigned 13 (mSrc2 m) ≤ 63)) &&
    (op != 0x58 || decide (2 ≤ mSrc1 m) && decide (mSrc1 m ≤ 256)) && (op != 0x14 || mSign m) && (op != 0x63 || decide (mSrc1 m < 16)) &&
    (op != 0x64 || decide (1 ≤ mImm26 m) && decide (mImm26 m < 65536))

/-- The refusals of Table PIS-5 that concern one instruction of a CUSTOM kernel. -/
def macroOk (m : MacroInstr) : Bool :=
  let op := mOp m
  let l := macroOperands m
  definedOps.contains op && macroField m 63 61 == 0 && mMsel m != 3 && (usesMsel op || mMsel m == 0) && (usesEdge op || mEdge m == 0) &&
    (usesSign op || !mSign m) && (usesSat op || !mSat m) && (usesWidth op || macroField m 13 8 == 0) && (usesDst op || mDst m == 0) &&
    (usesSrc1 op || mSrc1 m == 0) && (usesSrc2 op || mSrc2 m == 0) &&
    (mIdx m == 0 || (!noIndex op && l.any fun o => o.which == mIdx m)) && countsOk m && l.all (operandOk (mIdx m)) && disjointOk l &&
    !([0x48, 0x49, 0x4A, 0x4B, 0x67, 0x69].contains op) && (!writesElements m || mMsel m == 1) &&
    (!usesEdge op || (decide (1 ≤ mSrc2 m) && decide (mSrc2 m ≤ 3))) && l.all customWriteOk

/-! ### Costs (Table PIS-3, R539) -/

/-- The admitted cost of an instruction that is neither a branch nor a loop. -/
def instrCost (m : MacroInstr) : Nat :=
  let w := mW m
  let op := mOp m
  let ws := mSrc2 m % 64 + 1
  let base :=
    if [0x00, 0x52, 0x68, 0x69, 0x6A].contains op then 2
    else if [0x01, 0x02, 0x03, 0x05, 0x28, 0x29, 0x2A, 0x2B, 0x2C, 0x38, 0x39].contains op then w + 1
    else if [0x04, 0x10, 0x11, 0x12, 0x13, 0x30].contains op then w + 2
    else if op = 0x14 then 2 * w + 3
    else if op = 0x18 ∨ op = 0x19 then w * (w + 3)
    else if op = 0x1A then smulCost w
    else if op = 0x1C ∨ op = 0x1D then divCost w (mSign m)
    else if 0x20 ≤ op ∧ op ≤ 0x25 then w + 3
    else if op = 0x31 ∨ op = 0x32 then 2 * w + 4
    else if op = 0x3A then w + 3
    else if op = 0x3B then ws + w + 4
    else if 0x40 ≤ op ∧ op ≤ 0x43 then w * (mSrc2 m + 1) + 2
    else if op = 0x4C ∨ op = 0x4D then 7 * w + 6
    else if op = 0x50 ∨ op = 0x53 then 4
    else if op = 0x51 then 3
    else if op = 0x58 then 24 * w + 272
    else if op = 0x59 then 16 * w + 28 + smulCost (2 * w) + divCost (2 * w) true
    else 12
  base + addCost m ([0x10, 0x11, 0x12, 0x13, 0x14, 0x38, 0x3A, 0x02].contains op)

/-- Whether an instruction is a branch. -/
def isBranch (op : Nat) : Bool := decide (0x60 ≤ op) && decide (op ≤ 0x63)

/-- A branch's or call's target. -/
def jumpTarget (i : Nat) (m : MacroInstr) : Int := (i : Int) + 1 + toSigned 13 (mDst m)

/-- The greater of two path costs, where both paths exist. -/
def worse (a b : Option Nat) : Option Nat := a.bind fun x => b.map fun y => max x y

/-- The worst path from every index of `lo ..` to `hi`, in reverse: `acc` holds the results of the indices after the current one.
A path that leaves the range, a backward branch or a call without a callee's cost has none. -/
def pathAcc (loop : Nat → Nat → Option Nat) (callee : Nat → Option Nat) (ret : Option Nat) (fin : Option Nat) :
    Nat → List MacroInstr → List (Option Nat)
  | _, [] => [fin]
  | i, m :: r =>
    let acc := pathAcc loop callee ret fin (i + 1) r
    let next := acc.headD none
    let goto : Option Nat :=
      let t := jumpTarget i m
      if t ≤ i ∨ t ≥ (i : Int) + acc.length then none else acc.getD (t.toNat - i - 1) none
    let op := mOp m
    let here : Option Nat :=
      if op = 0x68 then some 2
      else if op = 0x66 then ret
      else if op = 0x60 then goto.map fun x => x + 12
      else if isBranch op then worse (next.map fun x => x + 6) (goto.map fun x => x + 16)
      else if op = 0x65 then (callee (jumpTarget i m).toNat).bind fun c => next.map fun x => x + 12 + c
      else if op = 0x64 then
        let n := mDst m
        if n = 0 ∨ r.length < n ∨ isBranch (mOp (r.getD (n - 1) 0)) then none
        else (loop (i + 1) n).bind fun b => (acc.getD n none).map fun x => x + 3 + 11 * (mImm26 m - 1) + mImm26 m * b
      else next.map fun x => x + instrCost m
    here :: acc

/-- The worst path through a range of a program, with loops nested at most `nest` deep (R542, R550). -/
def rangeCost (code : List MacroInstr) (callee : Nat → Option Nat) (ret fin : Option Nat) : Nat → Nat → Nat → Option Nat
  | 0, lo, n => (pathAcc (fun _ _ => none) callee ret fin lo ((code.drop lo).take n)).headD none
  | k + 1, lo, n =>
    (pathAcc (fun a b => rangeCost code callee none (some 0) k a b) callee ret fin lo ((code.drop lo).take n)).headD none

/-- The worst path of a routine that is called, with calls nested at most `k` deep. -/
def calleeCost (code : List MacroInstr) : Nat → Nat → Option Nat
  | 0, _ => none
  | k + 1, t => rangeCost code (calleeCost code k) (some 12) none 2 t (code.length - t)

/-- The worst-case cost of a CUSTOM kernel: its entry of 6 Plain cycles, and the longest path that ends with END (R542, R552). -/
def worstCost (code : List MacroInstr) : Option Nat :=
  (rangeCost code (calleeCost code 4) none none 2 0 code.length).map fun x => x + 6

/-! ### Mask depth and branches into loops (R457, R550) -/

/-- A branch into a LOOP body from outside. -/
def entersLoop (code : List MacroInstr) : Bool :=
  let at_ := code.zipIdx
  at_.any fun l => mOp l.1 == 0x64 && at_.any fun b =>
    isBranch (mOp b.1) && !(decide (l.2 < b.2) && decide (b.2 ≤ l.2 + mDst l.1)) &&
      decide ((l.2 : Int) < jumpTarget b.2 b.1) && decide (jumpTarget b.2 b.1 ≤ (l.2 : Int) + mDst l.1)

/-- The depths after an instruction, as a set of bits 0 to 4. -/
def depthAfter (op d : Nat) : Nat := if op = 0x50 ∨ op = 0x51 then d * 2 % 32 else if op = 0x52 then d / 2 else d

/-- Where control goes after an instruction: the next one, a branch's target, a callee, and from a RET the instruction after every call. -/
def flowsTo (code : List MacroInstr) (i : Nat) (m : MacroInstr) : List Nat :=
  let op := mOp m
  if op = 0x68 then []
  else if op = 0x60 ∨ op = 0x65 then [(jumpTarget i m).toNat]
  else if op = 0x66 then (code.zipIdx.filter fun c => mOp c.1 == 0x65).map fun c => c.2 + 1
  else if isBranch op then [i + 1, (jumpTarget i m).toNat]
  else [i + 1]

/-- One round of the analysis: every instruction passes its depths on. -/
def depthRound (code : List MacroInstr) (ds : List Nat) : List Nat :=
  code.zipIdx.foldl (fun ds c =>
    let out := depthAfter (mOp c.1) (ds.getD c.2 0)
    (flowsTo code c.2 c.1).foldl (fun ds t => ds.zipIdx.map fun x => if x.2 = t then x.1 ||| out else x.1) ds) ds

/-- Rounds until every depth that a path can reach is found. -/
def depthRounds (code : List MacroInstr) : Nat → List Nat → List Nat
  | 0, ds => ds
  | n + 1, ds => let e := depthRound code ds; if e = ds then ds else depthRounds code n e

/-- Whether some path pushes at depth 4, or pops or inverts at depth 0, or at depth 1 in a CUSTOM kernel, which starts at depth 1. -/
def depthFault (code : List MacroInstr) : Bool :=
  let ds := depthRounds code (5 * code.length + 1) (1 <<< 1 :: List.replicate (code.length - 1) 0)
  code.zipIdx.any fun c =>
    let d := ds.getD c.2 0
    let op := mOp c.1
    ((op == 0x50 || op == 0x51) && d.testBit 4) || ((op == 0x52 || op == 0x53) && (d.testBit 0 || d.testBit 1))

/-! ### The kernel image (Table PIS-6) -/

/-- N_ROLES and N_INSTR of an image, and its code. -/
def imgRoles (p : Bytes) : Nat := u8 p 7
def imgInstrs (p : Bytes) : Nat := u32 p 8
def imgCode (p : Bytes) : List MacroInstr := (List.range (imgInstrs p)).map fun i => BitVec.ofNat 64 (u64 p (32 + 4 * imgRoles p + 8 * i))

/-- The length that Table PIS-6 asks for. -/
def imgLength (p : Bytes) : Nat := 32 + 4 * imgRoles p + 8 * imgInstrs p + 2 * u16 p 18 + 4

/-- The image offset of the first fault of the layout. -/
def imgLayoutFault (p : Bytes) : Option Nat :=
  let rolesBad := (List.range (imgRoles p)).find? fun i =>
    let o := 32 + 4 * i
    !(decide (1 ≤ u8 p o) && decide (u8 p o ≤ 16) && decide (u8 p (o + 1) ≤ 1) && decide (u8 p (o + 2) ≤ 1) && u8 p (o + 3) == 0 &&
      (i == 0 || decide (u8 p (o - 4) < u8 p o)))
  if p.length < 36 then some 0xFFFF
  else if u32 p 0 ≠ 0x4B59444E then some 0
  else if u16 p 4 ≠ 0xB160 then some 4
  else if u8 p 6 ≠ 1 then some 6
  else if imgRoles p > 16 then some 7
  else if imgInstrs p = 0 ∨ imgInstrs p > 8192 then some 8
  else if u16 p 16 < 0x11E0 then some 16
  else if u16 p 18 > 1568 ∨ u16 p 16 + u16 p 18 > 0x1800 then some 18
  else if u16 p 20 > 2048 then some 20
  else if u8 p 22 > 3 then some 22
  else if (slice p 23 9).any (fun b => b != 0) then some 23
  else if p.length ≠ imgLength p then some 0xFFFF
  else rolesBad.map fun i => 32 + 4 * i

/-- The image offset of the first fault of the code: the first instruction that Table PIS-5 refuses, else the code as a whole; then
WORST_COST (R556). -/
def imgCodeFault (p : Bytes) : Option Nat :=
  let code := imgCode p
  match code.zipIdx.find? fun c => !macroOk c.1 with
  | some c => some (32 + 4 * imgRoles p + 8 * c.2)
  | none =>
    if entersLoop code || depthFault code then some (32 + 4 * imgRoles p)
    else match worstCost code with
    | none => some (32 + 4 * imgRoles p)
    | some w => if w = u32 p 12 then none else some 12

end Sys2Proof.Machine
end

