-- ==== Sys2Proof/Machine/CmdImage.lean ====
section
/-! DEFINITION. Commands that carry images and program OTP: PROG_LOAD, PROG_UNLOAD, PROG_INFO, FW_UPDATE, PATCH_LOAD, OTP_PROGRAM (R297,
R298, R310 to R314, R514, R515, R554 to R557), and the checks of a boot image (R142, R143). -/

namespace Sys2Proof.Machine

/-! ### Boot images (Tables BOT-4 and BOT-5) -/

/-- Whether a key's hash matches: programmed, not revoked, of the owner, equal to the SHA-256 of the public key. When the OTP read of the boot
failed, every key counts as revoked (R140, R172). -/
def State.keyOk (s : State) (index : Nat) (customer : Bool) (pub : Bytes) : Bool :=
  s.rbit Reg.otpStatus 0 && decide (index < 4) && s.otp.programmed.testBit index && !s.otp.revoked.testBit index && s.otp.customer.testBit index == customer &&
    decide (Store.find? s.otp.keyHash index = some (sha256 pub))

/-- Whether the layout fields lie within their limits (check 11). -/
def imgFits (h : Bytes) : Bool :=
  let body := u32 h 20
  let load := u32 h 24
  let patch := u32 h 36
  body % 4 == 0 && decide (4 ≤ body) && decide (body ≤ 393216) && load % 4096 == 0 && decide (u32 h 28 < body) && patch % 14 == 0 &&
    decide (patch ≤ 7336) && decide (u32 h 32 + patch ≤ body) && decide (load + body ≤ 0x60000) &&
    (u16 h 10 % 2 == 1) == (patch != 0)

/-- The header checks of Table BOT-5, EMPTY to ROLLED_BACK in table order: the first failure's code, or 0. -/
def State.headerResult (s : State) (h : Bytes) : Nat :=
  if u32 h 0 ≠ 0x4959444E then 2
  else if (crc32 (h.take 252)).toNat ≠ u32 h 252 ∨ u16 h 4 ≠ 1 ∨ u8 h 19 ≠ 0 ∨ !zeroRange h 40 24 ∨ !zeroRange h 224 28 ∨ u16 h 10 > 1 then 3
  else if u16 h 8 ≠ 0xB160 then 4
  else if u16 h 6 ≠ (if s.otp.openFw then 2 else 1) then 10
  else if !imgFits h then 11
  else if !s.keyOk (u8 h 18) (u16 h 6 == 2) (slice h 160 64) then 7
  else if u16 h 16 < s.otp.rollback then 8
  else 0

/-- The result code of a whole image (R143). -/
def State.imageResult (s : State) (img : Bytes) : Nat :=
  let h := img.take 256
  let r := if img.length < 256 then 2 else s.headerResult h
  let body := slice img 256 (u32 h 20)
  if r ≠ 0 then r
  else if body.length ≠ u32 h 20 ∨ sha256 body ≠ slice h 64 32 then 5
  else if !signatureOk h then 6
  else 1

/-! ### Pilot patches (Tables PLT-7, R515) -/

/-- N_WORDS, N_MATCH and PATCH_ID of a patch body. -/
def patchWords (b : Bytes) : Nat := u16 b 2
def patchMatches (b : Bytes) : Nat := u8 b 4
def patchId (b : Bytes) : Nat := u32 b 6

/-- Match entry `i` of a patch body. -/
def patchEntry (b : Bytes) (i : Nat) : Nat := u32 b (14 + 14 * (i / 3) + 4 * (i % 3))

/-- Whether a patch body is well formed. -/
def patchOk (b : Bytes) : Bool :=
  let n := patchMatches b
  let recs := ceilDiv n 3
  let entries := (List.range n).map (patchEntry b)
  let entryOk (e : Nat) : Bool := e / 16384 % 4 == 0 && e / 33554432 % 64 == 0 && decide (2147483648 ≤ e) && decide (e / 65536 % 512 < patchWords b)
  b.length % 14 == 0 && decide (14 ≤ b.length) && decide (b.length ≤ 7336) && u16 b 0 == 0x5450 && u8 b 5 == 0 && patchId b != 0 &&
    decide (patchWords b ≤ 512) && decide (n ≤ 32) && b.length == 14 * (1 + recs + patchWords b) &&
    (crc32 (b.drop 14)).toNat == u32 b 10 && entries.all entryOk && (entries.map fun e => e % 16384).Nodup &&
    ((List.range (3 * recs)).all fun i => decide (i < n) || patchEntry b i == 0) && ((List.range recs).all fun r => u16 b (14 + 14 * r + 12) == 0)

/-- A patch installed: patch RAM from address 0 and the match registers (R312, R514); what stood there before is gone. -/
def State.installPatch (s : State) (b : Bytes) : State :=
  let n := patchMatches b
  let base := 14 + 14 * ceilDiv n 3
  let words := (List.range (patchWords b)).foldl (fun (m : Store (BitVec 112)) i =>
    Store.set m i (BitVec.ofNat 112 (ofLe (slice b (base + 14 * i) 14))) 0) []
  let t := (List.range 32).foldl (fun (t : State) i =>
    t.setReg (Reg.pilotMatch + 4 * i) (BitVec.ofNat 32 (if i < n then patchEntry b i else 0))) s
  { t.setRbit Reg.sysctlBootStatus 12 true with pilot := { t.pilot with pram := words }, boot := { t.boot with patchId := patchId b } }

/-- PATCH_LOAD's envelope and body are good. -/
def State.patchImageOk (s : State) (p : Bytes) : Bool :=
  let b := p.drop 196
  u32 p 0 == 0x5059444E && u16 p 4 == 0xB160 && u8 p 7 == 0 && u32 p 8 == b.length && zeroRange p 12 20 &&
    (crc32 (p.take 192)).toNat == u32 p 192 && s.keyOk (u8 p 6) s.otp.openFw (slice p 128 64) && sha256 b == slice p 32 32 &&
    ecdsaVerify (slice p 128 64) (slice p 64 64) (p.take 64) && patchOk b

/-- PATCH_LOAD (R310, R312, R515). -/
def bodyPatchLoad : Body := fun _ q s =>
  let p := q.payload
  let b := p.drop 196
  if s.cycleOn then refuse s St.wrongState
  else if b.length ≥ 14 ∧ (patchWords b > 512 ∨ patchMatches b > 32) then refuse s St.noMemory
  else if !s.patchImageOk p then refuse s St.imageSignature
  else { state := s.installPatch b,
         payload := leBytes 2 (patchWords b) ++ leBytes 1 (patchMatches b) ++ zeros 1 ++ leBytes 4 (patchId b) }

/-! ### FW_UPDATE (R310, R311) -/

/-- The slot that is not running: B while A runs, else A. -/
def State.otherSlot (s : State) : Nat := if s.fld Reg.sysctlBootStatus 1 0 = 1 then 2 else 1

/-- The reply of FW_UPDATE. -/
def State.fwReply (s : State) (staged result : Nat) : Bytes := leBytes 4 staged ++ leBytes 1 s.otherSlot ++ leBytes 1 result ++ zeros 2

/-- The field checks that all operations of FW_UPDATE share: only BEGIN and DATA carry data. -/
def fwFields (s : State) (p : Bytes) (begin : Bool) : Option Rep :=
  if p.length < 12 ∨ ((u8 p 0 = 2 ∨ u8 p 0 = 3) ∧ p.length ≠ 12) then some (refuseLen s)
  else if u8 p 0 > 3 then some (refuseAt s St.tableRange 0)
  else match firstNonZero p 1 3 with
  | some o => some (refuseAt s St.reservedBits o)
  | none => if !begin && u32 p 8 ≠ 0 then some (refuseAt s St.tableRange 8) else none

/-- The staging of a session, where it owns one. -/
def State.fwStaging (s : State) (owner : Nat) : Option Staging := s.omx.firmware.filter fun g => g.owner == owner

/-- The staging set. -/
def State.setFw (s : State) (g : Option Staging) : State := { s with omx := { s.omx with firmware := g } }

/-- FW_UPDATE BEGIN: at least the header; a staging of another session refuses it, one of its own starts again. -/
def fwBegin (s : State) (q : Packet) : Rep :=
  let p := q.payload
  let d := p.drop 12
  if d.length < 256 then refuseLen s
  else if u32 p 4 ≠ 0 then refuseAt s St.tableRange 4
  else if u32 p 8 < 260 ∨ u32 p 8 > 393472 ∨ d.length > u32 p 8 then refuseAt s St.tableRange 8
  else if s.omx.firmware.isSome && (s.fwStaging q.session).isNone then refuse s St.wrongState
  else
    let g : Staging := { owner := q.session, total := u32 p 8, persist := false, data := d }
    { state := s.setFw (some g), payload := s.fwReply d.length 0 }

/-- FW_UPDATE DATA. -/
def fwData (s : State) (q : Packet) : Rep :=
  let p := q.payload
  let d := p.drop 12
  match s.fwStaging q.session with
    | none => refuse s St.wrongState
    | some g =>
      if u32 p 4 ≠ g.data.length ∨ g.data.length + d.length > g.total then refuseAt s St.tableRange 4
      else
        let n := g.data ++ d
        { state := s.setFw (some { g with data := n }), payload := s.fwReply n.length 0 }

/-- FW_UPDATE COMMIT (R311): a failed image returns IMAGE_SIGNATURE with RESULT; a passing one is written to the slot that is not running. -/
def fwCommit (s : State) (q : Packet) : Rep :=
  match s.fwStaging q.session with
    | none => refuse s St.wrongState
    | some g =>
      let t := s.setFw none
      let r := if g.data.length ≠ g.total then 5 else s.imageResult g.data
      if r ≠ 1 then refuse t St.imageSignature (s.fwReply g.data.length r)
      else if u32 g.data 12 ≤ s.boot.imgSeq then refuseAt t St.tableRange 0xFFFF
      else
        let w : BgTask := .writeFwSlot s.otherSlot g.data (s.notifyOf q true)
        { state := t.queueWrite w, status := St.accepted,
          payload := s.fwReply g.data.length 1 }

/-- FW_UPDATE ABORT. -/
def fwAbort (s : State) (q : Packet) : Rep :=
  match s.fwStaging q.session with
  | none => refuse s St.wrongState
  | some g => { state := s.setFw none, payload := s.fwReply g.data.length 0 }

/-- FW_UPDATE of any OP (Table OPC-14). -/
def bodyFwUpdate : Body := fun _ q s =>
  match fwFields s q.payload (u8 q.payload 0 == 0) with
  | some r => r
  | none =>
    match u8 q.payload 0 with
    | 0 => fwBegin s q
    | 1 => fwData s q
    | 2 => fwCommit s q
    | _ => fwAbort s q

/-! ### OTP_PROGRAM (R313, R314) -/

/-- Whether revoking a key would leave no programmed, unrevoked key of the owner that OPEN_FW needs. -/
def State.lastKey (s : State) (i : Nat) : Bool :=
  !((List.range 4).any fun k => k != i && s.otp.programmed.testBit k && !s.otp.revoked.testBit k && s.otp.customer.testBit k == s.otp.openFw)

/-- The WRONG_STATE conditions of R313 on an ITEM. -/
def State.otpRefused (s : State) (item i : Nat) (p : Bytes) : Bool :=
  match item with
  | 1 => decide (i < 2) || s.otp.programmed.testBit i
  | 2 => s.otp.revoked.testBit i || s.lastKey i
  | 3 => decide (u8 p 4 > s.boot.imgRollback)
  | 4 => s.otp.openFw
  | 5 => s.otp.jtagLock
  | 6 => s.otp.slipSign
  | _ => s.otp.custKey.isSome

/-- The OTP after an ITEM is programmed. -/
def Otp.program (o : Otp) (item i : Nat) (p : Bytes) : Otp :=
  let data := slice p 4 32
  match item with
  | 1 => { o with programmed := o.programmed ||| 2 ^ i, customer := o.customer ||| 2 ^ i, keyHash := Store.insert o.keyHash i data }
  | 2 => { o with revoked := o.revoked ||| 2 ^ i }
  | 3 => { o with rollback := u8 p 4 }
  | 4 => { o with openFw := true }
  | 5 => { o with jtagLock := true }
  | 6 => { o with slipSign := true }
  | _ => { o with custKey := some data }

/-- OTP_PROGRAM, any ITEM (R313). -/
def bodyOtpProgram : Body := fun _ q s =>
  let p := q.payload
  let item := u8 p 0
  let i := u8 p 1
  let from_ := if item = 1 ∨ item = 7 then 36 else if item = 3 then 5 else 4
  if p.length ≠ 36 then refuseLen s
  else if item = 0 ∨ item > 7 then refuseAt s St.tableRange 0
  else if (item = 1 ∨ item = 2) ∧ i > 3 then refuseAt s St.tableRange 1
  else if u16 p 2 ≠ 0x07B0 then refuseAt s St.tableRange 2
  else if item = 3 ∧ (u8 p 4 > 63 ∨ u8 p 4 ≤ s.otp.rollback) then refuseAt s St.tableRange 4
  else match firstNonZero p from_ (36 - from_) with
  | some o => refuseAt s St.reservedBits o
  | none =>
    if s.cycleOn || s.otpRefused item i p then refuse s St.wrongState
    else { state := { s with otp := s.otp.program item i p } }

/-! ### Kernel programs (R297, R298, R554 to R557) -/

/-- Free bytes of Basin 1; a replacing image that waits for its cycle stands beside the old one (R557). -/
def State.basin1Free (s : State) : Nat :=
  262144 - Config.harbourCode - s.programs.foldl (fun n (g : Nat × Program) => n + g.2.image.length) 0 -
    s.changes.foldl (fun n (p : Pending) => match p.change with
      | .program _ img _ _ => n + img.length
      | _ => n) 0

/-- Channels that name a program. -/
def State.progUsers (s : State) (id : Nat) : List Channel :=
  (s.chans.filter fun (x : Nat × Channel) => x.2.typ == ChType.custom && u16 x.2.params 64 == id).map fun (x : Nat × Channel) => x.2

/-- PROG_LOAD. -/
def bodyProgLoad : Body := fun _ q s =>
  let p := q.payload
  let img := p.drop 4
  let id := u16 p 2
  let persist := u8 p 0 % 2 == 1
  let replace := u8 p 0 / 2 == 1
  let old := Store.find? s.programs id
  let used := (s.admitView.progUsers id).any fun c => c.state.runs
  let prog : Program := { image := img, worstCost := u32 img 12, crc := crc32 (img.take (img.length - 4)), persisted := persist, harbour := false }
  let t := { s with programs := Store.insert s.programs id prog }
  let bg (u : State) : State := if persist then u.queueWrite (.persistProg id img) else u
  let v := { s.admitView with programs := Store.insert s.admitView.programs id prog }
  if p.length < 40 then refuseLen s
  else if u8 p 0 > 3 then refuseAt s St.reservedBits 0
  else if u8 p 1 ≠ 0 then refuseAt s St.reservedBits 1
  else if id = 0 ∨ id > 255 then refuseAt s St.tableRange 2
  else match imgLayoutFault img with
  | some o => refuseAt s St.tableRange (if o = 0xFFFF then o else o + 4)
  | none => match imgCodeFault img with
  | some o => refuseAt s St.tableRange (if o = 12 then 12 else o + 4)
  | none =>
    if (crc32 (img.take (img.length - 4))).toNat ≠ u32 img (img.length - 4) then refuse s St.tableCrc
    else if old.isSome ≠ replace then refuse s St.wrongState
    else if img.length > s.basin1Free then refuse s St.noMemory
    else if used ∧ v.budgetNow v.chans < (v.costNow : Int) then refuse s St.budget
    else
      let body (eff : Word) : Bytes := leBytes 2 id ++ zeros 2 ++ leBytes 4 (u32 img 12) ++ leBytes 4 eff.toNat
      if used then
        let (u, eff, after) := s.change .atCycle (.program id img (u32 img 12) persist) (s.notifyOf q)
        { state := bg u, status := changeStatus q, payload := body eff, after := after }
      else
        { state := bg t, status := changeStatus q, payload := body 0,
          after := match s.notifyOf q with
            | some n => fun u => u.emitCompletion n St.ok 0
            | none => fun u => u }

/-- PROG_UNLOAD. -/
def bodyProgUnload : Body := fun _ q s =>
  let p := q.payload
  if p.length ≠ 4 then refuseLen s
  else match firstNonZero p 2 2 with
  | some o => refuseAt s St.reservedBits o
  | none =>
    if (Store.find? s.programs (u16 p 0)).isNone then refuse s St.wrongState
    else if !(s.progUsers (u16 p 0)).isEmpty then refuse s St.dependent
    else { state := { s with programs := Store.erase s.programs (u16 p 0), flash := { s.flash with progs := Store.erase s.flash.progs (u16 p 0) } } }

/-- PROG_INFO. -/
def bodyProgInfo : Body := fun _ q s =>
  let p := q.payload
  let id := u16 p 0
  if p.length ≠ 4 then refuseLen s
  else match firstNonZero p 2 2 with
  | some o => refuseAt s St.reservedBits o
  | none =>
    if id = 0 then
      { state := s, payload := leBytes 2 s.programs.length ++ zeros 2 ++ leBytes 4 s.basin1Free ++ s.programs.flatMap fun (g : Nat × Program) => leBytes 2 g.1 }
    else match Store.find? s.programs id with
    | none => refuse s St.wrongState
    | some g =>
      { state := s,
        payload := leBytes 2 id ++ leBytes 2 (s.progUsers id).length ++ leBytes 4 g.image.length ++ leBytes 4 g.worstCost ++ leBytes 4 g.crc.toNat ++
          leBytes 1 (g.persisted.toNat + 2 * g.harbour.toNat) ++ zeros 3 }

def execProgLoad (q : Req) (s : State) : Out := s.runCommand q bodyProgLoad
def execProgUnload (q : Req) (s : State) : Out := s.runCommand q bodyProgUnload
def execProgInfo (q : Req) (s : State) : Out := s.runCommand q bodyProgInfo
def execFwUpdateBegin (q : Req) (s : State) : Out := s.runCommand q bodyFwUpdate
def execFwUpdateData (q : Req) (s : State) : Out := s.runCommand q bodyFwUpdate
def execFwUpdateCommit (q : Req) (s : State) : Out := s.runCommand q bodyFwUpdate
def execFwUpdateAbort (q : Req) (s : State) : Out := s.runCommand q bodyFwUpdate
def execPatchLoad (q : Req) (s : State) : Out := s.runCommand q bodyPatchLoad
def execOtpProgramKeyHash (q : Req) (s : State) : Out := s.runCommand q bodyOtpProgram
def execOtpProgramRevoke (q : Req) (s : State) : Out := s.runCommand q bodyOtpProgram
def execOtpProgramRollback (q : Req) (s : State) : Out := s.runCommand q bodyOtpProgram
def execOtpProgramOpenFw (q : Req) (s : State) : Out := s.runCommand q bodyOtpProgram
def execOtpProgramJtagLock (q : Req) (s : State) : Out := s.runCommand q bodyOtpProgram
def execOtpProgramSlipSignReq (q : Req) (s : State) : Out := s.runCommand q bodyOtpProgram
def execOtpProgramCustomerKey (q : Req) (s : State) : Out := s.runCommand q bodyOtpProgram

end Sys2Proof.Machine
end

