-- ==== Sys2Proof/Machine/Tx.lean ====
section
/-! DEFINITION. The MACs' transmit queues: their frames, the one in progress, aborts and write-backs (R744 to R747). -/

namespace Sys2Proof.Machine

/-! ### Rings in Basin 2 -/

/-- The ring registers of a port: receive rings 0 to 2, transmit queues 0 to 3. -/
def rxBase (port r : Nat) : Nat := (if port = 0 then Reg.eth0RxRingBase else Reg.eth1RxRingBase) + 16 * r
def txBase (port q : Nat) : Nat := (if port = 0 then Reg.eth0TxRingBase else Reg.eth1TxRingBase) + 16 * q

/-- The system address of a Basin 2 offset. -/
def basin2 (off : Nat) : Nat := 0x22000000 + off % 0x200000

/-- The first word of a descriptor. -/
def State.descBuf (s : State) (a : Nat) : Nat := ofLe (Memory.readBytes s.mem a 4)

/-- A queue's ring. -/
def State.txSize (s : State) (port q : Nat) : Nat := max 16 (min 256 (s.fld (txBase port q + 4) 8 0))
def State.txDesc (s : State) (port q i : Nat) : Nat := basin2 (s.fld (txBase port q) 20 0 / 16 * 16 + 16 * (i % s.txSize port q))
def State.txHead (s : State) (port q : Nat) : Nat := s.fld (txBase port q + 12) 7 0

/-- The number of descriptors of the ready frame that begins at a place of a ring, at most 8; 0 where none is ready. -/
def State.txReadyAt (s : State) (port q h : Nat) : Nat :=
  let w (i : Nat) : Nat := s.descBuf (s.txDesc port q (h + i))
  if w 0 < 2147483648 then 0
  else match (List.range 8).find? fun i => w i / 1073741824 % 2 == 1 with
    | some i => if (List.range (i + 1)).all fun k => decide (w k ≥ 2147483648) then i + 1 else 0
    | none => 0

/-- The ready frame at the head of a ring. -/
def State.txReady (s : State) (port q : Nat) : Nat := s.txReadyAt port q (s.txHead port q)

/-- Nanoseconds of the TIME base. -/
def TimeBase.total (t : TimeBase) : Nat := t.sec * 1000000000 + t.ns

/-- The TIME base at a count of nanoseconds, modulo the 48-bit seconds field. -/
def TimeBase.atNs (t : TimeBase) (n : Int) : TimeBase :=
  let m : Nat := (n % (281474976710656 * 1000000000 : Int)).toNat
  { t with sec := m / 1000000000, ns := m % 1000000000 }

/-- The ready frame at a place of a ring completes: results in its last descriptor, OWN cleared (R745, R750). -/
def State.txCloseAt (s : State) (port q h n : Nat) (sent : Bool) : State :=
  let lastA := s.txDesc port q (h + n - 1)
  let req := s.descBuf lastA / 536870912 % 2 == 1 || s.descBuf (s.txDesc port q h) / 536870912 % 2 == 1
  let stamp : TimeBase := s.time.atNs ((s.time.total : Int) - s.fld (Reg.ethTsLat + 65536 * port) 15 0)
  let ts := sent && req
  let back := leBytes 1 (sent.toNat + 2 * ts.toNat + 4 * (!sent).toNat) ++
    (if ts then leBytes 1 stamp.sec ++ leBytes 4 stamp.ns else zeros 5)
  let mem := (List.range n).foldl (fun (u : Memory) i =>
    let a := s.txDesc port q (h + i)
    Memory.writeBytes u a (leBytes 4 (s.descBuf a % 2147483648))) s.mem
  { s with mem := Memory.writeBytes mem (lastA + 10) back }.ethEvent port (3 + q)

/-- HEAD of a ring moved to a place, and past frames of queue 3 that a mark completed behind an unfinished one. -/
def State.txMove (s : State) (port q h : Nat) : Nat → State
  | 0 => s
  | fuel + 1 =>
    let at_ := h % s.txSize port q
    if q = 3 && (s.mac port).passed.contains at_ then
      (s.setMac port { s.mac port with passed := (s.mac port).passed.erase at_ }).txMove port q (at_ + 1) fuel
    else s.setFld (txBase port q + 12) 7 0 at_

/-- The ready frame at the head of a ring completes, and HEAD moves on. -/
def State.txClose (s : State) (port q n : Nat) (sent : Bool) : State :=
  (s.txCloseAt port q (s.txHead port q) n sent).txMove port q (s.txHead port q + n) 257

/-- Every ready frame of a ring completes with ABORTED and is counted. -/
def State.txAbort (s : State) (port q counter : Nat) : Nat → State
  | 0 => s
  | fuel + 1 =>
    let n := s.txReady port q
    if n = 0 then s else ((s.txClose port q n false).ethCount port counter 1).txAbort port q counter fuel

/-- The ready frames of queue 3's ring from a place on that have MARK_FLUSH set complete with ABORTED and are counted in TX_MARK_FLUSH (R746);
HEAD passes them when it comes to them. -/
def State.flushRing (s : State) (port h : Nat) : Nat → State
  | 0 => s.txMove port 3 (s.txHead port 3) 257
  | fuel + 1 =>
    let n := s.txReadyAt port 3 h
    let ctrl := ofLe (Memory.readBytes s.mem (s.txDesc port 3 h + 6) 2)
    if n = 0 then s.txMove port 3 (s.txHead port 3) 257
    else if ctrl / 2 % 2 = 1 then
      let t := (s.txCloseAt port 3 h n false).ethCount port 11 1
      let places := (List.range n).map fun i => (h + i) % s.txSize port 3
      (t.setMac port { t.mac port with passed := (t.mac port).passed ++ places }).flushRing port (h + n) fuel
    else s.flushRing port (h + n) fuel

/-! ### Frames of the firmware (Table ETH-4) -/


/-- The port and queue of the firmware's other frames. -/
def NetTx.place : NetTx → Nat × Nat
  | .arpReply p _ _ => (p, 0)
  | .echoReply p _ _ _ _ => (p, 0)
  | .ptp p _ _ _ _ _ => (p, 2)

/-- The port of a datagram's endpoint. -/
def udpPort : Endpoint → Nat
  | .udp _ _ eth => eth
  | _ => 2

/-- The events that wait in the UDP sessions of a port, oldest first within a session (R239, R242): session, endpoint, packet. -/
def State.eventsOn (s : State) (port : Nat) : List (Nat × Endpoint × Packet) :=
  s.omx.sessions.flatMap fun x => if udpPort x.2.ep = port then x.2.events.map fun p => (x.1, x.2.ep, p) else []

/-- A frame of a queue: Tideline; ARP, ICMP or PTP; an Omneax reply, or an event of a session; the ready frame at the head of the ring, of so many
descriptors. -/
inductive TxFrame where
  | tl (f : TxTl)
  | net (x : NetTx)
  | omneax (ep : Endpoint) (p : Packet) (session : Option Nat)
  | ring (n : Nat)
deriving DecidableEq, Repr

/-- The frame of queue 0 that an entry stands for. -/
def State.txItem (s : State) (port : Nat) : TxItem → Option TxFrame
  | .net => (s.netOut.find? fun x => decide (x.place = (port, 0))).map TxFrame.net
  | .reply => (s.omx.udpOut.find? fun (x : Endpoint × Packet) => udpPort x.1 == port).map fun x => .omneax x.1 x.2 none
  | .event n => ((s.eventsOn port).find? fun x => x.1 == n).map fun x => .omneax x.2.1 x.2.2 (some n)

/-- The oldest ready frame of a queue: the firmware's own before the ring's. -/
def State.txFront (s : State) (port q : Nat) : Option TxFrame :=
  let own : Option TxFrame :=
    if q = 0 then (s.mac port).order.findSome? (s.txItem port)
    else if q = 2 then (s.netOut.find? fun x => decide (x.place = (port, 2))).map TxFrame.net
    else (s.tx.find? fun f => f.port == port && tlQueue f.typ == q).map TxFrame.tl
  match own with
  | some f => some f
  | none => if s.txReady port q = 0 then none else some (.ring (s.txReady port q))

/-- The highest-numbered queue of a port that has a ready frame (R744). -/
def State.txPick (s : State) (port : Nat) : Option Nat := [3, 2, 1, 0].find? fun q => (s.txFront port q).isSome

/-- The queue whose frame is in progress at a port that sends. -/
def State.inProgress (s : State) (port : Nat) : Option Nat :=
  match (s.mac port).sending with
  | some q => if (s.txFront port q).isSome then some q else s.txPick port
  | none => s.txPick port

/-- Between frames the MAC starts the oldest ready frame of the highest-numbered queue that has one. -/
def State.txNext (s : State) (port : Nat) : State := s.setMac port { s.mac port with sending := s.txPick port }

/-- The MAC looks for a frame to start, unless one is in progress. -/
def State.txStart (s : State) (port : Nat) : State := s.setMac port { s.mac port with sending := s.inProgress port }

/-- An entry of queue 0 taken out. -/
def State.txUnlist (s : State) (port : Nat) (i : TxItem) : State := s.setMac port { s.mac port with order := (s.mac port).order.erase i }

/-- A frame leaves its queue, sent or not. -/
def State.txRemove (s : State) (port q : Nat) (f : TxFrame) (sent : Bool) : State :=
  match f with
  | .tl f => { s with tx := s.tx.erase f }
  | .net x => { s with netOut := s.netOut.erase x }.txUnlist port .net
  | .omneax ep p none => { s with omx := { s.omx with udpOut := s.omx.udpOut.erase (ep, p) } }.txUnlist port .reply
  | .omneax _ _ (some n) => (s.updSession n fun x => { x with events := x.events.drop 1 }).txUnlist port (.event n)
  | .ring n => s.txClose port q n sent

/-- While the MAC cannot send, it completes every queued frame with ABORTED (R747). -/
def State.txFlush (s : State) (port : Nat) : State :=
  if s.sends port then s
  else
    let mine := s.tx.filter fun f => f.port == port
    let other := s.netOut.filter fun x => x.place.1 == port
    let udp := s.omx.udpOut.filter fun (x : Endpoint × Packet) => udpPort x.1 == port
    let events := s.eventsOn port
    let t := { s with
      tx := s.tx.filter fun f => f.port != port
      netOut := s.netOut.filter fun x => x.place.1 != port
      omx := { s.omx with
        udpOut := s.omx.udpOut.filter fun (x : Endpoint × Packet) => udpPort x.1 != port
        sessions := Store.mapKV s.omx.sessions fun _ x => if udpPort x.ep = port then { x with events := [] } else x } }
    let t := (t.ethCount port 12 (mine.length + other.length + udp.length + events.length)).setMac port { s.mac port with sending := none, order := [] }
    (List.range 4).foldl (fun (u : State) q => u.txAbort port q 12 256) t

end Sys2Proof.Machine
end

