-- ==== Sys2Proof/Machine/Regs.lean ====
section
/-! DEFINITION. Register access: guards, write classes, units of work, clears, the interrupt controller, timers and OTP programming
(chapter 06, R610 to R616, Table REG-1 to Table REG-3). -/

namespace Sys2Proof.Machine

/-! ### Answers (Table REG-1) -/

/-- The response that an access received; an error is sticky in the debug port when master 4 asked (R177). -/
def State.busAnswer (s : State) (who : Initiator) (st : BusStatus) (data : Bytes := []) : State :=
  { s with
    bus := { status := st, data := data }
    dbg := { s.dbg with stickyErr := s.dbg.stickyErr || (who.master == 4 && st != BusStatus.ok) } }

/-- An error that the matrix records: its bit, and with the first since STATUS was zero its address, master, target and kind (R658, R660,
R661, R665, R670). Kinds: 1 DECODE, 2 NO_PATH, 3 FORM, 4 LEASE, 5 FENCED. -/
def State.matrixErr (s : State) (who : Initiator) (kind target addr : Nat) : State :=
  let first := s.reg Reg.matrixErrStatus == 0
  let t := s.setRbit Reg.matrixErrStatus (kind - 1) true
  if first then
    (t.setReg Reg.matrixErrAddr (BitVec.ofNat 32 addr)).setReg Reg.matrixErrInfo (BitVec.ofNat 32 (who.master + 16 * target + 256 * kind))
  else t

/-- Whether a containment domain is fenced (RECLAIM_FENCED). -/
def State.domainFenced (s : State) (d : Nat) : Bool := s.rbit Reg.reclaimFenced d

/-- Whether the matrix answers a master's requests to a target with FENCED: the HM in error mode at every target, or at the ports that a
lease fenced (R860, R871), M2 and M4 by their domains (R670, R863). -/
def State.masterFenced (s : State) (m port : Nat) : Bool :=
  if m ≤ 1 then s.rbit Reg.reclaimStatus 2 || s.reclaim.hmPorts.contains port
  else if m = 2 then s.domainFenced 4
  else m == 4 && s.domainFenced 13

/-- Whether no master but the debug unit acts: TEST_N was low at reset release, and only the JTAG TAP operates (R60). -/
def State.silent (s : State) (who : Initiator) : Bool := s.boot.testMode && who.master != 4

/-- Whether an address lies in the peripheral region, below 0x4018_0000 (R175). -/
def inPeripherals (a : Nat) : Bool := decide (0x40000000 ≤ a) && decide (a < 0x40180000)

/-- A register access that the matrix lets through to a block, as a function of the state; FENCED, NO_PATH and the bus errors of Table
REG-3 and R204 answer in its place, without effect (R176, R200, R208). With TEST_N low nothing but the TAP makes one (R60). -/
def State.toBlock (s : State) (who : Initiator) (addr : Nat) (act : State → State) : State :=
  if s.silent who then s
  else if s.masterFenced who.master 4 then (s.matrixErr who 5 4 addr).busAnswer who .fenced
  else if who.master = 0 then (s.matrixErr who 2 4 addr).busAnswer who .error
  else if who.master = 4 && s.otp.jtagLock then s.busAnswer who .error
  else if blockOf addr = 3 && !s.arrUp then s.busAnswer who .error
  else act (s.busAnswer who .ok)

/-! ### The guard (R183 to R188) -/

/-- The holder that a guard records: the master and, for M3, the Fairway source node. -/
def holderOf (w : Initiator) : Nat × Nat := (w.master, if w.master = 3 then w.node else 0)

/-- Whether a guarded write of `who` is accepted (R184, R185). -/
def State.guardOpen (s : State) (block : Nat) (who : Initiator) : Bool := decide ((s.guard block).holder = some (holderOf who))

/-- A guarded write is refused: GUARD_DENIED and who wrote (R185). -/
def State.guardDeny (s : State) (block : Nat) (who : Initiator) : State :=
  s.setGuard block { s.guard block with denied := true, faultMaster := (holderOf who).1, faultNode := (holderOf who).2 }

/-- A guarded write is accepted: the guard closes (R184). -/
def State.guardUse (s : State) (block : Nat) : State := s.setGuard block { s.guard block with holder := none }

/-- A guarded write of a register with an action of its own. -/
def State.guardedWrite (s : State) (who : Initiator) (addr : Nat) (act : State → State) : State :=
  s.toBlock who addr fun t => if t.guardOpen (blockOf addr) who then act (t.guardUse (blockOf addr)) else t.guardDeny (blockOf addr) who

/-- The clear bits of the write view; FAULT_MASTER clears when both flags are clear. -/
def Guard.clear (g : Guard) (v : Word) : Guard :=
  let g := { g with fault := g.fault && !bit v 16, denied := g.denied && !bit v 17, cfgAbort := g.cfgAbort && !bit v 18 }
  if g.fault || g.denied then g else { g with faultMaster := 0, faultNode := 0 }

/-- The payload of GUARD_KEYS (R188). -/
def guardPayload (block : Nat) (who : Initiator) (key : Nat) : Word :=
  BitVec.ofNat 32 (block % 256 + 256 * (who.master % 8) + 4096 * ((holderOf who).2 % 16) + 65536 * (key % 65536))

/-- A write of BLOCK_GUARD (R183, R187, R188). DESIGN CHOICE (log entry 164): the clear bits act before KEY, so that a wrong key in a write
with CLR_FAULT leaves GUARD_FAULT set. -/
def State.guardWrite (s : State) (who : Initiator) (block : Nat) (v : Word) : State :=
  let g := (s.guard block).clear v
  let key := bits v 15 0
  if key = 0x5AC3 then s.setGuard block { g with holder := some (holderOf who), wrongRun := 0 }
  else if key = 0 then s.setGuard block g
  else
    let g := { g with holder := none, fault := true, faultMaster := (holderOf who).1, faultNode := (holderOf who).2 }
    if g.wrongRun + 1 ≥ 3 then (s.setGuard block { g with wrongRun := 0 }).faultB 0x033 2 0x12 (guardPayload block who key)
    else s.setGuard block { g with wrongRun := g.wrongRun + 1 }

/-- The address of a block's guard register. -/
def guardAddr (block : Nat) : Nat := 0x40000FFC + 65536 * block

/-- A write of BLOCK_GUARD by a master; the register exists in blocks 0 to 0x17. -/
def State.guardAccess (s : State) (who : Initiator) (block : Nat) (v : Word) : State :=
  if block ≥ 24 then s.busAnswer who .error else s.toBlock who (guardAddr block) fun t => t.guardWrite who block v

/-- GUARD_KEY (R183). -/
def execGuardKey (who : Initiator) (block : Nat) (s : State) : Out := .next (s.guardAccess who block 0x5AC3)

/-- GUARD_WRONG_KEY (R183, R187, R188). -/
def execGuardWrongKey (who : Initiator) (block : Nat) (key : BitVec 16) (s : State) : Out :=
  .next (s.guardAccess who block (key.setWidth 32))

/-- GUARD_CLEAR_FLAGS (R183): KEY is 0 in such a write. -/
def execGuardClearFlags (who : Initiator) (block : Nat) (value : Word) (s : State) : Out :=
  .next (s.guardAccess who block (value &&& 0xFFFF0000))

/-- GUARD_EXPIRY (R186): 4,096 SYS cycles after the key. -/
def execGuardExpiry (block : Nat) (s : State) : Out := .next (s.guardUse block)

/-! ### Fields (Table SCP-3, R179 to R182) -/

/-- What a write of `v` leaves in one field of the word `w`; `open_` says whether guarded fields take it. -/
def RegField.write (f : RegField) (open_ : Bool) (v w : Word) : Word :=
  match f.access with
  | .rw => putBits w f.hi f.lo (bits v f.hi f.lo)
  | .rwg => if open_ then putBits w f.hi f.lo (bits v f.hi f.lo) else w
  | .w1c => w &&& ~~~(v &&& fieldMask f.hi f.lo)
  | .ro => w
  | .wo => w

/-- Whether a row has guarded fields. -/
def RegRow.isGuarded (r : RegRow) : Bool := r.fields.any fun f => f.access == .rwg

/-- Whether a write reaches a Q-class field of the row. -/
def RegRow.writesQ (r : RegRow) (open_ : Bool) : Bool :=
  r.fields.any fun f => f.cls == .q && (f.access == .rw || (f.access == .rwg && open_))

/-- A field held within its range. -/
def clampFld (w : Word) (hi lo least most : Nat) : Word := putBits w hi lo (max least (min most (bits w hi lo)))

/-- LEVEL fields of 9 to 15 read back as 8; STATE fields of 3 as 2. -/
def capNibbles (w : Word) (width most n : Nat) : Word :=
  (List.range n).foldl (fun w i => clampFld w (width * i + width - 1) (width * i) 0 most) w

/-- The value that a register reads back after a write (the register tables of chapters 03, 13, 16, 18, 19, 20, 23, 25). -/
def State.readBack (s : State) (a : Nat) (old w : Word) : Word :=
  if a = Reg.supmonSenseThr then clampFld w 10 0 600 1200
  else if a = Reg.bbrPost then clampFld w 8 0 0 256
  else if a = Reg.scrubPlainCfg then clampFld w 3 0 0 8
  else if a = Reg.scrubInterval4 then clampFld w 15 0 256 65535
  else if Reg.scrubInterval ≤ a ∧ a < Reg.scrubInterval + 16 then clampFld w 15 0 16 65535
  else if Reg.intcLevel ≤ a ∧ a < Reg.intcLevel + 32 then capNibbles w 4 8 8
  else if Reg.fairwayTimeout ≤ a ∧ a < Reg.fairwayTimeout + 64 then clampFld w 9 0 1 1000
  else if a = Reg.basinctlPwr then capNibbles w 2 2 4
  else if a = Reg.pilotProgBase then putBits w 2 0 0
  else if a = Reg.timerWdtCtrl then w ||| (old &&& 1)
  else if a = Reg.timerWdtMin then
    (if bits w 13 0 ≥ s.fld Reg.timerWdtMax 13 0 then putBits w 13 0 (s.fld Reg.timerWdtMax 13 0 - 1) else w)
  else if a = Reg.ptpAddend then BitVec.ofInt 32 (max (-17179869) (min 17179869 w.toInt))
  else w

/-! ### Units of work (R192 to R194, Table REG-2) -/


/-- Whether a register is one of a port's receive rings, whose unit is a receive frame. -/
def isRxRing (port a : Nat) : Bool := decide (rxBase port 0 ≤ a) && decide (a < rxBase port 3)

/-- Whether a port's frame is in progress at a write of one of its ring registers: a receive frame that waits partly stored for a
descriptor (R737), or a frame that is being sent. -/
def State.ethBusy (s : State) (port a : Nat) : Bool :=
  if isRxRing port a then !(s.mac port).fifo.isEmpty else s.sends port && (s.inProgress port).isSome

/-- Whether a slice of Ebb work is in hand on the Pilot, perhaps under a micro-trap. -/
def State.ebbInHand (s : State) : Bool := s.pilot.st == .ebb || s.pilot.under == .ebb

/-- Whether a Q-class write to the register at an address lands during a unit of work. Units that one command performs whole have no
instant at which a write can land. -/
def State.unitBusy (s : State) (a : Nat) : Bool :=
  match blockOf a with
  | 3 => (s.inWindow && !s.wc.ended) || s.ebbInHand
  | 4 => s.fld Reg.quayStatus 2 0 != 0
  | 6 => s.rbit (Reg.matrixDmaStatus + (a - Reg.matrixDmaSrc) / 32 * 32) 0
  | 8 => s.ethBusy 0 a
  | 9 => s.ethBusy 1 a
  | 11 => !(Store.get s.cans ((a - Reg.canCtrl) / 256) {}).txQueue.isEmpty
  | 12 => (Store.get s.uarts ((a - Reg.uartCtrl) / 256) {}).inFlight.isSome
  | 14 => s.rbit Reg.qspiCtrl 7
  | 15 => s.slip.applying.isSome
  | _ => false

/-- Whether the block's unit is never aborted, so that a new value waits for its end (QSPI program or erase, Slipway apply). -/
def unitHolds (a : Nat) : Bool := blockOf a == 14 || blockOf a == 15

/-- The receive frame in progress of a port is discarded and counted as a configuration drop (R758). -/
def State.rxAbort (s : State) (port : Nat) : State :=
  let m := s.mac port
  if m.fifo.isEmpty then s else (s.setMac port { m with fifo := m.fifo.drop 1 }).ethCount port 9 1

/-- The fate of the aborted unit (Table REG-2): a foreground phase ends its cycle LATE, an Ebb slice is rescheduled from its start (R25,
R194), a receive frame is discarded and counted. The others start again, with the new value that the command which ends the unit reads: a
frame whose FCS was corrupted and a CAN frame that an error frame ended stay first in their queues, a request on a UART line stays in flight,
a Quay pass, a DMA descriptor and a queue-controller transfer are performed whole by their later command. -/
def State.abortUnit (s : State) (a : Nat) : State :=
  match blockOf a with
  | 3 =>
    if s.inWindow && !s.wc.ended then (s.abandon .late).endCycle .late
    else { s with pilot := { s.pilot with st := .ebb, under := .ebb, mpc := s.fld Reg.pilotProgBase 17 0 / 8 * 8, queue := [], calls := [], slots := [],
                                          loops := [], macroCalls := 0, depth := 0, inWait := false } }
  | 8 => if isRxRing 0 a then s.rxAbort 0 else s
  | 9 => if isRxRing 1 a then s.rxAbort 1 else s
  | _ => s

/-- CFG_ABORT of a block. -/
def State.noteAbort (s : State) (block : Nat) : State := s.setGuard block { s.guard block with cfgAbort := true }

/-! ### Writes of registers without an action -/

/-- RING_ERR follows RING_STOPPED (ETH0_STATUS). -/
def State.ringStop (s : State) (port r : Nat) (b : Bool) : State :=
  let t := s.setRbit (Reg.ethStatus + 65536 * port) (2 + r) b
  t.setRbit (Reg.ethStatus + 65536 * port) 1 (t.fld (Reg.ethStatus + 65536 * port) 4 2 != 0)

/-- The transient of ETHn_CTRL's SPEED and delays (Table of ETH0_CTRL, R191): a frame in progress in either direction is discarded and
counted, the received one in RX_CFG_DROP. DESIGN CHOICE (log entry 165): a sent one counts in TX_LINK_DROP, for the spec names no counter. -/
def State.ethTransient (s : State) (port : Nat) : State :=
  let t := s.rxAbort port
  if !t.sends port then t
  else match t.inProgress port with
  | none => t
  | some q => match t.txFront port q with
    | none => t
    | some f => ((t.txRemove port q f false).ethCount port 12 1).txNext port

/-- What follows the accepted write of a register in its row: the watchdog's count restarts (R613), a new reference or a forced holdover puts
the TIME base in holdover (R122), a monitor that is switched off drops its status bit (R116), a ring base restarts its ring, the transient of
a G-class field runs (R191). DESIGN CHOICE (log entry 166): a clock lost when its monitor is switched off stays lost until it is good again. -/
def State.afterWrite (s : State) (a : Nat) (old : Word) : State :=
  if a = Reg.timerWdtMax then
    let most := s.fld Reg.timerWdtMax 13 0
    let t := if s.fld Reg.timerWdtMin 13 0 ≥ most then s.setFld Reg.timerWdtMin 13 0 (most - 1) else s
    { t with wdtUs := s.nowUs }
  else if a = Reg.timerWdtMin ∨ a = Reg.timerWdtCtrl then { s with wdtUs := s.nowUs }
  else if a = Reg.supmonSenseThr ∨ a = Reg.supmonFilter then
    { s with belowUs := s.belowUs.zipWith (fun (x : Option Nat) i => if i = 1 && a == Reg.supmonSenseThr then x else x.map fun _ => s.nowUs) [0, 1] }
  else if a = Reg.ethCtrl ∨ a = Reg.ethCtrl + 65536 then
    let port := (a - Reg.ethCtrl) / 65536
    let t := if bits old 5 2 ≠ s.fld a 5 2 then s.ethTransient port else s
    if t.sends port then t else t.txFlush port
  else if a = Reg.quayJobPtr then { s with quay := { jobs := true, job := 0 } }
  else if a = Reg.clkgenTimeCfg then
    let t := if bit old 0 != s.rbit a 0 then (s.setRbit Reg.clkgenStatus 2 false).setRbit Reg.clkgenStatus 4 false else s
    if bit old 0 != s.rbit a 0 || s.rbit a 1 then t.setRbit Reg.clkgenStatus 3 true else t
  else if a = Reg.clkgenMonEn then
    (List.range 7).foldl (fun t i => if s.rbit a i then t else t.setRbit Reg.clkgenStatus (5 + i) false) s
  else
    match (List.range 2).flatMap fun p => (List.range 3).map fun r => (p, r) with
    | all => match all.find? fun x => rxBase x.1 x.2 == a with
      | some x =>
        let m := s.mac x.1
        ((s.setMac x.1 { m with tails := m.tails.set x.2 0 }).setReg (rxBase x.1 x.2 + 12) 0).ringStop x.1 x.2 false
      | none => match ((List.range 2).flatMap fun p => (List.range 4).map fun q => (p, q)).find? fun x => txBase x.1 x.2 == a with
        | some x =>
          let m := s.mac x.1
          (if x.2 = 3 then s.setMac x.1 { m with passed := [] } else s).setReg (a + 12) 0
        | none => s

/-- Whether a write of a row changes anything: it has a field that takes the write with the guard as it is (R185). -/
def RegRow.takes (r : RegRow) (open_ : Bool) : Bool := r.fields.any fun f => f.access == .rw || f.access == .w1c || (f.access == .rwg && open_)

/-- The stored word after an accepted or a denied write, and what follows an accepted one (R182, R184, R185, R192, R193). A value that waits
for the end of a unit is held in the register at once (R190) and put in force by `State.releaseDeferred`. DEDUCED (log entry 164): the write of
a register with a guarded field is a write to that field, whichever of its bits change. -/
def State.storeRow (s : State) (who : Initiator) (a : Nat) (r : RegRow) (v : Word) : State :=
  let b := blockOf a
  let open_ := s.guardOpen b who
  let t := if !r.isGuarded then s else if open_ then s.guardUse b else s.guardDeny b who
  let old := s.reg a
  let w := s.readBack a old (r.fields.foldl (fun w f => f.write open_ v w) old)
  let q := r.writesQ open_ && t.unitBusy a
  let t := if q then t.noteAbort b else t
  if !r.takes open_ then t
  else if q && unitHolds a then { t.setReg a w with deferred := t.deferred ++ [(a, w)] }
  else ((if q then t.abortUnit a else t).setReg a w).afterWrite a old

/-- The Q-class fields of a word that waited, placed in the register as it stands: what the hardware keeps in its other fields stays. -/
def mergeQ (a : Nat) (now w : Word) : Word :=
  match regRow? a with
  | none => w
  | some r => r.fields.foldl (fun (x : Word) f => if f.cls == .q then putBits x f.hi f.lo (bits w f.hi f.lo) else x) now

/-- Values that waited for the end of a unit of a block take effect. -/
def State.releaseDeferred (s : State) (block : Nat) : State :=
  let t := s.deferred.foldl (fun (t : State) (d : Nat × Word) => if blockOf d.1 = block then t.setReg d.1 (mergeQ d.1 (t.reg d.1) d.2) else t) s
  { t with deferred := s.deferred.filter fun (d : Nat × Word) => blockOf d.1 != block }

/-- Whether a register is a link or configuration field of the PCIE block (Table REG-3). -/
def isPcieField (a : Nat) : Bool := a == Reg.pcieOutBaseLo || a == Reg.pcieOutBaseHi || a == Reg.pcieStatus

/-- A write to a register whose row has no action of its own (R174, R175). The endpoint's fields ignore writes while it cannot answer (R199). -/
def State.plainWrite (s : State) (who : Initiator) (a : Nat) (v : Word) : State :=
  match if inPeripherals a then regRow? a else none with
  | none => if s.silent who then s else s.busAnswer who .error
  | some r => s.toBlock who a fun t => if isPcieField a && t.pcieDown then t else t.storeRow who a r v

/-! ### Clears and read actions (R178, R198) -/

/-- TIMER_SYSCNT_LATCH: the count of SYS cycles is a free value, for the model holds no SYS clock; the read returns its low word and
latches its high word. -/
def execTimerSyscntLatch (who : Initiator) (s : State) : Out :=
  .next (s.toBlock who Reg.timerSyscntLo fun t =>
    let c := t.free
    ({ t.usedFree with bus := { status := .ok, data := leBytes 4 c.toNat } }).setReg Reg.timerSyscntHi ((c >>> 32).setWidth 32))

/-- DCQ_DROP_CLEAR. -/
def execDcqDropClear (who : Initiator) (s : State) : Out :=
  .next (s.toBlock who Reg.clkgenDcqDrop fun t => t.setFld Reg.clkgenDcqDrop 15 0 0)

/-- QUAY_BUSY_CLEAR. -/
def execQuayBusyClear (who : Initiator) (s : State) : Out :=
  .next (s.toBlock who Reg.quayBusyCnt fun t => t.setReg Reg.quayBusyCnt 0)

/-- Registers of a table returned to 0. -/
def State.zeroRegs (s : State) (base n stride : Nat) : State :=
  (List.range n).foldl (fun t i => t.setReg (base + stride * i) 0) s

/-- CLR_COLL of a Basin controller. -/
def State.clearColl (s : State) : State := s.zeroRegs Reg.basinctlColl 4 4

/-- CLR_ECC of the Basin controller: the counts and BASINCTL_UE_ADDR. -/
def State.clearEcc (s : State) : State := (s.zeroRegs Reg.basinctlEcc 5 4).setReg Reg.basinctlUeAddr 0

/-- CLR_COLL. -/
def execClrColl (who : Initiator) (s : State) : Out := .next (s.toBlock who Reg.basinctlClear fun t => t.clearColl)

/-- CLR_ECC. -/
def execClrEcc (who : Initiator) (s : State) : Out := .next (s.toBlock who Reg.basinctlClear fun t => t.clearEcc)

/-- Every FAIRWAY_CNT count returned to 0. -/
def State.clearFairway (s : State) : State :=
  ((s.zeroRegs Reg.fairwayCntA 16 16).zeroRegs Reg.fairwayCntB 16 16).zeroRegs Reg.fairwayCntC 16 16

/-- CLR_COUNTS. -/
def execClrCounts (who : Initiator) (s : State) : Out := .next (s.toBlock who Reg.fairwayClear fun t => t.clearFairway)

/-- The scrub counts returned to 0. -/
def State.clearScrub (s : State) : State := (s.setReg Reg.scrubPlainCnt 0).zeroRegs Reg.scrubSweeps 4 4

/-- SCRUB_CLR. -/
def execScrubClr (who : Initiator) (s : State) : Out := .next (s.toBlock who Reg.scrubClear fun t => t.clearScrub)

/-- Every counter of an Ethernet port returned to 0. -/
def State.clearEthCnt (s : State) (port : Nat) : State := s.zeroRegs (ethCnt port 0) 17 4

/-- ETH_CNT_CLEAR. -/
def execEthCntClear (who : Initiator) (port : Nat) (s : State) : Out :=
  .next (if port ≥ 2 then s.busAnswer who .error
    else s.toBlock who (Reg.ethCntClear + 65536 * port) fun t => t.clearEthCnt port)

/-! ### Interrupts (R608 to R611, Table HMC-4) -/

/-- Whether enabled events of a block are set. -/
def State.irqOf (s : State) (events enables : Nat) : Bool := (s.reg events &&& s.reg enables) != 0

/-- Whether a source's block asserts its interrupt output (Table HMC-4). -/
def State.asserted (s : State) (n : Nat) : Bool :=
  let ethIrq (port hi lo : Nat) : Bool :=
    bits (s.reg (Reg.ethEvents + 65536 * port) &&& s.reg (Reg.ethIrqEn + 65536 * port)) hi lo != 0
  if n ≤ 4 then bit (s.reg Reg.timerEvents &&& s.reg Reg.timerIrqEn) n
  else if 14 ≤ n ∧ n ≤ 21 then
    s.rbit (Reg.matrixDmaCtrl + 32 * (n - 14)) 1 && s.fld (Reg.matrixDmaStatus + 32 * (n - 14)) 2 1 != 0
  else if 56 ≤ n ∧ n ≤ 59 then s.rbit Reg.intcSoft (n - 56)
  else match n with
  | 5 => s.rbit Reg.timerWdtStatus 17
  | 6 => s.irqOf Reg.supmonEvents Reg.supmonIrqEn
  | 7 => s.irqOf Reg.clkgenLoss Reg.clkgenIrqEn
  | 11 => s.irqOf Reg.quayEvents Reg.quayIrqEn
  | 12 => s.irqOf Reg.fairwayEvents Reg.fairwayIrqEn
  | 13 => s.reg Reg.matrixErrStatus != 0
  | 22 => s.irqOf Reg.basinctlEvents Reg.basinctlIrqEn
  | 23 => ethIrq 0 2 0
  | 24 => ethIrq 0 6 3
  | 25 => ethIrq 0 8 7
  | 26 => ethIrq 1 2 0
  | 27 => ethIrq 1 6 3
  | 28 => ethIrq 1 8 7
  | 29 => s.irqOf Reg.ptpEvents Reg.ptpIrqEn
  | 46 => s.irqOf Reg.slipctlEvents Reg.slipctlIrqEn
  | 51 => s.irqOf Reg.scrubEvents Reg.scrubIrqEn
  | 52 => s.irqOf Reg.bbrEvents Reg.bbrIrqEn
  | 53 => s.irqOf Reg.reclaimEvents Reg.reclaimIrqEn
  | 54 => s.irqOf Reg.tempEvents Reg.tempIrqEn
  | _ => decide (n < 60) && s.pulses.testBit n

/-- A source's LEVEL. -/
def State.irqLevel (s : State) (n : Nat) : Nat := s.fld (Reg.intcLevel + 4 * (n / 8)) (4 * (n % 8) + 3) (4 * (n % 8))

/-- Whether a source is in service. -/
def State.inService (s : State) (n : Nat) : Bool := s.rbit (Reg.intcInservice + 4 * (n / 32)) (n % 32)

/-- Pending (R610): asserted and enabled by its level. -/
def State.irqPending (s : State) (n : Nat) : Bool := s.asserted n && s.irqLevel n != 0

/-- INTC_PEND0 and INTC_PEND1. -/
def State.pendWord (s : State) (w : Nat) : Word :=
  BitVec.ofNat 32 ((List.range 32).foldl (fun v i => v + (s.irqPending (32 * w + i)).toNat * 2 ^ i) 0)

/-- The source that the INTC offers: the highest level, and within it the lowest number, of those pending and not in service (R609, R610). -/
def State.offered (s : State) : Option Nat :=
  (List.range 64).foldl (fun best n =>
    if !s.irqPending n || s.inService n then best
    else match best with
      | none => some n
      | some b => if s.irqLevel n > s.irqLevel b then some n else best) none

/-- A source goes into service; a source without an event register is no longer asserted once it is taken. -/
def State.serve (s : State) (n : Nat) : State :=
  let t := s.setRbit (Reg.intcInservice + 4 * (n / 32)) (n % 32) true
  { t with pulses := if t.pulses.testBit n then t.pulses - 2 ^ n else t.pulses }

/-- A source's service ends (R610); a source that is still asserted pends again at once. -/
def State.endService (s : State) (n : Nat) : State := s.setRbit (Reg.intcInservice + 4 * (n / 32)) (n % 32) false

/-- INTC_CLAIM as read, and the claim (R610). -/
def State.claim (s : State) (who : Initiator) : State :=
  match s.offered with
  | none => s.busAnswer who .ok (leBytes 4 0x80000000)
  | some n => (s.serve n).busAnswer who .ok (leBytes 4 (n + 256 * s.irqLevel n))

/-- INTC_CLAIM. -/
def execIntcClaim (who : Initiator) (s : State) : Out := .next (s.toBlock who Reg.intcClaim fun t => t.claim who)

/-- INTC_COMPLETE. -/
def execIntcComplete (who : Initiator) (source : Nat) (s : State) : Out :=
  .next (s.toBlock who Reg.intcComplete fun t => t.endService (source % 64))

/-- INTC_END_SERVICE (R610): INTC_INSERVICE0 or 1 is W1C. -/
def execIntcEndService (who : Initiator) (index : Nat) (mask : Word) (s : State) : Out :=
  .next (if index ≥ 2 then s.busAnswer who .error else s.plainWrite who (Reg.intcInservice + 4 * index) mask)

/-! ### The window watchdog (R612 to R615) -/

/-- ELAPSED_MS. -/
def State.elapsedMs (s : State) : Nat := if s.rbit Reg.timerWdtCtrl 0 then min 16383 ((s.nowUs - s.wdtUs) / 1000) else 0

/-- An expiry: WDT_EXPIRY with the elapsed count, and the device reset with cause WDT, or DOUBLE_TRAP in error mode (R614). -/
def State.wdtExpire (s : State) (also : List Nat := []) : State :=
  if !s.rbit Reg.timerWdtCtrl 0 then s
  else
    let hmErr := s.rbit Reg.reclaimStatus 2
    let t := s.faultB 0x012 2 0x12 (BitVec.ofNat 32 s.elapsedMs)
    (if hmErr then t else t.lastFence 1 7 0).deviceResets ((if hmErr then Cause.doubleTrap else Cause.wdt) :: also)

/-- A write of TIMER_WDT_SERVICE (R612, R626): before MIN_MS, or with the count at MAX_MS already, it counts as expiry. -/
def State.wdtServe (s : State) (v : Word) : State :=
  if bits v 15 0 ≠ 0x3C96 then s.setRbit Reg.timerWdtStatus 18 true
  else if s.rbit Reg.timerWdtCtrl 0 && (decide (s.elapsedMs < s.fld Reg.timerWdtMin 13 0) || decide (s.fld Reg.timerWdtMax 13 0 ≤ s.elapsedMs)) then
    s.wdtExpire
  else { s with wdtUs := s.nowUs }

/-- WDT_SERVICE. -/
def execWdtService (who : Initiator) (value : Word) (s : State) : Out :=
  .next (s.toBlock who Reg.timerWdtService fun t => t.wdtServe value)

/-- WDT_PREWARN (R612): the count reaches three quarters of MAX_MS. -/
def execWdtPrewarn (s : State) : Out :=
  .next (if s.rbit Reg.timerWdtCtrl 0 then s.setRbit Reg.timerWdtStatus 17 true else s)

/-- WDT_EXPIRY (R614). -/
def execWdtExpiry (also : List Nat) (s : State) : Out := .next (s.wdtExpire also)

/-- MARK_COMPARE (R616): compare `n` fires while the watch cycle runs. -/
def execMarkCompare (n : Nat) (s : State) : Out :=
  .next (if decide (n < 4) && s.wc.running && s.rbit (Reg.timerMarkCmp + 4 * n) 31 then s.setRbit Reg.timerEvents (1 + n) true else s)

/-! ### OTP words (chapter 05, R90) -/

/-- A write of OTP_PROG_CMD with GO: an OTP word program starts, or is refused with PROG_ERR while the warning holds. -/
def State.otpGo (s : State) (v : Word) : State :=
  if !bit v 0 then s
  else if s.warning then s.setRbit Reg.otpStatus 3 true
  else if s.rbit Reg.otpStatus 1 then s
  else s.setRbit Reg.otpStatus 1 true

/-- OTP_PROG_CMD. -/
def execOtpProgCmd (who : Initiator) (value : Word) (s : State) : Out :=
  .next (s.guardedWrite who Reg.otpProgCmd fun t => (t.setReg Reg.otpProgCmd value).otpGo value)

/-- OTP_PROG_DONE: programming sets bits of the word at OTP_PROG_ADDR; PROG_ERR where it failed verification. -/
def execOtpProgDone (verified : Bool) (s : State) : Out :=
  .next (if !s.rbit Reg.otpStatus 1 then s
    else
      let a := (s.reg Reg.otpProgAddr).toNat
      let w := Store.get s.otp.raw a 0 ||| s.reg Reg.otpProgData
      let t := s.setRbit Reg.otpStatus 1 false
      let t := if verified then { t with otp := { t.otp with raw := Store.set t.otp.raw a w 0 } } else t.setRbit Reg.otpStatus 3 true
      t.raiseIrq 55)

end Sys2Proof.Machine
end

