-- ==== Sys2Proof/Machine/CmdRecorder.lean ====
section
/-! DEFINITION. Black-box and telemetry commands (Tables OPC-11 and OPC-12, R302 to R306, R894). -/

namespace Sys2Proof.Machine

/-! ### Black box -/

/-- BB_STATUS. -/
def bodyBbStatus : Body := fun _ q s =>
  if q.payload ≠ [] then refuseLen s else
  { state := s,
    payload := leBytes 1 (s.fld Reg.bbrStatus 0 0) ++ leBytes 1 (s.fld Reg.bbrStatus 2 1) ++ leBytes 2 (s.fld Reg.bbrPost 8 0) ++
      leBytes 2 (s.fld Reg.bbrHead 11 0) ++ leBytes 2 (s.fld Reg.bbrTrigger 11 0) ++ leBytes 4 (s.reg Reg.bbrTriggerCycle).toNat ++
      leBytes 4 (s.reg Reg.bbrWritten).toNat ++ leBytes 4 (s.reg Reg.bbrAnchorS).toNat ++
      leBytes 1 (s.fld Reg.sysctlResetCause 3 0) ++ zeros 3 }

/-- BB_READ, paged: wraps from index 4,095 to 0; NEXT is all ones when the requested COUNT is reached (R303). -/
def bodyBbRead : Body := fun ep q s =>
  let p := q.payload
  if p.length ≠ 4 then refuseLen s
  else if u16 p 0 > 4095 then refuseAt s St.tableRange 0
  else if u16 p 2 < 1 ∨ 4096 < u16 p 2 then refuseAt s St.tableRange 2
  else
    let n := min (u16 p 2) (pageSize (s.replyMax ep q) 8 16 256)
    { state := s,
      payload := leBytes 2 (u16 p 0) ++ leBytes 2 n ++
        leBytes 2 (if n = u16 p 2 then 0xFFFF else (u16 p 0 + n) % 4096) ++ zeros 2 ++
        (List.range n).flatMap fun i => (s.bbrEntry ((u16 p 0 + i) % 4096)).bytes }

/-- BB_MARK (R304); a mark of severity 1 to 6 is reported as a FAULT event (R872). -/
def bodyBbMark : Body := fun _ q s =>
  let p := q.payload
  if p.length ≠ 8 then refuseLen s
  else if u8 p 0 > 1 then refuseAt s St.reservedBits 0
  else if u8 p 1 > 7 then refuseAt s St.tableRange 1
  else match firstNonZero p 2 2 with
  | some o => refuseAt s St.reservedBits o
  | none =>
    if s.rbit Reg.bbrStatus 0 && decide (s.bbr.postLimit ≤ s.fld Reg.bbrPost 24 16) then refuse s St.wrongState
    else
      let t := s.bbrA 0x005 (u8 p 1) 0x13 (BitVec.ofNat 32 (u32 p 4)) (32 * (q.session % 8)) (u8 p 0 % 2 == 1)
      { state := if 1 ≤ u8 p 1 && u8 p 1 ≤ 6 then t.emitFault (u8 p 1) 0x13 0x005 (BitVec.ofNat 32 (u32 p 4)) else t,
        payload := leBytes 2 (s.fld Reg.bbrHead 11 0) }

/-- The release of the ring (R894): unfrozen, the drops cleared, WRITTEN restarted, and RELEASED written at HEAD. -/
def State.releaseRing (s : State) (session : Nat) : State :=
  let prev := s.fld Reg.bbrTrigger 11 0
  let drops := s.fld Reg.bbrDropped 15 0
  let t := (s.setFld Reg.bbrStatus 2 0 0).setReg Reg.bbrDropped 0
  let t := (t.setReg Reg.bbrWritten 0).setFld Reg.bbrPost 24 16 0
  t.bbrA 0x003 0 0x13 (BitVec.ofNat 32 (prev + 65536 * drops)) (32 * (session % 8))

/-- BB_RELEASE. -/
def bodyBbRelease : Body := fun _ q s =>
  let p := q.payload
  if p.length ≠ 4 then refuseLen s
  else if u16 p 0 ≠ s.fld Reg.bbrTrigger 11 0 then refuseAt s St.tableRange 0
  else if u16 p 2 > 256 ∧ u16 p 2 ≠ 0xFFFF then refuseAt s St.tableRange 2
  else if !s.rbit Reg.bbrStatus 0 then refuse s St.wrongState
  else
    let t := if u16 p 2 = 0xFFFF then s else s.setFld Reg.bbrPost 8 0 (u16 p 2)
    { state := t.releaseRing q.session }

/-! ### Telemetry -/

/-- The record length of a KIND (Table OPC-12). -/
def tmLength : Nat → Nat
  | 1 => 8
  | 2 => 36
  | 3 => 48
  | 4 => 64
  | _ => 48

/-- The telemetry limit of a transport in bytes per second (R306). -/
def tmLimit : Endpoint → Nat
  | .pcie _ => 262144
  | .udp .. => 32768
  | .hspi => 16384

/-- Event bytes of one delivery of a list of records to a transport of a given unit: 4 bytes and the record for each, and for every event that
these fill a header, 8 bytes in front and a CRC (R305, R306, R317). -/
def tmBytes (unit : Nat) (entries : List (Nat × Nat)) : Nat :=
  let all := (entries.map fun e => 4 + tmLength e.1).foldl (· + ·) 0
  let evs := entries.foldl (fun (x : Nat × Nat) e =>
    if x.2 ≠ 0 ∧ 8 + x.2 + (4 + tmLength e.1) > unit then (x.1 + 1, 4 + tmLength e.1) else (x.1, x.2 + (4 + tmLength e.1))) (1, 0)
  28 * evs.1 + all

/-- Bytes per second of a session's subscriptions at a period in µs, rounded up. -/
def tmRate (period : Nat) (l : List (Nat × Nat)) : Nat :=
  (l.map fun x => ceilDiv (x.1 * 1000000) (period * x.2)).foldl (· + ·) 0

/-- The smallest INTERVAL from `i` upward that keeps the session within its limit (R306). DESIGN CHOICE (log entry 186): when none does, the
subscription is accepted at 65,535. -/
def tmInterval (period limit : Nat) (others : List (Nat × Nat)) (bytes : Nat) (i : Nat) : Nat :=
  let room := limit - tmRate period others
  let need := if room = 0 then 65535 else ceilDiv (bytes * 1000000) (period * room)
  min 65535 (max i need)

/-- Whether an entry of TM_SUBSCRIBE is in range (R305). -/
def tmEntryOk (p : Bytes) (o : Nat) : Bool :=
  let k := u8 p o
  decide (1 ≤ k) && decide (k ≤ 5) &&
    (if k = 3 then decide (u16 p (o + 2) ≤ 127) else if k ≥ 4 then u16 p (o + 2) == 0 else true)

/-- TM_SUBSCRIBE (R305, R306, R846). DESIGN CHOICE (log entry 187): ASYNC is ignored, since it changes no state that the watch cycle uses. -/
def bodyTmSubscribe : Body := fun _ q s =>
  let p := q.payload
  let n := u8 p 2
  if p.length < 4 ∨ p.length ≠ 4 + 4 * n then refuseLen s
  else if u16 p 0 = 0 then refuseAt s St.tableRange 0
  else if n < 1 ∨ 32 < n then refuseAt s St.tableRange 2
  else if u8 p 3 > 1 then refuseAt s St.reservedBits 3
  else match (List.range n).findSome? fun i =>
      if !tmEntryOk p (4 + 4 * i) then some (St.tableRange, 4 + 4 * i)
      else if u8 p (5 + 4 * i) ≠ 0 then some (St.reservedBits, 5 + 4 * i) else none with
  | some (e, o) => refuseAt s e o
  | none => match s.session q.session with
    | none => refuse s St.wrongState
    | some x =>
      match (List.range 8).find? fun i => (Store.find? x.subs i).isNone with
      | none => refuse s St.noMemory
      | some id =>
        let entries := (List.range n).map fun i => (u8 p (4 + 4 * i), u16 p (6 + 4 * i))
        let others := x.subs.map fun e => (tmBytes (s.maxLength x.ep) e.2.entries, e.2.interval)
        let iv := tmInterval s.wc.periodUs (tmLimit x.ep) others (tmBytes (s.maxLength x.ep) entries) (u16 p 0)
        let eff := s.effectCycle
        let sub : Subscription := { interval := iv, onChange := u8 p 3 == 1, entries := entries, lastSent := [], sinceSent := [], firstCycle := eff }
        { state := s.updSession q.session fun x => { x with subs := Store.insert x.subs id sub },
          payload := leBytes 1 id ++ zeros 1 ++ leBytes 2 iv ++ leBytes 4 eff.toNat }

/-- TM_CANCEL. -/
def bodyTmCancel : Body := fun _ q s =>
  let p := q.payload
  if p.length ≠ 4 then refuseLen s
  else match firstNonZero p 1 3 with
  | some o => refuseAt s St.reservedBits o
  | none =>
    if u8 p 0 = 0xFF then { state := s.updSession q.session fun x => { x with subs := [] } }
    else if ((s.session q.session).bind fun x => Store.find? x.subs (u8 p 0)).isNone then refuse s St.wrongState
    else { state := s.updSession q.session fun x => { x with subs := Store.erase x.subs (u8 p 0) } }

def execBbStatus (q : Req) (s : State) : Out := s.runCommand q bodyBbStatus
def execBbRead (q : Req) (s : State) : Out := s.runCommand q bodyBbRead
def execBbMark (q : Req) (s : State) : Out := s.runCommand q bodyBbMark
def execBbRelease (q : Req) (s : State) : Out := s.runCommand q bodyBbRelease
def execTmSubscribe (q : Req) (s : State) : Out := s.runCommand q bodyTmSubscribe
def execTmCancel (q : Req) (s : State) : Out := s.runCommand q bodyTmCancel

end Sys2Proof.Machine
end

