-- ==== Sys2Proof/Machine/CmdMaint.lean ====
section
/-! DEFINITION. Maintenance and mirror commands (Table OPC-13, R307 to R309, R835 to R842). -/

namespace Sys2Proof.Machine

/-- Whether a channel has wear counts (R841). -/
def wears (c : Channel) : Bool := c.typ == ChType.valve || c.typ == ChType.pump

/-- WEAR_READ. -/
def bodyWearRead : Body := fun _ q s => s.named q fun slot c =>
  if !wears c then refuse s St.wrongType
  else if q.payload ≠ [] then refuseLen s
  else
    let w := Store.get s.wear slot {}
    let (g, r) := s.dutyOf q.handle
    { state := s,
      payload := leBytes 4 w.operations ++ leBytes 4 (w.runUs / 1000000) ++ leBytes 4 ((s.nowUs - w.sinceUs) / 1000000) ++
        leBytes 2 g ++ leBytes 1 r ++ zeros 1 }

/-- WEAR_RESET: the chosen counts to 0, SINCE_RESET_S restarted (R841). -/
def bodyWearReset : Body := fun _ q s => s.named q fun slot c =>
  let p := q.payload
  if !wears c then refuse s St.wrongType
  else if p.length ≠ 4 then refuseLen s
  else if u8 p 0 > 3 then refuseAt s St.reservedBits 0
  else match firstNonZero p 1 3 with
  | some o => refuseAt s St.reservedBits o
  | none =>
    let w := Store.get s.wear slot {}
    let w := { w with operations := if u8 p 0 % 2 = 1 then 0 else w.operations, runUs := if u8 p 0 / 2 = 1 then 0 else w.runUs,
                      sinceUs := s.nowUs }
    { state := { s with wear := Store.insert s.wear slot w } }

/-- Whether a run of a KIND is in progress or waits for its cycle (Table OPC-13). -/
def State.calBusy (s : State) (kind : Nat) : Bool :=
  (Store.find? s.cal.runs kind).isSome || s.changes.any fun x =>
    match x.change with
    | .calRun k .. => k == kind
    | _ => false

/-- The primary input: the lowest-numbered bound IN role (R835). -/
def State.primaryInput (s : State) (c : Channel) : Option RoleBind :=
  (s.rolesOf c.typ c.params).findSome? fun r => if r.isIn then c.roles.find? fun b => b.role == r.role else none

/-- Parts 6 to 8 of CAL_RUN. -/
def calRun (s : State) (q : Packet) : Rep :=
  let p := q.payload
  let k := u8 p 0
  if p.length ≠ 8 then refuseLen s
  else if k < 1 ∨ 5 < k then refuseAt s St.tableRange 0
  else match firstNonZero p 1 3 with
  | some o => refuseAt s St.reservedBits o
  | none =>
    if s.calBusy k then refuse s St.wrongState
    else
      let slot := if k ≤ 2 then slotOf q.handle else 0
      let (t, eff, _) := s.change .atCommit (.calRun k slot (s32 p 4) (s.notifyOf q true)) none
      { state := t, status := St.accepted, payload := leBytes 4 eff.toNat }

/-- CAL_RUN of any KIND: always ACCEPTED, effect E (R308). KIND 1 and 2 name a channel that has an input. -/
def bodyCalRun : Body := fun _ q s =>
  if u8 q.payload 0 = 1 ∨ u8 q.payload 0 = 2 then
    s.named q fun _ c => if (s.primaryInput c).isNone then refuse s St.wrongType else calRun s q
  else calRun s q

/-- CAL_READ. -/
def bodyCalRead : Body := fun _ q s =>
  let p := q.payload
  let k := u8 p 0
  if p.length ≠ 4 then refuseLen s
  else if k < 1 ∨ 5 < k then refuseAt s St.tableRange 0
  else match firstNonZero p 1 3 with
  | some o => refuseAt s St.reservedBits o
  | none =>
    let r := Store.get s.cal.results k {}
    { state := s, payload := leBytes 1 k ++ leBytes 1 r.result ++ zeros 2 ++ leInt 4 r.offset ++ leInt 4 r.gainPpm ++
        leBytes 4 r.cycle.toNat }

/-- Whether ROTATE_S fits MODE (Table EBB-4). -/
def rotateOk (mode rotate : Nat) : Bool :=
  if mode = 1 then decide (600 ≤ rotate) && decide (rotate ≤ 2592000) else rotate == 0

/-- DUTY_SET (R309, R842). -/
def bodyDutySet : Body := fun _ q s =>
  let p := q.payload
  let n := u8 p 2
  let h (i : Nat) : Nat := u16 p (8 + 2 * i)
  if p.length < 8 ∨ p.length ≠ 8 + 2 * n then refuseLen s
  else if u16 p 0 < 1 ∨ 16 < u16 p 0 then refuseAt s St.tableRange 0
  else if n > 8 then refuseAt s St.tableRange 2
  else if u8 p 3 > 2 then refuseAt s St.tableRange 3
  else if n ≠ 0 && !rotateOk (u8 p 3) (u32 p 4) then refuseAt s St.tableRange 4
  else match (List.range n).findSome? fun i =>
      match s.checkHandle (h i) with
      | .error _ => some (St.tableRange, 8 + 2 * i)
      | .ok c =>
        if c.typ != ChType.pump then some (St.wrongType, 0)
        else if (List.range i).any fun k => h k == h i then some (St.tableRange, 8 + 2 * i) else none with
  | some (e, o) => if e = St.wrongType then refuse s e else refuseAt s e o
  | none => changeRep s q .atCycle (.duty p)

/-- The fields of a set of mirror pairs: pair `f` joins fields `f` and `f + 8`. -/
def pairList (pairs : Nat) : List Nat := (List.range 8).filter fun f => pairs.testBit f

/-- MIRROR_SET; the copy of R478 counts in the check of a pair that it enables. -/
def bodyMirrorSet : Body := fun _ q s =>
  let p := q.payload
  let n := u8 p 0
  if p.length ≠ 4 then refuseLen s
  else match firstNonZero p 1 3 with
  | some o => refuseAt s St.reservedBits o
  | none =>
    let v := s.admitView
    let added := (pairList n).any fun f => !v.pairs.testBit f
    if (pairList n).any fun f => s.rbit Reg.sysctlPlainFail f || s.rbit Reg.sysctlPlainFail (f + 8) then refuse s St.wrongState
    else if (pairList n).any fun f => !v.pairs.testBit f && s.chans.any fun x => x.1 / 64 == f + 8 then refuse s St.dependent
    else if v.budgetNow v.chans < (v.costOf v.chans v.wc.decimation v.modelSize n + (if added then 8200 else 0) : Nat) then refuse s St.budget
    else changeRep s q .atCycle (.mirror n) (leBytes 1 n ++ zeros 3)

def execWearRead (q : Req) (s : State) : Out := s.runCommand q bodyWearRead
def execWearReset (q : Req) (s : State) : Out := s.runCommand q bodyWearReset
def execCalRunSensorZero (q : Req) (s : State) : Out := s.runCommand q bodyCalRun
def execCalRunSensorSpan (q : Req) (s : State) : Out := s.runCommand q bodyCalRun
def execCalRunTemp (q : Req) (s : State) : Out := s.runCommand q bodyCalRun
def execCalRunSupmon (q : Req) (s : State) : Out := s.runCommand q bodyCalRun
def execCalRunPlausibility (q : Req) (s : State) : Out := s.runCommand q bodyCalRun
def execCalRead (q : Req) (s : State) : Out := s.runCommand q bodyCalRead
def execDutySet (q : Req) (s : State) : Out := s.runCommand q bodyDutySet
def execMirrorSet (q : Req) (s : State) : Out := s.runCommand q bodyMirrorSet

end Sys2Proof.Machine
end

