-- ==== Sys2Proof/Machine/Transport.lean ====
section
/-! DEFINITION. The transports of Omneax: received units, fragments, timers of a session, PCIe mailboxes and endpoint, host SPI
(chapter 07, R65, R159, R761 to R769). -/

namespace Sys2Proof.Machine

/-! ### A received unit: checks 1 to 3, then 4 to 10 (Table CMD-3) -/

/-- A unit that a transport delivers (R214): SYNC, length, CRC, then the checks of a request. What arrives where nothing can be answered is lost
(R147, R162). -/
def State.receive (s : State) (ep : Endpoint) (unit : Bytes) (peer : Peer := ⟨0, none⟩) : State :=
  let q : Req := { ep := ep, pkt := Packet.ofBytes unit, mac := peer.mac, tci := peer.tci }
  let t := s.heard q
  if !s.hears ep then s
  else if unit.length < 2 ∨ u16 unit 0 ≠ 0x4F6D then s.countDiscard
  else if unit.length < 20 ∨ unit.length ≠ 20 + u16 unit 12 ∨ s.maxLength ep < u16 unit 12 then t.replyBare ep q.pkt St.badLength []
  else if s.harbourOpen ∧ (crc32 (unit.take (unit.length - 4))).toNat ≠ u32 unit (unit.length - 4) then t.replyBare ep q.pkt St.badCrc []
  else t.arrive q

/-- CONT_FRAGMENT (R228): a packet with CONT set that arrives. -/
def execContFragment (q : Req) (s : State) : Out :=
  let r := { q with pkt := { q.pkt with flags := q.pkt.flags ||| 4 } }
  .next ((s.heard r).arrive r)

/-! ### Timers of sessions -/

/-- ASSEMBLY_TIMEOUT (R229): no fragment for 1 s. -/
def execAssemblyTimeout (sess : Nat) (s : State) : Out := .next (s.updSession sess fun x => { x with assembly := none })

/-- SESSION_LIVENESS_EXPIRY (R222): the session vanishes. -/
def execSessionLivenessExpiry (sess : Nat) (s : State) : Out := .next (s.endSession sess)

/-- The SEQs from one on that are all there, at most `n` of them. -/
def runOf (l : List Half) (seq : Half) : Nat → List Half
  | 0 => []
  | n + 1 => if l.contains seq then seq :: runOf l (seq + 1) n else []

/-- UDP_GAP_EXPIRY (R241): the held requests of a session with a gap before them are discarded without reply; those whose gap has filled, and which
only wait for the requests before them, stay. -/
def execUdpGapExpiry (sess : Nat) (s : State) : Out :=
  .next (s.updSession sess fun x =>
    let there := runOf (((s.waiting sess x.ep) ++ x.heldReqs).map fun r => r.pkt.seq) x.expected 4
    { x with heldReqs := x.heldReqs.filter fun r => there.contains r.pkt.seq })

/-- AUTH_NONCE_EXPIRY (R250): the challenge lapses. -/
def execAuthNonceExpiry (sess : Nat) (s : State) : Out := .next (s.updSession sess fun x => { x with challenge := none })

/-- AUTH_LOCKOUT_EXPIRY (R253). -/
def execAuthLockoutExpiry (s : State) : Out := .next { s with omx := { s.omx with lockout := false } }

/-! ### PCIe mailboxes and host registers (R235 to R238, R763, R764) -/

/-- A write or doorbell without effect is counted in HOST_DISCARDS, which saturates (R763). -/
def State.hostDiscard (s : State) : State := { s with host := { s.host with discards := satU 32 (s.host.discards + 1) } }

/-- Whether a request of a pair is outstanding: it waits for the interpreter, or its reply is not acknowledged (R235). -/
def State.pairBusy (s : State) (n : Nat) : Bool :=
  (s.omx.interp.any fun q => decide (q.ep = .pcie n)) || (s.box n).replyReady || !(s.box n).replyWait.isEmpty

/-- A host's write of a register in BAR 0: it does not arrive while the endpoint is down, and a malformed one, not one aligned doubleword with all
byte enables, is discarded and counted (R120, R201, R762). -/
def State.bar0Write (s : State) (oneDword : Bool) (f : State → State) : State :=
  if s.pcieDown then s else if !oneDword then s.hostDiscard else f s

/-- The bytes that a doorbell submits: the request buffer to the count, with zeros past the buffer's end, where a count beyond the buffer names
none; one byte more than the buffer's largest packet already fails check 2 (R212, R214). -/
def doorbellUnit (buffer : Bytes) (count : Nat) : Bytes := (buffer ++ zeros (min count 8193 - buffer.length)).take count

/-- The doorbell of a pair once the firmware serves it (R235): while a request is outstanding it is ignored and counted. -/
def State.reqDoorbell (s : State) (pair : Nat) (buffer : Bytes) (count : Nat) : State :=
  if !s.rbit Reg.sysctlBootStatus 17 || s.pairBusy pair then s.hostDiscard
  else (s.setBox pair { s.box pair with reqBuf := buffer.take 8192 }).receive (.pcie pair) (doorbellUnit (buffer.take 8192) count)

/-- PCIE_REPLY_DOORBELL (R236): the reply is acknowledged, and a reply that waits takes its place. -/
def execPcieReplyDoorbell (pair : Nat) (oneDword : Bool) (s : State) : Out :=
  .next (s.bar0Write oneDword fun s =>
    let b := s.box pair
    if pair > 3 ∨ !b.replyReady then s.hostDiscard
    else match b.replyWait with
      | [] => s.setBox pair { b with replyBuf := none, replyReady := false }
      | p :: r => (s.setBox pair { b with replyBuf := some p, replyReady := true, replyWait := r }).raiseVector pair)

/-- Events that the host has passed when its consumer index comes to `i` (R237). -/
def Mailbox.consume (b : Mailbox) (i : Nat) : Mailbox :=
  let d := (i + 16384 - b.evCons) % 16384
  { b with evCons := i, evRing := b.evRing.filter fun e => decide (d ≤ (e.1 + 16384 - b.evCons) % 16384) }

/-- PCIE_EVT_CONS (R237): an index is a multiple of 16 within the share, and no further than the producer. -/
def execPcieEvtCons (pair index : Nat) (oneDword : Bool) (s : State) : Out :=
  .next (s.bar0Write oneDword fun s =>
    let b := s.box pair
    if pair > 3 ∨ index % 16 ≠ 0 ∨ index ≥ 16384 ∨ (b.evProd + 16384 - b.evCons) % 16384 < (index + 16384 - b.evCons) % 16384
    then s.hostDiscard else s.setBox pair (b.consume index))

/-- HOST_IRQ_STATUS_CLEAR (R763, R764). -/
def execHostIrqStatusClear (mask : Word) (oneDword : Bool) (s : State) : Out :=
  .next (s.bar0Write oneDword fun s => { s with host := { s.host with irqStatus := s.host.irqStatus &&& ~~~ mask } })

/-- HOST_STATE (Table HPS-3). -/
def State.hostState (s : State) : Word :=
  BitVec.ofNat 32 ((s.rbit Reg.sysctlBootStatus 17).toNat + 2 * s.harbourOpen.toNat + 4 * s.omx.resetAnnounced.toNat + 8 * s.warning.toNat +
    16 * (s.rbit Reg.sysctlBootStatus 13).toNat + 32 * (s.rbit Reg.sysctlBootStatus 14).toNat + 64 * s.host.bootWait.toNat +
    256 * (s.host.bootResult % 256))

/-- What a host register or the MSI-X structures read as in BAR 0; a reserved range reads 0 (R762, R763). -/
def State.bar0Reg (s : State) (off : Nat) : Word :=
  if off = 0 then s.reg Reg.sysctlIdcode
  else if off = 4 then s.hostState
  else if off = 8 then s.host.irqStatus
  else if off = 0x90 then BitVec.ofNat 32 s.host.discards
  else if 0x10 ≤ off ∧ off < 0x90 then
    let b := s.box ((off - 0x10) / 32)
    match (off - 0x10) % 32 / 4 with
    | 1 => BitVec.ofNat 32 (b.replyReady.toNat + 65536 * ((b.replyBuf.map fun p => p.encode.length).getD 0))
    | 3 => BitVec.ofNat 32 b.evProd
    | 4 => BitVec.ofNat 32 b.evCons
    | _ => 0
  else if 0x1000 ≤ off ∧ off < 0x1100 then s.host.msix.getD ((off - 0x1000) / 4) 0
  else if off = 0x1800 then BitVec.ofNat 32 s.host.msixPending
  else 0

/-- Whether HSPI has a packet that waits for the host (Table CMD-4). -/
def State.hspiEvents (s : State) : List Packet :=
  s.omx.sessions.flatMap fun p => if p.2.ep = .hspi then p.2.events else []

/-- The packets that wait on HSPI: replies first, then events in event-number order (R246). -/
def State.hspiWaiting (s : State) : List Packet := s.omx.hspiWait ++ s.hspiEvents

/-- HOST_IRQ_N asserted (R764). -/
def State.hostIrq (s : State) : Bool :=
  match s.host.irqMode with
  | 1 => !s.rbit Reg.pcieStatus 5 && s.host.irqStatus != 0
  | 2 => !s.hspiWaiting.isEmpty
  | _ => false

/-! ### Configuration space (R159, R761) -/

/-- The configuration space as read: the type 0 header of PCI, and the capabilities of R761 at places that the family's convention
leaves to the part (log entry 16). -/
def State.configRead (s : State) (off : Nat) : Word :=
  match off / 4 * 4 with
  | 0x00 => 0xB1601E5B
  | 0x04 => BitVec.ofNat 32 (0x00100000 + 2 * s.host.memEnable.toNat + 4 * s.host.busMaster.toNat)
  | 0x08 => 0x118000B1
  | 0x10 => (s.host.bars.getD 0 0 &&& 0xFFFC0000) ||| 4
  | 0x14 => s.host.bars.getD 1 0
  | 0x18 => (s.host.bars.getD 2 0 &&& 0xFF000000) ||| 4
  | 0x1C => s.host.bars.getD 3 0
  | 0x2C => BitVec.ofNat 32 (s.host.subsysVendor + 65536 * s.host.subsysId)
  | 0x34 => 0x40
  | 0x40 => 0x00035001
  | 0x44 => BitVec.ofNat 32 s.host.powerState
  | 0x50 => putBit 0x000F7011 31 (s.rbit Reg.pcieStatus 5)
  | 0x70 => 0x00020010
  | 0x74 => 0x10008001
  | _ => 0

/-- The list with one element replaced. -/
def setNth {α : Type} (l : List α) (i : Nat) (v : α) : List α := l.take i ++ (if i < l.length then [v] else []) ++ l.drop (i + 1)

/-- The configuration space as written. -/
def State.configWrite (s : State) (off : Nat) (v : Word) : State :=
  match off / 4 * 4 with
  | 0x04 => { s with host := { s.host with memEnable := bit v 1, busMaster := bit v 2 } }
  | 0x10 => { s with host := { s.host with bars := setNth s.host.bars 0 v } }
  | 0x14 => { s with host := { s.host with bars := setNth s.host.bars 1 v } }
  | 0x18 => { s with host := { s.host with bars := setNth s.host.bars 2 v } }
  | 0x1C => { s with host := { s.host with bars := setNth s.host.bars 3 v } }
  | 0x44 => { s with host := { s.host with powerState := if bits v 1 0 = 3 then 3 else 0 } }
  | 0x50 => s.setRbit Reg.pcieStatus 5 (bit v 31)
  | _ => s

/-- PCIE_CONFIG_REQUEST (R159). -/
def execPcieConfigRequest (write : Bool) (offset : Nat) (value : Word) (s : State) : Out :=
  .next (if s.pcieDown then s
    else if !s.rbit Reg.sysctlBootStatus 17 then
      { s with host := { s.host with completion := some .retry, configRetry := s.host.configRetry + 1 } }
    else if write then
      let t := s.configWrite offset value
      { t with host := { t.host with completion := some (.data 0) } }
    else { s with host := { s.host with completion := some (.data (s.configRead offset)) } })

/-! ### Endpoint resets and the link (R65, R223, R765) -/

/-- Every PCIe session vanishes (R223). -/
def State.vanishPcie (s : State) : State :=
  s.omx.sessions.foldl (fun t p => match p.2.ep with
    | .pcie _ => t.endSession p.1
    | _ => t) s

/-- The endpoint and its configuration space reset; requests in flight, replies and events are discarded (R65, R765, R790). -/
def State.resetEndpoint (s : State) : State :=
  let t := s.vanishPcie
  let t := { t with omx := { t.omx with boxes := [], interp := t.omx.interp.filter fun q => match q.ep with
    | .pcie _ => false
    | _ => true } }
  let h : HostPorts := { t.host with memEnable := false, busMaster := false, powerState := 0, bars := [0, 0, 0, 0], irqStatus := 0,
                                     msix := msixReset, msixPending := 0,
                                     discards := 0, completion := none, linkDownPending := false }
  { t with host := h }.setRbit Reg.pcieStatus 5 false

/-- PERST_N_ASSERT (R65, R223). -/
def execPerstNAssert (s : State) : Out :=
  let t := s.monitor 0 false
  .next ({ t.resetEndpoint with host := { t.resetEndpoint.host with perst := true } }.setFld Reg.pcieStatus 4 0 0)

/-- PERST_N_DEASSERT: link training starts (R159). -/
def execPerstNDeassert (s : State) : Out := .next { s with host := { s.host with perst := false } }

/-- FUNCTION_LEVEL_RESET (R765): a request of the host, which an endpoint that is down does not receive. -/
def execFunctionLevelReset (s : State) : Out := .next (if s.pcieDown then s else s.resetEndpoint)

/-- PCIE_LINK_DOWN_EXPIRY (R223): the link has been out of L0 for longer than 100 ms. -/
def execPcieLinkDownExpiry (s : State) : Out :=
  .next (if s.host.linkDownPending then { s.vanishPcie with host := { s.vanishPcie.host with linkDownPending := false } } else s)

/-- PCIE_LINK_STATE_CHANGE (R223, R766): entering L0 cancels the timer, leaving it starts the timer; PCIE_STATUS shows the link. DESIGN CHOICE
(log entry 169): the firmware enables the PIPE monitor when the link enters L0, and clears it when PERST_N is asserted (R116). -/
def execPcieLinkStateChange (up : Bool) (gen width : Nat) (s : State) : Out :=
  let t := (((s.setRbit Reg.pcieStatus 0 up).setFld Reg.pcieStatus 2 1 (if up then gen else 0))).setFld Reg.pcieStatus 4 3 (if up then width else 0)
  .next (if s.pcieDown && up then s
    else
      let t := if up then t.monitor 0 true else t
      { t with host := { t.host with linkDownPending := !up } })

/-! ### Host SPI (R243 to R246, R768, R769) -/

/-- A transaction that ends early or is invalid is discarded and counted (R245). -/
def State.hspiFraming (s : State) : State := s.addFld Reg.hspiCount 15 0 1

/-- The HSPI unit hears a transaction: the device is out of reset and so is the containment domain of HSPI (R53, R769). -/
def State.hspiUp (s : State) : Bool := !s.boot.held && !s.reclaim.inReset.contains 8

/-- Whether the ROM waits for an image over HSPI (R770). -/
def State.hspiLoading (s : State) : Bool := s.host.bootWait && s.boot.mode == 2

/-- ROOM: HSPI has one request outstanding at a time (R246); while the ROM waits for an image over HSPI it takes a chunk (R770). -/
def State.hspiRoom (s : State) : Bool :=
  s.hspiLoading || (s.boot.imaged && !(s.omx.interp.any fun q => decide (q.ep = .hspi)) && s.omx.hspiWait.isEmpty)

/-- The length field of an HSPI command word (R243). -/
def hspiLength (command : Word) : Nat := bits command 23 8

/-- Whether a command word is a valid one of its operation: byte 0 names it, byte 3 is zero, and the length is in its range (Table CMD-4). -/
def hspiValid (op lo hi : Nat) (command : Word) : Bool :=
  bits command 7 0 == op && bits command 31 24 == 0 && decide (lo ≤ hspiLength command) && decide (hspiLength command ≤ hi)

/-- Whether a WRITE_PACKET carries a whole packet that the device has room for; otherwise it is a framing error (R243, R245). A load chunk,
8 bytes and its data, is shorter than a packet may be (R770). -/
def State.hspiWhole (s : State) (command : Word) (clocked : Bytes) : Bool :=
  hspiValid 1 (if s.hspiLoading then 12 else 20) 8212 command && clocked.length == hspiLength command && s.hspiRoom

/-- The 4 bytes of READ_STATUS (Table CMD-4, R770, R771). -/
def State.hspiStatus (s : State) : Bytes :=
  let w := s.hspiWaiting
  leBytes 1 (s.hspiRoom.toNat + 2 * (!w.isEmpty).toNat + 4 * s.host.bootWait.toNat) ++ leBytes 1 s.host.bootResult ++
    leBytes 2 ((w.head?.map fun p => p.encode.length).getD 0)

/-- HSPI_READ_STATUS (R243, R245, R768): the turnaround byte, then `clocked` bytes of the data phase. One that ends early or whose command word is
invalid is a framing error. -/
def execHspiReadStatus (command : Word) (clocked : Nat) (s : State) : Out :=
  .next (if !s.hspiUp then s
    else if !hspiValid 2 0 0 command then s.hspiFraming
    else
      let t := { s with host := { s.host with hspiOut := 0 :: s.hspiStatus.take clocked } }
      if clocked < 4 then t.hspiFraming else t)

/-- The first waiting packet taken away. -/
def State.hspiPop (s : State) : State :=
  match s.omx.hspiWait with
  | _ :: r => { s with omx := { s.omx with hspiWait := r } }
  | [] => { s with omx := { s.omx with sessions := Store.mapKV s.omx.sessions fun _ x =>
      if x.ep = .hspi then { x with events := x.events.drop 1 } else x } }

/-- HSPI_READ_PACKET (R243, R245, R246, R768): the turnaround byte, then the packet; the length is that of the waiting packet; a read that ends early leaves the packet waiting. -/
def execHspiReadPacket (command : Word) (clocked : Nat) (s : State) : Out :=
  .next (if !s.hspiUp then s else match s.hspiWaiting with
    | [] => s.hspiFraming
    | p :: _ =>
      if !hspiValid 3 p.encode.length p.encode.length command then s.hspiFraming
      else
        let t := { s with host := { s.host with hspiOut := 0 :: p.encode.take clocked } }
        if clocked < p.encode.length then t.hspiFraming else t.hspiPop)

end Sys2Proof.Machine
end

