-- ==== Sys2Proof/Machine/Faults.lean ====
section
/-! DEFINITION. Faults and reclaim: containment domains, leases, the fence sequence, escalation, the thermal governor (chapter 24), and
the clocks (chapter 04). -/

namespace Sys2Proof.Machine

/-! ### Stations behind a lost link -/

/-- A station that is held, in JOINING, MOORED or SLACK, and whose link is lost becomes LOST with cause 2 (R396, R406). -/
def State.linkLost (s : State) (id : Nat) : State :=
  match (s.station id).state with
  | .joining | .moored | .slack => s.stationTo id .lost 2
  | _ => s

/-- The stations for which a test holds lose their link, in ascending order. -/
def State.linksLost (s : State) (p : Nat → Station → Bool) : State :=
  ((s.tl.stations.filter fun (x : Nat × Station) => p x.1 x.2).map fun (x : Nat × Station) => x.1).foldl State.linkLost s

/-- The network stations on a port (Table CLK-6). -/
def State.portLost (s : State) (port : Nat) : State := s.linksLost fun id x => decide (id < 112) && x.port == port

/-! ### Fairway nodes under a fence (R717 to R719) -/

/-- The epoch of a node's initiator. -/
def State.epoch (s : State) (node : Nat) : Nat := s.fld (Reg.fairwayState + 16 * node) 3 0

/-- A node's epoch advances by 1, modulo 16. -/
def State.nextEpoch (s : State) (node : Nat) : State := s.setFld (Reg.fairwayState + 16 * node) 3 0 ((s.epoch node + 1) % 16)

/-- A fence as initiator: the epoch advances and all TIDs are free. -/
def State.fenceInitiator (s : State) (node : Nat) : State :=
  let t := (s.setRbit Reg.fairwayFence node true).nextEpoch node
  { t with fw := { t.fw with
    tids := t.fw.tids.filter fun (x : Nat × FwTid) => x.1 / 256 != node
    quarantine := t.fw.quarantine.filter fun (x : Nat × Nat) => x.1 != node } }

/-- A fence as endpoint: requests in the wake buffer are answered FENCED. -/
def State.fenceEndpoint (s : State) (node : Nat) : State :=
  let t := s.setRbit Reg.fairwayFence (16 + node) true
  match Store.find? t.fw.wake node with
  | none => t
  | some p =>
    let r : FwPacket := { dst := p.src, src := node, kind := 9, qos := p.qos, tid := p.tid, epoch := p.epoch, status := 5 }
    { t with fw := { t.fw with wake := Store.erase t.fw.wake node, responses := t.fw.responses ++ [r] } }

/-- The nodes where a domain is an initiator, and where it is an endpoint (Tables FWY-1 and FLT-2). -/
def domainInitiators : Nat → List Nat
  | 5 => [6]
  | 6 => [7]
  | 7 => [8]
  | 8 => [9]
  | 9 => [10]
  | 11 => [12]
  | 12 => [14]
  | _ => []

def domainEndpoints : Nat → List Nat
  | 3 => [1]
  | 7 => [8]
  | _ => []

/-- The fence of a domain at its nodes. -/
def State.fenceNodes (s : State) (d : Nat) : State :=
  (domainEndpoints d).foldl State.fenceEndpoint ((domainInitiators d).foldl State.fenceInitiator s)

/-- The fence of a domain's nodes ends. -/
def State.unfenceNodes (s : State) (d : Nat) : State :=
  (domainEndpoints d).foldl (fun t n => t.setRbit Reg.fairwayFence (16 + n) false)
    ((domainInitiators d).foldl (fun t n => t.setRbit Reg.fairwayFence n false) s)

/-! ### What a domain reset clears (Table FLT-2) -/

/-- The general DMA: channels that run stop with ERR. -/
def State.stopDma (s : State) : State :=
  (List.range 8).foldl (fun t n =>
    let a := Reg.matrixDmaStatus + 32 * n
    if t.rbit a 0 then (t.setRbit a 0 false).setRbit a 2 true else t) s

/-- The Quay: the pass in progress ends ABORTED and its cycle is LATE; the QUAY registers are kept. -/
def State.resetQuay (s : State) : State :=
  if s.fld Reg.quayStatus 2 0 = 0 then s
  else
    let t := (s.setReg Reg.quayStatus 0).setRbit Reg.quayEvents 2 true
    if s.fld Reg.quayStatus 2 0 ≤ 2 then t.endCycle .late else t

/-- A port's MAC: the frames in flight, its queues and what its rings hold are lost, and every receive ring stops (R755); counters and
registers are kept. -/
def State.resetMac (s : State) (port : Nat) : State :=
  let m := s.macs.getD port {}
  let t := { s with
    tx := s.tx.filter fun x => x.port != port
    macs := s.macs.set port { m with fifo := [], inbox := [], sending := none, passed := [], order := [] } }
  ((List.range 3).foldl (fun (u : State) r => u.ringStop port r true) t).setRbit (Reg.ethEvents + 65536 * port) 8 true

/-- The UART, CAN and HSPI cluster: all controllers with their registers, and stations 112 to 123 lose their links. -/
def State.resetCluster (s : State) : State :=
  let mine (a : Nat) : Bool := [Reg.canCtrl, Reg.uartCtrl, Reg.hspiCount].any fun b => a / 65536 == b / 65536
  let t := { s with
    uarts := [], cans := [], omx := { s.omx with hspiWait := [] }, host := { s.host with hspiOut := [] }
    regs := s.regs.filter (fun (x : Nat × Word) => !mine x.1), deferred := s.deferred.filter fun x => !mine x.1 }
  t.linksLost fun id _ => decide (112 ≤ id) && decide (id ≤ 123)

/-- The Harbour firmware makes a unit ready again before it writes RECLAIM_UNFENCE (R862). DEDUCED (log entry 216): the cluster's enabled
built-in stations are set up again; the other units keep their registers, so that they read and write nothing that changes. -/
def State.reinit (s : State) (d : Nat) : State :=
  if d = 8 && s.reports then
    (List.range 12).foldl (fun (u : State) i => if (u.station (112 + i)).enabled then u.setPort (112 + i) else u) s
  else s

/-- A fenced queue controller: its lock ends, its block memory and state are cleared, and the design keeps running (R800). -/
def State.fenceQc (s : State) (n : Nat) : State :=
  let t := (s.setReg (Reg.slipctlQcStatus + 16 * n) (putBits (s.reg (Reg.slipctlQcStatus + 16 * n)) 15 0 1)).setRbit Reg.slipctlEvents 6 true
  { t with slip := { t.slip with qcs := Store.erase t.slip.qcs n } }

/-- The domain reset of step 4 (Table FLT-4). -/
def State.domainReset (s : State) (d : Nat) : State :=
  match d with
  | 2 => s.arrReset
  | 3 => s.resetQuay
  | 4 => s.stopDma
  | 5 => s.resetMac 0
  | 6 => s.resetMac 1
  | 7 => s.resetEndpoint
  | 8 => s.resetCluster
  | 11 => { s with scrub := {} }.setReg Reg.scrubPlainPos 0
  | _ => s

/-- Whether step 4 resets the domain: not the HM, the queue controllers and debug (R859). -/
def resetsDomain (d : Nat) : Bool := [2, 3, 4, 5, 6, 7, 8, 9, 11, 12].contains d


/-- Whether Table FLT-2 unfences the domain at reset release. -/
def autoUnfence (d : Nat) : Bool := [2, 5, 6, 7].contains d

/-! ### The fence sequence (R858 to R865) -/

/-- The FENCE entry, RECLAIM_LAST, the count and the event (R858, R873). -/
def State.fenceEntry (s : State) (d lease res low severity : Nat) : State :=
  let t := s.faultB 0x035 severity 0x12 (BitVec.ofNat 32 (d % 256 + 256 * (lease % 16) + 4096 * (res % 16) + 65536 * (low % 65536)))
  ((t.lastFence d lease res).addFld Reg.reclaimCount 15 0 1).setRbit Reg.reclaimEvents 0 true

/-- Automatic unfences of a domain within the last 60 s. -/
def State.recentUnfences (s : State) (d : Nat) : Nat :=
  (s.reclaim.autoUnfences.filter fun (x : Nat × Nat) => x.1 == d && decide (s.nowUs < x.2 + 60000000)).length

/-- A device reset by the Reclaim controller (R864). -/
def State.escalate (s : State) : State := (s.addFld Reg.reclaimCount 31 24 1).deviceReset Cause.reclaim

/-- A fence storm: the domain has been unfenced automatically 8 times within 60 s, so that STORM holds its next fence (R865). -/
def State.stormHolds (s : State) (d : Nat) : State := (s.setRbit Reg.reclaimFenced (16 + d) true).setRbit Reg.reclaimEvents 1 true

/-- The fence of the HM at one target port (R860), or the device reset that R864 asks for. While it holds, an expiry of the HM at another port
has no effect either (R861). -/
def State.fenceHm (s : State) (lease port low : Nat) : State :=
  let again := match s.reclaim.hmFenceEnd with
    | some t => decide (s.nowUs < t + 1000000)
    | none => false
  if s.domainFenced 1 then s
  else if again then s.escalate
  else
    let storm := decide (s.recentUnfences 1 ≥ 8)
    let t := { s with reclaim := { s.reclaim with hmPorts := [port] } }
    let t := if storm then t.stormHolds 1 else t
    ((t.setRbit Reg.reclaimStatus 3 true).setRbit Reg.reclaimFenced 1 true).fenceEntry 1 lease port low (if storm then 4 else 3)

/-- The fence sequence (Table FLT-4, R858 to R861, R864, R865). A second expiry of a fenced domain changes nothing, so that the command
FENCE_SEQUENCE after the command of the lease's expiry does not run it twice; a domain reset in progress is not lengthened. -/
def State.fence (s : State) (domain lease resource low : Nat) : State :=
  (if s.boot.held || domain = 0 || domain > 13 then s
    else if domain = 1 then s.fenceHm lease resource low
    else if s.domainFenced domain && domain ≠ 10 then s
    else if domain = 10 then
      if s.rbit (Reg.slipctlQcStatus + 16 * resource) 0 || decide (24 ≤ resource) then s
      else ((s.fenceQc resource).setRbit Reg.reclaimFenced 10 true).fenceEntry 10 lease resource low 3
    else
      let storm := autoUnfence domain && decide (s.recentUnfences domain ≥ 8)
      let t := (s.setRbit Reg.reclaimFenced domain true).fenceNodes domain
      let t := if storm then t.stormHolds domain else t
      let t := t.fenceEntry domain lease resource low (if resetsDomain domain then 4 else 3)
      if resetsDomain domain && !s.reclaim.inReset.contains domain then
        let t := { t with reclaim := { t.reclaim with
          inReset := if domain = 2 then t.reclaim.inReset else t.reclaim.inReset ++ [domain] } }
        t.domainReset domain
      else t)

/-- A domain is unfenced: its bit and its STORM bit clear, and its nodes serve again (R862). -/
def State.unfence (s : State) (d : Nat) : State :=
  let t := ((s.setRbit Reg.reclaimFenced d false).setRbit Reg.reclaimFenced (16 + d) false).unfenceNodes d
  let t := if d = 1 then { t with reclaim := { t.reclaim with hmPorts := [], hmFenceEnd := some s.nowUs } }.setRbit Reg.reclaimStatus 3 false else t
  if d = 10 then (List.range 24).foldl (fun u n => u.setRbit (Reg.slipctlQcStatus + 16 * n) 0 false) t else t

/-- A domain is unfenced automatically, unless STORM holds it; the time is kept for R865. -/
def State.autoLift (s : State) (d : Nat) : State :=
  if s.rbit Reg.reclaimFenced (16 + d) || !s.domainFenced d then s
  else
    let l := s.reclaim.autoUnfences
    { s with reclaim := { s.reclaim with autoUnfences := (l ++ [(d, s.nowUs)]).drop (l.length - 127) } }.unfence d

/-- RECLAIM_UNFENCE (R862, R877): no effect for a domain that is not fenced. Written by the HM, it follows the firmware's own work on the unit. -/
def execReclaimUnfence (who : Initiator) (domain : Nat) (s : State) : Out :=
  .next (s.guardedWrite who Reg.reclaimUnfence fun t =>
    let t := t.setFld Reg.reclaimUnfence 4 0 domain
    if domain > 14 || !t.domainFenced domain then t
    else if t.reclaim.inReset.contains domain then
      { t with reclaim := { t.reclaim with unfenceAtRelease := t.reclaim.unfenceAtRelease ++ [domain] } }
    else (if who.master ≤ 1 then t.reinit domain else t).unfence domain)

/-- HM_FENCE_LIFT (R860): 10 µs after the fence of one target, unless STORM holds it (R865). -/
def execHmFenceLift (port : Nat) (s : State) : Out := .next (if s.reclaim.hmPorts.contains port then s.autoLift 1 else s)

/-- TAP_TEST_LOGIC_RESET (R863): the debug domain is unfenced. -/
def execTapTestLogicReset (s : State) : Out := .next (if s.domainFenced 13 then s.unfence 13 else s)

/-! ### Lease expiries (Table FLT-3) -/

/-- The domain of a matrix master (Table FLT-2); M3 is fenced at its node. -/
def masterDomain (m : Nat) : Nat := if m ≤ 1 then 1 else if m = 2 then 4 else if m = 4 then 13 else 0

/-- The domain whose unit initiates at a node. -/
def nodeDomain (n : Nat) : Nat := ((List.range 14).find? fun d => (domainInitiators d).contains n).getD 0

/-- INJECTION_LEASE_EXPIRY (R856): the node ends the packet itself with poisoned flits; the initiator is fenced with lease code 3, and
the response that the endpoint sends to it is discarded. -/
def execInjectionLeaseExpiry (node tid : Nat) (s : State) : Out := .next (s.fence (nodeDomain node) 3 node tid)


/-- QUAY_PASS_TIMEOUT (R867): a pass that has lasted 2P; the Quay is fenced with lease code 9 and reset. -/
def execQuayPassTimeout (s : State) : Out := .next (if s.fld Reg.quayStatus 2 0 = 0 then s else s.fence 3 9 1 0)

/-! ### Resets with a cause of their own (R133, Table BOT-1) -/

/-! The operand `also` of a source names the causes that fire in the same SVO_CLK cycle (R135). -/

/-- PIN_RESET. -/
def execPinReset (also : List Nat) (s : State) : Out := .next (s.deviceResets (Cause.pin :: also))

/-- JTAG_SYSRESET (R621): refused when JTAG_LOCK is set. -/
def execJtagSysreset (also : List Nat) (s : State) : Out := .next (if s.otp.jtagLock then s else s.deviceResets (Cause.jtag :: also))

/-- SYSCTL_SWRESET. -/
def execSysctlSwreset (who : Initiator) (s : State) : Out := .next (s.guardedWrite who Reg.sysctlSwreset fun t => t.deviceReset Cause.host)

/-- DOUBLE_TRAP (R607, R871): 1 ms after the HM entered error mode. -/
def execDoubleTrap (also : List Nat) (s : State) : Out :=
  .next (if s.rbit Reg.reclaimStatus 2 then s.deviceResets (Cause.doubleTrap :: also) else s)

/-! ### The thermal governor (R839, R870) -/

/-- TEMP_MAX as it stands in the entries. -/
def State.tempMax (s : State) : Nat := s.fld Reg.tempMax 15 0

/-- One sensor's reading in hundredths of a degree, the offset not yet added; out of range marks the sensor failed. -/
def State.sense (s : State) (i : Nat) (r : Option Int) : State :=
  let v : Int := r.getD 32767 + (BitVec.ofNat 16 (s.fld Reg.tempOffset 15 0)).toInt
  let good := r.isSome && decide (-5500 ≤ v) && decide (v ≤ 15000)
  let t := if r.isSome then s.setFld (Reg.tempSensor + 4 * i) 15 0 (BitVec.ofInt 16 (satS 16 v)).toNat else s
  if good || t.rbit Reg.tempMax (16 + i) then t else (t.setRbit Reg.tempMax (16 + i) true).setRbit Reg.tempEvents 0 true

/-- The highest reading among the sensors that report in range. -/
def State.formMax (s : State) : State :=
  let vals := (List.range 6).filterMap fun i =>
    if s.rbit Reg.tempMax (16 + i) then none else some (BitVec.ofNat 16 (s.fld (Reg.tempSensor + 4 * i) 15 0)).toInt
  match vals with
  | [] => s
  | v :: r => s.setFld Reg.tempMax 15 0 (BitVec.ofInt 16 (r.foldl max v)).toNat

/-- TEMP_SAMPLE (R839): the six sensors; a thermal hold ends once sensor 0 reads below 100 °C. -/
def execTempSample (readings : List (Option Int)) (s : State) : Out :=
  .next (if !s.rbit Reg.tempCtrl 0 then s
    else
      let t := (List.range 6).foldl (fun u i => u.sense i (readings.getD i none)) s
      let t := t.formMax
      let cool : Bool := match readings.headD none with
        | some v => decide (v < 10000)
        | none => false
      if cool then { t with boot := { t.boot with hot := false } } else t)

/-- A change of THERM_STEP. -/
def State.thermStep (s : State) (n : Nat) : State := (s.setFld Reg.reclaimStatus 1 0 n).setRbit Reg.reclaimEvents 2 true

/-- Step 2 of the governor. -/
def State.thermStep2 (s : State) : State :=
  ((s.setRbit Reg.clkgenCtrl 0 true).thermStep 2).faultB 0x019 3 0x12 (BitVec.ofNat 32 s.tempMax)

/-- THERMAL_STEP1, which the Harbour firmware runs: the decimation doubles up to 16 and a pass in progress keeps its slicing (R42, R452, R870);
where it is 16 already, step 2 follows at once. -/
def execThermalStep1 (s : State) : Out :=
  .next (if !s.reports || s.fld Reg.reclaimStatus 1 0 ≠ 0 then s
    else
      let n := min 16 (2 * s.wc.decimation)
      let t := { s with wc := { s.wc with decimation := n } }.thermStep 1
      let t := t.faultF 0x018 2 0x01 (BitVec.ofNat 32 (t.tempMax + 65536 * n))
      if s.wc.decimation = 16 then t.thermStep2 else t)

/-- THERMAL_STEP2 (R43, R870): ARR_HALF is requested; the change itself is ARR_HALF_CHANGE. -/
def execThermalStep2 (s : State) : Out := .next (if s.fld Reg.reclaimStatus 1 0 = 2 then s else s.thermStep2)

/-- THERMAL_CLEAR (R870): step 2 clears ARR_HALF and writes THERM_CLEAR; step 1 ends without an entry. -/
def execThermalClear (s : State) : Out :=
  .next (match s.fld Reg.reclaimStatus 1 0 with
    | 0 => s
    | 2 => ((s.setRbit Reg.clkgenCtrl 0 false).thermStep 0).faultB 0x01A 1 0x12 (BitVec.ofNat 32 s.tempMax)
    | _ => s.thermStep 0)

/-- THERMAL_SHUTDOWN (R870): the entry, and the device reset that is held until sensor 0 has cooled. -/
def execThermalShutdown (also : List Nat) (s : State) : Out :=
  let t := (s.faultB 0x01B 6 0x12 (BitVec.ofNat 32 s.tempMax)).deviceResets (Cause.thermal :: also)
  .next { t with boot := { t.boot with hot := true } }

end Sys2Proof.Machine
end

