-- ==== Sys2Proof/Machine/Fabric.lean ====
section
/-! DEFINITION. The Slipway: blank state, applies, queue controllers, virtual stations, the register window, shadow captures (chapter 22),
and the images of built-in stations (R568, R772). -/

namespace Sys2Proof.Machine

/-! ### Images of built-in stations (Table QUY-2, R568, R772) -/

/-- The address of a buffer of a built-in station's input image. -/
def imageAddr (id buf : Nat) : Nat := 0x22010000 + 512 * (id - 112) + 256 * buf

/-- The address of a built-in station's output image. -/
def outImageAddr (id : Nat) : Nat := 0x22012000 + 256 * (id - 112)

/-- The buffer that a built-in station writes: the cycle's, and from its gather deadline on the next cycle's. -/
def State.imageBuf (s : State) : Nat := (s.wc.cycle.toNat + (s.wc.running && s.wc.gathered).toNat) % 2

/-- A point entry (R379). -/
def pointEntry (point : Nat) (q : Byte) (v : Int) : Bytes := leBytes 1 point ++ [q] ++ leInt 2 v

/-- The status entry of an input image, from the number of polls, frames or posts since the previous gather deadline (R772). -/
def statusEntry (n : Nat) : Bytes := pointEntry 0xFF 1 (min n 32767)

/-- The index of a point in the image: the status entry is entry 0, and the IN points follow in ascending order. -/
def State.imageIndex (s : State) (id point : Nat) : Option Nat :=
  let pts := (inPoints id (s.station id).config).mergeSort (fun a b => decide (a ≤ b))
  (pts.findIdx? fun p => p == point).map fun i => i + 1

/-- The status entry written. -/
def State.putStatus (s : State) (id : Nat) : State :=
  { s with mem := Memory.writeBytes s.mem (imageAddr id s.imageBuf) (statusEntry (s.station id).nDone) }

/-- A point of a built-in station written into its image, and kept for the next gather deadline. -/
def State.putPoint (s : State) (id point : Nat) (q : Byte) (v : Int) : State :=
  match s.imageIndex id point with
  | none => s
  | some i =>
    let t := { s with mem := Memory.writeBytes s.mem (imageAddr id s.imageBuf + 4 * i) (pointEntry point q v) }
    let st := t.station id
    t.setStation id { st with inbox := Store.insert st.inbox point (q, v), pointUs := Store.insert st.pointUs point s.nowUs }

/-! ### The blank state (R814) -/

/-- A virtual station's signals. -/
def State.vst (s : State) (v : Nat) : VStation := Store.get s.slip.vs v {}

/-- A virtual station's signals set. -/
def State.setVst (s : State) (v : Nat) (x : VStation) : State := { s with slip := { s.slip with vs := Store.set s.slip.vs v x {} } }

/-- Every queue controller OFF, its block memory empty; a fence stays until the Harbourmaster unfences it. -/
def State.qcsOff (s : State) : State :=
  let t := (List.range 24).foldl (fun (t : State) n =>
    (t.setFld (Reg.slipctlQcCfg + 16 * n) 1 0 0).setFld (Reg.slipctlQcStatus + 16 * n) 15 1 0) s
  { t with slip := { t.slip with qcs := [] } }

/-- The virtual stations of the design that stops are LOST with cause 2, and their signals end. -/
def State.dropVirtual (s : State) : State :=
  let t := s.linksLost fun id _ => decide (124 ≤ id)
  { t.setFld Reg.slipctlStatus 7 4 0 with slip := { t.slip with vs := [] } }

/-- The fabric becomes blank; FABRIC takes the given code (0 BLANK, 3 APPLYING). -/
def State.blank (s : State) (fabric : Nat) : State :=
  let t := ((List.range 4).foldl (fun (t : State) n => t.monitor (3 + n) false) s).dropVirtual.qcsOff.setFld Reg.slipctlStatus 1 0 fabric
  { t with slip := { t.slip with design := none } }

/-- Whether a design runs. -/
def State.designRuns (s : State) : Bool := s.fld Reg.slipctlStatus 1 0 == 1 && s.slip.design.isSome

/-! ### Applies (R301, R812, R819) -/

/-- The queue controllers that an image names are placed in IMAGE mode. -/
def State.imageMode (s : State) (d : Design) : State :=
  (d.qcs.flatMap fun q => [q.1, q.2]).foldl (fun (t : State) n => if n < 24 then t.setFld (Reg.slipctlQcCfg + 16 * n) 1 0 2 else t) s

/-- The clock trees that a design's window and queue controllers use: SLIP0, and CLK_SEL of each controller. -/
def State.designTrees (s : State) (d : Design) : List Nat :=
  0 :: ((d.qcs.flatMap fun q => [q.1, q.2]).filter fun n => decide (n < 24)).map fun n => s.fld (Reg.slipctlQcCfg + 16 * n) 4 3

/-- A verified design runs; the firmware then watches its clocks (R116). -/
def State.runDesign (s : State) (img : Bytes) : State :=
  let d := designOf img
  let t := (s.setFld Reg.slipctlStatus 1 0 1).imageMode d
  let t := { t with slip := { t.slip with design := some d } }
  (t.designTrees d).foldl (fun (u : State) n => u.monitor (3 + n) true) t

/-- The apply of an image begins: the old design stops (Table SLP-6, time 0). -/
def State.applyBegin (s : State) (w : SlipApply) : State :=
  let t := (s.blank 3).setRbit Reg.slipctlStatus 8 false
  { t with slip := { t.slip with applying := some w, waiting := none, applyArmed := false, reapply := false, captureArmed := none } }

/-- Whether every block of an image carries its CRC and the image is whole. -/
def imageWhole (img : Bytes) : Bool :=
  img.length == u32 img 16 && (badBlock img 0 (blocksIn img.length)).isNone

/-- The status of the first failure of a persisted image by Table SLP-5. -/
def State.persistedFault (s : State) (img : Bytes) : Option Nat :=
  match s.slipHeaderFault (img.take 256) with
  | some (st, _) => some st
  | none => if !imageWhole img then some St.slipTruncated else s.slipApplyFault img

/-- A persisted copy: the bytes that its header counts (Table HPS-6). -/
def Flash.slipCopy (f : Flash) (i : Nat) : Bytes :=
  let a := slipCopyAddr i
  let h := f.readBytes a 256
  if u32 h 0 = 0x5359444E ∧ u32 h 16 ≤ 0x80000 ∧ 256 ≤ u32 h 16 then f.readBytes a (u32 h 16) else h

/-- Whether a copy is there at all: an erased copy is none. -/
def Flash.slipThere (f : Flash) (i : Nat) : Bool := (f.slipCopy i).any fun b => b != 0xFF

/-- The persisted image that is used: the newer verified copy (R813). -/
def State.persistedSlip (s : State) : Option Bytes :=
  let n := s.flash.slipNewer
  let a := s.flash.slipCopy n
  let b := s.flash.slipCopy (1 - n)
  if (s.persistedFault a).isNone then some a else if (s.persistedFault b).isNone then some b else none

/-- Whether the Plain and the firmware are outside the foreground window. -/
def State.ebbNow (s : State) : Bool := !s.inWindow

/-- The image in the staging region of Basin 2 (R567). -/
def State.stagedImage (s : State) : Bytes :=
  let h := Memory.readBytes s.mem 0x22100000 256
  if u32 h 16 ≤ 0x40000 then Memory.readBytes s.mem 0x22100000 (u32 h 16) else h

/-- A write of SLIPCTL_APPLY. -/
def State.applyGo (s : State) : State :=
  if s.slip.applying.isSome then s
  else match s.slip.waiting with
    | some w => s.applyBegin w
    | none => s.applyBegin { image := s.stagedImage, persist := false, notify := none }

/-- SLIPCTL_APPLY_GO. -/
def execSlipctlApplyGo (who : Initiator) (s : State) : Out := .next (s.guardedWrite who Reg.slipctlApply fun t => t.applyGo)

/-! ### Shadow captures (R815, R816) -/

/-- A write of SLIPCTL_CAPTURE with GO. -/
def State.armCapture (s : State) (clock : Nat) : State :=
  let t := s.setFld Reg.slipctlCapture 1 0 clock
  { t with slip := { t.slip with captureArmed := some (clock % 4) } }

/-- SLIPCTL_CAPTURE_GO. -/
def execSlipctlCaptureGo (who : Initiator) (clock : BitVec 2) (s : State) : Out :=
  .next (s.toBlock who Reg.slipctlCapture fun t => t.armCapture clock.toNat)

/-- SHADOW_CAPTURE: at the first edge of the armed clock while a design runs. -/
def execShadowCapture (clock : BitVec 2) (s : State) : Out :=
  .next (if s.slip.captureArmed = some clock.toNat && s.canCapture clock.toNat then s.takeCapture else s)

/-- A read of SLIPCTL_SHADOW_DATA: the word at ADDR, which advances; beyond the shadow, or before any capture, the word is free. -/
def State.readShadow (s : State) (who : Initiator) : State :=
  let a := s.fld Reg.slipctlShadowAddr 15 0
  let t := s.setFld Reg.slipctlShadowAddr 15 0 ((a + 1) % 65536)
  match s.slip.shadow with
  | some (key, _) =>
    if 4 * a < shadowBytes then t.busAnswer who .ok (leBytes 4 (Config.designShadow key a).toNat)
    else t.usedFree.busAnswer who .ok (leBytes 4 s.free.toNat)
  | none => t.usedFree.busAnswer who .ok (leBytes 4 s.free.toNat)

/-- SHADOW_DATA_READ. -/
def execShadowDataRead (who : Initiator) (s : State) : Out := .next (s.toBlock who Reg.slipctlShadowData fun t => t.readShadow who)

/-! ### Queue controllers (R798 to R801) -/

/-- MODE of a queue controller. -/
def State.qcMode (s : State) (n : Nat) : Nat := s.fld (Reg.slipctlQcCfg + 16 * n) 1 0

/-- Whether a queue controller's SLIPn clock runs and no fence holds it. -/
def State.qcLive (s : State) (n : Nat) : Bool :=
  decide (n < 24) && s.designRuns && !s.rbit (Reg.slipctlQcStatus + 16 * n) 0 && !s.lostClocks.testBit (8 + s.fld (Reg.slipctlQcCfg + 16 * n) 4 3)

/-- BASE and SIZE of a queue controller's ring or window. -/
def State.qcBase (s : State) (n : Nat) : Nat := s.fld (Reg.slipctlQcBase + 16 * n) 17 0 / 64 * 64
def State.qcSize (s : State) (n : Nat) : Nat := s.fld (Reg.slipctlQcSize + 16 * n) 17 0 / 64 * 64

/-- A queue controller's block memory. -/
def State.qc (s : State) (n : Nat) : Qc := Store.get s.slip.qcs n {}

/-- A queue controller's block memory set. -/
def State.setQc (s : State) (n : Nat) (q : Qc) : State := { s with slip := { s.slip with qcs := Store.set s.slip.qcs n q {} } }

/-- The address of a byte of the queue-controller region (Table QUY-2). -/
def qcAddr (off : Nat) : Nat := 0x22140000 + off % 0x40000

/-- Whether a queue controller would take words from SYS but for its clock, which is lost (R117). -/
def State.qcCut (s : State) (n : Nat) : Bool :=
  decide (n < 24) && s.designRuns && !s.rbit (Reg.slipctlQcStatus + 16 * n) 0 && s.lostClocks.testBit (8 + s.fld (Reg.slipctlQcCfg + 16 * n) 4 3) &&
    s.qcMode n == 1 && s.rbit (Reg.slipctlQcCfg + 16 * n) 2

/-! ### Virtual stations (R802 to R807) -/

/-- Whether the running design presents a virtual station through an input controller that works. -/
def State.presents (s : State) (v : Nat) : Bool :=
  decide (v < 4) && (match s.slip.design with
    | some d => d.vst.testBit v && s.qcLive (d.qcs.getD v (255, 255)).1
    | none => false)

/-- VS_POST (R772, R804): the entries for the IN points in ascending order, into the image; the status entry counts the posts. -/
def execVsPost (n : Nat) (entries : List (Nat × Nat × Int)) (lastApplied : Nat) (s : State) : Out :=
  .next (if !s.presents n || !(s.vst n).present then s
    else
      let id := 124 + n
      let x := s.vst n
      let st := s.station id
      let t := (s.setVst n { x with lastApplied := lastApplied % 4294967296, posts := x.posts + 1 }).setStation id
        { st with nDone := st.nDone + 1, imageComplete := true }
      (entries.foldl (fun (u : State) e => u.putPoint id e.1 (BitVec.ofNat 8 e.2.1) e.2.2) t).putStatus id)

/-- VS_PRESENT_RISE (R806). -/
def execVsPresentRise (n : Nat) (s : State) : Out :=
  .next (if !s.presents n then s
    else
      let t := (s.setVst n { s.vst n with present := true }).setRbit Reg.slipctlStatus (4 + n) true
      t.setStation (124 + n) { t.station (124 + n) with willMoor := true })

/-- VS_PRESENT_FALL (R806, Table STN-5): the station is link-lost at once. -/
def execVsPresentFall (n : Nat) (s : State) : Out :=
  .next (if n ≥ 4 then s
    else ((s.setVst n { s.vst n with present := false }).setRbit Reg.slipctlStatus (4 + n) false).linkLost (124 + n))

/-! ### Banks, lanes, the window (R797, R808, R824, Table REG-3) -/

/-- BANK_LOW (R797). -/
def execBankLow (bank : Nat) (s : State) : Out :=
  .next (if bank ≥ 2 then s else (s.setRbit Reg.slipctlStatus (2 + bank) false).setRbit Reg.slipctlEvents 3 true)

/-- BANK_RESTORED (R797). -/
def execBankRestored (bank : Nat) (s : State) : Out := .next (if bank ≥ 2 then s else s.setRbit Reg.slipctlStatus (2 + bank) true)

/-- LANE_LOST (R824). -/
def execLaneLost (lane dropped : Nat) (s : State) : Out :=
  let a := Reg.slipctlLane + 4 * lane
  .next (if lane ≥ 12 then s else ((s.setRbit a 0 false).addFld a 31 16 dropped).setRbit Reg.slipctlEvents 4 true)

/-- LANE_LOCK_REGAINED (R824). -/
def execLaneLockRegained (lane : Nat) (s : State) : Out :=
  .next (if lane ≥ 12 then s else s.setRbit (Reg.slipctlLane + 4 * lane) 0 true)

/-- Whether the register window answers: a design runs and SLIP0 is not lost (R808, Table REG-3). -/
def State.windowOpen (s : State) : Bool := s.designRuns && !s.lostClocks.testBit 8

/-- A window access that no answer met within 1,024 SYS cycles. -/
def State.windowTimeout (s : State) (who : Initiator) : State :=
  ((s.addFld Reg.slipctlWinTo 31 0 1).setRbit Reg.slipctlEvents 5 true).busAnswer who .error

/-- SLIP_WINDOW_ACCESS: the design answers a read with the word of the command; a write reaches it. -/
def execSlipWindowAccess (who : Initiator) (write : Bool) (offset : Nat) (_data : Word) (answer : Word) (s : State) : Out :=
  .next (if s.silent who then s
    else if who.master ≥ 3 then (s.matrixErr who 2 5 (0x50000000 + offset)).busAnswer who .error
    else if s.masterFenced who.master 5 then (s.matrixErr who 5 5 (0x50000000 + offset)).busAnswer who .fenced
    else if !s.windowOpen || decide (offset ≥ 0x1000000) then s.busAnswer who .error
    else s.busAnswer who .ok (if write then [] else leBytes 4 answer.toNat))

/-- WIN_TIMEOUT. -/
def execWinTimeout (who : Initiator) (s : State) : Out := .next (if s.windowOpen then s.windowTimeout who else s.busAnswer who .error)

end Sys2Proof.Machine
end

