-- ==== Sys2Proof/Machine/Frames.lean ====
section
/-! DEFINITION. Ethernet frames as octets: addresses, checksums, Tideline, IPv4 with UDP, ARP, ICMP and PTP frames that the device sends (R5, R240, R376,
R415, R733, R745, R751). -/

namespace Sys2Proof.Machine

/-! ### Fields and checksums -/

/-- The six bytes of a port's own address, first byte sent first. -/
def State.macBytes (s : State) (port : Nat) : Bytes :=
  leBytes 4 (s.reg (Reg.ethMacLo + 65536 * port)).toNat ++ leBytes 2 (s.fld (Reg.ethMacHi + 65536 * port) 15 0)

/-- The port's own address as a number, first byte most significant. -/
def State.macAddr (s : State) (port : Nat) : Nat := ofBe (s.macBytes port)

/-- The port's own IPv4 address; 0 means none. -/
def State.ip (s : State) (port : Nat) : Nat := (s.reg (Reg.ethIpAddr + 65536 * port)).toNat

/-- A 16-bit field in network byte order. -/
def be16 (b : Bytes) (i : Nat) : Nat := 256 * u8 b i + u8 b (i + 1)

/-- The ones' complement sum of a string of 16-bit words; an odd last byte is padded with zero. -/
def onesSum : Bytes → Nat
  | [] => 0
  | [a] => 256 * a.toNat
  | a :: b :: r => 256 * a.toNat + b.toNat + onesSum r

/-- The ones' complement sum folded to 16 bits. -/
def fold16 (n : Nat) : Nat :=
  let n := n / 65536 + n % 65536
  let n := n / 65536 + n % 65536
  n / 65536 + n % 65536

/-- The Internet checksum of a string. -/
def inetSum (b : Bytes) : Nat := 65535 - fold16 (onesSum b)

/-- The pseudo-header of a UDP checksum: the addresses, protocol 17, the UDP length. -/
def udpPseudo (addresses : Bytes) (n : Nat) : Bytes := addresses ++ [0, 17] ++ beBytes 2 n

/-! ### Frames (Table ETH-1, R745) -/

/-- A frame from a port: addresses, the tag if any, EtherType, payload. -/
def State.etherFrame (s : State) (port dst : Nat) (tci : Option Nat) (typ : Nat) (payload : Bytes) : Bytes :=
  beBytes 6 dst ++ s.macBytes port ++ (match tci with
    | some t => beBytes 2 0x8100 ++ beBytes 2 t
    | none => []) ++ beBytes 2 typ ++ payload

/-- What the MAC sends: zeros to 60 bytes, then the FCS. -/
def onWire (frame : Bytes) : Bytes :=
  let f := frame ++ zeros (60 - frame.length)
  f ++ leBytes 4 (crc32 f).toNat

/-- A tag inserted after the source address. -/
def insertTag (frame : Bytes) (tci : Nat) : Bytes := frame.take 12 ++ beBytes 2 0x8100 ++ beBytes 2 tci ++ frame.drop 12

/-- The tag of a received frame. -/
def frameTci (frame : Bytes) : Option Nat := if be16 frame 12 = 0x8100 then some (be16 frame 14) else none

/-- A received frame less its tag (R731). -/
def untagged (frame : Bytes) : Bytes := if be16 frame 12 = 0x8100 then frame.take 12 ++ frame.drop 16 else frame

/-! ### Tideline -/

/-- The header of Table STN-1 in a frame from the device, little-endian (R5, R376). -/
def TxTl.header (f : TxTl) : Bytes :=
  leBytes 1 1 ++ leBytes 1 f.typ ++ leBytes 1 f.stationId ++ leBytes 1 0 ++ leBytes 2 f.epoch ++ leBytes 2 f.payload.length ++
    leBytes 4 f.cycle ++ leBytes 4 f.mark

/-- A Tideline frame as the MAC sends it (R375, R415). -/
def State.tlBytes (s : State) (f : TxTl) : Bytes := onWire (s.etherFrame f.port f.dest f.tci 0x88B5 (f.header ++ f.payload))

/-- The Tideline frame in the octets after the EtherType of a received frame (Table STN-1). -/
def tlOfBytes (port src : Nat) (p : Bytes) : TlFrame :=
  { port := port, src := src, version := u8 p 0, stationId := u8 p 2, flags := u8 p 3, epoch := u16 p 4, length := u16 p 6,
    cycle := u32 p 8, mark := u32 p 12, body := p.drop 16 }

/-! ### IPv4 and UDP -/

/-- An IPv4 packet of 20 header bytes, unfragmented (R240); the fields for which the spec states no value are free (log entry 174). -/
def ipPacket (proto src dst : Nat) (payload : Bytes) : Bytes :=
  let head (sum : Nat) : Bytes :=
    [0x45, Config.frameByte 0] ++ beBytes 2 (20 + payload.length) ++ [Config.frameByte 1, Config.frameByte 2, Config.frameByte 3 &&& 0x40, 0] ++
      [Config.frameByte 4, BitVec.ofNat 8 proto] ++ beBytes 2 sum ++ beBytes 4 src ++ beBytes 4 dst
  head (inetSum (head 0)) ++ payload

/-- A UDP datagram with its checksum; a checksum of 0 is sent as 0xFFFF (R240). -/
def udpPacket (srcIp dstIp srcPort dstPort : Nat) (payload : Bytes) : Bytes :=
  let n := 8 + payload.length
  let head (sum : Nat) : Bytes := beBytes 2 srcPort ++ beBytes 2 dstPort ++ beBytes 2 n ++ beBytes 2 sum
  let sum := inetSum (udpPseudo (beBytes 4 srcIp ++ beBytes 4 dstIp) n ++ head 0 ++ payload)
  ipPacket 17 srcIp dstIp (head (if sum = 0 then 65535 else sum) ++ payload)

/-- The link-layer address of an endpoint. -/
def State.linkAddr (s : State) (ep : Endpoint) : Peer := ((s.omx.peers.find? fun x => decide (x.1 = ep)).map fun x => x.2).getD ⟨0, none⟩

/-- An Omneax reply or event over UDP: from port 42710 to the endpoint's address and port, to the source MAC of its latest request and with that
request's tag (R239, R733, log entry 173). -/
def State.omneaxBytes (s : State) (ep : Endpoint) (p : Packet) : Bytes :=
  match ep with
  | .udp ip port eth =>
    onWire (s.etherFrame eth (s.linkAddr ep).mac (s.linkAddr ep).tci 0x0800 (udpPacket (s.ip eth) ip 42710 port p.encode))
  | _ => []

/-- The source of a received UDP datagram, and its payload: the octets after the EtherType. -/
def udpOf (p : Bytes) : Nat × Nat × Bytes :=
  let ihl := 4 * (u8 p 0 % 16)
  (ofBe (slice p 12 4), be16 p ihl, slice p (ihl + 8) (be16 p (ihl + 4) - 8))

/-! ### PTP (R751, IEEE 1588) -/

/-- A PTP instance. -/
def State.ptpPort (s : State) (port : Nat) : PtpPort := s.ptp.ports.getD port {}

/-- The clockIdentity of a port: EUI-64 from its MAC address (R753). -/
def State.clockId (s : State) (port : Nat) : Nat :=
  let b := s.macBytes port
  ofBe (b.take 3 ++ [0xFF, 0xFE] ++ b.drop 3)

/-- The type of a message, its length, its control field and its interval, by kind (IEEE 1588, PRESUMED, log entry 174). -/
def ptpShape (p : PtpPort) (kind : Nat) : Nat × Nat × Nat × Int :=
  match kind with
  | 0 => (0, 44, 0, p.logSync)
  | 1 => (11, 64, 5, p.logAnnounce)
  | 2 => (1, 44, 1, 127)
  | 3 => (8, 44, 2, p.logSync)
  | _ => (9, 54, 3, p.logDelay)

/-- The message that the firmware sends, every field in the byte order of IEEE 1588 (R5, R751). -/
def State.ptpMessage (s : State) (port kind seq domain timeNs : Nat) (answers : Option PtpMsg) : Bytes :=
  let p := s.ptpPort port
  let (typ, len, control, log) := ptpShape p kind
  let q := answers.getD {}
  let twoStep := kind == 0 && !(p.oneStep && !p.udp)
  let flags := beBytes 1 (2 * twoStep.toNat) ++ beBytes 1 (if kind = 1 then 8 else 0)
  let stamp := beBytes 6 (timeNs / 1000000000) ++ beBytes 4 (timeNs % 1000000000)
  let corr := if kind = 4 then q.correctionNs * 65536 else 0
  beBytes 1 typ ++ [0x12] ++ beBytes 2 len ++ beBytes 1 domain ++ [0] ++ flags ++ beBytes 8 (corr % 2 ^ 64).toNat ++ zeros 4 ++
    beBytes 8 (s.clockId port) ++ beBytes 2 1 ++ beBytes 2 seq ++ beBytes 1 control ++ beBytes 1 (log % 256).toNat ++ stamp ++
    (if kind = 1 then
      [Config.frameByte 16, Config.frameByte 17, 0] ++ beBytes 1 p.priority1 ++ beBytes 1 p.clockClass ++ beBytes 1 254 ++ beBytes 2 65535 ++
        beBytes 1 p.priority2 ++ beBytes 8 (s.clockId port) ++ beBytes 2 0 ++ [Config.frameByte 18]
    else if kind = 4 then beBytes 8 q.srcIdentity ++ beBytes 2 q.srcPort
    else [])

/-- A PTP frame on the transport of its port: IEEE 802.3, or UDP on port 319 for Sync and Delay_Req and 320 for the others (Table ETH-6). -/
def State.ptpFrame (s : State) (port kind : Nat) (m : Bytes) : Bytes :=
  if (s.ptpPort port).udp then
    let u := if kind = 0 ∨ kind = 2 then 319 else 320
    onWire (s.etherFrame port 0x01005E000181 none 0x0800 (udpPacket (s.ip port) 0xE0000181 u u m))
  else onWire (s.etherFrame port 0x011B19000000 none 0x88F7 m)

/-! ### The firmware's other frames -/

/-- An ARP reply, an ICMP echo reply or a PTP message as the MAC sends it (R733, R751). -/
def State.netBytes (s : State) : NetTx → Bytes
  | .arpReply p mac ip =>
    onWire (s.etherFrame p mac none 0x0806 (beBytes 2 1 ++ beBytes 2 0x0800 ++ [6, 4] ++ beBytes 2 2 ++ s.macBytes p ++ beBytes 4 (s.ip p) ++
      beBytes 6 mac ++ beBytes 4 ip))
  | .echoReply p mac ip echo data =>
    let body := beBytes 4 echo ++ data
    onWire (s.etherFrame p mac none 0x0800 (ipPacket 1 (s.ip p) ip ([0, 0] ++ beBytes 2 (inetSum body) ++ body)))
  | .ptp p kind seq domain t q => s.ptpFrame p kind (s.ptpMessage p kind seq domain t q)

end Sys2Proof.Machine
end

