-- ==== Sys2Proof/Machine/Net.lean ====
section
/-! DEFINITION. Ethernet ports: receive handling, rings, transmit queues, MDIO; the TIME base's step; PTP; ARP and ICMP (chapter 20). -/

namespace Sys2Proof.Machine

/-! ### Ports -/

/-- RX_EN. -/
def State.rxEn (s : State) (port : Nat) : Bool := s.rbit (Reg.ethCtrl + 65536 * port) 0


/-! ### Receive handling (Table ETH-2, R730 to R732) -/


/-- The destinations that every port accepts besides its own (Table ETH-2, step 3). -/
def groupDest : List Nat :=
  [0xFFFFFFFFFFFF, 0x015DA088B500, 0x015DA088B501, 0x011B19000000, 0x01005E000181]

/-- Whether a VLAN identifier is enabled (R731). -/
def State.vidOk (s : State) (port vid : Nat) : Bool :=
  [Reg.ethVidA, Reg.ethVidB].any fun r =>
    let a := r + 65536 * port
    (s.rbit a 15 && s.fld a 11 0 == vid) || (s.rbit a 31 && s.fld a 27 16 == vid)

/-- The VLAN check (R731); a tag with VID 0 counts as untagged. -/
def State.vlanOk (s : State) (port : Nat) (tci : Option Nat) : Bool :=
  let a := Reg.ethVlanCfg + 65536 * port
  if !s.rbit a 0 then true
  else match tci with
    | some t => if t % 4096 = 0 then s.rbit a 1 else s.vidOk port (t % 4096)
    | none => s.rbit a 1

/-- Whether an IPv4 packet passes R732. -/
def ipv4Ok (p : Bytes) : Bool :=
  let ihl := 4 * (u8 p 0 % 16)
  let total := be16 p 2
  let udp := slice p ihl (total - ihl)
  let pseudo := udpPseudo (slice p 12 8) udp.length
  u8 p 0 / 16 == 4 && decide (20 ≤ ihl) && decide (ihl ≤ total) && decide (total ≤ p.length) && fold16 (onesSum (p.take ihl)) == 65535 &&
    be16 p 6 % 16384 == 0 &&
    (u8 p 9 != 17 || be16 udp 6 == 0 || fold16 (onesSum (pseudo ++ udp)) == 65535)

/-- The class and ring of a frame whose tag has been removed, or the counter of the drop. -/
def State.classify (s : State) (port : Nat) (b : Bytes) : Except Nat (Nat × Nat) :=
  let typ := be16 b 12
  let p := b.drop 14
  let ip := s.ip port
  let dst := ofBe (slice p 16 4)
  let ihl := 4 * (u8 p 0 % 16)
  let dport := be16 p (ihl + 2)
  if typ = 0x8808 then .error 3
  else if typ = 0x88B5 then .ok (0, 0)
  else if typ = 0x0806 then .ok (1, 1)
  else if typ = 0x88F7 then .ok (4, 2)
  else if typ = 0x0800 then
    if !ipv4Ok p then .error 5
    else if u8 p 9 = 17 ∧ dst = 0xE0000181 ∧ (dport = 319 ∨ dport = 320) then .ok (5, 2)
    else if u8 p 9 = 17 ∧ ip ≠ 0 ∧ dst = ip ∧ dport = 42710 then .ok (2, 1)
    else if u8 p 9 = 1 ∧ ip ≠ 0 ∧ dst = ip then .ok (3, 1)
    else .error 4
  else .error 4

/-! ### Receive rings (R734 to R743) -/

/-- A ring's size, buffer size and base offset; values outside the register's range act as its ends. -/
def State.rxSize (s : State) (port r : Nat) : Nat := max 16 (min 1024 (s.fld (rxBase port r + 4) 10 0))
def State.rxBuf (s : State) (port r : Nat) : Nat := 64 * max 4 (min 256 (s.fld (rxBase port r + 4) 24 16))
def State.rxDesc (s : State) (port r i : Nat) : Nat := basin2 (s.fld (rxBase port r) 20 0 / 16 * 16 + 16 * i)
def State.rxHead (s : State) (port r : Nat) : Nat := s.fld (rxBase port r + 12) 9 0

/-- One filled descriptor written back (R738): `first` and `last` tell its place in the frame. -/
def State.closeDesc (s : State) (port : Nat) (f : RxFill) (i n : Nat) (first last trunc dmaErr : Bool) : State :=
  let a := s.rxDesc port f.ring i
  let status := first.toNat + 2 * last.toNat + 4 * (trunc && last).toNat + 8 * (dmaErr && last).toNat + 16 * f.tci.isSome.toNat +
    32 * first.toNat + 64 * f.cls
  let head := leBytes 4 (s.descBuf a % 2147483648) ++ leBytes 2 n ++ leBytes 2 status
  let tail := if first then leBytes 4 f.ns ++ leBytes 2 (f.tci.getD 0) ++ leBytes 1 f.sec ++ zeros 1 else zeros 8
  { s with mem := Memory.writeBytes s.mem a (head ++ tail) }

/-- Whether a port's DMA writes reach Basin 2: neither its node nor node 1 fenced, the Basin not OFF (Table FWY-3). -/
def State.dmaUp (s : State) (port : Nat) : Bool :=
  !s.rbit Reg.fairwayFence (6 + port) && !s.rbit Reg.fairwayFence 17 && s.basinState 2 != 2

/-- A descriptor write that failed stops the ring (R755). -/
def State.ringFail (s : State) (port r : Nat) : State := (s.ringStop port r true).ethEvent port 8

/-- The descriptors of a frame handed to software: the first one last, then the ring's event (R738). A good frame is counted; a whole Omneax
datagram (class 2) the firmware will read from its ring. -/
def State.closeFrame (s : State) (port : Nat) (f : RxFill) (trunc dmaErr : Bool) : State :=
  match f.filled with
  | [] => s
  | (i, n) :: rest =>
    if f.descFails || !s.dmaUp port then s.ringFail port f.ring
    else
      let lastIx := rest.length
      let t := (rest.zip (List.range rest.length)).foldl (fun (u : State) x =>
        u.closeDesc port f x.1.1 x.1.2 false (x.2 + 1 == lastIx) trunc dmaErr) s
      let t := (t.closeDesc port f i n true rest.isEmpty trunc dmaErr).ethEvent port f.ring
      if trunc || dmaErr then t
      else
        let u := t.ethCount port 0 1
        if f.cls = 2 && u.firmwareRuns then u.setMac port { u.mac port with inbox := (u.mac port).inbox ++ [(f.tci, f.bytes)] } else u

/-- The oldest waiting frame meets a descriptor that the MAC owns: as many octets as the buffer takes are stored. The write fails where the Fairway
says so, or past the end of Basin 2; the frame's part in that buffer then has length 0 (DESIGN CHOICE, log entry 207), and the second component is
true. -/
def State.fillOne (s : State) (port : Nat) (f : RxFill) : State × RxFill × Bool :=
  let h := s.rxHead port f.ring
  let off := s.descBuf (s.rxDesc port f.ring h) % 0x200000
  let n := min (s.rxBuf port f.ring) (f.bytes.length - f.done)
  let t := s.setFld (rxBase port f.ring + 12) 9 0 ((h + 1) % s.rxSize port f.ring)
  if f.dataFails = some f.filled.length ∨ off + n > 0x200000 ∨ s.dmaUp port = false then (t, { f with filled := f.filled ++ [(h, 0)] }, true)
  else ({ t with mem := Memory.writeBytes t.mem (basin2 off) (slice f.bytes f.done n) },
    { f with filled := f.filled ++ [(h, n)], done := f.done + n }, false)

/-- The MAC stores the frames that wait, oldest first, until one finds no descriptor (R737). -/
def State.rxRun (s : State) (port : Nat) : Nat → State
  | 0 => s
  | fuel + 1 =>
    let m := s.mac port
    match m.fifo with
    | [] => s
    | f :: rest =>
      if s.rbit (Reg.ethStatus + 65536 * port) (2 + f.ring) then (s.setMac port { m with fifo := rest }).rxRun port fuel
      else if s.descBuf (s.rxDesc port f.ring (s.rxHead port f.ring)) < 2147483648 then s
      else
        match s.fillOne port f with
        | (t, g, true) => ((t.setMac port { m with fifo := rest }).closeFrame port g true true).rxRun port fuel
        | (t, g, false) =>
          if g.done < g.bytes.length then (t.setMac port { m with fifo := g :: rest }).rxRun port fuel
          else ((t.setMac port { m with fifo := rest }).closeFrame port g false false).rxRun port fuel

/-- Enough steps for every frame of the FIFO. -/
def State.rxAll (s : State) (port : Nat) : State := s.rxRun port 1024

/-- The MAC gives up on the frame that waits (R740): `counter` is RX_NOBUF or RX_FIFO_DROP. -/
def State.rxGiveUp (s : State) (port counter : Nat) : State :=
  let m := s.mac port
  match m.fifo with
  | [] => s
  | f :: rest => ((s.setMac port { m with fifo := rest }).closeFrame port f true false).ethCount port counter 1

/-- Octets in the receive FIFO. -/
def Mac.held (m : Mac) : Nat := m.fifo.foldl (fun n f => n + (f.bytes.length - f.done)) 0

/-- A frame that has passed the filters joins the FIFO; while another waits for a descriptor and fewer than 2,048 bytes are free, the MAC
gives up on that one (R739). A frame that the 32 KiB of the FIFO still do not hold is discarded whole and counted (R108). -/
def State.rxPush (s : State) (port : Nat) (f : RxFill) : State :=
  let m := s.mac port
  let t := if !m.fifo.isEmpty && decide (m.held + f.bytes.length + 2048 > 32768) then (s.rxGiveUp port 6).rxAll port else s
  if (t.mac port).held + f.bytes.length > 32768 then t.ethCount port 7 1
  else (t.setMac port { t.mac port with fifo := (t.mac port).fifo ++ [f] }).rxAll port

/-- The descriptors of the oldest complete frame of a ring that the firmware has not handled: the first, and how many. -/
def State.oldestRx (s : State) (port ring : Nat) : Option (Nat × Nat) :=
  let size := s.rxSize port ring
  let at_ := (s.mac port).tails.getD ring 0
  let status (i : Nat) : Nat := ofLe (Memory.readBytes s.mem (s.rxDesc port ring ((at_ + i) % size) + 6) 2)
  if s.descBuf (s.rxDesc port ring (at_ % size)) ≥ 2147483648 || status 0 % 2 == 0 then none
  else some (at_, (((List.range size).find? fun i => status i / 2 % 2 == 1).getD 0) + 1)

/-- The firmware goes on to the frame after the one whose descriptors are given. -/
def State.passRx (s : State) (port ring : Nat) (d : Nat × Nat) : State :=
  s.setMac port { s.mac port with tails := (s.mac port).tails.set ring ((d.1 + d.2) % s.rxSize port ring) }

/-- Descriptors handed back to the MAC. -/
def State.handBack (s : State) (port ring : Nat) (d : Nat × Nat) : State :=
  { s with mem := (List.range d.2).foldl (fun (u : Memory) i =>
      let a := s.rxDesc port ring ((d.1 + i) % s.rxSize port ring)
      Memory.writeBytes u a (leBytes 4 (s.descBuf a % 2147483648 + 2147483648) ++ zeros 4)) s.mem }

/-- Whether a complete frame in a ring asks nothing of the firmware: one with TRUNC or DMA_ERR (R741); an ARP or ICMP message that is no request
(R733); a PTP message of a type that is not supported (Table ETH-6); a Tideline frame of a type that no device receives. -/
def State.rxIgnored (s : State) (port ring : Nat) (d : Nat × Nat) : Bool :=
  let status (i : Nat) : Nat := ofLe (Memory.readBytes s.mem (s.rxDesc port ring ((d.1 + i) % s.rxSize port ring) + 6) 2)
  let p := Memory.readBytes s.mem (basin2 (s.descBuf (s.rxDesc port ring d.1) % 0x200000) + 14) 96
  let ptp (m : Bytes) : Bool := !([0, 1, 8, 9, 11].contains (u8 m 0 % 16))
  let ihl := 4 * (u8 p 0 % 16)
  status (d.2 - 1) / 4 % 4 != 0 ||
    (match status 0 / 64 % 8 with
    | 0 => !([1, 2, 6, 0x10, 0x12].contains (u8 p 1))
    | 1 => be16 p 6 != 1
    | 3 => u8 p ihl != 8
    | 4 => ptp p
    | 5 => ptp (p.drop (ihl + 8))
    | _ => false)

/-- The firmware gives back the frames at its place in a ring that ask nothing of it; a Tideline frame among them, meant for a station, is
counted (R377). -/
def State.tidyRing (s : State) (port ring : Nat) : Nat → State
  | 0 => s
  | fuel + 1 =>
    match if s.firmwareRuns then s.oldestRx port ring else none with
    | none => s
    | some d =>
      if s.rxIgnored port ring d then
        let typ := u8 (Memory.readBytes s.mem (basin2 (s.descBuf (s.rxDesc port ring d.1) % 0x200000) + 14) 2) 1
        let t := (s.handBack port ring d).passRx port ring d
        (if ring = 0 && [3, 4, 5, 0x11, 0x13, 0x14].contains typ then t.addFld (Reg.ethTlDiscard + 65536 * port) 31 0 1 else t).tidyRing port ring fuel
      else s

/-- The firmware returns the descriptors of the oldest complete frame of a ring to the MAC, once it has handled that frame. -/
def State.returnRx (s : State) (port ring : Nat) : State :=
  match s.oldestRx port ring with
  | none => s
  | some d => ((s.handBack port ring d).passRx port ring d).tidyRing port ring (s.rxSize port ring)

/-- An Omneax datagram handled: its payload is one packet from the frame's source (R239). -/
def State.takeDatagram (s : State) (port : Nat) (tci : Option Nat) (frame : Bytes) : State :=
  let (ip, from_, packet) := udpOf (frame.drop 14)
  (s.returnRx port 1).receive (.udp ip from_ port) packet { mac := ofBe (slice frame 6 6), tci := tci }

/-- The firmware handles the Omneax datagrams that have come into ring 1 of a port, in their order, and gives back what asks nothing of it. -/
def State.takeInbox (s : State) (port : Nat) : State :=
  let t := (s.mac port).inbox.foldl (fun (t : State) x => t.takeDatagram port x.1 x.2) (s.setMac port { s.mac port with inbox := [] })
  (List.range 3).foldl (fun (u : State) r => u.tidyRing port r (u.rxSize port r)) t

/-- A received frame as it enters the FIFO: its octets less the tag, and its timestamp, the TIME base at the tick that the timestamp unit
captured plus TS_LAT_RX (R750). -/
def State.rxFill (s : State) (port : Nat) (frame : RxFrame) (cls ring : Nat) : RxFill :=
  let at_ : TimeBase := s.time.atNs (frame.stampSec * 1000000000 + frame.stampNs + s.fld (Reg.ethTsLat + 65536 * port) 31 16)
  { ring := ring, cls := cls, bytes := untagged frame.bytes, tci := frameTci frame.bytes, sec := at_.sec % 256, ns := at_.ns,
    dataFails := frame.dataFails, descFails := frame.descFails }

/-- ETH_RX_FRAME (Table ETH-2, R730, R742); a whole Omneax datagram goes on to the interpreter (R239), and a frame of any other class to the row
of its protocol. -/
def execEthRxFrame (port : Nat) (frame : RxFrame) (s : State) : Out :=
  let b := frame.bytes
  let tci := frameTci b
  let tagged := tci.isSome
  let len := b.length + 4
  let dest := ofBe (b.take 6)
  let inner := untagged b
  .next ((if port ≥ 2 then s
    else if !s.rxEn port then s.ethCount port 8 1
    else if frame.fifoOverflow then s.ethCount port 7 1
    else if !frame.fcsOk then s.ethCount port 1 1
    else if (if tagged then decide (len < 68) || decide (9022 < len) else decide (len < 64) || decide (9018 < len)) then s.ethCount port 2 1
    else if dest ≠ s.macAddr port ∧ !groupDest.contains dest then s.ethCount port 3 1
    else if !s.vlanOk port tci then s.ethCount port 3 1
    else match s.classify port inner with
      | .error c => s.ethCount port c 1
      | .ok (cls, ring) => s.rxPush port (s.rxFill port frame cls ring)).takeInbox port)

/-- RX_DESCRIPTOR_RETRY (R737). -/
def execRxDescriptorRetry (port ring : Nat) (s : State) : Out :=
  .next (match (s.mac port).fifo with
    | f :: _ => if f.ring = ring then (s.rxAll port).takeInbox port else s
    | [] => s)

/-- DESCRIPTOR_WAIT_EXPIRY (R739, R740). -/
def execDescriptorWaitExpiry (port ring : Nat) (s : State) : Out :=
  .next (match (s.mac port).fifo with
    | f :: _ => if f.ring = ring then ((s.rxGiveUp port 6).rxAll port).takeInbox port else s
    | [] => s)

/-- ETH_RX_KICK (R737). -/
def execEthRxKick (who : Initiator) (port ring : Nat) (s : State) : Out :=
  .next (if port ≥ 2 ∨ ring ≥ 3 then s.busAnswer who .error else s.toBlock who (rxBase port ring + 8) fun t => (t.rxAll port).takeInbox port)

/-! ### Transmit queues (R744 to R747) -/

/-- A frame has left a port: its octets, the count and the queue's event (R745). -/
def State.txSent (s : State) (port queue : Nat) (octets : Bytes) : State :=
  (({ s with macs := s.macs.set port { s.mac port with sent := octets } }).ethCount port 10 1).ethEvent port (3 + queue)

/-- The ready frame at the head of a ring: the bytes of its descriptors' buffers, with the tag that its first descriptor asks for (R745). -/
def State.ringFrame (s : State) (port q n : Nat) : Bytes :=
  let h := s.txHead port q
  let half (a : Nat) : Nat := ofLe (Memory.readBytes s.mem a 2)
  let frame := (List.range n).flatMap fun i =>
    let a := s.txDesc port q (h + i)
    Memory.readBytes s.mem (basin2 (s.descBuf a % 0x200000)) (half (a + 4))
  let a := s.txDesc port q h
  if half (a + 6) % 2 = 1 then insertTag frame (half (a + 8)) else frame

/-- The octets of a frame as it leaves a port. -/
def State.txOctets (s : State) (port q : Nat) : TxFrame → Bytes
  | .tl f => s.tlBytes f
  | .net x => s.netBytes x
  | .omneax ep p _ => s.omneaxBytes ep p
  | .ring n => onWire (s.ringFrame port q n)

/-- ETH_TX_DONE (R744, R745, R747): the frame in progress, when it is one of the queue named, leaves; the MAC then starts the oldest ready frame of
the highest-numbered queue that has one. -/
def execEthTxDone (port queue : Nat) (s : State) : Out :=
  .next (if port ≥ 2 ∨ queue ≥ 4 then s
    else if !s.sends port then s.txFlush port
    else if s.inProgress port ≠ some queue then s
    else match s.txFront port queue with
    | none => s
    | some f => ((s.txRemove port queue f true).txSent port queue (s.txOctets port queue f)).txNext port)

/-- ETH_TX_KICK (R744, R747). -/
def execEthTxKick (who : Initiator) (port queue : Nat) (s : State) : Out :=
  .next (if port ≥ 2 ∨ queue ≥ 4 then s.busAnswer who .error
    else s.toBlock who (txBase port queue + 8) fun t => if t.sends port then t.txStart port else t.txFlush port)

/-- Whether a Tideline frame has MARK_FLUSH set: OUTPUT and COMMIT (R746). -/
def TxTl.flushes (f : TxTl) (port : Nat) : Bool := f.port == port && (f.typ == 0x11 || f.typ == 0x12)

/-- The frames handed to the MACs without those of a port that have MARK_FLUSH set and have not started. -/
def dropLate (port : Nat) (started : Option TxFrame) : List TxTl → List TxTl
  | [] => []
  | f :: r =>
    if started = some (.tl f) then f :: r.filter fun g => !g.flushes port
    else if f.flushes port then dropLate port started r
    else f :: dropLate port started r

/-- MAC_MARK_ARRIVAL (R746): OUTPUT and COMMIT frames, and frames of queue 3 with MARK_FLUSH, that have not started are not sent. -/
def execMacMarkArrival (port : Nat) (s : State) : Out :=
  .next (if port ≥ 2 then s
    else
      let started := if s.sends port && decide (s.inProgress port = some 3) then s.txFront port 3 else none
      let l := dropLate port started s.tx
      let n := s.tx.length - l.length
      let t := { s.sampleMark (2 + port) with tx := l }.ethCount port 11 n
      let t := if n = 0 then t else t.ethEvent port 6
      match started with
      | some (.ring k) => t.flushRing port (t.txHead port 3 + k) 256
      | _ => t.flushRing port (t.txHead port 3) 256)

/-! ### MDIO and the link (R727, R728) -/

/-- A write of ETHn_MDIO_CMD. -/
def State.mdioGo (s : State) (port : Nat) (v : Word) : State := s.setReg (Reg.ethMdioCmd + 65536 * port) (v &&& 0x80000FFF)

/-- MDIO_COMMAND. -/
def execMdioCommand (who : Initiator) (port : Nat) (value : Word) (s : State) : Out :=
  .next (if port ≥ 2 then s.busAnswer who .error else s.toBlock who (Reg.ethMdioCmd + 65536 * port) fun t => t.mdioGo port value)

/-- MDIO_DONE: a read's result is in MDIO_DATA. -/
def execMdioDone (port : Nat) (data : BitVec 16) (s : State) : Out :=
  let a := Reg.ethMdioCmd + 65536 * port
  .next (if port ≥ 2 || !s.rbit a 31 then s
    else
      let t := s.setRbit a 31 false
      if s.fld a 11 10 = 2 then t.setFld (Reg.ethMdioData + 65536 * port) 15 0 data.toNat else t)

/-- LINK goes down: its stations are lost (R396), and nothing more is sent (R747). -/
def State.linkDown (s : State) (port : Nat) : State :=
  (((s.setRbit (Reg.ethStatus + 65536 * port) 0 false).ethEvent port 7).portLost port).txFlush port

/-- LINK comes up: the firmware reads the resolved speed and duplex and enables transmission on a full-duplex link (R728). -/
def State.linkRises (s : State) (port : Nat) (full : Bool) (speed : Nat) : State :=
  let t := (s.setRbit (Reg.ethStatus + 65536 * port) 0 true).ethEvent port 7
  let c := Reg.ethCtrl + 65536 * port
  if !t.firmwareRuns then t
  else if full then ((if t.fld c 3 2 = speed then t else t.ethTransient port).setFld c 3 2 speed).setRbit c 1 true
  else t.setRbit c 1 false

/-- MDIO_POLL (R728): a poll while POLL_EN is set; `fullDuplex` and `speed` are what the PHY has resolved. -/
def execMdioPoll (port : Nat) (linkGood fullDuplex : Bool) (speed : BitVec 2) (s : State) : Out :=
  .next (if port ≥ 2 || !s.rbit (Reg.ethCtrl + 65536 * port) 6 then s
    else
      let m := s.mac port
      if !linkGood then
        let t := s.setMac port { m with goodRun := 0 }
        if s.linkUp port then t.linkDown port else t
      else
        let t := s.setMac port { m with goodRun := min 3 (m.goodRun + 1) }
        if !s.linkUp port && decide (m.goodRun ≥ 2) then t.linkRises port fullDuplex speed.toNat else t)

/-! ### The TIME base (R748, R749) -/

/-- A PTP instance without the exchanges that a step of the TIME base would span (R759). -/
def PtpPort.dropExchanges (p : PtpPort) : PtpPort := { p with waiting := none, delaySeq := none, diffNs := 0 }

/-- A step of the TIME base by a count of nanoseconds; a PTP exchange that spans it is discarded (R759). -/
def State.stepTime (s : State) (ns : Int) : State :=
  { s with time := s.time.atNs ((s.time.total : Int) + ns)
           ptp := { s.ptp with ports := s.ptp.ports.map PtpPort.dropExchanges } }.setRbit Reg.ptpEvents 0 true

/-- A write of PTP_STEP with GO. -/
def State.ptpStepGo (s : State) : State :=
  if s.cycleOn then s.setRbit Reg.ptpEvents 1 true
  else s.stepTime ((s.reg Reg.ptpStepSec).toInt * 1000000000 + (s.reg Reg.ptpStepNs).toInt)

/-- PTP_STEP. -/
def execPtpStep (who : Initiator) (s : State) : Out := .next (s.guardedWrite who Reg.ptpStep fun t => t.ptpStepGo)

/-- TIME_BASE_SECOND: the seconds field advances. -/
def execTimeBaseSecond (s : State) : Out :=
  .next ({ s with time := { s.time with sec := (s.time.sec + 1) % 281474976710656, ns := 0, frac := 0 } }.setRbit Reg.ptpEvents 2 true)

/-- The snapshot that a read of PTP_TIME_SEC_LO takes. -/
def State.snapTime (s : State) (who : Initiator) : State :=
  ({ s with time := { s.time with snapSec := s.time.sec, snapNs := s.time.ns } }).busAnswer who .ok (leBytes 4 s.time.sec)

/-- PTP_TIME_SNAPSHOT. -/
def execPtpTimeSnapshot (who : Initiator) (s : State) : Out := .next (s.toBlock who Reg.ptpTimeSecLo fun t => t.snapTime who)

/-! ### ARP and ICMP (R733) -/

/-- Frames of the firmware handed to the queue of their port (Table ETH-4). -/
def State.sendNet (s : State) (l : List NetTx) : State :=
  l.foldl (fun (t : State) x => t.queueTx x.place.1 x.place.2 (if x.place.2 = 0 then [.net] else []) fun u => { u with netOut := u.netOut ++ [x] }) s

/-- Whether the firmware answers at a port's own address. -/
def State.answersAt (s : State) (port ip : Nat) : Bool :=
  decide (port < 2) && s.firmwareRuns && s.rxEn port && s.ip port != 0 && s.ip port == ip

/-- ARP_REQUEST. -/
def execArpRequest (port srcMac srcIp targetIp : Nat) (s : State) : Out :=
  .next (let t := if s.answersAt port targetIp then s.sendNet [.arpReply port srcMac srcIp] else s
    t.returnRx port 1)

/-- ICMP_ECHO_REQUEST: up to 1,472 data bytes, at most 10 per second per port. -/
def execIcmpEchoRequest (port srcMac srcIp dstIp echo : Nat) (data : Bytes) (s : State) : Out :=
  let m := s.mac port
  let recent := m.echoes.filter fun t => decide (s.nowUs < t + 1000000)
  .next (let t := if s.answersAt port dstIp && decide (data.length ≤ 1472) && decide (recent.length < 10) then
      (s.setMac port { m with echoes := recent ++ [s.nowUs] }).sendNet [.echoReply port srcMac srcIp echo data]
    else s
    t.returnRx port 1)

/-! ### PTP (R751 to R753) -/


/-- A PTP instance set; the device acts as master while one of its ports does. -/
def State.setPtp (s : State) (port : Nat) (p : PtpPort) : State :=
  let l := s.ptp.ports.set port p
  { s with ptp := { ports := l, isMaster := l.any fun x => x.master } }


/-- The grandmaster's clockIdentity as the port knows it; none is 0. -/
def State.gmIdentity (s : State) (port : Nat) : Nat :=
  let p := s.ptpPort port
  if p.master then s.clockId port else match p.parent with
    | some m => m.gmIdentity
    | none => 0

/-- The port's own data set as an Announce would carry it. -/
def State.ownAnnounce (s : State) (port : Nat) : PtpMsg :=
  let p := s.ptpPort port
  { domain := p.domain, srcIdentity := s.clockId port, priority1 := p.priority1, clockClass := p.clockClass, priority2 := p.priority2,
    gmIdentity := s.clockId port }

/-- The order of the data set comparison. -/
def ptpRank (m : PtpMsg) : List Nat :=
  [m.priority1, m.clockClass, m.accuracy, m.variance, m.priority2, m.gmIdentity, m.stepsRemoved, m.srcIdentity]

/-- Lexicographic less. -/
def listLess : List Nat → List Nat → Bool
  | a :: r, b :: t => decide (a < b) || (a == b && listLess r t)
  | [], _ :: _ => true
  | _, [] => false

/-- Whether one data set is better than another. -/
def ptpBetter (a b : PtpMsg) : Bool := listLess (ptpRank a) (ptpRank b)

/-- Whether a PTP instance takes part, and hears messages of its domain. -/
def PtpPort.hears (p : PtpPort) (m : PtpMsg) : Bool := p.role != 0 && m.domain == p.domain

/-- Whether a PTP instance may be a slave. -/
def PtpPort.maySlave (p : PtpPort) : Bool := p.role == 2 || p.role == 3

/-- PTP_ANNOUNCE (R751, R752): the best master heard, against the port's own data set under AUTO. -/
def execPtpAnnounce (port : Nat) (m : PtpMsg) (s : State) : Out :=
  let p := s.ptpPort port
  .next (if port ≥ 2 || !p.hears m || !p.maySlave then s.returnRx port 2
    else
      let take := match p.parent with
        | none => true
        | some q => q.srcIdentity == m.srcIdentity || ptpBetter m q
      let parent := if take then some m else p.parent
      let slave := p.role == 2 || (match parent with
        | some q => ptpBetter q (s.ownAnnounce port)
        | none => false)
      let changed := (p.parent.map fun q => q.srcIdentity) != (parent.map fun q => q.srcIdentity)
      let q := { p with parent := parent, master := !slave, lostMaster := p.lostMaster && !slave,
                        okRun := if changed then 0 else p.okRun, locked := p.locked && slave && !changed }
      let t := s.setPtp port q
      (if slave then t else t.setAddend 0).returnRx port 2)

/-- The lock state after one measured offset (R753). -/
def PtpPort.measure (p : PtpPort) (off : Int) : PtpPort :=
  let ok := if decide (-200 ≤ off) && decide (off ≤ 200) then p.okRun + 1 else 0
  let bad := if decide (off < -1000) || decide (1000 < off) then p.badRun + 1 else 0
  { p with okRun := min ok 16, badRun := min bad 3, locked := (p.locked || decide (ok ≥ 16)) && !decide (bad ≥ 3) }

/-- A complete Sync: the offset is measured, the servo sets PTP_ADDEND to a value that the spec does not state, but not in holdover (R122), and
while the cycle is stopped an offset beyond 1 ms is stepped away (R124, R749, R753). -/
def State.syncDone (s : State) (port : Nat) (rx tx corr : Int) : State :=
  let p := s.ptpPort port
  let diff := rx - tx - corr
  let off := diff - p.delayNs
  let q := { p.measure off with diffNs := diff, waiting := none, lostMaster := false }
  let t := s.setPtp port q
  let t := (t.setAddend (t.readBack Reg.ptpAddend 0 (t.free.setWidth 32))).usedFree
  if !t.cycleOn && (decide (off < -1000000) || decide (1000000 < off)) then t.stepTime (-off) else t

/-- Whether a message comes from the master that a slave port follows. -/
def PtpPort.fromParent (p : PtpPort) (m : PtpMsg) : Bool :=
  p.hears m && p.maySlave && !p.master && (match p.parent with
    | some q => q.srcIdentity == m.srcIdentity
    | none => false)

/-- PTP_SYNC: one-step Syncs measure at once, two-step ones wait for their Follow_Up. -/
def execPtpSync (port : Nat) (m : PtpMsg) (s : State) : Out :=
  let p := s.ptpPort port
  .next (let t := if port ≥ 2 || !p.fromParent m then s
      else if m.twoStep then s.setPtp port { p with waiting := some m }
      else s.syncDone port m.rxNs m.txNs m.correctionNs
    t.returnRx port 2)

/-- PTP_FOLLOW_UP. -/
def execPtpFollowUp (port : Nat) (m : PtpMsg) (s : State) : Out :=
  let p := s.ptpPort port
  .next (let t := if port ≥ 2 || !p.fromParent m then s
      else match p.waiting with
        | some w => if w.seq = m.seq then s.syncDone port w.rxNs m.txNs (w.correctionNs + m.correctionNs) else s
        | none => s
    t.returnRx port 2)

/-- PTP_DELAY_REQ: a master answers with the receive time. -/
def execPtpDelayReq (port : Nat) (m : PtpMsg) (s : State) : Out :=
  let p := s.ptpPort port
  .next (let t := if port ≥ 2 || !p.hears m || !p.master then s
      else s.sendNet [.ptp port 4 m.seq p.domain m.rxNs.toNat (some m)]
    t.returnRx port 2)

/-- PTP_DELAY_RESP: the mean path delay from the last Sync and the Delay_Req that it answers. -/
def execPtpDelayResp (port : Nat) (m : PtpMsg) (s : State) : Out :=
  let p := s.ptpPort port
  .next (let t := if port ≥ 2 || !p.fromParent m then s
      else match p.delaySeq with
        | some (q, tx) =>
          if q = m.seq then s.setPtp port { p with delaySeq := none, delayNs := (p.diffNs + (m.rxNs - tx - m.correctionNs)) / 2 } else s
        | none => s
    t.returnRx port 2)

/-- PTP_ANNOUNCE_RECEIPT_TIMEOUT (R753): a slave reports unlocked and PTP_ADDEND freezes; an AUTO port becomes master. -/
def execPtpAnnounceReceiptTimeout (port : Nat) (s : State) : Out :=
  let p := s.ptpPort port
  .next (if port ≥ 2 || !p.maySlave || p.master then s
    else
      let t := s.setPtp port { p with locked := false, lostMaster := true, okRun := 0, parent := none, waiting := none, master := p.role == 3 }
      if p.role = 3 then t.setAddend 0 else t)

/-- PTP_MESSAGE_INTERVAL (R751): kind 0 Sync and 1 Announce from a master, 2 Delay_Req from a slave; a two-step Sync is followed at once. -/
def execPtpMessageInterval (port kind : Nat) (s : State) : Out :=
  let p := s.ptpPort port
  let n := p.seqs.getD kind 0
  let now := s.time.total
  let out : List NetTx := match kind with
    | 0 => .ptp port 0 n p.domain now :: (if p.oneStep && !p.udp then [] else [.ptp port 3 n p.domain now])
    | 1 => [.ptp port 1 n p.domain now]
    | _ => [.ptp port 2 n p.domain now]
  .next (if port ≥ 2 ∨ kind > 2 ∨ p.role = 0 then s
    else if kind < 2 && !p.master then s
    else if kind = 2 && (p.master || p.parent.isNone) then s
    else (s.sendNet out).setPtp port
      { p with seqs := p.seqs.set kind ((n + 1) % 65536), delaySeq := if kind = 2 then some (n, now) else p.delaySeq })

/-! ### ANNOUNCE (R163, R380, R381) -/

/-- The code of a role (Table STN-3). -/
def DevRole.code : DevRole → Nat
  | .standby => 0
  | .idle => 1
  | .active => 2

/-- A port that announces: its receive path is enabled. -/
def State.portEnabled (s : State) (port : Nat) : Bool := s.rxEn port

/-- Stations held MOORED or SLACK on a port. -/
def State.moored (s : State) (port : Nat) : List Nat :=
  (s.tl.stations.filter fun (x : Nat × Station) =>
    decide (x.1 < 112) && x.2.port == port && (x.2.state == .moored || x.2.state == .slack)).map fun (x : Nat × Station) => x.1

/-- The ANNOUNCE frame of a port. -/
def State.annFrame (s : State) (port : Nat) : TxTl :=
  { port := port, dest := 0x015DA088B500, typ := 0x01, stationId := 0xFF, cycle := s.frameCycle, mark := s.frameMark, epoch := s.tl.epoch,
    payload := leBytes 1 s.tl.role.code ++ leBytes 1 s.warning.toNat ++ leBytes 1 (s.ptpPort port).domain ++ leBytes 1 (s.moored port).length ++
      leBytes 4 s.wc.periodUs ++ leBytes 4 (gatherUs s.wc.periodUs s.wc.gatherPct) ++ leBytes 4 s.wc.leadUs ++
      (leBytes 8 (s.gmIdentity port)).reverse ++ zeros 4 }

/-- ANNOUNCE on every enabled port. -/
def State.announceAll (s : State) : State :=
  (List.range 2).foldl (fun (t : State) p =>
    if t.portEnabled p then { t.sendTl (t.annFrame p) with tl := { t.tl with announced := t.tl.announced ||| 2 ^ p } } else t) s

/-- ANNOUNCE (R381). -/
def execAnnounce (s : State) : Out := .next (if s.harbourOpen then s.announceAll else s)

end Sys2Proof.Machine
end

