-- ==== Sys2Proof/Machine/Clocks.lean ====
section
/-! DEFINITION. The clock monitors, the loss and return of clocks, PLL locks, holdover, the ARR post-divider (chapter 04). -/

namespace Sys2Proof.Machine

/-! ### Clocks (R115 to R132, Table CLK-6) -/

/-- The status bit of a clock in CLKGEN_STATUS, by its code of R119. -/
def clkStatusBit : Nat → Option Nat
  | 0 => some 0
  | 1 => some 1
  | 2 => some 2
  | 3 => none
  | 4 => some 4
  | n => if n ≤ 12 then some n else none

/-- A clock's status bit set. -/
def State.clkStatus (s : State) (code : Nat) (b : Bool) : State :=
  match clkStatusBit code with
  | some i => s.setRbit Reg.clkgenStatus i b
  | none => s

/-- Whether a monitor watches a clock: XTAL25, ARR, SYS, TIME and the 32.768 kHz clock always, the others by CLKGEN_MON_EN. -/
def State.monitored (s : State) (code : Nat) : Bool :=
  if 5 ≤ code ∧ code ≤ 11 then s.rbit Reg.clkgenMonEn (code - 5) else [0, 1, 2, 3, 12].contains code

/-- The virtual stations that a queue controller on SLIPn feeds (R823). -/
def State.vsOnClock (s : State) (n id : Nat) : Bool :=
  match s.slip.design with
  | none => false
  | some d =>
    decide (124 ≤ id) &&
    (let q := d.qcs.getD (id - 124) (255, 255)
     [q.1, q.2].any fun c => decide (c < 24) && s.fld (Reg.slipctlQcCfg + 16 * c) 4 3 == n)

/-- The frame that a port's receive path is in the middle of, partly stored, ends as R740 states and is counted in RX_FIFO_DROP (R756). Whole
frames that wait in the FIFO are readable and stay (R117). -/
def State.rxCut (s : State) (port : Nat) : State :=
  match (s.mac port).fifo with
  | f :: _ => if f.done = 0 then s else s.rxGiveUp port 7
  | [] => s

/-- What follows the loss of a clock other than XTAL25 and SYS (Table CLK-6). -/
def State.clockConsequence (s : State) (code : Nat) : State :=
  match code with
  | 0 => ((s.dropWindow 7).dropControl 7).resetQuay
  | 2 => s.setRbit Reg.clkgenStatus 3 true
  | 5 => s.vanishPcie.resetEndpoint
  | 6 => (s.rxCut 0).portLost 0
  | 7 => (s.rxCut 1).portLost 1
  | 8 | 9 | 10 | 11 => s.linksLost fun id _ => s.vsOnClock (code - 8) id
  | _ => s

/-- A clock is declared lost: its status bit, its sticky bit where it has one, and the entry (R119). -/
def State.declareLost (s : State) (clock : Nat) : State :=
  let t := { s with lostClocks := s.lostClocks ||| 2 ^ clock }.clkStatus clock false
  let t := if clock = 1 || clock = 3 then t else t.setRbit Reg.clkgenLoss clock true
  t.faultB 0x016 2 0x11 (BitVec.ofNat 32 clock)

/-- CLOCK_LOST (R117, R119, R129, R132): the codes, as in R119, of the clocks that their monitors declare lost in the same SVO_CLK cycle. The
entries come first, in ascending order of the codes; XTAL25 or SYS among them resets the device (Table CLK-6). -/
def execClockLost (clocks : List Nat) (s : State) : Out :=
  let l := (List.range 13).filter fun c => clocks.contains c && s.monitored c && !s.lostClocks.testBit c
  let t := l.foldl State.declareLost s
  .next (if l.contains 1 || l.contains 3 then t.escalate else l.foldl State.clockConsequence t)

/-- The queues on the boundary of a clock that is good again start empty (R118): the queue controllers on SLIPn, a port's receive FIFO, and
the packets between the PCIe endpoint and node 8. -/
def State.emptyBoundary (s : State) (code : Nat) : State :=
  match code with
  | 5 => { s with fw := { s.fw with wake := Store.erase s.fw.wake 8, responses := s.fw.responses.filter fun p => p.dst != 8 } }
  | 6 | 7 => s.setMac (code - 6) { s.mac (code - 6) with fifo := [] }
  | 8 | 9 | 10 | 11 =>
    { s with slip := { s.slip with qcs := s.slip.qcs.filter fun (x : Nat × Qc) => s.fld (Reg.slipctlQcCfg + 16 * x.1) 4 3 != code - 8 } }
  | _ => s

/-- A clock is good: its status bit, and after a declared loss empty queues and CLK_GOOD (R118, R119). -/
def State.clockGood (s : State) (code : Nat) : State :=
  if s.lostClocks.testBit code then
    (({ s with lostClocks := s.lostClocks - 2 ^ code }.clkStatus code true).emptyBoundary code).faultB 0x017 1 0x11 (BitVec.ofNat 32 code)
  else s.clkStatus code true

/-- CLOCK_GOOD (R115, R118): of a clock whose monitor is enabled; ARR and SYS are good once their PLL has locked, TIME only with a passed
check besides. -/
def execClockGood (clock : Nat) (s : State) : Out :=
  .next (if !s.monitored clock || (decide (clock ≤ 2) && !s.rbit Reg.clkgenStatus clock) || (clock = 2 && !s.rbit Reg.clkgenStatus 4) then s
    else s.clockGood clock)

/-- PLL_LOCK (R121, Table CLK-6): 0 ARR, 1 SYS, 2 TIME; a relock of ARR resets the ARR domain. -/
def execPllLock (pll : Nat) (s : State) : Out :=
  .next (match pll with
    | 0 => if s.lostClocks.testBit 0 then (s.clockGood 0).arrReset else s.clkStatus 0 true
    | 1 => s.clockGood 1
    | 2 => s.clkStatus 2 true
    | _ => s)

/-- TIME_FREQ_CHECK (R122, R123, R131): the offset in units of 0.1 ppm; a failed check puts the TIME base in holdover. -/
def execTimeFreqCheck (ppm : BitVec 16) (s : State) : Out :=
  let ok := decide (-2000 ≤ ppm.toInt) && decide (ppm.toInt ≤ 2000)
  let t := (s.setFld Reg.clkgenTimePpm 15 0 ppm.toNat).setRbit Reg.clkgenStatus 4 ok
  .next (if ok then t else (t.setRbit Reg.clkgenLoss 4 true).setRbit Reg.clkgenStatus 3 true)

/-- TIME_HOLDOVER_ENTRY (R122). -/
def execTimeHoldoverEntry (s : State) : Out := .next (s.setRbit Reg.clkgenStatus 3 true)

/-- TIME_HOLDOVER_EXIT (R124): the TIME PLL has locked, one check has passed, and holdover is not forced. DESIGN CHOICE (log entry 167): the
check may be older than the lock, since the check compares TIME_REFCLK with XTAL25 and needs no PLL. -/
def execTimeHoldoverExit (s : State) : Out :=
  .next (if s.rbit Reg.clkgenStatus 2 && s.rbit Reg.clkgenStatus 4 && !s.rbit Reg.clkgenTimeCfg 1 then s.setRbit Reg.clkgenStatus 3 false else s)

/-- ARR_HALF_WRITE (R105, R125): the request; the change follows at the second ARR edge. -/
def execArrHalfWrite (who : Initiator) (half : Bool) (s : State) : Out :=
  .next (s.guardedWrite who Reg.clkgenCtrl fun t => t.setRbit Reg.clkgenCtrl 0 half)

/-- ARR_HALF_CHANGE (R105, R508): the post-divider follows ARR_HALF, and DL_LEFT is rescaled to the new Plain cycles. -/
def execArrHalfChange (s : State) : Out :=
  let half := s.rbit Reg.clkgenCtrl 0
  .next (if half = s.rbit Reg.clkgenStatus 13 then s
    else
      let t := s.setRbit Reg.clkgenStatus 13 half
      { t with pilot := { t.pilot with dlLeft := if half then t.pilot.dlLeft / 2 else t.pilot.dlLeft * 2 } })

end Sys2Proof.Machine
end

