-- ==== Sys2Proof/Machine/Boot.lean ====
section
/-! DEFINITION. Power-up, the boot ROM, Harbour Open (chapter 05), the supply warning and sag resets (chapter 03), load chunks (R770, R771). -/

namespace Sys2Proof.Machine

/-! ### Power-on reset (R72, R82, R136) -/

/-- AON state is lost: ring, real-time counter, reset cause, sticky monitors, try counts (R82, Table BOT-1). -/
def State.aonLost (s : State) : State :=
  let t := { s with regs := s.regs.filter fun (p : Nat × Word) => !keptRegs.contains p.1 && p.1 != Reg.supmonStatus, bbr := {} }
  { t with time := {} }

/-- The entry VBAT_LOW, where VBAT is low and this power-up has not written it (R81). -/
def State.vbatEntry (s : State) : State :=
  if !s.rbit Reg.supmonAonStatus 0 || s.boot.vbatLogged then s
  else { s with boot := { s.boot with vbatLogged := true } }.faultB 0x015 1 0x10 0

/-- POR_RELEASE: the rails are good and internal reset is still held. A collapse that no reset had caught latches SAG first (R136); without
VBAT the AON domain starts anew with AON_LOST and cause POR, whatever its registers held. SUPMON forgets its last conversion (R85). -/
def execPorRelease (vbatGood : Bool) (s : State) : Out :=
  let t := if s.boot.held then s.cleared else s.deviceReset Cause.sag
  let t := (if vbatGood then t else t.aonLost).setReg Reg.supmonSenseMv 0
  .next ({ t with boot := { t.boot with held := true, sagLow := false, hot := false, vbatLogged := false,
                                        resetEntry := if vbatGood then t.boot.resetEntry else none } }.vbatEntry)

/-! ### The boot ROM (Table BOT-3) -/

/-- Whether the boot source is flash; the reserved strap value acts as FLASH (Table PKG-9). -/
def State.flashBoot (s : State) : Bool := s.boot.mode == 0 || s.boot.mode == 3

/-- The window watchdog starts with a window of 2 s (R169). -/
def State.startWdt (s : State) : State :=
  { (s.setReg Reg.timerWdtMax 2000).setRbit Reg.timerWdtCtrl 0 true with wdtUs := s.nowUs }

/-- INTERNAL_RESET_RELEASE (R58, R60): straps are latched; with TEST_N low the device does not boot. Only a post-trigger entry after it asks for
an anchor in a frozen ring (R891). -/
def execInternalResetRelease (bootMode : BitVec 2) (testN : Bool) (s : State) : Out :=
  .next (if !s.boot.held || s.boot.sagLow || s.boot.hot || s.lostClocks.testBit 3 then s
    else
      let t := s.setReg Reg.sysctlStraps (BitVec.ofNat 32 (bootMode.toNat + 4 * testN.toNat))
      if !testN then { t with boot := { t.boot with testMode := true } }
      else
        { t with
          boot := { t.boot with held := false, mode := bootMode.toNat, testMode := false, basins := false }
          bbr := { t.bbr with postSinceTick := false } })

/-! ### Image slots (R148 to R153) -/

/-- The flash offset of a slot, 1 for A and 2 for B. -/
def slotAddr (slot : Nat) : Nat := 0x100000 * slot

/-- A slot's try count. -/
def State.tries (s : State) (slot : Nat) : Nat := s.fld Reg.sysctlBootTries (2 * slot - 1) (2 * slot - 2)

/-- A slot's result recorded. -/
def State.setSlotResult (s : State) (slot code : Nat) : State := s.setFld Reg.sysctlBootStatus (4 * slot + 3) (4 * slot) code

/-- A slot's header. -/
def State.slotHeader (s : State) (slot : Nat) : Bytes := s.flash.readBytes (slotAddr slot) 256

/-- A slot's image. -/
def State.slotImage (s : State) (slot : Nat) : Bytes :=
  let h := s.slotHeader slot
  h ++ s.flash.readBytes (slotAddr slot + 256) (min (u32 h 20) 393216)

/-- What a slot's header records before any body is read: BOOT_LOOP, NO_ANSWER, a header check's code, or 0 where it may run. -/
def State.slotCode (s : State) (slot : Nat) : Nat :=
  if s.tries slot ≥ 3 then 12
  else if s.boot.noAnswer.contains slot then (if (s.slotHeader slot).all fun b => b == 0 then 2 else 9)
  else if (s.slotHeader slot).all fun b => b == 0xFF then 9
  else s.headerResult (s.slotHeader slot)

/-- The slots that may still run, in the order of R149. -/
def State.candidates (s : State) : List Nat :=
  let ok := [1, 2].filter fun i => s.slotCode i == 0 && !s.boot.failed.contains i
  match ok with
  | [a, b] => if u32 (s.slotHeader b) 12 > u32 (s.slotHeader a) 12 then [b, a] else [a, b]
  | l => l

/-- FLASH_HEADER_RETRY (R150): 1 ms after a failed read; after the third failure the slot is given up. -/
def execFlashHeaderRetry (slot : Nat) (retryFailed : Bool) (s : State) : Out :=
  let n := s.boot.retries.getD (slot - 1) 0
  .next (if s.boot.held || s.boot.imaged || !s.boot.basins || !s.flashBoot || slot = 0 || slot > 2 || decide (n ≥ 2) then s
    else
      let b := { s.boot with retries := s.boot.retries.set (slot - 1) (n + 1) }
      { s with boot := if retryFailed && n == 1 then { b with noAnswer := b.noAnswer ++ [slot] } else b })

/-! ### The configuration record (R729, R735, R789) -/

/-- A copy of the configuration record that verifies. -/
def Flash.record (f : Flash) (copy : Nat) : Option Bytes :=
  let b := f.readBytes (0x8000 * copy) 160
  if u32 b 0 = 0x4359444E ∧ u16 b 8 = 160 ∧ u16 b 10 = 1 ∧ (crc32 (b.take 156)).toNat = u32 b 156 then some b else none

/-- The valid copy with the higher SEQ. -/
def Flash.config (f : Flash) : Option Bytes :=
  match f.record 0, f.record 1 with
  | some a, some b => some (if u32 b 4 > u32 a 4 then b else a)
  | some a, none => some a
  | none, b => b

/-- A field of a port record, with its default where it is out of range. -/
def orDefault (ok : Bool) (v d : Nat) : Nat := if ok then v else d

/-- Whether a port record keeps to the ranges of chapter 20. -/
def portRecordOk (r : Bytes) : Bool :=
  let logOk (o : Nat) (lo hi : Int) : Bool := decide (lo ≤ toSigned 8 (u8 r o)) && decide (toSigned 8 (u8 r o) ≤ hi)
  let sizeOk (i : Nat) : Bool := decide (16 ≤ u16 r (36 + 2 * i)) && decide (u16 r (36 + 2 * i) ≤ 1024)
  let bufOk (i : Nat) : Bool := decide (256 ≤ u16 r (42 + 2 * i)) && decide (u16 r (42 + 2 * i) ≤ 16384) && u16 r (42 + 2 * i) % 64 == 0
  decide (u8 r 7 ≤ 3) && decide (u8 r 28 ≤ 1) && decide (u8 r 29 ≤ 127) && logOk 33 (-4) 1 && logOk 34 0 3 && logOk 35 (-4) 2 &&
    ((List.range 3).all fun i => sizeOk i && bufOk i) && decide (2048 ≤ u16 r 42)

/-- Ring sizes and buffer sizes by ring, with the defaults of chapter 20. -/
def recordRings (r : Bytes) : List (Nat × Nat) :=
  (List.range 3).map fun i =>
    let n := u16 r (36 + 2 * i)
    let b := u16 r (42 + 2 * i)
    let least := if i = 0 then 2048 else 256
    (orDefault (decide (16 ≤ n) && decide (n ≤ 1024)) n ([128, 32, 16].getD i 16),
     orDefault (decide (least ≤ b) && decide (b ≤ 16384) && b % 64 == 0) b ([2048, 2048, 256].getD i 256))

/-- The rings of a port that its region of Basin 2 holds; rings that do not fit take the default sizes. -/
def portRings (r : Option Bytes) : List (Nat × Nat) :=
  let std := [(128, 2048), (32, 2048), (16, 256)]
  let l := match r with
    | some b => recordRings b
    | none => std
  if l.foldl (fun n x => n + x.1 * (16 + x.2)) 64 ≤ 0x60000 then l else std

/-- A ring laid out at a Basin 2 offset: its descriptors, then its buffers, every descriptor owned by the MAC; answers the next offset. -/
def State.layRing (s : State) (port r off size buf : Nat) : State × Nat :=
  let bufs := (off + 16 * size + 63) / 64 * 64
  let mem := (List.range size).foldl (fun (m : Memory) i =>
    Memory.writeBytes m (basin2 (off + 16 * i)) (leBytes 4 (bufs + buf * i + 2147483648))) s.mem
  let t := { s with mem := mem }.setReg (rxBase port r) (BitVec.ofNat 32 off)
  ((t.setReg (rxBase port r + 4) (BitVec.ofNat 32 (size + 65536 * (buf / 64)))).setReg (rxBase port r + 12) 0, bufs + buf * size)

/-- A port's three rings in its region (Table QUY-2). -/
def State.layRings (s : State) (port : Nat) (r : Option Bytes) : State :=
  let base := if port = 0 then 0x20000 else 0x80000
  (((portRings r).zip (List.range 3)).foldl (fun (x : State × Nat) y => x.1.layRing port y.2 ((x.2 + 15) / 16 * 16) y.1.1 y.1.2) (s, base)).1

/-- A port's registers and PTP settings from its record, or by R729 without one. -/
def State.setUpPort (s : State) (port : Nat) (r : Option Bytes) : State :=
  let at_ (a : Nat) : Nat := a + 65536 * port
  let mac : Bytes := match r with
    | some b => b.take 6
    | none => [0x02, 0x5D, 0xA0, 0x00, 0x00, BitVec.ofNat 8 port]
  let t := (s.setReg (at_ Reg.ethMacLo) (BitVec.ofNat 32 (u32 mac 0))).setReg (at_ Reg.ethMacHi) (BitVec.ofNat 32 (u16 mac 4))
  let t := match r with
    | none => t.setReg (at_ Reg.ethIpAddr) 0
    | some b =>
      let t := t.setReg (at_ Reg.ethIpAddr) (BitVec.ofNat 32 (u32 b 8))
      let t := (t.setReg (at_ Reg.ethVidA) (BitVec.ofNat 32 (u32 b 20) &&& 0x8FFF8FFF)).setReg (at_ Reg.ethVidB) (BitVec.ofNat 32 (u32 b 24) &&& 0x8FFF8FFF)
      let t := t.setReg (at_ Reg.ethVlanCfg) (BitVec.ofNat 32 (u8 b 6 % 4))
      let t := t.setReg (at_ Reg.ethTsLat) (BitVec.ofNat 32 (u32 b 48))
      let num (ok : Bool) (v d : Nat) : Nat := orDefault ok v d
      let log (o : Nat) (lo hi d : Int) : Int := let v := toSigned 8 (u8 b o); if lo ≤ v ∧ v ≤ hi then v else d
      let role := num (decide (u8 b 7 ≤ 3)) (u8 b 7) 0
      t.setPtp port {
        role := role, udp := u8 b 28 == 1, oneStep := u8 b 6 / 4 % 2 == 1, domain := num (decide (u8 b 29 ≤ 127)) (u8 b 29) 0,
        priority1 := u8 b 30, priority2 := u8 b 31, clockClass := u8 b 32, logSync := log 33 (-4) 1 (-3), logAnnounce := log 34 0 3 1,
        logDelay := log 35 (-4) 2 (-3), master := role == 1 || role == 3, mask := u32 b 12, gateway := u32 b 16 }
  let t := (t.layRings port r).setRbit (at_ Reg.ethCtrl) 0 true
  (t.setRbit (at_ Reg.ethCtrl) 6 true).monitor (1 + port) true

/-- At most one port has SLAVE_ONLY or AUTO; ETH1 becomes MASTER_ONLY where two ask for it (R752). -/
def State.oneSlave (s : State) : State :=
  if (s.ptpPort 0).maySlave && (s.ptpPort 1).maySlave then s.setPtp 1 { s.ptpPort 1 with role := 1, master := true } else s

/-- CONFIG_DEFAULT's payload: bit p for a port record that defaulted, bit 2 where the whole record is missing. -/
def configMask (r : Option Bytes) : Nat :=
  match r with
  | none => 4
  | some b => (!portRecordOk (slice b 16 64)).toNat + 2 * (!portRecordOk (slice b 80 64)).toNat

/-- A station as its persisted record leaves it: MODE, PORT, MAC, then its block. -/
def stationOfRecord (id : Nat) (r : Bytes) : Station :=
  let mode : AdmitMode := if u8 r 0 = 1 then .locked else if u8 r 0 = 2 then .refuse else .auto
  let c := r.drop 8
  { mode := mode, lockPort := u8 r 1, lockMac := ofBe (slice r 2 6), config := c, enabled := decide (112 ≤ id) && u8 r 0 == 0, willMoor := decide (112 ≤ id) && u8 r 0 == 0,
    missK := if id < 112 ∧ c ≠ [] then u8 c 3 else 3 }

/-- A persisted kernel program as boot restores it. -/
def programOfRecord (img : Bytes) : Program :=
  { image := img, worstCost := u32 img 12, crc := crc32 (img.take (img.length - 4)), persisted := true, harbour := false }

/-- The persisted records restored: kernel programs, station records, the newest vessel model (R288, R294, R297, Table HPS-6). -/
def State.restore (s : State) : State :=
  let live := match s.flash.models with
    | [] => s.ves.half.live
    | l => l.getLast?
  { s with
    programs := Store.mapKV s.flash.progs fun _ b => programOfRecord b
    tl := { s.tl with stations := Store.mapKV s.flash.stations fun id r => stationOfRecord id r }
    ves := { s.ves with half := { s.ves.half with live := live } } }

/-- What the journal restores at boot: the temperature and SENSE offsets, and the holdover addend's mean (R837, R840). -/
def State.restoreJournal (s : State) : State :=
  let off (kind key : Nat) : Option Int := (s.journal.payload kind key).map fun b => s32 b 0
  let t := match off 2 3 with
    | some v => s.setFld Reg.tempOffset 15 0 (BitVec.ofInt 16 v).toNat
    | none => s
  let t := match off 2 4 with
    | some v => { t with cal := { t.cal with senseOffsetMv := v } }
    | none => t
  match off 3 0 with
  | some v => { t with drift := { t.drift with sum := 3600 * v } }
  | none => t

/-- The Harbour firmware starts: ports, PCIe ready, persisted records (R158, R159, R729). -/
def State.startFirmware (s : State) : State :=
  let r := s.flash.config
  let t := { s with boot := { s.boot with imaged := true, configFault := configMask r } }
  let t := match r with
    | some b => { t with host := { t.host with subsysVendor := u16 b 144, subsysId := u16 b 146, irqMode := u8 b 148 } }
    | none => t
  let t := ((t.setUpPort 0 (r.map fun b => slice b 16 64)).setUpPort 1 (r.map fun b => slice b 80 64)).oneSlave
  t.restore.restoreJournal.setRbit Reg.sysctlBootStatus 17 true

/-! ### Handover (R146, R151 to R153) -/

/-- The Pilot patch of an image. -/
def imagePatch (img : Bytes) : Bytes := slice img (256 + u32 img 32) (u32 img 36)

/-- The boot image's patch is loaded once the Plain test has ended, before Harbour Open; a body that fails its checks is rejected with
PATCH_REJECTED (R157, R516). -/
def State.bootPatch (s : State) : State :=
  let p := s.boot.patch
  if p = [] || !s.rbit Reg.sysctlBootStatus 16 || !s.firmwareRuns then s
  else
    let t := { s with boot := { s.boot with patch := [] } }
    if patchOk p then t.installPatch p
    else t.faultF 0x027 2 0x02 (BitVec.ofNat 32 (patchId p))

/-- The body of an image read into Basin 0 at LOAD_OFFSET; Basin 0 is cleared before it (R143, R144). -/
def State.placeBody (s : State) (img : Bytes) : State :=
  { s with mem := Memory.writeBytes (Memory.clear s.mem 0x20000000 0x100000) (0x20000000 + u32 img 24) (img.drop 256) }

/-- A rejected image whose body was read, for its hash or its signature failed, stays in Basin 0 until the next is read. -/
def State.rejected (s : State) (img : Bytes) (code : Nat) : State := if code = 5 ∨ code = 6 then s.placeBody img else s

/-- An accepted image runs: `used` is SLOT_USED. -/
def State.handOver (s : State) (img : Bytes) (used : Nat) : State :=
  let t := (s.placeBody img).setFld Reg.sysctlBootStatus 1 0 used
  let t := if t.flashBoot then t else t.startWdt
  let t := { t with boot := { t.boot with imaged := true, imgSeq := u32 img 12, imgRollback := u16 img 16, patch := imagePatch img } }
  if t.otp.openFw then
    { t.setReg Reg.sysctlRemap 1 with hm := { t.hm with pc := BitVec.ofNat 32 (0x20000000 + u32 img 24 + u32 img 28) } }
  else t.startFirmware.bootPatch

/-- No slot is accepted: the firmware in ROM runs, with ROM_ONLY or in the recovery state (R152, R153). -/
def State.noImage (s : State) : State :=
  let a := s.fld Reg.sysctlBootStatus 7 4
  let b := s.fld Reg.sysctlBootStatus 11 8
  if s.otp.openFw then (s.setRbit Reg.sysctlBootStatus 14 true).startFirmware
  else ((s.setRbit Reg.sysctlBootStatus 13 true).bbrA 0x040 2 0x01 (BitVec.ofNat 32 (a + 16 * b))).startFirmware

/-- The codes of the slots as their headers leave them; a slot whose body failed keeps that code. -/
def State.recordSlots (s : State) : State :=
  [1, 2].foldl (fun (t : State) i => if t.boot.failed.contains i then t else t.setSlotResult i (t.slotCode i)) s

/-- A slot's try count advances before the handover (R151). -/
def State.countTry (s : State) (slot : Nat) : State := s.setFld Reg.sysctlBootTries (2 * slot - 1) (2 * slot - 2) (min 3 (s.tries slot + 1))

/-- BOOT_IMAGE_CHECKED (R143, R144, R149 to R153): the first slot in the order of R149 is verified whole. -/
def execBootImageChecked (slot : Nat) (s : State) : Out :=
  .next (if s.boot.held || s.boot.imaged || !s.boot.basins || !s.flashBoot then s
    else
      let t := s.recordSlots
      match t.candidates with
      | [] => t.noImage
      | c :: rest =>
        if c ≠ slot then s
        else
          let img := t.slotImage c
          let r := t.imageResult img
          if r = 1 then
            let t := t.setSlotResult c 1
            let t := rest.foldl (fun (u : State) i => u.setSlotResult i 13) t
            (t.countTry c).handOver img c
          else
            let t := { (t.setSlotResult c r).rejected img r with boot := { t.boot with failed := t.boot.failed ++ [c] } }
            if rest.isEmpty then t.noImage else t)

/-! ### Load chunks (R770, R771) -/

/-- The result of a chunk as the host sees it; pair 0's REPLY_READY is set over PCIe. -/
def State.bootReport (s : State) (ep : Endpoint) (r : Nat) : State :=
  let t := { s with host := { s.host with bootResult := r } }
  match ep with
  | .pcie n => t.setBox n { t.box n with replyReady := true }
  | _ => t

/-- The result code of a chunk, and the bytes taken so far with it. -/
def State.chunkResult (s : State) (offset total : Nat) (data : Bytes) : Nat × Bytes :=
  let have_ := match s.host.load with
    | some (_, b) => b
    | none => []
  let all := have_ ++ data
  let known := match s.host.load with
    | some (t, _) => t == total
    | none => true
  let shape := decide (260 ≤ total) && decide (total ≤ 393472) && decide (4 ≤ data.length) && decide (data.length ≤ 8184) && data.length % 4 == 0
  if offset ≠ have_.length ∨ !known ∨ !shape ∨ all.length > total ∨ all.length < 256 then (15, all)
  else
    let head := if have_ = [] then s.headerResult (all.take 256) else 0
    if head ≠ 0 then (head, all)
    else if all.length < total then (0, all)
    else (s.imageResult all, all)

/-- A chunk that reaches the waiting ROM (R154, R770, R771): the firmware that an accepted image starts takes over a running watchdog (R169). -/
def State.loadChunk (s : State) (ep : Endpoint) (offset total : Nat) (data : Bytes) : State :=
  let right := match ep with
    | .pcie n => s.boot.mode == 1 && n == 0 && !(s.box 0).replyReady && !s.host.perst
    | .hspi => s.boot.mode == 2
    | _ => false
  if !s.host.bootWait then s
    else if !right then (match ep with
      | .pcie _ => s.hostDiscard
      | _ => s)
    else
      let (r, all) := s.chunkResult offset total data
      if r = 0 then { s with host := { s.host with load := some (total, all) } }.bootReport ep 0
      else if r = 1 then
        let t := { s with host := { s.host with load := none, bootWait := false } }
        (t.handOver all 3).bootReport ep 1
      else ({ s with host := { s.host with load := none } }.rejected all r).bootReport ep r

/-- LOAD_CHUNK: a chunk by its fields. -/
def execLoadChunk (ep : Endpoint) (offset total : Nat) (data : Bytes) (s : State) : Out := .next (s.loadChunk ep offset total data)

/-- A chunk as bytes: OFFSET, TOTAL, data (R770). -/
def State.loadUnit (s : State) (ep : Endpoint) (unit : Bytes) : State := s.loadChunk ep (u32 unit 0) (u32 unit 4) (unit.drop 8)

/-- PCIE_REQ_DOORBELL (R235, R770): the host has written `buffer` and rings with its byte count; the ROM that waits for an image takes the buffer
of pair 0 as a chunk. -/
def execPcieReqDoorbell (pair : Nat) (buffer : Bytes) (count : Nat) (oneDword : Bool) (s : State) : Out :=
  .next (s.bar0Write oneDword fun t =>
    if pair > 3 then t.hostDiscard
    else if t.host.bootWait then t.loadUnit (.pcie pair) (doorbellUnit (buffer.take 8192) count)
    else t.reqDoorbell pair buffer count)

/-- HSPI_WRITE_PACKET (R243, R245, R770): one whole packet, or one chunk for the ROM that waits for an image; never part of one. -/
def execHspiWritePacket (command : Word) (clocked : Bytes) (s : State) : Out :=
  .next (if !s.hspiUp then s
    else if !s.hspiWhole command clocked then s.hspiFraming
    else
      let t := s.addFld Reg.hspiCount 31 16 1
      if t.hspiLoading then t.loadUnit .hspi clocked else t.receive .hspi clocked)

/-! ### The Plain self-test (R155 to R157) -/

/-- PLAIN_SELF_TEST_DONE: `failed` has one bit per field marked failed. Good fields are left in RET with zero memory. -/
def execPlainSelfTestDone (failed : BitVec 16) (s : State) : Out :=
  .next (if s.boot.held || s.rbit Reg.sysctlBootStatus 16 then s
    else
      let t := s.setReg Reg.sysctlPlainFail (failed.setWidth 32)
      let power := (List.range 16).map fun i => if failed.getLsbD i then Power.off else Power.ret
      let t := { t with plain := { t.plain with power := power, mem := [], ecc := [], elems := [] } }
      let t := (List.range 16).foldl (fun (u : State) i =>
        if failed.getLsbD i then u.faultF 0x026 2 0x02 (BitVec.ofNat 32 i) else u) t
      (t.setRbit Reg.sysctlBootStatus 16 true).bootPatch)

/-! ### Harbour Open (R163, R97, R411, R773 and R813) -/

/-- A fresh epoch from the device's own random source, not 0 (R411). -/
def State.freshEpoch (s : State) : Nat := 1 + s.free.toNat % 65535

/-- CAN controllers leave listen-only, and UARTs configured for stations are enabled (R161, R163). -/
def State.openPorts (s : State) : State :=
  let t := (List.range 4).foldl (fun (u : State) i => u.setRbit (Reg.canCtrl + 256 * i) 1 false) s
  (List.range 12).foldl (fun (u : State) i => if (u.station (112 + i)).enabled then u.setPort (112 + i) else u) t

/-- The persisted Slipway image at boot (R813): applied unless the warning holds; without a copy that passes the fabric stays blank. -/
def State.bootFabric (s : State) : State :=
  match s.persistedSlip with
  | some img =>
    if s.warning then { s with slip := { s.slip with reapply := true } }
    else (s.runDesign img).setRbit Reg.slipctlEvents 0 true
  | none =>
    if s.flash.slipThere 0 || s.flash.slipThere 1 then
      s.faultF 0x045 2 0x01 (BitVec.ofNat 32 ((s.persistedFault (s.flash.slipCopy s.flash.slipNewer)).getD 0))
    else s

/-- The tries of the booted slot are cleared, and HARBOUR_OPEN is set (R163). -/
def State.bootDone (s : State) : State :=
  let slot := s.fld Reg.sysctlBootStatus 1 0
  let t := if slot = 1 ∨ slot = 2 then s.setFld Reg.sysctlBootTries (2 * slot - 1) (2 * slot - 2) 0 else s
  t.setRbit Reg.sysctlBootStatus 15 true

/-- The new epoch, with the device IDLE (R407, R411). -/
def State.newEpoch (s : State) : State :=
  let e := s.freshEpoch
  ({ s with tl := { s.tl with epoch := e, role := DevRole.idle } }).usedFree

/-- CONFIG_DEFAULT, where port records took defaults (R160). -/
def State.reportConfig (s : State) : State :=
  if s.boot.configFault = 0 then s else s.faultF 0x044 1 0x01 (BitVec.ofNat 32 s.boot.configFault)

/-- HARBOUR_OPEN. -/
def execHarbourOpen (s : State) : Out :=
  .next (if s.boot.held || s.harbourOpen || !s.firmwareRuns || !s.rbit Reg.sysctlBootStatus 16 then s
    else ((s.bootFabric.bootDone.openPorts.newEpoch.setFld Reg.fairwayTimeout 9 0 32).raiseVector 8).reportConfig.announceAll)

/-! ### The supply warning (R83 to R93) -/

/-- SUPMON_SENSE_MV. -/
def State.senseMv (s : State) : Nat := s.fld Reg.supmonSenseMv 11 0

/-- Whether a warn monitor's input, known to be below its threshold since an instant, has stayed there for the filter time (R84). -/
def State.filtered (s : State) (monitor : Nat) : Bool :=
  match s.belowUs.getD monitor none with
  | none => true
  | some t => decide (t + 2 * (s.fld Reg.supmonFilter 4 0 + 1) ≤ s.nowUs)

/-- WARNING_ASSERT (R86, R98, Table PWR-4 steps 1 and 2): one or both warn monitors have counted a crossing. A second crossing while the
warning holds restarts the recovery and raises no second warning. Step 3 is the command SAGWARN_REQUEST, steps 5 to 8 WARNING_IRQ. -/
def execWarningAssert (sense io33 : Bool) (s : State) : Out :=
  let a := sense && s.rbit Reg.supmonCtrl 0 && s.filtered 0
  let b := io33 && s.rbit Reg.supmonCtrl 1 && s.filtered 1
  .next (if !a && !b then s
    else
      let t := s.orReg Reg.supmonStatus (BitVec.ofNat 32 (2 * a.toNat + 4 * b.toNat))
      let t := t.setRbit Reg.supmonStatus 3 false
      if s.warning then t
      else
        let t := ((t.setRbit Reg.supmonStatus 0 true).setRbit Reg.supmonEvents 0 true).addFld Reg.supmonAonStatus 31 16 1
        { t.bbrB 0x013 2 0x10 (BitVec.ofNat 32 (a.toNat + 2 * b.toNat + 65536 * t.senseMv)) with sagAsked := false })

/-- BRACE to every network station held MOORED or SLACK, and to the virtual stations (R403, R807). -/
def State.brace (s : State) (on : Bool) : State :=
  let ids := (s.moored 0 ++ s.moored 1)
  let t := ids.foldl (fun (u : State) id =>
    (u.setStation id { u.station id with braced := on }).sendTl (u.tlFrame id 0x13 (leBytes 1 on.toNat ++ zeros 3))) s
  (List.range 4).foldl (fun (u : State) v =>
    if (u.station (124 + v)).state == .moored || (u.station (124 + v)).state == .slack then
      (u.setVst v { u.vst v with braced := on }).setStation (124 + v) { u.station (124 + v) with braced := on }
    else u) t

/-- SUPPLY_WARNING to every session, with vector 8 (R86, R93, R238); `mon` names the monitors. -/
def State.tellSupply (s : State) (warn : Bool) (mon : Nat) : State :=
  s.omx.sessions.foldl (fun (t : State) (p : Nat × Session) => t.supplyEventTo p.1 warn mon) s

/-- WARNING_IRQ (Table PWR-4, steps 5 to 8): not while the Harbourmaster is in error mode (R100). -/
def execWarningIrq (s : State) : Out :=
  .next (if !s.warning || !s.reports then s else ((s.brace true).tellSupply true (s.fld Reg.supmonStatus 2 1)).raiseVector 8)

/-- WARNING_RECOVERY_START (R92). -/
def execWarningRecoveryStart (s : State) : Out := .next (if s.warning then s.setRbit Reg.supmonStatus 3 true else s)

/-- WARNING_CLEAR (R93): 50 ms of recovery have passed. DESIGN CHOICE (log entry 54): MONITORS of the clear event names the monitors that had
asserted. -/
def execWarningClear (s : State) : Out :=
  .next (if !s.warning || !s.rbit Reg.supmonStatus 3 then s
    else
      let t := (s.setFld Reg.supmonStatus 3 0 0).setRbit Reg.supmonEvents 1 true
      let t := t.bbrB 0x014 1 0x10 (BitVec.ofNat 32 (65536 * t.senseMv))
      (if t.reports then (t.brace false).tellSupply false (s.fld Reg.supmonStatus 2 1) else t).feedFlash)

/-! ### Sag resets, monitors, the AON supply (R79 to R81, R84, R85, R94, R95) -/

/-- SAG_RESET (R94): the monitors that crossed, the device reset with cause SAG; internal reset holds while one is below its threshold. -/
def execSagReset (io33 core plain : Bool) (also : List Nat) (s : State) : Out :=
  .next (if !io33 && !core && !plain then s
    else
      let t := (s.orReg Reg.supmonResetSrc (BitVec.ofNat 32 (io33.toNat + 2 * core.toNat + 4 * plain.toNat))).deviceResets (Cause.sag :: also)
      { t with boot := { t.boot with held := true, sagLow := true } })

/-- SAG_RESET_RELEASE (R95). -/
def execSagResetRelease (s : State) : Out := .next { s with boot := { s.boot with sagLow := false } }

/-- SENSE_CONVERSION (R85). -/
def execSenseConversion (mv : Nat) (s : State) : Out := .next (s.setFld Reg.supmonSenseMv 11 0 (min mv 4095))

/-- SUPMON_CROSSING (R84, R92): monitor 0 is SENSE and 1 VDD_IO33; the comparator output follows SENSE, the filter starts with a fall and
ends with a return, and a return below a threshold ends a recovery in progress. -/
def execSupmonCrossing (monitor : Nat) (low : Bool) (s : State) : Out :=
  let since := (s.belowUs.getD monitor none).getD s.nowUs
  let t := { (if monitor = 0 then s.setRbit Reg.supmonStatus 4 low else s) with
    belowUs := s.belowUs.set monitor (if low then some since else none) }
  .next (if low && (monitor = 0 && s.rbit Reg.supmonCtrl 0 || monitor = 1 && s.rbit Reg.supmonCtrl 1) then t.setRbit Reg.supmonStatus 3 false else t)

/-- VBAT_LOW (R81): EVT_VBAT_LOW when AON_VBAT_LOW becomes set, and the entry once per power-up. -/
def execVbatLow (s : State) : Out :=
  .next (((if s.rbit Reg.supmonAonStatus 0 then s else s.setRbit Reg.supmonEvents 2 true).setRbit Reg.supmonAonStatus 0 true).vbatEntry)

/-- VBAT_RECOVERED (R81). -/
def execVbatRecovered (s : State) : Out := .next (s.setRbit Reg.supmonAonStatus 0 false)

/-- AON_SUPPLY_SWITCH (R79): no AON state changes but AON_ON_VBAT. -/
def execAonSupplySwitch (onVbat : Bool) (s : State) : Out := .next (s.setRbit Reg.supmonAonStatus 1 onVbat)

/-! ### The end of a domain reset (Table FLT-4, step 6) -/

/-- The Harbour firmware rebuilds the rings of a port whose MAC has been reset: it writes them anew, which ends their stopped state (R755,
Table FLT-8). -/
def State.rebuildPort (s : State) (port : Nat) : State :=
  if !s.reports then s
  else
    let t := s.layRings port (s.flash.config.map fun b => slice b (16 + 64 * port) 64)
    let t := t.setMac port { t.mac port with tails := [0, 0, 0] }
    (List.range 3).foldl (fun (u : State) r => u.ringStop port r false) t

/-- DOMAIN_RESET_RELEASE (step 6 of Table FLT-4, R865, R877): automatic domains are unfenced unless STORM holds them; an unfence that was
written while the reset was held takes effect now. The firmware rebuilds an Ethernet port that serves again. -/
def execDomainResetRelease (domain : Nat) (s : State) : Out :=
  .next (if !s.reclaim.inReset.contains domain then s
    else
      let r := s.reclaim
      let t := { s with reclaim := { r with
        inReset := r.inReset.filter (fun d => d != domain), unfenceAtRelease := r.unfenceAtRelease.filter fun d => d != domain } }
      let t := if r.unfenceAtRelease.contains domain then t.unfence domain else if autoUnfence domain then t.autoLift domain else t
      if (domain = 5 || domain = 6) && !t.domainFenced domain then t.rebuildPort (domain - 5) else t)

end Sys2Proof.Machine
end

