-- ==== Sys2Proof/Machine/Watch.lean ====
section
/-! DEFINITION. The time marks and the gather deadline of the watch cycle, and the station link: admission, configuration, INPUT frames, misses,
and two devices on one network (chapters 01 and 10). -/

namespace Sys2Proof.Machine

/-! ### WATCH_MARK (R13, R21, R22, R112) -/

/-- The instant of the next mark that the TIME domain raises: the start's own mark, or the next multiple of P while the cycle runs. -/
def State.nextMark (s : State) : Option Nat :=
  let p := s.wc.periodUs
  let now := ceilDiv s.nowUs p * p
  match s.wc.startAtUs with
  | some m => some (max m now)
  | none => if s.wc.running then some (max now (s.wc.markUs + p)) else none

/-- The cycle that begins at a mark; the stations held MOORED or SLACK take part in it (R386, R394). -/
def State.beginCycle (s : State) (m : Nat) : State :=
  let w := s.wc
  let w := { w with
    cycle := nextCycle w.cycle, running := true, startAtUs := none, everStarted := true, markUs := m, phase := .gather,
    boundaryTaken := false, gathered := false, ended := false, bracedVerdict := false, discardVerdict := false, workEvents := [] }
  let sts := Store.mapKV s.tl.stations fun _ (x : Station) => { x with takePart := x.state == .moored || x.state == .slack }
  { s with wc := w, chansWork := none, hydroWork := none, tl := { s.tl with stations := sts } }.setDeadline

/-- The holding registers of the destinations, which the TIME domain has loaded at least 2 µs before the tick with the number of the cycle that
begins at the mark and the low 32 bits of the mark in microseconds (R112). -/
def State.loadMark (s : State) (m : Nat) : State :=
  { s with marks := { s.marks with hold := List.replicate 4 { cycle := s.wc.cycle, markUs := BitVec.ofNat 32 m } } }

/-- WATCH_MARK: a cycle still open ends LATE (R16, R38); a pending stop ends the run (R22). -/
def execWatchMark (s : State) : Out :=
  .next (if s.boot.held then s
    else match s.nextMark with
    | none => s
    | some m =>
      let t := (s.endCycle .late).freeLeaving
      let t := { t with time := t.time.atUs m }.setRbit Reg.timerEvents 0 true
      if s.wc.stopPending then
        { t with wc := { t.wc with running := false, startAtUs := none, phase := .idle, boundaryTaken := false } }
      else (t.beginCycle m).loadMark m)

/-! ### WATCH_MARK_IRQ (R22, R26, R410, R773, R805, Table STN-5) -/

/-- Points of a station with STALE set, at their previous values. -/
def stalePoints (id : Nat) (st : Station) : Store (Byte × Int) :=
  (inPoints id st.config).foldl (fun (m : Store (Byte × Int)) p =>
    let v := Store.get m p (0, 0)
    Store.insert m p (v.1 ||| 2, v.2)) st.points

/-- Whether a built-in station's port works: its UART or CAN controller is enabled, or the design presents it. -/
def State.portReady (s : State) (id : Nat) : Bool :=
  if id < 120 then s.rbit (Reg.uartCtrl + 256 * (id - 112)) 0
  else if id < 124 then s.rbit (Reg.canCtrl + 256 * (id - 120)) 0 && !s.rbit (Reg.canCtrl + 256 * (id - 120)) 2
  else s.presents (id - 124) && (s.vst (id - 124)).present

/-- Built-in stations that were enabled, recovered or presented become MOORED at the mark (Table STN-5, R778, R806). -/
def State.moorBuiltIns (s : State) : State :=
  (List.range 16).foldl (fun (t : State) i =>
    let id := 112 + i
    let st := t.station id
    if st.willMoor && st.enabled && !st.config.isEmpty && t.portReady id then
      (t.setStation id { st with
        willMoor := false, sinceLost := false, missRun := 0, lastApplied := 0, due := none, issued := none,
        points := stalePoints id st }).stationTo id .moored 0
    else t) s

/-- The output image of a station: the entries for all its OUT points in ascending order; a point nothing computed has VALID clear. -/
def outEntries (id : Nat) (st : Station) : List (Nat × Byte × Int) :=
  ((outPoints id st.config).mergeSort (fun a b => decide (a ≤ b))).map fun p =>
    let v := Store.get st.dcOut p (0, 0)
    (p, v.1, v.2)

/-- Whether the image has a VALID value for a point. -/
def outValid (st : Station) (p : Nat) : Bool := (Store.get st.dcOut p (0, 0)).1.getLsbD 0

/-- The value for register `r` of a write poll: that of its OUT point when VALID is set (R773). -/
def regValue (id : Nat) (st : Station) (p r : Nat) : Option Int :=
  ((pollPoints id st.config p).find? fun x => x.2.1 == r && outValid st x.1).map fun x => (Store.get st.dcOut x.1 (0, 0)).2

/-- The writes of a write poll: each run of consecutive registers that a VALID point covers, as poll, first register and count. -/
def writeRuns (id : Nat) (st : Station) (p : Nat) : List (Nat × Nat × Nat) :=
  (List.range (pollCount st.config p)).foldl (fun (l : List (Nat × Nat × Nat)) r =>
    if (regValue id st p r).isNone then l
    else match l.getLast? with
      | some (q, f, n) => if f + n = r then l.dropLast ++ [(q, f, n + 1)] else l ++ [(p, r, 1)]
      | none => [(p, r, 1)]) []

/-- The writes of a serial station at a mark, in list order (R773, R782). -/
def serialWrites (id : Nat) (st : Station) : List (Nat × Nat × Nat) :=
  ((List.range (u8 st.config 12)).filter fun p => pollWrites st.config p).flatMap fun p => writeRuns id st p

/-- The transmit frames of a CAN station that carry a VALID point. -/
def writeFrames (id : Nat) (st : Station) : List Nat :=
  let c := st.config
  (List.range (u8 c 12)).filter fun t =>
    (stationPoints id c).any fun x => x.2.1 && u32 c x.2.2 % 1073741824 == canTxId c t % 1073741824 && outValid st x.1

/-- The output writes of a serial or CAN station are issued at the mark (R773). -/
def State.issueWrites (s : State) (id k : Nat) : State :=
  let st := s.station id
  let t (none_ : Bool) : State := s.setStation id { st with due := none, issued := some k, lastApplied := if none_ then k else st.lastApplied }
  if id < 120 then
    let l := serialWrites id st
    let u := Store.get s.uarts (id - 112) {}
    { t l.isEmpty with uarts := Store.insert s.uarts (id - 112) { u with writes := l, writeCycle := some k, writeFailed := false } }
  else
    let l := writeFrames id st
    let c := Store.get s.cans (id - 120) {}
    { t l.isEmpty with cans := Store.insert s.cans (id - 120) { c with txQueue := l, txCycle := some k } }

/-- VS_MARK at a virtual station: VS_APPLY when its outputs are due, else VS_MISS_RUN advances, saturating at 15 (R805). -/
def State.markVirtual (s : State) (v : Nat) : State :=
  if !s.presents v then s
  else
    let x := s.vst v
    match (s.station (124 + v)).due with
    | some k =>
      (s.setVst v { x with apply := true, cycle := k, missRun := 0 }).setStation (124 + v)
        { s.station (124 + v) with due := none, issued := some k }
    | none => (s.setVst v { x with apply := false, missRun := min 15 (x.missRun + 1) }).setStation (124 + v)
        { s.station (124 + v) with issued := none }

/-- The built-in stations at a mark: only the outputs of the cycle just before, and only after its COMMIT. -/
def State.markBuiltIns (s : State) : State :=
  let now (k : Nat) : Bool := s.wc.lastOutcome == .committed && s.wc.lastCycle.toNat == k
  let t := (List.range 16).foldl (fun (t : State) i =>
    let st := t.station (112 + i)
    match st.due with
    | some k => if now k then t else t.setStation (112 + i) { st with due := none }
    | none => t) s
  let t := (List.range 12).foldl (fun (t : State) i =>
    let st := t.station (112 + i)
    match st.due with
    | some k => t.issueWrites (112 + i) k
    | none => t.setStation (112 + i) { st with issued := none }) t
  (List.range 4).foldl (fun (u : State) v => u.markVirtual v) t

/-- Epoch `a` is newer than epoch `b` (R408). -/
def epochNewer (a b : Nat) : Bool :=
  let d := (a + 65536 - b % 65536) % 65536
  decide (1 ≤ d) && decide (d ≤ 32767)

/-- The epoch that a takeover chooses (R411). -/
def takeoverEpoch (own other : Nat) : Nat :=
  let e := ((if epochNewer other own then other else own) + 1) % 65536
  if e = 0 then 1 else e

/-- The takeover: a fresh epoch, ACTIVE, ANNOUNCE on both ports (R410, R411). -/
def State.takeOver (s : State) (d : PeerDevice) : State :=
  let tl := s.tl
  { s with tl := { tl with epoch := takeoverEpoch tl.epoch d.epoch, role := .active, missedMarks := 0 } }.announceAll

/-- The standby checks at a mark of a running cycle (R410). -/
def State.standbyCheck (s : State) : State :=
  match s.tl.role, s.tl.followed with
  | .standby, some d =>
    let prev := (s.wc.markUs - s.wc.periodUs) % 4294967296
    let alive := decide (s.nowUs ≤ d.heardUs + 350000)
    let missed := !d.commits.contains prev && (!alive || d.role == 2)
    let n := if missed then s.tl.missedMarks + 1 else 0
    let t := { s with tl := { s.tl with missedMarks := n } }
    if n ≥ 3 && d.periodUs == s.wc.periodUs && !s.warning then t.takeOver d else t
  | _, _ => s

/-- The run has stopped: BRACE to the stations, role IDLE, and the changes that are left apply (R22, R319, R407). -/
def State.finishStop (s : State) : State :=
  let t := s.brace true
  let t := { t with wc := { t.wc with stopPending := false },
                    tl := { t.tl with role := .idle } }
  let t := t.changes.foldl (fun (u : State) (p : Pending) =>
    let v := u.applyStopped p.change
    match p.notify with
    | some n => v.emitCompletion n St.ok 0
    | none => v) t
  { t with changes := [] }

/-- The boundary of a cycle: changes accepted before it are used by it (R26). -/
def State.takeBoundary (s : State) : State :=
  { s with wc := { s.wc with boundaryTaken := true, decUsed := s.wc.decimation },
           changes := s.changes.map fun (p : Pending) => { p with used := true, firstMark := some (p.firstMark.getD s.wc.markUs) } }

/-- The table with the changes of parameters, setpoints, models and arming that the cycle uses, each made at the mark of the first cycle that
used it (R26, R355). -/
def State.changedTable (s : State) : Store Channel :=
  (calLast (s.changes.filter fun (p : Pending) => p.used)).foldl (fun (m : Store Channel) (p : Pending) =>
    match chanChange (p.firstMark.getD s.wc.markUs) p.change with
    | some (slot, f) => Store.modify m slot fun x => s.rebind (f x)
    | none => m) s.chans

/-- The setpoint block of Basin 3 (Table QUY-3), which the firmware writes outside LOAD (R572). DESIGN CHOICE (log entry 196): at the boundary of a
cycle, with the setpoint in force at its mark. -/
def State.writeSetpoints (s : State) : State :=
  if s.fld Reg.quayStatus 2 0 = 1 then s
  else { s with mem := s.changedTable.foldl (fun (m : Memory) (x : Nat × Channel) =>
    Memory.writeBytes m (0x23001000 + 4 * x.1) (leInt 4 (match x.2.half.ramp with
      | some r => min (max (rampAt r s.wc.markUs) (pSpMin x.2.params)) (pSpMax x.2.params)
      | none => x.2.half.setpoint))) s.mem }

/-- WATCH_MARK_IRQ. -/
def execWatchMarkIrq (s : State) : Out :=
  .next (if !s.reports then s
    else if !s.wc.running then (if s.wc.stopPending then s.finishStop else s)
    else if s.wc.boundaryTaken then s
    else (s.sampleMark 1).takeBoundary.writeSetpoints.moorBuiltIns.markBuiltIns.standbyCheck)

/-! ### JOIN and admission (R165, R166, R382, R383, R420) -/

/-- Whether a station is held: JOINING, MOORED or SLACK. -/
def Station.held (st : Station) : Bool := st.state == .joining || st.state == .moored || st.state == .slack

/-- Stations held on a port, besides one. -/
def State.heldOn (s : State) (port id : Nat) : Nat :=
  (s.tl.stations.filter fun (x : Nat × Station) => decide (x.1 < 112) && x.1 != id && x.2.port == port && x.2.held).length

/-- The WREASON that a JOIN meets, 0 when the station is pending (R288, R383, R385). -/
def State.joinReason (s : State) (id mac port : Nat) : Nat :=
  let st := s.station id
  if id ≥ 112 then 1
  else if st.mode = .refuse || (st.mode = .locked && (st.lockMac != mac || st.lockPort != port)) then 1
  else if st.config.isEmpty || st.refusedCfg then 2
  else if s.heldOn port id ≥ 64 then 3
  else if st.held && st.mac != mac then 4
  else 0


/-- WAIT (Table STN-3). -/
def State.sendWait (s : State) (port mac id pos reason : Nat) : State :=
  s.sendTl (s.frameTo port mac id 0x04 (leBytes 2 pos ++ leBytes 1 reason ++ zeros 1))

/-- A station held under a MAC is LOST when that MAC joins anew (R420). -/
def State.lostByMac (s : State) (mac : Nat) : State :=
  ((s.tl.stations.filter fun (x : Nat × Station) => decide (x.1 < 112) && x.2.held && x.2.mac == mac).map fun (x : Nat × Station) => x.1).foldl
    (fun (t : State) id => t.stationTo id .lost 0) s

/-- The frame's discard counted (R377). -/
def State.tlDiscard (s : State) (port : Nat) : State := s.addFld (Reg.ethTlDiscard + 65536 * port) 31 0 1

/-- The header checks of a frame from a station (R377), apart from the epoch. -/
def headerOk (f : TlFrame) : Bool := f.version == 1 && f.flags == 1 && decide (f.length ≤ f.body.length)

/-- A pending JOIN is dropped: the station is again what it was before (R382). -/
def State.forgetJoin (s : State) (id : Nat) : State :=
  let st := s.station id
  let t := s.setStation id { st with join := none }
  match st.join with
  | some j => if st.state == .hailed then t.stationTo id j.back 0 else t
  | none => t

/-- A JOIN handled (R383): pending, or WAIT. -/
def State.handleJoin (s : State) (f : TlFrame) : State :=
  let t := s.lostByMac f.src
  let id := f.stationId
  let r := t.joinReason id f.src f.port
  let st := t.station id
  if r ≠ 0 then
    (if id < 112 && (st.join.any fun j => j.mac == f.src) then t.forgetJoin id else t).sendWait f.port f.src id 0 r
  else
    let back := if st.state = .lost then StState.lost else (st.join.map fun j => j.back).getD .absent
    let u := t.setStation id { st with join := some { mac := f.src, port := f.port, cycle := f.cycle, back := back } }
    if st.state == .absent || st.state == .lost then u.stationTo id .hailed 0 else u

/-- JOIN. The firmware hands the receive buffer back. -/
def execJoin (f : TlFrame) (s : State) : Out :=
  .next (if !s.reports then s
    else
      let t := s.returnRx f.port 0
      if !t.tl.announced.testBit f.port then t
      else if !headerOk f then t.tlDiscard f.port
      else if t.tl.role = .standby || f.epoch ≠ t.tl.epoch then t
      else t.handleJoin f)

/-- JOIN_FORGET. -/
def execJoinForget (station : Nat) (s : State) : Out :=
  .next (if !s.reports || station ≥ 112 || (s.station station).join.isNone then s else s.forgetJoin station)

/-- The CONFIG that a station is to acknowledge: its block, or the block with new fallback fields. -/
def Station.configOut (st : Station) : Bytes := if st.firstConfig then st.config else st.newFb

/-- CONFIG sent. -/
def State.sendConfig (s : State) (id : Nat) : State :=
  let st := s.station id
  let t := s.setStation id { st with sends := st.sends + 1 }
  t.sendTl (t.tlFrame id 0x05 (configPayload st.configSeq st.configOut))

/-- ADMIT and the first CONFIG (R166, R384). -/
def State.admitJoin (s : State) (id : Nat) (j : PendingJoin) : State :=
  let st := (s.station id).takeKept
  let t := (s.setStation id { st with
    mac := j.mac, port := j.port, join := none, epoch := s.tl.epoch, sends := 0, firstConfig := true, ackedSeq := none }).stationTo
      id .joining 0
  (t.sendTl (t.frameTo j.port j.mac id 0x03 [])).sendConfig id

/-- The pending stations of both ports, lowest ID first. -/
def State.joinsPending (s : State) : List (Nat × PendingJoin) :=
  s.tl.stations.filterMap fun (x : Nat × Station) => if x.1 < 112 then x.2.join.map fun j => (x.1, j) else none

/-- One pending station at a round: judged again as in R383; one that is no longer admitted receives WAIT. -/
def State.roundOne (s : State) (n : Nat) (id : Nat) (j : PendingJoin) : State × Nat :=
  let r := s.joinReason id j.mac j.port
  if r ≠ 0 then ((s.forgetJoin id).sendWait j.port j.mac id 0 r, n)
  else if n < 8 then (s.admitJoin id j, n + 1)
  else (s.sendWait j.port j.mac id (n - 7) 0, n + 1)

/-- ADMISSION_ROUND: the lowest 8 are admitted, the others receive WAIT with their position in ascending ID order (R166). -/
def execAdmissionRound (s : State) : Out :=
  .next (if !s.reports || s.tl.role == .standby then s
    else (s.joinsPending.foldl (fun (x : State × Nat) p => x.1.roundOne x.2 p.1 p.2) (s, 0)).1)

/-! ### CONFIG and CONFIG_ACK (R384 to R387) -/

/-- The COMPLETION of fallback changes, with the cycle of the acknowledgement (R289). -/
def State.tellAll (s : State) (l : List (Option Notify)) (status : Nat) : State :=
  (l.filterMap fun n => n).foldl (fun (t : State) n => t.emitCompletion n status (BitVec.ofNat 32 t.frameCycle)) s

/-- The COMPLETIONs of the fallback CONFIG in flight, and of those that it superseded. -/
def State.tellFallback (s : State) (id status : Nat) : State :=
  let st := s.station id
  (s.setStation id { st with notifyFb := none, fbQueue := [] }).tellAll (st.fbQueue.map (fun f => f.2.2) ++ [st.notifyFb]) status

/-- The COMPLETIONs of the fallback changes that the first CONFIG after a JOIN carried (R289). -/
def State.tellWaiting (s : State) (id status : Nat) : State :=
  let st := s.station id
  st.fbWait.foldl (fun (t : State) n => t.emitCompletion n status (BitVec.ofNat 32 t.frameCycle)) (s.setStation id { st with fbWait := [] })

/-- The first CONFIG ended without OK (R385): ABSENT, the fault, RELEASE with REASON 1; RESULT is 0xFF when nothing was answered. -/
def State.configFails (s : State) (id result : Nat) : State :=
  let st := s.station id
  let t := s.setStation id { st with refusedCfg := true, sends := 0, firstConfig := false }
  ((t.releaseStation id 1).faultF 0x061 2 0x16 (BitVec.ofNat 32 (id + 256 * result))).tellWaiting id
    (if result = 0xFF then St.wrongState else St.tableRange)

/-- A fallback change ended without OK: the old values stay (R387). -/
def State.fallbackFails (s : State) (id status : Nat) : State :=
  (s.setStation id { s.station id with newFb := [], sends := 0 }).tellFallback id status

/-- CONFIG_RESEND: the next of up to 5 sends, or the end of them. -/
def execConfigResend (station : Nat) (s : State) : Out :=
  let st := s.station station
  .next (if !s.reports || station ≥ 112 || st.sends = 0 || !st.held then s
    else if st.sends < 5 then s.sendConfig station
    else if st.firstConfig then s.configFails station 0xFF
    else s.fallbackFails station St.wrongState)

/-- The station becomes MOORED (R386): its points stay STALE until an INPUT arrives. -/
def State.moorStation (s : State) (id : Nat) : State :=
  let st := s.station id
  let t := s.setStation id { st with
    sends := 0, firstConfig := false, ackedSeq := some st.configSeq, missRun := 0, lastApplied := 0, sinceLost := false, memberLast := false,
    takePart := false, inputFor := none, points := stalePoints id st, missK := u8 st.config 3 }
  (t.stationTo id .moored 0).tellWaiting id St.ok

/-- New fallback fields are in force (R387). -/
def State.newFallback (s : State) (id : Nat) : State :=
  let st := s.station id
  (s.setStation id { st with config := st.newFb, missK := u8 st.newFb 3, newFb := [], sends := 0, ackedSeq := some st.configSeq }).tellFallback
    id St.ok

/-- A CONFIG_ACK for the CONFIG in flight. -/
def State.handleAck (s : State) (id result : Nat) : State :=
  if (s.station id).firstConfig then (if result = 0 then s.moorStation id else s.configFails id result)
  else if result = 0 then s.newFallback id else s.fallbackFails id St.tableRange

/-- A late CONFIG_ACK for a fallback CONFIG that a later one superseded: with OK the station has taken its values and those before it; otherwise
only that one has failed. -/
def State.lateAck (s : State) (id seq result : Nat) : State :=
  let st := s.station id
  match st.fbQueue.find? fun f => f.1 == seq with
  | none => s
  | some f =>
    if result = 0 then
      let before := st.fbQueue.takeWhile fun g => g.1 != seq
      (s.setStation id { st with config := f.2.1, missK := u8 f.2.1 3, fbQueue := st.fbQueue.drop (before.length + 1) }).tellAll
        ((before ++ [f]).map fun g => g.2.2) St.ok
    else (s.setStation id { st with fbQueue := st.fbQueue.filter fun g => g.1 != seq }).tellAll [f.2.2] St.tableRange

/-- CONFIG_ACK: it counts only for a CONFIG_SEQ in flight, from the MAC that holds the station. -/
def execConfigAck (f : TlFrame) (s : State) : Out :=
  .next (if !s.reports then s
    else
      let t := s.returnRx f.port 0
      if !headerOk f || f.epoch ≠ t.tl.epoch then t.tlDiscard f.port
      else
        let st := t.station f.stationId
        if f.stationId ≥ 112 || !st.held || st.sends = 0 || st.mac ≠ f.src then t
        else if u16 f.payload 0 ≠ st.configSeq then t.lateAck f.stationId (u16 f.payload 0) (u8 f.payload 2)
        else t.handleAck f.stationId (u8 f.payload 2))

/-! ### INPUT (R377, R379, R414, R416, R417) -/

/-- The epoch that the device follows: its own, or the other device's while STANDBY (R407). -/
def State.followedEpoch (s : State) : Nat :=
  match s.tl.role, s.tl.followed with
  | .standby, some d => d.epoch
  | _, _ => s.tl.epoch

/-- Whether an INPUT is one for the current cycle, with exactly the declared IN points (R379, R417). -/
def State.inputOk (s : State) (f : TlFrame) : Bool :=
  let p := f.payload
  let st := s.station f.stationId
  let pts := (inPoints f.stationId st.config).mergeSort (fun a b => decide (a ≤ b))
  let n := u8 p 6
  s.wc.running && f.cycle == s.wc.cycle.toNat && f.mark == s.wc.markUs % 4294967296 && p.length == 8 + 4 * n &&
    (List.range n).map (fun i => u8 p (8 + 4 * i)) == pts

/-- The values of an INPUT; PTP_UNLOCKED marks every one STALE (R414). -/
def inputValues (p : Bytes) : Store (Byte × Int) :=
  (List.range (u8 p 6)).foldl (fun (m : Store (Byte × Int)) i =>
    let o := 8 + 4 * i
    let q : Byte := BitVec.ofNat 8 (u8 p (o + 1)) &&& 0x3F
    Store.insert m (u8 p o) (if u8 p 5 / 4 % 2 = 1 then q ||| 2 else q, s16 p (o + 2))) []

/-- An acceptable INPUT stored for its cycle; one after the gather deadline is counted and its values are not used (R17, R416). -/
def State.takeInput (s : State) (f : TlFrame) : State :=
  let st := s.station f.stationId
  let p := f.payload
  if s.wc.gathered then s.setStation f.stationId { st with nInputLate := satU 32 (st.nInputLate + 1) }
  else s.setStation f.stationId { st with
    inbox := inputValues p, inputFor := some f.cycle, lastInput := f.cycle, lastApplied := u32 p 0, braced := u8 p 5 / 2 % 2 == 1 }

/-- The receive buffer of an INPUT that a LOAD may use: the firmware keeps it (R569). -/
def State.keepInput (s : State) (f : TlFrame) : State :=
  match s.oldestRx f.port 0 with
  | none => s
  | some d =>
    let st := s.station f.stationId
    (s.passRx f.port 0 d).setStation f.stationId { st with rxHeld := st.rxHeld ++ [(f.port, d)] }

/-- A LOAD has ended: of the INPUT buffers of a station that it used, the firmware keeps the last and hands the others back (R569). -/
def State.releaseInputs (s : State) : State :=
  s.tl.stations.foldl (fun (t : State) (x : Nat × Station) =>
    if x.2.inputFor = some s.wc.cycle.toNat then
      let gone := x.2.rxHeld.dropLast
      gone.foldl (fun (u : State) d => u.handBack d.1 0 d.2)
        (t.setStation x.1 { x.2 with rxHeld := x.2.rxHeld.drop gone.length })
    else t) s

/-- INPUT. -/
def execInput (f : TlFrame) (s : State) : Out :=
  .next (if !s.reports then s
    else
      let t := s.returnRx f.port 0
      if !headerOk f || f.stationId ≥ 112 || f.epoch ≠ t.followedEpoch then t.tlDiscard f.port
      else
        let st := t.station f.stationId
        if !(st.state == .moored || st.state == .slack) then t
        else if !t.inputOk f then t.tlDiscard f.port
        else if s.wc.gathered then t.takeInput f
        else (s.keepInput f).takeInput f)

/-! ### The gather deadline (R394, R395, R423, R568, R772, R774, R793, R806) -/

/-- LOST_N of a station. -/
def stationLostN (id : Nat) (st : Station) : Nat := blockLostN id st.config

/-- A miss (R395). -/
def State.miss (s : State) (id : Nat) : State :=
  let st := s.station id
  let n := st.missRun + 1
  let t := s.setStation id { st with missRun := n, nMissed := satU 32 (st.nMissed + 1) }
  if n ≥ stationLostN id st then t.stationTo id .lost 1 else t.stationTo id .slack 1

/-- A confirmation (R394). -/
def State.confirm (s : State) (id : Nat) : State :=
  (s.setStation id { s.station id with missRun := 0 }).stationTo id .moored 0

/-- The points of a network station at the gather deadline: those of its INPUT, else the previous values with STALE set (R17). -/
def State.gatherPoints (s : State) (id : Nat) : State :=
  let st := s.station id
  if st.inputFor = some s.wc.cycle.toNat then s.setStation id { st with points := st.inbox }
  else s.setStation id { st with points := stalePoints id st }

/-- One network station evaluated (R394). -/
def State.gatherNetwork (s : State) (id : Nat) : State :=
  let st := s.station id
  let t := s.gatherPoints id
  if !st.takePart || !(st.state == .moored || st.state == .slack) then t
  else if st.inputFor ≠ some s.wc.cycle.toNat then t.miss id
  else if s.wc.lastOutcome == .committed && st.memberLast then
    (if st.lastApplied = s.wc.lastCycle.toNat then t.confirm id else t.miss id)
  else t

/-- The closed buffer of a built-in station's image copied into the other, and the counts since the deadline started anew (R772). -/
def State.swapImage (s : State) (id : Nat) : State :=
  let buf := s.imageBuf
  let m := Memory.writeBytes s.mem (imageAddr id (1 - buf)) (Memory.readBytes s.mem (imageAddr id buf) 256)
  let st := s.station id
  { s with mem := m }.setStation id { st with nDone := 0, failed := false, imageComplete := false, inbox := [] }

/-- A new block of an enabled UART or CAN station takes effect; the buffer being filled is discarded (R793). -/
def State.takeBlock (s : State) (id : Nat) (c : Bytes) : State :=
  let st := s.station id
  let m := Memory.writeBytes s.mem (imageAddr id s.imageBuf) (zeros 256)
  let t := { s with mem := m }.setStation id { st with
    config := c, cfgNext := none, configSeq := (st.configSeq + 1) % 65536, points := [], inbox := [], pointUs := [], due := none, issued := none }
  t.setPort id

/-- The points of a built-in station: the new values over the previous ones; STALE when nothing new is in the image of a virtual station. -/
def builtInPoints (id : Nat) (st : Station) : Store (Byte × Int) :=
  if 124 ≤ id && st.nDone = 0 then stalePoints id st
  else st.inbox.foldl (fun (m : Store (Byte × Int)) x => Store.insert m x.1 x.2) st.points

/-- A serial or CAN station evaluated (R774, R793): confirmed, missed or unchanged. -/
def State.gatherPort (s : State) (id : Nat) : State :=
  let st := s.station id
  let t := s.setStation id { st with points := builtInPoints id st }
  if !(st.state == .moored || st.state == .slack) then t
  else if st.cfgNext.isSome then t.miss id
  else if st.nDone > 0 then
    (match st.issued with
     | some k => if st.lastApplied = k then t.confirm id else t
     | none => t.confirm id)
  else if st.failed then t.miss id
  else t

/-- A virtual station evaluated by R394 (R806). -/
def State.gatherVirtual (s : State) (v : Nat) : State :=
  let id := 124 + v
  let x := s.vst v
  let st : Station := { s.station id with lastApplied := x.lastApplied }
  let t := (s.setVst v { x with posts := 0 }).setStation id { st with points := builtInPoints id st }
  if !(st.state == .moored || st.state == .slack) then t
  else if st.nDone = 0 then t.miss id
  else match st.issued with
    | some k => if st.lastApplied = k then t.confirm id else t.miss id
    | none => t

/-- One built-in station at the gather deadline. -/
def State.gatherBuiltIn (s : State) (id : Nat) : State :=
  if (s.station id).config.isEmpty then s
  else
    let new := (s.station id).cfgNext
    let t := (if id < 124 then s.gatherPort id else s.gatherVirtual (id - 124)).swapImage id
    match new with
    | some c => t.takeBlock id c
    | none => t

/-- The foreground window opens at the gather deadline: DL_LEFT has counted G, and no Ebb slice has run inside it (R33, R508). -/
def State.openWindow (s : State) : State :=
  { s with pilot := { s.pilot with windowEbb := 0, dlLeft := min s.pilot.dlLeft s.window.toNat } }

/-- GATHER_DEADLINE: network stations first, then the built-in ones; afterwards late inputs wait for the next cycle. -/
def execGatherDeadline (s : State) : Out :=
  .next (if !s.reports || !s.wc.running || s.wc.ended || s.wc.gathered then s
    else
      let ids := (s.tl.stations.map fun (x : Nat × Station) => x.1).filter fun i => decide (i < 112)
      let t := ids.foldl (fun (u : State) id => u.gatherNetwork id) s
      let t := (List.range 16).foldl (fun (u : State) i => u.gatherBuiltIn (112 + i)) t
      let t := if t.domainFenced 3 && !t.reclaim.inReset.contains 3 then t.unfence 3 else t
      { t with wc := { t.wc with gathered := true } }.openWindow)

/-! ### Two devices on one network (R407 to R411) -/

/-- A claim ranks above another: role, then the newer epoch, then the lower MAC (R408). Roles are coded 0 STANDBY, 1 IDLE, 2 ACTIVE. -/
def claimHigher (a b : Nat × Nat × Nat) : Bool :=
  if a.1 ≠ b.1 then decide (a.1 > b.1)
  else if a.2.1 ≠ b.2.1 then epochNewer a.2.1 b.2.1
  else decide (a.2.2 < b.2.2)

/-- Every station the device holds or has hailed is LOST with cause 4 (R409). -/
def State.loseAll (s : State) : State :=
  ((s.tl.stations.filter fun (x : Nat × Station) => x.2.held || x.2.state == .hailed).map fun (x : Nat × Station) => x.1).foldl
    (fun (t : State) id => (t.setStation id { t.station id with join := none, sends := 0 }).stationTo id .lost 4) s

/-- An ACTIVE device yields to a higher claim. -/
def State.yieldClaim (s : State) (epoch : Nat) : State :=
  ({ s with tl := { s.tl with role := .standby, missedMarks := 0 } }.loseAll).faultF 0x062 3 0x16 (BitVec.ofNat 32 epoch)

/-- What an ANNOUNCE says of its sender; the COMMITs heard of it are kept. -/
def State.peerOf (s : State) (f : TlFrame) : PeerDevice :=
  let old := ((s.tl.heard.find? fun d => d.mac == f.src).map fun d => d.commits).getD []
  { mac := f.src, epoch := f.epoch, role := u8 f.payload 0, periodUs := u32 f.payload 4, heardUs := s.nowUs, commits := old }

/-- The device with the highest watch claim among the ANNOUNCEs heard within the last 350 ms (R408). -/
def State.bestPeer (s : State) (l : List PeerDevice) : Option PeerDevice :=
  (l.filter fun d => decide (s.nowUs ≤ d.heardUs + 350000)).foldl (fun b d => match b with
    | none => some d
    | some x => if claimHigher (d.role, d.epoch, d.mac) (x.role, x.epoch, x.mac) then some d else some x) none

/-- An ANNOUNCE heard: it takes the place of its sender's last one, and the device followed is the one with the highest claim. -/
def State.hearPeer (s : State) (p : PeerDevice) : State :=
  let l := (s.tl.heard.filter fun d => d.mac != p.mac) ++ [p]
  { s with tl := { s.tl with heard := l, followed := s.bestPeer l } }

/-- ANNOUNCE_RECEIVED. -/
def execAnnounceReceived (f : TlFrame) (s : State) : Out :=
  .next (if !s.reports then s
    else
      let t := s.returnRx f.port 0
      if f.version ≠ 1 || f.flags ≠ 0 || f.length > f.body.length || f.stationId ≠ 0xFF then t.tlDiscard f.port
      else
        let p := t.peerOf f
        let u := t.hearPeer p
        if t.tl.role == .active && claimHigher (p.role, p.epoch, p.mac) (2, t.tl.epoch, t.macAddr f.port) then u.yieldClaim f.epoch else u)

/-- The MARK of a COMMIT kept with the device that sent it, the last 8 (R410). -/
def PeerDevice.commit (d : PeerDevice) (mark : Nat) : PeerDevice := { d with commits := (mark :: d.commits).take 8 }

/-- COMMIT_RECEIVED: the MARKs of the last COMMITs of the device that is followed (R410). -/
def execCommitReceived (f : TlFrame) (s : State) : Out :=
  .next (if !s.reports then s
    else
      let t := s.returnRx f.port 0
      match t.tl.followed with
      | none => t
      | some d =>
        if f.version ≠ 1 || f.flags ≠ 0 || f.length > f.body.length || f.stationId ≠ 0xFF || f.epoch ≠ d.epoch then t.tlDiscard f.port
        else if d.mac ≠ f.src || t.tl.role != .standby then t
        else { t with tl := { t.tl with followed := some (d.commit f.mark),
                                        heard := t.tl.heard.map fun x => if x.mac = d.mac then x.commit f.mark else x } })

end Sys2Proof.Machine
end

