-- ==== Sys2Proof/Machine/Compute.lean ====
section
/-! DEFINITION. What a watch cycle computes and what its COMMIT does: the working half of the channel table, the hydrostatics slice, the
OUTPUT and COMMIT frames, the flip, and the changes that a committed cycle used (chapters 01, 09, 10 and 11). -/

namespace Sys2Proof.Machine

/-! ### The changes that a cycle uses (R26) -/

/-- The waiting changes that the current cycle uses, oldest first. -/
def State.usedPending (s : State) : List Pending := s.changes.filter fun (p : Pending) => p.used

/-- The changes that the current cycle uses, oldest first. -/
def State.usedChanges (s : State) : List Change := s.usedPending.map fun (p : Pending) => p.change


/-- CH_SAFE, CH_DISARM and CH_DESTROY of a slot among the changes. -/
def safes (l : List Change) (slot : Nat) : Bool := l.any fun c => match c with | .safe n => n == slot | _ => false
def disarms (l : List Change) (slot : Nat) : Bool := l.any fun c => match c with | .disarm n _ => n == slot | _ => false
def disarmsSafe (l : List Change) (slot : Nat) : Bool := l.any fun c => match c with | .disarm n f => n == slot && f | _ => false
def arms (l : List Change) (slot : Nat) : Bool := l.any fun c => match c with | .arm n => n == slot | _ => false
def destroys (l : List Change) (slot : Nat) : Bool := l.any fun c => match c with | .destroyForce n => n == slot | _ => false


/-- The committed table as dependents see it: a channel that this cycle destroys counts as lost (R281). -/
def State.committedSeen (s : State) (l : List Change) : Store Channel :=
  Store.mapKV s.chans fun slot (c : Channel) => { c with destroying := destroys l slot }

/-! ### The hydrostatics slice (R35 to R37, R428, R429) -/

/-- The snapshot entry of a tank. -/
def State.tankSnap (s : State) (m : VesselModel) (t : Nat) (d : Bytes) : TankSnap :=
  let L0 := (m.soundCol t (tkPoints d) s32 0).headD 0
  if tkHandle d = 0 then { level := L0, valid := true, estimated := false }
  else match s.checkHandle (tkHandle d) with
    | .error _ => { level := L0, valid := false, estimated := true }
    | .ok c =>
      let q := c.half.quality
      { level := c.half.value, valid := q.getLsbD 0, estimated := q.getLsbD 2 || q.getLsbD 1 || !q.getLsbD 0 || !c.state.runs }

/-- The model that VSL_COMMIT hands over in this cycle, when no pass is in progress. -/
def newModel (l : List Change) : Option VesselModel :=
  l.foldl (fun r c => match c with
    | .vessel id _ m => some { m with modelId := id }
    | _ => r) none

/-- The hydrostatics state after this cycle's slice, and whether it publishes. -/
def State.hydroSlice (s : State) (l : List Change) : HydroHalf × Bool :=
  let h := s.ves.half
  let h : HydroHalf := if h.pass.isNone then
      (match newModel l with
       | some m => { h with live := some m, sinceCommit := true }
       | none => h)
    else h
  let pass := match h.pass with
    | some p => some p
    | none => h.live.map fun m =>
      { model := m, snap := Store.mapKV m.tanks fun t d => s.tankSnap m t d, snapCycle := s.wc.cycle, slices := s.wc.decUsed, done := 0 : HydroPass }
  match pass with
  | none => (h, false)
  | some p =>
    if p.done + 1 ≥ p.slices then
      ({ h with pass := none, published := some (runPass p.model p.snap h.published (h.sinceCommit && h.live == some p.model) s.wc.cycle p.snapCycle),
                sinceCommit := h.sinceCommit && h.live != some p.model }, true)
    else ({ h with pass := some { p with done := p.done + 1 } }, false)

/-- The limit sets with this cycle's LIMITS_SET made. -/
def State.changedLimits (s : State) (l : List Change) : Vessel :=
  l.foldl (fun v c => match c with
    | .limits p => applyLimits p v
    | _ => v) s.ves

/-! ### The channels (R340 to R371) -/

/-- The state event of a channel by its committed and its working state (R345): one event, with OLD the state committed before. -/
def stateEvent (slot : Nat) (old new : ChState) (evs : List ChEvent) : List ChEvent :=
  let cause := (evs.findSome? fun e => match e with | .state _ _ _ c => some c | _ => none).getD 0
  let rest := evs.filter fun e => match e with | .state _ _ _ _ => false | _ => true
  (if old = new then [] else [ChEvent.state slot old.code new.code cause]) ++ rest

/-- One channel of the working table, with the events of its COMMIT. -/
def computeOne (e : Env) (l : List Change) (slot : Nat) (c : Channel) : Channel × List ChEvent :=
  let old := ((Store.find? e.com slot).map fun x => x.state).getD c.state
  if destroys l slot then (safeNow c e.markUs, [])
  else if c.state = .defined || c.state = .bound then
    let (sp, ramp) := stepSetpoint c.params c.half e.markUs false
    ({ c with half := { c.half with setpoint := sp, ramp := ramp } }, stateEvent slot old c.state [])
  else if disarmsSafe l slot then
    let (d, evs) := computeChannel e slot c false true false
    let x := safeNow c e.markUs
    ({ d with half := { d.half with outputs := x.half.outputs, output := x.half.output } }, stateEvent slot old d.state evs)
  else
    let (d, evs) := computeChannel e slot c (safes l slot) (disarms l slot) (arms l slot && old = .bound)
    (d, stateEvent slot old d.state evs)

/-- The kernel programs that this cycle runs: those loaded, with the replacements of this cycle in force (R298). -/
def State.withPrograms (s : State) (l : List Change) : State :=
  l.foldl (fun (t : State) c => match c with
    | .program id img cost persist => t.replaceProgram id img cost persist
    | _ => t) s

/-- The environment of this cycle's computation. -/
def State.env (s : State) (l : List Change) (h : HydroHalf) (pub : Bool) : Env :=
  { s := s.withPrograms l, cycle := s.wc.cycle, markUs := s.wc.markUs, periodUs := s.wc.periodUs, com := s.committedSeen l, hydro := h,
    limits := (s.changedLimits l).active, publishes := pub }

/-- What a Harbour kernel leaves in the UNLOAD planes of its berth (Table QUY-1): each output sample with its quality, VALUE, the model's input
and measurement, the quality of VALUE, and REPORT with a division by zero. -/
def State.putResult (s : State) (e : Env) (slot : Nat) (c d : Channel) : State :=
  if d.typ = .custom || !d.state.runs || !s.plain.on (slot / 64) then s
  else
    let l := s.kernelElems slot

    let word (i : Nat) : Option Int := match i with
      | 0 => some d.half.value
      | 1 => some d.half.modelU
      | 2 => some d.half.modelY
      | _ => none
    { s with plain := l.zipIdx.foldl (fun (p : Plain) n =>
        let i := n.2 % 16
        let p := match d.half.outputs.find? fun o => o.1 == i + 1 with
          | some o => p.putBytes n.1 1008 (leInt 2 o.2.2 ++ [o.2.1])
          | none => p
        let p := match word i with
          | some w => p.putBytes n.1 1012 (leInt 4 w)
          | none => p
        if i = 0 then p.putBytes n.1 1016 [d.half.quality, BitVec.ofNat 8 (Machine.sense e slot c false).div0.toNat] else p) s.plain }

/-- COMPUTE: the working half of the channel table and of hydrostatics, from the committed half (R23). The kernels of the CUSTOM channels run
on the Plain, and those of the Harbour leave their results in the UNLOAD planes. -/
def State.computeCycle (s : State) : State :=
  let l := s.usedChanges
  let (h, pub) := s.hydroSlice l
  let tab := s.changedTable
  let e := s.env l h pub
  let (t, runs) := s.runKernels e (tab.filter fun (p : Nat × Channel) => p.2.state.runs && !destroys l p.1)
  let e := { e with runs := runs }
  let out := tab.map fun (p : Nat × Channel) =>
    let r := computeOne e l p.1 p.2
    (p.1, r.1, r.2)
  let t := (tab.zip out).foldl (fun (t : State) x => t.putResult e x.1.1 x.1.2 x.2.2.1) t
  { t with chansWork := some (out.map fun x => (x.1, x.2.1)), hydroWork := some h,
           wc := { t.wc with workEvents := out.flatMap fun x => x.2.2 } }

/-! ### Uncorrectable errors (R368, R484, Table PLN-5) -/

/-- The groups of the UE vector. -/
def State.ueGroups (s : State) : List Nat :=
  (List.range 256).filter fun i => s.rbit (Reg.pilotUeVec + 4 * (i / 32)) (i % 32)

/-- One slot of a group in error commits FAULTED with its last committed values. -/
def State.faultSlot (s : State) (slot : Nat) : State :=
  match Store.find? s.chans slot, s.chansWork with
  | some c, some w =>
    let hit := match c.state with
      | .armed | .active | .adrift | .safed => true
      | _ => false
    let leaves := match Store.find? w slot with
      | some d => d.state = .bound
      | none => true
    if !hit || leaves || destroys s.usedChanges slot then s
    else
      let d := { c with state := .faulted, half := { c.half with safeSince := some s.wc.markUs, safeFrom := c.half.output } }
      let ev := (s.wc.workEvents.filter fun e => match e with
        | .state n _ _ _ => n != slot
        | .discord n _ _ _ => n != slot
        | .limit n _ _ _ => n != slot) ++ [ChEvent.state slot c.state.code ChState.faulted.code 5]
      { s with chansWork := some (Store.insert w slot d), wc := { s.wc with workEvents := ev } }
  | _, _ => s

/-- A hydrostatics row in error: the pass in progress publishes nothing and starts again with the next slice. -/
def State.faultHydro (s : State) (g : Nat) : State :=
  let h := s.ves.half
  let w : HydroHalf := { h with pass := none, published := h.published.map fun r => { r with estimatedFlag := true, strengthEst := true } }
  { s with hydroWork := some w }.faultF 0x052 3 0x14 (BitVec.ofNat 32 (g % 16 + 16 * (g / 16)))

/-- What the firmware does at the end of COMPUTE with one group of the UE vector. The region is that of the first address that erred in the
group (R484). -/
def State.ueAct (s : State) (g : Nat) : State :=
  let f := g / 16
  if 8 ≤ f && s.pairs.testBit (f - 8) then s
  else if Config.hydroRow (Store.get s.plain.ueFirst g 0) then s.faultHydro g
  else (List.range 4).foldl (fun (t : State) i => t.faultSlot (64 * f + 4 * (g % 16) + i)) s

/-- The UE vector handled: the vector starts anew, and the rows are rewritten in the next Ebb window. -/
def State.ueHandle (s : State) : State :=
  let l := s.ueGroups
  let t := l.foldl (fun (u : State) g => u.ueAct g) s
  let t := { t with plain := { t.plain with ueFirst := [], rewrite := t.plain.rewrite ++ (l.filter fun g => !t.plain.rewrite.contains g) } }
  ((List.range 8).foldl (fun (u : State) i => u.setReg (Reg.pilotUeVec + 4 * i) 0) t).setReg Reg.pilotUeAddr 0

/-! ### Outputs (R340, R389, R575) -/

/-- Whether a role of a channel is an output. -/
def State.outRole (s : State) (c : Channel) (role : Nat) : Bool := (s.rolesOf c.typ c.params).any fun r => r.role == role && !r.isIn

/-- The output samples of a channel table: station, point and sample, for channels that run, for SAFED and FAULTED ones, and for a
disarmed one, whose output points repeat their last committed values (R283). -/
def State.outSamples (s : State) (tab : Store Channel) : List (Nat × Nat × Byte × Int) :=
  tab.flatMap fun (x : Nat × Channel) =>
    let c := x.2
    if c.state = .defined then []
    else c.roles.filterMap fun b =>
      if s.outRole c b.role then (c.half.outputs.find? fun o => o.1 == b.role).map fun o => (b.station, b.point, o.2) else none

/-- The output values of every station, from the working table: with the quality that the channel gives. A point that no channel holds any
longer keeps its last committed value (R369). -/
def State.setOutputs (s : State) (tab : Store Channel) : State :=
  let l := s.outSamples tab
  let sts := Store.mapKV s.tl.stations fun id (st : Station) =>
    { st with dcOut := (l.filter fun x => x.1 == id).foldl (fun (m : Store (Byte × Int)) x => Store.insert m x.2.1 x.2.2) st.dcOut }
  { s with tl := { s.tl with stations := sts } }

/-- Point entries of a station's OUT points. -/
def entryBytes (l : List (Nat × Byte × Int)) : Bytes := l.flatMap fun x => pointEntry x.1 x.2.1 x.2.2

/-- The output images of the built-in stations (R575, Table QUY-2). -/
def State.writeOutImages (s : State) : State :=
  (List.range 16).foldl (fun (t : State) i =>
    let st := t.station (112 + i)
    if (outPoints (112 + i) st.config).isEmpty then t
    else { t with mem := Memory.writeBytes t.mem (outImageAddr (112 + i)) (entryBytes (outEntries (112 + i) st)) }) s

/-! ### COMMIT (R24, R389, R773) -/

/-- Stations with an output point bound to a channel that runs before or after the flip. -/
def State.dueStations (s : State) (tab : Store Channel) : List Nat := (s.outputStations s.chans ++ s.outputStations tab).eraseDups

/-- The stations of MEMBER: network stations held MOORED or SLACK that take part in the cycle. -/
def State.members (s : State) : List Nat :=
  (s.tl.stations.filter fun (x : Nat × Station) =>
    decide (x.1 < 112) && x.2.takePart && (x.2.state == .moored || x.2.state == .slack)).map fun (x : Nat × Station) => x.1

/-- A bitmap of stations (Table STN-3). -/
def stationMap (l : List Nat) : Bytes := leBytes 16 (l.foldl (fun n i => n ||| 2 ^ i) 0)

/-- OUTPUT to stations, in order. -/
def State.sendOutputs (s : State) (l : List Nat) : State :=
  l.foldl (fun (u : State) id =>
    let l := outEntries id (u.station id)
    u.sendTl (u.tlFrame id 0x11 (leBytes 1 l.length ++ zeros 3 ++ entryBytes l))) s

/-- The frames of a committed cycle: every OUTPUT, then one COMMIT on each port. -/
def State.commitFrames (s : State) (due : List Nat) : State :=
  let mem := s.members
  let app := mem.filter fun i => due.contains i
  let t := s.sendOutputs app
  let pay := stationMap app ++ stationMap mem
  (List.range 2).foldl (fun (u : State) p =>
    if u.portEnabled p then u.sendTl { port := p, dest := 0x015DA088B500, typ := 0x12, stationId := 0xFF, cycle := u.wc.cycle.toNat,
                                       mark := u.wc.markUs % 4294967296, epoch := u.tl.epoch, payload := pay }
    else u) t

/-- After the hand-over: who was a member, and the built-in stations whose output writes are due at the next mark. -/
def State.noteCommit (s : State) (due : List Nat) : State :=
  let mem := s.members
  let k := s.wc.cycle.toNat
  let sts := Store.mapKV s.tl.stations fun id (st : Station) =>
    if id < 112 then { st with memberLast := mem.contains id }
    else { st with due := if due.contains id && (st.state == .moored || st.state == .slack) then some k else none }
  { s with tl := { s.tl with stations := sts } }

/-- The flip (R24): the working half becomes the committed one, in the Plain, in the Basin 3 table header and in hydrostatics. -/
def State.flip (s : State) : State :=
  let half := !s.plain.half
  { s with
    chans := s.chansWork.getD s.chans, chansWork := none
    ves := { s.ves with half := s.hydroWork.getD s.ves.half }, hydroWork := none
    plain := { s.plain with half := half, mirrorNew := 0, mismatchRun := [] }
    mem := Memory.write s.mem 0x23000000 (putBits ((Memory.read s.mem 0x23000000).setWidth 32) 0 0 half.toNat |>.setWidth 8) }

/-- A copy job of the firmware after a commit: the committed STATE_BITS of each CUSTOM channel's elements into its Basin 3 state image (R584). -/
def State.keepImages (s : State) : State :=
  { s with chans := Store.mapKV s.chans fun slot (c : Channel) =>
      match c.typ, Store.find? s.programs (u16 c.params 64) with
      | .custom, some g =>
        if c.state.runs && s.plain.on (slot / 64) then { c with image := (berthElems slot).map fun n => s.plain.bits n 0 (u16 g.image 20) } else c
      | _, _ => c }

/-- A change that waits for a hydrostatics pass to start (R19, R294). -/
def Change.forPass : Change → Bool
  | .vessel _ _ _ | .decimation => true
  | .config _ _ _ | .arm _ | .disarm _ _ | .setpoint _ _ _ _ | .depend _ _ | .modelWrite _ _ | .trim _ _ | .modelRestore _ | .safe _
  | .destroyForce _ | .limits _ | .mirror _ | .duty _ | .program _ _ _ _ | .stRelease _ _ | .calRun _ _ _ _ | .calApply _ _ _
  | .trimModel _ _ | .slipApply | .none => false

/-- A used change consumed by the commit: what is not already in the flipped table (R26, R281, R290, R294, R295, R301, R309). -/
def State.consume (s : State) (p : Pending) : State :=
  let t := match p.change with
    | .destroyForce slot =>
      (s.chanStateEvent slot (((Store.find? s.chans slot).map fun c => c.state.code).getD 0) 0 6).updChan slot fun c => { c with leaving := true }
    | .stRelease id _ => s.releaseStation id 0
    | .duty b => { s with duty := applyDuty b s.duty }
    | .program .. => s.applyStopped p.change
    | .slipApply => s.applyStopped p.change
    | .calRun .. => s.applyStopped p.change
    | .limits b => { s with ves := applyLimits b s.ves }
    | .vessel id persist m => if persist then s.queueWrite (.persistModel { m with modelId := id }) else s
    | _ => s
  match p.notify with
    | some n => match p.change with
      | .calRun .. => t
      | .slipApply => t
      | _ => t.emitCompletion n St.ok s.wc.cycle
    | none => t

/-- The hydrostatics faults at a publication (R435, R439). -/
def State.hydroFaults (s : State) (pub : Bool) : State :=
  match s.ves.half.published with
  | none => s
  | some r =>
    if !pub then s
    else
      let t := if r.outOfRange && !s.ves.half.rangeRun then s.faultF 0x050 2 0x14 (BitVec.ofInt 32 (tdiv r.disp 1000)) else s
      let t := { t with ves := { t.ves with half := { t.ves.half with rangeRun := r.outOfRange } } }
      if r.noBuoyancy then t.faultF 0x051 3 0x14 0 else t

/-- The commit of a cycle whose working half is whole. -/
def State.commitCycle (s : State) : State :=
  let tab := s.chansWork.getD s.chans
  let due := s.dueStations tab
  let pub := match s.hydroWork with
    | some h => h.published != s.ves.half.published && h.pass.isNone
    | none => false
  let started := s.ves.half.pass.isNone
  let t := (s.setOutputs tab).commitFrames due
  let t := (t.noteCommit due).flip.keepImages
  let waits (p : Pending) : Bool := !p.used || (p.change.forPass && !started)
  let used := s.changes.filter fun (p : Pending) => !waits p
  let t := { t with changes := (s.changes.filter waits).map fun (p : Pending) => { p with used := false } }
  let t := s.wc.workEvents.foldl (fun (u : State) e => u.emitCh e) t
  let t := used.foldl (fun (u : State) p => u.consume p) t
  let limits := used.any fun p => match p.change with | .limits _ => true | _ => false
  let t := if pub || limits then t.recheckLimits else t
  let t := (t.hydroFaults pub).countCommit
  { t with wc := { t.wc with workEvents := [] } }.cycleEntry .committed

/-- COMMIT_FLIP: the frames are handed to the MACs before the commit deadline (R16, R24); a BRACED or DISCARDED cycle has none (R38). -/
def execCommitFlip (s : State) : Out :=
  .next (if !s.reports || !s.wc.running || s.wc.ended || s.wc.refused || s.wc.phase != .commit then s else s.commitCycle)

/-- The OUTPUT frames of a cycle that does not commit, which have been built by now: the first of those due, how many the spec does not say
(R389). -/
def State.lateOutputs (s : State) : State :=
  if !s.reports || !s.wc.running || s.wc.ended || s.wc.phase != .commit then s
  else
    let tab := s.chansWork.getD s.chans
    let due := s.dueStations tab
    let app := s.members.filter fun i => due.contains i
    let t := (s.setOutputs tab).sendOutputs (app.take (s.free.toNat % (app.length + 1)))
    { t.usedFree with tl := s.tl }

/-- COMMIT_DEADLINE: without a COMMIT the cycle is LATE (R16), and the OUTPUT frames that it has built leave (R389). -/
def execCommitDeadline (s : State) : Out := .next (s.lateOutputs.endCycle .late)

/-! ### A cycle that the Pilot abandoned (R481, R519) -/

/-- The MIRROR_MISMATCH entry of a pair; at every third cycle in a row the fault of severity 3 as well. -/
def State.mismatch (s : State) (forVec pair : Nat) : State :=
  let run := Store.get s.plain.mismatchRun pair 0 + 1
  let t := { s with plain := { s.plain with mismatchRun := Store.insert s.plain.mismatchRun pair run } }
  let pay := BitVec.ofNat 32 (forVec % 65536 + 65536 * pair + 16777216 * min run 255)
  if run % 3 = 0 then t.faultF 0x022 3 0x02 pay else t.bbrA 0x022 0 0x02 pay

/-- After a DISCARDED cycle: each pair whose elements differ; the runs of the others end. -/
def State.mismatches (s : State) : State :=
  let v := (s.pilot.info.getD 2 0).toNat % 65536
  let hit := (List.range 8).filter fun f => s.pairs.testBit f && v.testBit (f + 8)
  let t := { s with plain := { s.plain with mismatchRun := s.plain.mismatchRun.filter fun (x : Nat × Nat) => hit.contains x.1 } }
  hit.foldl (fun (u : State) f => u.mismatch v f) t

/-- The outcome that a code of Table OPC-3 names. -/
def outcomeOf : Nat → CycleOutcome
  | 2 => .discarded
  | 3 => .braced
  | _ => .late

/-- CYCLE_ABANDONED. -/
def execCycleAbandoned (s : State) : Out :=
  .next (if !s.reports || !s.wc.running || s.wc.ended then s
    else
      let o := outcomeOf (s.reg Reg.pilotMboxPilot).toNat
      let t := s.endCycle o
      if o == CycleOutcome.discarded then t.mismatches else t)

end Sys2Proof.Machine
end

