-- ==== Sys2Proof/Machine/Quay.lean ====
section
/-! DEFINITION. The Quay: LOAD and UNLOAD passes over their descriptors, copy jobs, Plain window accesses (chapter 15, R486 to R488). -/

namespace Sys2Proof.Machine

/-! ### Descriptors (R573 to R577) -/

/-- A field record of a descriptor. -/
structure QuayField where
  field : Nat
  armed : Nat
  first : Nat
  count : Nat
  badBit : Bool
deriving DecidableEq, Repr

/-- A descriptor fault: CODE and ENTRY of QUAY_ERR_INFO. -/
abbrev QuayFault := Nat × Nat

/-- `n` bytes of Basin 2 from an offset. -/
def State.b2 (s : State) (off n : Nat) : Bytes := Memory.readBytes s.mem (basin2 off) n

/-- Whether a range of Basin 2 or 3 holds an uncorrectable error. -/
def State.ueIn (s : State) (a n : Nat) : Bool :=
  s.memErr.any fun (e : Nat × Nat) => e.2 == 2 && decide (e.1 < a + n) && decide (a < e.1 + 8)

/-- The fields of a FIELDS mask in ascending order. -/
def fieldsOf (mask : Nat) : List Nat := (List.range 16).filter fun f => mask.testBit f

/-- The field records that follow a header at a Basin 2 offset. -/
def State.quayFields (s : State) (ptr : Nat) : List QuayField :=
  let l := fieldsOf (ofLe (s.b2 ptr 2))
  (l.zip (List.range l.length)).map fun x =>
    let r := s.b2 (ptr + 32 + 32 * x.2) 32
    { field := x.1, armed := u64 r 0, first := u32 r 8, count := u32 r 12, badBit := (r.drop 16).any fun b => b != 0 }

/-- The fields a pass of the watch cycle needs: those with channels that run, and the partners of enabled pairs (R28, R477). -/
def State.cycleFields (s : State) : List Nat := if s.wc.running then (List.range 16).filter s.fieldArmed else []

/-- The fields that a pass waits for: the descriptor's, those of armed berths, and the partners of enabled pairs. -/
def State.passFields (s : State) (ptr : Nat) : List Nat :=
  let l := fieldsOf (ofLe (s.b2 ptr 2)) ++ s.cycleFields
  let l := l ++ (l.filter fun f => decide (f < 8) && s.pairs.testBit f).map fun f => f + 8
  l.eraseDups.filter fun f => !s.rbit Reg.sysctlPlainFail f

/-- Wakes requested at the start of a pass (R473, R578); OFF_WAKE for a field that is OFF (R589). -/
def State.wakePass (s : State) (ptr : Nat) : State :=
  let l := s.passFields ptr
  let off := l.any fun f => s.plain.power.getD f .on == .off
  let t := l.foldl (fun (u : State) f => u.wakeField f) s
  let t := if off then t.setRbit Reg.quayEvents 5 true else t
  t.setFld Reg.quayStatus 22 7 (l.foldl (fun n f => if t.plain.on f then n else n ||| 2 ^ f) 0)

/-- Whether every field that a pass waits for is ON. -/
def State.passReady (s : State) (ptr : Nat) : Bool := (s.passFields ptr).all fun f => s.plain.on f

/-- The pass stops at a descriptor fault; the cycle ends LATE (R577). -/
def State.quayFault (s : State) (e : QuayFault) : State :=
  let t := (s.setRbit Reg.quayEvents 3 true).setReg Reg.quayErrInfo (BitVec.ofNat 32 (e.1 + 16 * (e.2 % 65536)))
  (t.setReg Reg.quayStatus 0).endCycle .late

/-- The duration of a pass in SYS cycles is free: the model holds no SYS clock. -/
def State.quayTime (s : State) (a : Nat) : State := (s.setReg a (s.free.setWidth 32)).usedFree

/-! ### LOAD (R564 to R566, R574) -/

/-- The point entry that an entry delivers: VALUE, QUALITY and whether an uncorrectable error met the read; or a fault. -/
def State.loadEntry (s : State) (base : Nat) (r : QuayField) (entries i : Nat) : Except QuayFault (Nat × Nat × Byte × Bool) :=
  let a := entries + 8 * i
  let e := s.b2 a 8
  let slot := u16 e 0
  let te := u32 (s.b2 (base + 4 * u8 e 3) 4) 0
  let point := te % 2097152 + 4 * u8 e 4
  if a + 8 > 2097152 || s.ueIn (basin2 a) 8 || s.ueIn (basin2 (base + 4 * u8 e 3)) 4 then .error (7, i)
  else if slot / 64 ≠ r.field then .error (1, i)
  else if !r.armed.testBit (slot % 64) then .error (2, i)
  else if u8 e 2 > 15 || u8 e 4 > 63 then .error (3, i)
  else if u8 e 3 > 127 || point + 4 > 2097152 then .error (4, i)
  else if (e.drop 5).any (fun b => b != 0) || te / 2097152 % 8 ≠ 0 || te / 67108864 ≠ 0 || te % 4 ≠ 0 then .error (5, i)
  else
    let n := (berthElems slot).getD (u8 e 2) 0
    if te / 33554432 % 2 = 1 then .ok (n, 0, 0, false)
    else if s.ueIn (basin2 point) 4 then .ok (n, 0, 0, true)
    else
      let p := s.b2 point 4
      let q : Byte := BitVec.ofNat 8 (u8 p 1) &&& 0x3F
      .ok (n, u16 p 2, if te / 16777216 % 2 = 1 then q ||| 2 else q, false)

/-- The entries of a field record in order; the later one of two for an element stands. -/
def State.loadEntries (s : State) (base : Nat) (r : QuayField) (entries : Nat) :
    Nat → Nat → Store (Nat × Byte) × Bool → Except QuayFault (Store (Nat × Byte) × Bool)
  | 0, _, x => .ok x
  | k + 1, i, x =>
    match s.loadEntry base r entries i with
    | .error e => .error e
    | .ok (n, v, q, ue) => s.loadEntries base r entries k (i + 1) (Store.insert x.1 n (v, q), x.2 || ue)

/-- The setpoint of a slot from the setpoint block of Basin 3; 0 on an uncorrectable error (R586). -/
def State.loadSetpoint (s : State) (block slot : Nat) : Nat × Bool :=
  let a := 0x23000000 + (block + 4 * slot) % 0x80000
  if s.ueIn a 4 then (0, true) else (ofLe (Memory.readBytes s.mem a 4), false)

/-- The slot of an element's berth (R326). -/
def slotOfElem (n : Nat) : Nat := 64 * fieldOf n + 8 * (n / 128 % 32 / 4) + n % 32 / 4

/-- The 16 staging bytes of an element after LOAD (Table QUY-1). -/
def stagingBytes (point : Nat × Byte) (setpoint period : Nat) : Bytes :=
  leBytes 2 point.1 ++ [point.2] ++ [0] ++ leBytes 4 setpoint ++ leBytes 4 period ++ zeros 4


/-- Every group row of a field between two addresses carries fresh check bits (R461, R564). -/
def Plain.freshRows (p : Plain) (f lo hi : Nat) : Plain :=
  let keep (key : Nat) : Bool := key / 8192 / 16 != f || decide (key % 8192 < lo) || decide (hi ≤ key % 8192)
  { p with ecc := p.ecc.filter fun (x : Nat × Nat) => keep x.1, repair := p.repair.filter keep }

/-- The LOAD planes of a field written, and of its partner while the pair is enabled (R565). -/
def State.writeStaging (s : State) (f : Nat) (pts : Store (Nat × Byte)) (armed period sp : Nat) : State :=
  let one (t : State) (g : Nat) : State :=
    let p := (fieldElems g).foldl (fun (p : Plain) n =>
      let src := if g = f then n else n - 8192
      let slot := slotOfElem src
      let set := if armed.testBit (slot % 64) then (s.loadSetpoint sp slot).1 else 0
      p.putBytes n 992 (stagingBytes (Store.get pts src (0, 0)) set period)) t.plain
    { t with plain := p.freshRows g 7936 8064 }
  let t := one s f
  if f < 8 && s.pairs.testBit f then one t (f + 8) else t

/-- One field of a LOAD pass. -/
def State.loadField (s : State) (base entries period sp : Nat) (r : QuayField) : Except QuayFault State :=
  if s.rbit Reg.sysctlPlainFail r.field then .error (6, 0)
  else if r.badBit then .error (5, 0)
  else match s.loadEntries base r entries (min r.count 262144) r.first ([], false) with
    | .error e => .error e
    | .ok (pts, ue) =>
      let ueSp := (List.range 64).any fun b => r.armed.testBit b && (s.loadSetpoint sp (64 * r.field + b)).2
      let t := s.writeStaging r.field pts r.armed period sp
      .ok (if ue || ueSp then t.setRbit Reg.quayEvents 4 true else t)

/-- The fields of a pass in ascending order, until a fault; what the earlier fields wrote stays. -/
def runFields (step : State → QuayField → Except QuayFault State) : List QuayField → State → State × Option QuayFault
  | [], s => (s, none)
  | r :: l, s =>
    match step s r with
    | .error e => (s, some e)
    | .ok t => runFields step l t

/-- A LOAD pass over its descriptor (Table QUY-5). -/
def State.loadPass (s : State) : State × Option QuayFault :=
  let ptr := s.fld Reg.quayLdPtr 20 0
  let h := s.b2 ptr 32
  if u16 h 0 = 0 then (s, none)
  else if s.ueIn (basin2 ptr) 32 then (s, some (7, 0))
  else if u16 h 2 > 1 || (h.drop 24).any (fun b => b != 0) then (s, some (5, 0))
  else runFields (fun t r => t.loadField (u32 h 8) (u32 h 12) (u32 h 4) (u32 h 16) r) (s.quayFields ptr) s

/-! ### Mirror pairs (R469, R477 to R482) -/

/-- The pairs that this cycle's MIRROR_SET gives. -/
def mirrorOf (l : List Change) : Option Nat :=
  l.foldl (fun r c => match c with
    | .mirror n => some n
    | _ => r) none

/-- All planes of field `f` copied into field f + 8 (R478); every row there carries fresh check bits. -/
def Plain.copyPair (p : Plain) (f : Nat) : Plain :=
  let mine := p.mem.filter fun (x : Nat × Byte) => fieldOf (x.1 / 1024) != f + 8
  let copies := (p.mem.filter fun (x : Nat × Byte) => fieldOf (x.1 / 1024) == f).map fun (x : Nat × Byte) => (x.1 + 8192 * 1024, x.2)
  { copies.foldl (fun (q : Plain) x => { q with mem := Store.insert q.mem x.1 x.2 }) { p with mem := mine } with
      ecc := p.ecc.filter fun (x : Nat × Nat) => x.1 / 8192 / 16 != f + 8, repair := p.repair.filter fun k => k / 8192 / 16 != f + 8 }

/-- A cycle that uses a MIRROR_SET: its pairs hold from LOAD on, and the newly enabled ones are copied first. -/
def State.loadMirror (s : State) : State :=
  let t := match mirrorOf s.usedChanges with
    | some n => s.applyMirror n
    | none => s
  { t with plain := ((List.range 8).filter fun f => t.plain.mirrorNew.testBit f).foldl (fun (p : Plain) f => p.copyPair f) t.plain }

/-! ### LD_GO and the end of LOAD (R34, R566, R578, R588) -/

/-- A write of LD_GO or UL_GO while a pass runs. -/
def State.quayOverrun (s : State) : State := s.setRbit Reg.quayEvents 6 true

/-- LD_GO: the pass starts and requests its wakes. -/
def State.ldGo (s : State) : State :=
  if s.fld Reg.quayStatus 2 0 = 1 || s.fld Reg.quayStatus 2 0 = 2 then s.quayOverrun
  else
    let t := (s.setReg Reg.quayStatus 1).wakePass (s.fld Reg.quayLdPtr 20 0)
    if s.wc.running && s.wc.gathered && !s.wc.ended && s.wc.phase == .gather then
      { t with wc := { t.wc with phase := .load } }.dropWindow 2
    else t

/-- QUAY_LD_GO. -/
def execQuayLdGo (s : State) : Out := .next s.ldGo

/-- The worst-case cost of the foreground that remains after LOAD (S14, R521). -/
def State.costAfterLoad (s : State) : Nat :=
  s.costNow - loadCost s.arrMhz (s.fieldLoads s.chans)

/-- The cycle number written to PILOT_MBOX0 (R503, R578). -/
def State.quayMbox (s : State) : State :=
  let t := s.setReg Reg.pilotMboxHm s.wc.cycle
  { t with pilot := { t.pilot with mboxNew := true } }

/-- COMPUTE starts: the Pilot's foreground, and what the cycle computes. -/
def State.startCompute (s : State) : State :=
  let p := s.pilot
  let st := match p.st with
    | .idle | .ebb => PilotState.foreground
    | x => x
  let t := { s with pilot := { p with st := st, under := .foreground, s := p.s.set 14 (BitVec.ofNat 32 s.costAfterLoad), admitted := s.costNow },
                    wc := { s.wc with phase := .compute } }
  t.computeCycle

/-- LOAD_DONE: not before every listed field is ON. -/
def execLoadDone (s : State) : Out :=
  .next (if s.fld Reg.quayStatus 2 0 ≠ 1 || !s.passReady (s.fld Reg.quayLdPtr 20 0) then s
    else
      let cyc := s.wc.running && !s.wc.ended && s.wc.phase == .load
      let t := if cyc then s.loadMirror else s
      match t.loadPass with
      | (u, some e) => u.quayFault e
      | (u, none) =>
        let u := (((u.setReg Reg.quayStatus 0).setRbit Reg.quayEvents 0 true).quayTime Reg.quayLdTime).quayMbox.takeSleeps
        if cyc then u.releaseInputs.startCompute else u)

/-! ### The compare point (R479 to R481) -/

/-- One element's working half, by byte. -/
def Plain.workingBytes (p : Plain) (n : Nat) : List (Nat × Byte) :=
  let lo := n * 1024 + (if p.half then 0 else 256)
  (p.mem.filter fun (x : Nat × Byte) => decide (lo ≤ x.1) && decide (x.1 < lo + 256)).map fun (x : Nat × Byte) => (x.1 - n * 1024, x.2)

/-- The compare of the working half: F of each element of the upper fields is set where the copies differ. -/
def State.comparePoint (s : State) : State :=
  let t := { s with plain := s.plain.settle }
  { t with plain := t.compareElems.foldl (fun (p : Plain) n =>
      p.setElem n { p.elem n with f := p.workingBytes n != p.workingBytes (n - 8192) }) t.plain }

/-- The vector of fields that the compare found to differ. -/
def State.compareVec (s : State) : Nat :=
  (List.range 16).foldl (fun v f => if s.compareElems.any fun n => fieldOf n == f && (s.plain.elem n).f then v + 2 ^ f else v) 0

/-! ### UNLOAD (R575, R576, R586) -/

/-- The record of a berth (Table QUY-4). -/
def State.berthRecord (s : State) (slot cycle : Nat) : Bytes :=
  let el := berthElems slot
  let h2 (e : Nat) : Bytes := s.plain.getBytes (el.getD e 0) 1008 8
  let h3 := s.plain.getBytes (el.getD 0 0) 1016 8
  let word (e : Nat) : Bytes := (h2 e).drop 4
  word 0 ++ h3.take 2 ++ zeros 2 ++ word 1 ++ word 2 ++ leBytes 4 cycle ++ zeros 4 ++
    (List.range 16).flatMap (fun e => (h2 e).take 3 ++ zeros 1) ++ (List.range 6).flatMap fun i => word (i + 3)

/-- The reads of a field's UNLOAD planes note its errors (R460, R483). -/
def State.unloadEcc (s : State) (f : Nat) : State :=
  s.plain.ecc.foldl (fun (t : State) (e : Nat × Nat) =>
    if e.1 / 8192 / 16 = f && 8064 ≤ e.1 % 8192 then (if e.2 = 1 then t.noteCe e.1 else t.noteUe (e.1 / 8192) (e.1 % 8192)) else t) s

/-- Bytes written to a Basin; an uncorrectable word that they overwrite holds fresh data, which is reported (R586). -/
def State.quayWrite (s : State) (a : Nat) (b : Bytes) : State × Bool :=
  let ue := s.ueIn a b.length
  ({ s with mem := Memory.writeBytes s.mem a b, memErr := s.memErr.filter fun (e : Nat × Nat) => !(decide (e.1 < a + b.length) && decide (a < e.1 + 8)) },
   ue)

/-- One output entry (Table QUY-6): bytes 1 to 3 of the point entry at DEST. -/
def State.unloadEntry (s : State) (r : QuayField) (outs i : Nat) : Except QuayFault (State × Bool) :=
  let a := outs + 8 * i
  let e := s.b2 a 8
  let slot := u16 e 0
  let dest := u32 e 4
  if a + 8 > 2097152 || s.ueIn (basin2 a) 8 then .error (7, i)
  else if slot / 64 ≠ r.field then .error (1, i)
  else if !r.armed.testBit (slot % 64) then .error (2, i)
  else if u8 e 2 > 15 then .error (3, i)
  else if dest + 4 > 2097152 then .error (4, i)
  else if u8 e 3 ≠ 0 then .error (5, i)
  else
    let h := s.plain.getBytes ((berthElems slot).getD (u8 e 2) 0) 1008 3
    .ok (s.quayWrite (basin2 dest + 1) (h.drop 2 ++ h.take 2))

/-- The output entries of a field record in order. -/
def unloadEntries (r : QuayField) (outs : Nat) : Nat → Nat → State × Bool → Except QuayFault (State × Bool)
  | 0, _, x => .ok x
  | k + 1, i, x =>
    match x.1.unloadEntry r outs i with
    | .error e => .error e
    | .ok y => unloadEntries r outs k (i + 1) (y.1, x.2 || y.2)

/-- One field of an UNLOAD pass: the records of its armed berths, then its output entries. A word in error that was overwritten makes the
cycle LATE. -/
def State.unloadField (s : State) (recBase outs cycle : Nat) (r : QuayField) : Except QuayFault State :=
  if s.rbit Reg.sysctlPlainFail r.field then .error (6, 0)
  else if r.badBit then .error (5, 0)
  else
    let t := s.unloadEcc r.field
    let (t, ue) := ((List.range 64).filter fun b => r.armed.testBit b).foldl (fun (x : State × Bool) b =>
      let slot := 64 * r.field + b
      let y := x.1.quayWrite (0x23000000 + (recBase + 112 * slot) % 0x80000) (x.1.berthRecord slot cycle)
      (y.1, x.2 || y.2)) (t, false)
    match unloadEntries r outs (min r.count 262144) r.first (t, ue) with
    | .error e => .error e
    | .ok (u, ue) => .ok (if ue then u.endCycle .late else u)

/-- An UNLOAD pass over its descriptor. -/
def State.unloadPass (s : State) : State × Option QuayFault :=
  let ptr := s.fld Reg.quayUlPtr 20 0
  let h := s.b2 ptr 32
  if u16 h 0 = 0 then (s, none)
  else if s.ueIn (basin2 ptr) 32 then (s, some (7, 0))
  else if u16 h 2 ≠ 0 || (h.drop 16).any (fun b => b != 0) then (s, some (5, 0))
  else runFields (fun t r => t.unloadField (u32 h 4) (u32 h 8) (u32 h 12) r) (s.quayFields ptr) s

/-- The pass starts. The foreground of an abandoned cycle has none: it ends without COMMIT (R38, R519). -/
def State.startUnload (s : State) : State :=
  let t := (s.setReg Reg.quayStatus 2).wakePass (s.fld Reg.quayUlPtr 20 0)
  if s.wc.running && s.wc.phase == .compute && !s.wc.refused then { t with wc := { t.wc with phase := .unload } } else t

/-- UL_GO: in a cycle with enabled pairs the compare point comes first, and a mismatch takes the MIRROR_MISMATCH micro-trap (R480). -/
def State.ulGo (s : State) : State :=
  if s.fld Reg.quayStatus 2 0 = 1 || s.fld Reg.quayStatus 2 0 = 2 then s.quayOverrun
  else if s.wc.running && s.wc.phase == .compute && !s.wc.refused && s.pairs % 256 != 0 then
    let t := s.comparePoint
    if t.compareVec = 0 then t.startUnload else t.requestTrap 2 (BitVec.ofNat 32 t.compareVec)
  else s.startUnload

/-- QUAY_UL_GO. -/
def execQuayUlGo (s : State) : Out := .next s.ulGo

/-- The end of the foreground: PHASE_DONE for UNLOAD is posted, and the Plain turns to Ebb work (R14, R503). -/
def State.endForeground (s : State) : State :=
  let p := s.pilot
  let t := { s with pilot := { p with unloadDone := true, under := .idle, st := match p.st with
    | .foreground => .idle
    | x => x } }
  (t.raiseIrq 8).quayMbox

/-- UNLOAD_DONE: uncorrectable errors act first, and the output images are written (R484, R575). -/
def execUnloadDone (s : State) : Out :=
  .next (if s.fld Reg.quayStatus 2 0 ≠ 2 || !s.passReady (s.fld Reg.quayUlPtr 20 0) then s
    else
      let cyc := s.wc.running && !s.wc.ended && s.wc.phase == .unload
      match s.unloadPass with
      | (u, some e) => u.quayFault e
      | (u, none) =>
        let u := ((u.setReg Reg.quayStatus 0).setRbit Reg.quayEvents 1 true).quayTime Reg.quayUlTime
        if !cyc || u.wc.ended || u.wc.refused then u.quayMbox.takeSleeps
        else
          let v := u.ueHandle.endForeground
          let v := (v.setOutputs (v.chansWork.getD v.chans)).writeOutImages
          { v with wc := { v.wc with phase := .commit } }.takeSleeps)

/-- ABORT: the pass stops at a word boundary (R587); a foreground pass leaves its cycle without COMMIT. -/
def State.quayAbortGo (s : State) : State :=
  let st := s.fld Reg.quayStatus 2 0
  if st = 0 then s
  else
    let t := (s.setReg Reg.quayStatus 0).setRbit Reg.quayEvents 2 true
    if (st = 1 || st = 2) && s.inWindow then (t.endCycle .late).takeSleeps else t.takeSleeps

/-- QUAY_ABORT. -/
def execQuayAbort (s : State) : Out := .next s.quayAbortGo

/-! ### The Plain window (R486 to R488) -/

/-- Whether a window access has a form that the Plain window takes. -/
def windowForm (r : BusReq) : Bool :=
  let n := r.size * r.beats
  let off := r.addr - 0x30000000
  r.addr % 4 == 0 && n % 4 == 0 && decide (0 < n) && decide (off % 1024 + n ≤ 1024) && decide (off + n ≤ 0x1000000)

/-- An access performed: a read is corrected, or meets an uncorrectable error; a write merges the one element's bits into its rows. -/
def State.windowDo (s : State) (r : BusReq) : State :=
  let off := r.addr - 0x30000000
  let n := off / 1024
  let k := r.size * r.beats
  let lo := 8 * (off % 1024)
  let hit (e : Nat × Nat) : Bool := e.1 / 8192 == groupOf n && decide (lo ≤ e.1 % 8192) && decide (e.1 % 8192 < lo + 8 * k)
  let errs := s.plain.ecc.filter hit
  let t := errs.foldl (fun (u : State) (e : Nat × Nat) => if e.2 = 1 then u.noteCe e.1 else u.noteUe (e.1 / 8192) (e.1 % 8192)) s
  if r.write then
    let p := t.plain.putBytes n (off % 1024) (r.data.take k)
    { t with plain := { p with ecc := p.ecc.filter fun (e : Nat × Nat) => !(hit e && e.2 == 1),
                               repair := p.repair.filter fun x => !(errs.any fun (e : Nat × Nat) => e.1 == x && e.2 == 1) } }.busAnswer r.who .ok
  else if errs.any fun (e : Nat × Nat) => e.2 == 2 then t.busAnswer r.who .ecc
  else t.busAnswer r.who .ok (t.plain.getBytes n (off % 1024) k)

/-- An access to the Plain window: refused in the foreground window, served when its field is ON, else it wakes the field and waits. -/
def State.windowAccess (s : State) (r : BusReq) : State :=
  let f := fieldOf ((r.addr - 0x30000000) / 1024)
  if s.rbit Reg.fairwayFence 17 then s.busAnswer r.who .fenced
  else if !windowForm r || s.inWindow || s.rbit Reg.sysctlPlainFail f then s.busAnswer r.who .error
  else if s.plain.on f then s.windowDo r
  else { s.wakeField f with held := s.held ++ [r] }

/-- PLAIN_WINDOW_ACCESS: an access of a master that has a path to the window and is not fenced from it. -/
def execPlainWindowAccess (r : BusReq) (s : State) : Out :=
  .next (if s.silent r.who then s
    else if r.addr < 0x30000000 || r.addr ≥ 0x31000000 then s.busAnswer r.who .error
    else if r.who.master ≥ 4 then (s.matrixErr r.who 2 5 r.addr).busAnswer r.who .error
    else if s.masterFenced r.who.master 5 then (s.matrixErr r.who 5 5 r.addr).busAnswer r.who .fenced
    else s.windowAccess r)

/-- Whether a request is one for the Plain window. -/
def BusReq.isWindow (r : BusReq) : Bool := decide (0x30000000 ≤ r.addr) && decide (r.addr < 0x31000000)

/-- The held window accesses whose fields are ON, served in their order. -/
def State.serveWindow (s : State) : State :=
  let ready (r : BusReq) : Bool := BusReq.isWindow r && s.plain.on (fieldOf ((r.addr - 0x30000000) / 1024))
  let l := s.held.filter ready
  l.foldl (fun (t : State) r => t.windowDo r) { s with held := s.held.filter fun r => !ready r }

/-! ### Copy jobs (R584) -/

/-- The elements that a job's berth mask makes active. -/
def jobElems (f mask : Nat) : List Nat := ((List.range 64).filter fun b => mask.testBit b).flatMap fun b => berthElems (64 * f + b)

/-- One copy job: `planes` bits of each active element from or to its word of the Basin, in physical addresses. -/
def State.runJob (s : State) (j : Bytes) : State :=
  let f := u8 j 1
  let base := if u8 j 2 = 3 then 0x23000000 else 0x22000000
  let size := if u8 j 2 = 3 then 0x80000 else 0x200000
  let w := u8 j 3
  let plane := u16 j 4
  let el := jobElems f (u64 j 8)
  let word (k : Nat) : Nat := base + (u32 j 16 + u32 j 20 * k) % size
  let bitsOf (n : Nat) : Nat := (List.range w).foldl (fun v i => v + (s.plain.bitAt n ((plane + i) % 8192)).toNat * 2 ^ i) 0
  let ops := (el.zip (List.range el.length)).map fun x => (x.1, word x.2)
  if u8 j 0 = 0 then
    let vals := ops.map fun x => (x.1, ofLe (Memory.readBytes s.mem x.2 8))
    let p := vals.foldl (fun (p : Plain) x => (List.range w).foldl (fun (q : Plain) i => q.setBit x.1 ((plane + i) % 8192) (x.2.testBit i)) p) s.plain
    let rows := (List.range w).map fun i => (plane + i) % 8192
    let t := s.plain.ecc.foldl (fun (t : State) (e : Nat × Nat) =>
      let here := (el.filter fun n => groupOf n == e.1 / 8192).length
      if !rows.contains (e.1 % 8192) || here = 0 then t
      else if here = 64 then { t with plain := { t.plain with ecc := Store.erase t.plain.ecc e.1 } }
      else if e.2 = 1 then
        let u := t.noteCe e.1
        { u with plain := { u.plain with ecc := Store.erase u.plain.ecc e.1, repair := u.plain.repair.filter fun k => k != e.1 } }
      else t.noteUe (e.1 / 8192) (e.1 % 8192)) s
    { t with plain := { t.plain with mem := p.mem } }
  else
    let m := ops.foldl (fun (m : Memory) x => Memory.writeBytes m x.2 (leBytes 8 (bitsOf x.1))) s.mem
    { s with mem := m }

/-- The job at the list's present place: the list ends at DIR 2, and at a job that names no field, Basin or plane. -/
def State.nextJob (s : State) : State :=
  if !s.quay.jobs then s
  else
    let j := s.b2 (s.fld Reg.quayJobPtr 20 0 + 32 * s.quay.job) 32
    if u8 j 0 ≥ 2 || u8 j 1 > 15 || (u8 j 2 != 2 && u8 j 2 != 3) || u8 j 3 = 0 || u8 j 3 > 64 then { s with quay := {} }
    else if !s.plain.on (u8 j 1) then s.wakeField (u8 j 1)
    else { s.runJob j with quay := { s.quay with job := s.quay.job + 1 } }

/-- A Quay slot's work. -/
def State.quaySlot (s : State) : State := s.serveWindow.nextJob.takeSleeps

end Sys2Proof.Machine
end

