-- ==== Sys2Proof/Machine/BlackBox.lean ====
section
/-! DEFINITION. The black-box recorder's hardware: port A, the stamp register, the second ticks, release and the real-time counter
(chapter 25). -/

namespace Sys2Proof.Machine

/-! ### Port A (R882) -/

/-- A port-A write without effect is counted. -/
def State.appendDrop (s : State) : State := (s.addFld Reg.bbrDropped 31 16 1).orReg Reg.bbrEvents 4

/-- The entries that an event of their own reports: SAG_WARN, SAG_CLEAR, CYCLE_LATE, STATION_STATE, CHANNEL_STATE, DISCORD and
LIMIT_CROSSED (R872). -/
def ownEvents : List Nat := [0x013, 0x014, 0x021, 0x060, 0x070, 0x071, 0x072]

/-- A port-A write: a 2-beat burst of an event that port A may write appends at HEAD, with FLAGS bits [2:0] and bytes 4 to 11 the hardware's.
A burst carries no FREEZE bit, so that only its severity can freeze the ring. An entry of severity 1 to 6 is reported as FAULT (R872). -/
def State.portA (s : State) (beats : Nat) (low payload : Word) : State :=
  if beats ≠ 2 || decide (bits low 11 0 ≤ 2) then s.appendDrop
  else
    let t := s.bbrPut { event := bits low 11 0, severity := bits low 15 12, source := bits low 23 16, flags := bits low 31 27 * 8,
                        cycle := 0, timeUs := 0, payload := payload }
    if t.reports && decide (1 ≤ bits low 15 12) && decide (bits low 15 12 ≤ 6) && !ownEvents.contains (bits low 11 0) then
      t.emitFault (bits low 15 12) (bits low 23 16) (bits low 11 0) payload
    else t

/-- Whether the matrix passes a master's request to T7: M1 and M4 have the path (Table MTX-2). -/
def State.toRing (s : State) (who : Initiator) (act : State → State) : State :=
  if s.masterFenced who.master 7 then (s.matrixErr who 5 7 0x24000000).busAnswer who .fenced
  else if who.master ≠ 1 && who.master ≠ 4 then (s.matrixErr who 2 7 0x24000000).busAnswer who .error
  else if who.master = 4 && s.otp.jtagLock then s.busAnswer who .error
  else act (s.busAnswer who .ok)

/-- BBR_APPEND. -/
def execBbrAppend (who : Initiator) (beats : Nat) (low payload : Word) (s : State) : Out :=
  .next (s.toRing who fun t => t.portA beats low payload)

/-! ### Release and the real-time counter -/

/-- BBR_RELEASE (R894): GO with the index of the trigger; a ring that is not frozen, or another index, leaves everything as it is. -/
def execBbrRelease (who : Initiator) (index : Nat) (s : State) : Out :=
  .next (s.guardedWrite who Reg.bbrRelease fun t =>
    let t := t.setFld Reg.bbrRelease 11 0 index
    if t.rbit Reg.bbrStatus 0 && index % 4096 == t.fld Reg.bbrTrigger 11 0 then t.releaseRing 0 else t)

/-- Whether the Harbour firmware sets the RTC (R888): a PTP slave port is locked or the device is PTP master, and the RTC differs from the seconds
of the TIME base by 2 or more. -/
def State.rtcDue (s : State) : Bool :=
  s.ptp.ports.any (fun p => p.master || p.locked) && decide (2 ≤ Int.natAbs ((s.time.sec % 4294967296 : Nat) - ((s.reg Reg.bbrRtcS).toNat : Int)))

/-- RTC_SET (R888): the seconds are set and the sub-second count restarts. The Harbour firmware writes the seconds of the TIME base when they are
due, and appends RTC_SET with the seconds before the write. -/
def execRtcSet (who : Initiator) (seconds : Word) (s : State) : Out :=
  let firmware := who.master = 1 && s.reports
  .next (if firmware && !(s.rtcDue && seconds.toNat == s.time.sec % 4294967296) then s
    else (if firmware then s.bbrA 0x004 0 0x01 (s.reg Reg.bbrRtcS) else s).guardedWrite who Reg.bbrRtcSet fun t =>
      let t := (t.setReg Reg.bbrRtcSet seconds).setReg Reg.bbrRtcS seconds
      { t with bbr := { t.bbr with subSecond := 0 } })

/-! ### The lease of port A (R855, R864, R882) -/

/-- BBR_PORT_LEASE_EXPIRY: the access that holds port A ends with an error, a burst that it was is counted in BBR_DROPPED, and its master is
fenced with lease code 5; the device resets when the HM was already fenced at T7. -/
def execBbrPortLeaseExpiry (master : Nat) (burst : Bool) (s : State) : Out :=
  let who : Initiator := { master := master }
  let t := (s.matrixErr who 4 7 0x24000000).busAnswer who .error
  let t := if burst then t.appendDrop else t
  .next (if master = 1 && s.reclaim.hmPorts.contains 7 then t.escalate else t.fence (masterDomain master) 5 7 0)

/-! ### Absolute time (R889) -/

/-- Whether an entry ends an epoch of the ring: RESET or POR. -/
def BbrEntry.endsEpoch (e : BbrEntry) : Bool := e.event == 0x010 || e.event == 0x011

/-- Whether an entry is an anchor. -/
def BbrEntry.isAnchor (e : BbrEntry) : Bool := e.event == 0x001 || e.event == 0x002

/-- The first anchor of a list of entries that nothing separates from its beginning: no end of an epoch and no RTC_SET. -/
def firstAnchor : List BbrEntry → Option BbrEntry
  | [] => none
  | a :: l => if a.isAnchor then some a else if a.endsEpoch || a.event == 0x004 then none else firstAnchor l

/-- The microseconds of an entry on the RTC scale (R889), from the entries before it, newest first, and after it, oldest first: by the last
anchor before it in its epoch, else by the first one after it. -/
def absoluteUs (before : List BbrEntry) (e : BbrEntry) (after : List BbrEntry) : Option Nat :=
  match firstAnchor before with
  | some a => some (a.payload.toNat * 1000000 + (e.timeUs - a.timeUs).toNat)
  | none =>
    if e.endsEpoch || e.event == 0x004 then none
    else (firstAnchor after).map fun b => b.payload.toNat * 1000000 - (b.timeUs - e.timeUs).toNat

/-! ### Ticks and the stamp (R120, R881, R887, R891) -/

/-- ANCHOR: one tick of the real-time counter. The counter advances, but not on VBAT alone while the 32.768 kHz clock is lost (R120); outside a
reset the tick latches the stamp, and unless SVO_CLK is
stopped on VBAT the anchor is appended, while the ring is frozen only after a new post-trigger entry. -/
def execAnchor (s : State) : Out :=
  let sec := s.reg Reg.bbrRtcS + 1
  let t := s.setReg Reg.bbrRtcS sec
  let t := { t with bbr := { t.bbr with subSecond := 0 } }
  .next (if s.lostClocks.testBit 12 && s.rbit Reg.supmonAonStatus 1 then s
    else if s.boot.held then t
    else
      let t := { t with bbr := { t.bbr with latchUs := t.bbr.stampUs } }.setRbit Reg.bbrStatus 4 true
      if t.rbit Reg.supmonAonStatus 1 || (t.rbit Reg.bbrStatus 0 && !t.bbr.postSinceTick) then t
      else
        let refused := t.rbit Reg.bbrStatus 0 && decide (t.bbr.postLimit ≤ t.fld Reg.bbrPost 24 16)
        let t := (if refused then t else t.setReg Reg.bbrAnchorS sec).bbrB (if t.lostClocks.testBit 12 then 0x002 else 0x001) 0 0x12 sec 2
        { t with bbr := { t.bbr with postSinceTick := false } })

/-- BBR_STAMP_UPDATE: a microsecond of the TIME base passes, and the stamp register takes CYCLE and TIME_US; during a reset it keeps its value. -/
def execBbrStampUpdate (s : State) : Out :=
  .next (if s.boot.held then s
    else
      let t := { s with time := s.time.atNs ((s.time.total : Int) + 1000) }
      let t := if t.time.sec != s.time.sec then t.setRbit Reg.ptpEvents 2 true else t
      let t := t.setRbit Reg.bbrStatus 3 true
      { t with bbr := { t.bbr with stampCycle := if t.wc.everStarted then t.wc.cycle else 0, stampUs := BitVec.ofNat 32 t.nowUs } })

end Sys2Proof.Machine
end

