-- ==== Sys2Proof/Machine/Bus.lean ====
section
/-! DEFINITION. The bus matrix, the Basins, the general DMA, register accesses by address, execute-in-place, the debug unit's accesses and
DIAG (chapters 06, 18, R315, R620, R767, R787). -/

namespace Sys2Proof.Machine

/-! ### The memory map (Tables MTX-1 to MTX-3) -/

/-- A region of the memory map: base, size, target port. -/
structure Region where
  base : Nat
  size : Nat
  target : Nat
deriving DecidableEq, Repr

/-- Table MTX-1 less the boot alias. -/
def regions : List Region := [
  ⟨0x01000000, 0x100000, 0⟩, ⟨0x20000000, 0x100000, 1⟩, ⟨0x21000000, 0x40000, 2⟩, ⟨0x22000000, 0x200000, 5⟩,
  ⟨0x23000000, 0x80000, 3⟩, ⟨0x24000000, 0x10000, 7⟩, ⟨0x30000000, 0x1000000, 5⟩, ⟨0x40000000, 0x180000, 4⟩,
  ⟨0x50000000, 0x1000000, 5⟩, ⟨0x60000000, 0x10000000, 6⟩, ⟨0x80000000, 0x20000000, 5⟩]

/-- The address behind the boot alias (R659). -/
def State.unalias (s : State) (a : Nat) : Nat :=
  if a < 0x100000 then (if s.rbit Reg.sysctlRemap 0 then 0x20000000 + a else 0x01000000 + a) else a

/-- The target port of an address; none where no row covers it (R658). -/
def targetOf (a : Nat) : Option Nat :=
  (regions.find? fun r => decide (r.base ≤ a) && decide (a < r.base + r.size)).map fun r => r.target

/-- Table MTX-2: the targets that a master reaches. -/
def reach : Nat → List Nat
  | 0 => [0, 1, 2, 3, 5, 6]
  | 1 => [0, 1, 2, 3, 4, 5, 6, 7]
  | 2 => [0, 1, 2, 3, 4, 5, 6]
  | 3 => [1, 2, 3, 4]
  | 4 => [1, 4, 7]
  | _ => []

/-- Table MTX-3: whether a target takes the form of a request. -/
def formOk (t : Nat) (r : BusReq) : Bool :=
  let single := r.beats == 1 && [1, 2, 4, 8].contains r.size && r.addr % r.size == 0
  let burst (most : Nat) : Bool := decide (2 ≤ r.beats) && decide (r.beats ≤ most) && r.size == 8 && r.addr % 8 == 0 &&
    decide (r.addr % 4096 + 8 * r.beats ≤ 4096)
  match t with
  | 0 | 6 => !r.write && (single || burst 256)
  | 1 | 2 | 3 => single || burst 256
  | 4 => r.beats == 1 && r.size == 4 && r.addr % 4 == 0
  | 5 => single || burst 64
  | 7 => (single && decide (4 ≤ r.size)) || (r.beats == 2 && r.size == 8 && r.addr % 16 == 0)
  | _ => false

/-- The bytes that a request covers. -/
def BusReq.len (r : BusReq) : Nat := r.size * r.beats

/-- The bytes that a write supplies. -/
def BusReq.bytes (r : BusReq) : Bytes := (r.data ++ zeros (BusReq.len r)).take (BusReq.len r)

/-! ### Basins (R674 to R687) -/

/-- The Basin that holds an address. -/
def basinOf (a : Nat) : Option Nat :=
  if 0x20000000 ≤ a ∧ a < 0x20100000 then some 0
  else if 0x21000000 ≤ a ∧ a < 0x21040000 then some 1
  else if 0x22000000 ≤ a ∧ a < 0x22200000 then some 2
  else if 0x23000000 ≤ a ∧ a < 0x23080000 then some 3
  else if 0x24000000 ≤ a ∧ a < 0x24010000 then some 4
  else none

/-- The first address and the size of a Basin. -/
def basinBase (b : Nat) : Nat := 0x20000000 + 0x1000000 * b
def basinSize (b : Nat) : Nat := [0x100000, 0x40000, 0x200000, 0x80000, 0x10000].getD b 0

/-- A corrected error is counted (R675). -/
def State.basinCe (s : State) (b : Nat) : State := s.addFld (Reg.basinctlEcc + 4 * b) 15 0 1

/-- An uncorrectable error is counted; the first one's address is latched (R676). -/
def State.basinUe (s : State) (b a : Nat) : State :=
  let first := (List.range 5).all fun i => s.fld (Reg.basinctlEcc + 4 * i) 31 16 == 0
  let t := if first then s.setReg Reg.basinctlUeAddr (BitVec.ofNat 32 ((a - basinBase b) / 8 * 8 % 2097152 + 2097152 * b)) else s
  (t.addFld (Reg.basinctlEcc + 4 * b) 31 16 1).setRbit Reg.basinctlEvents b true

/-- The words in error that a range touches. -/
def State.errWords (s : State) (a n : Nat) : List (Nat × Nat) :=
  s.memErr.filter fun (e : Nat × Nat) => decide (e.1 < a + n) && decide (a < e.1 + 8)

/-- `n` bytes of a Basin from an address: Basins 0 to 3 from memory, Basin 4 from the ring's entries (R880). -/
def State.basinBytes (s : State) (b a n : Nat) : Bytes :=
  if b = 4 then
    let i := (a - 0x24000000) / 16
    (((s.bbrEntry i).bytes ++ (s.bbrEntry (i + 1)).bytes).drop (a % 16)).take n
  else Memory.readBytes s.mem a n

/-- A read of a Basin that is ON: corrected errors are counted; an uncorrectable one answers an error (R675, R676). -/
def State.basinRead (s : State) (who : Initiator) (b a n : Nat) : State :=
  let l := s.errWords a n
  let t := l.foldl (fun (u : State) (e : Nat × Nat) => if e.2 = 1 then u.basinCe b else u.basinUe b e.1) s
  if l.any fun (e : Nat × Nat) => e.2 == 2 then t.busAnswer who .ecc else t.busAnswer who .ok (s.basinBytes b a n)

/-- A write of a Basin that is ON: full words get fresh check bits; a narrower write to an uncorrectable word is refused (R676, R677). -/
def State.basinWrite (s : State) (who : Initiator) (a : Nat) (d : Bytes) : State :=
  let l := s.errWords a d.length
  let whole (e : Nat × Nat) : Bool := decide (a ≤ e.1) && decide (e.1 + 8 ≤ a + d.length)
  if l.any fun e => e.2 == 2 && !whole e then s.busAnswer who .ecc
  else { s with mem := Memory.writeBytes s.mem a d, memErr := s.memErr.filter fun (e : Nat × Nat) => !l.contains e }.busAnswer who .ok

/-- An access performed in its Basin; port A of Basin 4 takes writes by R882. -/
def State.basinDo (s : State) (r : BusReq) (b a : Nat) : State :=
  let t := { s with pwrWait := s.pwrWait.filter fun (x : Nat × Nat) => x.1 != b }
  if !r.write then t.basinRead r.who b a (BusReq.len r)
  else if b = 4 then
    let d := BusReq.bytes r
    (t.busAnswer r.who .ok).portA r.beats (BitVec.ofNat 32 (u32 d 0)) (BitVec.ofNat 32 (u32 d 12))
  else t.basinWrite r.who a (BusReq.bytes r)

/-- An access at a Basin's port: performed when the Basin is ON; held while it is being cleared after a reset or wakes from RET; an error while
it is OFF (R139, R685, R686). -/
def State.basinAccess (s : State) (r : BusReq) (b a : Nat) : State :=
  if b < 4 && !s.boot.basins then { s with held := s.held ++ [r] }
  else if s.basinState b = 2 then s.busAnswer r.who .ecc
  else if s.basinState b = 1 then { s.wakeBasin b with held := s.held ++ [r] }
  else s.basinDo r b a

/-- A change of a Basin's power state takes effect; a Basin that goes OFF loses its contents (R684). -/
def State.setBasin (s : State) (b v : Nat) : State :=
  let t := s.setFld Reg.basinctlPwrStatus (2 * b + 1) (2 * b) v
  if v = 2 then
    { t with mem := Memory.clear t.mem (basinBase b) (basinSize b)
             memErr := t.memErr.filter fun (e : Nat × Nat) => !(decide (basinBase b ≤ e.1) && decide (e.1 < basinBase b + basinSize b)) }
  else t

/-- Whether a held access is one for a Basin. -/
def BusReq.forBasin (r : BusReq) (s : State) (b : Nat) : Bool := basinOf (s.unalias r.addr) == some b

/-- A write of RET or OFF with no access pending acts at once; otherwise it waits. A Basin that is OFF leaves that state only by ON (R686,
R687). -/
def State.basinDown (s : State) (b v : Nat) : State :=
  if s.basinState b = 2 then s
  else if s.basinWaking b || s.held.any fun r => BusReq.forBasin r s b then
    { s with pwrWait := s.pwrWait.filter (fun (x : Nat × Nat) => x.1 != b) ++ [(b, v)] }
  else s.setBasin b v

/-- A write of BASINCTL_PWR's STATE for one Basin. -/
def State.basinPower (s : State) (b v : Nat) : State :=
  if v ≠ 0 then s.basinDown b (min v 2)
  else
    let t := { s with pwrWait := s.pwrWait.filter fun (x : Nat × Nat) => x.1 != b }
    if t.basinState b = 0 then t else t.wakeBasin b

/-- A write of BASINCTL_PWR. -/
def State.writePower (s : State) (v : Word) : State :=
  (List.range 4).foldl (fun (t : State) b => t.basinPower b (bits v (2 * b + 1) (2 * b))) (s.setReg Reg.basinctlPwr (capNibbles (v &&& 0xFF) 2 2 4))

/-- BASIN_POWER_WRITE. -/
def execBasinPowerWrite (who : Initiator) (value : Word) (s : State) : Out :=
  .next (s.guardedWrite who Reg.basinctlPwr fun t => t.writePower value)

/-- ECC_WRITE_BACK (R675): the corrected word is stored; dropped when a write came first, which leaves no error. -/
def execEccWriteBack (addr : Nat) (s : State) : Out :=
  .next (if Store.get s.memErr (addr / 8 * 8) 0 = 1 then { s with memErr := Store.erase s.memErr (addr / 8 * 8) } else s)

/-! ### Register reads (R174 to R178) -/

/-- A word of a list of words, 0 beyond it. -/
def wordAt (l : List Word) (i : Nat) : Word := l.getD i 0

/-- PILOT_STATUS. -/
def State.pilotStatus (s : State) : Word :=
  let code := match s.pilot.st with
    | .idle => 0
    | .foreground => 1
    | .ebb => 2
    | .trap => 3
    | .haltedBreak => 4
    | .haltedFault => 5
  BitVec.ofNat 32 (code + 8 * s.pilot.slots.length + 64 * s.plain.half.toNat + 128 * s.pilot.depth + 1024 * s.pilot.calls.length +
    16384 * (s.pilot.upc % 32768))

/-- TIMER_WDT_STATUS with ELAPSED_MS and OPEN as they stand. -/
def State.wdtStatus (s : State) : Word :=
  let open_ := s.rbit Reg.timerWdtCtrl 0 && decide (s.fld Reg.timerWdtMin 13 0 ≤ s.elapsedMs)
  putBit (putBits (s.reg Reg.timerWdtStatus) 13 0 s.elapsedMs) 16 open_

/-- FAIRWAY_STATEn. -/
def State.fairwayNode (s : State) (n : Nat) : Word :=
  let out := (s.fw.tids.filter fun (x : Nat × FwTid) => x.1 / 256 == n).length
  BitVec.ofNat 32 (s.epoch n + 16 * out + 512 * (Store.find? s.fw.wake n).isSome.toNat)

/-- OTP_CONFIG, OTP_KEY_STATE and the hash words of OTP. -/
def State.otpConfig (s : State) : Word :=
  BitVec.ofNat 32 (s.otp.openFw.toNat + 2 * s.otp.jtagLock.toNat + 4 * s.otp.slipSign.toNat + 8 * s.otp.gradeAx.toNat + 16 * s.otp.custKey.isSome.toNat)
def State.otpKeyState (s : State) : Word :=
  BitVec.ofNat 32 (s.otp.programmed % 16 + 16 * (s.otp.revoked % 16) + 256 * (s.otp.customer % 16))
def State.otpHash (s : State) (w : Nat) : Word := BitVec.ofNat 32 (u32 (Store.get s.otp.keyHash (w / 8) []) (4 * (w % 8)))

/-- A link or configuration field of the PCIE block: its reset value while PERST_N is asserted or the PIPE clock is lost (R199, Table REG-3);
BAR2_EN is the Harbour firmware's and stays. -/
def State.pcieField (s : State) (a : Nat) : Word :=
  if s.pcieDown then (if a = Reg.pcieStatus then s.reg a &&& 0x40 else regReset a) else s.reg a

/-- The transactions of a master that are outstanding: those that a port holds, and the burst with which it holds a path (R667). -/
def State.transactions (s : State) (m : Nat) : Nat :=
  (s.held.filter fun r => r.who.master == m).length + (s.paths.filter fun (x : Nat × BusReq) => x.2.who.master == m).length

/-- MATRIX_OUTSTANDING. -/
def State.outstandingWord (s : State) : Word :=
  BitVec.ofNat 32 ((List.range 5).foldl (fun n m => n + min 8 (s.transactions m) * 16 ^ m) 0)

/-- The word that a register reads as, where the read has no action of its own. -/
def State.regView (s : State) (a : Nat) : Word :=
  if a % 65536 = 0xFFC then (s.guard (blockOf a)).word
  else if a = Reg.pilotStatus then s.pilotStatus
  else if a = Reg.pilotDlLeft then BitVec.ofNat 32 s.pilot.dlLeft
  else if Reg.pilotSave ≤ a ∧ a < Reg.pilotSave + 128 then wordAt (s.pilot.slots.getD ((a - Reg.pilotSave) / 32) []) ((a - Reg.pilotSave) / 4 % 8)
  else if a = Reg.intcPend then s.pendWord 0
  else if a = Reg.intcPend + 4 then s.pendWord 1
  else if a = Reg.timerWdtStatus then s.wdtStatus
  else if Reg.fairwayState ≤ a ∧ a < Reg.fairwayState + 256 ∧ (a - Reg.fairwayState) % 16 = 0 then s.fairwayNode ((a - Reg.fairwayState) / 16)
  else if a = Reg.ptpTimeSecHi then BitVec.ofNat 32 (s.time.snapSec / 4294967296)
  else if a = Reg.ptpTimeNs then BitVec.ofNat 32 s.time.snapNs
  else if a = Reg.ptpTimeUsLo then BitVec.ofNat 32 (s.time.snapSec * 1000000 + s.time.snapNs / 1000)
  else if a = Reg.ptpTimeUsHi then BitVec.ofNat 32 ((s.time.snapSec * 1000000 + s.time.snapNs / 1000) / 4294967296)
  else if a = Reg.otpConfig then s.otpConfig
  else if a = Reg.otpKeyState then s.otpKeyState
  else if a = Reg.otpRollback then BitVec.ofNat 32 s.otp.rollback
  else if Reg.otpKeyHash ≤ a ∧ a < Reg.otpKeyHash + 128 then s.otpHash ((a - Reg.otpKeyHash) / 4)
  else if a = Reg.matrixOutstanding then s.outstandingWord
  else if isPcieField a then s.pcieField a
  else s.reg a

/-- FAIRWAY_TRACE_DATA: the next word of the oldest captured head; the head goes with its fourth word; 0 when there is none (R178). -/
def State.traceRead (s : State) (who : Initiator) : State :=
  match s.fw.trace with
  | [] => s.busAnswer who .ok (zeros 4)
  | h :: r =>
    let t := if s.fw.tracePos ≥ 3 then { s with fw := { s.fw with trace := r, tracePos := 0 } }
      else { s with fw := { s.fw with tracePos := s.fw.tracePos + 1 } }
    t.busAnswer who .ok (leBytes 4 (wordAt h s.fw.tracePos).toNat)

/-- FAIRWAY_TRACE_READ. -/
def execFairwayTraceRead (who : Initiator) (s : State) : Out := .next (s.toBlock who Reg.fairwayTraceData fun t => t.traceRead who)

/-- The state of a command that goes on. -/
def stateOf (o : Out) (s : State) : State :=
  match o with
  | .next t => t
  | _ => s

/-- A read of the register at an address. -/
def State.readReg (s : State) (who : Initiator) (a : Nat) : State :=
  if a = Reg.timerSyscntLo then stateOf (execTimerSyscntLatch who s) s
  else if a = Reg.ptpTimeSecLo then stateOf (execPtpTimeSnapshot who s) s
  else if a = Reg.fairwayTraceData then stateOf (execFairwayTraceRead who s) s
  else if a = Reg.slipctlShadowData then stateOf (execShadowDataRead who s) s
  else if a = Reg.intcClaim then stateOf (execIntcClaim who s) s
  else if !inPeripherals a || (a % 65536 != 0xFFC && (regRow? a).isNone) then (if s.silent who then s else s.busAnswer who .error)
  else s.toBlock who a fun t => t.busAnswer who .ok (leBytes 4 (t.regView a).toNat)

/-! ### Register writes with an action -/

/-- The actions of PILOT_CTRL. -/
def State.pilotCtrl (s : State) (v : Word) : State :=
  let t := if bit v 0 then stateOf (execPilotStart s) s else s
  let t := if bit v 1 then stateOf (execPilotBreak t) t else t
  if bit v 2 then stateOf (execPilotResume t) t else t

/-- The actions of QUAY_CTRL. -/
def State.quayCtrl (s : State) (v : Word) : State :=
  let t := if bit v 0 then s.ldGo else s
  let t := if bit v 1 then t.ulGo else t
  if bit v 2 then t.quayAbortGo else t

/-- The actions of BASINCTL_CLEAR. -/
def State.basinClear (s : State) (v : Word) : State :=
  let t := if bit v 0 then s.clearColl else s
  if bit v 1 then t.clearEcc else t

/-- A DMA channel's descriptor starts; GO on a running channel starts nothing (R671). -/
def State.dmaStart (s : State) (n : Nat) : State := s.setRbit (Reg.matrixDmaStatus + 32 * n) 0 true

/-- DMA_GO. -/
def execDmaGo (who : Initiator) (channel : Nat) (s : State) : Out :=
  .next (if channel ≥ 8 then s.busAnswer who .error else s.toBlock who (Reg.matrixDmaCtrl + 32 * channel) fun t => t.dmaStart channel)

/-- A pin cluster controller that is switched off loses its station's link (R396). -/
def State.clusterOff (s t : State) (a : Nat) : State :=
  if s.rbit a 0 && !t.rbit a 0 then
    (if blockOf a = 11 ∧ a % 256 = 0 then t.linkLost (120 + (a - Reg.canCtrl) / 256)
    else if blockOf a = 12 ∧ a % 256 = 0 then t.linkLost (112 + (a - Reg.uartCtrl) / 256) else t)
  else t

/-- The Ethernet registers with an action, by their offset in the port's block. -/
def State.writeEth (s : State) (who : Initiator) (p a : Nat) (v : Word) : State :=
  if a = Reg.ethMdioCmd + 65536 * p ∧ bit v 31 then stateOf (execMdioCommand who p v s) s
  else if a = Reg.ethCntClear + 65536 * p ∧ bit v 0 then stateOf (execEthCntClear who p s) s
  else match (List.range 3).find? fun r => rxBase p r + 8 == a && bit v 0 with
    | some r => stateOf (execEthRxKick who p r s) s
    | none => match (List.range 4).find? fun q => txBase p q + 8 == a && bit v 0 with
      | some q => stateOf (execEthTxKick who p q s) s
      | none => s.plainWrite who a v

/-- A write of the register at an address by a master: the register's action, or its fields (R174 to R198). -/
def State.writeReg (s : State) (who : Initiator) (a : Nat) (v : Word) : State :=
  if !inPeripherals a then s.plainWrite who a v
  else if a % 65536 = 0xFFC then s.guardAccess who (blockOf a) v
  else if a = Reg.sysctlSwreset ∧ bit v 0 then stateOf (execSysctlSwreset who s) s
  else if a = Reg.clkgenCtrl then stateOf (execArrHalfWrite who (bit v 0) s) s
  else if a = Reg.clkgenDcqDrop ∧ bit v 16 then stateOf (execDcqDropClear who s) s
  else if a = Reg.pilotCtrl then s.toBlock who a fun t => t.pilotCtrl v
  else if a = Reg.pilotMboxHm then s.toBlock who a fun t => stateOf (execPilotMboxWrite 0 v t) t
  else if a = Reg.pilotMboxHm + 4 then s.toBlock who a fun t => stateOf (execPilotMboxWrite 1 v t) t
  else if a = Reg.pilotPramData + 12 then s.toBlock who a fun t => stateOf (execPilotPramWrite v t) t
  else if a = Reg.quayCtrl then s.toBlock who a fun t => t.quayCtrl v
  else if a = Reg.quayBusyCnt ∧ bit v 31 then stateOf (execQuayBusyClear who s) s
  else if a = Reg.fairwayClear ∧ bit v 0 then stateOf (execClrCounts who s) s
  else if Reg.matrixDmaCtrl ≤ a ∧ a < Reg.matrixDmaCtrl + 256 ∧ (a - Reg.matrixDmaCtrl) % 32 = 0 ∧ bit v 0 then
    stateOf (execDmaGo who ((a - Reg.matrixDmaCtrl) / 32) (s.plainWrite who a v)) s
  else if a = Reg.basinctlPwr then stateOf (execBasinPowerWrite who v s) s
  else if a = Reg.basinctlClear then s.toBlock who a fun t => t.basinClear v
  else if blockOf a = 8 then s.writeEth who 0 a v
  else if blockOf a = 9 then s.writeEth who 1 a v
  else if a = Reg.ptpStep ∧ bit v 0 then stateOf (execPtpStep who s) s
  else if a = Reg.slipctlApply ∧ bit v 0 then stateOf (execSlipctlApplyGo who s) s
  else if a = Reg.slipctlCapture ∧ bit v 31 then stateOf (execSlipctlCaptureGo who (v.setWidth 2) s) s
  else if a = Reg.scrubClear ∧ bit v 0 then stateOf (execScrubClr who s) s
  else if a = Reg.timerWdtService then stateOf (execWdtService who v s) s
  else if a = Reg.intcComplete then stateOf (execIntcComplete who (bits v 5 0) s) s
  else if a = Reg.otpProgCmd then stateOf (execOtpProgCmd who v s) s
  else if a = Reg.reclaimUnfence ∧ bit v 31 then stateOf (execReclaimUnfence who (bits v 4 0) s) s
  else if a = Reg.bbrRelease ∧ bit v 31 then stateOf (execBbrRelease who (bits v 11 0) s) s
  else if a = Reg.bbrRtcSet then stateOf (execRtcSet who v s) s
  else s.clusterOff (s.plainWrite who a v) a

/-- REGISTER_WRITE. -/
def execRegisterWrite (who : Initiator) (addr : Nat) (value : Word) (s : State) : Out := .next (s.writeReg who addr value)

/-! ### Targets T0, T5 and T6 -/

/-- `n` bytes of the Boot ROM. -/
def romBytes (a : Nat) : Nat → Bytes
  | 0 => []
  | n + 1 => Config.bootRom (a - 0x01000000) :: romBytes (a + 1) n

/-- `n` bytes of flash on chip select 1, which the Harbour firmware never writes. -/
def Flash.cs1Bytes (f : Flash) (a : Nat) : Nat → Bytes
  | 0 => []
  | n + 1 => Store.get f.cs1 a 0xFF :: f.cs1Bytes (a + 1) n

/-- An execute-in-place read (R787): refused and counted while a program or erase runs on the same chip select. -/
def State.xipRead (s : State) (who : Initiator) (off n : Nat) : State :=
  if off < 0x8000000 then
    if s.rbit Reg.qspiCtrl 7 then (s.addFld Reg.qspiCtrl 15 8 1).busAnswer who .error
    else s.busAnswer who .ok (s.flash.readBytes off n)
  else s.busAnswer who .ok (s.flash.cs1Bytes (off - 0x8000000) n)

/-- An access to the Slipway window: a 32-bit port on SLIP0 (R808); the design's answer, or none in time, is the design's own. -/
def State.slipWindow (s : State) (r : BusReq) : State :=
  if !s.windowOpen || decide (r.beats ≠ 1) || decide (r.size > 4) then s.busAnswer r.who .error
  else
    let n := (s.slip.design.map fun d => d.id).getD 0
    match Config.designWindow n (r.addr - 0x50000000) s.freeCtr with
    | none => s.usedFree.windowTimeout r.who
    | some w => s.usedFree.busAnswer r.who .ok (if r.write then [] else (leBytes 4 w.toNat).take r.size)

/-- An access to the PCIe outbound window (R766): host memory lies outside the block, so that a read returns free bytes. -/
def State.outbound (s : State) (r : BusReq) : State :=
  if !s.host.busMaster || !s.rbit Reg.pcieStatus 0 then s.busAnswer r.who .error
  else if r.write then s.busAnswer r.who .ok
  else { s with freeCtr := s.freeCtr + BusReq.len r }.busAnswer r.who .ok (freeBytes s.freeCtr (BusReq.len r))

/-- The Fairway node that serves an address of T5. -/
def nodeOfAddr (a : Nat) : Nat := if a < 0x50000000 then 1 else if a < 0x80000000 then 11 else 8

/-- An access through T5: the Fairway request and its response as one. -/
def State.atFairway (s : State) (r : BusReq) : State :=
  if s.rbit Reg.fairwayFence (16 + nodeOfAddr r.addr) then s.busAnswer r.who .fenced
  else if r.addr < 0x30000000 then s.basinAccess r 2 r.addr
  else if r.addr < 0x31000000 then s.windowAccess r
  else if r.addr < 0x60000000 then s.slipWindow r
  else s.outbound r

/-! ### A request at the matrix (R658 to R670) -/

/-- A request that reaches its target port, with the address behind the alias. -/
def State.atTarget (s : State) (t : Nat) (r : BusReq) : State :=
  match t with
  | 0 => s.busAnswer r.who .ok (romBytes r.addr (BusReq.len r))
  | 4 => if r.write then s.writeReg r.who r.addr (BitVec.ofNat 32 (u32 (BusReq.bytes r) 0)) else s.readReg r.who r.addr
  | 5 => s.atFairway r
  | 6 => s.xipRead r.who (r.addr - 0x60000000) (BusReq.len r)
  | _ => match basinOf r.addr with
    | some b => s.basinAccess r b r.addr
    | none => s.busAnswer r.who .error

/-- A request at the matrix. -/
def State.matrix (s : State) (r0 : BusReq) : State :=
  let r := { r0 with addr := s.unalias r0.addr }
  let m := r.who.master
  if s.silent r.who then s
  else if m > 4 then s.busAnswer r.who .error
  else match targetOf r.addr with
  | none =>
    if s.masterFenced m 8 then (s.matrixErr r.who 5 0 r0.addr).busAnswer r.who .fenced
    else (s.matrixErr r.who 1 0 r0.addr).busAnswer r.who .error
  | some t =>
    if s.masterFenced m t then (s.matrixErr r.who 5 t r0.addr).busAnswer r.who .fenced
    else if !(reach m).contains t then (s.matrixErr r.who 2 t r0.addr).busAnswer r.who .error
    else if m = 4 && s.otp.jtagLock then s.busAnswer r.who .error
    else if !formOk t r then (s.matrixErr r.who 3 t r0.addr).busAnswer r.who .error
    else s.atTarget t r

/-- XIP_READ: a word of flash through T6. -/
def execXipRead (who : Initiator) (offset : Nat) (s : State) : Out :=
  .next (s.matrix { who := who, addr := 0x60000000 + offset, write := false, size := 4, beats := 1 })

/-- A Basin's wake completes: from OFF with every word zero and WAKE_DONE set; held accesses proceed in order, and then a waiting change of
power acts (R685 to R687, R693). -/
def State.basinUp (s : State) (b : Nat) : State :=
  if !s.basinWaking b then s
  else
    let off := s.basinState b == 2
    let t := (s.setRbit Reg.basinctlPwrStatus (8 + b) false).setFld Reg.basinctlPwrStatus (2 * b + 1) (2 * b) 0
    let t := if off then t.setRbit Reg.basinctlEvents (5 + b) true else t
    let l := t.held.filter fun r => BusReq.forBasin r t b
    let t := { t with held := t.held.filter fun r => !BusReq.forBasin r t b }
    let w := t.pwrWait
    let t := l.foldl (fun (u : State) r => u.matrix r) t
    match w.find? fun (x : Nat × Nat) => x.1 == b with
    | some x => if l.isEmpty then { t with pwrWait := w.filter fun (x : Nat × Nat) => x.1 != b }.setBasin b x.2
                else { t with pwrWait := w }.setBasin b x.2
    | none => t

/-- The clear of Basins 0 to 3 after a reset ends, with every word zero and no error (R139). -/
def State.zeroBasins (s : State) : State := { s with mem := [], memErr := [], boot := { s.boot with basins := true } }

/-- The clear of the Basins ends, and the accesses that waited for it proceed in order (R139). -/
def State.basinsClear (s : State) : State :=
  let mine (r : BusReq) : Bool := match basinOf (s.unalias r.addr) with
    | some b => decide (b < 4)
    | none => false
  let t := { s.zeroBasins with held := s.held.filter fun r => !mine r }
  (s.held.filter mine).foldl (fun (u : State) r => u.matrix r) t

/-- A request whose issuer waits for it: the clear after a reset ends first, and a sleeping Basin or field wakes. -/
def State.busNow (s : State) (r : BusReq) : State :=
  let a := s.unalias r.addr
  let t := match basinOf a with
    | some b =>
      let t := if b < 4 && !s.boot.basins then s.basinsClear else s
      if t.basinState b = 1 then (t.wakeBasin b).basinUp b else t
    | none =>
      if 0x30000000 ≤ a ∧ a < 0x31000000 ∧ !s.inWindow then
        let f := fieldOf ((a - 0x30000000) / 1024)
        let p : Power := s.plain.power.getD f .on
        if p == Power.on || s.rbit Reg.sysctlPlainFail f then s else s.wakeNow f
      else s
  t.matrix r

/-- `n` bytes read by a master with single accesses of 8 bytes; the first failure ends the read. -/
def State.readWords (s : State) (who : Initiator) (a : Nat) : Nat → Bytes → State × Option Bytes
  | 0, acc => (s, some acc)
  | n + 1, acc =>
    let t := s.busNow { who := who, addr := a, write := false, size := 8, beats := 1 }
    if t.bus.status = .ok then t.readWords who (a + 8) n (acc ++ t.bus.data) else (t, none)

/-! ### General DMA (R671 to R673) -/

/-- One burst of a copy: `n` beats of 8 bytes, or a single 32-bit beat where a peripheral takes part; the failing address on an error. -/
def State.dmaBurst (s : State) (src dst size beats : Nat) : State × Option Nat :=
  let who : Initiator := { master := 2 }
  let t := s.busNow { who := who, addr := src, write := false, size := size, beats := beats }
  if t.bus.status ≠ .ok then (t, some src)
  else
    let u := t.busNow { who := who, addr := dst, write := true, size := size, beats := beats, data := t.bus.data }
    if u.bus.status ≠ .ok then (u, some dst) else (u, none)

/-- Whether an address lies in the peripheral region. -/
def isPeripheral (a : Nat) : Bool := decide (0x40000000 ≤ a) && decide (a < 0x50000000)

/-- A descriptor's copy, burst by burst; the fuel bounds the number of bursts. -/
def State.dmaCopy (s : State) (src dst left : Nat) : Nat → State × Option Nat
  | 0 => (s, none)
  | fuel + 1 =>
    if left = 0 then (s, none)
    else
      let single := isPeripheral src || isPeripheral dst
      let beats := min (min 64 (left / 8)) (min ((4096 - src % 4096) / 8) ((4096 - dst % 4096) / 8))
      let (size, n) := if single then (4, 1) else (8, max 1 beats)
      match s.dmaBurst src dst size n with
      | (t, some e) => (t, some e)
      | (t, none) => t.dmaCopy (src + size * n) (dst + size * n) (left - size * n) fuel

/-- A channel stops with ERR at an address (R672). -/
def State.dmaFail (s : State) (n addr : Nat) : State :=
  let st := Reg.matrixDmaStatus + 32 * n
  ((s.setRbit st 0 false).setRbit st 2 true).setReg (Reg.matrixDmaErraddr + 32 * n) (BitVec.ofNat 32 addr)

/-- A channel's source, destination and length. -/
def State.dmaSrc (s : State) (n : Nat) : Nat := (s.reg (Reg.matrixDmaSrc + 32 * n)).toNat / 8 * 8
def State.dmaDst (s : State) (n : Nat) : Nat := (s.reg (Reg.matrixDmaDst + 32 * n)).toNat / 8 * 8
def State.dmaLen (s : State) (n : Nat) : Nat := (s.reg (Reg.matrixDmaLen + 32 * n)).toNat % 16777216 / 8 * 8

/-- DMA_DONE: the copy as a whole; a burst that fails stops the channel as R672 says. -/
def execDmaDone (channel : Nat) (s : State) : Out :=
  let st := Reg.matrixDmaStatus + 32 * channel
  .next (if channel ≥ 8 || !s.rbit st 0 then s
    else match s.dmaCopy (s.dmaSrc channel) (s.dmaDst channel) (s.dmaLen channel) (s.dmaLen channel / 4) with
      | (t, some e) => t.dmaFail channel e
      | (t, none) => (t.setRbit st 0 false).setRbit st 1 true)

/-- How many bytes were copied before the failing address. -/
def State.dmaBefore (s : State) (n addr : Nat) : Nat :=
  if s.dmaSrc n ≤ addr ∧ addr < s.dmaSrc n + s.dmaLen n then (addr - s.dmaSrc n) / 8 * 8
  else if s.dmaDst n ≤ addr ∧ addr < s.dmaDst n + s.dmaLen n then (addr - s.dmaDst n) / 8 * 8 else 0

/-- DMA_ERROR (R672): bytes already copied stay copied. -/
def execDmaError (channel addr : Nat) (s : State) : Out :=
  .next (if channel ≥ 8 || !s.rbit (Reg.matrixDmaStatus + 32 * channel) 0 then s
    else
      let n := s.dmaBefore channel addr
      match s.dmaCopy (s.dmaSrc channel) (s.dmaDst channel) n (n / 4) with
      | (t, some e) => t.dmaFail channel e
      | (t, none) => t.dmaFail channel addr)

/-! ### PCIe BAR 2 (R201, R202, R767) -/

/-- What the host receives as the completion of its request. -/
def State.complete (s : State) (c : Completion) : State := { s with host := { s.host with completion := some c } }

/-- Whether BAR 2 is enabled. -/
def State.bar2 (s : State) : Bool := s.rbit Reg.pcieStatus 6

/-- PCIE_BAR2_READ. -/
def execPcieBar2Read (offset : Nat) (oneDword : Bool) (s : State) : Out :=
  .next (if s.pcieDown then s
    else if !s.bar2 then s.complete .unsupported
    else if !oneDword || offset % 4 ≠ 0 || offset ≥ 0x180000 then s.complete .abort
    else
      let t := s.matrix { who := { master := 3, node := 8 }, addr := 0x40000000 + offset, write := false, size := 4, beats := 1 }
      if t.bus.status = .ok then t.complete (.data (BitVec.ofNat 32 (ofLe t.bus.data))) else t.complete .abort)

/-- PCIE_BAR2_WRITE: discarded and counted, key writes among them. -/
def execPcieBar2Write (_offset : Nat) (_value : Word) (s : State) : Out :=
  .next (if s.pcieDown then s else if !s.bar2 then s.complete .unsupported else s.hostDiscard)

/-! ### The debug unit (R620, R621) -/

/-- A 32-bit access of master 4. -/
def State.debugBus (s : State) (a : Nat) (w : Option Word) : State :=
  let t := s.matrix { who := { master := 4 }, addr := a, write := w.isSome, size := 4, beats := 1, data := leBytes 4 (w.getD 0).toNat }
  if w.isNone && t.bus.status == .ok then { t with dbg := { t.dbg with data := BitVec.ofNat 32 (ofLe t.bus.data) } } else t

/-- DEBUG_ACCESS: refused when JTAG_LOCK is set. Registers and memory are reached through M4 by address. -/
def execDebugAccess (a : DebugAction) (s : State) : Out :=
  .next (if s.otp.jtagLock then s.busAnswer { master := 4 } .error
    else match a with
      | .halt => { s with dbg := { s.dbg with halted := true, stepping := false } }
      | .resume => { s with dbg := { s.dbg with halted := false, stepping := false } }
      | .step => { s with dbg := { s.dbg with stepping := s.dbg.halted } }
      | .readReg n => s.debugBus n none
      | .writeReg n v => s.debugBus n (some v)
      | .readMem n => s.debugBus n none
      | .writeMem n v => s.debugBus n (some v)
      | .setBreak n addr on =>
        if n ≥ 4 then s
        else { s with dbg := { s.dbg with breaks := if on then Store.insert s.dbg.breaks n addr else Store.erase s.dbg.breaks n } }
      | .setWatch n addr on =>
        if n ≥ 2 then s
        else { s with dbg := { s.dbg with watches := if on then Store.insert s.dbg.watches n addr else Store.erase s.dbg.watches n } })

/-- A dirty line of the data cache written to memory as master 1. -/
def State.writeLine (s : State) (a : Nat) (bytes : Bytes) : State :=
  s.matrix { who := { master := 1 }, addr := a, write := true, size := 8, beats := 4, data := bytes }

/-- Every dirty line of the data cache written back; the lines stay, clean. -/
def State.flushDcache (s : State) : State :=
  let dirty := s.hm.dcache.filter fun (x : Nat × CacheLine) => x.2.dirty && !x.2.bad
  let t := dirty.foldl (fun (u : State) (x : Nat × CacheLine) => u.writeLine x.1 x.2.bytes) s
  { t with hm := { t.hm with dcache := Store.mapKV t.hm.dcache fun _ l => { l with dirty := l.bad && l.dirty } } }

/-- DBG_FLUSH. -/
def execDbgFlush (s : State) : Out := .next (if s.otp.jtagLock then s.busAnswer { master := 4 } .error else s.flushDcache)

/-! ### DIAG (R203, R315) -/

/-- The Harbour firmware as a master. -/
def hmData : Initiator := { master := 1 }

/-- The common checks of a DIAG payload by OP. -/
def diagFault (s : State) (ep : Endpoint) (q : Packet) (op : Nat) (p : Bytes) : Option Nat :=
  let a := u32 p 4
  let n := u16 p 2
  if op ≤ 2 then (if 0x40000000 ≤ a ∧ a < 0x40180000 ∧ a % 4 = 0 then none else some 4)
  else if op = 3 then
    if n % 8 ≠ 0 || decide (n + 4 > s.replyMax ep q) then some 2
    else
      let ok := match basinOf a with
        | some b => decide (a + n ≤ basinBase b + basinSize b)
        | none => decide (0x30000000 ≤ a) && decide (a + n ≤ 0x31000000)
      if ok && a % 8 == 0 then none else some 4
  else none

/-- A DIAG body: the length, OP and zero checks, then the operation. -/
def diagBody (act : Packet → State → Rep) : Body := fun ep q s =>
  let p := q.payload
  if p.length ≠ 12 then refuseLen s
  else if u8 p 0 < 1 ∨ 5 < u8 p 0 then refuseAt s St.tableRange 0
  else match firstNonZero p 1 1 with
  | some o => refuseAt s St.reservedBits o
  | none => match diagFault s ep q (u8 p 0) p with
    | some o => refuseAt s St.tableRange o
    | none => act q s

/-- The reply of REG_READ and REG_WRITE from the access that just ended. -/
def diagRep (s : State) (w : Word) : Rep :=
  { state := s, payload := leBytes 4 w.toNat ++ leBytes 1 (if s.bus.status = .ok then 0 else 1) ++ zeros 3 }

/-- REG_READ. -/
def diagRegRead (q : Packet) (s : State) : Rep :=
  let t := s.matrix { who := hmData, addr := u32 q.payload 4, write := false, size := 4, beats := 1 }
  diagRep t (if t.bus.status = .ok then BitVec.ofNat 32 (ofLe t.bus.data) else 0)

/-- Whether REG_WRITE may not reach a block now: SYSCTL, OTP, QSPI, RECLAIM and BBR never, PILOT and QUAY not while the cycle runs. -/
def State.diagBarred (s : State) (a : Nat) : Bool :=
  [0, 14, 17, 18, 20].contains (blockOf a) || ([3, 4].contains (blockOf a) && s.cycleOn)

/-- REG_WRITE: the key and the write by the HM as master 1, recorded in the ring, and the read-back. -/
def diagRegWrite (q : Packet) (s : State) : Rep :=
  let a := u32 q.payload 4
  if s.diagBarred a then refuse s St.wrongState
  else
    let t := s.guardAccess hmData (blockOf a) 0x5AC3
    let t := t.matrix { who := hmData, addr := a, write := true, size := 4, beats := 1, data := slice q.payload 8 4 }
    let bad := t.bus.status != .ok
    let t := t.faultF 0x034 1 0x13 (BitVec.ofNat 32 a)
    if bad then diagRep t 0
    else
      let u := t.matrix { who := hmData, addr := a, write := false, size := 4, beats := 1 }
      diagRep u (if u.bus.status = .ok then BitVec.ofNat 32 (ofLe u.bus.data) else 0)

/-- MEM_READ; a read that ends with an error is a command that failed inside the device (R263). -/
def diagMemRead (q : Packet) (s : State) : Rep :=
  let a := u32 q.payload 4
  match s.readWords hmData a (u16 q.payload 2 / 8) [] with
  | (t, some d) => { state := t, payload := leBytes 4 a ++ d }
  | (t, none) => failInside t q

/-- BAR2_ON and BAR2_OFF. -/
def diagBar2 (on : Bool) (s : State) : Rep := { state := s.setRbit Reg.pcieStatus 6 on }

/-- DIAG of any OP (Table OPC-14). -/
def bodyDiag : Body := diagBody fun q s =>
  match u8 q.payload 0 with
  | 1 => diagRegRead q s
  | 2 => diagRegWrite q s
  | 3 => diagMemRead q s
  | 4 => diagBar2 true s
  | _ => diagBar2 false s

def execDiagRegRead (q : Req) (s : State) : Out := s.runCommand q bodyDiag
def execDiagRegWrite (q : Req) (s : State) : Out := s.runCommand q bodyDiag
def execDiagMemRead (q : Req) (s : State) : Out := s.runCommand q bodyDiag
def execDiagBar2On (q : Req) (s : State) : Out := s.runCommand q bodyDiag
def execDiagBar2Off (q : Req) (s : State) : Out := s.runCommand q bodyDiag

end Sys2Proof.Machine
end

