-- ==== Sys2Proof/Machine/Arbiter.lean ====
section
/-! DEFINITION. Several requests at the bus matrix: arbitration, split bursts, HOLD paths, outstanding transactions, and the two ports of a
Basin that meet at one word (R662 to R670, R679 to R682, R692). -/

namespace Sys2Proof.Machine

/-! ### Dual-port collisions (R678 to R682) -/

/-- The Basin at which the matrix would perform a request now; none where it answers with an error, or holds it. -/
def State.basinAt (s : State) (r0 : BusReq) : Option Nat :=
  let r := { r0 with addr := s.unalias r0.addr }
  let m := r.who.master
  match targetOf r.addr, basinOf r.addr with
  | some t, some b =>
    if s.silent r.who || decide (m > 4) || s.masterFenced m t || !(reach m).contains t || (m == 4 && s.otp.jtagLock) || !formOk t r then none
    else if t = 5 && s.rbit Reg.fairwayFence 17 then none
    else if b < 4 && (!s.boot.basins || s.basinState b != 0) then none
    else some b
  | _, _ => none

/-- A collision counted: read against write in RW, write against write in WW (R682). -/
def State.collide (s : State) (b : Nat) (rw : Bool) : State :=
  if rw then s.addFld (Reg.basinctlColl + 4 * (b - 1)) 31 16 1 else s.addFld (Reg.basinctlColl + 4 * (b - 1)) 15 0 1

/-- A BUSY that the Quay meets at Basin 2 or 3: it reads again, and every further time counts in BUSY_EXTRA (R581). -/
def State.quayBusy (s : State) (b : Nat) (again : Bool) : State :=
  if b = 2 || b = 3 then
    let t := s.addFld Reg.quayBusyCnt 15 0 1
    if again then t.addFld Reg.quayBusyCnt 30 16 1 else t
  else s

/-- Whether the other port of a Basin writes: Basin 1's is read only (Table MTX-4). -/
def PortUse.writes (p : PortUse) (b : Nat) : Bool := p.write && b != 1

/-- The other port's access performed: a write of one 64-bit word stores fresh check bits. What the Reclaim controller writes into Basin 4 is
the ring's, and has its own rows. -/
def State.otherPort (s : State) (b : Nat) (p : PortUse) : State :=
  if !PortUse.writes p b || b = 4 then s
  else
    let w := p.addr / 8 * 8
    { s with mem := Memory.writeBytes s.mem w ((p.data ++ zeros 8).take 8), memErr := Store.erase s.memErr w }

/-- Whether an access touches the 64-bit word of another. -/
def BusReq.touches (r : BusReq) (p : PortUse) : Bool := decide (r.addr < p.addr / 8 * 8 + 8) && decide (p.addr / 8 * 8 < r.addr + BusReq.len r)

/-- An access at a Basin and those that its other port makes in the same cycle and in the cycles after it; `act` performs it. A write is deemed
earlier than a read, which is made again (R681), and of two writes the one of the port that PRECEDENCE names (R680). The other port's accesses
that are left follow. -/
def State.meet (s : State) (r : BusReq) (b : Nat) (act : State → State) : List PortUse → State × List PortUse
  | [] => (act s, [])
  | p :: l =>
    if b = 0 || !BusReq.touches r p || (!r.write && !PortUse.writes p b) then (act (s.otherPort b p), l)
    else if !r.write then ((s.otherPort b p).collide b true).meet r b act l
    else if !PortUse.writes p b then (((act s).collide b true).quayBusy b p.again, { p with again := true } :: l)
    else
      let t := s.collide b false
      if s.rbit Reg.basinctlPrecedence b == (b == 2) then ((act t).otherPort b p, l) else (act (t.otherPort b p), l)

/-- What the other ports still do, with no access of the matrix to meet. -/
def State.restOfPorts (s : State) (l : List PortUse) : State :=
  l.foldl (fun (t : State) (p : PortUse) => match basinOf p.addr with
    | some b => t.otherPort b p
    | none => t) s

/-! ### Outstanding transactions and HOLD paths (R665 to R669) -/

/-- Whether a request is the burst that keeps a HOLD path. -/
def BusReq.same (a b : BusReq) : Bool := a.who == b.who && a.addr == b.addr && a.write == b.write && a.beats == b.beats

/-- Whether a locked sequence of a queue controller holds Basin 2 port B (R800). -/
def State.portLocked (s : State) : Bool := s.slip.qcs.any fun x => decide (0 < x.2.locked)

/-- Whether the matrix holds a request back at its master port: the master has 8 transactions outstanding (R667), one with the same ID at another
target (R668), or an earlier request that waits with that ID; it holds a HOLD path and asks for T5 (R669); another burst keeps the path of the
port (R665); a locked sequence holds the port of Basin 2 that node 1 uses (R800). A fenced master's request is answered FENCED instead (R670). -/
def State.holdsBack (s : State) (t : Nat) (r : BusReq) : Bool :=
  let mine (x : BusReq) : Bool := x.who.master == r.who.master && x.id == r.id
  if s.masterFenced r.who.master t || s.paths.any fun (x : Nat × BusReq) => BusReq.same x.2 r then false
  else decide (s.transactions r.who.master ≥ 8) || (s.held.any fun x => mine x && targetOf (s.unalias x.addr) != some t) || s.atPort.any mine ||
    (t == 5 && s.paths.any fun (x : Nat × BusReq) => x.2.who.master == r.who.master) || (s.paths.any fun (x : Nat × BusReq) => x.1 == t) ||
    (s.portLocked && t == 5 && basinOf (s.unalias r.addr) == some 2)

/-- A burst whose holder makes the path wait keeps it on a HOLD port (R665, R666). -/
def State.keepsPath (s : State) (t : Nat) (r : BusReq) : Bool :=
  r.stalled && decide (r.beats > 1) && decide (t < 8) && s.rbit Reg.matrixPolicy t && (reach r.who.master).contains t && formOk t r

/-! ### Arbitration (R662, R664, R692) -/

/-- The QoS of a request: of its master, of a DMA channel, or carried in the packet; 15 once it has waited 256 SYS cycles (R662). -/
def State.qosOf (s : State) (r : BusReq) : Nat :=
  if r.waited ≥ 256 then 15
  else match r.who.master with
    | 0 => s.fld Reg.matrixQos 3 0
    | 1 => s.fld Reg.matrixQos 7 4
    | 2 =>
      let c := Reg.matrixDmaCtrl + 32 * (r.id % 8)
      if s.rbit c 2 then s.fld c 7 4 else s.fld Reg.matrixQos 11 8
    | 4 => s.fld Reg.matrixQos 19 16
    | _ => r.qos

/-- Whether a request is granted before another: the higher QoS, then the longer wait, then the lower master number (R662). -/
def State.before (s : State) (a b : BusReq) : Bool :=
  if s.qosOf a ≠ s.qosOf b then decide (s.qosOf b < s.qosOf a)
  else if a.waited ≠ b.waited then decide (b.waited < a.waited)
  else decide (a.who.master < b.who.master)

/-- A request in arbitration: its place in the row, what is left of it, and its response so far. -/
structure Arb where
  place : Nat
  req : BusReq
  resp : BusResp := {}
deriving DecidableEq, Repr

/-- The target of a request; 8 where no row of the memory map covers its address. -/
def State.portOf (s : State) (r : BusReq) : Nat := (targetOf (s.unalias r.addr)).getD 8

/-- The request that the port of the first one grants. -/
def State.pick (s : State) : List Arb → Option Arb
  | [] => none
  | x :: l => some ((l.filter fun y => s.portOf y.req == s.portOf x.req).foldl (fun best y => if s.before y.req best.req then y else best) x)

/-- What is granted of a request at once: 16 beats of a longer burst on a SPLIT port whose Basin is ON, else all of it (R664). -/
def State.grant (s : State) (r : BusReq) : BusReq × Option BusReq :=
  let t := s.portOf r
  if r.beats > 16 && decide (t < 8) && !s.rbit Reg.matrixPolicy t && (s.basinAt r).isSome then
    ({ r with beats := 16, data := r.data.take (16 * r.size) },
     some { r with addr := r.addr + 16 * r.size, beats := r.beats - 16, data := r.data.drop (16 * r.size) })
  else (r, none)

/-- The first response that is not good stands; data follow one another. -/
def BusResp.join (a b : BusResp) : BusResp :=
  if a.status ≠ .ok then a else if b.status ≠ .ok then b else { status := .ok, data := a.data ++ b.data }

/-- A request is performed, with what the Basin's other port does meanwhile; none for the response of one that a port now holds. -/
def State.perform1 (s : State) (r : BusReq) (l : List PortUse) : State × List PortUse × Option BusResp :=
  let (t, l) := match s.basinAt r with
    | some b => s.meet { r with addr := s.unalias r.addr } b (fun u => u.matrix r) l
    | none => (s.matrix r, l)
  (t, l, if t.held.length > s.held.length then none else some t.bus)

/-- The response of a transaction, by its place in the row. -/
def State.answer1 (s : State) (place : Nat) (r : BusResp) : State := { s with bus := r, answers := s.answers ++ [(place, r)] }

/-- The requests that reach the matrix together, granted one after another; the fuel bounds the number of grants. While one is served the others
at its port wait one cycle a beat (DESIGN CHOICE, log entry 201). -/
def State.arbitrate (s : State) (q : List Arb) (l : List PortUse) : Nat → State
  | 0 => s.restOfPorts l
  | n + 1 =>
    match s.pick q with
    | none => s.restOfPorts l
    | some x =>
      let rest := q.filter fun y => y.place != x.place
      let t := s.portOf x.req
      if s.holdsBack t x.req then { s with atPort := s.atPort ++ [x.req] }.arbitrate rest l n
      else if s.keepsPath t x.req then
        { s with paths := s.paths.filter (fun (y : Nat × BusReq) => !BusReq.same y.2 x.req) ++ [(t, x.req)] }.arbitrate rest l n
      else
        let s := { s with paths := s.paths.filter fun (y : Nat × BusReq) => !BusReq.same y.2 x.req }
        let (now, later) := s.grant x.req
        let rest := rest.map fun y => if s.portOf y.req = t then { y with req := { y.req with waited := y.req.waited + now.beats } } else y
        match s.perform1 now l with
        | (u, l, none) => u.arbitrate rest l n
        | (u, l, some a) =>
          let a := BusResp.join x.resp a
          match later with
          | some r => u.arbitrate (rest ++ [{ x with req := r, resp := a }]) l n
          | none => (u.answer1 x.place a).arbitrate rest l n

/-- Enough grants for every 16 beats of the requests. -/
def arbFuel (l : List BusReq) : Nat := l.foldl (fun n r => n + r.beats / 16 + 1) 0

/-- The requests that wait at their master ports try again, in their order, once a place or a path is free. -/
def State.retryPorts (s : State) : State :=
  s.atPort.foldl (fun (t : State) (r : BusReq) => t.arbitrate [{ place := 0, req := r }] [] (arbFuel [r])) { s with atPort := [] }

/-- MATRIX_REQUEST: a request, the others that reach the matrix in its cycle, and what the other ports of the Basins do from the cycle on in which
the first access is made. -/
def execMatrixRequest (r : BusReq) (also : List BusReq) (other : List PortUse) (s : State) : Out :=
  let l := r :: also
  .next (({ s with answers := [] }.arbitrate (l.zipIdx.map fun (x : BusReq × Nat) => ({ place := x.2, req := x.1 } : Arb)) other (arbFuel l)).retryPorts)

/-- HOLD_LEASE_EXPIRY (R665): the matrix ends the burst with an error to the holder, and the holder is fenced with lease code 1; the path is
free. -/
def execHoldLeaseExpiry (master port addr : Nat) (s : State) : Out :=
  let who : Initiator := { master := master }
  .next (if port > 7 || !s.rbit Reg.matrixPolicy port then s
    else
      let t := { s with paths := s.paths.filter fun (x : Nat × BusReq) => !(x.1 == port && x.2.who.master == master) }
      (((t.matrixErr who 4 port addr).busAnswer who .error).fence (masterDomain master) 1 port addr).retryPorts)

/-- BASIN_CLEAR_DONE (R139, R140, R169, R770, Table BOT-3 steps 2 and 3): Basins 0 to 3 are zero, and accesses that waited proceed. The ROM
writes the POR entry after AON_LOST and records a reserved strap value (DESIGN CHOICE, log entry 168: here), and reads OTP; when that read
fails it treats every key as revoked (R172). The watchdog starts, except where the ROM now waits for a host (R154). -/
def execBasinClearDone (otpOk : Bool) (s : State) : Out :=
  .next (if s.boot.held || s.boot.basins then s
    else
      let t := s.basinsClear.retryPorts
      let t := if t.rbit Reg.supmonAonStatus 2 && t.fld Reg.sysctlResetCause 3 0 == Cause.por then t.bbrA 0x010 0 0x01 0 else t
      let t := if t.boot.mode = 3 then t.bbrA 0x041 1 0x01 3 else t
      let t := t.setRbit Reg.otpStatus (if otpOk then 0 else 2) true
      if t.flashBoot then t.startWdt
      else
        let t := { t with host := { t.host with bootWait := true } }
        if t.boot.mode = 1 then t.setRbit Reg.sysctlBootStatus 17 true else t)

end Sys2Proof.Machine
end

