-- ==== Sys2Proof/Machine/Mesh.lean ====
section
/-! DEFINITION. Packets in the Fairway mesh: their flits, X-then-Y routes, input buffers with credits, and the grants of output ports (R696 to R702). -/

namespace Sys2Proof.Machine

/-! ### Flits (R696 to R698) -/

/-- Whether a packet carries data: a WRITE or an RSP_DATA. -/
def FwPacket.carries (p : FwPacket) : Bool := p.kind == 2 || p.kind == 8

/-- The bytes that a packet reads, writes or returns. -/
def FwPacket.size (p : FwPacket) : Nat := if FwPacket.carries p then p.data.length else p.length

/-- The data beats of a number of bytes: at least one. -/
def beatsOf (n : Nat) : Nat := max 1 ((n + 7) / 8)

/-- The four 32-bit words of a packet's head flit (Table FWY-2). -/
def headWords (p : FwPacket) : List Word :=
  let n := FwPacket.size p
  let beats := beatsOf n
  let size := if n = 1 then 0 else if n = 2 then 1 else if n = 4 then 2 else 3
  let en := if beats > 1 then 255 else ((2 ^ min 8 n - 1) * 2 ^ (p.addr % 8)) % 256
  [BitVec.ofNat 32 (p.dst % 16 + 16 * (p.src % 16) + 256 * (p.qos % 16) + 4096 * (p.kind % 16) + 65536 * p.bulk.toNat + 131072 * size +
     524288 * ((beats - 1) % 64)),
   BitVec.ofNat 32 (p.tid % 256 + 256 * (p.epoch % 16) + 4096 * (p.status % 16) + 65536 * en),
   BitVec.ofNat 32 p.addr, BitVec.ofNat 32 (p.allowNs % 65536)]

/-- The body flits of data: two beats each, the last one filled up with 0 (R697). -/
def bodyFlits (d : Bytes) : List Bytes := (List.range ((beatsOf d.length + 1) / 2)).map fun i => ((d.drop (16 * i)).take 16 ++ zeros 16).take 16

/-- The flits of a packet, 16 little-endian bytes each: head, body, and the trailer of a BULK packet with the CRC-32 of the others (R697). -/
def FwPacket.flits (p : FwPacket) : List Bytes :=
  let l := (headWords p).flatMap (fun w => leBytes 4 w.toNat) :: (if FwPacket.carries p then bodyFlits p.data else [])
  if p.bulk then l ++ [leBytes 4 (crc32 l.flatten).toNat ++ zeros 12] else l

/-- The flits that an initiator reserves for the response to a request (R703). -/
def FwPacket.reserve (p : FwPacket) : Nat := if p.kind = 1 then 1 + (beatsOf p.length + 1) / 2 + p.bulk.toNat else 1

/-! ### Routes (R699) -/

/-- The node after one on the way to another: along X first, then along Y. -/
def nextNode (a b : Nat) : Nat :=
  if a % 4 < b % 4 then a + 1 else if b % 4 < a % 4 then a - 1 else if a / 4 < b / 4 then a + 4 else if b / 4 < a / 4 then a - 4 else a

/-- `n` steps of a route. -/
def routeFrom (a b : Nat) : Nat → List Nat
  | 0 => [a]
  | n + 1 => a :: routeFrom (nextNode a b) b n

/-- The hop count of two nodes. -/
def hops (a b : Nat) : Nat := (max (a % 4) (b % 4) - min (a % 4) (b % 4)) + (max (a / 4) (b / 4) - min (a / 4) (b / 4))

/-- The nodes that a packet passes, its source and its destination among them. -/
def route (a b : Nat) : List Nat := routeFrom (a % 16) (b % 16) (hops (a % 16) (b % 16))

/-! ### Buffers, credits and grants (R700, R702) -/

/-- A packet on its way: its place among those injected together, its nodes, its channel, its flits, its QoS, the cycles that its head has waited,
the flits that have left each node and the cycle in which the first of them did, the output ports that it has been granted, and the cycles in
which its head and its last flit reach the endpoint. -/
structure Worm where
  place : Nat
  path : List Nat
  rsp : Bool
  flits : Nat
  qos : Nat
  wait : Nat := 0
  sent : List Nat
  since : List Nat
  own : List Bool
  head : Option Nat := none
  last : Option Nat := none
deriving DecidableEq, Repr

/-- A packet at its injection. -/
def worm (place : Nat) (p : FwPacket) : Worm :=
  let path := route p.src p.dst
  { place := place, path := path, rsp := decide (8 ≤ p.kind), flits := (FwPacket.flits p).length, qos := p.qos, wait := p.waited,
    sent := path.map fun _ => 0, since := path.map fun _ => 0, own := path.map fun _ => false }

/-- Flits that have left the node at a place of the path. -/
def Worm.out (w : Worm) (i : Nat) : Nat := w.sent.getD i 0

/-- Flits that have come to the node at a place of the path. -/
def Worm.came (w : Worm) (i : Nat) : Nat := if i = 0 then w.flits else Worm.out w (i - 1)

/-- The output port that a packet uses at a place of its path: the node and the next one, the node itself for its endpoint. -/
def Worm.port (w : Worm) (i : Nat) : Nat × Nat := (w.path.getD i 0, w.path.getD (i + 1) (w.path.getD i 0))

/-- The input port by which it comes there: the node and the one before, the node itself for local injection. -/
def Worm.input (w : Worm) (i : Nat) : Nat × Nat := (w.path.getD i 0, if i = 0 then w.path.getD 0 0 else w.path.getD (i - 1) 0)

/-- The number of an input port in the order local, north, east, south, west. -/
def inputRank (n before : Nat) : Nat := if before = n then 0 else if before + 4 = n then 1 else if before = n + 1 then 2 else if before = n + 4 then 3 else 4

/-- The places of a path. -/
def Worm.places (w : Worm) : List Nat := List.range w.path.length

/-- Whether another packet stands before this one in the input buffer of a place: it came first and has not left. -/
def Worm.behind (w : Worm) (i : Nat) (x : Worm) : Bool :=
  x.rsp == w.rsp && (Worm.places x).any fun j => Worm.input x j == Worm.input w i && decide (Worm.out x j < x.flits) && decide (0 < Worm.came x j) &&
    (if i = 0 then j == 0 && decide (x.place < w.place) else decide (0 < j) && decide (x.since.getD (j - 1) 0 < w.since.getD (i - 1) 0))

/-- Whether a packet's head waits at a place for the output port. -/
def Worm.headAt (w : Worm) (i : Nat) (all : List Worm) : Bool :=
  !w.own.getD i false && Worm.out w i == 0 && decide (0 < Worm.came w i) && !all.any fun x => Worm.behind w i x

/-- Whether an output port's channel is taken by a packet whose last flit has not passed. -/
def portTaken (all : List Worm) (rsp : Bool) (port : Nat × Nat) : Bool :=
  all.any fun x => x.rsp == rsp && (Worm.places x).any fun j => Worm.port x j == port && x.own.getD j false && decide (Worm.out x j < x.flits)

/-- The effective QoS of a packet. -/
def Worm.effQos (w : Worm) : Nat := if w.wait ≥ 256 then 15 else w.qos

/-- Whether one head is granted before another at their output port. -/
def headBefore (a b : Worm × Nat) : Bool :=
  let ra := inputRank (Worm.input a.1 a.2).1 (Worm.input a.1 a.2).2
  let rb := inputRank (Worm.input b.1 b.2).1 (Worm.input b.1 b.2).2
  if Worm.effQos a.1 ≠ Worm.effQos b.1 then decide (Worm.effQos b.1 < Worm.effQos a.1)
  else if a.1.wait ≠ b.1.wait then decide (b.1.wait < a.1.wait)
  else decide (ra < rb)

/-- The grants of a cycle: each free output port's channel goes to the first of the heads that wait for it. -/
def grantPorts (all : List Worm) : List Worm :=
  let heads := all.flatMap fun w => ((Worm.places w).filter fun i => Worm.headAt w i all).map fun i => (w, i)
  let wins (h : Worm × Nat) : Bool := !portTaken all h.1.rsp (Worm.port h.1 h.2) &&
    !heads.any fun x => x.1.place != h.1.place && x.1.rsp == h.1.rsp && Worm.port x.1 x.2 == Worm.port h.1 h.2 &&
      (headBefore x h || (!headBefore h x && decide (x.1.place < h.1.place)))
  heads.foldl (fun (l : List Worm) h =>
    if wins h then l.map fun w => if w.place = h.1.place then { w with own := w.own.set h.2 true } else w
    else l.map fun w => if w.place = h.1.place then { w with wait := w.wait + 1 } else w) all

/-- The flits of one channel in the input buffer that a place of a path leads into. -/
def nextBuffer (all : List Worm) (w : Worm) (i : Nat) : Nat :=
  all.foldl (fun n x => if x.rsp != w.rsp then n else (Worm.places x).foldl (fun n j =>
    if 0 < j && Worm.input x j == Worm.input w (i + 1) then n + (Worm.came x j - Worm.out x j) else n) n) 0

/-- Whether a flit is ready to leave a place: it is there, the port is the packet's, and the next buffer has one of its 4 places free; an endpoint
takes every flit. -/
def Worm.ready (w : Worm) (i : Nat) (all : List Worm) : Bool :=
  w.own.getD i false && decide (Worm.out w i < Worm.came w i) && (i + 1 == w.path.length || decide (nextBuffer all w i < 4))

/-- Whether a flit leaves a place in this cycle: a REQ flit only when no RSP flit is ready for the link. -/
def Worm.moves (w : Worm) (i : Nat) (all : List Worm) : Bool :=
  Worm.ready w i all && (w.rsp || !all.any fun x => x.rsp && (Worm.places x).any fun j => Worm.port x j == Worm.port w i && Worm.ready x j all)

/-- One SYS cycle of the mesh. -/
def meshCycle (c : Nat) (all0 : List Worm) : List Worm :=
  let all := grantPorts all0
  all.map fun w =>
    let sent := (Worm.places w).map fun i => Worm.out w i + (Worm.moves w i all).toNat
    let since := (Worm.places w).map fun i => if Worm.out w i = 0 && 0 < sent.getD i 0 then c else w.since.getD i 0
    let k := w.path.length - 1
    { w with sent := sent, since := since, head := if w.head.isNone && decide (0 < sent.getD k 0) then some (c + 1) else w.head,
             last := if w.last.isNone && decide (w.flits ≤ sent.getD k 0) then some (c + 1) else w.last }

/-- The mesh from a cycle on, until every packet has arrived. -/
def runMesh (all : List Worm) (c : Nat) : Nat → List Worm
  | 0 => all
  | n + 1 => if all.all fun w => w.last.isSome then all else runMesh (meshCycle c all) (c + 1) n

/-- Enough cycles for the packets: each flit of each passes at most 7 nodes, one packet after another. -/
def meshFuel (l : List Worm) : Nat := l.foldl (fun n w => n + 8 * w.flits + 16) 64

/-- The packets injected in SYS cycle 0, as they arrive: their places in the order of their last flits, with the cycles in which their heads and
their last flits reach the endpoint. -/
def arrivals (l : List FwPacket) : List (Nat × Nat × Nat) :=
  let ws := l.zipIdx.map fun (x : FwPacket × Nat) => worm x.2 x.1
  ((runMesh ws 1 (meshFuel ws)).map fun w => (w.place, w.head.getD 0, w.last.getD 0)).mergeSort fun a b => decide (a.2.2 < b.2.2) || (a.2.2 == b.2.2 && decide (a.1 ≤ b.1))

end Sys2Proof.Machine
end

