-- ==== Sys2Proof/Machine/Fairway.lean ====
section
/-! DEFINITION. The Fairway: requests at their endpoints, wake buffers, responses, timeouts, fences at nodes, the trace (chapter 19). -/

namespace Sys2Proof.Machine

/-! ### Nodes (Table FWY-1) -/

/-- The endpoints that an initiator may address. -/
def fwTargets : Nat → List Nat
  | 0 => [1, 8, 11]
  | 6 => [1]
  | 7 => [1]
  | 8 => [0]
  | 9 => [0, 1]
  | 10 => [0]
  | 12 => [0, 1, 2, 3, 4, 5, 13]
  | 14 => [0, 1, 13]
  | _ => []

/-- The number of TIDs of an initiator. -/
def fwTids : Nat → Nat
  | 0 => 16
  | 6 => 8
  | 7 => 8
  | 8 => 16
  | 9 => 8
  | 10 => 4
  | 12 => 4
  | 14 => 8
  | _ => 0

/-- The containment domain whose response lease an endpoint's silence ends (Table FLT-5). -/
def endpointDomain : Nat → Option Nat
  | 1 => some 3
  | 8 => some 7
  | _ => none

/-- The flits of an initiator's response buffer. -/
def fwBuffer : Nat → Nat
  | 0 => 96
  | 6 => 40
  | 7 => 40
  | 8 => 96
  | 9 => 24
  | 10 => 68
  | 12 => 12
  | 14 => 68
  | _ => 0

/-- A head that node 15's trace matches is captured; the ring of 256 drops its oldest head when it is full. -/
def State.capture (s : State) (p : FwPacket) : State :=
  let m := s.reg Reg.fairwayTraceMatch
  if bit m 31 && (bit m 8 || bits m 3 0 == p.src) && (bit m 9 || bits m 7 4 == p.dst) then
    if s.fw.trace.length ≥ 256 then { s with fw := { s.fw with trace := s.fw.trace.drop 1 ++ [headWords p], tracePos := 0 } }
    else { s with fw := { s.fw with trace := s.fw.trace ++ [headWords p] } }
  else s

/-- An error event recorded: its bit, and FAIRWAY_LAST_ERR. -/
def State.fwEvent (s : State) (bitNo node dst status tid : Nat) : State :=
  (s.setRbit Reg.fairwayEvents bitNo true).setReg Reg.fairwayLastErr
    (BitVec.ofNat 32 (node % 16 + 16 * (dst % 16) + 256 * (status % 16) + 4096 * (tid % 256)))

/-- A count of a node: register 0 A, 1 B, 2 C; the low or the high half. -/
def State.fwCount (s : State) (node word : Nat) (high : Bool) : State :=
  let a := [Reg.fairwayCntA, Reg.fairwayCntB, Reg.fairwayCntC].getD word Reg.fairwayCntA + 16 * node
  if high then s.addFld a 31 16 1 else s.addFld a 15 0 1

/-- A transaction completes at its initiator. -/
def State.fwComplete (s : State) (node tid status : Nat) (data : Bytes := []) : State :=
  { s with fw := { s.fw with tids := Store.erase s.fw.tids (256 * node + tid), last := some { node := node, tid := tid, status := status, data := data } } }

/-- A response sent on the RSP channel. -/
def State.respond (s : State) (p : FwPacket) (kind status : Nat) (data : Bytes := []) (allow : Nat := 0) : State :=
  let r : FwPacket := { dst := p.src, src := p.dst, kind := kind, qos := p.qos, tid := p.tid, epoch := p.epoch, status := status,
                        addr := 0, length := data.length, data := data, allowNs := allow, bulk := p.bulk }
  { s with fw := { s.fw with responses := s.fw.responses ++ [r] } }

/-! ### Endpoints -/

/-- The bus request that a packet asks for. -/
def fwBus (who : Initiator) (p : FwPacket) : BusReq :=
  let n := if p.kind = 2 then p.data.length else p.length
  { who := who, addr := p.addr, write := p.kind == 2, size := if n > 8 then 8 else n, beats := if n > 8 then n / 8 else 1, data := p.data, qos := p.qos }

/-- The response to an access that the bus answered: data, an acknowledgement, or the status of Table FWY-3. -/
def State.respondBus (s : State) (p : FwPacket) : State :=
  match s.bus.status with
  | .ok => if p.kind = 2 then s.respond p 9 0 else s.respond p 8 0 s.bus.data
  | .error => s.respond p 9 2
  | .fenced => s.respond p 9 5
  | .ecc | .parity => s.respond p 9 3

/-- A Basin access at a node, with what the Basin's other port does meanwhile. -/
def State.nodeBasin (s : State) (p : FwPacket) (b : Nat) (other : List PortUse) : State :=
  let r := fwBus { master := 3, node := p.src } p
  if s.basinState b = 2 then (s.respond p 9 3).restOfPorts other
  else if !formOk 5 r || decide (p.addr + BusReq.len r > basinBase b + basinSize b) then (s.respond p 9 2).restOfPorts other
  else
    let (t, l) := s.meet r b (fun u => u.basinDo r b p.addr) other
    (t.respondBus p).restOfPorts l

/-- A request to a domain whose clock is lost ends with ERR_TIMEOUT; the data of a write are discarded and counted (R117, Table CLK-6). -/
def State.lostTarget (s : State) (p : FwPacket) : State := (if p.kind = 2 then s.dcqDrop 1 else s).respond p 9 7

/-- What an endpoint that is awake answers: node 0 through M3, node 1 Basin 2 and the Plain window, nodes 2 to 5 the field control, whose
registers the spec does not give, node 8 host memory, node 11 the Slipway window, node 13 Basin 4, read only. -/
def State.perform (s : State) (p : FwPacket) (other : List PortUse) : State :=
  let r := fwBus { master := if p.src = 0 then 1 else 3, node := p.src } p
  if p.dst = 0 then (s.matrix r).respondBus p
  else if p.dst = 1 then
    if basinOf p.addr = some 2 then s.nodeBasin p 2 other
    else if decide (0x30000000 ≤ p.addr) && decide (p.addr < 0x31000000) then
      (if s.lostClocks.testBit 0 then s.lostTarget p
      else if s.reclaim.inReset.contains 2 then s.respond p 9 2
      else (s.windowAccess r).respondBus p)
    else s.respond p 9 1
  else if 2 ≤ p.dst ∧ p.dst ≤ 5 then
    if s.lostClocks.testBit 0 then s.lostTarget p
    else if s.reclaim.inReset.contains 2 then s.respond p 9 2
    else if p.kind = 2 then s.respond p 9 0
    else { s with freeCtr := s.freeCtr + p.length }.respond p 8 0 (freeBytes s.freeCtr p.length)
  else if p.dst = 8 then
    if s.lostClocks.testBit 5 then s.lostTarget p else (s.outbound r).respondBus p
  else if p.dst = 11 then
    if s.lostClocks.testBit 8 then s.lostTarget p else (s.slipWindow r).respondBus p
  else if p.dst = 13 then
    if p.kind = 2 then s.respond p 9 2 else s.nodeBasin p 4 other
  else s.respond p 9 1

/-- The allowance of a field that is not ON (Table FWY-4), with the wake that is requested. -/
def State.fieldAsleep (s : State) (f : Nat) : Option (Nat × State) :=
  if s.rbit Reg.sysctlPlainFail f then none
  else match s.plain.power.getD f .on with
  | .on => none
  | .ret => some (1500, s.wakeField f)
  | .off => some (40000 * (1 + (s.plain.waking.filter fun x => x.2 && x.1 != f).length / 4), s.wakeField f)

/-- The allowance of a sleeping domain that a packet addresses (Table FWY-4), with the wake that is requested. -/
def State.asleep (s : State) (p : FwPacket) : Option (Nat × State) :=
  if p.dst ≤ 1 then
    match basinOf (s.unalias p.addr) with
    | some b => if s.basinState b = 1 then some (2000, s.wakeBasin b) else none
    | none =>
      if p.dst = 1 && decide (0x30000000 ≤ p.addr) && decide (p.addr < 0x31000000) && s.arrUp && !s.inWindow then
        s.fieldAsleep (fieldOf ((p.addr - 0x30000000) / 1024))
      else none
  else if p.dst ≤ 5 && s.arrUp then
    s.fieldAsleep (4 * (p.dst - 2) + Config.fieldControl p.addr % 4)
  else none

/-- The node of its route at which a packet meets an uncorrectable error: the one that it names, or its end. -/
def FwPacket.errNode (p : FwPacket) : Nat :=
  match p.errAt with
  | some n => if (route p.src p.dst).contains n then n else p.dst
  | none => p.dst

/-- What the nodes on a packet's way record: the single-bit errors that they correct; a head in error, whose packet they discard; a body flit in
error, with which they poison the rest (R706). -/
def State.onTheWay (s : State) (p : FwPacket) : State :=
  let t := (p.corrected.filter fun n => (route p.src p.dst).contains n).foldl (fun (t : State) n => (t.fwCount n 0 false).fwEvent 0 n p.dst 0 p.tid) s
  let n := FwPacket.errNode p
  if p.headUe then (t.fwCount n 0 true).fwEvent 1 n p.dst 0 0
  else if p.poisoned then (t.fwCount n 1 false).fwEvent 2 n p.dst 3 p.tid
  else t

/-- A request at its endpoint: errors on its way, a fence, a bad head, a sleeping domain, or the access (R696, R706, R707, R713, R715, R718). -/
def State.serveRequest (s0 : State) (p : FwPacket) (other : List PortUse) : State :=
  let s := s0.onTheWay p
  if p.headUe then s
  else if p.reserved || !(p.kind == 1 || p.kind == 2) then s.respond p 9 1
  else if s.rbit Reg.fairwayFence (16 + p.dst) then (s.respond p 9 5).fwEvent 7 p.dst p.dst 5 p.tid
  else if p.poisoned then s.respond p 9 3
  else if p.bulk && p.crcBad then ((s.fwCount p.dst 1 true).fwEvent 3 p.dst p.dst 4 p.tid).respond p 9 4
  else if s.portLocked && p.dst == 1 && basinOf p.addr == some 2 then { s with fw := { s.fw with parked := s.fw.parked ++ [p] } }
  else match s.asleep p with
  | none => s.perform p other
  | some (allow, t) =>
    if (Store.find? t.fw.wake p.dst).isSome then (t.respond p 9 6 [] allow).fwEvent 6 p.dst p.dst 6 p.tid
    else { t with fw := { t.fw with wake := Store.insert t.fw.wake p.dst p } }.respond p 0xA 0 [] allow

/-- The request in a node's wake buffer is performed once its domain is ON. -/
def State.serveWake (s : State) (node : Nat) : State :=
  match Store.find? s.fw.wake node with
  | none => s
  | some p => if (s.asleep p).isSome then s else { s with fw := { s.fw with wake := Store.erase s.fw.wake node } }.perform p []

/-- Flits of an initiator's response buffer that its outstanding transactions have reserved (R703). -/
def State.reserved (s : State) (node : Nat) : Nat :=
  s.fw.tids.foldl (fun n (x : Nat × FwTid) => if x.1 / 256 = node then n + FwPacket.reserve x.2.req else n) 0

/-- The QoS of a request: carried by node 0, else that of FAIRWAY_QOS (R701). -/
def State.fwQos (s : State) (p : FwPacket) : Nat :=
  if p.src = 0 then p.qos else s.fld (Reg.fairwayQosLo + 4 * (p.src / 8)) (4 * (p.src % 8) + 3) (4 * (p.src % 8))

/-- A unit's request at its own node, which answers what it does not inject: FENCED, or DECODE for a destination that it does not list (R695,
R717). A request with a TID that is in use or in quarantine does nothing, and one for whose response there is no space waits (R703). -/
def State.inject (s : State) (p : FwPacket) : State × Option FwPacket :=
  let busy := (Store.find? s.fw.tids (256 * p.src + p.tid)).isSome || s.fw.quarantine.contains (p.src, p.tid) || decide (p.tid ≥ fwTids p.src)
  if s.rbit Reg.fairwayFence p.src && decide (p.src < 16) then ((s.fwComplete p.src p.tid 5).fwEvent 7 p.src p.dst 5 p.tid, none)
  else if !(fwTargets p.src).contains p.dst then (s.fwComplete p.src p.tid 1, none)
  else if busy then (s, none)
  else if s.reserved p.src + FwPacket.reserve p > fwBuffer p.src then ({ s with fw := { s.fw with waiting := s.fw.waiting ++ [p] } }, none)
  else
    let q := { p with qos := s.fwQos p, epoch := s.epoch p.src, status := 0, allowNs := 0 }
    ({ s with fw := { s.fw with tids := Store.insert s.fw.tids (256 * p.src + p.tid) { req := q } } }.capture q, some q)

/-! ### Initiators (R704, R709 to R715) -/

/-- The outstanding transaction that a response names by TID and EPOCH. -/
def State.outstanding (s : State) (p : FwPacket) : Option FwTid :=
  match Store.find? s.fw.tids (256 * p.dst + p.tid) with
  | some x => if x.req.epoch = p.epoch then some x else none
  | none => none

/-- A transaction's record set. -/
def State.setTid (s : State) (p : FwPacket) (x : FwTid) : State :=
  { s with fw := { s.fw with tids := Store.insert s.fw.tids (256 * p.dst + p.tid) x } }

/-- WAKING: the timer of an outstanding transaction is extended; any other notice is discarded (R714). -/
def State.takeWaking (s : State) (p : FwPacket) : State :=
  match s.outstanding p with
  | some x => s.setTid p { x with extNs := x.extNs + p.allowNs }
  | none => s

/-- A response leaves the RSP channel. -/
def State.takeRsp (s : State) (p : FwPacket) : State := { s with fw := { s.fw with responses := s.fw.responses.erase p } }

/-- A response at its initiator: it completes its transaction, or is discarded: at a fenced initiator, or late (R704, R707, R715, R717). -/
def State.takeResponse (s : State) (p : FwPacket) : State :=
  let t := (((s.takeRsp p).capture p).onTheWay p)
  if p.dst ≥ 16 || p.headUe || t.rbit Reg.fairwayFence p.dst then t
  else if p.kind = 0xA then t.takeWaking p
  else match t.outstanding p with
  | none => (t.fwCount p.dst 2 true).fwEvent 5 p.dst p.dst p.status p.tid
  | some x =>
    if p.poisoned then t.fwComplete p.dst p.tid 3
    else if p.bulk && p.crcBad then ((t.fwCount p.dst 1 true).fwEvent 3 p.dst p.dst 4 p.tid).fwComplete p.dst p.tid 4
    else if p.status = 6 then
      (if x.retries ≥ 3 then t.fwComplete p.dst p.tid 7
      else t.setTid p { x with retries := x.retries + 1, extNs := x.extNs + p.allowNs })
    else t.fwComplete p.dst p.tid p.status (if p.status = 0 then p.data else [])

/-- A packet at the end of its route. -/
def State.arrive1 (s : State) (p : FwPacket) (other : List PortUse) : State :=
  if 8 ≤ p.kind then s.takeResponse p else s.serveRequest p other

/-- Packets that enter the mesh in one SYS cycle: requests that their nodes inject, and responses. They act in the order in which they arrive; what
the other port of Basin 2 does goes with the first (R699, R700, R702). -/
def State.travel (s : State) (l : List FwPacket) (other : List PortUse) : State :=
  let (t, ps) := l.foldl (fun (x : State × List FwPacket) p =>
    if 8 ≤ p.kind then (x.1, x.2 ++ [p])
    else match x.1.inject p with
      | (u, some q) => (u, x.2 ++ [q])
      | (u, none) => (u, x.2)) (s, [])
  let order := arrivals ps
  let t := { t with fw := { t.fw with arrived := order.map fun x => ((ps[x.1]?.map fun p => p.src).getD 0, x.2.1, x.2.2) } }
  (order.foldl (fun (x : State × List PortUse) o =>
    match ps[o.1]? with
    | some p => (x.1.arrive1 p x.2, [])
    | none => x) (t, other)).1

/-- The requests that wait for response space try again, in their order (R703). -/
def State.injectWaiting (s : State) : State :=
  s.fw.waiting.foldl (fun (t : State) p => t.travel [p] []) { s with fw := { s.fw with waiting := [] } }

/-- FAIRWAY_REQUEST: a unit's request with a TID, the packets that enter the mesh in the same SYS cycle, and what the other port of a Basin that
the first arrival reaches does meanwhile. -/
def execFairwayRequest (p : FwPacket) (also : List FwPacket) (other : List PortUse) (s : State) : Out :=
  .next (s.travel (p :: also) other).injectWaiting

/-- FAIRWAY_RESPONSE. -/
def execFairwayResponse (p : FwPacket) (s : State) : Out := .next (s.takeResponse p).injectWaiting


/-- WAKING. -/
def execWaking (p : FwPacket) (s : State) : Out := .next ((s.takeRsp p).takeWaking p)

/-- WAKE_RETRY: the request of the transaction is issued again, unchanged (R715). -/
def execWakeRetry (p : FwPacket) (s : State) : Out :=
  .next (match s.outstanding p with
    | some x => if x.retries = 0 then s else (s.capture x.req).serveRequest x.req []
    | none => s)

/-- FAIRWAY_TIMEOUT (R709, R710, R857). -/
def execFairwayTimeout (node tid : Nat) (s : State) : Out :=
  .next (match Store.find? s.fw.tids (256 * node + tid) with
    | none => s
    | some x =>
      let t := ((s.fwComplete node tid 7).nextEpoch node).fwCount node 2 false
      let t := { t with fw := { t.fw with quarantine := t.fw.quarantine ++ [(node, tid)] } }.fwEvent 4 node x.req.dst 7 tid
      (match endpointDomain x.req.dst with
      | some d => t.fence d 2 x.req.dst tid
      | none => t).injectWaiting)

/-- TID_QUARANTINE_END (R710). -/
def execTidQuarantineEnd (node tid : Nat) (s : State) : Out :=
  .next { s with fw := { s.fw with quarantine := s.fw.quarantine.filter fun x => x != (node, tid) } }

/-! ### Wakes that Fairway requests wait for -/

/-- BASIN_WAKE_DONE (R685 to R687, R713): held accesses of the port, then the wake buffers of the nodes in front of the Basins. -/
def execBasinWakeDone (basin : Nat) (s : State) : Out := .next (if basin ≥ 4 then s else ((s.basinUp basin).retryPorts.serveWake 0).serveWake 1)

/-- FIELD_WAKE_DONE (R77, R462, R472): of the fields that wake from OFF only the first four have started. Requests in the wake buffers of the nodes
in front of the fields are then performed (R713); those for the Plain window wait for a Quay slot (R583). -/
def execFieldWakeDone (field : Nat) (s : State) : Out :=
  .next (match s.plain.waking.find? fun w => w.1 == field with
    | none => s
    | some w =>
      if !w.2 || (((s.plain.waking.filter fun x => x.2).map fun x => x.1).take 4).contains field then
        [2, 3, 4, 5].foldl (fun (t : State) n => t.serveWake n) (s.fieldUp field w.2)
      else s)

/-- QUAY_SLOT: outside the foreground window; held window accesses, the request in node 1's wake buffer, then the next copy job. -/
def execQuaySlot (s : State) : Out := .next (if s.inWindow || !s.arrUp then s else s.quaySlot.retryPorts.serveWake 1)

end Sys2Proof.Machine
end

