-- ==== Sys2Proof/Machine/PortB.lean ====
section
/-! DEFINITION. Basin 2 port B: the queue controllers' accesses, their order, locked sequences, and collisions with port A (R798 to R801); the
commands that end a lock. -/

namespace Sys2Proof.Machine

/-! ### Access of one queue controller (R799, R800) -/

/-- One 64-bit access at port B, and what port A does meanwhile; a read that meets a write is made again (R681, R799). -/
def State.portB (s : State) (write : Bool) (a : Nat) (data : Bytes) (l : List PortUse) : State × List PortUse :=
  s.meet { who := { master := 3, node := 1 }, addr := a, write := write, size := 8, beats := 1, data := data } 2
    (fun u => if write then u.otherPort 2 { write := true, addr := a, data := data } else u) l

/-- A whole transfer of up to 16 words, to or from the controller's ring, which wraps (R799). -/
def State.qcMove (s : State) (qc : Nat) (words : List DWord) (l : List PortUse) : State × List PortUse :=
  if !s.qcLive qc || s.qcMode qc != 1 || s.qcSize qc == 0 || decide (words.length > 16) then (s, l)
  else
    let q := s.qc qc
    let from_ := s.rbit (Reg.slipctlQcCfg + 16 * qc) 2
    let at_ (i : Nat) : Nat := qcAddr (s.qcBase qc + (q.pos + 8 * i) % s.qcSize qc)
    let next := (q.pos + 8 * words.length) % s.qcSize qc
    let x := (words.zip (List.range words.length)).foldl (fun (x : State × List PortUse × List DWord) w =>
      let y := x.1.portB (!from_) (at_ w.2) (leBytes 8 w.1.toNat) x.2.1
      (y.1, y.2, x.2.2 ++ [BitVec.ofNat 64 (ofLe (Memory.readBytes y.1.mem (at_ w.2) 8))])) (s, l, [])
    let got := if from_ then x.2.2 else []
    let t := x.1.setQc qc { q with words := got, pos := next }
    (if from_ then t.setFld (Reg.slipctlQcStatus + 16 * qc) 15 1 got.length else t, x.2.1)

/-- The answer to a RAW access. -/
def State.qcAnswer (s : State) (qc : Nat) (error busy : Bool) (word : DWord) : State :=
  s.setQc qc { s.qc qc with error := error, busy := busy, word := word }

/-- A single 64-bit access within the controller's window; a locked sequence counts its accesses, at most 16. A fenced controller receives an
error. A read that meets a write answers B2_BUSY with undefined data, and the design reads again (R800). -/
def State.qcRaw (s : State) (qc : Nat) (write : Bool) (offset : Nat) (data : DWord) (locked : Bool) (l : List PortUse) : State × List PortUse :=
  let q := s.qc qc
  let a := qcAddr (s.qcBase qc + offset / 8 * 8)
  if qc ≥ 24 || !s.designRuns || s.qcMode qc != 3 then (s, l)
  else if !s.qcLive qc || decide (offset / 8 * 8 + 8 > s.qcSize qc) || (locked && decide (q.locked ≥ 16)) then (s.qcAnswer qc true false 0, l)
  else
    let t := s.setQc qc { q with locked := if locked then q.locked + 1 else 0 }
    let plain : State × List PortUse :=
      let x := t.portB write a (leBytes 8 data.toNat) l
      (x.1.qcAnswer qc false false (if write then 0 else BitVec.ofNat 64 (ofLe (Memory.readBytes x.1.mem a 8))), x.2)
    match l with
    | [] => plain
    | p :: r =>
      if !write && p.write && decide (p.addr / 8 = a / 8) then
        let u := (t.otherPort 2 p).collide 2 true
        (u.usedFree.usedFree.qcAnswer qc false true (BitVec.ofNat 64 (u.free.toNat + 4294967296 * u.usedFree.free.toNat)), r)
      else plain

/-- Words toward a lost SLIPn clock are discarded and counted (R117, R801). -/
def State.qcLost (s : State) (qc n : Nat) : State := (s.dcqDrop n).addFld (Reg.slipctlQcStatus + 16 * qc) 31 16 n

/-- One access performed. -/
def State.qcServe (s : State) (x : QcAccess) (l : List PortUse) : State × List PortUse :=
  match x.work with
  | .transfer words => if s.qcCut x.qc && decide (words.length ≤ 16) then (s.qcLost x.qc words.length, l) else s.qcMove x.qc words l
  | .raw write offset data locked => s.qcRaw x.qc write offset data locked l

/-! ### The order at port B (R798) -/

/-- The queue controller whose locked sequence holds port B. -/
def State.portHolder (s : State) : Option Nat := (List.find? (fun x : Nat × Qc => decide (0 < x.2.locked)) s.slip.qcs).map fun x => x.1

/-- The class of an access: waited 64 SYS cycles, IMAGE, QUEUE, RAW. -/
def State.portClass (s : State) (x : QcAccess) : Nat :=
  if x.waited ≥ 64 then 0 else match s.qcMode x.qc with
  | 2 => 1
  | 1 => 2
  | _ => 3

/-- The place of a controller in the round of its class. -/
def State.portTurn (s : State) (x : QcAccess) : Nat := (x.qc + 24 - s.slip.turns.getD (s.portClass x) 0 % 24) % 24

/-- Whether an access is granted before another. -/
def State.portBefore (s : State) (a b : QcAccess) : Bool :=
  decide (s.portClass a < s.portClass b) || (s.portClass a == s.portClass b && decide (s.portTurn a < s.portTurn b))

/-- The next access that port B grants. -/
def State.portPick (s : State) : List QcAccess → Option QcAccess
  | [] => none
  | x :: l => some (l.foldl (fun best y => if s.portBefore y best then y else best) x)

/-- The cycles that an access takes. -/
def QcAccess.cycles (x : QcAccess) : Nat :=
  match x.work with
  | .transfer words => words.length
  | .raw .. => 1

/-- The accesses that reach port B together, granted one after another; those of other controllers wait while a locked sequence holds the port. -/
def State.portRun (s : State) (q : List QcAccess) (l : List PortUse) : Nat → State
  | 0 => s.restOfPorts l
  | n + 1 =>
    match s.portPick q with
    | none => s.restOfPorts l
    | some x =>
      let rest := q.erase x
      if s.portHolder.any fun h => h != x.qc then { s with slip := { s.slip with portWait := s.slip.portWait ++ [x] } }.portRun rest l n
      else
        let t := { s with slip := { s.slip with turns := s.slip.turns.set (s.portClass x) (x.qc + 1) } }
        let y := t.qcServe x l
        y.1.portRun (rest.map fun z => { z with waited := z.waited + QcAccess.cycles x }) y.2 n

/-- Once no lock holds port B, the requests of Fairway node 1 that it held go on, then the controllers' accesses that waited (R798, R800). -/
def State.freePort (s : State) : State :=
  if s.portHolder.isSome then s
  else
    let t := s.fw.parked.foldl (fun (u : State) p => u.perform p []) { s with fw := { s.fw with parked := [] } }
    { t with slip := { t.slip with portWait := [] } }.portRun t.slip.portWait [] t.slip.portWait.length |>.retryPorts

/-- The accesses of queue controllers that reach port B in one cycle, with what port A does from then on. -/
def State.portAsk (s : State) (q : List QcAccess) (l : List PortUse) : State := (s.portRun q l q.length).freePort

/-- QC_TRANSFER (R798, R799, R801). -/
def execQcTransfer (qc : Nat) (words : List DWord) (also : List QcAccess) (other : List PortUse) (s : State) : Out :=
  .next (s.portAsk ({ qc := qc, work := .transfer words } :: also) other)

/-- QC_RAW_ACCESS (R798, R800). -/
def execQcRawAccess (qc : Nat) (write : Bool) (offset : Nat) (data : DWord) (locked : Bool) (also : List QcAccess) (other : List PortUse) (s : State) : Out :=
  .next (s.portAsk ({ qc := qc, work := .raw write offset data locked } :: also) other)

/-! ### Commands that end a lock -/

/-- SLIP_APPLY_START (R301, R812, R818, R819): an accepted apply whose COMMIT has passed, or the persisted image again after R818 or when
bracing ends; never while the warning holds. -/
def execSlipApplyStart (s : State) : Out :=
  .next (if s.warning || s.slip.applying.isSome || !s.ebbNow then s
    else match s.slip.waiting with
      | some w => if s.slip.applyArmed then (s.applyBegin w).freePort else s
      | none =>
        if s.slip.reapply then
          match s.persistedSlip with
          | some img => (s.applyBegin { image := img, persist := false, notify := none }).freePort
          | none => { s with slip := { s.slip with reapply := false } }
        else s)

/-- SLIP_APPLY_DONE (R301, R812): each block has been checked again as it was written; PERSIST writes the image afterwards. -/
def execSlipApplyDone (ok : Bool) (s : State) : Out :=
  .next (match s.slip.applying with
    | none => s
    | some w =>
      let good := ok && imageWhole w.image
      let t := { s with slip := { s.slip with applying := none } }
      let t := if good then (t.runDesign w.image).setRbit Reg.slipctlEvents 0 true
        else (t.blank 0).setRbit Reg.slipctlEvents 1 true
      let t := if good && w.persist then t.queueWrite (.persistSlip w.image) else t
      let t := match w.notify with
        | some n => t.emitCompletion n (if good then St.ok else St.slipTruncated) t.wc.cycle
        | none => t
      (t.releaseDeferred 15).freePort)

/-- QC_PORT_LEASE_EXPIRY (R800): the lock of a queue controller in RAW mode ends and it is fenced with lease code 4. -/
def execQcPortLeaseExpiry (qc : Nat) (s : State) : Out := .next (s.fence 10 4 qc 0).freePort

/-- FENCE_SEQUENCE: the operands are the domain, the lease code of RECLAIM_LAST, the resource and the low 16 bits of the address or TID. -/
def execFenceSequence (domain lease resource low : Nat) (s : State) : Out := .next (s.fence domain lease resource low).freePort

end Sys2Proof.Machine
end

