-- ==== Sys2Proof/Machine/Ports.lean ====
section
/-! DEFINITION. The serial and CAN stations on the wire, and the end of a flash operation (chapter 21, R772 to R794). -/

namespace Sys2Proof.Machine

/-! ### Points of serial and CAN stations -/

/-- The last value and quality of an IN point: the new one when this cycle has one. -/
def lastPoint (st : Station) (p : Nat) : Byte × Int := (Store.find? st.inbox p).getD (Store.get st.points p (0, 0))

/-- IN points become STALE and keep their last values (R777, R783). -/
def State.stalePorts (s : State) (id : Nat) (pts : List Nat) : State :=
  pts.foldl (fun (t : State) p =>
    let v := lastPoint (t.station id) p
    let u := t.putPoint id p (v.1 ||| 2) v.2
    u.setStation id { u.station id with pointUs := (t.station id).pointUs }) s

/-- The value and quality of a point: an unsigned value above 32,767 is stored as 32,767 with RANGE_HI (R777, R783). -/
def portValue (signed : Bool) (w n : Nat) : Byte × Int :=
  if signed then (1, toSigned w n) else if n > 32767 then (0x11, 32767) else (1, (n : Int))

/-- One more exchange completed since the gather deadline (R772, R774). -/
def State.portDone (s : State) (id : Nat) : State :=
  (s.setStation id { s.station id with nDone := (s.station id).nDone + 1 }).putStatus id

/-- One exchange failed (R774). -/
def State.portFailed (s : State) (id : Nat) : State := s.setStation id { s.station id with failed := true }

/-- Every output write of cycle `k` has completed: LAST_APPLIED is `k` when the gather deadline of `k` + 1 has not passed (R773). -/
def State.writesDone (s : State) (id k : Nat) : State :=
  if s.wc.running && !s.wc.gathered && s.wc.cycle.toNat == (k + 1) % 4294967296 then
    s.setStation id { s.station id with lastApplied := k }
  else s

/-! ### Modbus RTU (R781 to R783, R792) -/

/-- One byte into the CRC-16 of polynomial 0xA001, reflected. -/
def crc16Byte (c : BitVec 16) (b : Byte) : BitVec 16 :=
  (List.range 8).foldl (fun (x : BitVec 16) _ => if x.getLsbD 0 then (x >>> 1) ^^^ 0xA001 else x >>> 1) (c ^^^ b.setWidth 16)

/-- The CRC-16 of a string, initial value 0xFFFF. -/
def crc16 (b : Bytes) : BitVec 16 := b.foldl crc16Byte 0xFFFF

/-- A frame with its CRC, low byte first. -/
def withCrc16 (b : Bytes) : Bytes := b ++ leBytes 2 (crc16 b).toNat

/-- Whether a frame ends with its CRC. -/
def crc16Ok (b : Bytes) : Bool := decide (4 ≤ b.length) && b == withCrc16 (b.take (b.length - 2))

/-- The request of a poll for `n` registers from its register `f`. -/
def modbusRequest (id : Nat) (st : Station) (x : Nat × Nat × Nat) : Bytes :=
  let c := st.config
  let value (r : Nat) : Nat := (BitVec.ofInt 16 ((regValue id st x.1 r).getD 0)).toNat
  let vals := (List.range x.2.2).flatMap fun i => beBytes 2 (value (x.2.1 + i))
  let head := leBytes 1 (pollSlave c x.1) ++ leBytes 1 (pollFn c x.1) ++ beBytes 2 (pollStart c x.1 + x.2.1)
  withCrc16 (if pollFn c x.1 = 6 then head ++ vals
    else if pollFn c x.1 = 16 then head ++ beBytes 2 x.2.2 ++ leBytes 1 (2 * x.2.2) ++ vals
    else head ++ beBytes 2 x.2.2)

/-- A UART's line. -/
def State.uart (s : State) (n : Nat) : Uart := Store.get s.uarts n {}

/-- A UART's line set. -/
def State.setUart (s : State) (n : Nat) (u : Uart) : State := { s with uarts := Store.set s.uarts n u {} }

/-- Whether a UART serves a station in a mode: 1 MODBUS_RTU, 2 NMEA_0183. -/
def State.uartServes (s : State) (n mode : Nat) : Bool :=
  decide (n < 8) && s.rbit (Reg.uartCtrl + 256 * n) 0 && s.fld (Reg.uartCtrl + 256 * n) 2 1 == mode && !(s.station (112 + n)).config.isEmpty

/-- MODBUS_POLL_START (R782, R792): with no poll on the bus, the next write of the mark, else the next read poll in list order. -/
def execModbusPollStart (uart : Nat) (s : State) : Out :=
  let id := 112 + uart
  let u := s.uart uart
  let st := s.station id
  .next (if !s.uartServes uart 1 || u.inFlight.isSome then s
    else match u.writes with
      | x :: r => s.setUart uart { u with inFlight := some x, writes := r, out := u.out ++ [modbusRequest id st x] }
      | [] =>
        let reads := readPolls st.config
        match reads[u.nextRead % (max 1 reads.length)]? with
        | none => s
        | some p =>
          let x := (p, 0, pollCount st.config p)
          s.setUart uart { u with inFlight := some x, nextRead := (u.nextRead + 1) % reads.length, out := u.out ++ [modbusRequest id st x] })

/-- Whether a response completes a poll: the slave, the function, the CRC and the length agree (R781). -/
def modbusOk (c : Bytes) (x : Nat × Nat × Nat) (f : Bytes) : Bool :=
  crc16Ok f && u8 f 0 == pollSlave c x.1 && u8 f 1 == pollFn c x.1 &&
    (if pollWrites c x.1 then f.length == 8 else u8 f 2 == 2 * x.2.2 && f.length == 5 + 2 * x.2.2)

/-- The end of a poll; the last write of a mark completes the writes unless one failed (R773, R774). -/
def State.pollEnd (s : State) (uart : Nat) (x : Nat × Nat × Nat) (ok : Bool) : State :=
  let id := 112 + uart
  let u := s.uart uart
  let w := pollWrites (s.station id).config x.1
  let u := { u with inFlight := none, writeFailed := u.writeFailed || (w && !ok) }
  let t := (s.setUart uart u).raiseIrq (34 + uart)
  match u.writeCycle with
  | some k => if w && u.writes.isEmpty && !u.writeFailed then t.writesDone id k else t
  | none => t

/-- A poll fails: its IN points are STALE at once and the failure is counted (R783). -/
def State.pollFail (s : State) (uart : Nat) (x : Nat × Nat × Nat) : State :=
  let id := 112 + uart
  let c := (s.station id).config
  let pts := if pollWrites c x.1 then [] else (pollPoints id c x.1).map fun y => y.1
  (((s.addFld (Reg.uartErrors + 256 * uart) 15 0 1).stalePorts id pts).portFailed id).pollEnd uart x false

/-- A poll completes: fresh values with VALID set (R783). -/
def State.pollComplete (s : State) (uart : Nat) (x : Nat × Nat × Nat) (f : Bytes) : State :=
  let id := 112 + uart
  let c := (s.station id).config
  let pts := if pollWrites c x.1 then [] else pollPoints id c x.1
  let t := pts.foldl (fun (t : State) y =>
    let v := portValue (y.2.2 % 2 == 1) 16 (be16 f (3 + 2 * y.2.1))
    t.putPoint id y.1 v.1 v.2) s
  (t.portDone id).pollEnd uart x true

/-- MODBUS_RESPONSE (R781 to R783); one that arrives after its timeout is discarded. `lineOk` says that it came without a gap beyond the limit of
R781 and without a framing or parity error, which are counted. -/
def execModbusResponse (uart : Nat) (frame : Bytes) (lineOk : Bool) (s : State) : Out :=
  .next (if !s.uartServes uart 1 then s
    else match (s.uart uart).inFlight with
      | none => s
      | some x =>
        if !lineOk then (s.addFld (Reg.uartErrors + 256 * uart) 31 16 1).pollFail uart x
        else if modbusOk (s.station (112 + uart)).config x frame then s.pollComplete uart x frame else s.pollFail uart x)

/-- MODBUS_TIMEOUT (R781, R783). -/
def execModbusTimeout (uart : Nat) (s : State) : Out :=
  .next (if !s.uartServes uart 1 then s
    else match (s.uart uart).inFlight with
      | none => s
      | some x => s.pollFail uart x)

/-! ### NMEA 0183 (R784) -/

/-- The value of a decimal digit. -/
def decDigit (b : Byte) : Option Nat := if 48 ≤ b.toNat ∧ b.toNat ≤ 57 then some (b.toNat - 48) else none

/-- The value of a hexadecimal digit. -/
def hexDigit (b : Byte) : Option Nat :=
  let n := b.toNat
  if 48 ≤ n ∧ n ≤ 57 then some (n - 48) else if 65 ≤ n ∧ n ≤ 70 then some (n - 55) else if 97 ≤ n ∧ n ≤ 102 then some (n - 87) else none

/-- Digits read into a number, with how many there are. -/
def decDigits : Bytes → Nat → Option Nat
  | [], acc => some acc
  | b :: r, acc => match decDigit b with
    | some d => decDigits r (10 * acc + d)
    | none => none

/-- A decimal number: an optional sign, digits, an optional point and more digits; answers the digits as a number and how many follow
the point. -/
def decimal (b : Bytes) : Option (Int × Nat) :=
  let (neg, d) := match b with
    | 45 :: r => (true, r)
    | 43 :: r => (false, r)
    | _ => (false, b)
  let whole := d.takeWhile fun x => x != 46
  let frac := (d.drop whole.length).drop 1
  if (whole ++ frac).isEmpty then none
  else (decDigits (whole ++ frac) 0).map fun n => (if neg then -(n : Int) else (n : Int), frac.length)

/-- A field's number times 10^SCALE, truncated and saturated to S16 (R9, R784). -/
def nmeaValue (x : Int × Nat) (scale : Int) : Byte × Int :=
  let e := scale - x.2
  let v := if e ≥ 0 then x.1 * 10 ^ e.toNat else tdiv x.1 (10 ^ (-e).toNat)
  if v > 32767 then (0x11, 32767) else if v < -32768 then (0x09, -32768) else (1, v)

/-- Fields of a string between separators. -/
def splitBytes (sep : Byte) : Bytes → List Bytes
  | [] => [[]]
  | b :: r => if b = sep then [] :: splitBytes sep r
    else match splitBytes sep r with
      | [] => [[b]]
      | f :: fs => (b :: f) :: fs

/-- The frame of a sentence: "$" to CR LF, at most 82 characters; answers what stands between. -/
def nmeaBody (b : Bytes) : Option Bytes :=
  let n := b.length
  if decide (3 ≤ n) && decide (n ≤ 82) && b.head? == some 36 && b.drop (n - 2) == [13, 10] then some (slice b 1 (n - 3)) else none

/-- The fields of a body whose checksum matches when present. -/
def nmeaFields (b : Bytes) : Option (List Bytes) :=
  let text := b.takeWhile fun x => x != 42
  let sum : Byte := text.foldl (fun (x y : Byte) => x ^^^ y) 0
  match b.drop text.length with
  | [] => some (splitBytes 44 text)
  | [_, h, l] => match hexDigit h, hexDigit l with
    | some x, some y => if 16 * x + y = sum.toNat then some (splitBytes 44 text) else none
    | _, _ => none
  | _ => none

/-- One NMEA point refreshed from the fields: an empty field, or one that is no number, gives VALID clear and a free value. -/
def State.nmeaPoint (s : State) (id : Nat) (c : Bytes) (fields : List Bytes) (x : Nat × Bool × Nat) : State :=
  match decimal (fields.getD (u8 c (x.2.2 + 1)) []) with
  | some d =>
    let v := nmeaValue d (toSigned 8 (u8 c (x.2.2 + 2)))
    s.putPoint id x.1 v.1 v.2
  | none => s.usedFree.putPoint id x.1 0 (toSigned 16 s.free.toNat)

/-- A sentence that fails (R784). -/
def State.sentenceFail (s : State) (uart : Nat) (framing : Bool) : State :=
  let a := Reg.uartErrors + 256 * uart
  let t := s.addFld a 15 0 1
  ((if framing then t.addFld a 31 16 1 else t).portFailed (112 + uart)).raiseIrq (34 + uart)

/-- NMEA_SENTENCE. -/
def execNmeaSentence (uart : Nat) (sentence : Bytes) (s : State) : Out :=
  .next (if !s.uartServes uart 2 then s
    else match nmeaBody sentence with
      | none => s.sentenceFail uart true
      | some b => match nmeaFields b with
        | none => s.sentenceFail uart false
        | some fields =>
          let id := 112 + uart
          let c := (s.station id).config
          let pts := (stationPoints id c).filter fun x => fields.headD [] == slice c (x.2.2 + 4) 5
          if pts.isEmpty then s
          else ((pts.foldl (fun (t : State) x => t.nmeaPoint id c fields x) s).portDone id).raiseIrq (34 + uart))

/-! ### CAN FD (R773 to R778, R791) -/

/-- A CAN controller's queue. -/
def State.canPort (s : State) (n : Nat) : Can := Store.get s.cans n {}

/-- A CAN controller's queue set. -/
def State.setCan (s : State) (n : Nat) (x : Can) : State := { s with cans := Store.set s.cans n x {} }

/-- Whether a controller takes part on its bus for a station. -/
def State.canServes (s : State) (n : Nat) : Bool :=
  decide (n < 4) && s.rbit (Reg.canCtrl + 256 * n) 0 && !s.rbit (Reg.canCtrl + 256 * n) 2 && !(s.station (120 + n)).config.isEmpty

/-- The bit positions of a point in a frame, from its least significant bit; position 8·byte + bit. A big-endian point begins with its most
significant bit and goes on at bit 7 of the next byte. -/
def canBits (c : Bytes) (o : Nat) : List Nat :=
  let start := 8 * u8 c (o + 6) + u8 c (o + 7)
  let w := u8 c (o + 8)
  if u8 c (o + 9) / 2 % 2 = 1 then
    let place (k : Nat) : Nat :=
      let q := 7 - start % 8 + k
      8 * (start / 8 + q / 8) + (7 - q % 8)
    ((List.range w).map place).reverse
  else (List.range w).map fun i => start + i

/-- One bit of a frame. -/
def frameBit (d : Bytes) (p : Nat) : Bool := (d.getD (p / 8) 0).getLsbD (p % 8)

/-- The number at the given bit positions, least significant first. -/
def gatherBits (d : Bytes) : List Nat → Nat
  | [] => 0
  | p :: r => (frameBit d p).toNat + 2 * gatherBits d r

/-- A number placed at the given bit positions of a frame; positions beyond the frame are left out. -/
def placeBits (d : Bytes) : List Nat → Nat → Bytes
  | [], _ => d
  | p :: r, v =>
    let b : Byte := BitVec.ofNat 8 (2 ^ (p % 8))
    placeBits (if v % 2 = 1 then d.set (p / 8) (d.getD (p / 8) 0 ||| b) else d) r (v / 2)

/-- One IN point refreshed from a frame, when the frame holds all its bits. -/
def State.canPoint (s : State) (id : Nat) (c data : Bytes) (x : Nat × Bool × Nat) : State :=
  let bits := canBits c x.2.2
  if bits.any fun p => decide (p / 8 ≥ data.length) then s
  else
    let v := portValue (u8 c (x.2.2 + 9) % 2 == 1) (u8 c (x.2.2 + 8)) (gatherBits data bits)
    s.putPoint id x.1 v.1 v.2

/-- CAN_FRAME_RECEIVED (R777). -/
def execCanFrameReceived (can ident : Nat) (extended : Bool) (data : Bytes) (s : State) : Out :=
  let id := 120 + can
  let c := (s.station id).config
  let pts := (stationPoints id c).filter fun x => !x.2.1 && u32 c x.2.2 % 536870912 == ident && (u32 c x.2.2).testBit 29 == extended
  .next (if !s.canServes can || pts.isEmpty then s
    else
      let t := s.setCan can { s.canPort can with heard := Store.insert (s.canPort can).heard ident s.nowUs }
      ((pts.foldl (fun (t : State) x => t.canPoint id c data x) t).portDone id).raiseIrq (30 + can))

/-- The bytes of transmit frame `f`: the VALID OUT points of its identifier, and 0 elsewhere (R773, R777). -/
def canFrameBytes (id : Nat) (st : Station) (f : Nat) : Bytes :=
  let c := st.config
  (stationPoints id c).foldl (fun (d : Bytes) x =>
    if x.2.1 && u32 c x.2.2 % 1073741824 == canTxId c f % 1073741824 && outValid st x.1 then
      placeBits d (canBits c x.2.2) (BitVec.ofInt 16 (Store.get st.dcOut x.1 (0, 0)).2).toNat
    else d) (zeros (u8 c (20 + 8 * f)))

/-- CAN_TX_DONE (R773): the oldest transmit frame is acknowledged; LISTEN_ONLY drives no dominant bit and sends nothing (R161). -/
def execCanTxDone (can : Nat) (s : State) : Out :=
  let id := 120 + can
  let x := s.canPort can
  .next (if !s.canServes can || s.rbit (Reg.canCtrl + 256 * can) 1 then s
    else match x.txQueue with
      | [] => s
      | f :: r =>
        let st := s.station id
        let t := (s.setCan can { x with txQueue := r, sent := x.sent ++ [(canTxId st.config f, canFrameBytes id st f)] }).raiseIrq (30 + can)
        match x.txCycle with
        | some k => if r.isEmpty then t.writesDone id k else t
        | none => t)

/-- CAN_RX_TIMEOUT (R774). -/
def execCanRxTimeout (can : Nat) (s : State) : Out :=
  .next (if s.canServes can then (s.portFailed (120 + can)).raiseIrq (30 + can) else s)

/-- CAN_BUS_OFF (R778, R791): the frames that wait are not sent, and the station's link is lost. -/
def execCanBusOff (can : Nat) (s : State) : Out :=
  .next (if !s.canServes can then s
    else
      let t := (s.setRbit (Reg.canCtrl + 256 * can) 2 true).setCan can { s.canPort can with txQueue := [], txCycle := none }
      (t.linkLost (120 + can)).raiseIrq (30 + can))

/-- CAN_BUS_OFF_RECOVERY (R778): the station is MOORED again at the next time mark. -/
def execCanBusOffRecovery (can : Nat) (s : State) : Out :=
  .next (if decide (can ≥ 4) || !s.rbit (Reg.canCtrl + 256 * can) 2 then s
    else
      let t := s.setRbit (Reg.canCtrl + 256 * can) 2 false
      t.setStation (120 + can) { t.station (120 + can) with willMoor := true })

/-! ### Age (R777, R783, R784) -/

/-- Whether no point of a station has been refreshed within its block's AGE_MS, but perhaps the one named. -/
def State.allAged (s : State) (id point : Nat) : Bool :=
  let st := s.station id
  let age := 1000 * u16 st.config 10
  (inPoints id st.config).all fun p => p == point || match Store.find? st.pointUs p with
    | some t => decide (t + age ≤ s.nowUs)
    | none => true

/-- POINT_AGE_EXPIRY: the point is STALE; an NMEA station with no mapped sentence within AGE_MS has failed. -/
def execPointAgeExpiry (station point : Nat) (s : State) : Out :=
  let c := (s.station station).config
  .next (if decide (station < 112) || decide (124 ≤ station) || !(inPoints station c).contains point then s
    else
      let t := s.stalePorts station [point]
      if station < 120 && u8 c 5 == 2 && s.allAged station point then t.portFailed station else t)

/-! ### The end of a flash operation (R89 to R91, R311, R788, R794) -/

/-- A sector of chip select 0 erased. -/
def Flash.erase (f : Flash) (a : Nat) : Flash :=
  { f with
    cs0 := f.cs0.filter fun (x : Nat × Byte) => x.1 / 65536 != a / 65536
    doubt := Store.erase f.doubt (a / 65536) }

/-- A page programmed: a program clears bits and sets none. -/
def Flash.program (f : Flash) : Nat → Bytes → Flash
  | _, [] => f
  | a, b :: r => Flash.program { f with cs0 := Store.set f.cs0 a (Store.get f.cs0 a 0xFF &&& b) 0xFF } (a + 1) r

/-- A persisted record kept. -/
def State.keepRecord (s : State) : BgTask → State
  | .persistModel m => { s with flash := { s.flash with models := s.flash.models ++ [m] } }
  | .persistProg id b =>
    if (Store.find? s.programs id).isSome then { s with flash := { s.flash with progs := Store.insert s.flash.progs id b } } else s
  | .persistStation id r => { s with flash := { s.flash with stations := Store.insert s.flash.stations id r } }
  | _ => s

/-- A finished operation's effect on the flash. -/
def State.flashEffect (s : State) : FlashOp → State
  | .erase a => { s with flash := s.flash.erase a }
  | .program a b => { s with flash := s.flash.program a b }
  | .record t => s.keepRecord t
  | .journal a l => { s with flash := s.flash.program a l.flatten, journal := l.foldl Journal.stand s.journal }
  | .header a b frees =>
    { s with flash := s.flash.program a b, journal := { s.journal with freeSectors := s.journal.freeSectors + frees.toNat } }

/-- The end of a background write: the Slipway copy is the newer one; a firmware slot reads back, and its try count is cleared. -/
def State.taskDone (s : State) (t : BgTask) : State :=
  let s := { s with flash := { s.flash with task := none } }
  match t with
  | .persistSlip _ => { s with flash := { s.flash with slipNewer := 1 - s.flash.slipNewer } }
  | .writeFwSlot slot b n =>
    let ok := s.flash.readBytes (slotAddr slot) b.length == b
    let u := s.setFld Reg.sysctlBootTries (2 * slot - 1) (2 * slot - 2) 0
    match n with
    | some x => u.emitCompletion x (if ok then St.ok else St.imageSignature) u.wc.cycle
    | none => u
  | _ => s

/-- QSPI_COMMAND_DONE: the operation in progress has its effect; values that waited take effect; the next one starts unless the warning
holds. -/
def execQspiCommandDone (s : State) : Out :=
  .next (if !s.rbit Reg.qspiCtrl 7 then s
    else match s.flash.ops with
      | [] => s.setRbit Reg.qspiCtrl 7 false
      | o :: r =>
        let t := ({ s with flash := { s.flash with ops := r } }.flashEffect o).setRbit Reg.qspiCtrl 7 false
        let t := match t.flash.task with
          | some k => if r.isEmpty then t.taskDone k else t
          | none => t
        ((t.releaseDeferred 14).raiseIrq 45).feedFlash)

end Sys2Proof.Machine
end

