-- ==== Sys2Proof/Machine/Ebb.lean ====
section
/-! DEFINITION. Background work in the Ebb window (chapter 23, R825 to R852). -/

namespace Sys2Proof.Machine

/-! ### The Pilot's Ebb order (R33, R34, R826) -/

/-- What Basin 3 or the master copy holds of a bit (R484): the state image and the tables of a CUSTOM channel; else a free value. -/
def State.masterBit (s : State) (key n a : Nat) : Bool :=
  let slot := slotOfElem n
  let e := (berthElems slot).idxOf n
  match Store.find? s.chans slot with
  | none => Config.masterBit key n a
  | some c =>
    match c.typ, Store.find? s.programs (u16 c.params 64) with
    | .custom, some g =>
      let la := s.plain.phys a
      if la < u16 g.image 20 then ((c.image.getD e 0) / 2 ^ la) % 2 == 1
      else if u16 g.image 16 ≤ a && a < u16 g.image 16 + u16 g.image 18 then
        packedBit (g.image.drop (32 + 4 * u8 g.image 7 + 8 * u32 g.image 8)) (e * u16 g.image 18 + (a - u16 g.image 16))
      else Config.masterBit key n a
    | _, _ => Config.masterBit key n a

/-- A bit of element memory is rewritten after an uncorrectable error: from field f in a mirror copy, 0 in scratch and staging, and else what
Basin 3 or the master copy holds (R484). -/
def State.rewriteBit (s : State) (key n a : Nat) : Bool :=
  let f := fieldOf n
  if 8 ≤ f && s.pairs.testBit (f - 8) then s.plain.bitAt (n - 8192) a
  else if 0x1C00 ≤ a then false
  else if 0x1800 ≤ a then (Config.recipSeed ((a - 0x1800) / 8)).getLsbD (a % 8)
  else s.masterBit key n a

/-- One group row rewritten with all 64 elements active. -/
def State.rewriteRow (s : State) (key : Nat) (row : Nat) : State :=
  let g := row / 8192
  let a := row % 8192
  let els := (fieldElems (g / 16)).filter fun n => groupOf n == g
  let p := els.foldl (fun (p : Plain) n => p.setBit n a (s.rewriteBit key n a)) s.plain
  { s with plain := { p with ecc := Store.erase p.ecc row, repair := p.repair.filter fun k => k != row } }

/-- The rewrites of the UE vector's groups (R484, R826). -/
def State.rewriteGroups (s : State) : State :=
  let rows := (s.plain.ecc.filter fun (e : Nat × Nat) => e.2 == 2 && s.plain.rewrite.contains (e.1 / 8192)).map fun (e : Nat × Nat) => e.1
  let t := rows.foldl (fun (t : State) r => t.usedFree.rewriteRow t.freeCtr r) s
  { t with plain := { t.plain with rewrite := [] } }

/-- Scrub slices already granted in the present cycle. -/
def State.slicesDone (s : State) : Nat := if s.scrub.cycle = s.wc.cycle then s.scrub.slices else 0

/-- Whether R826 gives a scrub slice: entries to drain, or quota left; while the cycle is stopped a slice runs every 20 ms (R847). -/
def State.scrubDue (s : State) : Bool :=
  s.rbit Reg.scrubCtrl 0 && (!s.plain.repair.isEmpty || !s.wc.running || decide (s.slicesDone < s.fld Reg.scrubPlainCfg 3 0))

/-- SCRUB_UE by the Reclaim controller (R831). Targets are numbered as SCRUB_SWEEPS lists them: 0 the Plain, 1 to 5 the Basins, 6 the
Slipway. -/
def State.scrubUe (s : State) (event target off : Nat) : State :=
  (s.setRbit Reg.scrubEvents event true).faultB 0x036 2 0x12 (BitVec.ofNat 32 (target % 256 + 256 * (off % 16777216)))

/-- A completed sweep of a target is counted (R831). -/
def State.sweepDone (s : State) (target : Nat) : State :=
  let lo := 16 * (target % 2)
  (s.addFld (Reg.scrubSweeps + 4 * (target / 2)) (lo + 15) lo 1).setRbit Reg.scrubEvents 3 true

/-- The posted check of the reciprocal table (R561): the 128 seeds, the same in every element of each field that is ON or RET, are written
again from the master copy, and with them the ECC words of their rows. -/
def State.checkTables (s : State) : State :=
  let p := ((List.range 16).filter fun f => s.plain.power.getD f .off != .off).foldl (fun (p : Plain) f =>
    (fieldElems f).foldl (fun (p : Plain) n => p.putBytes n 768 ((List.range 128).map Config.recipSeed)) p) s.plain
  let mine (k : Nat) : Bool := decide (0x1800 ≤ k % 8192) && decide (k % 8192 < 0x1C00) && s.plain.power.getD (k / 8192 / 16) .off != .off
  { s with plain := { p with ecc := p.ecc.filter (fun (e : Nat × Nat) => !mine e.1), repair := p.repair.filter fun k => !mine k },
           wc := { s.wc with checkPosted := false } }

/-- One group row read in scrub-write mode: a correctable row is written back; an uncorrectable one stays, enters the UE vector unless it
waits for its rewrite, and is reported (R461, R483, R828, R831, R848). -/
def State.scrubRow (s : State) (e : Nat × Nat) : State :=
  let drop (t : State) : State := { t with plain := { t.plain with repair := t.plain.repair.filter fun k => k != e.1 } }
  if e.2 = 1 then
    let t := (drop s).addFld Reg.scrubPlainCnt 15 0 1
    { t with plain := { t.plain with ecc := Store.erase t.plain.ecc e.1 } }
  else
    let t := ((drop s).addFld Reg.scrubPlainCnt 31 16 1).scrubUe 0 0 (e.1 % 8192)
    if s.plain.rewrite.contains (e.1 / 8192) then t else t.noteUe (e.1 / 8192) (e.1 % 8192)

/-- Whether a field is scrubbed: ON or RET (R828). -/
def State.scrubbed (s : State) (f : Nat) : Bool := s.plain.power.getD f .off != .off

/-- A scrub slice: the repair queue, then the next 2,048 planes of every field that is ON or RET. -/
def State.scrubSlice (s : State) : State :=
  let pos := s.fld Reg.scrubPlainPos 12 0
  let rows := s.plain.ecc.filter fun (e : Nat × Nat) => s.scrubbed (e.1 / 8192 / 16) &&
    (s.plain.repair.contains e.1 || (decide (pos ≤ e.1 % 8192) && decide (e.1 % 8192 < pos + 2048)))
  let t := rows.foldl (fun (t : State) e => t.scrubRow e) s
  let t := { t with plain := { t.plain with repair := [] }, scrub := { t.scrub with cycle := s.wc.cycle, slices := s.slicesDone + 1 } }
  let t := t.setFld Reg.scrubPlainPos 12 0 ((pos + 2048) % 8192)
  if pos + 2048 ≥ 8192 then t.sweepDone 0 else t

/-- Plain cycles of the foreground window that have passed. -/
def State.windowPassed (s : State) : Int := s.window - s.pilot.dlLeft

/-- Whether the foreground is ahead of its admitted worst-case schedule by at least one slice: what it has done, C less the remaining cost in
S14, exceeds the Plain cycles that have passed (R33, R506). -/
def State.aheadBySlice (s : State) : Bool :=
  decide ((s.pilot.admitted : Int) - (s.pilot.s.getD 14 0).toNat ≥ s.windowPassed + 4096)

/-- Whether a slice may run inside the foreground window (R33): for the floor shortfall, or when the foreground is ahead, which the LATE
restriction excludes (R40); and never beyond 12.5 percent of what has passed of the window. -/
def State.sliceInWindow (s : State) : Bool :=
  (decide ((s.pilot.windowEbb : Int) < s.floorShort) || (!s.wc.restricted && s.aheadBySlice)) &&
    decide (((s.pilot.windowEbb : Int) + 4096) * 8 ≤ s.windowPassed + 4096)

/-- Whether foreground work of the cycle is pending: from LOAD to the end of UNLOAD, unless the cycle has been given up. -/
def State.foregroundDue (s : State) : Bool := s.inWindow && !s.wc.ended && !s.wc.refused

/-- Whether the scheduler may start a slice: outside the window when the Pilot is idle and no LOAD is awaited after the gather deadline; inside
it also between words of the foreground, on the conditions of R33 (R33, R34). -/
def State.sliceMay (s : State) : Bool :=
  s.arrUp && (if s.foregroundDue then (s.pilot.st == .idle || s.pilot.st == .foreground) && s.sliceInWindow
    else s.pilot.st == .idle && !(s.wc.running && s.wc.gathered && !s.wc.ended && s.wc.phase == .gather))

/-- A slice's 4,096 Plain cycles: they count against DL_LEFT and, inside the window, toward Ebb's part of it (R33, R508). -/
def State.sliceTime (s : State) : State :=
  let t := if s.foregroundDue then { s with pilot := { s.pilot with windowEbb := s.pilot.windowEbb + 4096 } } else s
  t.plainCycles 4096

/-- Whether a Plain window access waits for a Quay slot. -/
def State.windowWaits (s : State) : Bool :=
  s.held.any BusReq.isWindow || (match Store.find? s.fw.wake 1 with
    | some p => decide (0x30000000 ≤ p.addr) && decide (p.addr < 0x31000000)
    | none => false)

/-- EBB_SLICE: the first task of R826 that applies runs; inside the foreground window the Quay serves no slot. Copy jobs of the firmware's
list come after the scrub slice; UE rewrites are the urgent ones; the reciprocal table's check is the posted program (R561). -/
def execEbbSlice (s : State) : Out :=
  .next (if !s.sliceMay then s
    else if !s.inWindow && s.windowWaits then s.sliceTime.serveWindow.serveWake 1
    else if !s.inWindow && !s.plain.rewrite.isEmpty then s.sliceTime.rewriteGroups
    else if s.scrubDue then s.sliceTime.scrubSlice
    else if !s.inWindow && s.quay.jobs then s.sliceTime.nextJob
    else if s.wc.checkPosted then s.sliceTime.checkTables
    else s)

/-- PLAIN_SCRUB_SLICE. -/
def execPlainScrubSlice (s : State) : Out := .next (if s.sliceMay && s.rbit Reg.scrubCtrl 0 then s.sliceTime.scrubSlice else s)

/-! ### The scrub engine (R829 to R831, R817, R818) -/

/-- BASIN_SCRUB_READ: one word; the Basin writes back a corrected one, and counts and latches an uncorrectable one. -/
def execBasinScrubRead (basin : Nat) (s : State) : Out :=
  .next (if basin ≥ 5 || s.domainFenced 11 || !s.rbit Reg.scrubCtrl (1 + basin) || s.basinState basin != 0 then s
    else
      let off := s.scrub.basinPos.getD basin 0
      let a := basinBase basin + off
      let t := match Store.find? s.memErr a with
        | some k => if k = 1 then { s with memErr := Store.erase s.memErr a }.basinCe basin
          else (s.basinUe basin a).scrubUe 1 (1 + basin) off
        | none => s
      let next := (off + 8) % basinSize basin
      let t := { t with scrub := { t.scrub with basinPos := t.scrub.basinPos.set basin next } }
      if next = 0 then t.sweepDone (1 + basin) else t)

/-- An uncorrectable configuration error: the fabric is blank at once, and the persisted image is applied in the next Ebb window (R818). -/
def State.configUe (s : State) (off : Nat) : State :=
  let t := ((s.addFld Reg.slipctlCounts 31 16 1).setRbit Reg.slipctlStatus 8 true).setRbit Reg.slipctlEvents 2 true
  let t := (t.blank 0).faultF 0x046 3 0x0A (BitVec.ofNat 32 off)
  { t with slip := { t.slip with reapply := true } }.scrubUe 2 6 off

/-- SLIP_CONFIG_SCRUB_READ: between UNLOAD and the next gather deadline; the command names the word and how many of its bits are in error. -/
def execSlipConfigScrubRead (offset errorBits : Nat) (s : State) : Out :=
  .next (if s.domainFenced 11 || !s.rbit Reg.scrubCtrl 6 || s.inWindow || (s.wc.running && s.wc.gathered && !s.wc.ended) || s.slip.applying.isSome then s
    else
      let t := if errorBits = 0 then s else if errorBits = 1 then s.addFld Reg.slipctlCounts 15 0 1 else (s.configUe offset).freePort
      if Config.slipLastWord offset then t.sweepDone 6 else t)

/-- Whether the Harbourmaster takes a background step: the Harbour firmware runs, and the command queue is empty (R827). -/
def State.stepMay (s : State) : Bool := s.reports && s.omx.interp.isEmpty

/-! ### Telemetry (R305, R306, R317, R846) -/

/-- A record of telemetry, or none where there is nothing to send; the flag says that the handle has become stale. DESIGN CHOICE (log entry 143):
KIND 1 is VALUE, QUALITY, STATE and two zeros. -/
def State.tmRecord (s : State) (kind ref : Nat) : Option Bytes × Bool :=
  match kind with
  | 1 => match s.checkHandle ref with
    | .ok c => (some (leInt 4 c.half.value ++ [c.half.quality] ++ leBytes 1 c.state.code ++ zeros 2), false)
    | .error _ => (some (zeros 8), true)
  | 2 => match s.checkHandle ref with
    | .ok c => (some (s.chRecord (slotOf ref) c), false)
    | .error _ => (some (leBytes 2 ref ++ zeros 34), true)
  | 3 => (some (s.stRecord ref), false)
  | 4 => (s.ves.half.published.map fun r => condRecord s.ves r, false)
  | _ => (some s.cycleStatus, false)

/-- The events of one delivery: the records in order, each event within the transport's unit (R317). -/
def tmEvents (unit : Nat) (head : Nat → Bytes) : List Bytes → List Bytes → List Bytes
  | [], cur => if cur.isEmpty then [] else [head cur.length ++ cur.flatten]
  | r :: l, cur =>
    if !cur.isEmpty && decide (8 + cur.flatten.length + r.length > unit) then (head cur.length ++ cur.flatten) :: tmEvents unit head l [r]
    else tmEvents unit head l (cur ++ [r])

/-- One subscription served: what it sends, and the subscription afterwards, with stale entries left out. -/
def State.tmServe (s : State) (sub : Subscription) : List Bytes × Subscription :=
  let rows := (sub.entries.zip (List.range sub.entries.length)).map fun x =>
    let (rec, stale) := s.tmRecord x.1.1 x.1.2
    let old := sub.lastSent.getD x.2 []
    let since := sub.sinceSent.getD x.2 0 + 1
    let send := rec.isSome && (!sub.onChange || stale || rec != some old || decide (since ≥ 64))
    (x.1, rec.getD [], stale, send, (if send then rec.getD [] else old), (if send then 0 else since))
  let out := (rows.filter fun r => r.2.2.2.1).map fun r => leBytes 1 r.1.1 ++ leBytes 1 r.2.1.length ++ leBytes 2 r.1.2 ++ r.2.1
  let keep := rows.filter fun r => !r.2.2.1
  (out, { sub with entries := keep.map fun r => r.1, lastSent := keep.map fun r => r.2.2.2.2.1, sinceSent := keep.map fun r => r.2.2.2.2.2 })

/-- One due subscription of a session: records of an earlier cycle that its transport has not taken are dropped (R846). -/
def State.tmSend (s : State) (n id : Nat) (x : Session) (sub : Subscription) : State :=
  let (recs, sub') := s.tmServe sub
  let head (k : Nat) : Bytes := leBytes 1 id ++ leBytes 1 k ++ zeros 2 ++ leBytes 4 s.wc.lastCycle.toNat
  let t := s.updSession n fun y => { y with
    events := y.events.filter fun (p : Packet) => !(p.opcode == 0x8007 && u8 p.payload 0 == id)
    subs := Store.insert y.subs id sub' }
  (tmEvents (s.maxLength x.ep) head recs []).foldl (fun (u : State) b => u.emitTo n 0x8007 0 b) t

/-- TELEMETRY_BUILD: the subscriptions due in the cycle that has committed. -/
def execTelemetryBuild (s : State) : Out :=
  .next (if !s.stepMay || !s.wc.running || s.wc.lastOutcome != .committed then s
    else s.omx.sessions.foldl (fun (t : State) (x : Nat × Session) =>
      (x.2.subs.filter fun (y : Nat × Subscription) => (s.wc.lastCycle - y.2.firstCycle).toNat % max 1 y.2.interval == 0 &&
        (s.wc.lastCycle - y.2.firstCycle).toNat < 2147483648).foldl (fun (u : State) (y : Nat × Subscription) => u.tmSend x.1 y.1 x.2 y.2) t) s)

/-! ### Wear (R363, R841) -/

/-- The output that a channel's station has confirmed as applied. -/
def State.confirmed (s : State) (c : Channel) : Option Int :=
  match (primaryRole c.typ).bind c.point with
  | none => none
  | some b => (c.half.applied.find? fun a => decide (a.1.toNat ≤ (s.station b.station).lastApplied)).map fun a => a.2

/-- RUNNING_IN of a PUMP; the committed run state where it is not bound. -/
def State.runningIn (s : State) (c : Channel) : Bool :=
  match c.point 2 with
  | some b => decide ((Store.get (s.station b.station).points b.point (0, 0)).2 > 0)
  | none => c.half.running

/-- The counts of one channel after a flip. -/
def State.wearOf (s : State) (c : Channel) (w : Wear) : Wear :=
  if c.typ = .valve then
    match s.confirmed c with
    | none => w
    | some v =>
      let d : Int := Int.natAbs (v - w.lastCmd)
      if (u8 c.params 64 = 1 && d ≠ 0) || d ≥ 1000 then { w with operations := w.operations + 1, lastCmd := v } else w
  else
    let r := s.runningIn c
    { w with
      operations := if r && !w.running then w.operations + 1 else w.operations
      runUs := if w.running then w.runUs + (s.nowUs - w.seenUs) else w.runUs
      running := r, seenUs := s.nowUs }

/-- WEAR_COUNTING. -/
def execWearCounting (s : State) : Out :=
  .next (if !s.stepMay || !s.wc.running || s.wc.lastOutcome != .committed then s
    else
      let l := s.chans.filter fun (x : Nat × Channel) => wears x.2
      { s with wear := l.foldl (fun (m : Store Wear) (x : Nat × Channel) => Store.insert m x.1 (s.wearOf x.2 (Store.get m x.1 { sinceUs := s.nowUs }))) s.wear })

/-! ### Model trim (R832 to R834) -/

/-- Whether trim and calibration pause: LATE restriction or bracing (R847). -/
def State.pausedWork (s : State) : Bool := s.wc.restricted || s.warning

/-- A qualifying channel of a committed cycle (R832). -/
def qualifies (c : Channel) : Bool :=
  c.state == .active && c.half.quality.getLsbD 0 && !c.half.quality.getLsbD 1 && !c.half.quality.getLsbD 2 && !c.half.discord && !c.half.depLost

/-- Whether a channel is trimmed: a model, and trim switched on. -/
def trimmed (c : Channel) : Bool := c.trim && (u8 c.model 0 == 1 || u8 c.model 0 == 2)

/-- Collector k, if it is free, takes the next channel in ascending slot order after the one that it last served, and after the highest the
lowest; one that has served none begins with the lowest. -/
def State.takeTrim (s : State) (k : Nat) : State :=
  let l := ((s.chans.filter fun (x : Nat × Channel) => trimmed x.2 && (Store.find? s.trims x.1).isNone).map fun (x : Nat × Channel) => x.1)
  let served := s.trimLast.getD k none
  if s.trims.any fun (x : Nat × TrimHist) => x.2.collector == k then s
  else match (l.find? fun n => served.all fun m => decide (n > m)).orElse fun _ => l.head? with
    | some n => { s with trims := Store.insert s.trims n { collector := k }, trimLast := s.trimLast.set k (some n) }
    | none => s

/-- One sample of a collector, or a history discarded. -/
def trimSample (c : Channel) (h : TrimHist) : TrimHist :=
  if !qualifies c then { collector := h.collector }
  else if h.u.length ≥ 256 then h
  else { h with u := h.u ++ [c.half.modelU], y := h.y ++ [c.half.modelY] }

/-- TRIM_SAMPLE. -/
def execTrimSample (s : State) : Out :=
  .next (if !s.stepMay || !s.wc.running then s
    else if s.pausedWork then { s with trims := [] }
    else if s.wc.lastOutcome != .committed then s
    else
      let live := s.trims.filter fun (x : Nat × TrimHist) => (Store.find? s.chans x.1).any trimmed
      let t := (List.range 8).foldl (fun (t : State) k => t.takeTrim k) { s with trims := live }
      { t with trims := Store.mapKV t.trims fun n h => match Store.find? s.chans n with
          | some c => trimSample c h
          | none => h })

/-- A model block with its four trimmed fields. -/
def withModel (m : Bytes) (gain : Int) (tau1 tau2 dead : Nat) : Bytes :=
  m.take 4 ++ leInt 4 gain ++ leBytes 4 tau1 ++ leBytes 4 tau2 ++ leBytes 4 dead ++ m.drop 20

/-- The trim step of a pair of bounds. -/
def trimStep (lo hi : Int) : Int := max 1 (asr (hi - lo) 5)

/-- A value clamped into its bounds. -/
def clampInto (lo hi v : Int) : Int := max lo (min hi v)

/-- The candidates in the order of R833; one equal to an earlier one is skipped. -/
def candidates (m : Bytes) : List Bytes :=
  let g := s32 m 4
  let (t1, t2, e) := (u32 m 8, u32 m 12, u32 m 16)
  let gs := trimStep (s32 m 24) (s32 m 28)
  let nat (lo hi v : Nat) (up : Bool) : Nat :=
    let st := trimStep lo hi
    (clampInto lo hi (if up then (v : Int) + st else (v : Int) - st)).toNat
  let gain (up : Bool) : Int := clampInto (s32 m 24) (s32 m 28) (if up then g + gs else g - gs)
  let two := u8 m 0 == 2
  ([withModel m g t1 t2 e, withModel m (gain false) t1 t2 e, withModel m (gain true) t1 t2 e,
    withModel m g (nat (u32 m 32) (u32 m 36) t1 false) t2 e, withModel m g (nat (u32 m 32) (u32 m 36) t1 true) t2 e] ++
   (if two then [withModel m g t1 (nat (u32 m 40) (u32 m 44) t2 false) e, withModel m g t1 (nat (u32 m 40) (u32 m 44) t2 true) e] else []) ++
   [withModel m g t1 t2 (nat (u32 m 48) (u32 m 52) e false), withModel m g t1 t2 (nat (u32 m 48) (u32 m 52) e true)]).eraseDups

/-- One sample of a replay: the model after it and the score so far; samples 64 to 255 count. -/
def replayStep (m : Bytes) (period : Nat) (acc : (Int × Int × List Int) × Nat) (x : (Int × Int) × Nat) : (Int × Int × List Int) × Nat :=
  let st := if x.2 = 0 then acc.1 else modelAdvance m period x.1.1 acc.1
  (st, if x.2 ≥ 64 then (acc.2 + Int.natAbs (x.1.2 - st.2.1)) % 18446744073709551616 else acc.2)

/-- The score of a candidate over a history (R833). -/
def replayScore (m : Bytes) (period : Nat) (h : TrimHist) : Nat :=
  let y0 := h.y.headD 0
  (((h.u.zip h.y).zip (List.range h.u.length)).foldl (replayStep m period) ((y0, y0, List.replicate 65 (h.u.headD 0)), 0)).2

/-- The best candidate: the lowest score, the earlier one on a tie. -/
def bestOf : List (Bytes × Nat) → Bytes × Nat → Bytes × Nat
  | [], b => b
  | x :: l, b => bestOf l (if x.2 < b.2 then x else b)

/-- TRIM_REPLAY: the best candidate is accepted when 64 × best ≤ 63 × current; the collector moves on in any case. -/
def execTrimReplay (slot : Nat) (s : State) : Out :=
  .next (if !s.stepMay || !s.wc.running || s.pausedWork then s
    else match Store.find? s.trims slot, Store.find? s.chans slot with
      | some h, some c =>
        if h.u.length < 256 then s
        else
          let t := { s with trims := Store.erase s.trims slot }
          let l := (candidates c.model).map fun m => (m, replayScore m s.wc.periodUs h)
          let cur := replayScore c.model s.wc.periodUs h
          let best := bestOf l (c.model, cur)
          if 64 * best.2 ≤ 63 * cur && best.1 != c.model then (t.change .atCycle (.trimModel slot best.1) none).1 else t
      | _, _ => s)

/-! ### Duty rotation (R842, R843) -/

/-- A setpoint step for a member at the next cycle boundary. -/
def State.memberStep (s : State) (h : Nat) (v : Int) : State := (s.change .atCycle (.setpoint (slotOf h) false v 0) none).1

/-- The DUTY record of a group's ranks. -/
def State.journalDuty (s : State) (g : Nat) (d : DutyGroup) : State :=
  s.journalPut 4 0 (leBytes 2 g ++ leBytes 1 d.members.length ++ zeros 1 ++ d.members.flatMap fun h => leBytes 2 h)

/-- A rotation starts: the ranks move, the members of running ranks take their setpoints, and the others keep theirs until the changeover
is confirmed. -/
def State.rotate (s : State) (g : Nat) (d : DutyGroup) : State :=
  let sp := s.rankSetpoints d
  let e := { d with members := rotated d.members, ran := 0, before := some (d.members, sp) }
  let t := ({ s with duty := Store.insert s.duty g e }).journalDuty g e
  (e.members.zip sp).foldl (fun (u : State) x => if x.2 = 0 then u else u.memberStep x.1 x.2) t

/-- One group at the check of a second: the time that rank 0 has run, and a rotation that is due and allowed. -/
def State.dutyCheck (s : State) (g : Nat) (d : DutyGroup) : State :=
  let on := match s.member (d.members.headD 0) with
    | some c => s.runningIn c
    | none => false
  let e := { d with ran := if on then d.ran + 1 else d.ran }
  let t := { s with duty := Store.insert s.duty g e }
  if d.mode = 1 && e.ran ≥ d.rotateS && !s.pausedWork && t.rotationAllowed e then t.rotate g e else t

/-- DUTY_ROTATION_CHECK: each group once per second. -/
def execDutyRotationCheck (s : State) : Out :=
  .next (if !s.stepMay || !s.wc.running then s
    else s.duty.foldl (fun (t : State) (x : Nat × DutyGroup) => t.dutyCheck x.1 x.2) s)

/-- Whether every member that takes over a running rank reports RUNNING_IN (R843). -/
def State.rankUp (s : State) (d : DutyGroup) (sp : List Int) : Bool :=
  (d.members.zip sp).all fun x => x.2 == 0 || (s.member x.1).any s.runningIn

/-- DUTY_CHANGEOVER_CONFIRM: the members of running ranks have reported RUNNING_IN for RUNUP_MS, and those of ranks that stand take their
setpoints; without RUNNING_IN nothing is confirmed. -/
def execDutyChangeoverConfirm (group : Nat) (s : State) : Out :=
  .next (match Store.find? s.duty group with
    | some d => match d.before with
      | some (_, sp) =>
        if !s.rankUp d sp then s else
        let t := { s with duty := Store.insert s.duty group { d with before := none } }
        (d.members.zip sp).foldl (fun (u : State) x => if x.2 = 0 then u.memberStep x.1 0 else u) t
      | none => s
    | none => s)

/-- DUTY_ABORT: the rotation is undone at the next boundary, and the fault is raised. -/
def execDutyAbort (group : Nat) (s : State) : Out :=
  .next (match Store.find? s.duty group with
    | some d => match d.before with
      | some (m, sp) =>
        let e := { d with members := m, before := none, ran := d.rotateS }
        let t := ({ s with duty := Store.insert s.duty group e }).journalDuty group e
        ((m.zip sp).foldl (fun (u : State) x => u.memberStep x.1 x.2) t).faultF 0x082 2 0x15 (BitVec.ofNat 32 (group % 32))
      | none => s
    | none => s)

/-! ### Plausibility (R838, Table EBB-3) -/

/-- What FROZEN watches of one input after one evaluation: since when the sample stands, and whether the output has changed since. -/
def frozenStep (now : Nat) (sample out : Int) (w : Option Plaus) : Plaus :=
  match w with
  | none => { sample := sample, sinceUs := now, output := out }
  | some p => if p.sample ≠ sample then { sample := sample, sinceUs := now, output := out } else { p with moved := p.moved || p.output != out, output := out }

/-- What PINNED watches: since when the point has had a range flag. -/
def pinnedStep (now : Nat) (hit : Bool) (w : Option Plaus) : Plaus :=
  match w with
  | none => { sinceUs := now, moved := hit }
  | some p => if hit && p.moved then p else { sinceUs := now, moved := hit }

/-- The watches of one channel brought up to now. -/
def State.plausWatch (s : State) (slot : Nat) (c : Channel) : State :=
  let out := c.half.output
  let step (m : Store Plaus) (b : RoleBind) : Store Plaus :=
    let v := s.pointNow b
    let k2 := plausKey slot 2 (1 + b.role)
    let k3 := plausKey slot 3 (1 + b.role)
    let m := Store.insert m k2 (frozenStep s.nowUs v.2 out (Store.find? m k2))
    Store.insert m k3 (pinnedStep s.nowUs (v.1.getLsbD 3 || v.1.getLsbD 4) (Store.find? m k3))
  { s with plaus := (s.requiredIns c).foldl step s.plaus }

/-- One evaluation of a check: three equal ones in a row set or clear it (R838). -/
def State.plausStep (s : State) (slot : Nat) (c : Channel) (code : Nat) : State :=
  let k := plausKey slot code 0
  let p := Store.get s.plaus k {}
  let hold := s.plausHolds slot c code
  let run := if hold == p.set then 0 else p.run + 1
  let pay := BitVec.ofNat 32 (s.handleOf slot + 65536 * code)
  let flip := run ≥ 3
  let t := { s with plaus := Store.insert s.plaus k { p with
    set := if flip then hold else p.set, run := if flip then 0 else run, setUs := if flip && hold then some s.nowUs else p.setUs } }
  if !flip then t else if hold then t.faultF 0x080 1 0x15 pay else t.bbrA 0x081 0 0x15 pay

/-- PLAUSIBILITY_CHECK. -/
def execPlausibilityCheck (s : State) : Out :=
  .next (if !s.stepMay || !s.wc.running || s.pausedWork then s
    else s.chans.foldl (fun (t : State) (x : Nat × Channel) =>
      if !plausOn x.2 then t
      else [1, 2, 3].foldl (fun (u : State) code => u.plausStep x.1 x.2 code) (t.plausWatch x.1 x.2)) s)

/-! ### Calibration (R835 to R838) -/

/-- How a calibration run ends: its result and what follows a good one. -/
structure CalEnd where
  result : CalResult
  apply : State → State := id

/-- The end of a run: the result kept, COMPLETION with OK or TABLE_RANGE (R308, R836). -/
def State.calFinish (s : State) (kind : Nat) (r : CalRun) (e : CalEnd) : State :=
  let t := { s with cal := { s.cal with
    runs := Store.erase s.cal.runs kind
    results := Store.insert s.cal.results kind { e.result with cycle := s.wc.cycle } } }
  let t := if e.result.result = 0 then e.apply t else t
  match r.notify with
  | some n => t.emitCompletion n (if e.result.result = 0 then St.ok else St.tableRange) t.wc.cycle
  | none => t

/-- The result of a run of KIND 1 or 2 from its 64 samples (R835, R836). A GAIN of 0 leaves GAIN_PPM open, which is then a free value. -/
def State.calSensor (s : State) (kind : Nat) (c : Channel) (r : CalRun) : CalEnd :=
  let x := tdiv r.sum 64
  let gain := pInGain c.params
  let off := pInOffset c.params
  let (x0, zref) := Store.get s.cal.zeros r.slot (0, off)
  let gain' := if kind = 1 then gain else wrapS 32 (tdiv ((r.reference - zref) * 65536) (x - x0))
  let off' := wrapS 32 (if kind = 1 then r.reference - asr (x * gain) 16 else zref - asr (x0 * gain') 16)
  let o := off' - off
  let ppm := if gain = 0 then toSigned 32 s.free.toNat else tdiv ((gain' - gain) * 1000000) gain
  let bad := (kind == 2 && x == x0) || decide ((Int.natAbs o : Int) > tdiv (pSpMax c.params - pSpMin c.params) 50) || decide (Int.natAbs ppm > 50000)
  { result := { result := if bad then 1 else 0, offset := wrapS 32 o, gainPpm := wrapS 32 ppm },
    apply := fun t =>
      let t := if gain = 0 then t.usedFree else t
      let t := if kind = 1 then { t with cal := { t.cal with zeros := Store.insert t.cal.zeros r.slot (x, r.reference) } } else t
      (t.change .atCycle (.calApply r.slot gain' off') none).1 }

/-- One committed cycle of a run of KIND 1 or 2: a sample from a qualifying cycle, the end at 64 samples or at 1,024 cycles. Under
restriction the run is paused and its cycles count; while the ship braces they do not (R847). -/
def State.calCycle (s : State) (kind : Nat) (r : CalRun) : State :=
  let fail : CalEnd := { result := { result := 1 } }
  match Store.find? s.chans r.slot with
  | none => s.calFinish kind r fail
  | some c =>
    if s.warning then s else
    let take := qualifies c && !s.pausedWork
    let v := match s.primaryInput c with
      | some b => (s.pointNow b).2
      | none => 0
    let q := { r with cycles := r.cycles + 1, count := if take then r.count + 1 else r.count, sum := if take then r.sum + v else r.sum }
    if q.count ≥ 64 then s.calFinish kind q (s.calSensor kind c q)
    else if q.cycles ≥ 1024 then s.calFinish kind q fail
    else { s with cal := { s.cal with runs := Store.insert s.cal.runs kind q } }

/-- The result of a KIND 3 run: TEMP_OFFSET so that sensor 0 reads REFERENCE, within ±3,000 m°C; kept in the journal (R837). -/
def State.calTemp (s : State) (r : CalRun) : CalEnd :=
  let change := r.reference - 10 * tdiv r.sum 64
  let new := satS 16 (toSigned 16 (s.fld Reg.tempOffset 15 0) + tdiv change 10)
  { result := { result := if Int.natAbs change > 3000 then 1 else 0, offset := wrapS 32 change },
    apply := fun t => (t.setFld Reg.tempOffset 15 0 (BitVec.ofInt 16 new).toNat).journalPut 2 3 (leInt 4 new) }

/-- The result of a KIND 4 run: the offset of the SENSE conversion, within ±12 mV; kept in the journal (R837). -/
def calSupmon (r : CalRun) : CalEnd :=
  let off := r.reference - 1000 * tdiv r.sum 64
  { result := { result := if Int.natAbs off > 12000 then 1 else 0, offset := wrapS 32 off },
    apply := fun t => ({ t with cal := { t.cal with senseOffsetMv := tdiv off 1000 } }).journalPut 2 4 (leInt 4 (tdiv off 1000)) }

/-- One sample of a run of KIND 3 or 4. -/
def State.calSample (s : State) (kind : Nat) (r : CalRun) : State :=
  let v : Int := if kind = 3 then toSigned 16 (s.fld Reg.tempSensor 15 0) else (s.senseMv : Int)
  let q := { r with count := r.count + 1, sum := r.sum + v }
  if q.count ≥ 64 then s.calFinish kind q (if kind = 3 then s.calTemp q else calSupmon q)
  else { s with cal := { s.cal with runs := Store.insert s.cal.runs kind q } }

/-- A KIND 5 run: every check once; OFFSET counts the channels that fail one (R838). -/
def State.calPlaus (s : State) (r : CalRun) : State :=
  let t := s.chans.foldl (fun (t : State) (x : Nat × Channel) => if plausOn x.2 then t.plausWatch x.1 x.2 else t) s
  let n := (t.chans.filter fun (x : Nat × Channel) => plausOn x.2 && [1, 2, 3].any fun k => t.plausHolds x.1 x.2 k).length
  t.calFinish 5 r { result := { result := 0, offset := n } }

/-- CALIBRATION_SAMPLE: the runs in ascending KIND; KIND 1, 2 and 5 wait for committed cycles, and pause under restriction and bracing. -/
def execCalibrationSample (s : State) : Out :=
  let committed := s.wc.running && s.wc.lastOutcome == .committed
  .next (if !s.stepMay then s
    else s.cal.runs.foldl (fun (t : State) (x : Nat × CalRun) =>
      if x.1 = 3 || x.1 = 4 then t.calSample x.1 x.2
      else if !committed then t
      else if x.1 = 5 then (if s.pausedWork then t else t.calPlaus x.2)
      else t.calCycle x.1 x.2) s)

/-! ### Drift (R840) -/

/-- The holdover addend now: PTP_ADDEND referred to XTAL25, while a slave port is locked. -/
def State.holdoverAddend (s : State) : Option Int :=
  if s.ptp.ports.any fun p => p.locked && !p.master then
    some (toSigned 32 (s.reg Reg.ptpAddend).toNat + 3436 * toSigned 16 (s.fld Reg.clkgenTimePpm 15 0))
  else none

/-- The smoothed mean. -/
def Drift.mean (d : Drift) : Int := tdiv d.sum 3600

/-- DRIFT_TRACKING: one sample of weight 1/3,600; the journal every hour; PTP_ADDEND once in each holdover. -/
def execDriftTracking (s : State) : Out :=
  .next (if !s.stepMay then s
    else
      let d := s.drift
      let d := match s.holdoverAddend with
        | some v => { d with sum := d.sum - d.mean + v }
        | none => d
      let hold := s.rbit Reg.clkgenStatus 3
      let n := d.samples + 1
      let t := { s with drift := { d with samples := if n ≥ 3600 then 0 else n, applied := hold } }
      let t := if n ≥ 3600 then t.journalPut 3 0 (leInt 4 d.mean) else t
      if hold && !d.applied then t.setReg Reg.ptpAddend (t.readBack Reg.ptpAddend 0 (BitVec.ofInt 32 d.mean)) else t)

/-! ### The journal (R844, R845) -/

/-- The WEAR records of the channels, where they differ from what stands. -/
def State.journalWear (s : State) : State :=
  s.wear.foldl (fun (t : State) (x : Nat × Wear) =>
    t.journalPut 1 (s.handleOf x.1) (leBytes 4 x.2.operations ++ leBytes 4 (x.2.runUs / 1000000) ++ leBytes 4 (x.2.sinceUs / 1000000) ++ leInt 4 x.2.lastCmd)) s

/-- JOURNAL_FLUSH: a page that is full, or whose first record is 60 s old. -/
def execJournalFlush (s : State) : Out :=
  .next (if !s.stepMay then s
    else
      let t := s.journalWear
      let j := t.journal
      let old := match j.firstUs with
        | some u => decide (u + 60000000 ≤ s.nowUs)
        | none => false
      if j.buffer.length < 8 && !(old && !j.buffer.isEmpty) then t
      else
        let rest := j.buffer.drop 8
        { t with journal := { j with buffer := rest, firstUs := if rest.isEmpty then none else some s.nowUs } }.journalPage (j.buffer.take 8))

/-- The records of a sector that stand. -/
def State.sectorStanding (s : State) (sector : Nat) : List Bytes :=
  ((List.range 255).flatMap fun p => (List.range 8).map fun i => s.flash.readBytes (journalAddr (256 * sector + 1 + p) + 32 * i) 32).filter fun r =>
    Store.find? s.journal.standing (recordKey r) == some r

/-- The oldest sector: the one behind the free ones, in the order of the wrap. -/
def Journal.oldest (j : Journal) : Nat :=
  let h := j.headPage / 256
  (if j.headPage % 256 = 1 then h + j.freeSectors else h + j.freeSectors + 1) % 256

/-- JOURNAL_COMPACTION: with fewer than 4 free sectors, the oldest sector's standing records go to the head with those that wait, then the
sector is erased and gets its header, which marks it free. -/
def execJournalCompaction (s : State) : Out :=
  .next (if !s.stepMay || s.pausedWork || s.journal.freeSectors ≥ 4 || !s.flash.ops.isEmpty then s
    else
      let o := s.journal.oldest
      let l := s.sectorStanding o ++ s.journal.buffer
      let t := State.journalPages (l.length / 8 + 1) l { s with journal := { s.journal with buffer := [], firstUs := none } }
      let seq := t.journal.sectorSeq + 1
      let u := t.queueOps (t.prepareSector o seq true)
      { u with journal := { u.journal with sectorSeq := seq } })

end Sys2Proof.Machine
end

