-- ==== Sys2Proof/Machine/Flags.lean ====
section
/-! DEFINITION. The fields of HSR and the flag computations of the Harbourmaster (R596, R629, R630, Table HMC-1). -/

namespace Sys2Proof.Machine

/-- Fields of HSR. -/
def Hm.cwp (h : Hm) : Nat := bits h.hsr 2 0
def Hm.et (h : Hm) : Bool := bit h.hsr 3
def Hm.fe (h : Hm) : Bool := bit h.hsr 4
def Hm.ilvl (h : Hm) : Nat := bits h.hsr 10 8
def Hm.flagC (h : Hm) : Bool := bit h.hsr 12

/-- The flags of HSR set: N, Z, V, C. -/
def Hm.setFlags (h : Hm) (n z v c : Bool) : Hm :=
  { h with hsr := putBits h.hsr 15 12 (c.toNat + 2 * v.toNat + 4 * z.toNat + 8 * n.toNat) }

/-- Signed overflow of an exact result. -/
def overflows (x : Int) : Bool := decide (x < -2147483648) || decide (2147483647 < x)

/-- The carry that enters: C in a chained instruction, else 0. -/
def Hm.carryIn (h : Hm) (chain : Bool) : Word := if chain && h.flagC then 1 else 0

/-- The flags of an addition; a chained one keeps Z only while every word is 0 (R629). -/
def Hm.addFlags (h : Hm) (chain : Bool) (a b : Word) : Hm :=
  let c := h.carryIn chain
  let v := a + b + c
  h.setFlags (bit v 31) (v == 0 && (!chain || bit h.hsr 14)) (overflows (a.toInt + b.toInt + c.toNat))
    (decide (a.toNat + b.toNat + c.toNat ≥ 4294967296))

/-- The flags of a subtraction: C is the borrow (R630). -/
def Hm.subFlags (h : Hm) (chain : Bool) (a b : Word) : Hm :=
  let c := h.carryIn chain
  let v := a - b - c
  h.setFlags (bit v 31) (v == 0 && (!chain || bit h.hsr 14)) (overflows (a.toInt - b.toInt - c.toNat)) (decide (a.toNat < b.toNat + c.toNat))

end Sys2Proof.Machine
end

