-- ==== Sys2Proof/Machine/HmCore.lean ====
section
/-! DEFINITION. The Harbourmaster: registers and windows, caches, traps, interrupts, system instructions, loads, stores, branches (chapter 16). -/

namespace Sys2Proof.Machine

/-! ### HSR and the register windows (R596 to R600, Table HMC-7) -/

/-- The writable bits of HSR. -/
def hsrMask : Word := 0x0000F71F

/-- The resident bit of a window. -/
def Hm.resident (h : Hm) (w : Nat) : Bool := h.wvm.getLsbD (w % 8)

/-- WVM with one bit set to a value. -/
def setBit8 (v : BitVec 8) (w : Nat) (b : Bool) : BitVec 8 :=
  if b then v ||| BitVec.ofNat 8 (2 ^ (w % 8)) else v &&& ~~~(BitVec.ofNat 8 (2 ^ (w % 8)))

/-- A register as seen from a window; G0 and numbers beyond 23 read 0 (Table HMC-2, R597). -/
def Hm.regIn (h : Hm) (w r : Nat) : Word :=
  if r = 0 then 0
  else if r < 8 then h.g.getD r 0
  else if r < 12 then h.h.getD ((w + 1) % 8 * 4 + (r - 8)) 0
  else if r < 16 then h.h.getD (w % 8 * 4 + (r - 12)) 0
  else if r < 24 then h.l.getD (w % 8 * 8 + (r - 16)) 0
  else 0

/-- A register written from a window; writes of G0 are ignored. -/
def Hm.setRegIn (h : Hm) (w r : Nat) (v : Word) : Hm :=
  if r = 0 then h
  else if r < 8 then { h with g := h.g.set r v }
  else if r < 12 then { h with h := h.h.set ((w + 1) % 8 * 4 + (r - 8)) v }
  else if r < 16 then { h with h := h.h.set (w % 8 * 4 + (r - 12)) v }
  else if r < 24 then { h with l := h.l.set (w % 8 * 8 + (r - 16)) v }
  else h

/-- A register of the current window. -/
def State.r (s : State) (n : Nat) : Word := s.hm.regIn s.hm.cwp n

/-- A register of the current window written. -/
def State.setR (s : State) (n : Nat) (v : Word) : State := { s with hm := s.hm.setRegIn s.hm.cwp n v }

/-- The next instruction in sequence. -/
def State.pcNext (s : State) : State := { s with hm := { s.hm with pc := s.hm.pc + 4 } }

/-- The instruction's result written, and the next one in sequence. -/
def State.ret (s : State) (rd : Nat) (v : Word) : State := (s.setR rd v).pcNext

/-! ### Traps (R603 to R607) -/

/-- Error mode: the HM halts, DOUBLE_TRAP is asserted, and the Reclaim controller writes two entries (R607). -/
def State.errorMode (s : State) (vec : Nat) : State :=
  let t := (s.setRbit Reg.reclaimStatus 2 true).lastFence 1 8 0
  (t.faultB 0x030 6 0x01 t.hm.pc).faultB 0x031 6 0x01 (BitVec.ofNat 32 (vec % 256 + 256 * t.hm.cwp + 2048 * t.hm.wvm.toNat))

/-- Trap entry (R604): the exception registers, CWP − 1 with its resident bit set, ET 0, the vector. -/
def Hm.enter (h : Hm) (cause vec : Nat) : Hm :=
  let w := (h.cwp + 7) % 8
  { h with
    estat := h.hsr
    epc := h.pc
    ecause := BitVec.ofNat 32 cause
    hsr := putBit (putBits h.hsr 2 0 w) 3 false
    wvm := setBit8 h.wvm w true
    pc := h.tvec + BitVec.ofNat 32 (32 * vec)
    waiting := false }

/-- A synchronous trap: entry, or error mode while ET is 0. -/
def State.trap (s : State) (vec : Nat) : State := if s.hm.et then { s with hm := s.hm.enter vec vec } else s.errorMode vec

/-- The integer division-by-zero trap; the Harbour firmware's handler logs HM_DIV0 with the trapping PC and raises FAULT (R636). -/
def State.divTrap (s : State) : State :=
  let t := s.trap 0x09
  if s.hm.et && s.harbourOpen then t.faultF 0x032 2 0x01 s.hm.pc else t

/-- An access fault with its cause and address for RDFLT (R618). -/
def State.faultTrap (s : State) (vec cause : Nat) (addr : Word) : State :=
  { s with hm := { s.hm with fltCause := cause, fltAddr := addr } }.trap vec

/-- The illegal instruction trap. -/
def State.illegal (s : State) : State := s.trap 0x03

/-- RDFLT's cause for a bus response. -/
def busCause : BusStatus → Nat
  | .ok => 0
  | .error => 1
  | .fenced => 2
  | .ecc => 3
  | .parity => 4

/-! ### Caches (R593, R594) -/

/-- Whether fetches from an address are cached (Table HMC-1). -/
def fetchCached (a : Nat) : Bool :=
  decide (a < 0x100000) || (decide (0x01000000 ≤ a) && decide (a < 0x01100000)) || basinOf a == some 0 ||
    (decide (0x60000000 ≤ a) && decide (a < 0x70000000))

/-- Whether stores to an address stay in the data cache: Basin 0 at its direct address. -/
def storeCached (a : Nat) : Bool := basinOf a == some 0

/-- The line of an address. -/
def lineOf (a : Nat) : Nat := a / 32 * 32

/-- One of the `n` ways of a full set, chosen freely; the spec does not say which line a fill replaces. -/
def State.victim {α : Type} (s : State) (set : List α) : Option α := set[s.free.toNat % set.length]?

/-- An instruction fetch as far as its errors and the cache's tags go: 256 sets of 2 ways (R593). A line with a parity error is invalidated and
fetched anew (R623). -/
def State.fetch (s : State) : State × Nat :=
  let a := s.hm.pc.toNat
  let line := lineOf a
  if (targetOf (s.unalias a)).isSome && !fetchCached a then (s, 5)
  else if s.hm.icache.contains line && !s.hm.icacheBad.contains line then (s, 0)
  else
    let s := { s with hm := { s.hm with icache := s.hm.icache.filter fun x => x != line, icacheBad := s.hm.icacheBad.filter fun x => x != line } }
    let t := s.busNow { who := { master := 0 }, addr := line, write := false, size := 8, beats := 4 }
    if t.bus.status ≠ .ok then (t, busCause t.bus.status)
    else
      let set := t.hm.icache.filter fun x => x / 32 % 256 == line / 32 % 256
      let (kept, u) := match (if set.length ≥ 2 then t.victim set else none) with
        | some v => (t.hm.icache.filter fun x => x != v, { t.usedFree with hm := { t.hm with icacheBad := t.hm.icacheBad.filter fun x => x != v } })
        | none => (t.hm.icache, t)
      ({ u with hm := { u.hm with icache := kept ++ [line] } }, 0)

/-- A dirty line written back; the bus's answer, or the parity error of the line (R623). -/
def State.writeBack (s : State) (line : Nat) : State :=
  match Store.find? s.hm.dcache line with
  | some l =>
    if !l.dirty then { s with bus := {} }
    else if l.bad then { s with bus := { status := .parity } }
    else
      let t := s.busNow { who := hmData, addr := line, write := true, size := 8, beats := 4, data := l.bytes }
      if t.bus.status = .ok then { t with hm := { t.hm with dcache := Store.insert t.hm.dcache line { l with dirty := false } } } else t
  | none => { s with bus := {} }

/-- A line dropped from the data cache. -/
def State.dropLine (s : State) (line : Nat) : State := { s with hm := { s.hm with dcache := Store.erase s.hm.dcache line } }

/-- The line of an address brought into the data cache: 128 sets of 4 ways; a replaced line is written back when it is dirty. The bus status
says whether it succeeded. -/
def State.fillNew (s : State) (line : Nat) : State :=
  let t := s.busNow { who := hmData, addr := line, write := false, size := 8, beats := 4 }
  if t.bus.status ≠ .ok then t
  else
    let data := t.bus.data
    let set := (t.hm.dcache.filter fun (x : Nat × CacheLine) => x.1 / 32 % 128 == line / 32 % 128).map fun (x : Nat × CacheLine) => x.1
    let u := match (if set.length ≥ 4 then t.victim set else none) with
      | some v =>
        let u := t.usedFree.writeBack v
        if u.bus.status = .ok then u.dropLine v else u
      | none => { t with bus := {} }
    if u.bus.status ≠ .ok then u
    else { u with hm := { u.hm with dcache := Store.insert u.hm.dcache line { bytes := data, dirty := false } }, bus := {} }

/-- A line that a load or store uses: one in the cache, or a new one. A parity error invalidates a clean line, which is fetched anew, and fails
the access in a dirty one (R623). -/
def State.fill (s : State) (line : Nat) : State :=
  match Store.find? s.hm.dcache line with
  | none => s.fillNew line
  | some l =>
    if !l.bad then { s with bus := {} }
    else if l.dirty then { s with bus := { status := .parity } }
    else (s.dropLine line).fillNew line

/-- Bytes of a list replaced from an index. -/
def putAt (l : Bytes) (i : Nat) (d : Bytes) : Bytes := l.take i ++ d ++ l.drop (i + d.length)

/-- A read of `n` aligned bytes by a load; the bus holds its status and the data. -/
def State.dataRead (s : State) (a n : Nat) : State :=
  if fetchCached a then
    let t := s.fill (lineOf a)
    if t.bus.status ≠ .ok then t
    else match Store.find? t.hm.dcache (lineOf a) with
      | some l => { t with bus := { status := .ok, data := slice l.bytes (a % 32) n } }
      | none => t
  else s.busNow { who := hmData, addr := a, write := false, size := n, beats := 1 }

/-- A write of aligned bytes by a store. -/
def State.dataWrite (s : State) (a : Nat) (d : Bytes) : State :=
  if storeCached a then
    let t := s.fill (lineOf a)
    if t.bus.status ≠ .ok then t
    else match Store.find? t.hm.dcache (lineOf a) with
      | some l =>
        let l := { bytes := putAt l.bytes (a % 32) d, dirty := true }
        { t with hm := { t.hm with dcache := Store.insert t.hm.dcache (lineOf a) l }, bus := {} }
      | none => t
  else s.busNow { who := hmData, addr := a, write := true, size := d.length, beats := 1, data := d }

/-- A watchpoint on one of the bytes of an access halts the HM after the instruction (R620). -/
def State.watch (s : State) (a n : Nat) : State :=
  if s.dbg.watches.any fun (x : Nat × Word) => decide (a ≤ x.2.toNat) && decide (x.2.toNat < a + n) then
    { s with dbg := { s.dbg with halted := true } } else s

/-! ### One instruction (R591, R592) -/

/-- An interrupt that R609 would take, leaving ET aside. -/
def State.qualifies (s : State) : Option Nat :=
  match s.offered with
  | some n => if s.irqLevel n > s.hm.ilvl || s.irqLevel n ≥ 8 then some n else none
  | none => none

/-- Whether the HM executes the next instruction now: no reset, no error mode, no debug halt, and no wait in WFI. -/
def State.hmRuns (s : State) : Bool :=
  !s.boot.held && !s.rbit Reg.reclaimStatus 2 && (!s.dbg.halted || s.dbg.stepping) && (!s.hm.waiting || s.qualifies.isSome)

/-- One instruction at the pc: a breakpoint halts before it; a fetch that fails traps; a single step ends with it. -/
def State.instr (s : State) (body : State → State) : Out :=
  .next (if !s.hmRuns then s
    else if !s.dbg.stepping && s.dbg.breaks.any fun (x : Nat × Word) => x.2 == s.hm.pc then { s with dbg := { s.dbg with halted := true } }
    else
      let t := { s with hm := { s.hm with waiting := false }, dbg := { s.dbg with stepping := false } }
      match t.fetch with
      | (u, 0) => body u
      | (u, c) => u.faultTrap 0x01 c u.hm.pc)

/-- An instruction that names integer registers: numbers 24 to 31 are illegal (R596). -/
def State.instrR (s : State) (regs : List Nat) (body : State → State) : Out :=
  s.instr fun t => if regs.any fun r => decide (r ≥ 24) then t.illegal else body t

/-! ### Windows (R598, R599) -/

/-- The second operand of ENTER and LEAVE: a register, or a signed immediate. -/
def State.windowOperand (s : State) (imm : BitVec 10) : Word :=
  if imm.getLsbD 9 then (imm.setWidth 9).signExtend 32 else s.r (imm.toNat % 32)

/-- The registers that ENTER and LEAVE name. -/
def windowRegs (rd rs1 : Nat) (imm : BitVec 10) : List Nat := if imm.getLsbD 9 then [rd, rs1] else [rd, rs1, imm.toNat % 32]

/-- CWP changed. -/
def Hm.setCwp (h : Hm) (w : Nat) : Hm := { h with hsr := putBits h.hsr 2 0 (w % 8) }

/-- ENTER. -/
def execEnter (rd rs1 : Nat) (imm : BitVec 10) (s : State) : Out :=
  s.instrR (windowRegs rd rs1 imm) fun t =>
    if t.hm.resident (t.hm.cwp + 6) then t.trap 0x05
    else
      let v := t.r rs1 + t.windowOperand imm
      let w := (t.hm.cwp + 7) % 8
      let h := { t.hm.setCwp w with wvm := setBit8 t.hm.wvm w true }
      { t with hm := h.setRegIn w rd v }.pcNext

/-- LEAVE. -/
def execLeave (rd rs1 : Nat) (imm : BitVec 10) (s : State) : Out :=
  s.instrR (windowRegs rd rs1 imm) fun t =>
    let w := (t.hm.cwp + 1) % 8
    if !t.hm.resident w then t.trap 0x06
    else
      let v := t.r rs1 + t.windowOperand imm
      let h := { t.hm.setCwp w with wvm := setBit8 t.hm.wvm t.hm.cwp false }
      { t with hm := h.setRegIn w rd v }.pcNext

/-- Whether WVM may take a value: it would neither clear the bit of CWP nor, with ET 1, set the bit of CWP − 1 (R599); a bit that already has
the value is not cleared or set. -/
def Hm.wvmOk (h : Hm) (v : BitVec 8) : Bool :=
  !(h.resident h.cwp && !v.getLsbD h.cwp) && !(h.et && !h.resident (h.cwp + 7) && v.getLsbD ((h.cwp + 7) % 8))

/-- WVM written, or an illegal instruction. -/
def State.writeWvm (s : State) (v : BitVec 8) : State :=
  if s.hm.wvmOk v then { s with hm := { s.hm with wvm := v } }.pcNext else s.illegal

/-- WVMSET. -/
def execWvmset (bank : Nat) (s : State) : Out := s.instr fun t => t.writeWvm (setBit8 t.hm.wvm (t.hm.cwp + bank % 8) true)

/-- WVMCLR. -/
def execWvmclr (bank : Nat) (s : State) : Out := s.instr fun t => t.writeWvm (setBit8 t.hm.wvm (t.hm.cwp + bank % 8) false)

/-- A data access that failed: the trap, with memory and registers as they were and the errors that the bus recorded. -/
def State.dataFault (s u : State) (a : Nat) : State :=
  { s with regs := u.regs, freeCtr := u.freeCtr }.faultTrap 0x08 (busCause u.bus.status) (BitVec.ofNat 32 a)

/-- Words stored upward from an address. -/
def State.storeWords (s : State) (a : Nat) : List Word → State × Option Nat
  | [] => (s, none)
  | w :: r =>
    let t := s.dataWrite a (leBytes 4 w.toNat)
    if t.bus.status = .ok then t.storeWords (a + 4) r else (t, some a)

/-- `n` words loaded upward from an address. -/
def State.loadWords (s : State) (a : Nat) : Nat → List Word → State × Option Nat × List Word
  | 0, acc => (s, none, acc)
  | n + 1, acc =>
    let t := s.dataRead a 4
    if t.bus.status = .ok then t.loadWords (a + 4) n (acc ++ [BitVec.ofNat 32 (ofLe t.bus.data)]) else (t, some a, acc)

/-- The registers of a frame in order: L0 to L7, P0 to P3 (R602). -/
def frameRegs : List Nat := [16, 17, 18, 19, 20, 21, 22, 23, 8, 9, 10, 11]

/-- STWIN. -/
def execStwin (window rs : Nat) (s : State) : Out :=
  s.instrR [rs] fun t =>
    let a := (t.r rs).toNat
    let w := (t.hm.cwp + window) % 8
    if window % 8 = 0 then t.illegal
    else if a % 4 ≠ 0 then t.trap 0x07
    else match t.storeWords a (frameRegs.map fun r => t.hm.regIn w r) with
      | (u, none) => (u.watch a 48).pcNext
      | (u, some e) => t.dataFault u e

/-- LDWIN. -/
def execLdwin (window rs : Nat) (s : State) : Out :=
  s.instrR [rs] fun t =>
    let a := (t.r rs).toNat
    let w := (t.hm.cwp + window) % 8
    if window % 8 = 0 then t.illegal
    else if a % 4 ≠ 0 then t.trap 0x07
    else match t.loadWords a 12 [] with
      | (u, none, l) =>
        let h := (frameRegs.zip l).foldl (fun (h : Hm) x => h.setRegIn w x.1 x.2) u.hm
        ({ u with hm := h }.watch a 48).pcNext
      | (u, some e, _) => t.dataFault u e

/-! ### System registers (R618, R619) -/

/-- RDSYS's value. -/
def Hm.sysReg (h : Hm) (n : Nat) : Word :=
  match n % 16 with
  | 0 => h.hsr
  | 1 => h.wvm.setWidth 32
  | 2 => h.tvec
  | 3 => h.estat
  | 4 => h.epc
  | 5 => h.ecause
  | 6 => 0x00003201
  | _ => 0

/-- RDSYS. -/
def execRdsys (rd sys : Nat) (s : State) : Out := s.instrR [rd] fun t => t.ret rd (t.hm.sysReg sys)

/-- WRSYS: reserved bits of HSR and of ESTAT stay 0; EPC keeps bits [1:0] at 0. -/
def execWrsys (sys rs : Nat) (s : State) : Out :=
  s.instrR [rs] fun t =>
    let v := t.r rs
    match sys % 16 with
    | 0 => { t with hm := { t.hm with hsr := v &&& hsrMask } }.pcNext
    | 1 => t.writeWvm (v.setWidth 8)
    | 2 => { t with hm := { t.hm with tvec := v &&& 0xFFFFF800 } }.pcNext
    | 3 => { t with hm := { t.hm with estat := v &&& hsrMask } }.pcNext
    | 4 => { t with hm := { t.hm with epc := v &&& 0xFFFFFFFC } }.pcNext
    | _ => t.illegal

/-- SYSCALL. -/
def execSyscall (imm : BitVec 10) (s : State) : Out := s.instr fun t => t.trap (0x20 + imm.toNat % 32)

/-- ERET (R606). -/
def execEret (skip : Bool) (s : State) : Out :=
  s.instr fun t =>
    if t.hm.et then t.illegal
    else { t with hm := { t.hm with
      wvm := setBit8 t.hm.wvm t.hm.cwp false, hsr := t.hm.estat, pc := if skip then t.hm.epc + 4 else t.hm.epc } }

/-- RDFLT: codes 0 and 1; what another code reads is not stated. -/
def execRdflt (rd code : Nat) (s : State) : Out :=
  s.instrR [rd] fun t =>
    if code = 0 then t.ret rd (BitVec.ofNat 32 t.hm.fltCause)
    else if code = 1 then t.ret rd t.hm.fltAddr
    else t.usedFree.ret rd (t.free.setWidth 32)

/-- WFI: no wait when an interrupt qualifies already. -/
def execWfi (s : State) : Out := s.instr fun t => { t with hm := { t.hm with waiting := t.qualifies.isNone } }.pcNext

/-! ### Cache instructions and MEMBAR -/

/-- The line that rs1 + imm10 lies in; the offset is taken as unsigned. -/
def State.cacheLine (s : State) (rs : Nat) (imm : BitVec 10) : Nat := lineOf (s.r rs + imm.setWidth 32).toNat

/-- The write-back of a cache instruction, with the data access fault of a failed one. -/
def State.backThen (s : State) (line : Nat) (k : State → State) : State :=
  let t := s.writeBack line
  if t.bus.status = .ok then (k t).pcNext else s.dataFault t line

/-- CWB. -/
def execCwb (rs : Nat) (imm : BitVec 10) (s : State) : Out :=
  s.instrR [rs] fun t => t.backThen (t.cacheLine rs imm) fun u => u

/-- CINV: a dirty line is discarded. -/
def execCinv (rs : Nat) (imm : BitVec 10) (s : State) : Out :=
  s.instrR [rs] fun t => (t.dropLine (t.cacheLine rs imm)).pcNext

/-- CWBINV. -/
def execCwbinv (rs : Nat) (imm : BitVec 10) (s : State) : Out :=
  s.instrR [rs] fun t => t.backThen (t.cacheLine rs imm) fun u => u.dropLine (t.cacheLine rs imm)

/-- FLUSHI. -/
def execFlushi (s : State) : Out := s.instr fun t => { t with hm := { t.hm with icache := [], icacheBad := [] } }.pcNext

/-- MEMBAR: every access of the model completes within its instruction (R595). -/
def execMembar (s : State) : Out := s.instr fun t => t.pcNext

/-! ### Loads, stores, branches, ordinary instructions -/

/-- The width of a load or store. -/
def HmMemOp.size : HmMemOp → Nat
  | .load8s | .load8u | .store8 => 1
  | .load16s | .load16u | .store16 => 2
  | .load32 | .store32 => 4

/-- Whether it stores. -/
def HmMemOp.stores : HmMemOp → Bool
  | .store8 | .store16 | .store32 => true
  | _ => false

/-- The register value of loaded bytes. -/
def HmMemOp.value (op : HmMemOp) (d : Bytes) : Word :=
  match op with
  | .load8s => (BitVec.ofNat 8 (ofLe d)).signExtend 32
  | .load16s => (BitVec.ofNat 16 (ofLe d)).signExtend 32
  | _ => BitVec.ofNat 32 (ofLe d)

/-- HM_LOAD_STORE: a store takes its data from rd. -/
def execHmLoadStore (op : HmMemOp) (rd rs1 : Nat) (imm : Word) (s : State) : Out :=
  s.instrR [rd, rs1] fun t =>
    let a := (t.r rs1 + imm).toNat
    let n := HmMemOp.size op
    if a % n ≠ 0 then t.trap 0x07
    else if HmMemOp.stores op then
      let u := t.dataWrite a (leBytes n (t.r rd).toNat)
      if u.bus.status = .ok then (u.watch a n).pcNext else t.dataFault u a
    else
      let u := t.dataRead a n
      if u.bus.status = .ok then (u.watch a n).ret rd (HmMemOp.value op u.bus.data) else t.dataFault u a

/-- A jump to a target; one that is not a multiple of 4 traps (Table HMC-3). -/
def State.jump (s : State) (target : Word) : State :=
  if target.toNat % 4 ≠ 0 then s.trap 0x07 else { s with hm := { s.hm with pc := target } }

/-- The target of a displacement in words. -/
def State.branchTarget (s : State) (disp : Word) : Word := s.hm.pc + 4 * (disp + Config.branchBase)

/-- The registers that a branch or jump names. -/
def branchRegs (op : HmBranchOp) (rd rs1 : Nat) : List Nat :=
  match op with
  | .cond _ => []
  | .jump => []
  | .call => [rd]
  | .jumpReg => [rd, rs1]

/-- HM_BRANCH: formats BR and J by displacement, and the jump to a register; a call and a register jump leave the address of the next
instruction in rd. -/
def execHmBranch (op : HmBranchOp) (rd rs1 _rs2 : Nat) (imm : Word) (s : State) : Out :=
  s.instrR (branchRegs op rd rs1) fun t =>
    match op with
    | .cond c => if Config.hmCond c t.hm.hsr then t.jump (t.branchTarget imm) else t.pcNext
    | .jump => t.jump (t.branchTarget imm)
    | .call => (t.setR rd (t.hm.pc + 4)).jump (t.branchTarget imm)
    | .jumpReg =>
      let a := t.r rs1 + imm
      if a.toNat % 4 ≠ 0 then t.trap 0x07 else (t.setR rd (t.hm.pc + 4)).jump a

/-- HM_INTEGER_INSTRUCTION: ADDI, and the ALU instructions that the spec does not list, whose result is open. -/
def execHmIntegerInstruction (op : HmIntOp) (rd rs1 rs2 : Nat) (imm : Word) (s : State) : Out :=
  match op with
  | .addi => s.instrR [rd, rs1] fun t => t.ret rd (t.r rs1 + imm)
  | .other opc func useImm =>
    s.instrR (if useImm then [rd, rs1] else [rd, rs1, rs2]) fun t =>
      t.ret rd (Config.hmAlu opc func (t.r rs1) (if useImm then imm else t.r rs2))

/-- HM_UNDEFINED_ENCODING. -/
def execHmUndefinedEncoding (_word : Word) (s : State) : Out := s.instr fun t => t.illegal

/-! ### Interrupts (R604, R608 to R610) -/

/-- INTERRUPT_TAKEN: the INTC marks the source in service and records it in INTC_TAKEN; ILVL becomes the level, at most 7. With ET 0 an interrupt
only ends a wait in WFI. -/
def execInterruptTaken (s : State) : Out :=
  .next (if !s.hmRuns || s.dbg.halted then s
    else match s.qualifies with
    | none => s
    | some n =>
      if !s.hm.et then { s with hm := { s.hm with waiting := false } }
      else
        let lv := s.irqLevel n
        let t := s.serve n
        let h := t.hm.enter (0x0F + lv + 256 * n) (0x0F + lv)
        { t with hm := { h with hsr := putBits h.hsr 10 8 (min lv 7), taken := n } })

/-! ### Integer arithmetic (R627 to R636) -/

/-- A three-register instruction of the integer group. -/
def State.alu (s : State) (rd rs1 rs2 : Nat) (f : Word → Word → Word) : Out :=
  s.instrR [rd, rs1, rs2] fun t => t.ret rd (f (t.r rs1) (t.r rs2))

/-- The signed product. -/
def smul (a b : Word) : Int := a.toInt * b.toInt

/-- MUL_LO. -/
def execMulLo (rd rs1 rs2 : Nat) (s : State) : Out := s.alu rd rs1 rs2 fun a b => a * b

/-- MUL_HS. -/
def execMulHs (rd rs1 rs2 : Nat) (s : State) : Out := s.alu rd rs1 rs2 fun a b => BitVec.ofInt 32 (smul a b / 4294967296)

/-- MUL_HU. -/
def execMulHu (rd rs1 rs2 : Nat) (s : State) : Out := s.alu rd rs1 rs2 fun a b => BitVec.ofNat 32 (a.toNat * b.toNat / 4294967296)

/-- Whether rd names a register pair: even, 2 to 22 (R628). -/
def pairOk (rd : Nat) : Bool := rd % 2 == 0 && decide (2 ≤ rd) && decide (rd ≤ 22)

/-- A widening multiply into rd and rd + 1. -/
def State.mulw (s : State) (rd rs1 rs2 : Nat) (f : Word → Word → DWord) : Out :=
  s.instrR [rd, rs1, rs2] fun t =>
    if !pairOk rd then t.illegal
    else
      let p := f (t.r rs1) (t.r rs2)
      ((t.setR rd (p.setWidth 32)).setR (rd + 1) ((p >>> 32).setWidth 32)).pcNext

/-- MULW_S. -/
def execMulwS (rd rs1 rs2 : Nat) (s : State) : Out := s.mulw rd rs1 rs2 fun a b => BitVec.ofInt 64 (smul a b)

/-- MULW_U. -/
def execMulwU (rd rs1 rs2 : Nat) (s : State) : Out := s.mulw rd rs1 rs2 fun a b => BitVec.ofNat 64 (a.toNat * b.toNat)

/-- A carry-chained addition (R629, R630): `cin` the carry in, `chain` whether Z accumulates. -/
def State.addFlags (s : State) (rd rs1 rs2 : Nat) (chain : Bool) : Out :=
  s.instrR [rd, rs1, rs2] fun t =>
    let a := t.r rs1
    let b := t.r rs2
    { t with hm := t.hm.addFlags chain a b }.ret rd (a + b + t.hm.carryIn chain)

/-- A carry-chained subtraction: C is the borrow. -/
def State.subFlags (s : State) (rd rs1 rs2 : Nat) (chain : Bool) : Out :=
  s.instrR [rd, rs1, rs2] fun t =>
    let a := t.r rs1
    let b := t.r rs2
    { t with hm := t.hm.subFlags chain a b }.ret rd (a - b - t.hm.carryIn chain)

/-- ADDF. -/
def execAddf (rd rs1 rs2 : Nat) (s : State) : Out := s.addFlags rd rs1 rs2 false

/-- ADDCF. -/
def execAddcf (rd rs1 rs2 : Nat) (s : State) : Out := s.addFlags rd rs1 rs2 true

/-- SUBF. -/
def execSubf (rd rs1 rs2 : Nat) (s : State) : Out := s.subFlags rd rs1 rs2 false

/-- SUBBF. -/
def execSubbf (rd rs1 rs2 : Nat) (s : State) : Out := s.subFlags rd rs1 rs2 true

/-- A divide: a divisor of 0 traps first (R636). -/
def State.hmDivide (s : State) (rd rs1 rs2 : Nat) (f : Word → Word → Word) : Out :=
  s.instrR [rd, rs1, rs2] fun t => if t.r rs2 = 0 then t.divTrap else t.ret rd (f (t.r rs1) (t.r rs2))

/-- DIV_S: −2³¹ / −1 gives 0x8000_0000 (R634). -/
def execDivS (rd rs1 rs2 : Nat) (s : State) : Out := s.hmDivide rd rs1 rs2 fun a b => BitVec.ofInt 32 (Int.tdiv a.toInt b.toInt)

/-- DIV_U. -/
def execDivU (rd rs1 rs2 : Nat) (s : State) : Out := s.hmDivide rd rs1 rs2 fun a b => BitVec.ofNat 32 (a.toNat / b.toNat)

/-- REM_S: the remainder takes the sign of the dividend. -/
def execRemS (rd rs1 rs2 : Nat) (s : State) : Out := s.hmDivide rd rs1 rs2 fun a b => BitVec.ofInt 32 (Int.tmod a.toInt b.toInt)

/-- REM_U. -/
def execRemU (rd rs1 rs2 : Nat) (s : State) : Out := s.hmDivide rd rs1 rs2 fun a b => BitVec.ofNat 32 (a.toNat % b.toNat)

/-- DIVL_U (R635). -/
def execDivlU (rd rs2 : Nat) (s : State) : Out :=
  s.instrR [rd, rs2] fun t =>
    let d := (t.r rs2).toNat
    let hi := (t.r (rd + 1)).toNat
    let n := (t.r rd).toNat + 4294967296 * hi
    if !pairOk rd then t.illegal
    else if d = 0 then t.divTrap
    else if hi ≥ d then
      let u := (t.setR rd 0xFFFFFFFF).setR (rd + 1) 0xFFFFFFFF
      { u with hm := { u.hm with hsr := putBit u.hm.hsr 13 true } }.pcNext
    else
      let u := (t.setR rd (BitVec.ofNat 32 (n / d))).setR (rd + 1) (BitVec.ofNat 32 (n % d))
      { u with hm := { u.hm with hsr := putBit u.hm.hsr 13 false } }.pcNext

/-- Leading zeros of a 32-bit word: 32 less its bit length. -/
def clz32 (w : Word) : Nat := ((List.range 32).find? fun i => w.getLsbD (31 - i)).getD 32

/-- CLZ. -/
def execClz (rd rs1 : Nat) (s : State) : Out := s.instrR [rd, rs1] fun t => t.ret rd (BitVec.ofNat 32 (clz32 (t.r rs1)))

end Sys2Proof.Machine
end

