-- ==== Sys2Proof/Machine/Float.lean ====
section
/-! DEFINITION. IEEE 754-2019 arithmetic in binary32 and binary64 on exact integers (R637 to R646). -/

namespace Sys2Proof.Machine

/-! ### Formats and values -/

/-- Precision, bias and exponent bits of a format. -/
def FpFmt.p : FpFmt → Nat
  | .s => 24
  | .d => 53
def FpFmt.bias : FpFmt → Nat
  | .s => 127
  | .d => 1023
def FpFmt.ebits : FpFmt → Nat
  | .s => 8
  | .d => 11

/-- The exponent of the least quantum: of subnormal numbers. -/
def FpFmt.qmin (f : FpFmt) : Int := 1 - (FpFmt.bias f : Int) - ((FpFmt.p f : Int) - 1)

/-- A decoded value; a finite one is (−1)^neg × m × 2^e. -/
inductive FpVal where
  | nan (bits : Nat) (sig : Bool)
  | inf (neg : Bool)
  | fin (neg : Bool) (m : Nat) (e : Int)
deriving DecidableEq, Repr

/-- The bits of a format: the sign, the exponent and the fraction. -/
def FpFmt.pack (f : FpFmt) (neg : Bool) (ex fr : Nat) : Nat :=
  fr + ex * 2 ^ (FpFmt.p f - 1) + neg.toNat * 2 ^ (FpFmt.p f - 1 + FpFmt.ebits f)

/-- The value that a register's bits hold in a format. -/
def FpFmt.unpack (f : FpFmt) (w : Nat) : FpVal :=
  let fr := w % 2 ^ (FpFmt.p f - 1)
  let ex := w / 2 ^ (FpFmt.p f - 1) % 2 ^ FpFmt.ebits f
  let neg := w / 2 ^ (FpFmt.p f - 1 + FpFmt.ebits f) % 2 == 1
  if ex = 2 ^ FpFmt.ebits f - 1 then
    (if fr = 0 then .inf neg else .nan (FpFmt.pack f neg ex fr) (fr / 2 ^ (FpFmt.p f - 2) == 0))
  else if ex = 0 then .fin neg fr (FpFmt.qmin f)
  else .fin neg (fr + 2 ^ (FpFmt.p f - 1)) ((FpFmt.qmin f) + (ex : Int) - 1)

/-- The bits of infinity, of zero, of the default NaN, and of a NaN made quiet (R642). -/
def FpFmt.infBits (f : FpFmt) (neg : Bool) : Nat := FpFmt.pack f neg (2 ^ FpFmt.ebits f - 1) 0
def FpFmt.zeroBits (f : FpFmt) (neg : Bool) : Nat := FpFmt.pack f neg 0 0
def FpFmt.defaultNan (f : FpFmt) : Nat := FpFmt.pack f false (2 ^ FpFmt.ebits f - 1) (2 ^ (FpFmt.p f - 2))
def FpFmt.quiet (f : FpFmt) (w : Nat) : Nat := w ||| 2 ^ (FpFmt.p f - 2)
def FpFmt.maxBits (f : FpFmt) (neg : Bool) : Nat := FpFmt.pack f neg (2 ^ FpFmt.ebits f - 2) (2 ^ (FpFmt.p f - 1) - 1)

/-- Exception bits in AEXC order. -/
def nxBit : Nat := 1
def ufBit : Nat := 2
def ofBit : Nat := 4
def dzBit : Nat := 8
def nvBit : Nat := 16

/-- A result: the bits and the exceptions. -/
abbrev FpRes := Nat × Nat

/-! ### Rounding (R640, R641) -/

/-- The rounding modes of FSR.RM: 0 to nearest, ties to even; 1 ties away; 2 toward zero; 3 upward; 4 downward. -/
def roundsUp (mode : Nat) (neg odd : Bool) (rem half2 : Nat) : Bool :=
  match mode with
  | 0 => decide (rem * 2 > half2) || (decide (rem * 2 = half2) && odd)
  | 1 => decide (rem * 2 ≥ half2)
  | 3 => decide (rem > 0) && !neg
  | 4 => decide (rem > 0) && neg
  | _ => false

/-- A magnitude m × 2^e, with `sticky` for a part below its last bit, as a multiple of 2^q: the rounded multiple and whether it is inexact. -/
def roundAt (mode : Nat) (neg : Bool) (m : Nat) (e q : Int) (sticky : Bool) : Nat × Bool :=
  let m2 := 2 * m + sticky.toNat
  let e2 := e - 1
  if q ≤ e2 then (m2 * 2 ^ (e2 - q).toNat, false)
  else
    let k := (q - e2).toNat
    let low := m2 % 2 ^ k
    let r := m2 / 2 ^ k
    (r + (roundsUp mode neg (r % 2 == 1) low (2 ^ k)).toNat, low != 0)

/-- Bit length of a number, by a search from above. -/
def bitLen (m : Nat) : Nat := if m = 0 then 0 else Nat.log2 m + 1

/-- A finite result rounded into a format: its bits and OF, UF, NX. `trapUf` is the UF trap enable. -/
def FpFmt.round (f : FpFmt) (mode : Nat) (trapUf : Bool) (neg : Bool) (m : Nat) (e : Int) (sticky : Bool := false) : FpRes :=
  if m = 0 ∧ !sticky then (FpFmt.zeroBits f neg, 0)
  else
    let p := FpFmt.p f
    let top := (bitLen m : Int) + e
    let q0 := top - p
    let q := max q0 (FpFmt.qmin f)
    let (r, inexact) := roundAt mode neg m e q sticky
    let (u, _) := roundAt mode neg m e q0 sticky
    -- tiny: rounded as though the exponent range were unbounded, below the smallest normal number 2^(qmin + p - 1)
    let utop := (bitLen u : Int) + q0
    let tiny := decide (utop ≤ (FpFmt.qmin f) + (p : Int) - 1)
    let uf := if tiny && (inexact || trapUf) then ufBit else 0
    let nx := if inexact then nxBit else 0
    let isOver := decide ((bitLen r : Int) + q > (FpFmt.bias f : Int) + 1)
    if isOver then
      let toInf := mode == 0 || mode == 1 || (mode == 3 && !neg) || (mode == 4 && neg)
      (if toInf then FpFmt.infBits f neg else FpFmt.maxBits f neg, ofBit + nxBit)
    else if r < 2 ^ (p - 1) then (FpFmt.pack f neg 0 r, uf + nx)
    else
      let r1 := if r = 2 ^ p then 2 ^ (p - 1) else r
      let q1 := if r = 2 ^ p then q + 1 else q
      (FpFmt.pack f neg ((q1 - (FpFmt.qmin f)).toNat + 1) (r1 - 2 ^ (p - 1)), uf + nx)

/-! ### Operations -/

/-- Whether a value is a signalling NaN, or any NaN. -/
def FpVal.isSig : FpVal → Bool
  | .nan _ s => s
  | _ => false
def FpVal.isNan : FpVal → Bool
  | .nan _ _ => true
  | _ => false

/-- The first NaN among the operands, quieted (R642). -/
def FpFmt.firstNan (f : FpFmt) : List FpVal → Option Nat
  | [] => none
  | .nan b _ :: _ => some (FpFmt.quiet f b)
  | _ :: r => FpFmt.firstNan f r

/-- NV when an operand is a signalling NaN. -/
def sigNv (l : List FpVal) : Nat := if l.any FpVal.isSig then nvBit else 0

/-- The invalid operation's result. -/
def FpFmt.invalid (f : FpFmt) : FpRes := ((FpFmt.defaultNan f), nvBit)

/-- A signed magnitude as an integer multiple of 2^q. -/
def scaled (neg : Bool) (m : Nat) (e q : Int) : Int :=
  let v : Int := (m * 2 ^ (e - q).toNat : Nat)
  if neg then -v else v

/-- The exact sum of two finite values, rounded; an exact zero of unlike signs is +0, or −0 toward negative. `negate` inverts the sum before
rounding. -/
def FpFmt.sum (f : FpFmt) (mode : Nat) (trapUf : Bool) (negate : Bool) (na : Bool) (ma : Nat) (ea : Int) (nb : Bool) (mb : Nat) (eb : Int) : FpRes :=
  let q := min ea eb
  let v := scaled na ma ea q + scaled nb mb eb q
  if v = 0 then (FpFmt.zeroBits f (xor negate (if na == nb then na else mode == 4)), 0)
  else FpFmt.round f mode trapUf (xor negate (decide (v < 0))) v.natAbs q

/-- FADD, and FSUB with `sub`. -/
def FpFmt.add (f : FpFmt) (mode : Nat) (tu : Bool) (sub : Bool) (x y : Nat) : FpRes :=
  let a := FpFmt.unpack f x
  let b := FpFmt.unpack f y
  match FpFmt.firstNan f [a, b] with
  | some n => (n, sigNv [a, b])
  | none => match a, b with
    | .inf na, .inf nb => if na == xor nb sub then (FpFmt.infBits f na, 0) else (FpFmt.invalid f)
    | .inf na, _ => (FpFmt.infBits f na, 0)
    | _, .inf nb => (FpFmt.infBits f (xor nb sub), 0)
    | .fin na ma ea, .fin nb mb eb => FpFmt.sum f mode tu false na ma ea (xor nb sub) mb eb
    | _, _ => (FpFmt.invalid f)

/-- FMUL. -/
def FpFmt.mul (f : FpFmt) (mode : Nat) (tu : Bool) (x y : Nat) : FpRes :=
  let a := FpFmt.unpack f x
  let b := FpFmt.unpack f y
  match FpFmt.firstNan f [a, b] with
  | some n => (n, sigNv [a, b])
  | none => match a, b with
    | .inf na, .inf nb => (FpFmt.infBits f (xor na nb), 0)
    | .inf na, .fin nb m _ => if m = 0 then (FpFmt.invalid f) else (FpFmt.infBits f (xor na nb), 0)
    | .fin na m _, .inf nb => if m = 0 then (FpFmt.invalid f) else (FpFmt.infBits f (xor na nb), 0)
    | .fin na ma ea, .fin nb mb eb => FpFmt.round f mode tu (xor na nb) (ma * mb) (ea + eb)
    | _, _ => (FpFmt.invalid f)

/-- FMAC, FMSC with `sub`, FNMAC with `neg` (R643). -/
def FpFmt.fma (f : FpFmt) (mode : Nat) (tu : Bool) (sub neg : Bool) (x y z : Nat) : FpRes :=
  let a := FpFmt.unpack f x
  let b := FpFmt.unpack f y
  let c := FpFmt.unpack f z
  let bad := match a, b with
    | .inf _, .fin _ m _ => m == 0
    | .fin _ m _, .inf _ => m == 0
    | _, _ => false
  match FpFmt.firstNan f [a, b, c] with
  | some n => (n, if bad then nvBit else sigNv [a, b, c])
  | none =>
    if bad then (FpFmt.invalid f)
    else match a, b, c with
      | .fin na ma ea, .fin nb mb eb, .fin nc mc ec => FpFmt.sum f mode tu neg (xor na nb) (ma * mb) (ea + eb) (xor nc sub) mc ec
      | .fin .., .fin .., .inf nc => (FpFmt.infBits f (xor (xor nc sub) neg), 0)
      | _, _, _ =>
        let s := match a, b with
          | .inf na, .inf nb => xor na nb
          | .inf na, .fin nb _ _ => xor na nb
          | .fin na _ _, .inf nb => xor na nb
          | _, _ => false
        match c with
        | .inf nc => if s == xor nc sub then (FpFmt.infBits f (xor s neg), 0) else (FpFmt.invalid f)
        | _ => (FpFmt.infBits f (xor s neg), 0)

/-- FDIV. -/
def FpFmt.div (f : FpFmt) (mode : Nat) (tu : Bool) (x y : Nat) : FpRes :=
  let a := FpFmt.unpack f x
  let b := FpFmt.unpack f y
  match FpFmt.firstNan f [a, b] with
  | some n => (n, sigNv [a, b])
  | none => match a, b with
    | .inf _, .inf _ => (FpFmt.invalid f)
    | .inf na, .fin nb _ _ => (FpFmt.infBits f (xor na nb), 0)
    | .fin na _ _, .inf nb => (FpFmt.zeroBits f (xor na nb), 0)
    | .fin na ma ea, .fin nb mb eb =>
      if mb = 0 then (if ma = 0 then (FpFmt.invalid f) else (FpFmt.infBits f (xor na nb), dzBit))
      else
        let k := 2 * FpFmt.p f + 4
        let n := ma * 2 ^ k
        FpFmt.round f mode tu (xor na nb) (n / mb) (ea - eb - k) (n % mb != 0)
    | _, _ => (FpFmt.invalid f)

/-- The integer square root, bit by bit from bit `n − 1` down. -/
def isqrt (v : Nat) : Nat → Nat → Nat
  | 0, r => r
  | n + 1, r => let t := r + 2 ^ n; isqrt v n (if t * t ≤ v then t else r)

/-- FSQRT. -/
def FpFmt.sqrt (f : FpFmt) (mode : Nat) (tu : Bool) (x : Nat) : FpRes :=
  let a := FpFmt.unpack f x
  match a with
  | .nan b _ => (FpFmt.quiet f b, sigNv [a])
  | .inf n => if n then (FpFmt.invalid f) else (FpFmt.infBits f false, 0)
  | .fin n m e =>
    if m = 0 then (FpFmt.zeroBits f n, 0)
    else if n then (FpFmt.invalid f)
    else
      let k : Nat := 2 * FpFmt.p f + 4 + (e % 2).toNat
      let v := m * 2 ^ k
      let r := isqrt v (bitLen v / 2 + 1) 0
      FpFmt.round f mode tu false r ((e - k) / 2) (r * r != v)

/-- The sign and magnitude order of two finite or infinite values: whether a < b, and whether a = b. -/
def FpVal.cmp (a b : FpVal) : Bool × Bool :=
  match a, b with
  | .inf na, .inf nb => (na && !nb, na == nb)
  | .inf na, _ => (na, false)
  | _, .inf nb => (!nb, false)
  | .fin na ma ea, .fin nb mb eb =>
    let q := min ea eb
    let u := scaled na ma ea q
    let v := scaled nb mb eb q
    (decide (u < v), decide (u = v))
  | _, _ => (false, false)

/-- The sign of a value that is not a NaN. -/
def FpVal.neg : FpVal → Bool
  | .inf n => n
  | .fin n _ _ => n
  | .nan _ _ => false

/-- FMINN, and FMAXN with `max` (R644). -/
def FpFmt.minmax (f : FpFmt) (max : Bool) (x y : Nat) : FpRes :=
  let a := FpFmt.unpack f x
  let b := FpFmt.unpack f y
  let w := 2 ^ (FpFmt.p f + FpFmt.ebits f)
  if a.isNan && b.isNan then ((FpFmt.defaultNan f), sigNv [a, b])
  else if a.isNan then (y % w, sigNv [a, b])
  else if b.isNan then (x % w, sigNv [a, b])
  else
    let (lt, eq) := a.cmp b
    let aFirst := lt || (eq && a.neg)
    ((if aFirst == max then y else x) % w, 0)

/-- FCMPEQ 0, FCMPLT 1, FCMPLE 2: the relation, and NV for a signalling NaN, or for any NaN of the signalling relations. -/
def FpFmt.compare (f : FpFmt) (rel x y : Nat) : FpRes :=
  let a := FpFmt.unpack f x
  let b := FpFmt.unpack f y
  if a.isNan || b.isNan then (0, if rel = 0 then sigNv [a, b] else nvBit)
  else
    let (lt, eq) := a.cmp b
    ((if rel = 0 then eq else if rel = 1 then lt else lt || eq).toNat, 0)

/-- FTOI and FTOU: a value converted by a mode into a range, saturating with NV (R645); the word and the exceptions. -/
def FpFmt.toInt (f : FpFmt) (mode : Nat) (lo hi : Int) (x : Nat) : FpRes :=
  let word (v : Int) : Nat := (BitVec.ofInt 32 v).toNat
  match FpFmt.unpack f x with
  | .nan _ _ => (0, nvBit)
  | .inf n => (word (if n then lo else hi), nvBit)
  | .fin n m e =>
    let (r, inexact) := roundAt mode n m e 0 false
    let v : Int := if n then -(r : Int) else r
    if v < lo then (word lo, nvBit)
    else if hi < v then (word hi, nvBit)
    else (word v, if inexact then nxBit else 0)

/-- ITOF and UTOF. -/
def FpFmt.ofInt (f : FpFmt) (mode : Nat) (tu : Bool) (v : Int) : FpRes := FpFmt.round f mode tu (decide (v < 0)) v.natAbs 0

/-- FTOF to a format from the other one; a NaN keeps the high bits of its payload. -/
def FpFmt.convert (dst : FpFmt) (mode : Nat) (tu : Bool) (x : Nat) : FpRes :=
  let src : FpFmt := match dst with
    | .s => .d
    | .d => .s
  match FpFmt.unpack src x with
  | .nan b s =>
    let fr := b % 2 ^ (FpFmt.p src - 1)
    let neg := b / 2 ^ (FpFmt.p src - 1 + FpFmt.ebits src) % 2 == 1
    let fr := match dst with
      | .d => fr * 2 ^ 29
      | .s => fr / 2 ^ 29
    (FpFmt.quiet dst (FpFmt.pack dst neg (2 ^ FpFmt.ebits dst - 1) fr), if s then nvBit else 0)
  | .inf n => (FpFmt.infBits dst n, 0)
  | .fin n m e => FpFmt.round dst mode tu n m e

end Sys2Proof.Machine
end

