-- ==== Sys2Proof/Machine/HmFloat.lean ====
section
/-! DEFINITION. The floating-point instructions of the Harbourmaster, the exception queue, FBAR and the FP state instructions (R637 to R657). -/

namespace Sys2Proof.Machine

/-! ### FSR, FQ and the instructions in flight (R647 to R650) -/

/-- FSR as read: QCOUNT and QNE are the queue's. -/
def Hm.fsrWord (h : Hm) : Word := putBit (putBits h.fsr 20 18 h.fq.length) 21 (!h.fq.isEmpty)

/-- The oldest instruction in flight completes: CEXC and AEXC, and the queue when it traps or while QNE is set. -/
def Hm.completeOne (h : Hm) : Hm :=
  match h.flight with
  | [] => h
  | op :: r =>
    let fsr := putBits (putBits h.fsr 17 13 op.exc) 7 3 (bits h.fsr 7 3 ||| op.exc)
    let traps := (bits h.fsr 12 8 &&& op.exc) != 0
    let fq := if traps || !h.fq.isEmpty then h.fq ++ [{ pc := op.pc, instr := op.instr, exc := op.exc }] else h.fq
    { h with flight := r, fsr := fsr, fq := fq }

/-- The `n` oldest instructions in flight complete. -/
def Hm.completeN (h : Hm) : Nat → Hm
  | 0 => h
  | n + 1 => h.completeOne.completeN n

/-- Every instruction in flight completes. -/
def Hm.completeAll (h : Hm) : Hm := h.completeN h.flight.length

/-- FP_INSTRUCTION_COMPLETE. -/
def execFpInstructionComplete (s : State) : Out := .next (if s.boot.held then s else { s with hm := s.hm.completeOne })

/-- How many instructions in flight an instruction waits for at issue: a place among the four, the divider, its operands and its destination. -/
def Hm.waitsFor (h : Hm) (uses : List Nat) (divider : Bool) : Nat :=
  let l := h.flight
  let at_ (p : FpOp → Bool) : Nat := ((List.range l.length).filter fun i => (l[i]?.map p).getD false).foldl (fun n i => max n (i + 1)) 0
  max (l.length - 3) (max (at_ fun o => divider && o.divider) (at_ fun o => match o.dest with
    | some d => uses.contains d
    | none => false))

/-- The FP exception trap: VEC 0x02, with the address in L1 of the trap window (R648, Table HMC-3). -/
def State.fpTrap (s : State) : State :=
  if s.hm.et then
    let h := s.hm.enter 0x02 0x02
    { s with hm := h.setRegIn h.cwp 17 s.hm.pc }
  else s.errorMode 0x02

/-- An FP instruction's operands and form: its word, whether its encoding is illegal, the FP registers it uses, its FP destination, whether
it holds the divider. -/
structure FpForm where
  word : Word
  bad : Bool := false
  uses : List Nat
  dest : Option Nat
  divider : Bool := false
deriving DecidableEq, Repr

/-- An FP instruction at issue: it waits for those it depends on; then a pending exception, an illegal form, FE, in the priority of Table
HMC-3; then its effect with the exceptions it will write at its completion, or a trap (none). -/
def State.fpInstr (s : State) (f : FpForm) (body : State → State × Option Nat) : Out :=
  s.instr fun t0 =>
    let t := { t0 with hm := t0.hm.completeN (t0.hm.waitsFor (f.uses ++ f.dest.toList) f.divider) }
    if !t.hm.fq.isEmpty then t.fpTrap
    else if f.bad then t.illegal
    else if !t.hm.fe then t.trap 0x04
    else
      match body t with
      | (u, none) => u
      | (u, some exc) =>
        let op : FpOp := { pc := t.hm.pc, instr := f.word, dest := f.dest, divider := f.divider, exc := exc }
        { u with hm := { u.hm with flight := u.hm.flight ++ [op] } }.pcNext

/-! ### Encodings and operands (R638) -/

/-- The code of a format in FUNC10. -/
def FpFmt.code : FpFmt → Nat
  | .s => 0
  | .d => 1

/-- The word of an instruction of Table HMA-2. -/
def fpWord (fmt : FpFmt) (op rd rs1 rs2 rm : Nat) : Word :=
  BitVec.ofNat 32 (0x3A + 128 * (rd % 32) + 4096 * (rs1 % 32) + 131072 * (rs2 % 32) + 4194304 * (rm % 8 + 8 * (op % 64) + 512 * FpFmt.code fmt))

/-- The word of an FP load or store: format RI. -/
def fpMemWord (opc rd rs1 : Nat) (imm : Word) : Word :=
  BitVec.ofNat 32 (opc + 128 * (rd % 32) + 4096 * (rs1 % 32) + 131072 * (imm.toNat % 32768))

/-- An FP register's bits. -/
def State.f (s : State) (n : Nat) : Nat := (s.hm.f.getD (n % 32) 0).toNat

/-- An FP register written; a binary32 result clears bits [63:32] (R637). -/
def State.setF (s : State) (n : Nat) (fmt : FpFmt) (v : Nat) : State :=
  let w : DWord := match fmt with
    | .s => BitVec.ofNat 64 (v % 4294967296)
    | .d => BitVec.ofNat 64 v
  { s with hm := { s.hm with f := s.hm.f.set (n % 32) w } }

/-- The operand's bits in a format. -/
def State.fIn (s : State) (n : Nat) (fmt : FpFmt) : Nat :=
  match fmt with
  | .s => s.f n % 4294967296
  | .d => s.f n

/-- The rounding mode in force: FSR's for RM 0, else RM − 1 (Table HMA-3; FSR.RM k is the mode that RM k + 1 names). -/
def State.mode (s : State) (rm : Nat) : Nat := if rm % 8 = 0 then bits s.hm.fsr 2 0 else rm % 8 - 1

/-- The UF trap enable. -/
def State.trapUf (s : State) : Bool := bit s.hm.fsr 9

/-- RM values 6 and 7 are illegal. -/
def rmBad (rm : Nat) : Bool := decide (rm % 8 ≥ 6)

/-- A computation from FP registers to an FP register. -/
def State.fpCompute (s : State) (fmt : FpFmt) (op fd fs1 fs2 rm : Nat) (uses : List Nat) (divider : Bool) (body : State → FpRes) : Out :=
  s.fpInstr { word := fpWord fmt op fd fs1 fs2 rm, bad := rmBad rm, uses := uses, dest := some (fd % 32), divider := divider } fun t =>
    let r := body t
    (t.setF fd fmt r.1, some r.2)

/-- A computation from FP registers to an integer register. -/
def State.fpToInt (s : State) (fmt : FpFmt) (op rd fs1 fs2 rm : Nat) (body : State → FpRes) : Out :=
  s.fpInstr { word := fpWord fmt op rd fs1 fs2 rm, bad := rmBad rm || decide (rd ≥ 24), uses := [fs1 % 32, fs2 % 32], dest := none } fun t =>
    let r := body t
    (t.setR rd (BitVec.ofNat 32 r.1), some r.2)

/-! ### The instructions of Table HMA-2 -/

/-- FADD. -/
def execFadd (fmt : FpFmt) (fd fs1 fs2 rm : Nat) (s : State) : Out :=
  s.fpCompute fmt 0x00 fd fs1 fs2 rm [fs1 % 32, fs2 % 32] false fun t => FpFmt.add fmt (t.mode rm) t.trapUf false (t.f fs1) (t.f fs2)

/-- FSUB. -/
def execFsub (fmt : FpFmt) (fd fs1 fs2 rm : Nat) (s : State) : Out :=
  s.fpCompute fmt 0x01 fd fs1 fs2 rm [fs1 % 32, fs2 % 32] false fun t => FpFmt.add fmt (t.mode rm) t.trapUf true (t.f fs1) (t.f fs2)

/-- FMUL. -/
def execFmul (fmt : FpFmt) (fd fs1 fs2 rm : Nat) (s : State) : Out :=
  s.fpCompute fmt 0x02 fd fs1 fs2 rm [fs1 % 32, fs2 % 32] false fun t => FpFmt.mul fmt (t.mode rm) t.trapUf (t.f fs1) (t.f fs2)

/-- FDIV. -/
def execFdiv (fmt : FpFmt) (fd fs1 fs2 rm : Nat) (s : State) : Out :=
  s.fpCompute fmt 0x03 fd fs1 fs2 rm [fs1 % 32, fs2 % 32] true fun t => FpFmt.div fmt (t.mode rm) t.trapUf (t.f fs1) (t.f fs2)

/-- FSQRT. -/
def execFsqrt (fmt : FpFmt) (fd fs1 rm : Nat) (s : State) : Out :=
  s.fpCompute fmt 0x04 fd fs1 0 rm [fs1 % 32] true fun t => FpFmt.sqrt fmt (t.mode rm) t.trapUf (t.f fs1)

/-- A fused operation: rd is an operand too. -/
def State.fused (s : State) (fmt : FpFmt) (op fd fs1 fs2 rm : Nat) (sub neg : Bool) : Out :=
  s.fpCompute fmt op fd fs1 fs2 rm [fs1 % 32, fs2 % 32] false fun t => FpFmt.fma fmt (t.mode rm) t.trapUf sub neg (t.f fs1) (t.f fs2) (t.f fd)

/-- FMAC. -/
def execFmac (fmt : FpFmt) (fd fs1 fs2 rm : Nat) (s : State) : Out := s.fused fmt 0x05 fd fs1 fs2 rm false false

/-- FMSC. -/
def execFmsc (fmt : FpFmt) (fd fs1 fs2 rm : Nat) (s : State) : Out := s.fused fmt 0x06 fd fs1 fs2 rm true false

/-- FNMAC. -/
def execFnmac (fmt : FpFmt) (fd fs1 fs2 rm : Nat) (s : State) : Out := s.fused fmt 0x07 fd fs1 fs2 rm false true

/-- FMINN. -/
def execFminn (fmt : FpFmt) (fd fs1 fs2 rm : Nat) (s : State) : Out :=
  s.fpCompute fmt 0x08 fd fs1 fs2 rm [fs1 % 32, fs2 % 32] false fun t => FpFmt.minmax fmt false (t.f fs1) (t.f fs2)

/-- FMAXN. -/
def execFmaxn (fmt : FpFmt) (fd fs1 fs2 rm : Nat) (s : State) : Out :=
  s.fpCompute fmt 0x09 fd fs1 fs2 rm [fs1 % 32, fs2 % 32] false fun t => FpFmt.minmax fmt true (t.f fs1) (t.f fs2)

/-- FCMPEQ. -/
def execFcmpeq (fmt : FpFmt) (rd fs1 fs2 rm : Nat) (s : State) : Out :=
  s.fpToInt fmt 0x0A rd fs1 fs2 rm fun t => FpFmt.compare fmt 0 (t.f fs1) (t.f fs2)

/-- FCMPLT. -/
def execFcmplt (fmt : FpFmt) (rd fs1 fs2 rm : Nat) (s : State) : Out :=
  s.fpToInt fmt 0x0B rd fs1 fs2 rm fun t => FpFmt.compare fmt 1 (t.f fs1) (t.f fs2)

/-- FCMPLE. -/
def execFcmple (fmt : FpFmt) (rd fs1 fs2 rm : Nat) (s : State) : Out :=
  s.fpToInt fmt 0x0C rd fs1 fs2 rm fun t => FpFmt.compare fmt 2 (t.f fs1) (t.f fs2)

/-- FTOI. -/
def execFtoi (fmt : FpFmt) (rd fs1 rm : Nat) (s : State) : Out :=
  s.fpToInt fmt 0x0D rd fs1 fs1 rm fun t => FpFmt.toInt fmt (t.mode rm) (-2147483648) 2147483647 (t.f fs1)

/-- FTOU. -/
def execFtou (fmt : FpFmt) (rd fs1 rm : Nat) (s : State) : Out :=
  s.fpToInt fmt 0x0E rd fs1 fs1 rm fun t => FpFmt.toInt fmt (t.mode rm) 0 4294967295 (t.f fs1)

/-- A computation from integer registers to an FP register. -/
def State.fpFromInt (s : State) (fmt : FpFmt) (op fd rs1 rs2 rm : Nat) (bad : Bool) (body : State → FpRes) : Out :=
  s.fpInstr { word := fpWord fmt op fd rs1 rs2 rm, bad := bad || decide (rs1 ≥ 24), uses := [], dest := some (fd % 32) } fun t =>
    let r := body t
    (t.setF fd fmt r.1, some r.2)

/-- ITOF. -/
def execItof (fmt : FpFmt) (fd rs1 rm : Nat) (s : State) : Out :=
  s.fpFromInt fmt 0x0F fd rs1 0 rm (rmBad rm) fun t => FpFmt.ofInt fmt (t.mode rm) t.trapUf (t.r rs1).toInt

/-- UTOF. -/
def execUtof (fmt : FpFmt) (fd rs1 rm : Nat) (s : State) : Out :=
  s.fpFromInt fmt 0x10 fd rs1 0 rm (rmBad rm) fun t => FpFmt.ofInt fmt (t.mode rm) t.trapUf (t.r rs1).toNat

/-- FTOF: the format is the destination's. -/
def execFtof (fmt : FpFmt) (fd fs1 rm : Nat) (s : State) : Out :=
  s.fpCompute fmt 0x11 fd fs1 0 rm [fs1 % 32] false fun t => FpFmt.convert fmt (t.mode rm) t.trapUf (t.f fs1)

/-- The place of a format's sign bit. -/
def FpFmt.signBit (fmt : FpFmt) : Nat := 2 ^ (FpFmt.p fmt - 1 + FpFmt.ebits fmt)

/-- A magnitude with a sign. -/
def FpFmt.withSign (fmt : FpFmt) (x : Nat) (neg : Bool) : Nat := x % FpFmt.signBit fmt + neg.toNat * FpFmt.signBit fmt

/-- The sign of a register's value in a format. -/
def FpFmt.signOf (fmt : FpFmt) (x : Nat) : Bool := x / FpFmt.signBit fmt % 2 == 1

/-- A move of sign bits, which ignores RM and raises nothing. -/
def State.fpSign (s : State) (fmt : FpFmt) (op fd fs1 fs2 rm : Nat) (sign : State → Bool) : Out :=
  s.fpInstr { word := fpWord fmt op fd fs1 fs2 rm, uses := [fs1 % 32, fs2 % 32], dest := some (fd % 32) } fun t =>
    (t.setF fd fmt (FpFmt.withSign fmt (t.f fs1) (sign t)), some 0)

/-- FCPYS. -/
def execFcpys (fmt : FpFmt) (fd fs1 fs2 rm : Nat) (s : State) : Out :=
  s.fpSign fmt 0x12 fd fs1 fs2 rm fun t => FpFmt.signOf fmt (t.f fs2)

/-- FNEG. -/
def execFneg (fmt : FpFmt) (fd fs1 rm : Nat) (s : State) : Out :=
  s.fpSign fmt 0x13 fd fs1 fs1 rm fun t => !FpFmt.signOf fmt (t.f fs1)

/-- FABS. -/
def execFabs (fmt : FpFmt) (fd fs1 rm : Nat) (s : State) : Out := s.fpSign fmt 0x14 fd fs1 fs1 rm fun _ => false

/-- FPUT: one integer register into a binary32 register, two into a binary64 one. -/
def execFput (fmt : FpFmt) (fd rs1 rs2 rm : Nat) (s : State) : Out :=
  s.fpFromInt fmt 0x15 fd rs1 rs2 rm (fmt == .d && decide (rs2 ≥ 24)) fun t =>
    match fmt with
    | .s => ((t.r rs1).toNat, 0)
    | .d => ((t.r rs1).toNat + 4294967296 * (t.r rs2).toNat, 0)

/-- FGET: the low word; in the binary64 form with RM 1 the high one. -/
def execFget (fmt : FpFmt) (rd fs1 rm : Nat) (s : State) : Out :=
  s.fpInstr { word := fpWord fmt 0x16 rd fs1 0 rm, bad := decide (rd ≥ 24), uses := [fs1 % 32], dest := none } fun t =>
    let high := fmt == .d && rm % 8 == 1
    (t.setR rd (BitVec.ofNat 32 (if high then t.f fs1 / 4294967296 else t.f fs1 % 4294967296)), some 0)

/-! ### FP loads and stores -/

/-- A load of `n` bytes into an FP register. -/
def State.fload (s : State) (fmt : FpFmt) (n f rs : Nat) (imm : Word) : Out :=
  s.fpInstr { word := fpMemWord 0x16 f rs imm, bad := decide (rs ≥ 24), uses := [], dest := some (f % 32) } fun t =>
    let a := (t.r rs + imm).toNat
    if a % n ≠ 0 then (t.trap 0x07, none)
    else
      let u := t.dataRead a n
      if u.bus.status = .ok then ((u.watch a n).setF f fmt (ofLe u.bus.data), some 0) else (t.dataFault u a, none)

/-- A store of `n` bytes of an FP register. -/
def State.fstore (s : State) (n f rs : Nat) (imm : Word) : Out :=
  s.fpInstr { word := fpMemWord 0x17 f rs imm, bad := decide (rs ≥ 24), uses := [f % 32], dest := none } fun t =>
    let a := (t.r rs + imm).toNat
    if a % n ≠ 0 then (t.trap 0x07, none)
    else
      let u := t.dataWrite a (leBytes n (t.f f))
      if u.bus.status = .ok then (u.watch a n, some 0) else (t.dataFault u a, none)

/-- FLOAD_S. -/
def execFloadS (f rs : Nat) (imm : Word) (s : State) : Out := s.fload .s 4 f rs imm

/-- FLOAD_D. -/
def execFloadD (f rs : Nat) (imm : Word) (s : State) : Out := s.fload .d 8 f rs imm

/-- FSTORE_S. -/
def execFstoreS (f rs : Nat) (imm : Word) (s : State) : Out := s.fstore 4 f rs imm

/-- FSTORE_D. -/
def execFstoreD (f rs : Nat) (imm : Word) (s : State) : Out := s.fstore 8 f rs imm

/-! ### FBAR and the FP state instructions (R649, R650) -/

/-- FBAR. -/
def execFbar (s : State) : Out :=
  s.instr fun t0 =>
    let t := { t0 with hm := t0.hm.completeAll }
    if !t.hm.fq.isEmpty then t.fpTrap else t.pcNext

/-- An FP state instruction: FP unavailable while FE is 0. -/
def State.fpState (s : State) (reg : Nat) (body : State → State) : Out :=
  s.instrR [reg] fun t => if !t.hm.fe then t.trap 0x04 else body t

/-- RDFSR. -/
def execRdfsr (rd : Nat) (s : State) : Out := s.fpState rd fun t => t.ret rd t.hm.fsrWord

/-- FSR after a write: RM values 5 to 7 store 0; the queue's fields and the reserved bits are no part of it. -/
def fsrWritten (v : Word) : Word :=
  let w := v &&& 0x0003FFFF
  if bits w 2 0 ≥ 5 then putBits w 2 0 0 else w

/-- WRFSR. -/
def execWrfsr (rs : Nat) (imm : BitVec 10) (s : State) : Out :=
  s.fpState rs fun t =>
    let h := t.hm.completeAll
    { t with hm := { h with fsr := fsrWritten (t.r rs ^^^ imm.signExtend 32) } }.pcNext

/-- RDFQ. -/
def execRdfq (rd code : Nat) (s : State) : Out :=
  s.fpState rd fun t =>
    match code % 4, t.hm.fq with
    | 3, q => { t with hm := { t.hm with fq := q.drop 1 } }.ret rd (BitVec.ofNat 32 (q.length - 1))
    | _, [] => t.ret rd 0
    | 0, e :: _ => t.ret rd e.pc
    | 1, e :: _ => t.ret rd e.instr
    | _, e :: _ => t.ret rd (BitVec.ofNat 32 e.exc)

end Sys2Proof.Machine
end

