-- ==== Sys2Proof/Machine/Dispatch.lean ====
section
/-! DEFINITION. The meaning of every command: one arm per constructor of `Instr`, each one direct call. -/

namespace Sys2Proof.Machine

/-- A command's effect on everything but the queue. -/
def exec (i : Instr) (s : State) : Host.Outcome State Fault Refusal :=
  match i with
  | .ping q => Sys2Proof.Machine.execPing q s
  | .info q => Sys2Proof.Machine.execInfo q s
  | .sessionOpen q => Sys2Proof.Machine.execSessionOpen q s
  | .sessionClose q => Sys2Proof.Machine.execSessionClose q s
  | .ctrlTake q => Sys2Proof.Machine.execCtrlTake q s
  | .ctrlRelease q => Sys2Proof.Machine.execCtrlRelease q s
  | .timeGet q => Sys2Proof.Machine.execTimeGet q s
  | .resetDevice q => Sys2Proof.Machine.execResetDevice q s
  | .authChallenge q => Sys2Proof.Machine.execAuthChallenge q s
  | .authResponse q => Sys2Proof.Machine.execAuthResponse q s
  | .cycleSet q => Sys2Proof.Machine.execCycleSet q s
  | .cycleStart q => Sys2Proof.Machine.execCycleStart q s
  | .cycleStop q => Sys2Proof.Machine.execCycleStop q s
  | .cycleStatus q => Sys2Proof.Machine.execCycleStatus q s
  | .chCreate q => Sys2Proof.Machine.execChCreate q s
  | .chDestroy q => Sys2Proof.Machine.execChDestroy q s
  | .chConfig q => Sys2Proof.Machine.execChConfig q s
  | .chBind q => Sys2Proof.Machine.execChBind q s
  | .chArm q => Sys2Proof.Machine.execChArm q s
  | .chDisarm q => Sys2Proof.Machine.execChDisarm q s
  | .chSetpoint q => Sys2Proof.Machine.execChSetpoint q s
  | .chRead q => Sys2Proof.Machine.execChRead q s
  | .chList q => Sys2Proof.Machine.execChList q s
  | .chDepend q => Sys2Proof.Machine.execChDepend q s
  | .chModelRead q => Sys2Proof.Machine.execChModelRead q s
  | .chModelWrite q => Sys2Proof.Machine.execChModelWrite q s
  | .chModelTrimOn q => Sys2Proof.Machine.execChModelTrimOn q s
  | .chModelTrimOff q => Sys2Proof.Machine.execChModelTrimOff q s
  | .chModelRestore q => Sys2Proof.Machine.execChModelRestore q s
  | .chSafe q => Sys2Proof.Machine.execChSafe q s
  | .stList q => Sys2Proof.Machine.execStList q s
  | .stAdmit q => Sys2Proof.Machine.execStAdmit q s
  | .stFallback q => Sys2Proof.Machine.execStFallback q s
  | .stRelease q => Sys2Proof.Machine.execStRelease q s
  | .stStatus q => Sys2Proof.Machine.execStStatus q s
  | .vslLoad q => Sys2Proof.Machine.execVslLoad q s
  | .vslCommit q => Sys2Proof.Machine.execVslCommit q s
  | .tankDefine q => Sys2Proof.Machine.execTankDefine q s
  | .sectionDefine q => Sys2Proof.Machine.execSectionDefine q s
  | .limitsSet q => Sys2Proof.Machine.execLimitsSet q s
  | .condRead q => Sys2Proof.Machine.execCondRead q s
  | .strengthRead q => Sys2Proof.Machine.execStrengthRead q s
  | .progLoad q => Sys2Proof.Machine.execProgLoad q s
  | .progUnload q => Sys2Proof.Machine.execProgUnload q s
  | .progInfo q => Sys2Proof.Machine.execProgInfo q s
  | .slipLoadBegin q => Sys2Proof.Machine.execSlipLoadBegin q s
  | .slipLoadData q => Sys2Proof.Machine.execSlipLoadData q s
  | .slipLoadApply q => Sys2Proof.Machine.execSlipLoadApply q s
  | .slipLoadAbort q => Sys2Proof.Machine.execSlipLoadAbort q s
  | .slipStatus q => Sys2Proof.Machine.execSlipStatus q s
  | .slipCapture q => Sys2Proof.Machine.execSlipCapture q s
  | .slipReadback q => Sys2Proof.Machine.execSlipReadback q s
  | .bbStatus q => Sys2Proof.Machine.execBbStatus q s
  | .bbRead q => Sys2Proof.Machine.execBbRead q s
  | .bbMark q => Sys2Proof.Machine.execBbMark q s
  | .bbRelease q => Sys2Proof.Machine.execBbRelease q s
  | .tmSubscribe q => Sys2Proof.Machine.execTmSubscribe q s
  | .tmCancel q => Sys2Proof.Machine.execTmCancel q s
  | .wearRead q => Sys2Proof.Machine.execWearRead q s
  | .wearReset q => Sys2Proof.Machine.execWearReset q s
  | .calRunSensorZero q => Sys2Proof.Machine.execCalRunSensorZero q s
  | .calRunSensorSpan q => Sys2Proof.Machine.execCalRunSensorSpan q s
  | .calRunTemp q => Sys2Proof.Machine.execCalRunTemp q s
  | .calRunSupmon q => Sys2Proof.Machine.execCalRunSupmon q s
  | .calRunPlausibility q => Sys2Proof.Machine.execCalRunPlausibility q s
  | .calRead q => Sys2Proof.Machine.execCalRead q s
  | .dutySet q => Sys2Proof.Machine.execDutySet q s
  | .mirrorSet q => Sys2Proof.Machine.execMirrorSet q s
  | .fwUpdateBegin q => Sys2Proof.Machine.execFwUpdateBegin q s
  | .fwUpdateData q => Sys2Proof.Machine.execFwUpdateData q s
  | .fwUpdateCommit q => Sys2Proof.Machine.execFwUpdateCommit q s
  | .fwUpdateAbort q => Sys2Proof.Machine.execFwUpdateAbort q s
  | .patchLoad q => Sys2Proof.Machine.execPatchLoad q s
  | .otpProgramKeyHash q => Sys2Proof.Machine.execOtpProgramKeyHash q s
  | .otpProgramRevoke q => Sys2Proof.Machine.execOtpProgramRevoke q s
  | .otpProgramRollback q => Sys2Proof.Machine.execOtpProgramRollback q s
  | .otpProgramOpenFw q => Sys2Proof.Machine.execOtpProgramOpenFw q s
  | .otpProgramJtagLock q => Sys2Proof.Machine.execOtpProgramJtagLock q s
  | .otpProgramSlipSignReq q => Sys2Proof.Machine.execOtpProgramSlipSignReq q s
  | .otpProgramCustomerKey q => Sys2Proof.Machine.execOtpProgramCustomerKey q s
  | .diagRegRead q => Sys2Proof.Machine.execDiagRegRead q s
  | .diagRegWrite q => Sys2Proof.Machine.execDiagRegWrite q s
  | .diagMemRead q => Sys2Proof.Machine.execDiagMemRead q s
  | .diagBar2On q => Sys2Proof.Machine.execDiagBar2On q s
  | .diagBar2Off q => Sys2Proof.Machine.execDiagBar2Off q s
  | .contFragment q => Sys2Proof.Machine.execContFragment q s
  | .assemblyTimeout sess => Sys2Proof.Machine.execAssemblyTimeout sess s
  | .sessionLivenessExpiry sess => Sys2Proof.Machine.execSessionLivenessExpiry sess s
  | .udpGapExpiry sess => Sys2Proof.Machine.execUdpGapExpiry sess s
  | .authNonceExpiry sess => Sys2Proof.Machine.execAuthNonceExpiry sess s
  | .authLockoutExpiry => Sys2Proof.Machine.execAuthLockoutExpiry s
  | .pcieReqDoorbell pair buffer count oneDword => Sys2Proof.Machine.execPcieReqDoorbell pair buffer count oneDword s
  | .pcieReplyDoorbell pair oneDword => Sys2Proof.Machine.execPcieReplyDoorbell pair oneDword s
  | .pcieEvtCons pair index oneDword => Sys2Proof.Machine.execPcieEvtCons pair index oneDword s
  | .hostIrqStatusClear mask oneDword => Sys2Proof.Machine.execHostIrqStatusClear mask oneDword s
  | .pcieConfigRequest write offset value => Sys2Proof.Machine.execPcieConfigRequest write offset value s
  | .pcieBar2Read offset oneDword => Sys2Proof.Machine.execPcieBar2Read offset oneDword s
  | .pcieBar2Write offset value => Sys2Proof.Machine.execPcieBar2Write offset value s
  | .perstNAssert => Sys2Proof.Machine.execPerstNAssert s
  | .perstNDeassert => Sys2Proof.Machine.execPerstNDeassert s
  | .functionLevelReset => Sys2Proof.Machine.execFunctionLevelReset s
  | .pcieLinkDownExpiry => Sys2Proof.Machine.execPcieLinkDownExpiry s
  | .hspiWritePacket command clocked => Sys2Proof.Machine.execHspiWritePacket command clocked s
  | .hspiReadStatus command clocked => Sys2Proof.Machine.execHspiReadStatus command clocked s
  | .hspiReadPacket command clocked => Sys2Proof.Machine.execHspiReadPacket command clocked s
  | .loadChunk ep offset total data => Sys2Proof.Machine.execLoadChunk ep offset total data s
  | .porRelease vbatGood => Sys2Proof.Machine.execPorRelease vbatGood s
  | .internalResetRelease bootMode testN => Sys2Proof.Machine.execInternalResetRelease bootMode testN s
  | .basinClearDone otpOk => Sys2Proof.Machine.execBasinClearDone otpOk s
  | .flashHeaderRetry slot retryFailed => Sys2Proof.Machine.execFlashHeaderRetry slot retryFailed s
  | .bootImageChecked slot => Sys2Proof.Machine.execBootImageChecked slot s
  | .plainSelfTestDone failed => Sys2Proof.Machine.execPlainSelfTestDone failed s
  | .harbourOpen => Sys2Proof.Machine.execHarbourOpen s
  | .warningAssert sense io33 => Sys2Proof.Machine.execWarningAssert sense io33 s
  | .warningIrq => Sys2Proof.Machine.execWarningIrq s
  | .warningRecoveryStart => Sys2Proof.Machine.execWarningRecoveryStart s
  | .warningClear => Sys2Proof.Machine.execWarningClear s
  | .sagReset io33 core plain also => Sys2Proof.Machine.execSagReset io33 core plain also s
  | .sagResetRelease => Sys2Proof.Machine.execSagResetRelease s
  | .senseConversion mv => Sys2Proof.Machine.execSenseConversion mv s
  | .vbatLow => Sys2Proof.Machine.execVbatLow s
  | .aonSupplySwitch onVbat => Sys2Proof.Machine.execAonSupplySwitch onVbat s
  | .pinReset also => Sys2Proof.Machine.execPinReset also s
  | .jtagSysreset also => Sys2Proof.Machine.execJtagSysreset also s
  | .sysctlSwreset who => Sys2Proof.Machine.execSysctlSwreset who s
  | .doubleTrap also => Sys2Proof.Machine.execDoubleTrap also s
  | .pllLock pll => Sys2Proof.Machine.execPllLock pll s
  | .clockLost clocks => Sys2Proof.Machine.execClockLost clocks s
  | .clockGood clock => Sys2Proof.Machine.execClockGood clock s
  | .timeFreqCheck ppm => Sys2Proof.Machine.execTimeFreqCheck ppm s
  | .timeHoldoverEntry => Sys2Proof.Machine.execTimeHoldoverEntry s
  | .timeHoldoverExit => Sys2Proof.Machine.execTimeHoldoverExit s
  | .arrHalfChange => Sys2Proof.Machine.execArrHalfChange s
  | .watchMark => Sys2Proof.Machine.execWatchMark s
  | .pilotMarkArrival => Sys2Proof.Machine.execPilotMarkArrival s
  | .watchMarkIrq => Sys2Proof.Machine.execWatchMarkIrq s
  | .macMarkArrival port => Sys2Proof.Machine.execMacMarkArrival port s
  | .admissionRound => Sys2Proof.Machine.execAdmissionRound s
  | .configResend station => Sys2Proof.Machine.execConfigResend station s
  | .joinForget station => Sys2Proof.Machine.execJoinForget station s
  | .announce => Sys2Proof.Machine.execAnnounce s
  | .gatherDeadline => Sys2Proof.Machine.execGatherDeadline s
  | .markCompare n => Sys2Proof.Machine.execMarkCompare n s
  | .quayLdGo => Sys2Proof.Machine.execQuayLdGo s
  | .loadDone => Sys2Proof.Machine.execLoadDone s
  | .quayUlGo => Sys2Proof.Machine.execQuayUlGo s
  | .unloadDone => Sys2Proof.Machine.execUnloadDone s
  | .quayAbort => Sys2Proof.Machine.execQuayAbort s
  | .commitFlip => Sys2Proof.Machine.execCommitFlip s
  | .commitDeadline => Sys2Proof.Machine.execCommitDeadline s
  | .cycleDeadline => Sys2Proof.Machine.execCycleDeadline s
  | .cycleAbandoned => Sys2Proof.Machine.execCycleAbandoned s
  | .sagwarnRequest => Sys2Proof.Machine.execSagwarnRequest s
  | .microTrap => Sys2Proof.Machine.execMicroTrap s
  | .ackTimeout => Sys2Proof.Machine.execAckTimeout s
  | .pilotStart => Sys2Proof.Machine.execPilotStart s
  | .pilotBreak => Sys2Proof.Machine.execPilotBreak s
  | .pilotResume => Sys2Proof.Machine.execPilotResume s
  | .pilotPramWrite data3 => Sys2Proof.Machine.execPilotPramWrite data3 s
  | .pilotMboxWrite n data => Sys2Proof.Machine.execPilotMboxWrite n data s
  | .macroFetch => Sys2Proof.Machine.execMacroFetch s
  | .microJump word => Sys2Proof.Machine.execMicroJump word s
  | .microCall word => Sys2Proof.Machine.execMicroCall word s
  | .microReturn word => Sys2Proof.Machine.execMicroReturn word s
  | .microLoop word => Sys2Proof.Machine.execMicroLoop word s
  | .microDispatch word => Sys2Proof.Machine.execMicroDispatch word s
  | .microWait word => Sys2Proof.Machine.execMicroWait word s
  | .microTret word => Sys2Proof.Machine.execMicroTret word s
  | .microIdle word => Sys2Proof.Machine.execMicroIdle word s
  | .plainIllegal m => Sys2Proof.Machine.execPlainIllegal m s
  | .plainNop m => Sys2Proof.Machine.execPlainNop m s
  | .plainMov m => Sys2Proof.Machine.execPlainMov m s
  | .plainMovx m => Sys2Proof.Machine.execPlainMovx m s
  | .plainLdi m => Sys2Proof.Machine.execPlainLdi m s
  | .plainLdix m => Sys2Proof.Machine.execPlainLdix m s
  | .plainStix m => Sys2Proof.Machine.execPlainStix m s
  | .plainAdd m => Sys2Proof.Machine.execPlainAdd m s
  | .plainSub m => Sys2Proof.Machine.execPlainSub m s
  | .plainAddi m => Sys2Proof.Machine.execPlainAddi m s
  | .plainNeg m => Sys2Proof.Machine.execPlainNeg m s
  | .plainAbs m => Sys2Proof.Machine.execPlainAbs m s
  | .plainMul m => Sys2Proof.Machine.execPlainMul m s
  | .plainMulw m => Sys2Proof.Machine.execPlainMulw m s
  | .plainSmul m => Sys2Proof.Machine.execPlainSmul m s
  | .plainDiv m => Sys2Proof.Machine.execPlainDiv m s
  | .plainRem m => Sys2Proof.Machine.execPlainRem m s
  | .plainCeq m => Sys2Proof.Machine.execPlainCeq m s
  | .plainCne m => Sys2Proof.Machine.execPlainCne m s
  | .plainClt m => Sys2Proof.Machine.execPlainClt m s
  | .plainCle m => Sys2Proof.Machine.execPlainCle m s
  | .plainCgt m => Sys2Proof.Machine.execPlainCgt m s
  | .plainCge m => Sys2Proof.Machine.execPlainCge m s
  | .plainAnd m => Sys2Proof.Machine.execPlainAnd m s
  | .plainOr m => Sys2Proof.Machine.execPlainOr m s
  | .plainXor m => Sys2Proof.Machine.execPlainXor m s
  | .plainAndn m => Sys2Proof.Machine.execPlainAndn m s
  | .plainNot m => Sys2Proof.Machine.execPlainNot m s
  | .plainSel m => Sys2Proof.Machine.execPlainSel m s
  | .plainMin m => Sys2Proof.Machine.execPlainMin m s
  | .plainMax m => Sys2Proof.Machine.execPlainMax m s
  | .plainShl m => Sys2Proof.Machine.execPlainShl m s
  | .plainShr m => Sys2Proof.Machine.execPlainShr m s
  | .plainScl m => Sys2Proof.Machine.execPlainScl m s
  | .plainSatn m => Sys2Proof.Machine.execPlainSatn m s
  | .plainNshn m => Sys2Proof.Machine.execPlainNshn m s
  | .plainNshe m => Sys2Proof.Machine.execPlainNshe m s
  | .plainNshs m => Sys2Proof.Machine.execPlainNshs m s
  | .plainNshw m => Sys2Proof.Machine.execPlainNshw m s
  | .plainPsum m => Sys2Proof.Machine.execPlainPsum m s
  | .plainPsumx m => Sys2Proof.Machine.execPlainPsumx m s
  | .plainRmax m => Sys2Proof.Machine.execPlainRmax m s
  | .plainRmin m => Sys2Proof.Machine.execPlainRmin m s
  | .plainGmax m => Sys2Proof.Machine.execPlainGmax m s
  | .plainGmin m => Sys2Proof.Machine.execPlainGmin m s
  | .plainMpush m => Sys2Proof.Machine.execPlainMpush m s
  | .plainMpushf m => Sys2Proof.Machine.execPlainMpushf m s
  | .plainMpop m => Sys2Proof.Machine.execPlainMpop m s
  | .plainMelse m => Sys2Proof.Machine.execPlainMelse m s
  | .plainTsrch m => Sys2Proof.Machine.execPlainTsrch m s
  | .plainTlerp m => Sys2Proof.Machine.execPlainTlerp m s
  | .plainBr m => Sys2Proof.Machine.execPlainBr m s
  | .plainBrgor m => Sys2Proof.Machine.execPlainBrgor m s
  | .plainBrngor m => Sys2Proof.Machine.execPlainBrngor m s
  | .plainBrfor m => Sys2Proof.Machine.execPlainBrfor m s
  | .plainLoop m => Sys2Proof.Machine.execPlainLoop m s
  | .plainCall m => Sys2Proof.Machine.execPlainCall m s
  | .plainRet m => Sys2Proof.Machine.execPlainRet m s
  | .plainWaitm m => Sys2Proof.Machine.execPlainWaitm m s
  | .plainEnd m => Sys2Proof.Machine.execPlainEnd m s
  | .plainFclr m => Sys2Proof.Machine.execPlainFclr m s
  | .plainDzclr m => Sys2Proof.Machine.execPlainDzclr m s
  | .enter rd rs1 imm => Sys2Proof.Machine.execEnter rd rs1 imm s
  | .leave rd rs1 imm => Sys2Proof.Machine.execLeave rd rs1 imm s
  | .syscall imm => Sys2Proof.Machine.execSyscall imm s
  | .eret skip => Sys2Proof.Machine.execEret skip s
  | .rdsys rd sys => Sys2Proof.Machine.execRdsys rd sys s
  | .wrsys sys rs => Sys2Proof.Machine.execWrsys sys rs s
  | .wvmset bank => Sys2Proof.Machine.execWvmset bank s
  | .wvmclr bank => Sys2Proof.Machine.execWvmclr bank s
  | .stwin window rs => Sys2Proof.Machine.execStwin window rs s
  | .ldwin window rs => Sys2Proof.Machine.execLdwin window rs s
  | .cwb rs imm => Sys2Proof.Machine.execCwb rs imm s
  | .cinv rs imm => Sys2Proof.Machine.execCinv rs imm s
  | .cwbinv rs imm => Sys2Proof.Machine.execCwbinv rs imm s
  | .flushi => Sys2Proof.Machine.execFlushi s
  | .membar => Sys2Proof.Machine.execMembar s
  | .rdflt rd code => Sys2Proof.Machine.execRdflt rd code s
  | .wfi => Sys2Proof.Machine.execWfi s
  | .fbar => Sys2Proof.Machine.execFbar s
  | .rdfsr rd => Sys2Proof.Machine.execRdfsr rd s
  | .wrfsr rs imm => Sys2Proof.Machine.execWrfsr rs imm s
  | .rdfq rd code => Sys2Proof.Machine.execRdfq rd code s
  | .mulLo rd rs1 rs2 => Sys2Proof.Machine.execMulLo rd rs1 rs2 s
  | .mulHs rd rs1 rs2 => Sys2Proof.Machine.execMulHs rd rs1 rs2 s
  | .mulHu rd rs1 rs2 => Sys2Proof.Machine.execMulHu rd rs1 rs2 s
  | .mulwS rd rs1 rs2 => Sys2Proof.Machine.execMulwS rd rs1 rs2 s
  | .mulwU rd rs1 rs2 => Sys2Proof.Machine.execMulwU rd rs1 rs2 s
  | .addf rd rs1 rs2 => Sys2Proof.Machine.execAddf rd rs1 rs2 s
  | .addcf rd rs1 rs2 => Sys2Proof.Machine.execAddcf rd rs1 rs2 s
  | .subf rd rs1 rs2 => Sys2Proof.Machine.execSubf rd rs1 rs2 s
  | .subbf rd rs1 rs2 => Sys2Proof.Machine.execSubbf rd rs1 rs2 s
  | .divS rd rs1 rs2 => Sys2Proof.Machine.execDivS rd rs1 rs2 s
  | .divU rd rs1 rs2 => Sys2Proof.Machine.execDivU rd rs1 rs2 s
  | .remS rd rs1 rs2 => Sys2Proof.Machine.execRemS rd rs1 rs2 s
  | .remU rd rs1 rs2 => Sys2Proof.Machine.execRemU rd rs1 rs2 s
  | .divlU rd rs2 => Sys2Proof.Machine.execDivlU rd rs2 s
  | .clz rd rs1 => Sys2Proof.Machine.execClz rd rs1 s
  | .fadd fmt fd fs1 fs2 rm => Sys2Proof.Machine.execFadd fmt fd fs1 fs2 rm s
  | .fsub fmt fd fs1 fs2 rm => Sys2Proof.Machine.execFsub fmt fd fs1 fs2 rm s
  | .fmul fmt fd fs1 fs2 rm => Sys2Proof.Machine.execFmul fmt fd fs1 fs2 rm s
  | .fdiv fmt fd fs1 fs2 rm => Sys2Proof.Machine.execFdiv fmt fd fs1 fs2 rm s
  | .fsqrt fmt fd fs1 rm => Sys2Proof.Machine.execFsqrt fmt fd fs1 rm s
  | .fmac fmt fd fs1 fs2 rm => Sys2Proof.Machine.execFmac fmt fd fs1 fs2 rm s
  | .fmsc fmt fd fs1 fs2 rm => Sys2Proof.Machine.execFmsc fmt fd fs1 fs2 rm s
  | .fnmac fmt fd fs1 fs2 rm => Sys2Proof.Machine.execFnmac fmt fd fs1 fs2 rm s
  | .fminn fmt fd fs1 fs2 rm => Sys2Proof.Machine.execFminn fmt fd fs1 fs2 rm s
  | .fmaxn fmt fd fs1 fs2 rm => Sys2Proof.Machine.execFmaxn fmt fd fs1 fs2 rm s
  | .fcmpeq fmt rd fs1 fs2 rm => Sys2Proof.Machine.execFcmpeq fmt rd fs1 fs2 rm s
  | .fcmplt fmt rd fs1 fs2 rm => Sys2Proof.Machine.execFcmplt fmt rd fs1 fs2 rm s
  | .fcmple fmt rd fs1 fs2 rm => Sys2Proof.Machine.execFcmple fmt rd fs1 fs2 rm s
  | .ftoi fmt rd fs1 rm => Sys2Proof.Machine.execFtoi fmt rd fs1 rm s
  | .ftou fmt rd fs1 rm => Sys2Proof.Machine.execFtou fmt rd fs1 rm s
  | .itof fmt fd rs1 rm => Sys2Proof.Machine.execItof fmt fd rs1 rm s
  | .utof fmt fd rs1 rm => Sys2Proof.Machine.execUtof fmt fd rs1 rm s
  | .ftof fmt fd fs1 rm => Sys2Proof.Machine.execFtof fmt fd fs1 rm s
  | .fcpys fmt fd fs1 fs2 rm => Sys2Proof.Machine.execFcpys fmt fd fs1 fs2 rm s
  | .fneg fmt fd fs1 rm => Sys2Proof.Machine.execFneg fmt fd fs1 rm s
  | .fabs fmt fd fs1 rm => Sys2Proof.Machine.execFabs fmt fd fs1 rm s
  | .fput fmt fd rs1 rs2 rm => Sys2Proof.Machine.execFput fmt fd rs1 rs2 rm s
  | .fget fmt rd fs1 rm => Sys2Proof.Machine.execFget fmt rd fs1 rm s
  | .floadS f rs imm => Sys2Proof.Machine.execFloadS f rs imm s
  | .floadD f rs imm => Sys2Proof.Machine.execFloadD f rs imm s
  | .fstoreS f rs imm => Sys2Proof.Machine.execFstoreS f rs imm s
  | .fstoreD f rs imm => Sys2Proof.Machine.execFstoreD f rs imm s
  | .interruptTaken => Sys2Proof.Machine.execInterruptTaken s
  | .intcClaim who => Sys2Proof.Machine.execIntcClaim who s
  | .intcComplete who source => Sys2Proof.Machine.execIntcComplete who source s
  | .intcEndService who index mask => Sys2Proof.Machine.execIntcEndService who index mask s
  | .debugAccess a => Sys2Proof.Machine.execDebugAccess a s
  | .dbgFlush => Sys2Proof.Machine.execDbgFlush s
  | .tapTestLogicReset => Sys2Proof.Machine.execTapTestLogicReset s
  | .registerWrite who addr value => Sys2Proof.Machine.execRegisterWrite who addr value s
  | .guardKey who block => Sys2Proof.Machine.execGuardKey who block s
  | .guardWrongKey who block key => Sys2Proof.Machine.execGuardWrongKey who block key s
  | .guardClearFlags who block value => Sys2Proof.Machine.execGuardClearFlags who block value s
  | .guardExpiry block => Sys2Proof.Machine.execGuardExpiry block s
  | .otpProgCmd who value => Sys2Proof.Machine.execOtpProgCmd who value s
  | .otpProgDone verified => Sys2Proof.Machine.execOtpProgDone verified s
  | .wdtService who value => Sys2Proof.Machine.execWdtService who value s
  | .wdtPrewarn => Sys2Proof.Machine.execWdtPrewarn s
  | .wdtExpiry also => Sys2Proof.Machine.execWdtExpiry also s
  | .timerSyscntLatch who => Sys2Proof.Machine.execTimerSyscntLatch who s
  | .ptpTimeSnapshot who => Sys2Proof.Machine.execPtpTimeSnapshot who s
  | .fairwayTraceRead who => Sys2Proof.Machine.execFairwayTraceRead who s
  | .shadowDataRead who => Sys2Proof.Machine.execShadowDataRead who s
  | .dcqDropClear who => Sys2Proof.Machine.execDcqDropClear who s
  | .quayBusyClear who => Sys2Proof.Machine.execQuayBusyClear who s
  | .clrColl who => Sys2Proof.Machine.execClrColl who s
  | .clrEcc who => Sys2Proof.Machine.execClrEcc who s
  | .clrCounts who => Sys2Proof.Machine.execClrCounts who s
  | .scrubClr who => Sys2Proof.Machine.execScrubClr who s
  | .ethCntClear who port => Sys2Proof.Machine.execEthCntClear who port s
  | .ethRxKick who port ring => Sys2Proof.Machine.execEthRxKick who port ring s
  | .ethTxKick who port ring => Sys2Proof.Machine.execEthTxKick who port ring s
  | .mdioCommand who port value => Sys2Proof.Machine.execMdioCommand who port value s
  | .mdioDone port data => Sys2Proof.Machine.execMdioDone port data s
  | .mdioPoll port linkGood fullDuplex speed => Sys2Proof.Machine.execMdioPoll port linkGood fullDuplex speed s
  | .ptpStep who => Sys2Proof.Machine.execPtpStep who s
  | .dmaGo who channel => Sys2Proof.Machine.execDmaGo who channel s
  | .dmaDone channel => Sys2Proof.Machine.execDmaDone channel s
  | .dmaError channel addr => Sys2Proof.Machine.execDmaError channel addr s
  | .matrixRequest r also other => Sys2Proof.Machine.execMatrixRequest r also other s
  | .eccWriteBack addr => Sys2Proof.Machine.execEccWriteBack addr s
  | .basinPowerWrite who value => Sys2Proof.Machine.execBasinPowerWrite who value s
  | .basinWakeDone basin => Sys2Proof.Machine.execBasinWakeDone basin s
  | .arrHalfWrite who half => Sys2Proof.Machine.execArrHalfWrite who half s
  | .slipctlApplyGo who => Sys2Proof.Machine.execSlipctlApplyGo who s
  | .slipctlCaptureGo who clock => Sys2Proof.Machine.execSlipctlCaptureGo who clock s
  | .shadowCapture clock => Sys2Proof.Machine.execShadowCapture clock s
  | .reclaimUnfence who domain => Sys2Proof.Machine.execReclaimUnfence who domain s
  | .bbrRelease who index => Sys2Proof.Machine.execBbrRelease who index s
  | .rtcSet who seconds => Sys2Proof.Machine.execRtcSet who seconds s
  | .bbrAppend who beats low payload => Sys2Proof.Machine.execBbrAppend who beats low payload s
  | .anchor => Sys2Proof.Machine.execAnchor s
  | .fairwayRequest p also other => Sys2Proof.Machine.execFairwayRequest p also other s
  | .fairwayResponse p => Sys2Proof.Machine.execFairwayResponse p s
  | .waking p => Sys2Proof.Machine.execWaking p s
  | .wakeRetry p => Sys2Proof.Machine.execWakeRetry p s
  | .fairwayTimeout node tid => Sys2Proof.Machine.execFairwayTimeout node tid s
  | .tidQuarantineEnd node tid => Sys2Proof.Machine.execTidQuarantineEnd node tid s
  | .holdLeaseExpiry master port addr => Sys2Proof.Machine.execHoldLeaseExpiry master port addr s
  | .injectionLeaseExpiry node tid => Sys2Proof.Machine.execInjectionLeaseExpiry node tid s
  | .qcPortLeaseExpiry qc => Sys2Proof.Machine.execQcPortLeaseExpiry qc s
  | .bbrPortLeaseExpiry master burst => Sys2Proof.Machine.execBbrPortLeaseExpiry master burst s
  | .quayPassTimeout => Sys2Proof.Machine.execQuayPassTimeout s
  | .fenceSequence domain lease resource low => Sys2Proof.Machine.execFenceSequence domain lease resource low s
  | .domainResetRelease domain => Sys2Proof.Machine.execDomainResetRelease domain s
  | .hmFenceLift port => Sys2Proof.Machine.execHmFenceLift port s
  | .ethRxFrame port frame => Sys2Proof.Machine.execEthRxFrame port frame s
  | .rxDescriptorRetry port ring => Sys2Proof.Machine.execRxDescriptorRetry port ring s
  | .descriptorWaitExpiry port ring => Sys2Proof.Machine.execDescriptorWaitExpiry port ring s
  | .ethTxDone port queue => Sys2Proof.Machine.execEthTxDone port queue s
  | .join f => Sys2Proof.Machine.execJoin f s
  | .configAck f => Sys2Proof.Machine.execConfigAck f s
  | .input f => Sys2Proof.Machine.execInput f s
  | .announceReceived f => Sys2Proof.Machine.execAnnounceReceived f s
  | .commitReceived f => Sys2Proof.Machine.execCommitReceived f s
  | .arpRequest port srcMac srcIp targetIp => Sys2Proof.Machine.execArpRequest port srcMac srcIp targetIp s
  | .icmpEchoRequest port srcMac srcIp dstIp echo data => Sys2Proof.Machine.execIcmpEchoRequest port srcMac srcIp dstIp echo data s
  | .ptpSync port m => Sys2Proof.Machine.execPtpSync port m s
  | .ptpFollowUp port m => Sys2Proof.Machine.execPtpFollowUp port m s
  | .ptpDelayReq port m => Sys2Proof.Machine.execPtpDelayReq port m s
  | .ptpDelayResp port m => Sys2Proof.Machine.execPtpDelayResp port m s
  | .ptpAnnounce port m => Sys2Proof.Machine.execPtpAnnounce port m s
  | .modbusPollStart uart => Sys2Proof.Machine.execModbusPollStart uart s
  | .modbusResponse uart frame lineOk => Sys2Proof.Machine.execModbusResponse uart frame lineOk s
  | .modbusTimeout uart => Sys2Proof.Machine.execModbusTimeout uart s
  | .nmeaSentence uart sentence => Sys2Proof.Machine.execNmeaSentence uart sentence s
  | .canFrameReceived can id extended data => Sys2Proof.Machine.execCanFrameReceived can id extended data s
  | .canTxDone can => Sys2Proof.Machine.execCanTxDone can s
  | .canRxTimeout can => Sys2Proof.Machine.execCanRxTimeout can s
  | .pointAgeExpiry station point => Sys2Proof.Machine.execPointAgeExpiry station point s
  | .canBusOff can => Sys2Proof.Machine.execCanBusOff can s
  | .canBusOffRecovery can => Sys2Proof.Machine.execCanBusOffRecovery can s
  | .vsPost n entries lastApplied => Sys2Proof.Machine.execVsPost n entries lastApplied s
  | .vsPresentRise n => Sys2Proof.Machine.execVsPresentRise n s
  | .vsPresentFall n => Sys2Proof.Machine.execVsPresentFall n s
  | .qcTransfer qc words also other => Sys2Proof.Machine.execQcTransfer qc words also other s
  | .qcRawAccess qc write offset data locked also other => Sys2Proof.Machine.execQcRawAccess qc write offset data locked also other s
  | .bankLow bank => Sys2Proof.Machine.execBankLow bank s
  | .bankRestored bank => Sys2Proof.Machine.execBankRestored bank s
  | .laneLost lane dropped => Sys2Proof.Machine.execLaneLost lane dropped s
  | .slipWindowAccess who write offset data answer => Sys2Proof.Machine.execSlipWindowAccess who write offset data answer s
  | .winTimeout who => Sys2Proof.Machine.execWinTimeout who s
  | .slipApplyStart => Sys2Proof.Machine.execSlipApplyStart s
  | .slipApplyDone ok => Sys2Proof.Machine.execSlipApplyDone ok s
  | .ebbSlice => Sys2Proof.Machine.execEbbSlice s
  | .quaySlot => Sys2Proof.Machine.execQuaySlot s
  | .plainWindowAccess r => Sys2Proof.Machine.execPlainWindowAccess r s
  | .fieldWakeDone field => Sys2Proof.Machine.execFieldWakeDone field s
  | .fieldSleep field off => Sys2Proof.Machine.execFieldSleep field off s
  | .plainScrubSlice => Sys2Proof.Machine.execPlainScrubSlice s
  | .basinScrubRead basin => Sys2Proof.Machine.execBasinScrubRead basin s
  | .slipConfigScrubRead offset errorBits => Sys2Proof.Machine.execSlipConfigScrubRead offset errorBits s
  | .telemetryBuild => Sys2Proof.Machine.execTelemetryBuild s
  | .wearCounting => Sys2Proof.Machine.execWearCounting s
  | .trimSample => Sys2Proof.Machine.execTrimSample s
  | .trimReplay slot => Sys2Proof.Machine.execTrimReplay slot s
  | .dutyRotationCheck => Sys2Proof.Machine.execDutyRotationCheck s
  | .dutyChangeoverConfirm group => Sys2Proof.Machine.execDutyChangeoverConfirm group s
  | .dutyAbort group => Sys2Proof.Machine.execDutyAbort group s
  | .calibrationSample => Sys2Proof.Machine.execCalibrationSample s
  | .plausibilityCheck => Sys2Proof.Machine.execPlausibilityCheck s
  | .driftTracking => Sys2Proof.Machine.execDriftTracking s
  | .journalFlush => Sys2Proof.Machine.execJournalFlush s
  | .journalCompaction => Sys2Proof.Machine.execJournalCompaction s
  | .qspiCommandDone => Sys2Proof.Machine.execQspiCommandDone s
  | .xipRead who offset => Sys2Proof.Machine.execXipRead who offset s
  | .tempSample readings => Sys2Proof.Machine.execTempSample readings s
  | .thermalStep1 => Sys2Proof.Machine.execThermalStep1 s
  | .thermalStep2 => Sys2Proof.Machine.execThermalStep2 s
  | .thermalClear => Sys2Proof.Machine.execThermalClear s
  | .thermalShutdown also => Sys2Proof.Machine.execThermalShutdown also s
  | .pcieLinkStateChange up gen width => Sys2Proof.Machine.execPcieLinkStateChange up gen width s
  | .hmLoadStore op rd rs1 imm => Sys2Proof.Machine.execHmLoadStore op rd rs1 imm s
  | .hmBranch op rd rs1 rs2 imm => Sys2Proof.Machine.execHmBranch op rd rs1 rs2 imm s
  | .hmIntegerInstruction op rd rs1 rs2 imm => Sys2Proof.Machine.execHmIntegerInstruction op rd rs1 rs2 imm s
  | .hmUndefinedEncoding word => Sys2Proof.Machine.execHmUndefinedEncoding word s
  | .fpInstructionComplete => Sys2Proof.Machine.execFpInstructionComplete s
  | .ptpAnnounceReceiptTimeout port => Sys2Proof.Machine.execPtpAnnounceReceiptTimeout port s
  | .ptpMessageInterval port kind => Sys2Proof.Machine.execPtpMessageInterval port kind s
  | .bbrStampUpdate => Sys2Proof.Machine.execBbrStampUpdate s
  | .timeBaseSecond => Sys2Proof.Machine.execTimeBaseSecond s
  | .supmonCrossing monitor low => Sys2Proof.Machine.execSupmonCrossing monitor low s
  | .laneLockRegained lane => Sys2Proof.Machine.execLaneLockRegained lane s
  | .vbatRecovered => Sys2Proof.Machine.execVbatRecovered s

end Sys2Proof.Machine
end

