-- ==== Sys2Proof/WellFormed.lean ====
section
/-! DEFINITION. Well-formed commands: every operand within the width or the range that the spec gives it. -/

namespace Sys2Proof

/-- A transport endpoint: four mailbox pairs; an IPv4 address, a UDP port and one of two Ethernet ports; HSPI (R221, R234). -/
def Endpoint.wf : Endpoint → Bool
  | .pcie p => decide (p < 4)
  | .udp ip port eth => decide (ip < 4294967296) && decide (port < 65536) && decide (eth < 2)
  | .hspi => true

/-- The widths of Table CMD-1: U8 VERSION, SESSION and PRIORITY; U16 OPCODE, HANDLE and STATUS; a payload of at most 8,192 bytes. -/
def Packet.wf (p : Packet) : Bool :=
  decide (p.version < 256) && decide (p.session < 256) && decide (p.priority < 256) && decide (p.opcode < 65536) &&
  decide (p.handle < 65536) && decide (p.status < 65536) && decide (p.payload.length ≤ 8192)

/-- A request packet from a transport endpoint. -/
def Req.wf (q : Req) : Bool := q.ep.wf && q.pkt.wf

/-- A master of the bus matrix, M0 to M4, with a Fairway node of M3 (Tables MTX-1 and FWY-1). -/
def Initiator.wf (i : Initiator) : Bool := decide (i.master < 5) && decide (i.node < 16)

/-- A matrix request: an initiator, a 32-bit address, beats of 1, 2, 4 or 8 bytes, 1 to 256 beats, data for the beats of a write
unless its holder makes the path wait, a QoS of 4 bits (R656 to R665). -/
def BusReq.wf (r : BusReq) : Bool :=
  r.who.wf && decide (r.addr < 4294967296) && [1, 2, 4, 8].contains r.size && decide (0 < r.beats) && decide (r.beats ≤ 256) &&
  (!r.write || r.stalled || decide (r.data.length = r.size * r.beats)) && decide (r.qos < 16)

/-- An access of a Basin's other port: a 32-bit address, 8 bytes of a write. -/
def PortUse.wf (p : PortUse) : Bool := decide (p.addr < 4294967296) && (!p.write || decide (p.data.length = 8))

/-- The field widths of a Fairway head (Table FWY-2). -/
def FwPacket.wf (p : FwPacket) : Bool :=
  decide (p.dst < 16) && decide (p.src < 16) && decide (p.kind < 16) && decide (p.qos < 16) && decide (p.tid < 64) &&
  decide (p.epoch < 16) && decide (p.status < 16) && decide (p.addr < 4294967296)

/-- The field widths of a Tideline header and its addresses (R376). -/
def TlFrame.wf (f : TlFrame) : Bool :=
  decide (f.port < 2) && decide (f.src < 281474976710656) && decide (f.version < 256) && decide (f.stationId < 256) &&
  decide (f.flags < 256) && decide (f.epoch < 65536) && decide (f.length < 65536) && decide (f.cycle < 4294967296) &&
  decide (f.mark < 4294967296)

/-- A received frame: a time stamp in seconds and nanoseconds. -/
def RxFrame.wf (f : RxFrame) : Bool := decide (f.stampNs < 1000000000)

/-- The field widths of a PTP message. -/
def PtpMsg.wf (m : PtpMsg) : Bool :=
  decide (m.domain < 256) && decide (m.seq < 65536) && decide (m.priority1 < 256) && decide (m.clockClass < 256) &&
  decide (m.accuracy < 256) && decide (m.variance < 65536) && decide (m.priority2 < 256) && decide (m.stepsRemoved < 65536)

/-- Debug accesses: 4 hardware breakpoints and 2 watchpoints, 32-bit addresses (R620 to R622). -/
def DebugAction.wf : DebugAction → Bool
  | .halt | .resume | .step => true
  | .readReg n | .writeReg n _ => decide (n < 4294967296)
  | .readMem a | .writeMem a _ => decide (a < 4294967296)
  | .setBreak n _ _ => decide (n < 4)
  | .setWatch n _ _ => decide (n < 2)

/-- A command whose operands lie within the widths and ranges of the spec. -/
def Instr.wf : Instr → Bool
  | .ping q => q.wf
  | .info q => q.wf
  | .sessionOpen q => q.wf
  | .sessionClose q => q.wf
  | .ctrlTake q => q.wf
  | .ctrlRelease q => q.wf
  | .timeGet q => q.wf
  | .resetDevice q => q.wf
  | .authChallenge q => q.wf
  | .authResponse q => q.wf
  | .cycleSet q => q.wf
  | .cycleStart q => q.wf
  | .cycleStop q => q.wf
  | .cycleStatus q => q.wf
  | .chCreate q => q.wf
  | .chDestroy q => q.wf
  | .chConfig q => q.wf
  | .chBind q => q.wf
  | .chArm q => q.wf
  | .chDisarm q => q.wf
  | .chSetpoint q => q.wf
  | .chRead q => q.wf
  | .chList q => q.wf
  | .chDepend q => q.wf
  | .chModelRead q => q.wf
  | .chModelWrite q => q.wf
  | .chModelTrimOn q => q.wf
  | .chModelTrimOff q => q.wf
  | .chModelRestore q => q.wf
  | .chSafe q => q.wf
  | .stList q => q.wf
  | .stAdmit q => q.wf
  | .stFallback q => q.wf
  | .stRelease q => q.wf
  | .stStatus q => q.wf
  | .vslLoad q => q.wf
  | .vslCommit q => q.wf
  | .tankDefine q => q.wf
  | .sectionDefine q => q.wf
  | .limitsSet q => q.wf
  | .condRead q => q.wf
  | .strengthRead q => q.wf
  | .progLoad q => q.wf
  | .progUnload q => q.wf
  | .progInfo q => q.wf
  | .slipLoadBegin q => q.wf
  | .slipLoadData q => q.wf
  | .slipLoadApply q => q.wf
  | .slipLoadAbort q => q.wf
  | .slipStatus q => q.wf
  | .slipCapture q => q.wf
  | .slipReadback q => q.wf
  | .bbStatus q => q.wf
  | .bbRead q => q.wf
  | .bbMark q => q.wf
  | .bbRelease q => q.wf
  | .tmSubscribe q => q.wf
  | .tmCancel q => q.wf
  | .wearRead q => q.wf
  | .wearReset q => q.wf
  | .calRunSensorZero q => q.wf
  | .calRunSensorSpan q => q.wf
  | .calRunTemp q => q.wf
  | .calRunSupmon q => q.wf
  | .calRunPlausibility q => q.wf
  | .calRead q => q.wf
  | .dutySet q => q.wf
  | .mirrorSet q => q.wf
  | .fwUpdateBegin q => q.wf
  | .fwUpdateData q => q.wf
  | .fwUpdateCommit q => q.wf
  | .fwUpdateAbort q => q.wf
  | .patchLoad q => q.wf
  | .otpProgramKeyHash q => q.wf
  | .otpProgramRevoke q => q.wf
  | .otpProgramRollback q => q.wf
  | .otpProgramOpenFw q => q.wf
  | .otpProgramJtagLock q => q.wf
  | .otpProgramSlipSignReq q => q.wf
  | .otpProgramCustomerKey q => q.wf
  | .diagRegRead q => q.wf
  | .diagRegWrite q => q.wf
  | .diagMemRead q => q.wf
  | .diagBar2On q => q.wf
  | .diagBar2Off q => q.wf
  | .contFragment q => q.wf
  | .assemblyTimeout sess => decide (sess < 8)
  | .sessionLivenessExpiry sess => decide (sess < 8)
  | .udpGapExpiry sess => decide (sess < 8)
  | .authNonceExpiry sess => decide (sess < 8)
  | .authLockoutExpiry => true
  | .pcieReqDoorbell pair _ count _ => decide (pair < 4) && decide (count < 65536)
  | .pcieReplyDoorbell pair _ => decide (pair < 4)
  | .pcieEvtCons pair index _ => decide (pair < 4) && decide (index < 16384)
  | .hostIrqStatusClear _ _ => true
  | .pcieConfigRequest _ offset _ => decide (offset < 4096)
  | .pcieBar2Read offset _ => decide (offset < 4294967296)
  | .pcieBar2Write offset _ => decide (offset < 4294967296)
  | .perstNAssert => true
  | .perstNDeassert => true
  | .functionLevelReset => true
  | .pcieLinkDownExpiry => true
  | .hspiWritePacket _ _ => true
  | .hspiReadStatus _ clocked => decide (clocked < 65536)
  | .hspiReadPacket _ clocked => decide (clocked < 65536)
  | .loadChunk ep offset total _ => ep.wf && decide (offset < 4294967296) && decide (total < 4294967296)
  | .porRelease _ => true
  | .internalResetRelease _ _ => true
  | .basinClearDone _ => true
  | .flashHeaderRetry slot _ => decide (slot < 3)
  | .bootImageChecked slot => decide (slot < 3)
  | .plainSelfTestDone _ => true
  | .harbourOpen => true
  | .warningAssert _ _ => true
  | .warningIrq => true
  | .warningRecoveryStart => true
  | .warningClear => true
  | .sagReset _ _ _ also => (also.all fun c => decide (1 ≤ c) && decide (c < 10))
  | .sagResetRelease => true
  | .senseConversion mv => decide (mv < 65536)
  | .vbatLow => true
  | .aonSupplySwitch _ => true
  | .pinReset also => (also.all fun c => decide (1 ≤ c) && decide (c < 10))
  | .jtagSysreset also => (also.all fun c => decide (1 ≤ c) && decide (c < 10))
  | .sysctlSwreset who => who.wf
  | .doubleTrap also => (also.all fun c => decide (1 ≤ c) && decide (c < 10))
  | .pllLock pll => decide (pll < 3)
  | .clockLost clocks => (clocks.all fun c => decide (c < 13))
  | .clockGood clock => decide (clock < 16)
  | .timeFreqCheck _ => true
  | .timeHoldoverEntry => true
  | .timeHoldoverExit => true
  | .arrHalfChange => true
  | .watchMark => true
  | .pilotMarkArrival => true
  | .watchMarkIrq => true
  | .macMarkArrival port => decide (port < 2)
  | .admissionRound => true
  | .configResend station => decide (station < 128)
  | .joinForget station => decide (station < 128)
  | .announce => true
  | .gatherDeadline => true
  | .markCompare n => decide (n < 4)
  | .quayLdGo => true
  | .loadDone => true
  | .quayUlGo => true
  | .unloadDone => true
  | .quayAbort => true
  | .commitFlip => true
  | .commitDeadline => true
  | .cycleDeadline => true
  | .cycleAbandoned => true
  | .sagwarnRequest => true
  | .microTrap => true
  | .ackTimeout => true
  | .pilotStart => true
  | .pilotBreak => true
  | .pilotResume => true
  | .pilotPramWrite _ => true
  | .pilotMboxWrite n _ => decide (n < 2)
  | .macroFetch => true
  | .microJump _ => true
  | .microCall _ => true
  | .microReturn _ => true
  | .microLoop _ => true
  | .microDispatch _ => true
  | .microWait _ => true
  | .microTret _ => true
  | .microIdle _ => true
  | .plainIllegal _ => true
  | .plainNop _ => true
  | .plainMov _ => true
  | .plainMovx _ => true
  | .plainLdi _ => true
  | .plainLdix _ => true
  | .plainStix _ => true
  | .plainAdd _ => true
  | .plainSub _ => true
  | .plainAddi _ => true
  | .plainNeg _ => true
  | .plainAbs _ => true
  | .plainMul _ => true
  | .plainMulw _ => true
  | .plainSmul _ => true
  | .plainDiv _ => true
  | .plainRem _ => true
  | .plainCeq _ => true
  | .plainCne _ => true
  | .plainClt _ => true
  | .plainCle _ => true
  | .plainCgt _ => true
  | .plainCge _ => true
  | .plainAnd _ => true
  | .plainOr _ => true
  | .plainXor _ => true
  | .plainAndn _ => true
  | .plainNot _ => true
  | .plainSel _ => true
  | .plainMin _ => true
  | .plainMax _ => true
  | .plainShl _ => true
  | .plainShr _ => true
  | .plainScl _ => true
  | .plainSatn _ => true
  | .plainNshn _ => true
  | .plainNshe _ => true
  | .plainNshs _ => true
  | .plainNshw _ => true
  | .plainPsum _ => true
  | .plainPsumx _ => true
  | .plainRmax _ => true
  | .plainRmin _ => true
  | .plainGmax _ => true
  | .plainGmin _ => true
  | .plainMpush _ => true
  | .plainMpushf _ => true
  | .plainMpop _ => true
  | .plainMelse _ => true
  | .plainTsrch _ => true
  | .plainTlerp _ => true
  | .plainBr _ => true
  | .plainBrgor _ => true
  | .plainBrngor _ => true
  | .plainBrfor _ => true
  | .plainLoop _ => true
  | .plainCall _ => true
  | .plainRet _ => true
  | .plainWaitm _ => true
  | .plainEnd _ => true
  | .plainFclr _ => true
  | .plainDzclr _ => true
  | .enter rd rs1 _ => decide (rd < 32) && decide (rs1 < 32)
  | .leave rd rs1 _ => decide (rd < 32) && decide (rs1 < 32)
  | .syscall _ => true
  | .eret _ => true
  | .rdsys rd sys => decide (rd < 32) && decide (sys < 16)
  | .wrsys sys rs => decide (sys < 16) && decide (rs < 32)
  | .wvmset bank => decide (bank < 8)
  | .wvmclr bank => decide (bank < 8)
  | .stwin window rs => decide (window < 8) && decide (rs < 32)
  | .ldwin window rs => decide (window < 8) && decide (rs < 32)
  | .cwb rs _ => decide (rs < 32)
  | .cinv rs _ => decide (rs < 32)
  | .cwbinv rs _ => decide (rs < 32)
  | .flushi => true
  | .membar => true
  | .rdflt rd code => decide (rd < 32) && decide (code < 8)
  | .wfi => true
  | .fbar => true
  | .rdfsr rd => decide (rd < 32)
  | .wrfsr rs _ => decide (rs < 32)
  | .rdfq rd code => decide (rd < 32) && decide (code < 8)
  | .mulLo rd rs1 rs2 => decide (rd < 32) && decide (rs1 < 32) && decide (rs2 < 32)
  | .mulHs rd rs1 rs2 => decide (rd < 32) && decide (rs1 < 32) && decide (rs2 < 32)
  | .mulHu rd rs1 rs2 => decide (rd < 32) && decide (rs1 < 32) && decide (rs2 < 32)
  | .mulwS rd rs1 rs2 => decide (rd < 32) && decide (rs1 < 32) && decide (rs2 < 32)
  | .mulwU rd rs1 rs2 => decide (rd < 32) && decide (rs1 < 32) && decide (rs2 < 32)
  | .addf rd rs1 rs2 => decide (rd < 32) && decide (rs1 < 32) && decide (rs2 < 32)
  | .addcf rd rs1 rs2 => decide (rd < 32) && decide (rs1 < 32) && decide (rs2 < 32)
  | .subf rd rs1 rs2 => decide (rd < 32) && decide (rs1 < 32) && decide (rs2 < 32)
  | .subbf rd rs1 rs2 => decide (rd < 32) && decide (rs1 < 32) && decide (rs2 < 32)
  | .divS rd rs1 rs2 => decide (rd < 32) && decide (rs1 < 32) && decide (rs2 < 32)
  | .divU rd rs1 rs2 => decide (rd < 32) && decide (rs1 < 32) && decide (rs2 < 32)
  | .remS rd rs1 rs2 => decide (rd < 32) && decide (rs1 < 32) && decide (rs2 < 32)
  | .remU rd rs1 rs2 => decide (rd < 32) && decide (rs1 < 32) && decide (rs2 < 32)
  | .divlU rd rs2 => decide (rd < 32) && decide (rs2 < 32)
  | .clz rd rs1 => decide (rd < 32) && decide (rs1 < 32)
  | .fadd _ fd fs1 fs2 rm => decide (fd < 32) && decide (fs1 < 32) && decide (fs2 < 32) && decide (rm < 8)
  | .fsub _ fd fs1 fs2 rm => decide (fd < 32) && decide (fs1 < 32) && decide (fs2 < 32) && decide (rm < 8)
  | .fmul _ fd fs1 fs2 rm => decide (fd < 32) && decide (fs1 < 32) && decide (fs2 < 32) && decide (rm < 8)
  | .fdiv _ fd fs1 fs2 rm => decide (fd < 32) && decide (fs1 < 32) && decide (fs2 < 32) && decide (rm < 8)
  | .fsqrt _ fd fs1 rm => decide (fd < 32) && decide (fs1 < 32) && decide (rm < 8)
  | .fmac _ fd fs1 fs2 rm => decide (fd < 32) && decide (fs1 < 32) && decide (fs2 < 32) && decide (rm < 8)
  | .fmsc _ fd fs1 fs2 rm => decide (fd < 32) && decide (fs1 < 32) && decide (fs2 < 32) && decide (rm < 8)
  | .fnmac _ fd fs1 fs2 rm => decide (fd < 32) && decide (fs1 < 32) && decide (fs2 < 32) && decide (rm < 8)
  | .fminn _ fd fs1 fs2 rm => decide (fd < 32) && decide (fs1 < 32) && decide (fs2 < 32) && decide (rm < 8)
  | .fmaxn _ fd fs1 fs2 rm => decide (fd < 32) && decide (fs1 < 32) && decide (fs2 < 32) && decide (rm < 8)
  | .fcmpeq _ rd fs1 fs2 rm => decide (rd < 32) && decide (fs1 < 32) && decide (fs2 < 32) && decide (rm < 8)
  | .fcmplt _ rd fs1 fs2 rm => decide (rd < 32) && decide (fs1 < 32) && decide (fs2 < 32) && decide (rm < 8)
  | .fcmple _ rd fs1 fs2 rm => decide (rd < 32) && decide (fs1 < 32) && decide (fs2 < 32) && decide (rm < 8)
  | .ftoi _ rd fs1 rm => decide (rd < 32) && decide (fs1 < 32) && decide (rm < 8)
  | .ftou _ rd fs1 rm => decide (rd < 32) && decide (fs1 < 32) && decide (rm < 8)
  | .itof _ fd rs1 rm => decide (fd < 32) && decide (rs1 < 32) && decide (rm < 8)
  | .utof _ fd rs1 rm => decide (fd < 32) && decide (rs1 < 32) && decide (rm < 8)
  | .ftof _ fd fs1 rm => decide (fd < 32) && decide (fs1 < 32) && decide (rm < 8)
  | .fcpys _ fd fs1 fs2 rm => decide (fd < 32) && decide (fs1 < 32) && decide (fs2 < 32) && decide (rm < 8)
  | .fneg _ fd fs1 rm => decide (fd < 32) && decide (fs1 < 32) && decide (rm < 8)
  | .fabs _ fd fs1 rm => decide (fd < 32) && decide (fs1 < 32) && decide (rm < 8)
  | .fput _ fd rs1 rs2 rm => decide (fd < 32) && decide (rs1 < 32) && decide (rs2 < 32) && decide (rm < 8)
  | .fget _ rd fs1 rm => decide (rd < 32) && decide (fs1 < 32) && decide (rm < 8)
  | .floadS f rs _ => decide (f < 32) && decide (rs < 32)
  | .floadD f rs _ => decide (f < 32) && decide (rs < 32)
  | .fstoreS f rs _ => decide (f < 32) && decide (rs < 32)
  | .fstoreD f rs _ => decide (f < 32) && decide (rs < 32)
  | .interruptTaken => true
  | .intcClaim who => who.wf
  | .intcComplete who source => who.wf && decide (source < 64)
  | .intcEndService who index _ => who.wf && decide (index < 2)
  | .debugAccess a => a.wf
  | .dbgFlush => true
  | .tapTestLogicReset => true
  | .registerWrite who addr _ => who.wf && decide (addr < 4294967296)
  | .guardKey who block => who.wf && decide (block < 32)
  | .guardWrongKey who block _ => who.wf && decide (block < 32)
  | .guardClearFlags who block _ => who.wf && decide (block < 32)
  | .guardExpiry block => decide (block < 32)
  | .otpProgCmd who _ => who.wf
  | .otpProgDone _ => true
  | .wdtService who _ => who.wf
  | .wdtPrewarn => true
  | .wdtExpiry also => (also.all fun c => decide (1 ≤ c) && decide (c < 10))
  | .timerSyscntLatch who => who.wf
  | .ptpTimeSnapshot who => who.wf
  | .fairwayTraceRead who => who.wf
  | .shadowDataRead who => who.wf
  | .dcqDropClear who => who.wf
  | .quayBusyClear who => who.wf
  | .clrColl who => who.wf
  | .clrEcc who => who.wf
  | .clrCounts who => who.wf
  | .scrubClr who => who.wf
  | .ethCntClear who port => who.wf && decide (port < 2)
  | .ethRxKick who port ring => who.wf && decide (port < 2) && decide (ring < 3)
  | .ethTxKick who port ring => who.wf && decide (port < 2) && decide (ring < 3)
  | .mdioCommand who port _ => who.wf && decide (port < 2)
  | .mdioDone port _ => decide (port < 2)
  | .mdioPoll port _ _ _ => decide (port < 2)
  | .ptpStep who => who.wf
  | .dmaGo who channel => who.wf && decide (channel < 8)
  | .dmaDone channel => decide (channel < 8)
  | .dmaError channel addr => decide (channel < 8) && decide (addr < 4294967296)
  | .matrixRequest r also other => r.wf && also.all BusReq.wf && other.all PortUse.wf
  | .eccWriteBack addr => decide (addr < 4294967296)
  | .basinPowerWrite who _ => who.wf
  | .basinWakeDone basin => decide (basin < 5)
  | .arrHalfWrite who _ => who.wf
  | .slipctlApplyGo who => who.wf
  | .slipctlCaptureGo who _ => who.wf
  | .shadowCapture _ => true
  | .reclaimUnfence who domain => who.wf && decide (domain < 32)
  | .bbrRelease who index => who.wf && decide (index < 4096)
  | .rtcSet who _ => who.wf
  | .bbrAppend who beats _ _ => who.wf && decide (beats < 16)
  | .anchor => true
  | .fairwayRequest p also other => p.wf && also.all FwPacket.wf && other.all PortUse.wf
  | .fairwayResponse p => p.wf
  | .waking p => p.wf
  | .wakeRetry p => p.wf
  | .fairwayTimeout node tid => decide (node < 16) && decide (tid < 64)
  | .tidQuarantineEnd node tid => decide (node < 16) && decide (tid < 64)
  | .holdLeaseExpiry master port addr => decide (master < 5) && decide (port < 8) && decide (addr < 4294967296)
  | .injectionLeaseExpiry node tid => decide (node < 16) && decide (tid < 64)
  | .qcPortLeaseExpiry qc => decide (qc < 24)
  | .bbrPortLeaseExpiry master _ => decide (master < 5)
  | .quayPassTimeout => true
  | .fenceSequence domain lease resource low => decide (domain < 32) && decide (lease < 16) && decide (resource < 16) && decide (low < 65536)
  | .domainResetRelease domain => decide (domain < 32)
  | .hmFenceLift port => decide (port < 8)
  | .ethRxFrame port frame => decide (port < 2) && frame.wf
  | .rxDescriptorRetry port ring => decide (port < 2) && decide (ring < 3)
  | .descriptorWaitExpiry port ring => decide (port < 2) && decide (ring < 3)
  | .ethTxDone port queue => decide (port < 2) && decide (queue < 4)
  | .join f => f.wf
  | .configAck f => f.wf
  | .input f => f.wf
  | .announceReceived f => f.wf
  | .commitReceived f => f.wf
  | .arpRequest port srcMac srcIp targetIp => decide (port < 2) && decide (srcMac < 281474976710656) && decide (srcIp < 4294967296) && decide (targetIp < 4294967296)
  | .icmpEchoRequest port srcMac srcIp dstIp echo _ => decide (port < 2) && decide (srcMac < 281474976710656) && decide (srcIp < 4294967296) && decide (dstIp < 4294967296) && decide (echo < 4294967296)
  | .ptpSync port m => decide (port < 2) && m.wf
  | .ptpFollowUp port m => decide (port < 2) && m.wf
  | .ptpDelayReq port m => decide (port < 2) && m.wf
  | .ptpDelayResp port m => decide (port < 2) && m.wf
  | .ptpAnnounce port m => decide (port < 2) && m.wf
  | .modbusPollStart uart => decide (uart < 8)
  | .modbusResponse uart _ _ => decide (uart < 8)
  | .modbusTimeout uart => decide (uart < 8)
  | .nmeaSentence uart _ => decide (uart < 8)
  | .canFrameReceived can id _ data => decide (can < 4) && decide (id < 536870912) && decide (data.length ≤ 64)
  | .canTxDone can => decide (can < 4)
  | .canRxTimeout can => decide (can < 4)
  | .pointAgeExpiry station point => decide (station < 128) && decide (point < 64)
  | .canBusOff can => decide (can < 4)
  | .canBusOffRecovery can => decide (can < 4)
  | .vsPost n entries lastApplied => decide (n < 4) && (entries.all fun e => decide (e.1 < 64) && decide (e.2.1 < 256) && decide (-32768 ≤ e.2.2) && decide (e.2.2 ≤ 32767)) && decide (lastApplied < 4294967296)
  | .vsPresentRise n => decide (n < 4)
  | .vsPresentFall n => decide (n < 4)
  | .qcTransfer qc _ _ other => decide (qc < 24) && other.all PortUse.wf
  | .qcRawAccess qc _ offset _ _ _ other => decide (qc < 24) && decide (offset < 65536) && other.all PortUse.wf
  | .bankLow bank => decide (bank < 2)
  | .bankRestored bank => decide (bank < 2)
  | .laneLost lane dropped => decide (lane < 12) && decide (dropped < 65536)
  | .slipWindowAccess who _ offset _ _ => who.wf && decide (offset < 4294967296)
  | .winTimeout who => who.wf
  | .slipApplyStart => true
  | .slipApplyDone _ => true
  | .ebbSlice => true
  | .quaySlot => true
  | .plainWindowAccess r => r.wf
  | .fieldWakeDone field => decide (field < 16)
  | .fieldSleep field _ => decide (field < 16)
  | .plainScrubSlice => true
  | .basinScrubRead basin => decide (basin < 5)
  | .slipConfigScrubRead offset errorBits => decide (offset < 4294967296) && decide (errorBits < 128)
  | .telemetryBuild => true
  | .wearCounting => true
  | .trimSample => true
  | .trimReplay slot => decide (slot < 1024)
  | .dutyRotationCheck => true
  | .dutyChangeoverConfirm group => decide (group < 32)
  | .dutyAbort group => decide (group < 32)
  | .calibrationSample => true
  | .plausibilityCheck => true
  | .driftTracking => true
  | .journalFlush => true
  | .journalCompaction => true
  | .qspiCommandDone => true
  | .xipRead who offset => who.wf && decide (offset < 4294967296)
  | .tempSample readings => decide (readings.length = 6)
  | .thermalStep1 => true
  | .thermalStep2 => true
  | .thermalClear => true
  | .thermalShutdown also => (also.all fun c => decide (1 ≤ c) && decide (c < 10))
  | .pcieLinkStateChange _ gen width => decide (gen < 4) && decide (width < 17)
  | .hmLoadStore _ rd rs1 _ => decide (rd < 32) && decide (rs1 < 32)
  | .hmBranch _ rd rs1 rs2 _ => decide (rd < 32) && decide (rs1 < 32) && decide (rs2 < 32)
  | .hmIntegerInstruction _ rd rs1 rs2 _ => decide (rd < 32) && decide (rs1 < 32) && decide (rs2 < 32)
  | .hmUndefinedEncoding _ => true
  | .fpInstructionComplete => true
  | .ptpAnnounceReceiptTimeout port => decide (port < 2)
  | .ptpMessageInterval port kind => decide (port < 2) && decide (kind < 3)
  | .bbrStampUpdate => true
  | .timeBaseSecond => true
  | .supmonCrossing monitor _ => decide (monitor < 4)
  | .laneLockRegained lane => decide (lane < 12)
  | .vbatRecovered => true

end Sys2Proof
end

