-- ==== Sys2Proof/Safety.lean ====
section
/-! DEFINITION. What counts as a safe run, in the terms that claims use: the invariant of the state, and when a command is admitted. -/

namespace Sys2Proof.Machine

/-- The invariant of every run: the Basin memory keeps its canonical form, so that equal memories are equal data. -/
def State.Inv (s : State) : Prop := Memory.wf s.mem = true

/-- A step is safe when it ends in a next state: no fault, no refusal. -/
def Safe (o : Out) : Prop := ∃ t, o = .next t

/-- The packet that the body of an admitted request reads. -/
def State.argOf (s : State) (q : Req) : Packet := (s.heard q).bodyPacket q.pkt

/-- The state in which the body of an admitted request runs. -/
def State.bodyAt (s : State) (q : Req) : State := (s.heard q).bodyState q.pkt

/-- A request that arrives and executes at once: the interpreter queue is empty, checks 1 to 10 pass, it is no fragment, and check 11
finds nothing (R214, R230, R247, R264). -/
structure State.Admits (s : State) (q : Req) : Prop where
  idle : s.omx.interp = []
  passes : (s.heard q).checkReq q.ep q.pkt = .go
  whole : q.pkt.isCont = false
  fits : (s.argOf q).payload.length ≤ 65536
  allowed : (s.bodyAt q).check11 (s.argOf q) = none

/-- An access of `who` to the register at `addr` reaches the register's block: the device is not in test mode but for the TAP, the matrix does
not fence the master, gives it a path, and the debug port and the block answer (R60, Table REG-1, Table REG-3). -/
structure State.Reaches (s : State) (who : Initiator) (addr : Nat) : Prop where
  heard : s.silent who = false
  unfenced : s.masterFenced who.master 4 = false
  path : who.master ≠ 0
  debug : (who.master == 4 && s.otp.jtagLock) = false
  answers : (blockOf addr == 3 && !s.arrUp) = false

/-- A guarded write of `who` at `addr` is accepted: it reaches the block, and the block's guard is open for its initiator (R184, R185). -/
structure State.Opens (s : State) (who : Initiator) (addr : Nat) : Prop extends s.Reaches who addr where
  guard : s.guardOpen (blockOf addr) who = true

/-- Nothing waits in the bus matrix: no access is held, none waits at a master port, no burst keeps a path, and the Basins are cleared (R139,
R665 to R669). -/
structure State.Quiet (s : State) : Prop where
  held : s.held = []
  atPort : s.atPort = []
  paths : s.paths = []
  cleared : s.boot.basins = true

/-- Nothing waits for port B of Basin 2 or at a master port of the matrix (R669, R798, R800). -/
structure State.PortFree (s : State) : Prop where
  parked : s.fw.parked = []
  portWait : s.slip.portWait = []
  atPort : s.atPort = []

/-- The state that an accepted guarded write acts on: the bus answered OKAY, the guard closed. -/
def State.opened (s : State) (who : Initiator) (addr : Nat) : State := (s.busAnswer who .ok).guardUse (blockOf addr)

/-- The elements on which a macro-instruction acts: those of the ON fields that its MSEL selects by the current mask (R456, R538). -/
def State.acts (s : State) (m : MacroInstr) : List Nat :=
  s.plain.onElems.filter fun n =>
    mMsel m == 0 || mMsel m == 3 || (mMsel m == 1 && s.plain.mask s.pilot.maskD n) || (mMsel m == 2 && !s.plain.mask s.pilot.maskD n)

/-- Where the operand DST, SRC1 or SRC2 of a macro-instruction lies in element `n` (R534). -/
def State.dstAt (s : State) (m : MacroInstr) (n : Nat) : Nat := opAddr m (s.plain.elem n) 2 (mDst m)
def State.src1At (s : State) (m : MacroInstr) (n : Nat) : Nat := opAddr m (s.plain.elem n) 1 (mSrc1 m)
def State.src2At (s : State) (m : MacroInstr) (n : Nat) : Nat := opAddr m (s.plain.elem n) 3 (mSrc2 m)

/-- In `t` the DST operand of element `n`, `wd` bits wide, holds the low bits of `v`. -/
def State.Wrote (s t : State) (m : MacroInstr) (n wd v : Nat) : Prop := t.plain.bits n (s.dstAt m n) wd = v % 2 ^ wd

/-- The same, where the instruction also leaves F of the element. -/
def State.WroteF (s t : State) (m : MacroInstr) (n wd v : Nat) (f : Bool) : Prop :=
  t.plain.bits n (s.dstAt m n) wd = v % 2 ^ wd ∧ (t.plain.elem n).f = f

/-- The HM executes the instruction at the pc in state `u`: it runs (no reset, error mode, debug halt or wait), no breakpoint stops it, and the
fetch, from the cache or over the bus, succeeds (R592, R593, R620). -/
structure State.Fetches (s u : State) : Prop where
  runs : s.hmRuns = true
  unbroken : s.dbg.stepping = true ∨ ∀ k a, (k, a) ∈ s.dbg.breaks → a ≠ s.hm.pc
  fetched : State.fetch { s with hm := { s.hm with waiting := false }, dbg := { s.dbg with stepping := false } } = (u, 0)

/-- An FP instruction that uses the FP registers `uses`, its destination among them, issues in state `t`: what it depends on has completed, no
exception is pending and FE is 1 (R637, R648). -/
structure State.Issues (s t : State) (uses : List Nat) (divider : Bool) : Prop where
  fetches : ∃ u, s.Fetches u ∧ t = { u with hm := u.hm.completeN (u.hm.waitsFor uses divider) }
  quiet : t.hm.fq = []
  enabled : t.hm.fe = true

/-- The state after an FP instruction issued in `t` and wrote `u`: it is in flight with the exceptions of its completion, and the pc is past it. -/
def State.inFlight (u t : State) (word : Word) (dest : Option Nat) (divider : Bool) (exc : Nat) : State :=
  { u with hm := { u.hm with
    flight := u.hm.flight ++ [({ pc := t.hm.pc, instr := word, dest := dest, divider := divider, exc := exc } : FpOp)] } }.pcNext

/-- The state after an FP instruction issued in `t` and wrote FP register `fd` with `r`; a binary32 result clears bits [63:32] (R638). -/
def State.fpWrites (t : State) (fmt : FpFmt) (fd : Nat) (word : Word) (divider : Bool) (r : FpRes) : State :=
  ({ t with hm := { t.hm with f := t.hm.f.set (fd % 32) (BitVec.ofNat 64 (match fmt with
    | .s => r.1 % 2 ^ 32
    | .d => r.1)) } }).inFlight t word (some (fd % 32)) divider r.2

/-- The state after an FP instruction issued in `t` and wrote integer register `rd` with `r`. -/
def State.fpGives (t : State) (rd : Nat) (word : Word) (r : FpRes) : State :=
  (t.setR rd (BitVec.ofNat 32 r.1)).inFlight t word none false r.2

/-- The HSR `h` after an instruction that sets N, Z, V and C for the result `v` of the exact value `exact`: a chained one sets Z only where it
was set, and every other bit stays (R629, R630). -/
def State.Flags (u : State) (h v : Word) (exact : Int) (chained carry : Bool) : Prop :=
  bit h 15 = bit v 31 ∧ bit h 14 = (decide (v = 0) && (!chained || bit u.hm.hsr 14)) ∧ bit h 13 = decide (exact ≠ v.toInt) ∧
  bit h 12 = carry ∧ bits h 11 0 = bits u.hm.hsr 11 0 ∧ bits h 31 16 = bits u.hm.hsr 31 16

end Sys2Proof.Machine
end

