-- ==== Sys2Proof/Certificates/Slice0/Obligations.lean ====
section
/-! DEFINITION. What is claimed of the model: one proposition per obligation of OBLIGATIONS.json. -/

open Sys2Proof Sys2Proof.Machine

/-- A step takes the command at the front of the queue and is that command's effect on the state with the queue's rest; on an empty queue the block idles
(log entry 3). -/
def Obligations.StepRunsFront : Prop :=
  (∀ (s : State) (c : Instr) (r : List Instr), s.pending = c :: r → step s = exec c { s with pending := r }) ∧
  ∀ (s : State), s.pending = [] → step s = .next s

/-- What reset leaves: every field of every register at the value of its table's reset column, and the Harbourmaster's registers at the values of Table
HMC-7 and R619. -/
def Obligations.ResetState : Prop :=
  (∀ r, r ∈ regTable → ∀ f, f ∈ r.fields → ∀ k, k < r.count → State.reset.fld (r.base + r.stride * k) f.hi f.lo = f.reset) ∧
  State.reset.hm.hsr = 0 ∧ State.reset.hm.wvm = 0x01 ∧ State.reset.hm.tvec = 0x01000000 ∧ (State.reset.hm.sysReg 6) = 0x00003201 ∧
  State.reset.omx.sessions = [] ∧ State.reset.pending = []

/-- After reset the Basin memory has its canonical form and lists nothing. -/
def Obligations.ResetMemoryCanonical : Prop := State.reset.Inv ∧ State.reset.mem = []

/-- Every step keeps the canonical form of the Basin memory: addresses strictly rising, no listed byte equal to what an unlisted one reads. -/
def Obligations.MemoryCanonicalKept : Prop := ∀ (s t : State), s.Inv → step s = .next t → t.Inv

/-- The reply of a command changes nothing but the transports and sessions, the host's view of them, and the recorder with its registers and free values
where the next held request is refused: channels, stations, the watch cycle, memories, the Plain, the HM and time stay (R214, R232). -/
def Obligations.ReplyFrame : Prop :=
  ∀ (u t : State) (q : Req) (payload : Bytes) (status handle : Nat),
    t = Rep.finish { state := u, payload := payload, status := status, handle := handle } q →
    t = { u with omx := t.omx, host := t.host, regs := t.regs, bbr := t.bbr, freeCtr := t.freeCtr }

/-- The system commands that are admitted complete with the replies of Table OPC-4: PING returns its payload (R271), INFO its 32 bytes, SESSION_OPEN opens
the lowest free session for its endpoint (R221, R272), SESSION_CLOSE replies before the session ends (R273), CTRL_TAKE gives the control token and
CTRL_RELEASE frees it with the staging data (R225, R274), TIME_GET reports TIME_US, RESET_DEVICE announces a reset (R275). Completion is stated of:
PING, INFO, SESSION_OPEN, SESSION_CLOSE, CTRL_TAKE, CTRL_RELEASE, TIME_GET, RESET_DEVICE. -/
def Obligations.SystemCommandsComplete : Prop :=
  ∀ (q : Req) (s : State), s.Admits q →
    (∀ p u, p = (s.argOf q).payload → u = s.bodyAt q →
      (p.length ≤ 64 → exec (.ping q) s = .next (Rep.finish { state := u, payload := p } q)) ∧
      (p = [] → ∃ r, exec (.info q) s = .next (Rep.finish { state := u, payload := r } q) ∧ r.length = 32 ∧
        u32 r 0 = 0x2B1607E5 ∧ u8 r 18 = u.sessionBits % 256 ∧ u8 r 19 = u.omx.token % 256 ∧ u8 r 28 = u.warning.toNat) ∧
      (∀ n ms x, p.length = 4 → ms = (if u16 p 0 = 0 then 3000 else u16 p 0) → (u16 p 0 = 0 ∨ 500 ≤ u16 p 0 ∧ u16 p 0 ≤ 60000) →
        firstNonZero p 2 2 = none → u.endpointBound q.ep = false → u.freeSession = some n →
        x = ({ ep := q.ep, livenessMs := ms, expected := q.pkt.seq + 1, opening := u.omx.openings } : Session) →
        exec (.sessionOpen q) s = .next (Rep.finish
          { state := { u with omx := { u.omx with openings := u.omx.openings + 1, sessions := Store.insert u.omx.sessions n x } },
            payload := [BitVec.ofNat 8 n, 0] ++ leBytes 2 ms ++ leBytes 2 (q.pkt.seq + 1).toNat,
            after := fun t => t.firstEvents n } q)) ∧
      (p = [] → exec (.sessionClose q) s = .next (Rep.finish { state := u, after := fun t => t.endSession q.pkt.session } q)) ∧
      (p = [0, 0, 0, 0] → u.omx.token = 0 → q.pkt.session ≠ 0 →
        exec (.ctrlTake q) s = .next (Rep.finish
          { state := { u with omx := { u.omx with token := q.pkt.session } }.dropStaging, payload := [0] } q)) ∧
      (p = [] → u.omx.token = q.pkt.session →
        exec (.ctrlRelease q) s = .next (Rep.finish { state := { u with omx := { u.omx with token := 0 } }.dropStaging } q)) ∧
      (p = [] → ∃ r, exec (.timeGet q) s = .next (Rep.finish { state := u, payload := r } q) ∧ r.length = 20 ∧
        u64 r 0 = u.nowUs % 2 ^ 64 ∧ u32 r 8 = u.wc.cycle.toNat ∧ u32 r 12 = (u.reg Reg.bbrRtcS).toNat) ∧
      (p.length = 8 → u32 p 0 = 0xA5A5 → u8 p 4 = 1 → firstNonZero p 5 3 = none →
        exec (.resetDevice q) s = .next (Rep.finish
          { state := u, after := fun t => { t.raiseVector 8 with omx := { t.omx with resetAnnounced := true } } } q)))

/-- The authentication and cycle commands that are admitted complete: AUTH_CHALLENGE answers a fresh device nonce, AUTH_RESPONSE with the right HMAC
authenticates the session and answers the device's own (R250), CYCLE_SET within the bounds and the budget sets the parameters (R276), CYCLE_START
names the first cycle and its mark, at least one period away (R21), CYCLE_STOP marks the stop (R22), CYCLE_STATUS reports 48 bytes (R277). Completion
is stated of: AUTH_CHALLENGE, AUTH_RESPONSE, CYCLE_SET, CYCLE_START, CYCLE_STOP, CYCLE_STATUS. -/
def Obligations.CycleCommandsComplete : Prop :=
  ∀ (q : Req) (s : State), s.Admits q →
    (∀ p u, p = (s.argOf q).payload → u = s.bodyAt q →
      (p.length = 16 → u.otp.custKey.isSome = true → u.omx.lockout = false →
        exec (.authChallenge q) s = .next (Rep.finish
          { state := { u with freeCtr := u.freeCtr + 16 }.updSession q.pkt.session fun x =>
              { x with challenge := some { hostNonce := p, devNonce := freeBytes u.freeCtr 16 } },
            payload := freeBytes u.freeCtr 16 } q)) ∧
      (∀ k c, p.length = 32 → u.otp.custKey = some k → ((u.session q.pkt.session).bind fun x => x.challenge) = some c →
        p = hmac k (labelHost ++ c.devNonce ++ c.hostNonce ++ [BitVec.ofNat 8 q.pkt.session]) →
        ∃ v, exec (.authResponse q) s = .next (Rep.finish
          { state := v, payload := hmac k (labelDev ++ c.hostNonce ++ c.devNonce ++ [BitVec.ofNat 8 q.pkt.session]) } q) ∧
          v.omx.authFailRun = 0 ∧ (v.session q.pkt.session).map (fun x => (x.authed, x.ks, x.challenge)) =
            some (true, hmac k (labelKey ++ c.devNonce ++ c.hostNonce), none)) ∧
      (∀ per gat lead, p.length = 12 → per = (if u32 p 0 = 0 then u.wc.periodUs else u32 p 0) →
        gat = (if u8 p 4 = 0 then u.wc.gatherPct else u8 p 4) → lead = (if u32 p 8 = 0 then u.wc.leadUs else u32 p 8) →
        1000 ≤ per → per ≤ 200000 → 2 ≤ gat → gat ≤ 50 → u8 p 5 = 0 → firstNonZero p 6 2 = none → 200 ≤ lead → lead ≤ 10000 →
        u.wc.decimation ≤ 16 → u.cycleOn = false → q.pkt.isAsync = false →
        (u.arrMhz * 100 : Nat) ≤ budget u.admitView.arrMhz per (gatherUs per gat) lead (u.admitView.frameBuild u.admitView.chans) →
        (u.admitView.costOf u.admitView.chans u.wc.decimation u.admitView.modelSize u.admitView.pairs : Int) ≤
          budget u.admitView.arrMhz per (gatherUs per gat) lead (u.admitView.frameBuild u.admitView.chans) →
        ∃ r, exec (.cycleSet q) s = .next (Rep.finish
          { state := { u with wc := { u.wc with periodUs := per, gatherPct := gat, leadUs := lead } }, payload := r } q) ∧ u32 r 0 = 0) ∧
      (p = [] → u.cycleOn = false → u.fld Reg.sysctlPlainFail 15 0 ≠ 0xFFFF →
        ∃ v m, exec (.cycleStart q) s = .next (Rep.finish { state := v, payload := leBytes 4 u.firstCycle.toNat ++ leBytes 8 m } q) ∧
          v.wc.startAtUs = some m ∧ v.wc.nCommitted = 0 ∧ v.wc.nLate = 0 ∧ v.wc.nDiscarded = 0 ∧ v.wc.nBraced = 0 ∧
          (0 < u.wc.periodUs → u.nowUs + u.wc.periodUs ≤ m ∧ m % u.wc.periodUs = 0 ∧ m < u.nowUs + 2 * u.wc.periodUs)) ∧
      (p = [] → u.cycleOn = true → u.wc.stopPending = false →
        exec (.cycleStop q) s = .next (Rep.finish
          { state := { u with wc := { u.wc with stopPending := true } }, payload := leBytes 4 u.wc.cycle.toNat } q)) ∧
      (p = [] → exec (.cycleStatus q) s = .next (Rep.finish { state := u, payload := u.cycleStatus } q) ∧ u.cycleStatus.length = 48 ∧
        u8 u.cycleStatus 0 = u.cycleOn.toNat ∧ u32 u.cycleStatus 4 = u.wc.periodUs % 2 ^ 32 ∧ u32 u.cycleStatus 12 = u.wc.cycle.toNat))

/-- The channel commands that are admitted complete (Table OPC-6): CH_CREATE makes a DEFINED channel in its slot and answers the handle (R279), CH_DESTROY
of a DEFINED or BOUND channel frees the slot (R280), CH_CONFIG writes the block at rest or from its cycle (R333), CH_BIND binds its entries (R282),
CH_ARM within the budget, CH_DISARM, CH_SETPOINT within SP_MIN to SP_MAX and CH_SAFE hand over their change with its EFFECT_CYCLE (R30, R283 to R285).
Completion is stated of: CH_CREATE, CH_DESTROY, CH_CONFIG, CH_BIND, CH_ARM, CH_DISARM, CH_SETPOINT, CH_SAFE. -/
def Obligations.ChannelCommandsComplete : Prop :=
  ∀ (q : Req) (s : State), s.Admits q →
    (∀ p u k, k = s.argOf q → p = k.payload → u = s.bodyAt q →
      (∀ t slot, chType? (u8 p 0) = some t → t ≠ .custom → p.length = 8 + u16 p 4 → u8 p 1 ≤ 1 → u16 p 2 ≤ 1023 →
        u16 p 4 = blockLength t (p.drop 8) → u16 p 4 ≤ 1024 → firstNonZero p 6 2 = none → badField t (p.drop 8) = none →
        u.pickSlot (u16 p 2) (u8 p 1 % 2 == 1) = some slot →
        ∃ v : State, exec (.chCreate q) s = .next (Rep.finish
            { state := v.chanStateEvent slot 0 ChState.defined.code 0, handle := u.handleOf slot,
              payload := leBytes 2 (u.handleOf slot) ++ leBytes 1 (slot / 64) ++ leBytes 1 (slot % 64) } q) ∧
          (Store.find? v.chans slot).map (fun (c : Channel) => (c.typ, c.state, c.params, c.half.setpoint)) =
            some (t, .defined, p.drop 8, min (max (pSpMin (p.drop 8)) 0) (pSpMax (p.drop 8))) ∧
          ∀ n, n ≠ slot → Store.find? v.chans n = Store.find? u.chans n) ∧
      (∀ c, u.checkHandle q.pkt.handle = .ok c → c.destroying = false →
        (p = [0, 0, 0, 0] → (c.state = .defined ∨ c.state = .bound) → u.dependents (slotOf q.pkt.handle) false = false →
          exec (.chDestroy q) s = .next (Rep.finish
            { state := u.destroyChan (slotOf q.pkt.handle), payload := [0, 0, 0, 0] } q)) ∧
        (∀ new d, d = u.latest (slotOf q.pkt.handle) c → p.length = 8 + u16 p 2 → u16 p 0 + u16 p 2 ≤ d.params.length →
          firstNonZero p 4 4 = none → new = d.params.take (u16 p 0) ++ p.drop 8 ++ d.params.drop (u16 p 0 + u16 p 2) →
          badField c.typ new = none → new.length = blockLength c.typ new → c.typ ≠ .custom → c.state.runs = false →
          exec (.chConfig q) s = .next (Rep.finish
            (restRep u k (slotOf q.pkt.handle) c (.config (slotOf q.pkt.handle) (u16 p 0) (p.drop 8))) q)) ∧
        (∀ d, p.length = 4 + 4 * u8 p 0 → 1 ≤ u8 p 0 → u8 p 0 ≤ 16 → firstNonZero p 1 3 = none → u.bindAll p (u8 p 0) 0 c = .ok d →
          (c.state = .defined ∨ c.state = .bound) → u.taken (slotOf q.pkt.handle) d = false →
          exec (.chBind q) s = .next (Rep.finish
            { state := u.changeChan (slotOf q.pkt.handle) fun _ => u.rebind d,
              payload := leBytes 1 (u.rebind d).state.code ++ [0, 0, 0] } q)) ∧
        (∀ v : State, p = [0, 0, 0, 0] → c.state = .bound →
          (namedDeps (u.latest (slotOf q.pkt.handle) c).typ (u.latest (slotOf q.pkt.handle) c).params).any
            (fun i => decide (i ≥ (u.latest (slotOf q.pkt.handle) c).deps.length)) = false →
          v = (u.pend .atCycle (.arm (slotOf q.pkt.handle)) none).admitView → (v.costNow : Int) ≤ v.budgetNow v.chans →
          exec (.chArm q) s = .next (Rep.finish
            (changeRep u k .atCycle (.arm (slotOf q.pkt.handle)) (leBytes 4 v.costNow ++ leBytes 4 (u32Of (v.budgetNow v.chans)))) q)) ∧
        (p.length = 4 → u8 p 0 ≤ 1 → firstNonZero p 1 3 = none → c.state ≠ .defined → c.state ≠ .bound →
          u.dependents (slotOf q.pkt.handle) true = false →
          exec (.chDisarm q) s = .next (Rep.finish
            (changeRep u k .atCycle (.disarm (slotOf q.pkt.handle) (decide (u8 p 0 = 1)))) q)) ∧
        (hasSetpoint c = true → p.length = 12 → u8 p 0 = 0 → u32 p 8 = 0 → firstNonZero p 1 3 = none →
          pSpMin (u.latest (slotOf q.pkt.handle) c).params ≤ s32 p 4 → s32 p 4 ≤ pSpMax (u.latest (slotOf q.pkt.handle) c).params →
          c.state ≠ .safed → c.state ≠ .faulted → u.duty = [] →
          exec (.chSetpoint q) s = .next (Rep.finish
            (changeRep u k .atCycle (.setpoint (slotOf q.pkt.handle) false (s32 p 4) 0)) q)) ∧
        (p = [0, 0, 0, 0] → c.state.runs = true →
          exec (.chSafe q) s = .next (Rep.finish (changeRep u k .atCommit (.safe (slotOf q.pkt.handle))) q)) ∧
        (p = [0, 0, 0, 0] → c.state = .safed →
          exec (.chSafe q) s = .next (Rep.finish { state := u, payload := leBytes 4 u.effectCycle.toNat } q))))

/-- The channel commands that read, and those that write the dependency list and the model block, complete (Table OPC-6): CH_READ answers the 36-byte
record that names the channel (R278), CH_LIST a page of the listed channels (R268), CH_DEPEND and the CH_MODEL operations hand over their change
(R286, R361), and CH_MODEL READ answers the 56-byte block. A change that is handed over waits for its cycle while the watch cycle runs, starts or
stops, with EFFECT_CYCLE in the reply, and acts at execution with EFFECT_CYCLE 0 while it is stopped (R26, R267). Completion is stated of: CH_LIST,
CH_READ, CH_DEPEND, CH_MODEL_READ, CH_MODEL_TRIM_ON, CH_MODEL_TRIM_OFF, CH_MODEL_RESTORE, CH_MODEL_WRITE. -/
def Obligations.ChannelReadsComplete : Prop :=
  (∀ (q : Req) (s : State), s.Admits q →
     (∀ p u k, k = s.argOf q → p = k.payload → u = s.bodyAt q →
       (p.length = 4 → u16 p 0 = 0 → u8 p 2 = 0xFF → u8 p 3 = 0 →
         ∃ r page rest, exec (.chList q) s = .next (Rep.finish { state := u, payload := r } q) ∧ u.chans = page ++ rest ∧
           page.length = min (pageSize (u.replyMax q.ep k) 4 4 256) u.chans.length ∧ u16 r 0 = page.length % 65536 ∧
           r.length = 4 + 4 * page.length ∧ (rest = [] → u16 r 2 = 0xFFFF)) ∧
       (∀ c n, n = slotOf q.pkt.handle → u.checkHandle q.pkt.handle = .ok c → c.destroying = false →
         (p = [0, 0, 0, 0] →
           exec (.chRead q) s = .next (Rep.finish { state := u, payload := u.chRecord n c } q) ∧ (u.chRecord n c).length = 36 ∧
           u16 (u.chRecord n c) 0 = u.handleOf n % 65536 ∧ u8 (u.chRecord n c) 2 = c.typ.code % 256 ∧ u8 (u.chRecord n c) 3 = c.state.code % 256) ∧
         (p.length = 4 + 4 * u8 p 0 → u8 p 0 ≤ 8 → firstNonZero p 1 3 = none → u.badDep n p = none →
           exec (.chDepend q) s = .next (Rep.finish (restRep u k n c
             (.depend n ((List.range (u8 p 0)).map fun i => ⟨u16 p (4 + 4 * i), u8 p (6 + 4 * i)⟩))) q)) ∧
         (p.length = 8 → firstNonZero p 1 1 = none → u16 p 2 = 0 → firstNonZero p 4 4 = none →
           (u8 p 0 = 0 → exec (.chModelRead q) s = .next (Rep.finish { state := u, payload := leBytes 4 0 ++ leBytes 2 56 ++ [0, 0] ++ c.model } q)) ∧
           (u8 p 0 = 2 → exec (.chModelTrimOn q) s = .next (Rep.finish (changeRep u k .atCycle (.trim n true) [0, 0, 0, 0]) q)) ∧
           (u8 p 0 = 3 → exec (.chModelTrimOff q) s = .next (Rep.finish
             (changeRep { u with trims := Store.erase u.trims n } k .atCycle (.trim n false) [0, 0, 0, 0]) q)) ∧
           (u8 p 0 = 4 → exec (.chModelRestore q) s = .next (Rep.finish (changeRep u k .atCycle (.modelRestore n) [0, 0, 0, 0]) q))) ∧
         (p.length = 64 → u8 p 0 = 1 → firstNonZero p 1 1 = none → u16 p 2 = 56 → firstNonZero p 4 4 = none →
           ((modelChecks c.typ (p.drop 8)).find? fun f => !f.good) = none →
           exec (.chModelWrite q) s = .next (Rep.finish (changeRep u k .atCycle (.modelWrite n (p.drop 8)) [0, 0, 0, 0]) q))))) ∧
  (∀ (s : State) (q : Packet) (e : Effect) (c : Change) (tail : Bytes),
     (s.cycleOn = true → ∃ w : Pending, (changeRep s q e c tail).state = { s with changes := s.changes ++ [w] } ∧ w.change = c ∧ w.effect = e ∧
       (e ≠ .atPass → w.cycle = s.effectCycle ∧ (changeRep s q e c tail).payload = leBytes 4 s.effectCycle.toNat ++ tail)) ∧
     (s.cycleOn = false → (changeRep s q e c tail).state = s.applyStopped c ∧ (changeRep s q e c tail).payload = leBytes 4 0 ++ tail) ∧
     (changeRep s q e c tail).status = (if q.isAsync then 1 else 0) ∧
     (s.wc.running = true → s.wc.boundaryTaken = false → s.effectCycle = s.wc.cycle) ∧
     (s.wc.running = true → s.wc.boundaryTaken = true → s.wc.stopPending = false →
       s.effectCycle = if s.wc.cycle + 1 = 0 then 1 else s.wc.cycle + 1))

/-- The station commands that are admitted complete (Table OPC-7): ST_LIST answers a page of the stations in number order (R268), ST_ADMIT sets the mode,
the lock and the block of a network station (R288), ST_FALLBACK is ACCEPTED and keeps the fields of a station that is not MOORED (R289), ST_RELEASE
hands over its change (R290), ST_STATUS answers the 48-byte record. Completion is stated of: ST_LIST, ST_ADMIT, ST_FALLBACK, ST_RELEASE, ST_STATUS. -/
def Obligations.StationCommandsComplete : Prop :=
  ∀ (q : Req) (s : State), s.Admits q →
    (∀ p u k, k = s.argOf q → p = k.payload → u = s.bodyAt q →
      (p = [0, 0, 0, 0] → ∃ r page, exec (.stList q) s = .next (Rep.finish { state := u, payload := r } q) ∧
        page = ((List.range 128).filter fun i => (Store.find? u.tl.stations i).isSome).take (pageSize (u.replyMax q.ep k) 4 8 128) ∧
        r.length = 4 + 8 * page.length ∧ u8 r 0 = page.length % 256) ∧
      (p.length = 16 + u16 p 10 → u8 p 0 < 112 → u8 p 1 ≤ 2 → (u8 p 1 = 1 → u8 p 2 ≤ 1) → u8 p 3 = 0 → u16 p 10 ≤ 16384 →
        firstNonZero p 12 4 = none → (u16 p 10 ≠ 0 → u.configFault (u8 p 0) (p.drop 16) = none) →
        (u8 p 1 = 2 → (u.station (u8 p 0)).state ≠ .moored ∧ (u.station (u8 p 0)).state ≠ .slack) →
        ∃ x : Station, exec (.stAdmit q) s = .next (Rep.finish { state := u.setStation (u8 p 0) x, payload := [BitVec.ofNat 8 x.state.code] } q) ∧
          x.mode = (if u8 p 1 = 1 then .locked else if u8 p 1 = 2 then .refuse else .auto) ∧ x.lockPort = u8 p 2 ∧
          x.lockMac = ofBe (slice p 4 6) ∧ x.state = (u.station (u8 p 0)).state ∧
          (u16 p 10 = 0 → x.config = (u.station (u8 p 0)).config) ∧ (u16 p 10 ≠ 0 → x.config = p.drop 16)) ∧
      (∀ st, st = u.station (u8 p 0) → p.length = 12 → u8 p 0 < 112 → u8 p 1 = 1 → u8 p 2 ≤ 15 → u8 p 3 = 0 → u8 p 4 ≤ 63 → u8 p 5 ≤ 2 →
        pointDir (u8 p 0) st.config (u8 p 4) = some true → u8 p 6 = 0 → u8 p 7 = 0 →
        (st.state ≠ .moored → st.state ≠ .slack →
          exec (.stFallback q) s = .next (Rep.finish
            { state := u.setStation (u8 p 0) (st.keepFallback p (u.notifyOf k true)), status := St.accepted, payload := [0, 0, 0, 0] } q)) ∧
        ((st.state = .moored ∨ st.state = .slack) → st.sends = 0 →
          exec (.stFallback q) s = .next (Rep.finish
            { state := u.sendFallback (u8 p 0) p (u.notifyOf k true), status := St.accepted, payload := leBytes 4 u.frameCycle } q))) ∧
      (p.length = 4 → u8 p 0 ≤ 127 → u8 p 1 ≤ 1 → firstNonZero p 2 2 = none → (u.station (u8 p 0)).state ≠ .absent →
        (u8 p 1 = 0 → (u.chans.any fun x => x.2.state.runs && x.2.roles.any fun b => b.station == u8 p 0) = false) →
        exec (.stRelease q) s = .next (Rep.finish (changeRep u k .atCommit (.stRelease (u8 p 0) (decide (u8 p 1 = 1)))) q)) ∧
      (p.length = 4 → u8 p 0 ≤ 127 → firstNonZero p 1 3 = none →
        exec (.stStatus q) s = .next (Rep.finish { state := u, payload := u.stRecord (u8 p 0) } q) ∧ (u.stRecord (u8 p 0)).length = 48 ∧
        u8 (u.stRecord (u8 p 0)) 0 = u8 p 0 ∧ u8 (u.stRecord (u8 p 0)) 1 = (u.station (u8 p 0)).state.code % 256))

/-- The vessel commands that are admitted complete (Table OPC-8): VSL_LOAD stages a table whose TABLE_CRC matches (R292), TANK_DEFINE and SECTION_DEFINE
stage a definition, VSL_COMMIT of a complete model and LIMITS_SET hand over their change (R293 to R295), COND_READ and STRENGTH_READ report the last
published results (R296, R439). Completion is stated of: VSL_LOAD, TANK_DEFINE, SECTION_DEFINE, VSL_COMMIT, LIMITS_SET, COND_READ, STRENGTH_READ. -/
def Obligations.VesselCommandsComplete : Prop :=
  ∀ (q : Req) (s : State), s.Admits q →
    (∀ p u k, k = s.argOf q → p = k.payload → u = s.bodyAt q →
      (16 ≤ p.length → u8 p 0 = 1 → u8 p 1 = 0 → u16 p 2 = 0 → u32 p 4 = 0 → u32 p 8 = 112 → p.length = 128 →
        (crc32 (p.drop 16)).toNat = u32 p 12 →
        exec (.vslLoad q) s = .next (Rep.finish
          { state := { u with ves := { u.ves with staging := { u.ves.staging with
                        tables := Store.insert u.ves.staging.tables (tableKey 1 0) ⟨112, u32 p 12, p.drop 16, true⟩ } } },
            payload := leBytes 4 112 } q)) ∧
      (p.length = 28 → u16 p 0 ≤ 511 → u8 p 3 = 0 → 1 ≤ u8 p 2 → u8 p 2 ≤ 4 → 2 ≤ u16 p 14 → u16 p 14 ≤ 256 →
        exec (.tankDefine q) s = .next (Rep.finish
          { state := { u with ves := { u.ves with staging := { u.ves.staging with tanks := Store.insert u.ves.staging.tanks (u16 p 0) p } } } } q)) ∧
      (p.length = 20 → u16 p 0 ≤ 255 → u8 p 2 = 0 → 2 ≤ u8 p 3 → u8 p 3 ≤ 64 → firstNonZero p 17 3 = none →
        exec (.sectionDefine q) s = .next (Rep.finish
          { state := { u with ves := { u.ves with staging := { u.ves.staging with
                        sections := Store.insert u.ves.staging.sections (u16 p 0) p } } } } q)) ∧
      (p.length = 8 → u8 p 0 ≤ 1 → firstNonZero p 1 3 = none → u.ves.staging.isEmpty = false → u.modelFault u.ves.staging = none →
        (u.admitView.costOf u.admitView.chans u.admitView.wc.decimation (u.ves.staging.tanks.length, u.ves.staging.sections.length)
          u.admitView.pairs : Int) ≤ u.admitView.budgetNow u.admitView.chans →
        ∃ t eff after tail, exec (.vslCommit q) s = .next (Rep.finish
            { state := t, status := St.accepted, payload := leBytes 4 (eff : Word).toNat ++ tail, after := after } q) ∧
          (t, eff, after) = ({ u with ves := { u.ves with staging := {} } }).change .atPass
            (.vessel (u32 p 4) (decide (u8 p 0 = 1)) u.ves.staging) (u.notifyOf k true)) ∧
      (p.length = 20 → u8 p 0 ≤ 1 → u8 p 1 ≤ 1 → u16 p 2 = 0 → u.ves.half.live.isSome = true →
        exec (.limitsSet q) s = .next (Rep.finish (changeRep u k .atCycle (.limits p)) q)) ∧
      (∀ r, u.ves.half.published = some r →
        (p = [] → exec (.condRead q) s = .next (Rep.finish { state := u, payload := condRecord u.ves r } q) ∧
          u32 (condRecord u.ves r) 0 = r.cycle.toNat ∧ u32 (condRecord u.ves r) 4 = r.snapCycle.toNat) ∧
        (p = [0, 0, 0, 0] → r.strengthOk = true →
          ∃ b, exec (.strengthRead q) s = .next (Rep.finish { state := u, payload := b } q) ∧ u32 b 0 = r.strengthCycle.toNat ∧
            u16 b 4 = (min (pageSize (u.replyMax q.ep k) 8 16 256) r.sections.length) % 65536)))

/-- The program, firmware, patch and OTP commands that are admitted complete (Tables OPC-9 and OPC-14): PROG_LOAD of a sound image stores it under its
identifier (R297), PROG_UNLOAD of an unused program removes it (R298), PROG_INFO lists, FW_UPDATE stages, takes and drops an image (R310, R311),
PATCH_LOAD installs a good patch (R312), and each ITEM of OTP_PROGRAM sets its field (R313). Completion is stated of: PROG_LOAD, PROG_UNLOAD,
PROG_INFO, FW_UPDATE_BEGIN, FW_UPDATE_DATA, FW_UPDATE_COMMIT, FW_UPDATE_ABORT, PATCH_LOAD, OTP_PROGRAM_KEY_HASH, OTP_PROGRAM_REVOKE,
OTP_PROGRAM_ROLLBACK, OTP_PROGRAM_OPEN_FW, OTP_PROGRAM_JTAG_LOCK, OTP_PROGRAM_SLIP_SIGN_REQ, OTP_PROGRAM_CUSTOMER_KEY. -/
def Obligations.ImageCommandsComplete : Prop :=
  ∀ (q : Req) (s : State), s.Admits q →
    (∀ p u k img, k = s.argOf q → p = k.payload → u = s.bodyAt q → img = p.drop 4 →
      (40 ≤ p.length → u8 p 0 = 0 → u8 p 1 = 0 → 1 ≤ u16 p 2 → u16 p 2 ≤ 255 → imgLayoutFault img = none → imgCodeFault img = none →
        (crc32 (img.take (img.length - 4))).toNat = u32 img (img.length - 4) → Store.find? u.programs (u16 p 2) = none →
        img.length ≤ u.basin1Free → ((u.admitView.progUsers (u16 p 2)).any fun c => c.state.runs) = false → q.pkt.isAsync = false →
        exec (.progLoad q) s = .next (Rep.finish
          { state := { u with programs := Store.insert u.programs (u16 p 2) ⟨img, u32 img 12, crc32 (img.take (img.length - 4)), false, false⟩ },
            payload := leBytes 2 (u16 p 2) ++ [0, 0] ++ leBytes 4 (u32 img 12) ++ [0, 0, 0, 0], after := fun v => v } q)) ∧
      (p.length = 4 → firstNonZero p 2 2 = none → (Store.find? u.programs (u16 p 0)).isSome = true → u.progUsers (u16 p 0) = [] →
        ∃ v, exec (.progUnload q) s = .next (Rep.finish { state := v } q) ∧ Store.find? v.programs (u16 p 0) = none ∧
          (∀ n, n ≠ u16 p 0 → Store.find? v.programs n = Store.find? u.programs n) ∧ Store.find? v.flash.progs (u16 p 0) = none) ∧
      (p = [0, 0, 0, 0] →
        ∃ b, exec (.progInfo q) s = .next (Rep.finish { state := u, payload := b } q) ∧ u16 b 0 = u.programs.length % 65536 ∧
          b.length = 8 + 2 * u.programs.length) ∧
      (268 ≤ p.length → u8 p 0 = 0 → firstNonZero p 1 3 = none → u.omx.firmware = none → u32 p 4 = 0 → 260 ≤ u32 p 8 → u32 p 8 ≤ 393472 →
        p.length ≤ 12 + u32 p 8 →
        exec (.fwUpdateBegin q) s = .next (Rep.finish
          { state := u.setFw (some ⟨q.pkt.session, u32 p 8, false, p.drop 12⟩), payload := u.fwReply (p.length - 12) 0 } q)) ∧
      (∀ g, 12 ≤ p.length → firstNonZero p 1 3 = none → u32 p 8 = 0 → u.omx.firmware = some g → g.owner = q.pkt.session →
        (u8 p 0 = 1 → u32 p 4 = g.data.length → g.data.length + p.length ≤ g.total + 12 →
          exec (.fwUpdateData q) s = .next (Rep.finish
            { state := u.setFw (some { g with data := g.data ++ p.drop 12 }), payload := u.fwReply (g.data ++ p.drop 12).length 0 } q)) ∧
        (u8 p 0 = 2 → p.length = 12 → g.data.length = g.total → u.imageResult g.data = 1 → u.boot.imgSeq < u32 g.data 12 →
          exec (.fwUpdateCommit q) s = .next (Rep.finish
            { state := (u.setFw none).queueWrite (.writeFwSlot u.otherSlot g.data (u.notifyOf k true)), status := St.accepted,
              payload := u.fwReply g.data.length 1 } q)) ∧
        (u8 p 0 = 3 → p.length = 12 →
          exec (.fwUpdateAbort q) s = .next (Rep.finish { state := u.setFw none, payload := u.fwReply g.data.length 0 } q))) ∧
      (u.cycleOn = false → u.patchImageOk p = true → patchWords (p.drop 196) ≤ 512 → patchMatches (p.drop 196) ≤ 32 →
        exec (.patchLoad q) s = .next (Rep.finish
          { state := u.installPatch (p.drop 196),
            payload := leBytes 2 (patchWords (p.drop 196)) ++ leBytes 1 (patchMatches (p.drop 196)) ++ [0] ++
              leBytes 4 (patchId (p.drop 196)) } q)) ∧
      (p.length = 36 → u16 p 2 = 0x07B0 → u.cycleOn = false → u.otpRefused (u8 p 0) (u8 p 1) p = false →
        (u8 p 0 = 1 → u8 p 1 ≤ 3 →
          exec (.otpProgramKeyHash q) s = .next (Rep.finish { state := { u with otp := { u.otp with
            programmed := u.otp.programmed ||| 2 ^ u8 p 1, customer := u.otp.customer ||| 2 ^ u8 p 1,
            keyHash := Store.insert u.otp.keyHash (u8 p 1) (slice p 4 32) } } } q)) ∧
        (u8 p 0 = 2 → u8 p 1 ≤ 3 → firstNonZero p 4 32 = none →
          exec (.otpProgramRevoke q) s = .next (Rep.finish
            { state := { u with otp := { u.otp with revoked := u.otp.revoked ||| 2 ^ u8 p 1 } } } q)) ∧
        (u8 p 0 = 3 → u8 p 4 ≤ 63 → u.otp.rollback < u8 p 4 → firstNonZero p 5 31 = none →
          exec (.otpProgramRollback q) s = .next (Rep.finish { state := { u with otp := { u.otp with rollback := u8 p 4 } } } q)) ∧
        (u8 p 0 = 4 → firstNonZero p 4 32 = none →
          exec (.otpProgramOpenFw q) s = .next (Rep.finish { state := { u with otp := { u.otp with openFw := true } } } q)) ∧
        (u8 p 0 = 5 → firstNonZero p 4 32 = none →
          exec (.otpProgramJtagLock q) s = .next (Rep.finish { state := { u with otp := { u.otp with jtagLock := true } } } q)) ∧
        (u8 p 0 = 6 → firstNonZero p 4 32 = none →
          exec (.otpProgramSlipSignReq q) s = .next (Rep.finish { state := { u with otp := { u.otp with slipSign := true } } } q)) ∧
        (u8 p 0 = 7 →
          exec (.otpProgramCustomerKey q) s = .next (Rep.finish
            { state := { u with otp := { u.otp with custKey := some (slice p 4 32) } } } q))))

/-- The Slipway commands that are admitted complete (Table OPC-10): SLIP_LOAD BEGIN with a sound header and DATA at the staged length stage their bytes in
the region of R567, APPLY of a sound image waits for its cycle, ABORT drops the staging (R300, R301), SLIP_STATUS reports, SLIP_CAPTURE of a running
design takes the next identifier, and SLIP_READBACK pages the shadow (R815). Completion is stated of: SLIP_LOAD_BEGIN, SLIP_LOAD_DATA,
SLIP_LOAD_APPLY, SLIP_LOAD_ABORT, SLIP_STATUS, SLIP_CAPTURE, SLIP_READBACK. -/
def Obligations.SlipCommandsComplete : Prop :=
  ∀ (q : Req) (s : State), s.Admits q →
    (∀ p u k, k = s.argOf q → p = k.payload → u = s.bodyAt q →
      (12 ≤ p.length → u8 p 1 ≤ 1 → firstNonZero p 2 2 = none →
        (u8 p 0 = 0 → u.slip.staging = none → u32 p 4 = 0 → u.slipHeaderFault (p.drop 12) = none → u32 p 8 = u32 (p.drop 12) 16 →
          p.length ≤ 12 + u32 p 8 → badBlock (p.drop 12) 0 (blocksIn (p.length - 12)) = none → blocksIn 0 = 0 →
          ∃ v, exec (.slipLoadBegin q) s = .next (Rep.finish
              { state := v, payload := leBytes 4 (p.length - 12) ++ [0, 0, 0, 0] } q) ∧
            v.slip.staging = some ⟨q.pkt.session, u32 p 8, false, p.drop 12⟩ ∧ v.slip.lastStatus = 0 ∧
            v.mem = Memory.writeBytes u.mem 0x22100000 (p.drop 12)) ∧
        (∀ g, u.slip.staging = some g → g.owner = q.pkt.session → u32 p 8 = 0 →
          (u8 p 0 = 1 → u32 p 4 = g.data.length → g.data.length + p.length ≤ g.total + 12 →
            badBlock (g.data ++ p.drop 12) (blocksIn g.data.length) (blocksIn (g.data ++ p.drop 12).length) = none →
            ∃ v, exec (.slipLoadData q) s = .next (Rep.finish
                { state := v, payload := leBytes 4 (g.data ++ p.drop 12).length ++ [0, 0, 0, 0] } q) ∧
              v.slip.staging = some ⟨g.owner, g.total, false, g.data ++ p.drop 12⟩ ∧
              v.mem = Memory.writeBytes u.mem (0x22100000 + g.data.length) (p.drop 12)) ∧
          (u8 p 0 = 2 → p.length = 12 → u.slip.waiting = none → u.slip.applying = none → g.data.length = g.total → u.slipApplyFault g.data = none →
            ∃ v eff, exec (.slipLoadApply q) s = .next (Rep.finish
                { state := v, status := St.accepted, payload := leBytes 4 g.data.length ++ leBytes 4 (eff : Word).toNat } q) ∧
              (u.cycleOn = true → eff = u.effectCycle ∧ v.slip.staging = none ∧
                v.slip.waiting = some ⟨g.data, decide (u8 p 1 = 1), u.notifyOf k true⟩)) ∧
          (u8 p 0 = 3 → p.length = 12 → exec (.slipLoadAbort q) s = .next (Rep.finish
            { state := { u with slip := { u.slip with staging := none } }, payload := leBytes 4 g.data.length ++ [0, 0, 0, 0] } q)))) ∧
      (p = [] → ∃ b, exec (.slipStatus q) s = .next (Rep.finish { state := u, payload := b } q) ∧ b.length = 24 ∧ u8 b 0 = u.slipState % 256 ∧
        u16 b 2 = u.slip.lastStatus % 65536 ∧ u32 b 12 = u.slipStaged % 2 ^ 32) ∧
      (p.length = 4 → u8 p 0 ≤ 3 → firstNonZero p 1 3 = none → u.canCapture (u8 p 0) = true →
        ∃ v, exec (.slipCapture q) s = .next (Rep.finish
            { state := v, payload := leBytes 4 (v.fld Reg.slipctlCapture 15 8) ++ leBytes 8 u.nowUs } q) ∧
          v.fld Reg.slipctlCapture 15 8 = (u.fld Reg.slipctlCapture 15 8 + 1) % 256 ∧ v.fld Reg.slipctlCapture 1 0 = u8 p 0 ∧
          v.slip.shadow.isSome = true) ∧
      (∀ key t, p.length = 8 → u32 p 0 % 4 = 0 → u32 p 0 < 56064 → u16 p 4 % 4 = 0 → firstNonZero p 6 2 = none →
        u.slip.shadow = some (key, t) →
        ∃ b n, exec (.slipReadback q) s = .next (Rep.finish { state := u, payload := b } q) ∧ b.length = 12 + n ∧
          n = min (min (u16 p 4) (56064 - u32 p 0)) ((u.replyMax q.ep k - 12) / 4 * 4) ∧ u32 b 4 = u32 p 0 ∧ u32 b 8 = 56064))

/-- The black-box, telemetry and maintenance commands that are admitted complete (Tables OPC-11 to OPC-13): BB_STATUS and BB_READ report the ring (R302,
R303), BB_MARK appends HOST_MARK and BB_RELEASE frees the ring that its host has read (R304, R894), TM_SUBSCRIBE and TM_CANCEL keep the session's
subscriptions (R305), WEAR_READ and WEAR_RESET the wear counts (R307), CAL_RUN of each KIND waits for its cycle and CAL_READ reports it (R308),
DUTY_SET and MIRROR_SET hand over their change (R309, R374). Completion is stated of: BB_STATUS, BB_READ, BB_MARK, BB_RELEASE, TM_SUBSCRIBE,
TM_CANCEL, WEAR_READ, WEAR_RESET, CAL_RUN_SENSOR_ZERO, CAL_RUN_SENSOR_SPAN, CAL_RUN_TEMP, CAL_RUN_SUPMON, CAL_RUN_PLAUSIBILITY, CAL_READ, DUTY_SET,
MIRROR_SET. -/
def Obligations.MaintenanceCommandsComplete : Prop :=
  ∀ (q : Req) (s : State), s.Admits q →
    (∀ p u k, k = s.argOf q → p = k.payload → u = s.bodyAt q →
      (p = [] → ∃ b, exec (.bbStatus q) s = .next (Rep.finish { state := u, payload := b } q) ∧ b.length = 24 ∧
        u8 b 0 = u.fld Reg.bbrStatus 0 0 ∧ u16 b 6 = u.fld Reg.bbrTrigger 11 0 ∧ u32 b 12 = (u.reg Reg.bbrWritten).toNat) ∧
      (p.length = 4 → u16 p 0 ≤ 4095 → 1 ≤ u16 p 2 → u16 p 2 ≤ 4096 →
        ∃ b n, exec (.bbRead q) s = .next (Rep.finish { state := u, payload := b } q) ∧ n = min (u16 p 2) (pageSize (u.replyMax q.ep k) 8 16 256) ∧
          b = leBytes 2 (u16 p 0) ++ leBytes 2 n ++ leBytes 2 (if n = u16 p 2 then 0xFFFF else (u16 p 0 + n) % 4096) ++ [0, 0] ++
            (List.range n).flatMap fun i => (u.bbrEntry ((u16 p 0 + i) % 4096)).bytes) ∧
      (p.length = 8 → u8 p 0 ≤ 1 → u8 p 1 = 0 → firstNonZero p 2 2 = none → u.rbit Reg.bbrStatus 0 = false →
        exec (.bbMark q) s = .next (Rep.finish
          { state := u.bbrA 0x005 0 0x13 (BitVec.ofNat 32 (u32 p 4)) (32 * (q.pkt.session % 8)) (decide (u8 p 0 = 1)),
            payload := leBytes 2 (u.fld Reg.bbrHead 11 0) } q)) ∧
      (p.length = 4 → u.rbit Reg.bbrStatus 0 = true → u16 p 0 = u.fld Reg.bbrTrigger 11 0 → u16 p 2 = 0xFFFF →
        exec (.bbRelease q) s = .next (Rep.finish { state := u.releaseRing q.pkt.session } q)) ∧
      (∀ x id, p.length = 8 → u8 p 2 = 1 → u16 p 0 ≠ 0 → u8 p 3 ≤ 1 → tmEntryOk p 4 = true → u8 p 5 = 0 → u.session q.pkt.session = some x →
        ((List.range 8).find? fun i => (Store.find? x.subs i).isNone) = some id →
        ∃ iv, exec (.tmSubscribe q) s = .next (Rep.finish
            { state := u.updSession q.pkt.session fun x =>
                { x with subs := Store.insert x.subs id ⟨iv, u8 p 3 == 1, [(u8 p 4, u16 p 6)], [], [], u.effectCycle⟩ },
              payload := leBytes 1 id ++ [0] ++ leBytes 2 iv ++ leBytes 4 u.effectCycle.toNat } q) ∧ u16 p 0 ≤ iv) ∧
      (p.length = 4 → firstNonZero p 1 3 = none → u8 p 0 ≠ 0xFF →
        ((u.session q.pkt.session).bind fun x => Store.find? x.subs (u8 p 0)).isSome = true →
        exec (.tmCancel q) s = .next (Rep.finish
          { state := u.updSession q.pkt.session fun x => { x with subs := Store.erase x.subs (u8 p 0) } } q)) ∧
      (∀ c w, u.checkHandle q.pkt.handle = .ok c → c.destroying = false → (c.typ = .valve ∨ c.typ = .pump) →
        w = Store.get u.wear (slotOf q.pkt.handle) {} →
        (p = [] → ∃ b, exec (.wearRead q) s = .next (Rep.finish { state := u, payload := b } q) ∧ b.length = 16 ∧
          u32 b 0 = w.operations % 2 ^ 32 ∧ u32 b 4 = w.runUs / 1000000 % 2 ^ 32) ∧
        (p.length = 4 → u8 p 0 ≤ 3 → firstNonZero p 1 3 = none →
          ∃ v, exec (.wearReset q) s = .next (Rep.finish { state := v } q) ∧ v = { u with wear := v.wear } ∧
            (Store.get v.wear (slotOf q.pkt.handle) {}).operations = (if u8 p 0 % 2 = 1 then 0 else w.operations) ∧
            (Store.get v.wear (slotOf q.pkt.handle) {}).runUs = (if u8 p 0 / 2 = 1 then 0 else w.runUs))) ∧
      (∀ r, p.length = 8 → firstNonZero p 1 3 = none → u.calBusy (u8 p 0) = false →
        r = (fun n => Rep.finish { state := (u.change .atCommit (.calRun (u8 p 0) n (s32 p 4) (u.notifyOf k true)) none).1, status := St.accepted,
                                   payload := leBytes 4 (u.change .atCommit (.calRun (u8 p 0) n (s32 p 4) (u.notifyOf k true)) none).2.1.toNat } q) →
        (∀ c, u.checkHandle q.pkt.handle = .ok c → (u.primaryInput c).isSome = true →
          (u8 p 0 = 1 → exec (.calRunSensorZero q) s = .next (r (slotOf q.pkt.handle))) ∧
          (u8 p 0 = 2 → exec (.calRunSensorSpan q) s = .next (r (slotOf q.pkt.handle)))) ∧
        (u8 p 0 = 3 → exec (.calRunTemp q) s = .next (r 0)) ∧ (u8 p 0 = 4 → exec (.calRunSupmon q) s = .next (r 0)) ∧
        (u8 p 0 = 5 → exec (.calRunPlausibility q) s = .next (r 0))) ∧
      (p.length = 4 → 1 ≤ u8 p 0 → u8 p 0 ≤ 5 → firstNonZero p 1 3 = none →
        ∃ b, exec (.calRead q) s = .next (Rep.finish { state := u, payload := b } q) ∧ b.length = 16 ∧ u8 b 0 = u8 p 0 ∧
          u8 b 1 = (Store.get u.cal.results (u8 p 0) {}).result % 256) ∧
      (p.length = 8 → 1 ≤ u16 p 0 → u16 p 0 ≤ 16 → u8 p 2 = 0 → u8 p 3 ≤ 2 →
        exec (.dutySet q) s = .next (Rep.finish (changeRep u k .atCycle (.duty p)) q)) ∧
      (p = [0, 0, 0, 0] → (u.admitView.costOf u.admitView.chans u.admitView.wc.decimation u.admitView.modelSize 0 : Int) ≤
          u.admitView.budgetNow u.admitView.chans →
        exec (.mirrorSet q) s = .next (Rep.finish (changeRep u k .atCycle (.mirror 0) [0, 0, 0, 0]) q)))

/-- The DIAG operations that are admitted complete (Table OPC-15, R203, R315): REG_READ returns the word that the matrix answers, REG_WRITE writes the key
and the word as master 1, records the write and returns the read-back, MEM_READ returns the words read, BAR2_ON and BAR2_OFF set the window's enable.
Completion is stated of: DIAG_REG_READ, DIAG_REG_WRITE, DIAG_MEM_READ, DIAG_BAR2_ON, DIAG_BAR2_OFF. -/
def Obligations.DiagCommandsComplete : Prop :=
  ∀ (q : Req) (s : State), s.Admits q →
    (∀ p u k a, k = s.argOf q → p = k.payload → u = s.bodyAt q → a = u32 p 4 → p.length = 12 → u8 p 1 = 0 →
      (0x40000000 ≤ a → a < 0x40180000 → a % 4 = 0 →
        (∀ t, u8 p 0 = 1 → t = u.matrix { who := hmData, addr := a, write := false, size := 4, beats := 1 } → t.bus.status = .ok →
          exec (.diagRegRead q) s = .next (Rep.finish
            { state := t, payload := leBytes 4 (BitVec.ofNat 32 (ofLe t.bus.data)).toNat ++ [0, 0, 0, 0] } q)) ∧
        (∀ t v, u8 p 0 = 2 → u.diagBarred a = false →
          t = (u.guardAccess hmData (blockOf a) 0x5AC3).matrix
            { who := hmData, addr := a, write := true, size := 4, beats := 1, data := slice p 8 4 } → t.bus.status = .ok →
          v = (t.faultF 0x034 1 0x13 (BitVec.ofNat 32 a)).matrix { who := hmData, addr := a, write := false, size := 4, beats := 1 } →
          v.bus.status = .ok →
          exec (.diagRegWrite q) s = .next (Rep.finish
            { state := v, payload := leBytes 4 (BitVec.ofNat 32 (ofLe v.bus.data)).toNat ++ [0, 0, 0, 0] } q))) ∧
      (∀ d, u8 p 0 = 3 → u16 p 2 % 8 = 0 → u16 p 2 + 4 ≤ u.replyMax q.ep k → a % 8 = 0 → 0x30000000 ≤ a → a + u16 p 2 ≤ 0x31000000 →
        (u.readWords hmData a (u16 p 2 / 8) []).2 = some d →
        exec (.diagMemRead q) s = .next (Rep.finish
          { state := (u.readWords hmData a (u16 p 2 / 8) []).1, payload := leBytes 4 a ++ d } q)) ∧
      (u8 p 0 = 4 → exec (.diagBar2On q) s = .next (Rep.finish { state := u.setRbit Reg.pcieStatus 6 true } q)) ∧
      (u8 p 0 = 5 → exec (.diagBar2Off q) s = .next (Rep.finish { state := u.setRbit Reg.pcieStatus 6 false } q)))

/-- The timers of Omneax complete: an assembly, a session, the held requests, a nonce and the lockout end when their row says so (R222, R229, R241, R250,
R253). A fragment that is not the last of a continuable command grows the assembly of its session and is answered with CONT set (R228); a fragment of
a command that is not continuable leaves every assembly as it is. Completion is stated of: ASSEMBLY_TIMEOUT, UDP_GAP_EXPIRY, AUTH_NONCE_EXPIRY,
SESSION_LIVENESS_EXPIRY, AUTH_LOCKOUT_EXPIRY, CONT_FRAGMENT. -/
def Obligations.SessionTimersAndFragmentsComplete : Prop :=
  (∀ (n : Nat) (s : State),
     (∀ x, s.session n = some x →
       (∃ t, exec (.assemblyTimeout n) s = .next t ∧ t.session n = some { x with assembly := none }) ∧
       (∃ t, exec (.udpGapExpiry n) s = .next t ∧ t.session n = some { x with heldReqs := x.heldReqs.filter fun r =>
         (runOf ((s.waiting n x.ep ++ x.heldReqs).map fun y => y.pkt.seq) x.expected 4).contains r.pkt.seq }) ∧
       (∃ t, exec (.authNonceExpiry n) s = .next t ∧ t.session n = some { x with challenge := none })) ∧
     exec (.sessionLivenessExpiry n) s = .next (s.endSession n) ∧
     (∃ t, exec .authLockoutExpiry s = .next t ∧ t = { s with omx := { s.omx with lockout := false } })) ∧
  (∀ (q : Req) (s : State) (x : Session), s.checkReq q.ep q.pkt = .go → s.session q.pkt.session = some x → x.heldReqs = [] →
     q.pkt.session ≠ 0 → x.ep = q.ep → continuable q.pkt.opcode = true → x.expected = q.pkt.seq → q.pkt.isAuth = false →
     (∀ b, b = ((x.assembly.filter fun a => a.opcode == q.pkt.opcode && a.handle == q.pkt.handle).map fun a => a.bytes).getD [] →
       b.length + q.pkt.content.length ≤ 65536 →
       ∃ t y, exec (.contFragment q) s = .next t ∧ t.session q.pkt.session = some y ∧
         y.assembly = some { opcode := q.pkt.opcode, handle := q.pkt.handle, bytes := b ++ q.pkt.content } ∧
         y.expected = q.pkt.seq + 1 ∧ t.regs = s.regs ∧ t.chans = s.chans ∧ t.mem = s.mem))

/-- The mailbox commands complete (R235 to R237, R763, R764): a request doorbell with a free pair places the unit in the request buffer and receives it, a
reply doorbell frees the buffer or brings the next reply, an event index that the producer has reached frees the events before it, writing ones to
HOST_IRQ_STATUS clears those bits, and a write that is not one aligned doubleword is discarded and counted (R201). The PCIe endpoint's commands
complete (R65, R159, R223, R761, R765, R766): configuration requests before CFG_READY are retried and after it read or write the configuration space,
PERST_N and a function-level reset reset the endpoint, training follows PERST_N's release, the link's state shows in PCIE_STATUS, and a link down for
longer than 100 ms ends every PCIe session. The host SPI transactions complete (R243 to R246, R768 to R770): a valid WRITE_PACKET with ROOM delivers
its packet and counts it, READ_STATUS answers the four bytes of Table CMD-4, and READ_PACKET of the waiting length takes the first waiting packet, a
read that ends early leaves it, and a command word whose byte 3 is not zero is a framing error. Completion is stated of: PCIE_REQ_DOORBELL,
PCIE_REPLY_DOORBELL, PCIE_EVT_CONS, HOST_IRQ_STATUS_CLEAR, PCIE_CONFIG_REQUEST, PERST_N_ASSERT, PERST_N_DEASSERT, FUNCTION_LEVEL_RESET,
PCIE_LINK_DOWN_EXPIRY, PCIE_LINK_STATE_CHANGE, HSPI_WRITE_PACKET, HSPI_READ_STATUS, HSPI_READ_PACKET. -/
def Obligations.TransportsComplete : Prop :=
  (∀ (n : Nat) (s : State), n ≤ 3 →
     (s.pcieDown = false →
     (∀ buf c, s.rbit Reg.sysctlBootStatus 17 = true → s.host.bootWait = false → s.pairBusy n = false → c ≤ 8192 → c ≤ buf.length →
       exec (.pcieReqDoorbell n buf c true) s = .next
         ((s.setBox n { s.box n with reqBuf := buf.take 8192 }).receive (.pcie n) (buf.take c))) ∧
     ((s.box n).replyReady = true →
       ((s.box n).replyWait = [] → ∃ t, exec (.pcieReplyDoorbell n true) s = .next t ∧ (t.box n).replyReady = false ∧
         (t.box n).replyBuf = none) ∧
       (∀ p r, (s.box n).replyWait = p :: r → ∃ t, exec (.pcieReplyDoorbell n true) s = .next t ∧ (t.box n).replyReady = true ∧
         (t.box n).replyBuf = some p ∧ (t.box n).replyWait = r ∧ t.regs = s.regs)) ∧
     (∀ i, i % 16 = 0 → i < 16384 → (i + 16384 - (s.box n).evCons) % 16384 ≤ ((s.box n).evProd + 16384 - (s.box n).evCons) % 16384 →
       ∃ t, exec (.pcieEvtCons n i true) s = .next t ∧ (t.box n).evCons = i ∧ (t.box n).evProd = (s.box n).evProd ∧
         ∀ e, e ∈ (t.box n).evRing ↔ e ∈ (s.box n).evRing ∧
           (i + 16384 - (s.box n).evCons) % 16384 ≤ (e.1 + 16384 - (s.box n).evCons) % 16384) ∧
     (∀ m, ∃ t, exec (.hostIrqStatusClear m true) s = .next t ∧ t = { s with host := t.host } ∧
       ∀ i, i < 32 → t.host.irqStatus.getLsbD i = (s.host.irqStatus.getLsbD i && !m.getLsbD i)) ∧
     (∀ buf c i m t, t = { s with host := { s.host with discards := min 0xFFFFFFFF (s.host.discards + 1) } } →
       exec (.pcieReqDoorbell n buf c false) s = .next t ∧ exec (.pcieReplyDoorbell n false) s = .next t ∧
       exec (.pcieEvtCons n i false) s = .next t ∧ exec (.hostIrqStatusClear m false) s = .next t))) ∧
  (∀ (s : State),
     (s.pcieDown = false →
       (s.rbit Reg.sysctlBootStatus 17 = false → ∀ w off v, ∃ t, exec (.pcieConfigRequest w off v) s = .next t ∧
         t.host.completion = some .retry ∧ t.regs = s.regs) ∧
       (s.rbit Reg.sysctlBootStatus 17 = true → ∀ off v,
         (∃ t, exec (.pcieConfigRequest false off v) s = .next t ∧ t.host.completion = some (.data (s.configRead off)) ∧ t.regs = s.regs) ∧
         (∃ t, exec (.pcieConfigRequest true 0x10 v) s = .next t ∧ t.host.completion = some (.data 0) ∧
           (s.host.bars.length = 4 → t.configRead 0x10 = (v &&& 0xFFFC0000) ||| 4)) ∧
         (∃ t, exec (.pcieConfigRequest true 0x04 v) s = .next t ∧ t.host.memEnable = v.getLsbD 1 ∧ t.host.busMaster = v.getLsbD 2))) ∧
     (∃ t, exec .perstNAssert s = .next t ∧ t.host.perst = true ∧ t.host.bars = [0, 0, 0, 0] ∧ t.host.memEnable = false ∧
       t.host.irqStatus = 0 ∧ t.fld Reg.pcieStatus 5 5 = 0 ∧ t.fld Reg.pcieStatus 4 0 = 0) ∧
     (∃ t, exec .perstNDeassert s = .next t ∧ t = { s with host := { s.host with perst := false } }) ∧
     (s.pcieDown = false → ∃ t, exec .functionLevelReset s = .next t ∧ t.host.bars = [0, 0, 0, 0] ∧ t.host.memEnable = false ∧ t.host.busMaster = false ∧
       t.host.perst = s.host.perst) ∧
     (s.host.linkDownPending = true →
       exec .pcieLinkDownExpiry s = .next { s.vanishPcie with host := { s.vanishPcie.host with linkDownPending := false } }) ∧
     (∀ g w, s.pcieDown = false → g < 4 → w < 4 → ∃ t, exec (.pcieLinkStateChange true g w) s = .next t ∧
       t.rbit Reg.pcieStatus 0 = true ∧ t.fld Reg.pcieStatus 2 1 = g ∧ t.fld Reg.pcieStatus 4 3 = w ∧ t.host.linkDownPending = false) ∧
     (∀ g w, ∃ t, exec (.pcieLinkStateChange false g w) s = .next t ∧
       t.fld Reg.pcieStatus 4 0 = 0 ∧ t.host.linkDownPending = true)) ∧
  (∀ (s : State),
     s.hspiUp = true →
     (∀ b : Bytes, ∀ w : Word, w = BitVec.ofNat 32 (1 + 256 * b.length) → s.hspiRoom = true → s.hspiLoading = false → 20 ≤ b.length →
       b.length ≤ 8212 → exec (.hspiWritePacket w b) s = .next ((s.addFld Reg.hspiCount 31 16 1).receive .hspi b)) ∧
     (∃ t, exec (.hspiReadStatus 2 4) s = .next t ∧ t = { s with host := t.host } ∧ t.host.hspiOut.length = 5 ∧ u8 t.host.hspiOut 0 = 0 ∧
       u8 t.host.hspiOut 1 % 2 = s.hspiRoom.toNat ∧ u8 t.host.hspiOut 2 = s.host.bootResult % 256) ∧
     (∀ p r, ∀ w : Word, w = BitVec.ofNat 32 (3 + 256 * p.encode.length) → p.encode.length ≤ 8212 → s.hspiWaiting = p :: r →
       (∃ t, exec (.hspiReadPacket w p.encode.length) s = .next t ∧ t.host.hspiOut = 0 :: p.encode ∧
         (s.omx.hspiWait ≠ [] → t.hspiWaiting = r)) ∧
       (∀ m, m < p.encode.length → ∃ t, exec (.hspiReadPacket w m) s = .next t ∧
         t.host.hspiOut = 0 :: p.encode.take m ∧ t.hspiWaiting = p :: r)) ∧
     (∀ (op : Nat) (w : Word) (b : Bytes) (m : Nat), w.toNat % 256 = op → 0x1000000 ≤ w.toNat →
       (op = 1 → exec (.hspiWritePacket w b) s = .next (s.addFld Reg.hspiCount 15 0 1)) ∧
       (op = 2 → exec (.hspiReadStatus w m) s = .next (s.addFld Reg.hspiCount 15 0 1)) ∧
       (op = 3 → exec (.hspiReadPacket w m) s = .next (s.addFld Reg.hspiCount 15 0 1))))

/-- The steps from power-on to the firmware complete: POR_RELEASE starts or keeps the AON domain (R72, R82), the release of internal reset latches the
straps (R58, R140), the Basins are cleared (R139), a header read is tried again (R150), the first slot in order is verified and handed over (R149,
R151), and a load chunk joins the image (R770, R771). The end of the Plain test marks the failed fields and leaves the good ones in retention with
zero memory (R155, R156), and Harbour Open sets its bit, opens the ports and starts an epoch that is not 0 with the device IDLE (R163, R407, R411).
Completion is stated of: POR_RELEASE, INTERNAL_RESET_RELEASE, BASIN_CLEAR_DONE, FLASH_HEADER_RETRY, BOOT_IMAGE_CHECKED, LOAD_CHUNK,
PLAIN_SELF_TEST_DONE, HARBOUR_OPEN. -/
def Obligations.BootCompletes : Prop :=
  (∀ (s : State),
     (s.boot.held = true →
       (∃ t, exec (.porRelease true) s = .next t ∧ t = { s.cleared with boot := t.boot } ∧ t.boot.held = true ∧ t.boot.sagLow = false ∧
         t.boot.hot = false ∧ t.boot.resetEntry = s.cleared.boot.resetEntry) ∧
       (∃ t, exec (.porRelease false) s = .next t ∧ t.bbr = {} ∧ t.time = {} ∧ t.boot.held = true ∧ t.boot.resetEntry = none)) ∧
     (s.boot.held = true → s.boot.sagLow = false → s.boot.hot = false → s.lostClocks.testBit 3 = false →
       (∀ m : BitVec 2, ∃ t, exec (.internalResetRelease m true) s = .next t ∧ t.boot.held = false ∧ t.boot.mode = m.toNat ∧
         t.boot.testMode = false ∧ t.boot.basins = false ∧ t.reg Reg.sysctlStraps = BitVec.ofNat 32 (m.toNat + 4)) ∧
       (∀ m : BitVec 2, ∃ t, exec (.internalResetRelease m false) s = .next t ∧ t.boot.held = true ∧ t.boot.testMode = true)) ∧
     (s.boot.held = false → s.boot.basins = false → s.atPort = [] → s.held = [] → ∀ ok,
       ∃ t, exec (.basinClearDone ok) s = .next t ∧ t.boot.basins = true ∧ t.memErr = [] ∧ (∀ a, Memory.read t.mem a = 0) ∧
         t.rbit Reg.otpStatus (if ok then 0 else 2) = true ∧
         (s.boot.mode = 1 → t.host.bootWait = true ∧ t.rbit Reg.sysctlBootStatus 17 = true)) ∧
     (s.boot.held = false → s.boot.imaged = false → s.boot.basins = true → s.flashBoot = true →
       (∀ i, i = 1 ∨ i = 2 → s.boot.retries.length = 2 → s.boot.retries.getD (i - 1) 0 < 2 → ∃ t,
         exec (.flashHeaderRetry i true) s = .next t ∧ t.boot.retries.getD (i - 1) 0 = s.boot.retries.getD (i - 1) 0 + 1 ∧
         (i ∈ t.boot.noAnswer ↔ i ∈ s.boot.noAnswer ∨ s.boot.retries.getD (i - 1) 0 = 1)) ∧
       (∀ c rest img, s.recordSlots.candidates = c :: rest → img = s.recordSlots.slotImage c → s.recordSlots.imageResult img = 1 →
         exec (.bootImageChecked c) s = .next
           (((rest.foldl (fun (u : State) i => u.setSlotResult i 13) (s.recordSlots.setSlotResult c 1)).countTry c).handOver img c))) ∧
     (∀ off total data, s.host.bootWait = true → s.boot.mode = 2 →
       (∀ all, s.chunkResult off total data = (0, all) → ∃ t, exec (.loadChunk .hspi off total data) s = .next t ∧
         t.host.load = some (total, all) ∧ t.host.bootResult = 0 ∧ t.host.bootWait = true) ∧
       (∀ all, s.chunkResult off total data = (1, all) → ∃ t, exec (.loadChunk .hspi off total data) s = .next t ∧ t.host.bootResult = 1 ∧
         t.boot = ({ s with host := { s.host with load := none, bootWait := false } }.handOver all 3).boot))) ∧
  (∀ (s : State), s.boot.held = false →
     (s.rbit Reg.sysctlBootStatus 16 = false → ∀ f : BitVec 16, s.boot.patch = [] →
       ∃ t, exec (.plainSelfTestDone f) s = .next t ∧ t.rbit Reg.sysctlBootStatus 16 = true ∧ t.plain.mem = [] ∧
         (∀ i, i < 16 → t.plain.power.getD i Power.ret = (if f.getLsbD i then Power.off else Power.ret)) ∧
         (∀ i, i < 16 → t.rbit Reg.sysctlPlainFail i = f.getLsbD i)) ∧
     (s.harbourOpen = false → s.firmwareRuns = true → s.rbit Reg.sysctlBootStatus 16 = true →
       ∃ t, exec .harbourOpen s = .next t ∧ t.harbourOpen = true ∧ t.tl.epoch ≠ 0 ∧ t.tl.role = DevRole.idle ∧
         t.fld Reg.fairwayTimeout 9 0 = 32))

/-- The supply commands complete (R79 to R95): an enabled warn monitor asserts the warning once, recovery and its clear follow, a reset monitor resets the
device with cause SAG, a conversion is reported, VDD_IO33 and SENSE crossings and VBAT are shown. Completion is stated of: WARNING_ASSERT,
WARNING_IRQ, WARNING_RECOVERY_START, WARNING_CLEAR, SAG_RESET, SAG_RESET_RELEASE, SENSE_CONVERSION, SUPMON_CROSSING, VBAT_LOW, VBAT_RECOVERED,
AON_SUPPLY_SWITCH. -/
def Obligations.SupplyCommandsComplete : Prop :=
  ∀ (s : State),
    (s.warning = false → ∀ a b, ((a && s.rbit Reg.supmonCtrl 0 && s.filtered 0) || (b && s.rbit Reg.supmonCtrl 1 && s.filtered 1)) = true →
      ∃ t, exec (.warningAssert a b) s = .next t ∧ t.warning = true ∧ t.rbit Reg.supmonEvents 0 = true ∧
        ((a && s.rbit Reg.supmonCtrl 0 && s.filtered 0) = true → t.rbit Reg.supmonStatus 1 = true) ∧
        ((b && s.rbit Reg.supmonCtrl 1 && s.filtered 1) = true → t.rbit Reg.supmonStatus 2 = true)) ∧
    (s.warning = true →
      (s.reports = true → exec .warningIrq s = .next (((s.brace true).tellSupply true (s.fld Reg.supmonStatus 2 1)).raiseVector 8)) ∧
      (∃ t, exec .warningRecoveryStart s = .next t ∧ t.rbit Reg.supmonStatus 3 = true ∧ t.warning = true) ∧
      (s.rbit Reg.supmonStatus 3 = true → ∃ t, exec .warningClear s = .next t ∧ t.warning = false ∧ t.rbit Reg.supmonEvents 1 = true)) ∧
    (s.boot.held = false → ∀ i c p also, (i || c || p) = true → Cause.por ∉ also → ∃ t, exec (.sagReset i c p also) s = .next t ∧ t.boot.held = true ∧ t.boot.sagLow = true ∧
      t.fld Reg.sysctlResetCause 3 0 = Cause.sag) ∧
    (∃ t, exec .sagResetRelease s = .next t ∧ t = { s with boot := { s.boot with sagLow := false } }) ∧
    (∀ mv, ∃ t, exec (.senseConversion mv) s = .next t ∧ t.fld Reg.supmonSenseMv 11 0 = min mv 4095 ∧ t = { s with regs := t.regs }) ∧
    (∀ low, ∃ t, exec (.supmonCrossing 0 low) s = .next t ∧ t.rbit Reg.supmonStatus 4 = low ∧
      (low = true → s.rbit Reg.supmonCtrl 0 = true → t.rbit Reg.supmonStatus 3 = false) ∧ t = { s with regs := t.regs, belowUs := t.belowUs }) ∧
    (s.rbit Reg.supmonAonStatus 0 = false → s.boot.vbatLogged = false → ∃ t, exec .vbatLow s = .next t ∧ t.rbit Reg.supmonAonStatus 0 = true ∧
      t.rbit Reg.supmonEvents 2 = true ∧ t.boot.vbatLogged = true) ∧
    (∃ t, exec .vbatRecovered s = .next t ∧ t.rbit Reg.supmonAonStatus 0 = false ∧ t = { s with regs := t.regs }) ∧
    (∀ v, ∃ t, exec (.aonSupplySwitch v) s = .next t ∧ t.rbit Reg.supmonAonStatus 1 = v ∧ t = { s with regs := t.regs })

/-- Every source of Table BOT-1 that fires while no reset is held resets the device with its own cause: CAUSE is latched and its bit in CAUSES_SEEN set
(R133, R134), the cycle, the sessions and the channels are gone, Basin memory lists nothing, internal reset is held, and OTP, flash and the persisted
programs stay. Of sources that fire in one SVO_CLK cycle the first of R135 gives CAUSE. Completion is stated of: PIN_RESET, JTAG_SYSRESET,
SYSCTL_SWRESET, DOUBLE_TRAP, WDT_EXPIRY, THERMAL_SHUTDOWN. -/
def Obligations.DeviceResetsComplete : Prop :=
  ∀ (s : State) (After : Nat → State → Prop), s.boot.held = false →
    (After = fun c t => t.fld Reg.sysctlResetCause 3 0 = c ∧ t.rbit Reg.sysctlResetCause (7 + c) = true ∧ t.wc.running = false ∧
      t.omx.sessions = [] ∧ t.chans = [] ∧ t.programs = [] ∧ t.mem = [] ∧ t.boot.held = true ∧ t.harbourOpen = false ∧
      t.otp = s.otp ∧ t.flash.cs0 = s.flash.cs0 ∧ t.flash.progs = s.flash.progs) →
    (∃ t, exec (.pinReset []) s = .next t ∧ After Cause.pin t) ∧
    (s.otp.jtagLock = false → ∃ t, exec (.jtagSysreset []) s = .next t ∧ After Cause.jtag t) ∧
    (∀ who, s.Opens who Reg.sysctlSwreset → ∃ t, exec (.sysctlSwreset who) s = .next t ∧ After Cause.host t) ∧
    (s.rbit Reg.reclaimStatus 2 = true → ∃ t, exec (.doubleTrap []) s = .next t ∧ After Cause.doubleTrap t) ∧
    (s.rbit Reg.timerWdtCtrl 0 = true → ∃ t, exec (.wdtExpiry []) s = .next t ∧
      After (if s.rbit Reg.reclaimStatus 2 then Cause.doubleTrap else Cause.wdt) t) ∧
    (∃ t, exec (.thermalShutdown []) s = .next t ∧ After Cause.thermal t ∧ t.boot.hot = true) ∧
    (∀ also c, c = firstCause (Cause.pin :: also) → ∃ t, exec (.pinReset also) s = .next t ∧ After c t ∧
      ∀ x, x ∈ also → 1 ≤ x → x ≤ 9 → t.rbit Reg.sysctlResetCause (7 + x) = true)

/-- A cause is latched only while no device reset is in force: a source that fires while a reset is already held sets its bit in CAUSES_SEEN and does not
replace CAUSE (R134). -/
def Obligations.HeldResetKeepsCause : Prop :=
  ∀ (s : State) (Keeps : Instr → Nat → Prop), s.boot.held = true →
    (Keeps = fun i c => ∃ t, exec i s = .next t ∧ t.rbit Reg.sysctlResetCause (7 + c) = true ∧
      t.fld Reg.sysctlResetCause 3 0 = s.fld Reg.sysctlResetCause 3 0 ∧ t.boot.held = true) →
    (∀ also, Keeps (.pinReset also) Cause.pin) ∧
    (s.otp.jtagLock = false → ∀ also, Keeps (.jtagSysreset also) Cause.jtag) ∧
    (∀ who, s.Opens who Reg.sysctlSwreset → Keeps (.sysctlSwreset who) Cause.host) ∧
    (s.rbit Reg.reclaimStatus 2 = true → ∀ also, Keeps (.doubleTrap also) Cause.doubleTrap) ∧
    (s.rbit Reg.timerWdtCtrl 0 = true → ∀ also, Keeps (.wdtExpiry also) (if s.rbit Reg.reclaimStatus 2 then Cause.doubleTrap else Cause.wdt)) ∧
    (∀ also, Keeps (.thermalShutdown also) Cause.thermal)

/-- The lease expiries and the fence sequence complete: each fences the domain of its holder with the lease code of its own (Tables FLT-3 and FLT-4), the
matrix or the ring's port answering the holder with an error first where the spec says so. A fence ends as Table FLT-2 says: the domain reset's
release unfences an automatic domain that no STORM holds, a guarded write of RECLAIM_UNFENCE unfences a fenced domain whose reset is over and leaves
any other (R862), the HM's fence lifts, and the TAP's reset unfences debug (R863). Completion is stated of: FENCE_SEQUENCE, HOLD_LEASE_EXPIRY,
INJECTION_LEASE_EXPIRY, QC_PORT_LEASE_EXPIRY, BBR_PORT_LEASE_EXPIRY, QUAY_PASS_TIMEOUT, DOMAIN_RESET_RELEASE, RECLAIM_UNFENCE, HM_FENCE_LIFT,
TAP_TEST_LOGIC_RESET. -/
def Obligations.FencesStandAndEnd : Prop :=
  (∀ (s : State), s.boot.held = false →
     (∀ d l r w, 2 ≤ d → d ≤ 13 → d ≠ 10 → s.domainFenced d = false → s.reclaim.inReset.contains d = false →
       ∃ t, exec (.fenceSequence d l r w) s = .next t ∧
         (d ≠ 7 → 4 ≤ d → t.domainFenced d = true ∧ t.rbit Reg.reclaimEvents 0 = true ∧ t.fld Reg.reclaimLast 4 0 = d ∧
           t.fld Reg.reclaimLast 11 8 = l % 16)) ∧
     (∀ m p a u, p ≤ 7 → s.rbit Reg.matrixPolicy p = true → s.atPort = [] →
       u = { s with paths := s.paths.filter fun x => !(x.1 == p && x.2.who.master == m) } → exec (.holdLeaseExpiry m p a) s = .next
         { ((u.matrixErr { master := m } 4 p a).busAnswer { master := m } .error).fence (masterDomain m) 1 p a with atPort := [] }) ∧
     (∀ n tid, exec (.injectionLeaseExpiry n tid) s = .next (s.fence (nodeDomain n) 3 n tid)) ∧
     (∀ n, n < 24 → s.rbit (Reg.slipctlQcStatus + 16 * n) 0 = false → ∃ t, exec (.qcPortLeaseExpiry n) s = .next t ∧
       (s.PortFree → t.rbit (Reg.slipctlQcStatus + 16 * n) 0 = true ∧
         Store.find? t.slip.qcs n = none ∧ t.domainFenced 10 = true)) ∧
     (∀ m, ¬ (m = 1 ∧ s.reclaim.hmPorts.contains 7 = true) → ∀ u, u = (s.matrixErr { master := m } 4 7 0x24000000).busAnswer { master := m } .error →
       exec (.bbrPortLeaseExpiry m false) s = .next (u.fence (masterDomain m) 5 7 0) ∧
       exec (.bbrPortLeaseExpiry m true) s = .next (u.appendDrop.fence (masterDomain m) 5 7 0)) ∧
     (s.fld Reg.quayStatus 2 0 ≠ 0 → exec .quayPassTimeout s = .next (s.fence 3 9 1 0))) ∧
  (∀ (s : State),
     (∀ d, autoUnfence d = true → s.reclaim.inReset.contains d = true → s.domainFenced d = true → s.rbit Reg.reclaimFenced (16 + d) = false →
       ∃ t, exec (.domainResetRelease d) s = .next t ∧ t.domainFenced d = false ∧ t.reclaim.inReset.contains d = false) ∧
     (∀ who d, s.Opens who Reg.reclaimUnfence → d ≤ 13 →
       (s.domainFenced d = true → s.reclaim.inReset.contains d = false →
         ∃ t, exec (.reclaimUnfence who d) s = .next t ∧ t.domainFenced d = false ∧ t.rbit Reg.reclaimFenced (16 + d) = false) ∧
       (s.domainFenced d = false → ∃ t, exec (.reclaimUnfence who d) s = .next t ∧
         t = (s.opened who Reg.reclaimUnfence).setFld Reg.reclaimUnfence 4 0 d)) ∧
     (∀ p, s.reclaim.hmPorts = [p] → ∃ t, exec (.hmFenceLift p) s = .next t ∧ t.reclaim.hmPorts = [] ∧ t.domainFenced 1 = false ∧
       t.rbit Reg.reclaimStatus 3 = false) ∧
     (s.domainFenced 13 = true → ∃ t, exec .tapTestLogicReset s = .next t ∧ t.domainFenced 13 = false))

/-- The thermal commands complete (R839, R870): a sample in range is shown and forms TEMP_MAX, step 1 doubles the decimation up to 16 in state 0, step 2
sets ARR_HALF, and the clear of step 2 takes ARR_HALF back. The clock commands complete (R105, R115 to R125): a monitored clock is lost with its
status bit cleared and its sticky bit set where it has one, a good clock sets it again, a PLL's lock is shown, a frequency check passes within 200
ppm, holdover is entered and left, and ARR_HALF is requested and then followed. Completion is stated of: TEMP_SAMPLE, THERMAL_STEP1, THERMAL_STEP2,
THERMAL_CLEAR, CLOCK_LOST, CLOCK_GOOD, PLL_LOCK, TIME_FREQ_CHECK, TIME_HOLDOVER_ENTRY, TIME_HOLDOVER_EXIT, ARR_HALF_WRITE, ARR_HALF_CHANGE. -/
def Obligations.ThermalAndClockComplete : Prop :=
  (∀ (s : State),
     (∀ r : Int, -5500 ≤ r → r ≤ 15000 → s.rbit Reg.tempCtrl 0 = true → s.fld Reg.tempOffset 15 0 = 0 → (∀ i, i < 6 → s.rbit Reg.tempMax (16 + i) = false) →
       ∃ t, exec (.tempSample (List.replicate 6 (some r))) s = .next t ∧
         (∀ i, i < 6 → t.fld (Reg.tempSensor + 4 * i) 15 0 = (BitVec.ofInt 16 r).toNat) ∧ t.fld Reg.tempMax 15 0 = (BitVec.ofInt 16 r).toNat ∧
         (∀ i, i < 6 → t.rbit Reg.tempMax (16 + i) = false)) ∧
     (s.reports = true → s.fld Reg.reclaimStatus 1 0 = 0 → ∃ t, exec .thermalStep1 s = .next t ∧ t.wc.decimation = min 16 (2 * s.wc.decimation) ∧
       t.fld Reg.reclaimStatus 1 0 = (if s.wc.decimation = 16 then 2 else 1) ∧ t.rbit Reg.reclaimEvents 2 = true) ∧
     (s.fld Reg.reclaimStatus 1 0 ≠ 2 → ∃ t, exec .thermalStep2 s = .next t ∧ t.rbit Reg.clkgenCtrl 0 = true ∧
       t.fld Reg.reclaimStatus 1 0 = 2 ∧ t.wc = s.wc) ∧
     (s.fld Reg.reclaimStatus 1 0 = 2 → ∃ t, exec .thermalClear s = .next t ∧ t.rbit Reg.clkgenCtrl 0 = false ∧
       t.fld Reg.reclaimStatus 1 0 = 0 ∧ t.wc = s.wc) ∧
     (s.fld Reg.reclaimStatus 1 0 = 1 → ∃ t, exec .thermalClear s = .next t ∧ t = s.thermStep 0)) ∧
  (∀ (s : State),
     (∀ n, n = 6 ∨ n = 7 ∨ n = 12 → s.monitored n = true → s.lostClocks.testBit n = false → s.tl.stations = [] → ∃ t,
       exec (.clockLost [n]) s = .next t ∧ t.rbit Reg.clkgenStatus n = false ∧ t.rbit Reg.clkgenLoss n = true ∧ t.lostClocks.testBit n = true) ∧
     (∀ n, 5 ≤ n → n ≤ 12 → s.monitored n = true → ∃ t, exec (.clockGood n) s = .next t ∧ t.rbit Reg.clkgenStatus n = true ∧
       (s.lostClocks.testBit n = true → t.lostClocks.testBit n = false)) ∧
     (∀ n, n ≤ 2 → ¬ (n ≤ 1 ∧ s.lostClocks.testBit n = true) → ∃ t, exec (.pllLock n) s = .next t ∧ t.rbit Reg.clkgenStatus n = true ∧
       t = { s with regs := t.regs }) ∧
     (∀ v : BitVec 16, ∃ t, exec (.timeFreqCheck v) s = .next t ∧ t.fld Reg.clkgenTimePpm 15 0 = v.toNat ∧
       t.rbit Reg.clkgenStatus 4 = decide (-2000 ≤ v.toInt ∧ v.toInt ≤ 2000) ∧
       (t.rbit Reg.clkgenStatus 4 = false → t.rbit Reg.clkgenStatus 3 = true ∧ t.rbit Reg.clkgenLoss 4 = true)) ∧
     (∃ t, exec .timeHoldoverEntry s = .next t ∧ t.rbit Reg.clkgenStatus 3 = true ∧ t = { s with regs := t.regs }) ∧
     (s.rbit Reg.clkgenStatus 2 = true → s.rbit Reg.clkgenStatus 4 = true → s.rbit Reg.clkgenTimeCfg 1 = false →
       ∃ t, exec .timeHoldoverExit s = .next t ∧ t.rbit Reg.clkgenStatus 3 = false ∧ t = { s with regs := t.regs }) ∧
     (∀ who b, s.Opens who Reg.clkgenCtrl → ∃ t, exec (.arrHalfWrite who b) s = .next t ∧ t.rbit Reg.clkgenCtrl 0 = b) ∧
     (s.rbit Reg.clkgenCtrl 0 ≠ s.rbit Reg.clkgenStatus 13 → ∃ t, exec .arrHalfChange s = .next t ∧
       t.rbit Reg.clkgenStatus 13 = s.rbit Reg.clkgenCtrl 0 ∧
       t.pilot.dlLeft = if s.rbit Reg.clkgenCtrl 0 then s.pilot.dlLeft / 2 else s.pilot.dlLeft * 2))

/-- The guard of a block (R183 to R188): the key opens it for the writer, a wrong key closes it and sets FAULT with the writer, a clear takes the chosen
flags, and the expiry closes it. A guarded write whose guard is not open for its initiator sets GUARD_DENIED with the writer and changes no register
(R185). Completion is stated of: GUARD_KEY, GUARD_WRONG_KEY, GUARD_CLEAR_FLAGS, GUARD_EXPIRY, SYSCTL_SWRESET, ARR_HALF_WRITE, OTP_PROG_CMD,
BASIN_POWER_WRITE. -/
def Obligations.GuardsOpenAndDeny : Prop :=
  (∀ (s : State) (who : Initiator) (b : Nat), b < 24 → s.Reaches who (guardAddr b) →
     (∃ t, exec (.guardKey who b) s = .next t ∧ (t.guard b).holder = some (holderOf who) ∧ (t.guard b).fault = (s.guard b).fault ∧
       (∀ c, c ≠ b → t.guard c = s.guard c) ∧ t.regs = s.regs) ∧
     (∀ key : BitVec 16, key ≠ 0x5AC3 → key ≠ 0 →
       ∃ t, exec (.guardWrongKey who b key) s = .next t ∧ (t.guard b).holder = none ∧ (t.guard b).fault = true ∧
         (t.guard b).faultMaster = who.master ∧ (t.guard b).faultNode = (holderOf who).2) ∧
     (∀ v : Word, ∃ t, exec (.guardClearFlags who b v) s = .next t ∧ (t.guard b).holder = (s.guard b).holder ∧
       (t.guard b).fault = ((s.guard b).fault && !v.getLsbD 16) ∧ (t.guard b).denied = ((s.guard b).denied && !v.getLsbD 17) ∧
       (t.guard b).cfgAbort = ((s.guard b).cfgAbort && !v.getLsbD 18)) ∧
     (∃ t, exec (.guardExpiry b) s = .next t ∧ (t.guard b).holder = none ∧ t = { s with guards := t.guards })) ∧
  (∀ (s : State) (who : Initiator) (addr : Nat) (v : Word) (r : RegRow), s.Reaches who addr → s.guardOpen (blockOf addr) who = false →
     addr % 65536 ≠ 0xFFC →
     (addr = Reg.sysctlSwreset → exec (.sysctlSwreset who) s = .next ((s.busAnswer who .ok).guardDeny (blockOf addr) who)) ∧
     (addr = Reg.clkgenCtrl → ∀ h, exec (.arrHalfWrite who h) s = .next ((s.busAnswer who .ok).guardDeny (blockOf addr) who)) ∧
     (addr = Reg.otpProgCmd → exec (.otpProgCmd who v) s = .next ((s.busAnswer who .ok).guardDeny (blockOf addr) who)) ∧
     (addr = Reg.basinctlPwr → exec (.basinPowerWrite who v) s = .next ((s.busAnswer who .ok).guardDeny (blockOf addr) who)) ∧
     (regRow? addr = some r → (∀ f, f ∈ r.fields → f.access = .rwg ∨ f.access = .ro) → (∃ f, f ∈ r.fields ∧ f.access = .rwg) →
       ∃ t, s.plainWrite who addr v = t ∧ (t.guard (blockOf addr)).denied = true ∧ (t.guard (blockOf addr)).faultMaster = who.master))

/-- The clears complete: each returns its registers to 0 (R178, R198). The interrupt controller's commands complete (R609, R610): a claim takes the
offered source into service and reads its number and level, or reads VALID clear where none is offered, COMPLETE ends its service, and ones written to
INTC_INSERVICE end the service of those sources. Completion is stated of: DCQ_DROP_CLEAR, QUAY_BUSY_CLEAR, CLR_COLL, CLR_ECC, CLR_COUNTS, SCRUB_CLR,
ETH_CNT_CLEAR, INTC_CLAIM, INTC_COMPLETE, INTC_END_SERVICE. -/
def Obligations.ClearsAndInterruptsComplete : Prop :=
  (∀ (s : State) (who : Initiator),
     (s.Reaches who Reg.clkgenDcqDrop → ∃ t, exec (.dcqDropClear who) s = .next t ∧ t.fld Reg.clkgenDcqDrop 15 0 = 0) ∧
     (s.Reaches who Reg.quayBusyCnt → ∃ t, exec (.quayBusyClear who) s = .next t ∧ t.reg Reg.quayBusyCnt = 0) ∧
     (s.Reaches who Reg.basinctlClear →
       (∃ t, exec (.clrColl who) s = .next t ∧ (∀ i, i < 4 → t.reg (Reg.basinctlColl + 4 * i) = 0) ∧
         ∀ i, i < 5 → t.reg (Reg.basinctlEcc + 4 * i) = s.reg (Reg.basinctlEcc + 4 * i)) ∧
       (∃ t, exec (.clrEcc who) s = .next t ∧ (∀ i, i < 5 → t.reg (Reg.basinctlEcc + 4 * i) = 0) ∧ t.reg Reg.basinctlUeAddr = 0 ∧
         ∀ i, i < 4 → t.reg (Reg.basinctlColl + 4 * i) = s.reg (Reg.basinctlColl + 4 * i))) ∧
     (s.Reaches who Reg.fairwayClear → ∃ t, exec (.clrCounts who) s = .next t ∧
       ∀ n, n < 16 → t.reg (Reg.fairwayCntA + 16 * n) = 0 ∧ t.reg (Reg.fairwayCntB + 16 * n) = 0 ∧ t.reg (Reg.fairwayCntC + 16 * n) = 0) ∧
     (s.Reaches who Reg.scrubClear → ∃ t, exec (.scrubClr who) s = .next t ∧ t.reg Reg.scrubPlainCnt = 0 ∧
       ∀ i, i < 4 → t.reg (Reg.scrubSweeps + 4 * i) = 0) ∧
     (∀ p, p < 2 → s.Reaches who (Reg.ethCntClear + 65536 * p) → ∃ t, exec (.ethCntClear who p) s = .next t ∧
       (∀ i, i < 17 → t.reg (ethCnt p i) = 0) ∧ t = { s with regs := t.regs, bus := t.bus, dbg := t.dbg })) ∧
  (∀ (s : State) (who : Initiator),
     (s.Reaches who Reg.intcClaim →
       (∀ n, n < 64 → s.offered = some n → ∃ t, exec (.intcClaim who) s = .next t ∧ t.inService n = true ∧
         (∀ m, m < 64 → m ≠ n → t.inService m = s.inService m) ∧ u8 t.bus.data 0 = n ∧ u8 t.bus.data 1 = s.irqLevel n) ∧
       (s.offered = none → ∃ t, exec (.intcClaim who) s = .next t ∧ t.bus.data = [0, 0, 0, 0x80] ∧ t.regs = s.regs)) ∧
     (s.Reaches who Reg.intcComplete → ∀ n, n < 64 → ∃ t, exec (.intcComplete who n) s = .next t ∧ t.inService n = false ∧
       ∀ m, m < 64 → m ≠ n → t.inService m = s.inService m) ∧
     (∀ i m, i < 2 → s.Reaches who (Reg.intcInservice + 4 * i) → ∃ t, exec (.intcEndService who i m) s = .next t ∧
       ∀ n, n < 32 → t.inService (32 * i + n) = (s.inService (32 * i + n) && !m.getLsbD n)))

/-- The timer commands complete (R612 to R616, R178): the watchdog's service restarts its count or refuses a wrong key, its prewarning is shown, an
enabled compare fires while the cycle runs, and a read of the SYS count latches its high word. The OTP commands complete (R90): GO starts a word
program unless the warning holds, which refuses it with PROG_ERR, and its end sets bits of the word and never clears one. Completion is stated of:
WDT_SERVICE, WDT_PREWARN, MARK_COMPARE, TIMER_SYSCNT_LATCH, OTP_PROG_CMD, OTP_PROG_DONE. -/
def Obligations.TimersAndOtpComplete : Prop :=
  (∀ (s : State) (who : Initiator),
     (s.Reaches who Reg.timerWdtService →
       (∀ v : Word, v.toNat % 65536 = 0x3C96 → ¬ (s.rbit Reg.timerWdtCtrl 0 = true ∧ (s.elapsedMs < s.fld Reg.timerWdtMin 13 0 ∨ s.fld Reg.timerWdtMax 13 0 ≤ s.elapsedMs)) →
         ∃ t, exec (.wdtService who v) s = .next t ∧ t.wdtUs = s.nowUs ∧ t.regs = s.regs) ∧
       (∀ v : Word, v.toNat % 65536 ≠ 0x3C96 → ∃ t, exec (.wdtService who v) s = .next t ∧ t.rbit Reg.timerWdtStatus 18 = true ∧ t.wdtUs = s.wdtUs)) ∧
     (s.rbit Reg.timerWdtCtrl 0 = true → ∃ t, exec .wdtPrewarn s = .next t ∧ t.rbit Reg.timerWdtStatus 17 = true ∧ t = { s with regs := t.regs }) ∧
     (∀ n, n < 4 → s.wc.running = true → s.rbit (Reg.timerMarkCmp + 4 * n) 31 = true →
       ∃ t, exec (.markCompare n) s = .next t ∧ t.rbit Reg.timerEvents (1 + n) = true ∧ t = { s with regs := t.regs }) ∧
     (s.Reaches who Reg.timerSyscntLo → ∃ t c, exec (.timerSyscntLatch who) s = .next t ∧ c = Config.freeWord s.freeCtr ∧
       ofLe t.bus.data = c.toNat % 2 ^ 32 ∧ t.reg Reg.timerSyscntHi = (c >>> 32).setWidth 32)) ∧
  (∀ (s : State) (who : Initiator) (v : Word), s.Opens who Reg.otpProgCmd →
     (v.getLsbD 0 = true → s.warning = false → ∃ t, exec (.otpProgCmd who v) s = .next t ∧ t.rbit Reg.otpStatus 1 = true ∧ t.otp = s.otp) ∧
     (v.getLsbD 0 = true → s.warning = true → ∃ t, exec (.otpProgCmd who v) s = .next t ∧ t.rbit Reg.otpStatus 3 = true ∧
       t.rbit Reg.otpStatus 1 = s.rbit Reg.otpStatus 1) ∧
     (s.rbit Reg.otpStatus 1 = true → ∀ a, a = (s.reg Reg.otpProgAddr).toNat →
       (∃ t, exec (.otpProgDone true) s = .next t ∧ t.rbit Reg.otpStatus 1 = false ∧
         (Store.sorted s.otp.raw = true → ∀ b, Store.get t.otp.raw b 0 =
           if b = a then Store.get s.otp.raw a 0 ||| s.reg Reg.otpProgData else Store.get s.otp.raw b 0)) ∧
       (∃ t, exec (.otpProgDone false) s = .next t ∧ t.rbit Reg.otpStatus 3 = true ∧ t.otp = s.otp)))

/-- A write of an interrupt enable register stores its defined bits, and a write of an event register clears the events written as 1; no other register
changes (R179, R198). Completion is stated of: REGISTER_WRITE. -/
def Obligations.RegisterWritesTakeTheirFields : Prop :=
  ∀ (s : State) (who : Initiator) (a : Nat) (v : Word), s.Reaches who a →
    (∀ r, (a ∈ [Reg.supmonIrqEn, Reg.clkgenIrqEn, Reg.fairwayIrqEn, Reg.ptpIrqEn, Reg.bbrIrqEn, Reg.tempIrqEn, Reg.timerIrqEn] ∨
        a ∈ [Reg.supmonEvents, Reg.fairwayEvents, Reg.basinctlEvents, Reg.ptpEvents, Reg.slipctlEvents, Reg.bbrEvents, Reg.tempEvents,
          Reg.timerEvents]) → regRow? a = some r → r.isGuarded = false →
      ∃ t, exec (.registerWrite who a v) s = .next t ∧ t.reg a = r.fields.foldl (fun w f => f.write false v w) (s.reg a) ∧
        t.bus.status = .ok ∧ ∀ b, b ≠ a → t.reg b = s.reg b) ∧
    (a = Reg.timerIrqEn → ∃ t, exec (.registerWrite who a v) s = .next t ∧
      ∀ i, i < 32 → (t.reg a).getLsbD i = if i ≤ 4 then v.getLsbD i else (s.reg a).getLsbD i) ∧
    (a = Reg.timerEvents → ∃ t, exec (.registerWrite who a v) s = .next t ∧
      ∀ i, i < 32 → (t.reg a).getLsbD i = ((s.reg a).getLsbD i && !(decide (i ≤ 4) && v.getLsbD i)))

/-- A single access of the Harbourmaster's data port to Basin 0 while it is ON and without errors there: a write stores its bytes and changes no other
byte of memory, a read answers the bytes and changes none (R658, R664, R674). A request that the matrix does not deliver has no effect but its error
(R658, R660, R670): an address that no row covers is DECODE, a target that the master does not reach is NO_PATH, and a fenced master gets FENCED. What
meets at the matrix (R662, R667, R680 to R682): of two writes of one word by two masters the one with the lower QoS is granted last and stays; a
request of a master with eight outstanding transactions waits at its port with no effect; and where the other port of Basin 2 writes the word in the
same cycle, a read answers what it wrote and RW counts, and of two writes WW counts and the one that PRECEDENCE names stays. Completion is stated of:
MATRIX_REQUEST. -/
def Obligations.MatrixReachesAndRefuses : Prop :=
  (∀ (s : State) (r : BusReq), r.who.master = 1 → s.silent r.who = false → s.Quiet → s.portLocked = false → s.masterFenced 1 1 = false → 0x20000000 ≤ r.addr → r.addr + BusReq.len r ≤ 0x20100000 →
     r.beats = 1 → (r.size = 1 ∨ r.size = 2 ∨ r.size = 4 ∨ r.size = 8) → r.addr % r.size = 0 → s.basinState 0 = 0 →
     s.errWords r.addr (BusReq.len r) = [] →
     (r.write = true → ∃ t, exec (.matrixRequest r [] []) s = .next t ∧ t.bus.status = .ok ∧
       (∀ i, i < r.size → Memory.read t.mem (r.addr + i) = (BusReq.bytes r).getD i 0) ∧
       (∀ a, (a < r.addr ∨ r.addr + r.size ≤ a) → Memory.read t.mem a = Memory.read s.mem a) ∧ t.regs = s.regs) ∧
     (r.write = false → ∃ t, exec (.matrixRequest r [] []) s = .next t ∧ t.bus.status = .ok ∧ t.mem = s.mem ∧ t.regs = s.regs ∧
       t.bus.data.length = r.size ∧ ∀ i, i < r.size → t.bus.data.getD i 0 = Memory.read s.mem (r.addr + i))) ∧
  (∀ (s : State) (r : BusReq), r.who.master ≤ 4 → 0x100000 ≤ r.addr → s.silent r.who = false → s.Quiet → s.portLocked = false →
     (targetOf r.addr = none → s.masterFenced r.who.master 8 = false → ∃ t, exec (.matrixRequest r [] []) s = .next t ∧
       t = { (s.matrixErr r.who 1 0 r.addr).busAnswer r.who .error with answers := [(0, { status := .error })] }) ∧
     (∀ p, targetOf r.addr = some p → s.masterFenced r.who.master p = true → ∃ t, exec (.matrixRequest r [] []) s = .next t ∧
       t = { (s.matrixErr r.who 5 p r.addr).busAnswer r.who .fenced with answers := [(0, { status := .fenced })] }) ∧
     (∀ p, targetOf r.addr = some p → s.masterFenced r.who.master p = false → (reach r.who.master).contains p = false →
       ∃ t, exec (.matrixRequest r [] []) s = .next t ∧
         t = { (s.matrixErr r.who 2 p r.addr).busAnswer r.who .error with answers := [(0, { status := .error })] }) ∧
     (∀ who k p a, (s.matrixErr who k p a).mem = s.mem ∧ (s.matrixErr who k p a).omx = s.omx)) ∧
  (∀ (s : State) (r q : BusReq) (p : PortUse), s.silent r.who = false → s.silent q.who = false → s.portLocked = false → s.boot.basins = true →
     s.atPort = [] → s.rbit Reg.fairwayFence 17 = false → s.masterFenced r.who.master 2 = false → s.masterFenced q.who.master 2 = false →
     s.basinState 2 = 0 → s.errWords r.addr 8 = [] → 0x22000000 ≤ r.addr → r.addr < 0x22200000 → r.addr % 8 = 0 → r.size = 8 → r.beats = 1 → r.who.master = 1 → q.who.master = 0 ∨ q.who.master = 2 →
     q.addr = r.addr → q.size = 8 → q.beats = 1 → p.addr = r.addr → p.data.length = 8 → p.write = true → r.stalled = false →
     (8 ≤ s.transactions 1 → (∀ x, x ∈ s.paths → BusReq.same x.2 r = false) → ∃ t, exec (.matrixRequest r [] []) s = .next t ∧ t.atPort = [r] ∧
       t.mem = s.mem ∧ t.regs = s.regs ∧ t.bus = s.bus) ∧
     (s.held = [] → s.paths = [] →
       (r.write = true → q.write = true → q.who.master = 2 → q.id = 0 → q.stalled = false → (s.qosOf r < s.qosOf q ∨ s.qosOf q < s.qosOf r) →
         ∃ t, exec (.matrixRequest r [q] []) s = .next t ∧ t.answers.length = 2 ∧
           ∀ i, i < 8 → Memory.read t.mem (r.addr + i) = (BusReq.bytes (if s.qosOf r < s.qosOf q then r else q)).getD i 0) ∧
       (r.write = false → ∃ t, exec (.matrixRequest r [] [p]) s = .next t ∧ t.bus.data = p.data ∧
         t.fld (Reg.basinctlColl + 4) 31 16 = min 0xFFFF (s.fld (Reg.basinctlColl + 4) 31 16 + 1)) ∧
       (r.write = true → ∃ t, exec (.matrixRequest r [] [p]) s = .next t ∧
         t.fld (Reg.basinctlColl + 4) 15 0 = min 0xFFFF (s.fld (Reg.basinctlColl + 4) 15 0 + 1) ∧
         ∀ i, i < 8 → Memory.read t.mem (r.addr + i) = (if s.rbit Reg.basinctlPrecedence 2 then p.data else BusReq.bytes r).getD i 0)))

/-- The Basin, DMA and execute-in-place commands complete (R671 to R687, R787): STATE takes a Basin down and OFF loses its contents, a wake brings it up,
a write-back ends a corrected error, GO starts a channel and its end shows DONE or ERR with the address, and a read of flash answers its bytes. BAR 2
and the debug unit complete (R201, R202, R620, R767): an enabled window returns the register that the matrix read as host data and discards writes,
counting them, and an unlocked debug unit halts, resumes, steps, sets break and watch points, accesses memory as master 4 and cleans the data cache.
Completion is stated of: BASIN_POWER_WRITE, BASIN_WAKE_DONE, ECC_WRITE_BACK, DMA_GO, DMA_DONE, DMA_ERROR, XIP_READ, PCIE_BAR2_READ, PCIE_BAR2_WRITE,
DEBUG_ACCESS, DBG_FLUSH. -/
def Obligations.BasinDmaAndDebugComplete : Prop :=
  (∀ (s : State) (who : Initiator),
     (s.Opens who Reg.basinctlPwr → (∀ b, b < 4 → s.basinState b = 0 ∧ s.basinWaking b = false) → s.held = [] → s.pwrWait = [] →
       ∃ t, exec (.basinPowerWrite who 0x02) s = .next t ∧ t.basinState 0 = 2 ∧ t.basinState 1 = 0 ∧
         (∀ a, 0x20000000 ≤ a → a < 0x20100000 → Memory.read t.mem a = Memory.unlisted) ∧
         (∀ a, ¬ (0x20000000 ≤ a ∧ a < 0x20100000) → Memory.read t.mem a = Memory.read s.mem a)) ∧
     (∀ b, b < 4 → s.basinWaking b = true → s.held = [] → s.pwrWait = [] → s.fw.wake = [] → ∃ t, exec (.basinWakeDone b) s = .next t ∧
       t.basinState b = 0 ∧ t.basinWaking b = false ∧ (s.basinState b = 2 → t.rbit Reg.basinctlEvents (5 + b) = true)) ∧
     (∀ a, Store.get s.memErr (a / 8 * 8) 0 = 1 → ∃ t, exec (.eccWriteBack a) s = .next t ∧
       Store.get t.memErr (a / 8 * 8) 0 = 0 ∧ t = { s with memErr := t.memErr }) ∧
     (∀ n, n < 8 → s.Reaches who (Reg.matrixDmaCtrl + 32 * n) → ∃ t, exec (.dmaGo who n) s = .next t ∧
       t.rbit (Reg.matrixDmaStatus + 32 * n) 0 = true) ∧
     (∀ n t, n < 8 → s.rbit (Reg.matrixDmaStatus + 32 * n) 0 = true →
       s.dmaCopy (s.dmaSrc n) (s.dmaDst n) (s.dmaLen n) (s.dmaLen n / 4) = (t, none) →
       exec (.dmaDone n) s = .next ((t.setRbit (Reg.matrixDmaStatus + 32 * n) 0 false).setRbit (Reg.matrixDmaStatus + 32 * n) 1 true)) ∧
     (∀ n a, n < 8 → s.rbit (Reg.matrixDmaStatus + 32 * n) 0 = true → s.dmaBefore n a = 0 → ∃ t, exec (.dmaError n a) s = .next t ∧
       t.rbit (Reg.matrixDmaStatus + 32 * n) 0 = false ∧ t.rbit (Reg.matrixDmaStatus + 32 * n) 2 = true ∧
       t.reg (Reg.matrixDmaErraddr + 32 * n) = BitVec.ofNat 32 a) ∧
     (∀ o, who.master = 1 → s.silent who = false → s.masterFenced 1 6 = false → o % 4 = 0 → o + 4 ≤ 0x8000000 → s.rbit Reg.qspiCtrl 7 = false →
       ∃ t, exec (.xipRead who o) s = .next t ∧ t.bus.status = .ok ∧ t.bus.data = s.flash.readBytes o 4 ∧ t.mem = s.mem)) ∧
  (∀ (s : State),
     (s.pcieDown = false → s.bar2 = true →
       (∀ o t, o % 4 = 0 → o < 0x180000 →
         t = s.matrix { who := { master := 3, node := 8 }, addr := 0x40000000 + o, write := false, size := 4, beats := 1 } →
         t.bus.status = .ok →
         exec (.pcieBar2Read o true) s = .next (t.complete (.data (BitVec.ofNat 32 (ofLe t.bus.data))))) ∧
       (∀ o v, exec (.pcieBar2Write o v) s = .next s.hostDiscard)) ∧
     (s.otp.jtagLock = false →
       (∃ t, exec (.debugAccess .halt) s = .next t ∧ t.dbg.halted = true ∧ t = { s with dbg := t.dbg }) ∧
       (∃ t, exec (.debugAccess .resume) s = .next t ∧ t.dbg.halted = false ∧ t = { s with dbg := t.dbg }) ∧
       (∃ t, exec (.debugAccess .step) s = .next t ∧ t.dbg.stepping = s.dbg.halted ∧ t = { s with dbg := t.dbg }) ∧
       (∀ n a, n < 4 → ∃ t, exec (.debugAccess (.setBreak n a true)) s = .next t ∧ Store.find? t.dbg.breaks n = some a) ∧
       (∀ n a, n < 2 → ∃ t, exec (.debugAccess (.setWatch n a true)) s = .next t ∧ Store.find? t.dbg.watches n = some a) ∧
       (∀ a, exec (.debugAccess (.readMem a)) s = .next (s.debugBus a none)) ∧
       (∀ a v, exec (.debugAccess (.writeMem a v)) s = .next (s.debugBus a (some v))) ∧
       (∃ t, exec .dbgFlush s = .next t ∧ ∀ a l, Store.find? t.hm.dcache a = some l → l.bad = false → l.dirty = false)))

/-- The black-box recorder's commands complete (R881 to R894): a two-beat burst appends at HEAD with the hardware's stamp, the release of a frozen ring by
the trigger's index unfreezes it, the seconds are set, a tick advances them, and a stamp update takes the cycle and the time. Completion is stated of:
BBR_APPEND, BBR_RELEASE, RTC_SET, ANCHOR, BBR_STAMP_UPDATE. -/
def Obligations.RecorderCommandsComplete : Prop :=
  ∀ (s : State) (who : Initiator),
    (∀ low p, (who.master = 1 ∨ who.master = 4 ∧ s.otp.jtagLock = false) → s.masterFenced who.master 7 = false → 2 < low.toNat % 4096 →
      s.rbit Reg.bbrStatus 0 = false → ∃ t, exec (.bbrAppend who 2 low p) s = .next t ∧
        (t.bbrEntry (s.fld Reg.bbrHead 11 0)).event = low.toNat % 4096 ∧ (t.bbrEntry (s.fld Reg.bbrHead 11 0)).payload = p ∧
        (t.bbrEntry (s.fld Reg.bbrHead 11 0)).cycle = s.bbr.stampCycle ∧ (t.bbrEntry (s.fld Reg.bbrHead 11 0)).timeUs = s.bbr.stampUs ∧
        t.fld Reg.bbrHead 11 0 = (s.fld Reg.bbrHead 11 0 + 1) % 4096) ∧
    (∀ i, s.Opens who Reg.bbrRelease → s.rbit Reg.bbrStatus 0 = true → i < 4096 → i = s.fld Reg.bbrTrigger 11 0 →
      ∃ t, exec (.bbrRelease who i) s = .next t ∧ t.rbit Reg.bbrStatus 0 = false ∧ t.reg Reg.bbrDropped = 0) ∧
    (∀ v, s.Opens who Reg.bbrRtcSet → (who.master = 1 → s.reports = false) → ∃ t, exec (.rtcSet who v) s = .next t ∧ t.reg Reg.bbrRtcS = v ∧ t.bbr.subSecond = 0) ∧
    (∃ t, exec .anchor s = .next t ∧ t.reg Reg.bbrRtcS = s.reg Reg.bbrRtcS + 1 ∧
      (s.boot.held = false → t.rbit Reg.bbrStatus 4 = true ∧ t.bbr.latchUs = s.bbr.stampUs)) ∧
    (s.boot.held = false → s.time.total + 1000 < 281474976710656 * 1000000000 → ∃ t, exec .bbrStampUpdate s = .next t ∧ t.time.total = s.time.total + 1000 ∧ t.rbit Reg.bbrStatus 3 = true ∧
      t.bbr.stampUs = BitVec.ofNat 32 t.nowUs ∧ t.bbr.stampCycle = if s.wc.everStarted then s.wc.cycle else 0)

/-- The receive side of a port completes (R729 to R740): a Tideline frame for the port's address that passes the filters joins ring 0's FIFO and waits
there without a descriptor, a frame with a wrong FCS is counted and nothing else, and a kick, a retry and an expired wait run the ring. The transmit
side of a port completes (R744 to R747): the oldest frame of the queue leaves and is counted, a kick on a port that can send changes nothing but the
bus answer, and at a mark the OUTPUT and COMMIT frames that have not started are not sent. Completion is stated of: ETH_RX_FRAME, RX_DESCRIPTOR_RETRY,
DESCRIPTOR_WAIT_EXPIRY, ETH_RX_KICK, ETH_TX_DONE, ETH_TX_KICK, MAC_MARK_ARRIVAL. -/
def Obligations.EthernetFramesComplete : Prop :=
  (∀ (s : State) (who : Initiator) (p : Nat), p < 2 → s.macs.length = 2 → (s.mac p).inbox = [] → (∀ r : Nat, r < 3 → s.oldestRx p r = none) →
     (∀ (f : RxFrame), s.rxEn p = true → f.fifoOverflow = false →
       (f.fcsOk = false → ∃ t, exec (.ethRxFrame p f) s = .next t ∧ t = s.ethCount p 1 1) ∧
       (f.fcsOk = true → 60 ≤ f.bytes.length → f.bytes.length ≤ 9014 → ofBe (f.bytes.take 6) = s.macAddr p → be16 f.bytes 12 = 0x88B5 →
         s.vlanOk p none = true → (s.mac p).fifo = [] → s.rbit (Reg.ethStatus + 65536 * p) 2 = false →
         s.descBuf (s.rxDesc p 0 (s.rxHead p 0)) < 2147483648 →
         ∃ t, exec (.ethRxFrame p f) s = .next t ∧ (t.mac p).fifo = [s.rxFill p f 0 0] ∧ (s.rxFill p f 0 0).bytes = f.bytes ∧ t.mem = s.mem ∧
           t.regs = s.regs)) ∧
     (∀ r f l, r < 3 → (s.mac p).fifo = f :: l → f.ring = r →
       exec (.rxDescriptorRetry p r) s = .next ((s.rxAll p).takeInbox p) ∧
       exec (.descriptorWaitExpiry p r) s = .next (((s.rxGiveUp p 6).rxAll p).takeInbox p)) ∧
     (∀ r, r < 3 → s.Reaches who (rxBase p r + 8) → exec (.ethRxKick who p r) s = .next (((s.busAnswer who .ok).rxAll p).takeInbox p))) ∧
  (∀ (s : State) (who : Initiator) (p : Nat), p < 2 →
     (∀ f q, q < 4 → s.macs.length = 2 → s.sends p = true → s.inProgress p = some q → s.txFront p q = some (.tl f) →
       ∃ t, exec (.ethTxDone p q) s = .next t ∧ t.tx = s.tx.erase f ∧ (t.mac p).sent = s.tlBytes f ∧
         t.rbit (Reg.ethEvents + 65536 * p) (3 + q) = true) ∧
     (∀ f : TxTl, f.tci = none → f.port = p → slice (s.tlBytes f) 0 12 = beBytes 6 f.dest ++ s.macBytes p ∧
       slice (s.tlBytes f) 12 2 = [0x88, 0xB5] ∧ slice (s.tlBytes f) 14 20 = f.header ++ (f.payload ++ zeros 60).take 4 ∧
       slice f.header 4 2 = leBytes 2 f.epoch) ∧
     (∀ q, q < 4 → s.Reaches who (txBase p q + 8) → s.sends p = true → exec (.ethTxKick who p q) s = .next ((s.busAnswer who .ok).txStart p)) ∧
     (s.txReady p 3 = 0 → s.inProgress p ≠ some 3 → ∃ t, exec (.macMarkArrival p) s = .next t ∧
       (∀ f, f ∈ t.tx ↔ f ∈ s.tx ∧ ¬ (f.port = p ∧ (f.typ = 0x11 ∨ f.typ = 0x12))) ∧
       ((∃ f, f ∈ s.tx ∧ f.port = p ∧ (f.typ = 0x11 ∨ f.typ = 0x12)) → t.rbit (Reg.ethEvents + 65536 * p) 6 = true)))

/-- MDIO, link polling, the TIME base, ARP and ICMP complete (R727, R728, R733, R748, R749): a command is stored and its end clears GO and stores the data
read, three good polls raise the link, a step moves the stopped device's time, the seconds advance, a read of the seconds latches the snapshot, and
the firmware answers at the port's own address. The PTP messages and timers complete (R751 to R753): a slave takes a first Announce's sender as its
parent, keeps a two-step Sync for its Follow_Up and measures at it, a master answers Delay_Req, a Delay_Resp gives the mean path delay, a silent
parent is lost, and a master's interval sends Sync with its Follow_Up. Completion is stated of: MDIO_COMMAND, MDIO_DONE, MDIO_POLL, PTP_STEP,
TIME_BASE_SECOND, PTP_TIME_SNAPSHOT, ARP_REQUEST, ICMP_ECHO_REQUEST, ANNOUNCE, PTP_ANNOUNCE, PTP_SYNC, PTP_FOLLOW_UP, PTP_DELAY_RESP, PTP_DELAY_REQ,
PTP_ANNOUNCE_RECEIPT_TIMEOUT, PTP_MESSAGE_INTERVAL. -/
def Obligations.PortServicesAndPtpComplete : Prop :=
  (∀ (s : State) (who : Initiator) (p : Nat), p < 2 → s.macs.length = 2 →
     (∀ v : Word, s.Reaches who (Reg.ethMdioCmd + 65536 * p) → ∃ t, exec (.mdioCommand who p v) s = .next t ∧
       t.reg (Reg.ethMdioCmd + 65536 * p) = v &&& 0x80000FFF) ∧
     (∀ d : BitVec 16, s.rbit (Reg.ethMdioCmd + 65536 * p) 31 = true → s.fld (Reg.ethMdioCmd + 65536 * p) 11 10 = 2 →
       ∃ t, exec (.mdioDone p d) s = .next t ∧ t.rbit (Reg.ethMdioCmd + 65536 * p) 31 = false ∧
         t.fld (Reg.ethMdioData + 65536 * p) 15 0 = d.toNat) ∧
     (∀ v : BitVec 2, s.rbit (Reg.ethCtrl + 65536 * p) 6 = true → s.linkUp p = false →
       ((s.mac p).goodRun < 2 → ∃ t, exec (.mdioPoll p true true v) s = .next t ∧ (t.mac p).goodRun = (s.mac p).goodRun + 1 ∧ t.regs = s.regs) ∧
       (2 ≤ (s.mac p).goodRun → ∃ t, exec (.mdioPoll p true true v) s = .next t ∧ t.linkUp p = true ∧
         (s.firmwareRuns = true → t.fld (Reg.ethCtrl + 65536 * p) 3 2 = v.toNat ∧ t.rbit (Reg.ethCtrl + 65536 * p) 1 = true))) ∧
     (s.Opens who Reg.ptpStep → s.cycleOn = false → ∃ t, exec (.ptpStep who) s = .next t ∧ t.rbit Reg.ptpEvents 0 = true ∧
       (t.time.total : Int) = ((s.time.total : Int) + ((s.reg Reg.ptpStepSec).toInt * 1000000000 + (s.reg Reg.ptpStepNs).toInt)) %
         (281474976710656 * 1000000000)) ∧
     (∃ t, exec .timeBaseSecond s = .next t ∧ t.time.sec = (s.time.sec + 1) % 281474976710656 ∧ t.time.ns = 0 ∧ t.rbit Reg.ptpEvents 2 = true) ∧
     (s.Reaches who Reg.ptpTimeSecLo → ∃ t, exec (.ptpTimeSnapshot who) s = .next t ∧ t.time.snapSec = s.time.sec ∧ t.time.snapNs = s.time.ns ∧
       ofLe t.bus.data = s.time.sec % 2 ^ 32 ∧ t.regs = s.regs) ∧
     (∀ m i, s.answersAt p i = true →
       (∀ j, exec (.arpRequest p m j i) s = .next ((s.sendNet [NetTx.arpReply p m j]).returnRx p 1)) ∧
       (∀ j e d, d.length ≤ 1472 → (s.mac p).echoes = [] → s.sends p = true → ∃ t, exec (.icmpEchoRequest p m j i e d) s = .next t ∧
         t.netOut = s.netOut ++ [NetTx.echoReply p m j e d] ∧ (t.mac p).echoes = [s.nowUs])) ∧
     (s.harbourOpen = true → exec .announce s = .next s.announceAll)) ∧
  (∀ (s : State) (p : Nat) (m : PtpMsg) (r : PtpPort), p < 2 → s.ptp.ports.length = 2 → r = s.ptpPort p →
     (r.hears m = true → r.role = 2 → r.parent = none → ∃ t, exec (.ptpAnnounce p m) s = .next t ∧ (t.ptpPort p).parent = some m ∧
       (t.ptpPort p).master = false) ∧
     (r.fromParent m = true →
       (m.twoStep = true → ∃ t, exec (.ptpSync p m) s = .next t ∧ (t.ptpPort p).waiting = some m) ∧
       (m.twoStep = false → exec (.ptpSync p m) s = .next ((s.syncDone p m.rxNs m.txNs m.correctionNs).returnRx p 2)) ∧
       (∀ w, r.waiting = some w → w.seq = m.seq → exec (.ptpFollowUp p m) s = .next
         ((s.syncDone p w.rxNs m.txNs (w.correctionNs + m.correctionNs)).returnRx p 2)) ∧
       (∀ tx, r.delaySeq = some (m.seq, tx) → ∃ t, exec (.ptpDelayResp p m) s = .next t ∧ (t.ptpPort p).delaySeq = none ∧
         (t.ptpPort p).delayNs = (r.diffNs + (m.rxNs - tx - m.correctionNs)) / 2)) ∧
     (r.hears m = true → r.master = true → s.sends p = true → ∃ t, exec (.ptpDelayReq p m) s = .next t ∧
       t.netOut = s.netOut ++ [NetTx.ptp p 4 m.seq r.domain m.rxNs.toNat (some m)]) ∧
     (r.role = 2 → r.master = false → ∃ t, exec (.ptpAnnounceReceiptTimeout p) s = .next t ∧ (t.ptpPort p).locked = false ∧
       (t.ptpPort p).lostMaster = true ∧ (t.ptpPort p).parent = none ∧ t.regs = s.regs) ∧
     (s.sends p = true → r.role = 1 → r.master = true → r.oneStep = false → ∃ t, exec (.ptpMessageInterval p 0) s = .next t ∧
       t.netOut = s.netOut ++ [NetTx.ptp p 0 (r.seqs.getD 0 0) r.domain s.time.total, .ptp p 3 (r.seqs.getD 0 0) r.domain s.time.total]) ∧
     (s.sends p = true → r.role = 1 → r.master = true → ∃ t, exec (.ptpMessageInterval p 1) s = .next t ∧
       t.netOut = s.netOut ++ [NetTx.ptp p 1 (r.seqs.getD 1 0) r.domain s.time.total]))

/-- The marks and the gather deadline complete (R13, R17, R21, R22, R26, R394, R395): a mark begins the next cycle at its own instant, or ends the run
when a stop is pending, and a cycle still open ends LATE; its interrupt takes the boundary; the gather deadline gives each network station the values
of its INPUT, or its previous values and a miss. COMMIT_FLIP makes the working half the committed one (R24): the channel table and the Plain half
flip, the cycle is recorded as COMMITTED and the LATE run ends; COMMIT_DEADLINE and a cycle that the Pilot abandoned leave the committed table and the
waiting changes as they are (R16, R25, R37, R39). Completion is stated of: WATCH_MARK, WATCH_MARK_IRQ, GATHER_DEADLINE, COMMIT_FLIP, COMMIT_DEADLINE,
CYCLE_ABANDONED. -/
def Obligations.WatchCycleCompletes : Prop :=
  (∀ (s : State),
     (s.boot.held = false → ∀ m, s.nextMark = some m →
       (s.wc.stopPending = false → ∃ t, exec .watchMark s = .next t ∧ t.wc.cycle = nextCycle s.wc.cycle ∧ t.wc.running = true ∧
         t.wc.markUs = m ∧ t.nowUs = m ∧ t.wc.phase = .gather ∧ t.wc.boundaryTaken = false ∧ t.wc.ended = false ∧ t.rbit Reg.timerEvents 0 = true ∧
         ((∀ x, x ∈ s.chans → x.2.leaving = false) → t.chans = s.chans) ∧ t.mem = s.mem ∧
         (s.wc.running = true → s.wc.ended = false → t.wc.lastCycle = s.wc.cycle ∧ t.wc.lastOutcome = s.wc.verdict .late)) ∧
       (s.wc.stopPending = true → ∃ t, exec .watchMark s = .next t ∧ t.wc.running = false ∧ t.wc.startAtUs = none ∧ t.wc.phase = .idle)) ∧
     (s.reports = true →
       (s.wc.running = true → s.wc.boundaryTaken = false → ∃ t, exec .watchMarkIrq s = .next t ∧ t.wc.boundaryTaken = true ∧
         t.wc.decUsed = s.wc.decimation ∧ t.changes.length = s.changes.length ∧ ∀ p, p ∈ t.changes → p.used = true ∧ p.firstMark ≠ none) ∧
       (s.wc.running = false → s.wc.stopPending = true → ∃ t, exec .watchMarkIrq s = .next t ∧ t.changes = [] ∧
         (s.changes = [] → t.wc.stopPending = false ∧ t.tl.role = .idle)) ∧
       (s.wc.running = true → s.wc.ended = false → s.wc.gathered = false → ∀ id st, id < 112 → s.tl.stations = [(id, st)] →
         st.takePart = true → st.state = .moored →
         (st.inputFor = some s.wc.cycle.toNat → s.wc.lastOutcome ≠ .committed → ∃ t, exec .gatherDeadline s = .next t ∧ t.wc.gathered = true ∧
           (t.station id).points = st.inbox ∧ (t.station id).missRun = st.missRun ∧ (t.station id).state = .moored) ∧
         (st.inputFor = none → st.missRun + 1 < stationLostN id st → ∃ t, exec .gatherDeadline s = .next t ∧ t.wc.gathered = true ∧
           (t.station id).missRun = st.missRun + 1 ∧ (t.station id).state = .slack ∧ (t.station id).points = stalePoints id st)))) ∧
  (∀ (s : State), s.wc.running = true → s.wc.ended = false →
     (s.reports = true → s.wc.phase = .commit → (∀ p, p ∈ s.changes → p.used = false) →
       ∃ t, exec .commitFlip s = .next t ∧ t.chans = s.chansWork.getD s.chans ∧ t.chansWork = none ∧ t.plain.half = !s.plain.half ∧
         t.wc.ended = true ∧ t.wc.lastOutcome = .committed ∧ t.wc.lastCommitted = s.wc.cycle ∧ t.wc.nCommitted = s.wc.nCommitted + 1 ∧
         t.wc.lateRun = 0 ∧ t.changes = s.changes) ∧
     (∃ t, exec .commitDeadline s = .next t ∧ t.wc.ended = true ∧ t.wc.lastOutcome = s.wc.verdict .late ∧ t.chans = s.chans ∧
       t.chansWork = none ∧ t.changes.map (fun p => (p.effect, p.cycle, p.change)) = s.changes.map (fun p => (p.effect, p.cycle, p.change)) ∧
       t.plain = s.plain ∧ t.mem = s.mem) ∧
     (s.reports = true → ∃ t, exec .cycleAbandoned s = .next t ∧ t.wc.ended = true ∧
       t.wc.lastOutcome = s.wc.verdict (outcomeOf (s.reg Reg.pilotMboxPilot).toNat) ∧ t.chans = s.chans ∧ t.chansWork = none ∧ t.mem = s.mem))

/-- The frames and timers of the station link complete (R166, R377 to R386): a JOIN that nothing speaks against hails its station, a forgotten one returns
it, the round admits it, CONFIG is sent again, an acknowledgement of the first CONFIG moors it, and an INPUT in time is stored. Two devices on one
network (R407 to R410): a device without a peer follows the sender of an ANNOUNCE, an ACTIVE one yields to a higher claim and becomes STANDBY, and a
STANDBY one keeps the MARK of a COMMIT of the device that it follows. A cycle that is still open at the next mark counts as LATE: after the third LATE
cycle in a row the device is restricted, and every eighth doubles the decimation up to 16 (R40, R41). Completion is stated of: JOIN, JOIN_FORGET,
ADMISSION_ROUND, CONFIG_RESEND, CONFIG_ACK, INPUT, ANNOUNCE_RECEIVED, COMMIT_RECEIVED, WATCH_MARK. -/
def Obligations.StationLinkCompletes : Prop :=
  (∀ (s : State) (f : TlFrame) (id : Nat) (st : Station), s.reports = true → id < 112 → st = s.station id →
     (f.stationId = id → headerOk f = true → f.epoch = s.tl.epoch → s.tl.announced.testBit f.port = true → s.tl.role ≠ .standby →
       (∀ x, x ∈ s.tl.stations → x.2.held = false) → s.joinReason id f.src f.port = 0 → st.state = .absent → st.join = none →
       ∃ t, exec (.join f) s = .next t ∧ (t.station id).state = .hailed ∧
         (t.station id).join = some { mac := f.src, port := f.port, cycle := f.cycle, back := .absent }) ∧
     (∀ j, st.join = some j → st.state = .hailed → ∃ t, exec (.joinForget id) s = .next t ∧ (t.station id).state = j.back) ∧
     (∀ j, s.tl.role ≠ .standby → s.joinsPending = [(id, j)] → s.joinReason id j.mac j.port = 0 → st.state = .hailed →
       ∃ t, exec .admissionRound s = .next t ∧ (t.station id).state = .joining ∧ (t.station id).mac = j.mac ∧ (t.station id).port = j.port ∧
         (t.station id).sends = 1 ∧ (t.station id).firstConfig = true) ∧
     (st.held = true → 1 ≤ st.sends → st.sends < 5 → ∃ t, exec (.configResend id) s = .next t ∧ (t.station id).sends = st.sends + 1) ∧
     (f.stationId = id → headerOk f = true → f.epoch = s.tl.epoch → st.state = .joining → 1 ≤ st.sends → st.mac = f.src →
       u16 f.payload 0 = st.configSeq → u8 f.payload 2 = 0 → st.firstConfig = true →
       ∃ t, exec (.configAck f) s = .next t ∧ (t.station id).state = .moored ∧ (t.station id).ackedSeq = some st.configSeq ∧
         (t.station id).missRun = 0) ∧
     (f.stationId = id → headerOk f = true → f.epoch = s.followedEpoch → (st.state = .moored ∨ st.state = .slack) → s.inputOk f = true →
       (s.wc.gathered = false → ∃ t, exec (.input f) s = .next t ∧ (t.station id).inbox = inputValues f.payload ∧
         (t.station id).inputFor = some f.cycle ∧ (t.station id).lastApplied = u32 f.payload 0) ∧
       (s.wc.gathered = true → ∃ t, exec (.input f) s = .next t ∧ (t.station id).inbox = st.inbox ∧
         (t.station id).nInputLate = satU 32 (st.nInputLate + 1)))) ∧
  (∀ (s : State) (f : TlFrame), s.reports = true → f.version = 1 → f.flags = 0 → f.length ≤ f.body.length → f.stationId = 0xFF →
     (s.tl.followed = none → s.tl.heard = [] → s.tl.role = .idle → ∃ t, exec (.announceReceived f) s = .next t ∧ t.tl.role = .idle ∧
       t.tl.followed = some { mac := f.src, epoch := f.epoch, role := u8 f.payload 0, periodUs := u32 f.payload 4, heardUs := s.nowUs, commits := [] }) ∧
     (s.tl.role = .active → claimHigher (u8 f.payload 0, f.epoch, f.src) (2, s.tl.epoch, s.macAddr f.port) = true →
       ∃ t, exec (.announceReceived f) s = .next t ∧ t.tl.role = .standby ∧ t.tl.missedMarks = 0 ∧ ∀ i, (t.station i).held = false) ∧
     (∀ d, s.tl.followed = some d → s.tl.role = .standby → f.epoch = d.epoch → d.mac = f.src →
       ∃ t, exec (.commitReceived f) s = .next t ∧ t.tl.followed = some { d with commits := (f.mark :: d.commits).take 8 } ∧ t.wc = s.wc)) ∧
  (∀ (s : State) (m : Nat), s.boot.held = false → s.nextMark = some m → s.wc.stopPending = false → s.wc.running = true → s.wc.ended = false →
     s.wc.bracedVerdict = false → s.wc.discardVerdict = false →
     ∃ t, exec .watchMark s = .next t ∧ t.wc.lateRun = s.wc.lateRun + 1 ∧ t.wc.nLate = s.wc.nLate + 1 ∧ t.wc.lastOutcome = .late ∧
       (s.wc.lateRun = 2 → t.wc.restricted = true) ∧ (s.wc.lateRun ≠ 2 → t.wc.restricted = s.wc.restricted) ∧
       t.wc.decimation = (if (s.wc.lateRun + 1) % 8 = 0 ∧ s.wc.decimation < 16 then min 16 (2 * s.wc.decimation) else s.wc.decimation))

/-- The Quay's commands complete (R34, R566, R574 to R578, R584 to R587): a pass starts when its GO is written to an idle Quay and sets OVERRUN while one
runs, its end shows the event and writes the cycle number to PILOT_MBOX0, a cycle's own passes go on to COMPUTE and to COMMIT, a faulty descriptor
stops the pass, and ABORT ends it. The Plain's window and field power (R28, R462, R472 to R474, R486 to R488): outside the foreground window an access
to a field that is ON reads or writes its element's bytes, a wake ends with the field ON and cleared where it was OFF, a field sleeps or its request
waits, and a Quay slot serves what waits. Completion is stated of: QUAY_LD_GO, QUAY_UL_GO, LOAD_DONE, UNLOAD_DONE, QUAY_ABORT, PLAIN_WINDOW_ACCESS,
FIELD_WAKE_DONE, FIELD_SLEEP, QUAY_SLOT. -/
def Obligations.QuayAndFieldsComplete : Prop :=
  (∀ (s : State),
     (s.fld Reg.quayStatus 2 0 = 0 →
       (∃ t, exec .quayLdGo s = .next t ∧ t.fld Reg.quayStatus 2 0 = 1 ∧ t.mem = s.mem ∧
         (s.wc.running = true → s.wc.gathered = true → s.wc.ended = false → s.wc.phase = .gather → t.wc.phase = .load)) ∧
       (s.wc.running = false → ∃ t, exec .quayUlGo s = .next t ∧ t.fld Reg.quayStatus 2 0 = 2 ∧ t.mem = s.mem)) ∧
     (s.fld Reg.quayStatus 2 0 = 1 → ∃ t, exec .quayLdGo s = .next t ∧ t = s.setRbit Reg.quayEvents 6 true) ∧
     (s.fld Reg.quayStatus 2 0 = 2 → ∃ t, exec .quayUlGo s = .next t ∧ t = s.setRbit Reg.quayEvents 6 true) ∧
     (s.fld Reg.quayStatus 2 0 = 1 → s.passReady (s.fld Reg.quayLdPtr 20 0) = true →
       (∀ u, s.wc.running = false → s.loadPass = (u, none) → ∃ t, exec .loadDone s = .next t ∧ t.fld Reg.quayStatus 2 0 = 0 ∧
         t.rbit Reg.quayEvents 0 = true ∧ t.reg Reg.pilotMboxHm = u.wc.cycle ∧ t.pilot.mboxNew = true ∧ t.mem = u.mem) ∧
       (∀ u, s.wc.running = true → s.wc.ended = false → s.wc.phase = .load → s.loadMirror.loadPass = (u, none) →
         exec .loadDone s = .next
           (((((u.setReg Reg.quayStatus 0).setRbit Reg.quayEvents 0 true).quayTime Reg.quayLdTime).quayMbox.takeSleeps).releaseInputs.startCompute)) ∧
       (∀ u e, s.wc.running = false → s.loadPass = (u, some e) → exec .loadDone s = .next (u.quayFault e))) ∧
     (s.fld Reg.quayStatus 2 0 = 2 → s.passReady (s.fld Reg.quayUlPtr 20 0) = true →
       (∀ u, s.wc.running = false → s.unloadPass = (u, none) → ∃ t, exec .unloadDone s = .next t ∧ t.fld Reg.quayStatus 2 0 = 0 ∧
         t.rbit Reg.quayEvents 1 = true ∧ t.reg Reg.pilotMboxHm = u.wc.cycle ∧ t.mem = u.mem) ∧
       (∀ u, s.wc.running = true → s.wc.ended = false → s.wc.phase = .unload → s.unloadPass = (u, none) → u.wc.ended = false →
         ∃ t, exec .unloadDone s = .next t ∧ t.wc.phase = .commit)) ∧
     (s.fld Reg.quayStatus 2 0 ≠ 0 → s.inWindow = false → ∃ t, exec .quayAbort s = .next t ∧ t.fld Reg.quayStatus 2 0 = 0 ∧
       t.rbit Reg.quayEvents 2 = true ∧ t.mem = s.mem ∧ t.wc = s.wc)) ∧
  (∀ (s : State),
     (∀ r : BusReq, 0x30000000 ≤ r.addr → r.addr < 0x31000000 → s.silent r.who = false → r.who.master < 4 →
       s.masterFenced r.who.master 5 = false → s.rbit Reg.fairwayFence 17 = false →
       windowForm r = true → s.inWindow = false → s.rbit Reg.sysctlPlainFail (fieldOf ((r.addr - 0x30000000) / 1024)) = false →
       s.plain.on (fieldOf ((r.addr - 0x30000000) / 1024)) = true → s.plain.ecc = [] →
       (r.write = false → ∃ t, exec (.plainWindowAccess r) s = .next t ∧ t.bus.status = .ok ∧ t.plain = s.plain ∧
         t.bus.data = s.plain.getBytes ((r.addr - 0x30000000) / 1024) ((r.addr - 0x30000000) % 1024) (r.size * r.beats)) ∧
       (r.write = true → Store.sorted s.plain.mem = true → r.data.length = r.size * r.beats →
         ∃ t, exec (.plainWindowAccess r) s = .next t ∧ t.bus.status = .ok ∧
           (∀ i, i < r.size * r.beats → Store.get t.plain.mem (r.addr - 0x30000000 + i) 0 = r.data.getD i 0) ∧
           (∀ a, a < r.addr - 0x30000000 ∨ r.addr - 0x30000000 + r.size * r.beats ≤ a →
             Store.get t.plain.mem a 0 = Store.get s.plain.mem a 0))) ∧
     (∀ f off, f < 16 → s.plain.power.length = 16 → s.plain.waking = [(f, off)] → ∃ t, exec (.fieldWakeDone f) s = .next t ∧
       t.plain.on f = true ∧ t.plain.waking = [] ∧ (∀ g, g ≠ f → t.plain.on g = s.plain.on g) ∧
       (off = true → ∀ x, x ∈ t.plain.mem → fieldOf (x.1 / 1024) ≠ f)) ∧
     (∀ f, f < 16 → s.plain.on f = true → s.plain.mirrorPairs = 0 → s.sleepWaits f = true → s.plain.sleeps = [] →
       exec (.fieldSleep f false) s = .next { s with plain := { s.plain with sleeps := [(f, false)] } }) ∧
     (∀ f, f < 16 → s.plain.power.length = 16 → s.plain.on f = true → s.plain.mirrorPairs = 0 → s.sleepWaits f = false →
       (∃ t, exec (.fieldSleep f false) s = .next t ∧ t.plain.power.getD f .on = .ret ∧ t.plain.mem = s.plain.settle.mem) ∧
       (s.fieldIdle f = true → ∃ t, exec (.fieldSleep f true) s = .next t ∧ t.plain.power.getD f .on = .off ∧
         ∀ x, x ∈ t.plain.mem → fieldOf (x.1 / 1024) ≠ f)) ∧
     (s.inWindow = false → s.arrUp = true → exec .quaySlot s = .next (s.quaySlot.retryPorts.serveWake 1)))

/-- The Fairway's packets complete (R696 to R718): a request with a free TID to a listed endpoint is served there and a destination that is not listed
answers DECODE, a response completes the transaction that it names, a WAKING notice extends its timer, a retry serves the request again; a request for
whose response there is no space waits (R703); and a READ that travels alone over h hops arrives in cycle h + 2 (R699). The Fairway's timers and trace
complete (R178, R709, R710): a timeout completes its transaction with TIMEOUT, advances the epoch and quarantines the TID, whose quarantine then ends,
and a read of the trace takes the next word of the oldest head. A request that reaches a fenced endpoint, or comes poisoned or with a wrong CRC, is
answered with the status of Table FWY-3 and is not performed (R706, R707, R718). Completion is stated of: FAIRWAY_REQUEST, FAIRWAY_RESPONSE, WAKING,
WAKE_RETRY, FAIRWAY_TIMEOUT, TID_QUARANTINE_END, FAIRWAY_TRACE_READ. -/
def Obligations.FairwayCompletes : Prop :=
  (∀ (s : State) (p : FwPacket), p.src < 16 → p.dst < 16 →
     (s.rbit Reg.fairwayFence p.src = false → s.fw.waiting = [] →
       ((fwTargets p.src).contains p.dst = false → (p.kind = 1 ∨ p.kind = 2) → ∃ t, exec (.fairwayRequest p [] []) s = .next t ∧
         t.fw.last = some { node := p.src, tid := p.tid, status := 1, data := [] } ∧ t.regs = s.regs) ∧
       ((fwTargets p.src).contains p.dst = true → p.tid < fwTids p.src → Store.find? s.fw.tids (256 * p.src + p.tid) = none →
         s.fw.quarantine.contains (p.src, p.tid) = false → (p.kind = 1 ∨ p.kind = 2) → s.reserved p.src + FwPacket.reserve p ≤ fwBuffer p.src →
         ∀ q u, q = { p with qos := s.fwQos p, epoch := s.epoch p.src, status := 0, allowNs := 0 } →
           u = { s with fw := { s.fw with tids := Store.insert s.fw.tids (256 * p.src + p.tid) { req := q } } }.capture q →
           exec (.fairwayRequest p [] []) s = .next
             ({ u with fw := { u.fw with arrived := (arrivals [q]).map fun (x : Nat × Nat × Nat) => (p.src, x.2) } }.serveRequest q []).injectWaiting) ∧
       ((fwTargets p.src).contains p.dst = true → p.tid < fwTids p.src → Store.find? s.fw.tids (256 * p.src + p.tid) = none →
         s.fw.quarantine.contains (p.src, p.tid) = false → p.kind = 1 → fwBuffer p.src < s.reserved p.src + FwPacket.reserve p →
         ∃ t, exec (.fairwayRequest p [] []) s = .next t ∧ t.fw.waiting = [p] ∧ t.fw.tids = s.fw.tids ∧ t.regs = s.regs)) ∧
     (p.kind = 1 → p.bulk = false → arrivals [p] = [(0, hops p.src p.dst + 2, hops p.src p.dst + 2)]) ∧
     (∀ x, p.headUe = false → p.poisoned = false → p.crcBad = false → s.rbit Reg.fairwayFence p.dst = false → p.status = 0 → p.kind ≠ 0xA →
       s.fw.waiting = [] → p.corrected = [] →
       s.outstanding p = some x → ∃ t, exec (.fairwayResponse p) s = .next t ∧
         t.fw.last = some { node := p.dst, tid := p.tid, status := 0, data := p.data } ∧ Store.find? t.fw.tids (256 * p.dst + p.tid) = none) ∧
     (∀ x, s.outstanding p = some x → ∃ t, exec (.waking p) s = .next t ∧
       Store.find? t.fw.tids (256 * p.dst + p.tid) = some { x with extNs := x.extNs + p.allowNs } ∧ t.regs = s.regs) ∧
     (∀ x, s.outstanding p = some x → 1 ≤ x.retries → exec (.wakeRetry p) s = .next ((s.capture x.req).serveRequest x.req []))) ∧
  (∀ (s : State) (n tid : Nat), n < 16 → tid < 256 →
     (∀ x, Store.find? s.fw.tids (256 * n + tid) = some x → endpointDomain x.req.dst = none → s.fw.waiting = [] → ∃ t, exec (.fairwayTimeout n tid) s = .next t ∧
       t.fw.last = some { node := n, tid := tid, status := 7, data := [] } ∧ Store.find? t.fw.tids (256 * n + tid) = none ∧
       (n, tid) ∈ t.fw.quarantine ∧ t.epoch n = (s.epoch n + 1) % 16 ∧ t.rbit Reg.fairwayEvents 4 = true) ∧
     (∃ t, exec (.tidQuarantineEnd n tid) s = .next t ∧ (n, tid) ∉ t.fw.quarantine ∧
       ∀ y, y ≠ (n, tid) → (y ∈ t.fw.quarantine ↔ y ∈ s.fw.quarantine)) ∧
     (∀ who h l, s.Reaches who Reg.fairwayTraceData → s.fw.trace = h :: l → ∃ t, exec (.fairwayTraceRead who) s = .next t ∧
       t.bus.data = leBytes 4 (h.getD s.fw.tracePos 0).toNat ∧
       (3 ≤ s.fw.tracePos → t.fw.trace = l ∧ t.fw.tracePos = 0) ∧
       (s.fw.tracePos < 3 → t.fw.trace = h :: l ∧ t.fw.tracePos = s.fw.tracePos + 1))) ∧
  (∀ (s : State) (p : FwPacket), p.headUe = false → p.reserved = false → (p.kind = 1 ∨ p.kind = 2) →
     (s.rbit Reg.fairwayFence (16 + p.dst) = true → ∃ t r, s.serveRequest p [] = t ∧ t.fw.responses = s.fw.responses ++ [r] ∧
       r.status = 5 ∧ r.tid = p.tid ∧ r.dst = p.src ∧ t.mem = s.mem ∧ t.bus = s.bus) ∧
     (s.rbit Reg.fairwayFence (16 + p.dst) = false → p.poisoned = true → ∃ t r, s.serveRequest p [] = t ∧ t.fw.responses = s.fw.responses ++ [r] ∧
       r.status = 3 ∧ r.tid = p.tid ∧ r.dst = p.src ∧ t.mem = s.mem ∧ t.bus = s.bus) ∧
     (s.rbit Reg.fairwayFence (16 + p.dst) = false → p.poisoned = false → p.bulk = true → p.crcBad = true → ∃ t r, s.serveRequest p [] = t ∧
       t.fw.responses = s.fw.responses ++ [r] ∧ r.status = 4 ∧ r.tid = p.tid ∧ r.dst = p.src ∧ t.mem = s.mem ∧ t.bus = s.bus))

/-- The sequencing of a micro-word completes (R498 to R502, R509): after its operations the Pilot goes on at the target, calls, returns, loops while the
counter is not 0, takes the next macro-instruction, waits while its condition is 0, idles, or returns from a trap; a mask stack that would leave its
range halts it. A micro-word with XFN SUM and CFN MAJ that reads and writes no plane adds one bit in every element of every ON field: the new X and
carry are the sum of X, Y and C (R498, Table PLT-2); Y, M, F, T, NB, IX and DZ stay. Completion is stated of: MICRO_JUMP, MICRO_CALL, MICRO_RETURN,
MICRO_LOOP, MICRO_DISPATCH, MICRO_WAIT, MICRO_IDLE, MICRO_TRET. -/
def Obligations.MicroWordsComplete : Prop :=
  (∀ (s : State) (w : BitVec 112), s.pilotRuns = true →
     (maskDepth (mbits w 73 71) s.pilot.depth = none → exec (.microJump w) s = .next (s.pilotOverflow 2)) ∧
     (∀ d b t, maskDepth (mbits w 73 71) s.pilot.depth = some d → b = s.microBody w true →
       t = { b with pilot := { b.pilot with depth := d, inWait := false } } →
       exec (.microJump w) s = .next (t.goto (s.target w)) ∧
       (t.pilot.calls.length < 8 →
         exec (.microCall w) s = .next ({ t with pilot := { t.pilot with calls := (s.pilot.upc + 1) :: t.pilot.calls } }.goto (s.target w))) ∧
       (∀ a r, t.pilot.calls = a :: r → exec (.microReturn w) s = .next ({ t with pilot := { t.pilot with calls := r } }.goto a)) ∧
       (t.pilot.calls = [] → exec (.microReturn w) s = .next (t.pilotOverflow 1)) ∧
       (∀ i, i = mbits w 27 26 →
         (s.pilot.lc.getD i 0 ≠ 0 → exec (.microLoop w) s = .next
           ({ t with pilot := { t.pilot with lc := t.pilot.lc.set i (s.pilot.lc.getD i 0 - 1) } }.goto (s.target w))) ∧
         (s.pilot.lc.getD i 0 = 0 → exec (.microLoop w) s = .next (t.goto (s.pilot.upc + 1)))) ∧
       (∀ m r, s.pilot.queue = m :: r → ∃ u, exec (.microDispatch w) s = .next u ∧ u.pilot.queue = r ∧ u.pilot.opcode = macroField m 7 0 ∧
         u.pilot.width = macroField m 13 8 + 1 ∧ u.pilot.dst = macroField m 26 14 ∧ u.pilot.src1 = macroField m 39 27 ∧
         u.pilot.src2 = macroField m 52 40 ∧ u.pilot.mode = macroField m 63 53 ∧ u.pilot.depth = 0) ∧
       (s.cond (mbits w 25 21) % 2 = 0 → ∃ u, exec (.microWait w) s = .next u ∧ u.pilot.inWait = true ∧ u.pilot.upc = s.pilot.upc) ∧
       (s.cond (mbits w 25 21) % 2 = 1 → ∃ u, exec (.microWait w) s = .next u ∧ u.pilot.inWait = false) ∧
       (∃ u, exec (.microIdle w) s = .next u ∧ u.pilot.st = .idle ∧ u.plain = t.plain) ∧
       (∀ x, s.pilot.slots.getLast? = some x → ∃ u, exec (.microTret w) s = .next u ∧ u.pilot.slots = s.pilot.slots.dropLast ∧
         u.pilot.lc = [bits (x.getD 1 0) 15 0, bits (x.getD 1 0) 31 16, bits (x.getD 2 0) 15 0, bits (x.getD 2 0) 31 16])) ∧
     (∀ a, 0x4000 ≤ a → a < 32768 → (s.goto a).pilot.upc = a)) ∧
  (∀ (s : State) (w : BitVec 112) (n : Nat), s.pilotRuns = true → mbits w 32 30 = 0 → mbits w 36 35 = 0 → mbits w 41 39 = 0 → mbits w 53 50 = 6 →
     mbits w 56 54 = 1 → mbits w 59 57 = 0 → mbits w 61 60 = 0 → mbits w 63 62 = 0 → mbits w 70 69 = 0 → mbits w 73 71 = 0 → mbits w 75 74 = 0 →
     n ∈ s.plain.onElems →
     ∃ t e f, exec (.microJump w) s = .next t ∧ e = s.plain.settle.elem n ∧ f = t.plain.elem n ∧
       f.x.toNat + 2 * f.c.toNat = e.x.toNat + e.y.toNat + e.c.toNat ∧ f = { e with x := f.x, c := f.c } ∧ t.plain.mem = s.plain.mem)

/-- A micro-trap that the Harbour handler returns from at once (ECC_UE, ARITH, GOR_WATCH) leaves the interrupted work as it was: micro-address, loop
counters, address and scalar registers, depths, call stack and save slots are restored, and its pending bit is clear (R518, R519). The other
micro-traps of the Harbour handler (R480, R521, R522, R529): CYCLE_DEADLINE abandons the cycle with LATE, MIRROR_MISMATCH with DISCARDED, SAGWARN with
BRACED where the rest of the foreground does not fit, and BREAK halts the Pilot. Completion is stated of: MICRO_TRAP. -/
def Obligations.HarbourHandlerReturnsOrAbandons : Prop :=
  (∀ (s : State) (c : Nat), s.pilotRuns = true → s.pilot.trapOk = true → s.nextTrap = some c → (c = 3 ∨ c = 4 ∨ c = 5) → s.pilot.slots.length < 4 →
     s.matches (0x3F00 + 16 * c) = [] → s.matches s.pilot.upc = [] → s.rbit Reg.pilotWatch 0 = false → s.pilot.upc < 32768 →
     (s.pilot.slots ≠ [] → s.pilot.st = .trap) → s.pilot.lc.length = 4 → (∀ x, x ∈ s.pilot.lc → x < 65536) → s.pilot.a.length = 4 →
     (∀ x, x ∈ s.pilot.a → x < 8192) → s.pilot.s.length = 16 → s.pilot.depth < 8 → s.pilot.calls.length ≤ 8 →
     ∃ t, exec .microTrap s = .next t ∧ t.pilot.upc = s.pilot.upc ∧ t.pilot.lc = s.pilot.lc ∧ t.pilot.a = s.pilot.a ∧ t.pilot.s = s.pilot.s ∧
       t.pilot.depth = s.pilot.depth ∧ t.pilot.calls = s.pilot.calls ∧ t.pilot.slots = s.pilot.slots ∧ t.pilot.st = s.pilot.st ∧
       t.rbit Reg.pilotTrapPend c = false ∧ t.plain = s.plain ∧ t.mem = s.mem) ∧
  (∀ (s : State) (c : Nat), s.pilotRuns = true → s.pilot.trapOk = true → s.nextTrap = some c → s.pilot.slots.length < 4 → s.matches (0x3F00 + 16 * c) = [] →
     (c = 1 → ∃ t, exec .microTrap s = .next t ∧ t.pilot.st = .idle ∧ t.pilot.slots = [] ∧ t.reg Reg.pilotMboxPilot = BitVec.ofNat 32 CycleOutcome.late.code) ∧
     (c = 2 → ∃ t, exec .microTrap s = .next t ∧ t.pilot.st = .idle ∧ t.pilot.slots = [] ∧ t.wc.discardVerdict = true ∧
       t.reg Reg.pilotMboxPilot = BitVec.ofNat 32 CycleOutcome.discarded.code) ∧
     (c = 0 → (s.pilot.slots = [] ∧ s.pilot.st = .foreground ∨ s.pilot.slots ≠ [] ∧ s.pilot.under = .foreground) →
       s.pilot.sagFor = some s.wc.cycle → s.wc.ended = false → s.pilot.dlLeft < (s.pilot.s.getD 14 0).toNat →
       ∃ t, exec .microTrap s = .next t ∧ t.pilot.st = .idle ∧ t.wc.bracedVerdict = true ∧
         t.reg Reg.pilotMboxPilot = BitVec.ofNat 32 CycleOutcome.braced.code) ∧
     (c = 6 → ∃ t, exec .microTrap s = .next t ∧ t.pilot.st = .haltedBreak ∧ t.pilot.slots.length = s.pilot.slots.length + 1))

/-- The Pilot's control commands complete (R494, R495, R503, R508, R513, R517, R522): the requests set their pending bit, a mark loads DL_LEFT, START and
RESUME run an idle or halted Pilot, patch RAM takes a word while it may, the mailbox takes data, and the next macro-instruction is fetched. Completion
is stated of: SAGWARN_REQUEST, PILOT_BREAK, CYCLE_DEADLINE, ACK_TIMEOUT, PILOT_MARK_ARRIVAL, PILOT_START, PILOT_RESUME, PILOT_PRAM_WRITE,
PILOT_MBOX_WRITE, MACRO_FETCH. -/
def Obligations.PilotCommandsComplete : Prop :=
  ∀ (s : State),
    (s.warning = true → s.boot.held = false → s.sagAsked = false → ∃ t, exec .sagwarnRequest s = .next t ∧ t.rbit Reg.pilotTrapPend 0 = true ∧
      t.pilot.st = s.pilot.st ∧ t.sagAsked = true ∧
      t.pilot.sagFor = (if s.wc.running = true ∧ s.wc.stopPending = false ∧ s.wc.ended = false then some s.wc.cycle else none)) ∧
    (s.warning = false ∨ s.sagAsked = true → exec .sagwarnRequest s = .next s) ∧
    (∃ t, exec .pilotBreak s = .next t ∧ t.rbit Reg.pilotTrapPend 6 = true ∧ t.pilot.st = s.pilot.st) ∧
    (s.pilot.unloadDone = false → s.fld Reg.pilotDeadline 17 0 ≠ 0 → ∃ t, exec .cycleDeadline s = .next t ∧ t.rbit Reg.pilotTrapPend 1 = true ∧
      t.pilot.deadlinePassed = true ∧ t.pilot.ackPending = true ∧ t.pilot.dlLeft = 0) ∧
    (s.pilot.ackPending = true → exec .ackTimeout s = .next
      ((s.setRbit Reg.pilotFault 3 true).faultB 0x024 4 0x02 (BitVec.ofNat 32 (s.pilot.upc % 32768))).arrReset) ∧
    (s.arrUp = true → ∃ t, exec .pilotMarkArrival s = .next t ∧ t.pilot.mark = true ∧ t.pilot.waitMark = false ∧
      t.pilot.dlLeft = s.fld Reg.pilotDeadline 17 0 * s.arrMhz ∧ t.pilot.deadlinePassed = false) ∧
    (s.pilot.st = .idle → s.arrUp = true → ∃ t, exec .pilotStart s = .next t ∧ t.pilot.mpc = s.fld Reg.pilotProgBase 17 0 / 8 * 8 ∧
      t.pilot.queue = [] ∧ t.pilot.st = (if s.inWindow then .foreground else .ebb)) ∧
    (s.pilot.st = .haltedBreak → exec .pilotResume s = .next s.tret) ∧
    (∀ v : Word, s.pilot.st = .idle → (∀ i : Nat, i < 32 → s.rbit (Reg.pilotMatch + 4 * i) 31 = false) →
      ∃ t, exec (.pilotPramWrite v) s = .next t ∧
        Store.get t.pilot.pram (s.fld Reg.pilotPramAddr 8 0) 0 = BitVec.ofNat 112 ((s.reg Reg.pilotPramData).toNat +
          2 ^ 32 * (s.reg (Reg.pilotPramData + 4)).toNat + 2 ^ 64 * (s.reg (Reg.pilotPramData + 8)).toNat + 2 ^ 96 * (v.toNat % 65536)) ∧
        t.fld Reg.pilotPramAddr 8 0 = (s.fld Reg.pilotPramAddr 8 0 + 1) % 512) ∧
    (∀ n v, n < 2 → ∃ t, exec (.pilotMboxWrite n v) s = .next t ∧ t.reg (Reg.pilotMboxHm + 4 * n) = v ∧ (n = 0 → t.pilot.mboxNew = true)) ∧
    (s.pilotRuns = true → s.pilot.queue.length < 32 → s.basinState 1 = 0 → s.basinWaking 1 = false →
      ∀ o, o = (s.pilot.mpc + 8 * s.pilot.queue.length) % 262144 → Store.get s.memErr (0x21000000 + o) 0 ≠ 2 →
      ∃ t, exec .macroFetch s = .next t ∧ t.pilot.queue = s.pilot.queue ++ [BitVec.ofNat 64 (ofLe (Memory.readBytes s.mem (0x21000000 + o) 8))])

/-- Moves (Table PIS-3, R534 to R536): in every acting element MOV and MOVX write SRC1, MOVX widened, narrowed or clamped to DST's width, LDI the
immediate, STIX the index register, LDIX takes the operand into it, and NOP changes no element's memory. Compares, logic and selection (Table PIS-3):
a compare writes its bit to DST and F, the logic instructions write bit by bit, SEL takes SRC1 where F is 1, and MIN and MAX write the extreme with F
1 where SRC1 was chosen. Completion is stated of: MOV, MOVX, LDI, STIX, LDIX, NOP, CEQ, CNE, CLT, CLE, CGT, CGE, AND, OR, XOR, ANDN, NOT, SEL, MIN,
MAX. -/
def Obligations.PlainMovesComparesAndLogicComplete : Prop :=
  (∀ (s : State) (m : MacroInstr) (n w : Nat), s.pilotRuns = true → n ∈ s.acts m → w = mW m →
     (∃ t, exec (.plainMov m) s = .next t ∧ s.Wrote t m n w (s.plain.bits n (s.src1At m n) w)) ∧
     (∃ t, exec (.plainMovx m) s = .next t ∧ s.Wrote t m n w (narrow (mSat m) (mSign m) w
       (reading (mSign m) (mSrc2 m % 64 + 1) (s.plain.bits n (s.src1At m n) (mSrc2 m % 64 + 1))))) ∧
     (∃ t, exec (.plainLdi m) s = .next t ∧ s.Wrote t m n w (narrow false (mSign m) w (reading (mSign m) 26 (mImm26 m)))) ∧
     (∃ t, exec (.plainStix m) s = .next t ∧ t.plain.bits n (mDst m) w = (s.plain.elem n).ix % 2 ^ w) ∧
     (∃ t, exec (.plainLdix m) s = .next t ∧ (t.plain.elem n).ix = s.plain.bits n (mSrc1 m) w % 8192 ∧ t.plain.mem = s.plain.mem) ∧
     (∃ t, exec (.plainNop m) s = .next t ∧ t.plain.mem = s.plain.mem ∧ (t.plain.elem n).ix = (s.plain.elem n).ix)) ∧
  (∀ (s : State) (m : MacroInstr) (n w a b : Nat) (rd : Nat → Int), s.pilotRuns = true → n ∈ s.acts m → w = mW m →
     a = s.plain.bits n (s.src1At m n) w → b = s.plain.bits n (s.src2At m n) w → rd = reading (mSign m) w →
     (∃ t, exec (.plainCeq m) s = .next t ∧ s.WroteF t m n 1 (decide (rd a = rd b)).toNat (decide (rd a = rd b))) ∧
     (∃ t, exec (.plainCne m) s = .next t ∧ s.WroteF t m n 1 (decide (rd a ≠ rd b)).toNat (decide (rd a ≠ rd b))) ∧
     (∃ t, exec (.plainClt m) s = .next t ∧ s.WroteF t m n 1 (decide (rd a < rd b)).toNat (decide (rd a < rd b))) ∧
     (∃ t, exec (.plainCle m) s = .next t ∧ s.WroteF t m n 1 (decide (rd a ≤ rd b)).toNat (decide (rd a ≤ rd b))) ∧
     (∃ t, exec (.plainCgt m) s = .next t ∧ s.WroteF t m n 1 (decide (rd b < rd a)).toNat (decide (rd b < rd a))) ∧
     (∃ t, exec (.plainCge m) s = .next t ∧ s.WroteF t m n 1 (decide (rd b ≤ rd a)).toNat (decide (rd b ≤ rd a))) ∧
     (∃ t, exec (.plainAnd m) s = .next t ∧ s.Wrote t m n w (a &&& b)) ∧
     (∃ t, exec (.plainOr m) s = .next t ∧ s.Wrote t m n w (a ||| b)) ∧
     (∃ t, exec (.plainXor m) s = .next t ∧ s.Wrote t m n w (a ^^^ b)) ∧
     (∃ t, exec (.plainAndn m) s = .next t ∧ s.Wrote t m n w (a &&& (2 ^ w - 1 - b))) ∧
     (∃ t, exec (.plainNot m) s = .next t ∧ s.Wrote t m n w (2 ^ w - 1 - a)) ∧
     (∃ t, exec (.plainSel m) s = .next t ∧ s.Wrote t m n w (if (s.plain.elem n).f then a else b)) ∧
     (∃ t, exec (.plainMin m) s = .next t ∧ s.WroteF t m n w (if rd a ≤ rd b then a else b) (decide (rd a ≤ rd b))) ∧
     (∃ t, exec (.plainMax m) s = .next t ∧ s.WroteF t m n w (if rd b ≤ rd a then a else b) (decide (rd b ≤ rd a))))

/-- Sums, products and quotients (Table PIS-3, R536, R543, R544): every acting element receives the exact result of its operands, wrapped or, with SAT
where the instruction takes it, clamped; MUL, MULW, SMUL, DIV and REM leave F 0, and a zero divisor sets DZ. Shifts (Table PIS-3, R548): SHL, SHR, SCL
and SATN write the shifted, rounded or clamped value, and a neighbour shift of one hop with every element acting brings the neighbour's SRC1, or 0
where there is none or its field is not ON. Completion is stated of: ADD, SUB, ADDI, NEG, ABS, MUL, MULW, SMUL, DIV, REM, SHL, SHR, SCL, SATN, NSHN,
NSHE, NSHS, NSHW. -/
def Obligations.PlainArithmeticAndShiftsComplete : Prop :=
  (∀ (s : State) (m : MacroInstr) (n w a b : Nat) (rd : Nat → Int), s.pilotRuns = true → n ∈ s.acts m → w = mW m →
     a = s.plain.bits n (s.src1At m n) w → b = s.plain.bits n (s.src2At m n) w → rd = reading (mSign m) w →
     (∃ t, exec (.plainAdd m) s = .next t ∧ s.Wrote t m n w (narrow (mSat m) (mSign m) w (rd a + rd b))) ∧
     (∃ t, exec (.plainSub m) s = .next t ∧ s.Wrote t m n w (narrow (mSat m) (mSign m) w (rd a - rd b))) ∧
     (∃ t, exec (.plainAddi m) s = .next t ∧ s.Wrote t m n w (narrow (mSat m) (mSign m) w (rd a + reading (mSign m) 13 (mSrc2 m)))) ∧
     (∃ t, exec (.plainNeg m) s = .next t ∧ s.Wrote t m n w (narrow (mSat m) (mSign m) w (-(rd a)))) ∧
     (∃ t, exec (.plainAbs m) s = .next t ∧ s.Wrote t m n w (narrow (mSat m) (mSign m) w (Int.natAbs (rd a)))) ∧
     (∃ t, exec (.plainMul m) s = .next t ∧ s.WroteF t m n w (narrow false true w (rd a * b)) false) ∧
     (∃ t, exec (.plainMulw m) s = .next t ∧ s.WroteF t m n (2 * w) (narrow false true (2 * w) (rd a * b)) false) ∧
     (∃ t, exec (.plainSmul m) s = .next t ∧ s.WroteF t m n w (narrow false true w (toSigned w a * toSigned w b)) false) ∧
     (rd b ≠ 0 → ¬ (mSign m = true ∧ rd a = -(2 ^ (w - 1)) ∧ rd b = -1) →
       (∃ t, exec (.plainDiv m) s = .next t ∧ s.WroteF t m n w (narrow false true w (Int.tdiv (rd a) (rd b))) false) ∧
       (∃ t, exec (.plainRem m) s = .next t ∧ s.WroteF t m n w (narrow false true w (Int.tmod (rd a) (rd b))) false)) ∧
     (mSign m = true → rd a = -(2 ^ (w - 1)) → rd b = -1 →
       (∃ t, exec (.plainDiv m) s = .next t ∧ s.WroteF t m n w (narrow false true w (2 ^ (w - 1) - 1)) false) ∧
       (∃ t, exec (.plainRem m) s = .next t ∧ s.WroteF t m n w 0 false)) ∧
     (rd b = 0 →
       (∃ t, exec (.plainDiv m) s = .next t ∧ s.WroteF t m n w (narrow false true w (if mSign m then (if rd a ≥ 0 then 2 ^ (w - 1) - 1 else -(2 ^ (w - 1))) else 2 ^ w - 1)) false) ∧
       (∃ t, exec (.plainRem m) s = .next t ∧ s.WroteF t m n w a false) ∧ ∃ t, exec (.plainDiv m) s = .next t ∧ (t.plain.elem n).dz = true)) ∧
  (∀ (s : State) (m : MacroInstr) (n w a : Nat) (rd : Nat → Int), s.pilotRuns = true → n ∈ s.acts m → w = mW m →
     a = s.plain.bits n (s.src1At m n) w → rd = reading (mSign m) w →
     (∃ t, exec (.plainShl m) s = .next t ∧ s.Wrote t m n w (narrow (mSat m) (mSign m) w (rd a * 2 ^ (mSrc2 m % 64)))) ∧
     (∃ t, exec (.plainShr m) s = .next t ∧ s.Wrote t m n w (narrow false (mSign m) w (asr (rd a) (mSrc2 m % 64)))) ∧
     (∀ k, k = toSigned 13 (mSrc2 m) →
       (∃ t, exec (.plainScl m) s = .next t ∧ s.Wrote t m n w (narrow (mSat m) (mSign m) w (if k ≥ 0 then rd a * 2 ^ k.toNat else roundShift (rd a) (-k).toNat)))) ∧
     (∃ t, exec (.plainSatn m) s = .next t ∧ s.Wrote t m n w (narrow true (mSign m) w
       (reading (mSign m) (mSrc2 m % 64 + 1) (s.plain.bits n (s.src1At m n) (mSrc2 m % 64 + 1))))) ∧
     (mMsel m = 0 → mSrc2 m = 1 → ∀ (dir : Nat) (v : Nat),
       v = (match neighbour dir (mEdge m) (s.plain.mirrorPairs % 256 != 0) n with
            | some k => if s.plain.on (fieldOf k) then s.plain.bits k (s.src1At m k) w else 0
            | none => 0) →
       (dir = 0 → (∃ t, exec (.plainNshn m) s = .next t ∧ s.Wrote t m n w v)) ∧ (dir = 1 → (∃ t, exec (.plainNshe m) s = .next t ∧ s.Wrote t m n w v)) ∧
       (dir = 2 → (∃ t, exec (.plainNshs m) s = .next t ∧ s.Wrote t m n w v)) ∧ (dir = 3 → (∃ t, exec (.plainNshw m) s = .next t ∧ s.Wrote t m n w v))))

/-- Scans and global extremes (R546, R547): PSUM, PSUMX, RMAX and RMIN write the accumulation of the element's segment, and GMAX and GMIN the extreme over
all acting elements, with F 1 in those that hold it. Masks, tables and flags (R538, R545): MPUSH and MPUSHF push the condition, MPOP and MELSE step
the stack, a full or empty stack halts the Pilot, TSRCH finds the interval, TLERP interpolates in it where the interval is not empty, FCLR and DZCLR
clear F and DZ. Completion is stated of: PSUM, PSUMX, RMAX, RMIN, GMAX, GMIN, MPUSH, MPUSHF, MPOP, MELSE, TSRCH, TLERP, FCLR, DZCLR. -/
def Obligations.PlainScansMasksAndTablesComplete : Prop :=
  (∀ (s : State) (m : MacroInstr) (n w : Nat) (val : Nat → Int), s.pilotRuns = true → n ∈ s.acts m → w = mW m →
     val = (fun k => reading (mSign m) w (s.plain.bits k (s.src1At m k) w)) →
     (∀ i at_ lo seg, (i, at_) = chainPos (mEdge m == 3) n → lo = i / 2 ^ min (mSrc2 m) 14 * 2 ^ min (mSrc2 m) 14 →
       seg = (fun (op : Int → Int → Int) (cnt : Nat) => ((List.range cnt).foldl (fun (acc : Option Int) (j : Nat) =>
         if s.plain.on (fieldOf (at_ (lo + j))) = false then some 0
         else if at_ (lo + j) ∈ s.acts m then some (match acc with | none => val (at_ (lo + j)) | some x => op x (val (at_ (lo + j))))
         else acc) none).getD 0) →
       (∃ t, exec (.plainPsum m) s = .next t ∧ s.Wrote t m n w (narrow false true w (seg (fun x y => x + y) (i - lo + 1)))) ∧
       (∃ t, exec (.plainPsumx m) s = .next t ∧ s.Wrote t m n w (narrow false true w (seg (fun x y => x + y) (i - lo)))) ∧
       (∃ t, exec (.plainRmax m) s = .next t ∧ s.Wrote t m n w (narrow false true w (seg max (i - lo + 1)))) ∧
       (∃ t, exec (.plainRmin m) s = .next t ∧ s.Wrote t m n w (narrow false true w (seg min (i - lo + 1))))) ∧
     (∀ x, x ∈ (s.acts m).map val → (∀ y, y ∈ (s.acts m).map val → y ≤ x) →
       (∃ t, exec (.plainGmax m) s = .next t ∧ s.WroteF t m n w (narrow false true w x) (val n == x))) ∧
     (∀ x, x ∈ (s.acts m).map val → (∀ y, y ∈ (s.acts m).map val → x ≤ y) →
       (∃ t, exec (.plainGmin m) s = .next t ∧ s.WroteF t m n w (narrow false true w x) (val n == x)))) ∧
  (∀ (s : State) (m : MacroInstr) (n w d : Nat), s.pilotRuns = true → n ∈ s.plain.onElems → w = mW m → d = s.pilot.maskD → s.pilot.s.length = 16 →
     (d < 4 →
       (∃ t, exec (.plainMpush m) s = .next t ∧ t.pilot.maskD = d + 1 ∧
         t.plain.mask (d + 1) n = (s.plain.mask d n && decide (s.plain.bits n (mSrc1 m) 1 = 1))) ∧
       (∃ t, exec (.plainMpushf m) s = .next t ∧ t.pilot.maskD = d + 1 ∧
         t.plain.mask (d + 1) n = (s.plain.mask d n && (s.plain.elem n).f))) ∧
     (1 ≤ d → d < 4 →
       (∃ t, exec (.plainMpop m) s = .next t ∧ t.pilot.maskD = d - 1 ∧ t.plain.mem = s.plain.mem) ∧
       (∃ t, exec (.plainMelse m) s = .next t ∧ t.pilot.maskD = d ∧
         t.plain.mask d n = (s.plain.mask (d - 1) n && !s.plain.mask d n))) ∧
     (d = 0 → exec (.plainMpop m) s = .next ((s.dispatch m).pilotOverflow 2)) ∧
     (n ∈ s.acts m → ∃ t, exec (.plainTsrch m) s = .next t ∧ (t.plain.elem n).f = false ∧
       (t.plain.elem n).ix = w * ival (reading (mSign m) w (s.plain.bits n (mDst m) w))
         ((List.range (mSrc1 m % 512)).map fun i => reading (mSign m) w (s.plain.bits n (mSrc2 m + i * w) w)) % 8192) ∧
     (n ∈ s.acts m → ∀ (rd : Nat → Int) (ix : Nat) (v0 v1 h0 h1 h : Int), rd = (fun a => reading (mSign m) w (s.plain.bits n a w)) →
       ix = (s.plain.elem n).ix → v0 = rd (mSrc1 m + ix) → v1 = rd (mSrc1 m + ix + w) → h0 = rd (mSrc2 m + ix) → h1 = rd (mSrc2 m + ix + w) →
       h = min (max (rd (mDst m)) h0) h1 → h0 < h1 → h1 - h0 < 2 ^ (2 * w - 1) →
       ∃ t, exec (.plainTlerp m) s = .next t ∧ (t.plain.elem n).f = false ∧ t.plain.bits n (mDst m) w =
         narrow false true w (v0 + Int.tdiv (wrapS (2 * w) ((v1 - v0) * (h - h0))) (h1 - h0))) ∧
     (∃ t, exec (.plainFclr m) s = .next t ∧ (t.plain.elem n).f = false ∧ t.plain.mem = s.plain.mem) ∧
     (n ∈ s.acts m → ∃ t, exec (.plainDzclr m) s = .next t ∧ (t.plain.elem n).dz = false ∧ t.plain.mem = s.plain.mem))

/-- Control flow (R533, R549 to R551): BR and the taken branches go to their offset, the others to the next instruction; LOOP repeats its body, CALL and
RET keep the return address, WAITM waits for the mark, END returns to the scheduler, and an illegal opcode abandons the foreground. Completion is
stated of: BR, BRGOR, BRNGOR, BRFOR, LOOP, CALL, RET, WAITM, END, PLAIN_ILLEGAL. -/
def Obligations.PlainControlFlowComplete : Prop :=
  ∀ (s : State) (m : MacroInstr) (here : Nat) (target : Nat), s.pilotRuns = true → s.pilot.loops = [] → s.pilot.s.length = 16 → s.pilot.lc.length = 4 →
    here = (s.pilot.mpc + 8) % 262144 → target = (((here : Int) + 8 * toSigned 13 (mDst m)) % 262144).toNat →
    (∃ t, exec (.plainBr m) s = .next t ∧ t.pilot.mpc = target ∧ t.pilot.queue = []) ∧
    (∃ t, exec (.plainBrgor m) s = .next t ∧ t.pilot.mpc = (if s.forVec ≠ 0 then target else here)) ∧
    (∃ t, exec (.plainBrngor m) s = .next t ∧ t.pilot.mpc = (if s.forVec = 0 then target else here)) ∧
    (∃ t, exec (.plainBrfor m) s = .next t ∧ t.pilot.mpc = (if s.forVec.testBit (mSrc1 m % 16) then target else here)) ∧
    (1 ≤ mDst m → ∃ t, exec (.plainLoop m) s = .next t ∧ t.pilot.loops = [(here, here + 8 * (mDst m - 1))] ∧
      t.pilot.lc.getD 2 0 = mImm26 m % 65536 ∧ t.pilot.mpc = here) ∧
    (s.pilot.macroCalls < 4 → ∃ t, exec (.plainCall m) s = .next t ∧ t.pilot.mpc = target ∧ t.pilot.macroCalls = s.pilot.macroCalls + 1 ∧
      t.pilot.s.getD (8 + s.pilot.macroCalls) 0 = BitVec.ofNat 32 here) ∧
    (4 ≤ s.pilot.macroCalls → exec (.plainCall m) s = .next ((s.dispatch m).pilotOverflow 1)) ∧
    (1 ≤ s.pilot.macroCalls → s.pilot.macroCalls ≤ 4 → ∃ t, exec (.plainRet m) s = .next t ∧ t.pilot.macroCalls = s.pilot.macroCalls - 1 ∧
      t.pilot.mpc = (s.pilot.s.getD (7 + s.pilot.macroCalls) 0).toNat) ∧
    (∃ t, exec (.plainWaitm m) s = .next t ∧ t.pilot.waitMark = true ∧ t.pilot.mpc = here) ∧
    (∃ t, exec (.plainEnd m) s = .next t ∧ t.pilot.st = .idle ∧ t.pilot.queue = []) ∧
    (∃ t, exec (.plainIllegal m) s = .next t ∧ t.pilot.st = .idle ∧ t.pilot.slots = [] ∧
      t.reg Reg.pilotMboxPilot = BitVec.ofNat 32 CycleOutcome.late.code)

/-- A macro-instruction changes no plane bit but the operands that it writes: DST in the acting elements, with the scratch planes for SMUL, DIV, REM and
TLERP, or a mask plane in every element that is ON; the field power, HALF, the Basins, the channels, the watch cycle and the registers other than the
trap requests and error notes stay, and so do S0 to S12 but for CALL (R534 to R538). -/
def Obligations.PlainInstructionsFrame : Prop :=
  ∀ (s t : State) (m : MacroInstr) (i : Instr) (l : List Nat) (wd sc : Nat) (at_ : Nat → Nat), s.pilotRuns = true → s.pilot.maskD ≤ 3 →
    (l = s.acts m ∧ at_ = s.dstAt m ∧ sc = 0 ∧ wd = mW m ∧ i ∈ [Instr.plainMov m, .plainMovx m, .plainLdi m, .plainAdd m, .plainSub m, .plainAddi m,
        .plainNeg m, .plainAbs m, .plainMul m, .plainAnd m, .plainOr m, .plainXor m, .plainAndn m, .plainNot m, .plainSel m, .plainMin m, .plainMax m,
        .plainShl m, .plainShr m, .plainScl m, .plainSatn m, .plainNshn m, .plainNshe m, .plainNshs m, .plainNshw m, .plainPsum m, .plainPsumx m,
        .plainRmax m, .plainRmin m, .plainGmax m, .plainGmin m] ∨
      l = s.acts m ∧ at_ = s.dstAt m ∧ sc = 380 ∧ wd = mW m ∧ i ∈ [Instr.plainSmul m, .plainDiv m, .plainRem m] ∨
      l = s.acts m ∧ at_ = (fun _ => mDst m) ∧ sc = 380 ∧ wd = mW m ∧ i = .plainTlerp m ∨
      l = s.acts m ∧ at_ = (fun _ => mDst m) ∧ sc = 0 ∧ wd = mW m ∧ i = .plainStix m ∨
      l = s.acts m ∧ at_ = s.dstAt m ∧ sc = 0 ∧ wd = 2 * mW m ∧ i = .plainMulw m ∨
      l = s.acts m ∧ at_ = s.dstAt m ∧ sc = 0 ∧ wd = 1 ∧
        i ∈ [Instr.plainCeq m, .plainCne m, .plainClt m, .plainCle m, .plainCgt m, .plainCge m] ∨
      l = s.plain.onElems ∧ at_ = (fun _ => 0x1EFC + s.pilot.maskD) ∧ sc = 0 ∧ wd = 1 ∧ i ∈ [Instr.plainMpush m, .plainMpushf m] ∨
      l = s.plain.onElems ∧ at_ = (fun _ => 0x1EFC + s.pilot.maskD - 1) ∧ sc = 0 ∧ wd = 1 ∧ 1 ≤ s.pilot.maskD ∧ i = .plainMelse m ∨
      l = [] ∧ sc = 0 ∧ wd = 0 ∧ 1 ≤ s.pilot.maskD ∧ i = .plainMpop m ∨
      l = [] ∧ sc = 0 ∧ wd = 0 ∧ i ∈ [Instr.plainNop m, .plainLdix m, .plainTsrch m, .plainFclr m, .plainDzclr m, .plainBr m, .plainBrgor m,
        .plainBrngor m, .plainBrfor m, .plainLoop m, .plainWaitm m, .plainEnd m]) →
    exec i s = .next t →
    (∀ n a, a < 8192 → (n ∉ l ∨ (∀ k, k < wd → s.plain.phys (at_ n + k) ≠ a) ∧ (∀ k, k < sc → s.plain.phys (0x1D80 + k) ≠ a)) →
      t.plain.bitAt n a = s.plain.bitAt n a) ∧
    t.plain.power = s.plain.power ∧ t.plain.half = s.plain.half ∧ t.mem = s.mem ∧ t.chans = s.chans ∧ t.wc = s.wc ∧ t.omx = s.omx ∧
    t.tl = s.tl ∧ t.time = s.time ∧ t.bbr = s.bbr ∧ (∀ k, k < 13 → t.pilot.s.getD k 0 = s.pilot.s.getD k 0) ∧
    (∀ a, a ≠ Reg.pilotTrapPend → a ≠ Reg.pilotUeAddr → a ≠ Reg.scrubEvents → (∀ k, k < 8 → a ≠ Reg.pilotUeVec + 4 * k) → t.reg a = s.reg a)

/-- The integer group of Table HMA-1 and the integer instructions (R627 to R636): each writes the exact result of its operands, low, high or both halves,
and goes on; ADDF and its kin set N, Z, V and C; a divide by a divisor that is not 0 gives the truncated quotient or the remainder with the dividend's
sign. Nothing else changes. Completion is stated of: HM_INTEGER_INSTRUCTION, MUL_LO, MUL_HS, MUL_HU, MULW_S, MULW_U, DIVL_U, ADDF, SUBF, ADDCF, SUBBF,
DIV_S, DIV_U, REM_S, REM_U, CLZ. -/
def Obligations.HmIntegerInstructionsComplete : Prop :=
  ∀ (s u : State) (rd rs1 rs2 : Nat) (a b : Word), s.Fetches u → rd < 24 → rs1 < 24 → rs2 < 24 → a = u.r rs1 → b = u.r rs2 →
    (∀ imm, exec (.hmIntegerInstruction .addi rd rs1 rs2 imm) s = .next (u.ret rd (a + imm))) ∧
    (∀ opc func imm, exec (.hmIntegerInstruction (.other opc func false) rd rs1 rs2 imm) s = .next (u.ret rd (Config.hmAlu opc func a b)) ∧
      exec (.hmIntegerInstruction (.other opc func true) rd rs1 rs2 imm) s = .next (u.ret rd (Config.hmAlu opc func a imm))) ∧
    exec (.mulLo rd rs1 rs2) s = .next (u.ret rd (BitVec.ofNat 32 (a.toNat * b.toNat))) ∧
    exec (.mulHs rd rs1 rs2) s = .next (u.ret rd (BitVec.ofInt 32 (a.toInt * b.toInt / 2 ^ 32))) ∧
    exec (.mulHu rd rs1 rs2) s = .next (u.ret rd (BitVec.ofNat 32 (a.toNat * b.toNat / 2 ^ 32))) ∧
    (rd % 2 = 0 → 2 ≤ rd →
      (∀ lo hi : Word, (lo.toNat : Int) + 2 ^ 32 * hi.toInt = a.toInt * b.toInt →
        exec (.mulwS rd rs1 rs2) s = .next ((u.setR rd lo).setR (rd + 1) hi).pcNext) ∧
      (∀ lo hi : Word, lo.toNat + 2 ^ 32 * hi.toNat = a.toNat * b.toNat →
        exec (.mulwU rd rs1 rs2) s = .next ((u.setR rd lo).setR (rd + 1) hi).pcNext) ∧
      (∀ n hi, hi = (u.r (rd + 1)).toNat → n = (u.r rd).toNat + 2 ^ 32 * hi → b ≠ 0 →
        (hi < b.toNat → ∃ t, exec (.divlU rd rs2) s = .next t ∧ ∀ v, v = (u.setR rd (BitVec.ofNat 32 (n / b.toNat))).setR (rd + 1)
          (BitVec.ofNat 32 (n % b.toNat)) → t = { v with hm := { v.hm with hsr := putBit u.hm.hsr 13 false } }.pcNext) ∧
        (b.toNat ≤ hi → ∃ t, exec (.divlU rd rs2) s = .next t ∧ ∀ v, v = (u.setR rd 0xFFFFFFFF).setR (rd + 1) 0xFFFFFFFF →
          t = { v with hm := { v.hm with hsr := putBit u.hm.hsr 13 true } }.pcNext))) ∧
    (∃ h : Word, exec (.addf rd rs1 rs2) s = .next ({ u with hm := { u.hm with hsr := h } }.ret rd (a + b)) ∧
      u.Flags h (a + b) (a.toInt + b.toInt) false (decide (2 ^ 32 ≤ a.toNat + b.toNat))) ∧
    (∃ h : Word, exec (.subf rd rs1 rs2) s = .next ({ u with hm := { u.hm with hsr := h } }.ret rd (a - b)) ∧
      u.Flags h (a - b) (a.toInt - b.toInt) false (decide (a.toNat < b.toNat))) ∧
    (∀ c : Nat, c = bits u.hm.hsr 12 12 →
      (∃ h : Word, exec (.addcf rd rs1 rs2) s = .next ({ u with hm := { u.hm with hsr := h } }.ret rd (a + b + BitVec.ofNat 32 c)) ∧
        u.Flags h (a + b + BitVec.ofNat 32 c) (a.toInt + b.toInt + c) true (decide (2 ^ 32 ≤ a.toNat + b.toNat + c))) ∧
      (∃ h : Word, exec (.subbf rd rs1 rs2) s = .next ({ u with hm := { u.hm with hsr := h } }.ret rd (a - b - BitVec.ofNat 32 c)) ∧
        u.Flags h (a - b - BitVec.ofNat 32 c) (a.toInt - b.toInt - c) true (decide (a.toNat < b.toNat + c)))) ∧
    (b ≠ 0 →
      exec (.divS rd rs1 rs2) s = .next (u.ret rd (BitVec.ofInt 32 (Int.tdiv a.toInt b.toInt))) ∧
      exec (.divU rd rs1 rs2) s = .next (u.ret rd (BitVec.ofNat 32 (a.toNat / b.toNat))) ∧
      exec (.remS rd rs1 rs2) s = .next (u.ret rd (BitVec.ofInt 32 (Int.tmod a.toInt b.toInt))) ∧
      exec (.remU rd rs1 rs2) s = .next (u.ret rd (BitVec.ofNat 32 (a.toNat % b.toNat)))) ∧
    (∀ k, k ≤ 32 → a.toNat < 2 ^ (32 - k) → (k < 32 → 2 ^ (31 - k) ≤ a.toNat) → exec (.clz rd rs1) s = .next (u.ret rd (BitVec.ofNat 32 k)))

/-- The register file (R597): G1 to G7 are the same in every window, L bank `w` is seen as L0 to L7, H[w + 1] as P0 to P3 and H[w] as P4 to P7, so that P4
to P7 of a window are P0 to P3 of the window below it; a write of one view is read through the other. -/
def Obligations.WindowsOverlap : Prop :=
  ∀ (h : Hm) (w i : Nat), w < 8 →
    (0 < i → i < 8 → h.regIn w i = h.g.getD i 0) ∧ (i < 8 → h.regIn w (16 + i) = h.l.getD (8 * w + i) 0) ∧ (i < 4 → h.regIn w (8 + i) = h.h.getD (4 * ((w + 1) % 8) + i) 0) ∧
    (i < 4 → h.regIn w (12 + i) = h.h.getD (4 * w + i) 0) ∧ (i < 4 → h.regIn w (12 + i) = h.regIn ((w + 7) % 8) (8 + i)) ∧
    (h.h.length = 32 → i < 4 → ∀ v, (h.setRegIn w (12 + i) v).regIn ((w + 7) % 8) (8 + i) = v)

/-- The traps of the Harbourmaster enter by R604 with ET 1: an undefined encoding, a register number of 24 or more, a system call, a zero divisor, a
register pair that is none, a misaligned access and ERET with ET 1 each save HSR and the address, step the window down, clear ET and go to their
vector; with ET 0 the HM enters error mode (R607). An interrupt that R609 takes while ET is 1 enters at its level's vector: ECAUSE names vector and
source, ILVL takes the level, at most 7, and the source is in service and recorded (R604, R610); with ET 0 it only ends a wait (R608). Completion is
stated of: INTERRUPT_TAKEN. -/
def Obligations.HmTrapsAndInterruptsEnter : Prop :=
  (∀ (s u : State) (Traps : Instr → Nat → Prop), s.Fetches u →
     (Traps = fun i vec =>
       (u.hm.et = true → ∃ t, exec i s = .next t ∧ t.hm.estat = u.hm.hsr ∧ t.hm.epc = u.hm.pc ∧ t.hm.ecause = BitVec.ofNat 32 vec ∧
         bits t.hm.hsr 2 0 = (bits u.hm.hsr 2 0 + 7) % 8 ∧ bit t.hm.hsr 3 = false ∧ bits t.hm.hsr 31 4 = bits u.hm.hsr 31 4 ∧
         t.hm.wvm.getLsbD ((bits u.hm.hsr 2 0 + 7) % 8) = true ∧ t.hm.pc = u.hm.tvec + BitVec.ofNat 32 (32 * vec) ∧
         t.hm.g = u.hm.g ∧ t.hm.l = u.hm.l ∧ t.hm.h = u.hm.h) ∧
       (u.hm.et = false → ∃ t, exec i s = .next t ∧ t.rbit Reg.reclaimStatus 2 = true ∧ t.hm.pc = u.hm.pc ∧ t.hm.l = u.hm.l ∧ t.hm.hsr = u.hm.hsr)) →
     (∀ w, Traps (.hmUndefinedEncoding w) 0x03) ∧
     (∀ imm : BitVec 10, Traps (.syscall imm) (0x20 + imm.toNat % 32)) ∧
     (∀ rd rs1 rs2, 24 ≤ rd → Traps (.mulLo rd rs1 rs2) 0x03) ∧
     (∀ rd rs1 rs2, rd < 24 → rs1 < 24 → rs2 < 24 → (rd % 2 = 1 ∨ rd = 0) → Traps (.mulwS rd rs1 rs2) 0x03) ∧
     (∀ rd rs1 rs2, rd < 24 → rs1 < 24 → rs2 < 24 → u.r rs2 = 0 → Traps (.divU rd rs1 rs2) 0x09) ∧
     (∀ op rd rs1 imm, rd < 24 → rs1 < 24 → (u.r rs1 + imm).toNat % HmMemOp.size op ≠ 0 → Traps (.hmLoadStore op rd rs1 imm) 0x07) ∧
     (∀ skip, u.hm.et = true → Traps (.eret skip) 0x03) ∧
     (∀ rd rs1 (imm : BitVec 10), rd < 24 → rs1 < 24 → (imm.getLsbD 9 = true ∨ imm.toNat % 32 < 24) → u.hm.wvm.getLsbD ((bits u.hm.hsr 2 0 + 6) % 8) = true →
       Traps (.enter rd rs1 imm) 0x05) ∧
     (∀ rd rs1 (imm : BitVec 10), rd < 24 → rs1 < 24 → (imm.getLsbD 9 = true ∨ imm.toNat % 32 < 24) → u.hm.wvm.getLsbD ((bits u.hm.hsr 2 0 + 1) % 8) = false →
       Traps (.leave rd rs1 imm) 0x06)) ∧
  (∀ (s : State) (n lv : Nat), s.hmRuns = true → s.dbg.halted = false → s.qualifies = some n → lv = s.irqLevel n →
     (s.hm.et = true → ∃ t, exec .interruptTaken s = .next t ∧ t.hm.pc = s.hm.tvec + BitVec.ofNat 32 (32 * (15 + lv)) ∧ t.hm.epc = s.hm.pc ∧
       t.hm.estat = s.hm.hsr ∧ t.hm.ecause = BitVec.ofNat 32 (15 + lv + 256 * n) ∧ bits t.hm.hsr 10 8 = min lv 7 ∧ bit t.hm.hsr 3 = false ∧
       bits t.hm.hsr 2 0 = (bits s.hm.hsr 2 0 + 7) % 8 ∧ t.hm.taken = n ∧ t.hm.waiting = false ∧ t = { s.serve n with hm := t.hm }) ∧
     (s.hm.et = false → exec .interruptTaken s = .next { s with hm := { s.hm with waiting := false } }))

/-- The system instructions of Table HMC-6 complete: ENTER and LEAVE move the window and write their destination in the new one (R598), the window mask,
the system registers, SYSCALL and ERET, the interrupt waits and FLUSHI and MEMBAR have their effects. Completion is stated of: ENTER, LEAVE, WVMSET,
WVMCLR, RDSYS, WRSYS, SYSCALL, HM_UNDEFINED_ENCODING, ERET, RDFLT, WFI, FLUSHI, MEMBAR. -/
def Obligations.HmSystemInstructionsComplete : Prop :=
  ∀ (s u : State) (c : Nat), s.Fetches u → c = bits u.hm.hsr 2 0 →
    (∀ rd rs1 (imm : BitVec 10) (v : Word), rd < 24 → rs1 < 24 → (imm.getLsbD 9 = true ∨ imm.toNat % 32 < 24) →
      v = u.r rs1 + (if imm.getLsbD 9 then (imm.setWidth 9).signExtend 32 else u.r (imm.toNat % 32)) →
      (u.hm.wvm.getLsbD ((c + 6) % 8) = false → ∃ (t : State) (h : Hm), exec (.enter rd rs1 imm) s = .next t ∧ t = { u with hm := t.hm } ∧
        t.hm = h.setRegIn ((c + 7) % 8) rd v ∧ bits h.hsr 2 0 = (c + 7) % 8 ∧ bits h.hsr 31 3 = bits u.hm.hsr 31 3 ∧
        h.wvm.getLsbD ((c + 7) % 8) = true ∧ h.pc = u.hm.pc + 4 ∧ h = { u.hm with hsr := h.hsr, wvm := h.wvm, pc := h.pc }) ∧
      (u.hm.wvm.getLsbD ((c + 1) % 8) = true → ∃ (t : State) (h : Hm), exec (.leave rd rs1 imm) s = .next t ∧ t = { u with hm := t.hm } ∧
        t.hm = h.setRegIn ((c + 1) % 8) rd v ∧ bits h.hsr 2 0 = (c + 1) % 8 ∧ bits h.hsr 31 3 = bits u.hm.hsr 31 3 ∧
        h.wvm.getLsbD c = false ∧ h.pc = u.hm.pc + 4 ∧ h = { u.hm with hsr := h.hsr, wvm := h.wvm, pc := h.pc })) ∧
    (∀ b w, w = (c + b % 8) % 8 →
      ((u.hm.et = true → u.hm.wvm.getLsbD ((c + 7) % 8) = false → w ≠ (c + 7) % 8) → ∃ t, exec (.wvmset b) s = .next t ∧
        t = { u with hm := { u.hm with wvm := t.hm.wvm, pc := u.hm.pc + 4 } } ∧ t.hm.wvm.getLsbD w = true ∧
        ∀ k, k < 8 → k ≠ w → t.hm.wvm.getLsbD k = u.hm.wvm.getLsbD k) ∧
      ((w = c → u.hm.wvm.getLsbD c = false) → ∃ t, exec (.wvmclr b) s = .next t ∧
        t = { u with hm := { u.hm with wvm := t.hm.wvm, pc := u.hm.pc + 4 } } ∧ t.hm.wvm.getLsbD w = false ∧
        ∀ k, k < 8 → k ≠ w → t.hm.wvm.getLsbD k = u.hm.wvm.getLsbD k)) ∧
    (∀ rd, rd < 24 → ∀ i, i < 16 → exec (.rdsys rd i) s = .next (u.ret rd
      ([u.hm.hsr, u.hm.wvm.setWidth 32, u.hm.tvec, u.hm.estat, u.hm.epc, u.hm.ecause, 0x00003201].getD i 0))) ∧
    (∀ rs v, rs < 24 → v = u.r rs →
      exec (.wrsys 0 rs) s = .next { u with hm := { u.hm with hsr := v &&& 0x0000F71F, pc := u.hm.pc + 4 } } ∧
      exec (.wrsys 2 rs) s = .next { u with hm := { u.hm with tvec := v &&& 0xFFFFF800, pc := u.hm.pc + 4 } } ∧
      exec (.wrsys 3 rs) s = .next { u with hm := { u.hm with estat := v &&& 0x0000F71F, pc := u.hm.pc + 4 } } ∧
      exec (.wrsys 4 rs) s = .next { u with hm := { u.hm with epc := v &&& 0xFFFFFFFC, pc := u.hm.pc + 4 } }) ∧
    (u.hm.et = true → ∀ imm : BitVec 10, ∃ t, exec (.syscall imm) s = .next t ∧ t.hm.pc = u.hm.tvec + BitVec.ofNat 32 (32 * (32 + imm.toNat % 32)) ∧
      t.hm.epc = u.hm.pc ∧ t.hm.estat = u.hm.hsr ∧ t.hm.ecause = BitVec.ofNat 32 (32 + imm.toNat % 32)) ∧
    (u.hm.et = true → ∀ w, ∃ t, exec (.hmUndefinedEncoding w) s = .next t ∧ t.hm.pc = u.hm.tvec + 0x60 ∧ t.hm.epc = u.hm.pc ∧
      t.hm.estat = u.hm.hsr ∧ t.hm.ecause = 3) ∧
    (u.hm.et = false → ∀ skip, ∃ t, exec (.eret skip) s = .next t ∧ t.hm.hsr = u.hm.estat ∧ t.hm.wvm.getLsbD c = false ∧
      t.hm.pc = (if skip then u.hm.epc + 4 else u.hm.epc) ∧ t = { u with hm := { u.hm with hsr := t.hm.hsr, wvm := t.hm.wvm, pc := t.hm.pc } }) ∧
    (∀ rd, rd < 24 → exec (.rdflt rd 0) s = .next (u.ret rd (BitVec.ofNat 32 u.hm.fltCause)) ∧
      exec (.rdflt rd 1) s = .next (u.ret rd u.hm.fltAddr)) ∧
    exec .wfi s = .next { u with hm := { u.hm with waiting := u.qualifies.isNone, pc := u.hm.pc + 4 } } ∧
    exec .flushi s = .next { u with hm := { u.hm with icache := [], icacheBad := [], pc := u.hm.pc + 4 } } ∧
    exec .membar s = .next u.pcNext

/-- Loads, stores, window stores and loads, cache instructions and branches complete (R594, R598, R602, Table HMC-6): a load writes the register from the
bus's data, sign- or zero-extended, a store puts its bytes on the bus, CINV drops a line and CWB writes it back, and a branch goes to its target or
on. Completion is stated of: HM_LOAD_STORE, STWIN, LDWIN, CINV, CWB, CWBINV, HM_BRANCH. -/
def Obligations.HmMemoryInstructionsComplete : Prop :=
  ∀ (s u : State), s.Fetches u →
    (∀ (op : HmMemOp) (rd rs1 : Nat) (imm : Word) (a n : Nat) (t : State), rd < 24 → rs1 < 24 → a = (u.r rs1 + imm).toNat → n = HmMemOp.size op →
      a % n = 0 →
      (op = .load8s ∨ op = .load8u ∨ op = .load16s ∨ op = .load16u ∨ op = .load32 → t = u.dataRead a n → t.bus.status = .ok →
        exec (.hmLoadStore op rd rs1 imm) s = .next ((t.watch a n).ret rd
          (match op with
           | .load8s => (BitVec.ofNat 8 (ofLe t.bus.data)).signExtend 32
           | .load16s => (BitVec.ofNat 16 (ofLe t.bus.data)).signExtend 32
           | _ => BitVec.ofNat 32 (ofLe t.bus.data)))) ∧
      (op = .store8 ∨ op = .store16 ∨ op = .store32 → t = u.dataWrite a (leBytes n (u.r rd).toNat) → t.bus.status = .ok →
        exec (.hmLoadStore op rd rs1 imm) s = .next (t.watch a n).pcNext)) ∧
    (∀ (rs b a w : Nat) (t : State), rs < 24 → b % 8 ≠ 0 → w = (bits u.hm.hsr 2 0 + b) % 8 → a = (u.r rs).toNat → a % 4 = 0 →
      (u.storeWords a ((List.range 8).map (fun i => u.hm.regIn w (16 + i)) ++ (List.range 4).map (fun i => u.hm.regIn w (8 + i))) = (t, none) →
        exec (.stwin b rs) s = .next (t.watch a 48).pcNext) ∧
      (∀ l, u.loadWords a 12 [] = (t, none, l) → ∃ v, exec (.ldwin b rs) s = .next v ∧ v.hm.pc = t.hm.pc + 4 ∧ v.hm.g = t.hm.g ∧
        (t.hm.l.length = 64 → l.length = 12 → ∀ i, i < 8 → v.hm.regIn w (16 + i) = l.getD i 0) ∧
        (t.hm.h.length = 32 → l.length = 12 → ∀ i, i < 4 → v.hm.regIn w (8 + i) = l.getD (8 + i) 0))) ∧
    (∀ (rs : Nat) (imm : BitVec 10) (line : Nat), rs < 24 → line = (u.r rs + imm.setWidth 32).toNat / 32 * 32 →
      exec (.cinv rs imm) s = .next (u.dropLine line).pcNext ∧
      (∀ t, t = u.writeBack line → t.bus.status = .ok → exec (.cwb rs imm) s = .next t.pcNext ∧
        exec (.cwbinv rs imm) s = .next (t.dropLine line).pcNext)) ∧
    (∀ (rd rs1 rs2 : Nat) (imm target : Word), rd < 24 → rs1 < 24 → target = u.hm.pc + 4 * (imm + Config.branchBase) →
      (target.toNat % 4 = 0 →
        exec (.hmBranch .jump rd rs1 rs2 imm) s = .next { u with hm := { u.hm with pc := target } } ∧
        (∃ t, exec (.hmBranch .call rd rs1 rs2 imm) s = .next t ∧ t.hm.pc = target ∧
          t = { u.setR rd (u.hm.pc + 4) with hm := { (u.setR rd (u.hm.pc + 4)).hm with pc := target } }) ∧
        (∀ c, exec (.hmBranch (.cond c) rd rs1 rs2 imm) s = .next
          (if Config.hmCond c u.hm.hsr then { u with hm := { u.hm with pc := target } } else u.pcNext))) ∧
      ((u.r rs1 + imm).toNat % 4 = 0 → ∃ t, exec (.hmBranch .jumpReg rd rs1 rs2 imm) s = .next t ∧ t.hm.pc = u.r rs1 + imm ∧
        t = { u.setR rd (u.hm.pc + 4) with hm := { (u.setR rd (u.hm.pc + 4)).hm with pc := u.r rs1 + imm } }))

/-- The instructions of Table HMA-2 that compute or move into an FP register complete (R637 to R646): once issued, each writes its destination with the
result of the rounding mode in force, a binary32 result clearing bits [63:32], enters the instructions in flight with its exceptions, and changes
nothing else. Completion is stated of: FADD, FSUB, FMUL, FDIV, FSQRT, FMAC, FMSC, FNMAC, FMINN, FMAXN, ITOF, UTOF, FTOF, FCPYS, FNEG, FABS, FPUT. -/
def Obligations.FpArithmeticCompletes : Prop :=
  ∀ (s t : State) (fmt : FpFmt) (fd fs1 fs2 rm mode : Nat) (tu : Bool),
    mode = (if rm % 8 = 0 then bits t.hm.fsr 2 0 else rm % 8 - 1) → tu = bit t.hm.fsr 9 →
    (rm % 8 < 6 →
      (s.Issues t [fs1 % 32, fs2 % 32, fd % 32] false →
        exec (.fadd fmt fd fs1 fs2 rm) s = .next (t.fpWrites fmt fd (fpWord fmt 0x00 fd fs1 fs2 rm) false (FpFmt.add fmt mode tu false (t.f fs1) (t.f fs2)))) ∧
      (s.Issues t [fs1 % 32, fs2 % 32, fd % 32] false →
        exec (.fsub fmt fd fs1 fs2 rm) s = .next (t.fpWrites fmt fd (fpWord fmt 0x01 fd fs1 fs2 rm) false (FpFmt.add fmt mode tu true (t.f fs1) (t.f fs2)))) ∧
      (s.Issues t [fs1 % 32, fs2 % 32, fd % 32] false →
        exec (.fmul fmt fd fs1 fs2 rm) s = .next (t.fpWrites fmt fd (fpWord fmt 0x02 fd fs1 fs2 rm) false (FpFmt.mul fmt mode tu (t.f fs1) (t.f fs2)))) ∧
      (s.Issues t [fs1 % 32, fs2 % 32, fd % 32] true →
        exec (.fdiv fmt fd fs1 fs2 rm) s = .next (t.fpWrites fmt fd (fpWord fmt 0x03 fd fs1 fs2 rm) true (FpFmt.div fmt mode tu (t.f fs1) (t.f fs2)))) ∧
      (s.Issues t [fs1 % 32, fd % 32] true →
        exec (.fsqrt fmt fd fs1 rm) s = .next (t.fpWrites fmt fd (fpWord fmt 0x04 fd fs1 0 rm) true (FpFmt.sqrt fmt mode tu (t.f fs1)))) ∧
      (s.Issues t [fs1 % 32, fs2 % 32, fd % 32] false →
        exec (.fmac fmt fd fs1 fs2 rm) s = .next (t.fpWrites fmt fd (fpWord fmt 0x05 fd fs1 fs2 rm) false (FpFmt.fma fmt mode tu false false (t.f fs1) (t.f fs2) (t.f fd)))) ∧
      (s.Issues t [fs1 % 32, fs2 % 32, fd % 32] false →
        exec (.fmsc fmt fd fs1 fs2 rm) s = .next (t.fpWrites fmt fd (fpWord fmt 0x06 fd fs1 fs2 rm) false (FpFmt.fma fmt mode tu true false (t.f fs1) (t.f fs2) (t.f fd)))) ∧
      (s.Issues t [fs1 % 32, fs2 % 32, fd % 32] false →
        exec (.fnmac fmt fd fs1 fs2 rm) s = .next (t.fpWrites fmt fd (fpWord fmt 0x07 fd fs1 fs2 rm) false (FpFmt.fma fmt mode tu false true (t.f fs1) (t.f fs2) (t.f fd)))) ∧
      (s.Issues t [fs1 % 32, fs2 % 32, fd % 32] false →
        exec (.fminn fmt fd fs1 fs2 rm) s = .next (t.fpWrites fmt fd (fpWord fmt 0x08 fd fs1 fs2 rm) false (FpFmt.minmax fmt false (t.f fs1) (t.f fs2)))) ∧
      (s.Issues t [fs1 % 32, fs2 % 32, fd % 32] false →
        exec (.fmaxn fmt fd fs1 fs2 rm) s = .next (t.fpWrites fmt fd (fpWord fmt 0x09 fd fs1 fs2 rm) false (FpFmt.minmax fmt true (t.f fs1) (t.f fs2)))) ∧
      (fs1 < 24 → (s.Issues t [fd % 32] false →
        exec (.itof fmt fd fs1 rm) s = .next (t.fpWrites fmt fd (fpWord fmt 0x0F fd fs1 0 rm) false (FpFmt.ofInt fmt mode tu (t.r fs1).toInt)))) ∧
      (fs1 < 24 → (s.Issues t [fd % 32] false →
        exec (.utof fmt fd fs1 rm) s = .next (t.fpWrites fmt fd (fpWord fmt 0x10 fd fs1 0 rm) false (FpFmt.ofInt fmt mode tu (t.r fs1).toNat)))) ∧
      (s.Issues t [fs1 % 32, fd % 32] false →
        exec (.ftof fmt fd fs1 rm) s = .next (t.fpWrites fmt fd (fpWord fmt 0x11 fd fs1 0 rm) false (FpFmt.convert fmt mode tu (t.f fs1))))) ∧
    (∀ sign, sign = (match fmt with
        | .s => 2 ^ 31
        | .d => 2 ^ 63) →
      (s.Issues t [fs1 % 32, fs2 % 32, fd % 32] false →
        exec (.fcpys fmt fd fs1 fs2 rm) s = .next (t.fpWrites fmt fd (fpWord fmt 0x12 fd fs1 fs2 rm) false (t.f fs1 % sign + t.f fs2 / sign % 2 * sign, 0))) ∧
      (s.Issues t [fs1 % 32, fs1 % 32, fd % 32] false →
        exec (.fneg fmt fd fs1 rm) s = .next (t.fpWrites fmt fd (fpWord fmt 0x13 fd fs1 fs1 rm) false (t.f fs1 % sign + (1 - t.f fs1 / sign % 2) * sign, 0))) ∧
      (s.Issues t [fs1 % 32, fs1 % 32, fd % 32] false →
        exec (.fabs fmt fd fs1 rm) s = .next (t.fpWrites fmt fd (fpWord fmt 0x14 fd fs1 fs1 rm) false (t.f fs1 % sign, 0)))) ∧
    (fs1 < 24 → (fmt = .d → fs2 < 24) → (s.Issues t [fd % 32] false →
        exec (.fput fmt fd fs1 fs2 rm) s = .next (t.fpWrites fmt fd (fpWord fmt 0x15 fd fs1 fs2 rm) false ((t.r fs1).toNat + (match fmt with
        | .s => 0
        | .d => 2 ^ 32 * (t.r fs2).toNat), 0))))

/-- The instructions of Table HMA-2 that write an integer register, the FP loads and stores, FBAR, the FP state instructions and a completion in flight
complete (R638, R647 to R650): the compares, conversions and FGET write rd, a load its FP register and a store its bytes, and a completion writes
CEXC, adds to AEXC and, where it traps or QNE is set, enters FQ. Completion is stated of: FCMPEQ, FCMPLT, FCMPLE, FTOI, FTOU, FGET, FLOAD_S, FLOAD_D,
FSTORE_S, FSTORE_D, FBAR, RDFSR, WRFSR, RDFQ, FP_INSTRUCTION_COMPLETE. -/
def Obligations.FpMovesAndStateComplete : Prop :=
  ∀ (s t : State) (fmt : FpFmt) (rd fs1 fs2 rm mode : Nat), rd < 24 →
    mode = (if rm % 8 = 0 then bits t.hm.fsr 2 0 else rm % 8 - 1) →
    (rm % 8 < 6 → ∀ x y, x = t.f fs1 → y = t.f fs2 →
      (s.Issues t [fs1 % 32, fs2 % 32] false →
        exec (.fcmpeq fmt rd fs1 fs2 rm) s = .next (t.fpGives rd (fpWord fmt 0x0A rd fs1 fs2 rm) (FpFmt.compare fmt 0 x y))) ∧
      (s.Issues t [fs1 % 32, fs2 % 32] false →
        exec (.fcmplt fmt rd fs1 fs2 rm) s = .next (t.fpGives rd (fpWord fmt 0x0B rd fs1 fs2 rm) (FpFmt.compare fmt 1 x y))) ∧
      (s.Issues t [fs1 % 32, fs2 % 32] false →
        exec (.fcmple fmt rd fs1 fs2 rm) s = .next (t.fpGives rd (fpWord fmt 0x0C rd fs1 fs2 rm) (FpFmt.compare fmt 2 x y))) ∧
      (s.Issues t [fs1 % 32, fs1 % 32] false →
        exec (.ftoi fmt rd fs1 rm) s = .next (t.fpGives rd (fpWord fmt 0x0D rd fs1 fs1 rm) (FpFmt.toInt fmt mode (-(2 ^ 31)) (2 ^ 31 - 1) x))) ∧
      (s.Issues t [fs1 % 32, fs1 % 32] false →
        exec (.ftou fmt rd fs1 rm) s = .next (t.fpGives rd (fpWord fmt 0x0E rd fs1 fs1 rm) (FpFmt.toInt fmt mode 0 (2 ^ 32 - 1) x)))) ∧
    (s.Issues t [fs1 % 32] false →
        exec (.fget fmt rd fs1 rm) s = .next (t.fpGives rd (fpWord fmt 0x16 rd fs1 0 rm) (if fmt = .d ∧ rm % 8 = 1 then t.f fs1 / 2 ^ 32 else t.f fs1 % 2 ^ 32, 0))) ∧
    (∀ (f rs a : Nat) (imm : Word) (u : State), rs < 24 → a = (t.r rs + imm).toNat →
      (s.Issues t [f % 32] false →
        (a % 4 = 0 → u = t.dataRead a 4 → u.bus.status = .ok → exec (.floadS f rs imm) s = .next
          (((u.watch a 4).setF f .s (ofLe u.bus.data)).inFlight t (fpMemWord 0x16 f rs imm) (some (f % 32)) false 0)) ∧
        (a % 8 = 0 → u = t.dataRead a 8 → u.bus.status = .ok → exec (.floadD f rs imm) s = .next
          (((u.watch a 8).setF f .d (ofLe u.bus.data)).inFlight t (fpMemWord 0x16 f rs imm) (some (f % 32)) false 0)) ∧
        (a % 4 = 0 → u = t.dataWrite a (leBytes 4 (t.f f)) → u.bus.status = .ok → exec (.fstoreS f rs imm) s = .next
          ((u.watch a 4).inFlight t (fpMemWord 0x17 f rs imm) none false 0)) ∧
        (a % 8 = 0 → u = t.dataWrite a (leBytes 8 (t.f f)) → u.bus.status = .ok → exec (.fstoreD f rs imm) s = .next
          ((u.watch a 8).inFlight t (fpMemWord 0x17 f rs imm) none false 0)))) ∧
    (∀ u, s.Fetches u → u.hm.completeAll.fq = [] → exec .fbar s = .next { u with hm := u.hm.completeAll }.pcNext) ∧
    (∀ u, s.Fetches u → bit u.hm.hsr 4 = true →
      (u.hm.fq.length ≤ 4 → ∃ v, exec (.rdfsr rd) s = .next (u.ret rd v) ∧ bits v 17 0 = bits u.hm.fsr 17 0 ∧ bits v 20 18 = u.hm.fq.length ∧
        bit v 21 = !u.hm.fq.isEmpty) ∧
      (∀ (rs : Nat) (imm : BitVec 10) (v : Word), rs < 24 → v = u.r rs ^^^ imm.signExtend 32 → ∃ x, exec (.wrfsr rs imm) s = .next x ∧
        x.hm.flight = [] ∧ x.hm.pc = u.hm.pc + 4 ∧ bits x.hm.fsr 17 3 = bits v 17 3 ∧ bits x.hm.fsr 31 18 = 0 ∧
        bits x.hm.fsr 2 0 = (if bits v 2 0 < 5 then bits v 2 0 else 0)) ∧
      (∀ code, code < 4 → (u.hm.fq = [] → exec (.rdfq rd code) s = .next (u.ret rd 0)) ∧
        (∀ e r, u.hm.fq = e :: r →
          (code < 3 → exec (.rdfq rd code) s = .next (u.ret rd ([e.pc, e.instr, BitVec.ofNat 32 e.exc].getD code 0))) ∧
          (code = 3 → exec (.rdfq rd code) s = .next ({ u with hm := { u.hm with fq := r } }.ret rd (BitVec.ofNat 32 r.length)))))) ∧
    (s.boot.held = false → ∀ op r, s.hm.flight = op :: r → op.exc < 32 → ∃ v, exec .fpInstructionComplete s = .next v ∧ v.hm.flight = r ∧
      bits v.hm.fsr 17 13 = op.exc ∧ bits v.hm.fsr 7 3 = bits s.hm.fsr 7 3 ||| op.exc ∧ bits v.hm.fsr 12 8 = bits s.hm.fsr 12 8 ∧
      bits v.hm.fsr 2 0 = bits s.hm.fsr 2 0 ∧ v.hm.fq = (if bits s.hm.fsr 12 8 &&& op.exc ≠ 0 ∨ s.hm.fq ≠ [] then
        s.hm.fq ++ [{ pc := op.pc, instr := op.instr, exc := op.exc }] else s.hm.fq))

/-- What the FP operations deliver on NaNs, zeros and values beyond the range (R642, R644, R645): the first NaN made quiet, with NV where an operand
signals; −0 below +0 for the minimum and maximum, which return the number where one operand is a NaN; a conversion to an integer saturates with NV,
and a 32-bit integer converted to binary64 and back is itself, with no exception. -/
def Obligations.FpSpecialValues : Prop :=
  ∀ (fmt : FpFmt) (mode x y : Nat) (tu : Bool) (top quiet : Nat) (IsNan Signals : Nat → Bool),
    (top, quiet) = (match fmt with
      | .s => (2 ^ 31, 2 ^ 22)
      | .d => (2 ^ 63, 2 ^ 51)) → x < 2 * top → y < 2 * top →
    IsNan = (fun w => decide ((match fmt with
      | .s => 0xFF * 2 ^ 23
      | .d => 0x7FF * 2 ^ 52) < w % top)) → Signals = (fun w => IsNan w && decide (w / quiet % 2 = 0)) →
    (∀ op, op ∈ [FpFmt.add fmt mode tu false, FpFmt.add fmt mode tu true, FpFmt.mul fmt mode tu, FpFmt.div fmt mode tu] →
      (IsNan x = true → op x y = (x ||| quiet, if Signals x || Signals y then 16 else 0)) ∧
      (IsNan x = false → IsNan y = true → op x y = (y ||| quiet, if Signals y then 16 else 0))) ∧
    (∀ mx, (IsNan x = true → IsNan y = false → FpFmt.minmax fmt mx x y = (y, if Signals x then 16 else 0)) ∧
      (IsNan x = false → IsNan y = true → FpFmt.minmax fmt mx x y = (x, if Signals y then 16 else 0))) ∧
    (∀ mx, IsNan x = true → IsNan y = true → FpFmt.minmax fmt mx x y = ((match fmt with
      | .s => 0x7FC00000
      | .d => 0x7FF8000000000000), if Signals x || Signals y then 16 else 0)) ∧
    FpFmt.minmax fmt false 0 top = (top, 0) ∧ FpFmt.minmax fmt false top 0 = (top, 0) ∧ FpFmt.minmax fmt true top 0 = (0, 0) ∧
    FpFmt.minmax fmt true 0 top = (0, 0) ∧
    (IsNan x = true → FpFmt.toInt fmt mode (-(2 ^ 31)) (2 ^ 31 - 1) x = (0, 16) ∧ FpFmt.toInt fmt mode 0 (2 ^ 32 - 1) x = (0, 16) ∧
      FpFmt.compare fmt 1 x y = (0, 16) ∧ FpFmt.compare fmt 0 x y = (0, if Signals x || Signals y then 16 else 0)) ∧
    (∀ (i : Int) (m : Nat), -(2 ^ 31) ≤ i → i < 2 ^ 31 →
      FpFmt.toInt .d m (-(2 ^ 31)) (2 ^ 31 - 1) (FpFmt.ofInt .d mode tu i).1 = ((BitVec.ofInt 32 i).toNat, 0) ∧
      (FpFmt.ofInt .d mode tu i).2 = 0)

/-- The Slipway's applies complete (R301, R812, R814): an armed apply begins outside the foreground window and leaves the fabric APPLYING with no design;
a good apply runs the design of its image and reports it, a bad one leaves the fabric BLANK; an accepted SLIPCTL_APPLY begins at once, and the
captures take the next identifier. The queue controllers, the virtual stations and the register window complete (R797 to R808, R824): a stream
transfer moves whole words to or from its ring and advances its pointer, a raw access reads or writes its word and no other byte, a post writes the
station's image, PRESENT sets or clears its flag, bank and lane events set theirs, and the window answers or times out. Completion is stated of:
SLIP_APPLY_START, SLIP_APPLY_DONE, SLIPCTL_APPLY_GO, SLIPCTL_CAPTURE_GO, SHADOW_CAPTURE, SHADOW_DATA_READ, QC_TRANSFER, QC_RAW_ACCESS,
VS_PRESENT_RISE, VS_POST, VS_PRESENT_FALL, BANK_LOW, BANK_RESTORED, LANE_LOST, LANE_LOCK_REGAINED, SLIP_WINDOW_ACCESS, WIN_TIMEOUT. -/
def Obligations.SlipwayCompletes : Prop :=
  (∀ (s : State), s.PortFree →
     (∀ w, s.warning = false → s.slip.applying = none → s.ebbNow = true → s.slip.waiting = some w → s.slip.applyArmed = true →
       ∃ t, exec .slipApplyStart s = .next t ∧ t.slip.applying = some w ∧ t.slip.waiting = none ∧ t.slip.design = none ∧ t.slip.qcs = [] ∧
         t.slip.vs = [] ∧ t.fld Reg.slipctlStatus 1 0 = 3 ∧ t.mem = s.mem) ∧
     (∀ w good, s.slip.applying = some w → w.notify = none →
       (good = (w.image.length == u32 w.image 16 && (badBlock w.image 0 (blocksIn w.image.length)).isNone)) →
       (good = true → ∃ t, exec (.slipApplyDone true) s = .next t ∧ t.slip.applying = none ∧ t.slip.design = some (designOf w.image) ∧
         t.mem = s.mem ∧ t.omx = s.omx) ∧
       (good = false → ∃ t, exec (.slipApplyDone true) s = .next t ∧ t.slip.applying = none ∧ t.slip.design = none ∧ t.mem = s.mem) ∧
       (∃ t, exec (.slipApplyDone false) s = .next t ∧ t.slip.applying = none ∧ t.slip.design = none ∧ t.mem = s.mem)) ∧
     (∀ who, s.Opens who Reg.slipctlApply → s.slip.applying = none → s.slip.waiting = none → ∃ t, exec (.slipctlApplyGo who) s = .next t ∧
       t.slip.applying = some { image := s.stagedImage, persist := false, notify := none } ∧ t.slip.design = none ∧ t.fld Reg.slipctlStatus 1 0 = 3) ∧
     (∀ who c, s.Reaches who Reg.slipctlCapture → ∃ t, exec (.slipctlCaptureGo who c) s = .next t ∧ t.slip.captureArmed = some c.toNat ∧
       t.fld Reg.slipctlCapture 1 0 = c.toNat ∧ t.mem = s.mem ∧ t.slip.shadow = s.slip.shadow) ∧
     (∀ c : BitVec 2, s.slip.captureArmed = some c.toNat → s.fld Reg.slipctlStatus 1 0 = 1 → s.lostClocks.testBit (8 + c.toNat) = false →
       ∃ t, exec (.shadowCapture c) s = .next t ∧ t.slip.captureArmed = none ∧ t.slip.shadow.isSome = true ∧
         t.fld Reg.slipctlCapture 15 8 = (s.fld Reg.slipctlCapture 15 8 + 1) % 256 ∧ t.mem = s.mem) ∧
     (∀ who key a, s.Reaches who Reg.slipctlShadowData → s.slip.shadow = some key → a = s.fld Reg.slipctlShadowAddr 15 0 → 4 * a < shadowBytes →
       ∃ t, exec (.shadowDataRead who) s = .next t ∧ t.fld Reg.slipctlShadowAddr 15 0 = (a + 1) % 65536 ∧ t.bus.status = .ok ∧
         t.bus.data = leBytes 4 (Config.designShadow key.1 a).toNat)) ∧
  (∀ (s : State) (n a : Nat), n < 24 → a = Reg.slipctlQcCfg + 16 * n → s.PortFree →
     (∀ words : List DWord, s.portHolder = none → s.qcCut n = false → s.qcLive n = true → s.fld a 1 0 = 1 → s.qcSize n ≠ 0 → words.length ≤ 16 →
       (s.rbit a 2 = false → ∃ t, exec (.qcTransfer n words [] []) s = .next t ∧ (t.qc n).pos = ((s.qc n).pos + 8 * words.length) % s.qcSize n ∧
         t.regs = s.regs ∧ ∀ b, (∀ i, i < words.length → ∀ c, c = qcAddr (s.qcBase n + ((s.qc n).pos + 8 * i) % s.qcSize n) → ¬ (c ≤ b ∧ b < c + 8)) →
           Memory.read t.mem b = Memory.read s.mem b) ∧
       (s.rbit a 2 = true → ∃ t, exec (.qcTransfer n words [] []) s = .next t ∧ t.mem = s.mem ∧
         (t.qc n).pos = ((s.qc n).pos + 8 * words.length) % s.qcSize n ∧
         (t.qc n).words = (List.range words.length).map fun i =>
           BitVec.ofNat 64 (ofLe (Memory.readBytes s.mem (qcAddr (s.qcBase n + ((s.qc n).pos + 8 * i) % s.qcSize n)) 8)))) ∧
     (∀ (off : Nat) (d : DWord) (lock : Bool) (c : Nat), (s.portHolder = none ∨ s.portHolder = some n) → s.qcLive n = true → s.fld a 1 0 = 3 → off / 8 * 8 + 8 ≤ s.qcSize n →
       (lock = true → (s.qc n).locked < 16) → c = qcAddr (s.qcBase n + off / 8 * 8) →
       (∃ t, exec (.qcRawAccess n true off d lock [] []) s = .next t ∧ (t.qc n).error = false ∧ Memory.readBytes t.mem c 8 = leBytes 8 d.toNat ∧
         (t.qc n).locked = (if lock then (s.qc n).locked + 1 else 0) ∧
         ∀ b, b < c ∨ c + 8 ≤ b → Memory.read t.mem b = Memory.read s.mem b) ∧
       (∃ t, exec (.qcRawAccess n false off d lock [] []) s = .next t ∧ (t.qc n).error = false ∧ t.mem = s.mem ∧
         (t.qc n).word = BitVec.ofNat 64 (ofLe (Memory.readBytes s.mem c 8))) ∧
       (∀ p : PortUse, p.write = true → p.addr = c → p.data.length = 8 → ∃ t, exec (.qcRawAccess n false off d lock [] [p]) s = .next t ∧
         (t.qc n).busy = true ∧ Memory.readBytes t.mem c 8 = p.data)) ∧
     (∀ words d m, s.portHolder = some m → m ≠ n → ∃ t q, exec (.qcTransfer n words [] []) s = .next t ∧ q = { qc := n, work := .transfer words } ∧
       t.slip.portWait = [q] ∧ t.mem = s.mem ∧ ∃ u r, exec (.qcRawAccess n true 0 d false [] []) s = .next u ∧
       r = { qc := n, work := .raw true 0 d false } ∧ u.slip.portWait = [r] ∧ u.mem = s.mem) ∧
     (∀ v, v < 4 → s.presents v = true →
       (∃ t, exec (.vsPresentRise v) s = .next t ∧ (t.vst v).present = true ∧ t.rbit Reg.slipctlStatus (4 + v) = true ∧
         (t.station (124 + v)).willMoor = true ∧ t.mem = s.mem) ∧
       ((s.vst v).present = true → ∀ entries la, ∃ t, exec (.vsPost v entries la) s = .next t ∧ (t.vst v).lastApplied = la % 2 ^ 32 ∧
         (t.vst v).posts = (s.vst v).posts + 1 ∧ t.chans = s.chans ∧ t.regs = s.regs)) ∧
     (∀ v, v < 4 → exec (.vsPresentFall v) s = .next
       (((s.setVst v { s.vst v with present := false }).setRbit Reg.slipctlStatus (4 + v) false).linkLost (124 + v))) ∧
     (∀ b, b < 2 → (∃ t, exec (.bankLow b) s = .next t ∧ t.rbit Reg.slipctlStatus (2 + b) = false ∧ t.rbit Reg.slipctlEvents 3 = true ∧
         t = { s with regs := t.regs }) ∧
       (∃ t, exec (.bankRestored b) s = .next t ∧ t.rbit Reg.slipctlStatus (2 + b) = true ∧ t = { s with regs := t.regs })) ∧
     (∀ l d, l < 12 → (∃ t, exec (.laneLost l d) s = .next t ∧ t.rbit (Reg.slipctlLane + 4 * l) 0 = false ∧ t.rbit Reg.slipctlEvents 4 = true ∧
         t = { s with regs := t.regs }) ∧
       (∃ t, exec (.laneLockRegained l) s = .next t ∧ t.rbit (Reg.slipctlLane + 4 * l) 0 = true ∧ t = { s with regs := t.regs })) ∧
     (∀ who off d ans, s.silent who = false → who.master < 3 → s.masterFenced who.master 5 = false → s.windowOpen = true → off < 0x1000000 →
       exec (.slipWindowAccess who false off d ans) s = .next (s.busAnswer who .ok (leBytes 4 ans.toNat)) ∧
       exec (.slipWindowAccess who true off d ans) s = .next (s.busAnswer who .ok [])) ∧
     (∀ who, s.windowOpen = true → ∃ t, exec (.winTimeout who) s = .next t ∧ t.bus.status = .error ∧ t.rbit Reg.slipctlEvents 5 = true ∧
       t.mem = s.mem))

/-- The serial stations' commands complete (R772, R781 to R784, R792): a poll takes the next write of the mark, else the next read poll, and goes out with
its CRC; a response that agrees, and a timeout, end the poll, the timeout counted; a sentence that is no sentence is counted; and an aged point
becomes STALE without a new refresh time. Completion is stated of: MODBUS_POLL_START, MODBUS_RESPONSE, MODBUS_TIMEOUT, NMEA_SENTENCE,
POINT_AGE_EXPIRY. -/
def Obligations.SerialStationsComplete : Prop :=
  ∀ (s : State) (n : Nat) (c : Bytes), n < 8 → c = (s.station (112 + n)).config →
    (s.uartServes n 1 = true → (s.uart n).inFlight = none →
      (∀ x r, (s.uart n).writes = x :: r → ∃ t, exec (.modbusPollStart n) s = .next t ∧ (t.uart n).inFlight = some x ∧ (t.uart n).writes = r ∧
        (t.uart n).out = (s.uart n).out ++ [modbusRequest (112 + n) (s.station (112 + n)) x] ∧ t = { s with uarts := t.uarts }) ∧
      ((s.uart n).writes = [] → ∀ p, (readPolls c)[(s.uart n).nextRead % (readPolls c).length]? = some p →
        ∃ t, exec (.modbusPollStart n) s = .next t ∧ (t.uart n).inFlight = some (p, 0, pollCount c p) ∧
          (t.uart n).nextRead = ((s.uart n).nextRead + 1) % (readPolls c).length ∧
          (t.uart n).out = (s.uart n).out ++ [modbusRequest (112 + n) (s.station (112 + n)) (p, 0, pollCount c p)] ∧ t = { s with uarts := t.uarts })) ∧
    (s.uartServes n 1 = true → ∀ x, (s.uart n).inFlight = some x →
      (∀ f, modbusOk c x f = true → ∃ t, exec (.modbusResponse n f true) s = .next t ∧ (t.uart n).inFlight = none ∧ t.pulses.testBit (34 + n) = true ∧
        t.regs = s.regs ∧ t.omx = s.omx) ∧
      (∃ t, exec (.modbusTimeout n) s = .next t ∧ (t.uart n).inFlight = none ∧ t.pulses.testBit (34 + n) = true ∧ t.omx = s.omx ∧
        t.fld (Reg.uartErrors + 256 * n) 15 0 = min 0xFFFF (s.fld (Reg.uartErrors + 256 * n) 15 0 + 1)) ∧
      (∀ f, modbusOk c x f = false → exec (.modbusResponse n f true) s = exec (.modbusTimeout n) s) ∧
      (∀ f, ∃ t, exec (.modbusResponse n f false) s = .next t ∧ (t.uart n).inFlight = none ∧
        t.fld (Reg.uartErrors + 256 * n) 31 16 = min 0xFFFF (s.fld (Reg.uartErrors + 256 * n) 31 16 + 1))) ∧
    (s.uartServes n 2 = true → ∀ b, (b.length < 3 ∨ 82 < b.length ∨ b.headD 0 ≠ 36) → ∃ t, exec (.nmeaSentence n b) s = .next t ∧
      t.fld (Reg.uartErrors + 256 * n) 15 0 = min 0xFFFF (s.fld (Reg.uartErrors + 256 * n) 15 0 + 1) ∧ (t.station (112 + n)).failed = true ∧
      t.mem = s.mem ∧ t.chans = s.chans) ∧
    (s.uartServes n 2 = true → ∀ b body fields, nmeaBody b = some body → nmeaFields body = some fields →
      (stationPoints (112 + n) c).any (fun x => fields.headD [] == slice c (x.2.2 + 4) 5) = true → ∃ t, exec (.nmeaSentence n b) s = .next t ∧
        t.pulses.testBit (34 + n) = true ∧ t.regs = s.regs ∧ (t.station (112 + n)).nDone = (s.station (112 + n)).nDone + 1) ∧
    (∀ id p, 112 ≤ id → id < 124 → p ∈ inPoints id (s.station id).config → ∃ t, exec (.pointAgeExpiry id p) s = .next t ∧
      (t.station id).pointUs = (s.station id).pointUs ∧ t.regs = s.regs ∧ t.chans = s.chans)

/-- The CAN stations' commands and the end of a flash operation complete (R773 to R778, R791, R794, R90): an acknowledged frame leaves the queue, a frame
with mapped points is counted, a timeout marks the exchange, bus-off drops the queue and recovery re-moors the station, and a finished erase or
program has its effect on the flash. Completion is stated of: CAN_TX_DONE, CAN_FRAME_RECEIVED, CAN_RX_TIMEOUT, CAN_BUS_OFF, CAN_BUS_OFF_RECOVERY,
QSPI_COMMAND_DONE. -/
def Obligations.CanAndFlashComplete : Prop :=
  ∀ (s : State) (n : Nat), n < 4 →
    (s.canServes n = true →
      (s.rbit (Reg.canCtrl + 256 * n) 1 = false → ∀ f r, (s.canPort n).txQueue = f :: r → ∃ t, exec (.canTxDone n) s = .next t ∧
        (t.canPort n).txQueue = r ∧ (t.canPort n).sent = (s.canPort n).sent ++ [(canTxId (s.station (120 + n)).config f,
          canFrameBytes (120 + n) (s.station (120 + n)) f)] ∧ t.pulses.testBit (30 + n) = true ∧ t.mem = s.mem ∧ t.regs = s.regs) ∧
      (∀ i x d, (stationPoints (120 + n) (s.station (120 + n)).config).any (fun p => !p.2.1 && u32 (s.station (120 + n)).config p.2.2 % 2 ^ 29 == i &&
          (u32 (s.station (120 + n)).config p.2.2).testBit 29 == x) = true → ∃ t, exec (.canFrameReceived n i x d) s = .next t ∧
        Store.find? (t.canPort n).heard i = some s.nowUs ∧ (t.station (120 + n)).nDone = (s.station (120 + n)).nDone + 1 ∧
        t.pulses.testBit (30 + n) = true ∧ t.regs = s.regs) ∧
      (∃ t, exec (.canRxTimeout n) s = .next t ∧ (t.station (120 + n)).failed = true ∧ t.pulses.testBit (30 + n) = true ∧ t.mem = s.mem ∧
        t.regs = s.regs) ∧
      (∃ t, exec (.canBusOff n) s = .next t ∧ t.rbit (Reg.canCtrl + 256 * n) 2 = true ∧ (t.canPort n).txQueue = [] ∧
        t.pulses.testBit (30 + n) = true ∧ t.mem = s.mem)) ∧
    (s.rbit (Reg.canCtrl + 256 * n) 2 = true → ∃ t, exec (.canBusOffRecovery n) s = .next t ∧ t.rbit (Reg.canCtrl + 256 * n) 2 = false ∧
      (t.station (120 + n)).willMoor = true ∧ t.mem = s.mem ∧ t.omx = s.omx) ∧
    (s.rbit Reg.qspiCtrl 7 = true → s.flash.task = none →
      (∀ a, s.flash.ops = [.erase a] → ∃ t, exec .qspiCommandDone s = .next t ∧
        (s.omx.background = [] → t.rbit Reg.qspiCtrl 7 = false ∧ t.flash.ops = []) ∧
        (∀ b, b / 65536 = a / 65536 → Store.get t.flash.cs0 b 0xFF = 0xFF) ∧
        ∀ b, b / 65536 ≠ a / 65536 → Store.get t.flash.cs0 b 0xFF = Store.get s.flash.cs0 b 0xFF) ∧
      (∀ a d, s.flash.ops = [.program a d] → ∃ t, exec .qspiCommandDone s = .next t ∧
        (s.omx.background = [] → t.rbit Reg.qspiCtrl 7 = false ∧ t.flash.ops = []) ∧
        (∀ i, i < d.length → Store.get t.flash.cs0 (a + i) 0xFF = Store.get s.flash.cs0 (a + i) 0xFF &&& d.getD i 0) ∧
        ∀ b, b < a ∨ a + d.length ≤ b → Store.get t.flash.cs0 b 0xFF = Store.get s.flash.cs0 b 0xFF))

/-- The Ebb window's slices and scrub reads complete (R826, R828 to R831, R817, R818): a slice of the scheduler is the first task that applies, a scrub
slice advances the sweep and writes back its correctable rows, a Basin read goes on to the next word, counts and clears a correctable error, and an
uncorrectable configuration error leaves the fabric BLANK with a new apply due. Completion is stated of: EBB_SLICE, PLAIN_SCRUB_SLICE,
BASIN_SCRUB_READ, SLIP_CONFIG_SCRUB_READ. -/
def Obligations.ScrubbingCompletes : Prop :=
  ∀ (s : State) (pos : Nat), pos = s.fld Reg.scrubPlainPos 12 0 →
    (s.sliceMay = true → s.windowWaits = false → s.plain.rewrite = [] → s.rbit Reg.scrubCtrl 0 = true →
      (s.plain.repair ≠ [] ∨ s.wc.running = false ∨ s.slicesDone < s.fld Reg.scrubPlainCfg 3 0) →
      exec .ebbSlice s = exec .plainScrubSlice s ∧ ∃ t, exec .ebbSlice s = .next t ∧ t.scrub.slices = s.slicesDone + 1) ∧
    (s.sliceMay = true → s.windowWaits = false → s.plain.rewrite = [] → s.rbit Reg.scrubCtrl 0 = false → s.quay.jobs = false →
      s.wc.checkPosted = false → exec .ebbSlice s = .next s) ∧
    (s.sliceMay = true → s.rbit Reg.scrubCtrl 0 = true → ∃ t, exec .plainScrubSlice s = .next t ∧ t.fld Reg.scrubPlainPos 12 0 = (pos + 2048) % 8192 ∧
      t.plain.repair = [] ∧ t.scrub.slices = s.slicesDone + 1 ∧ t.mem = s.mem ∧ t.chans = s.chans ∧ t.plain.mem = s.plain.mem ∧
      ∀ row, Store.find? s.plain.ecc row = some 1 → s.scrubbed (row / 8192 / 16) = true →
        (row ∈ s.plain.repair ∨ pos ≤ row % 8192 ∧ row % 8192 < pos + 2048) → Store.find? t.plain.ecc row = none) ∧
    (∀ b off, b < 5 → s.domainFenced 11 = false → s.rbit Reg.scrubCtrl (1 + b) = true → s.basinState b = 0 → off = s.scrub.basinPos.getD b 0 →
      s.scrub.basinPos.length = 5 →
      (Store.find? s.memErr (basinBase b + off) = none → ∃ t, exec (.basinScrubRead b) s = .next t ∧
        t.scrub.basinPos.getD b 0 = (off + 8) % basinSize b ∧ t.mem = s.mem ∧ t.memErr = s.memErr) ∧
      (Store.find? s.memErr (basinBase b + off) = some 1 → ∃ t, exec (.basinScrubRead b) s = .next t ∧
        t.scrub.basinPos.getD b 0 = (off + 8) % basinSize b ∧ t.mem = s.mem ∧ Store.find? t.memErr (basinBase b + off) = none ∧
        t.fld (Reg.basinctlEcc + 4 * b) 15 0 = min 0xFFFF (s.fld (Reg.basinctlEcc + 4 * b) 15 0 + 1)) ∧
      (Store.find? s.memErr (basinBase b + off) = some 2 → ∃ t, exec (.basinScrubRead b) s = .next t ∧
        t.scrub.basinPos.getD b 0 = (off + 8) % basinSize b ∧ t.mem = s.mem ∧ t.memErr = s.memErr ∧ t.rbit Reg.scrubEvents 1 = true ∧
        t.rbit Reg.basinctlEvents b = true)) ∧
    (∀ off, s.domainFenced 11 = false → s.rbit Reg.scrubCtrl 6 = true → s.inWindow = false →
      (s.wc.running = true → s.wc.gathered = true → s.wc.ended = true) → s.slip.applying = none → Config.slipLastWord off = false →
      exec (.slipConfigScrubRead off 0) s = .next s ∧
      (∃ t, exec (.slipConfigScrubRead off 1) s = .next t ∧ t = { s with regs := t.regs } ∧
        t.fld Reg.slipctlCounts 15 0 = min 0xFFFF (s.fld Reg.slipctlCounts 15 0 + 1)) ∧
      (∃ t, exec (.slipConfigScrubRead off 2) s = .next t ∧ t.slip.design = none ∧ t.slip.reapply = true ∧ t.fld Reg.slipctlStatus 1 0 = 0 ∧
        t.mem = s.mem ∧ t.chans = s.chans))

/-- Telemetry, wear and the model trim complete (R832 to R834, R841, R846): telemetry changes only what waits on the transports, wear counts a valve's
travel of a unit or more, a collector takes one sample in a qualifying cycle, and a replay frees its collector. The journal's commands complete (R844,
R845): a full or old page leaves the buffer for the flash, a young one waits, and a compaction takes the records that wait with the oldest sector's to
the head and numbers the sector anew. Completion is stated of: TELEMETRY_BUILD, WEAR_COUNTING, TRIM_SAMPLE, TRIM_REPLAY, JOURNAL_FLUSH,
JOURNAL_COMPACTION. -/
def Obligations.TelemetryTrimAndJournalComplete : Prop :=
  (∀ (s : State), s.stepMay = true → s.wc.running = true →
     (s.wc.lastOutcome = .committed → (∃ t, exec .telemetryBuild s = .next t ∧ t = { s with omx := t.omx, host := t.host } ∧
         t.omx.interp = s.omx.interp) ∧ (s.omx.sessions = [] → exec .telemetryBuild s = .next s)) ∧
     (s.wc.lastOutcome = .committed → ∃ t, exec .wearCounting s = .next t ∧ t = { s with wear := t.wear } ∧
       ∀ n c w, Store.sorted s.chans = true → Store.find? s.chans n = some c → wears c = true → w = Store.get s.wear n { sinceUs := s.nowUs } →
         (∀ v, c.typ = .valve → u8 c.params 64 ≠ 1 → s.confirmed c = some v → Store.find? t.wear n = some
           (if 1000 ≤ Int.natAbs (v - w.lastCmd) then { w with operations := w.operations + 1, lastCmd := v } else w)) ∧
         (c.typ = .pump → ∃ x, Store.find? t.wear n = some x ∧ x.running = s.runningIn c ∧ x.seenUs = s.nowUs ∧
           x.operations = (if s.runningIn c = true ∧ w.running = false then w.operations + 1 else w.operations) ∧
           x.runUs = (if w.running then w.runUs + (s.nowUs - w.seenUs) else w.runUs))) ∧
     (s.pausedWork = true → exec .trimSample s = .next { s with trims := [] }) ∧
     (s.pausedWork = false → s.wc.lastOutcome = .committed → ∃ t, exec .trimSample s = .next t ∧
       t = { s with trims := t.trims, trimLast := t.trimLast } ∧
       ∀ n c h, Store.find? s.chans n = some c → trimmed c = true → Store.find? s.trims n = some h →
         (qualifies c = true → h.u.length < 256 → Store.find? t.trims n = some { h with u := h.u ++ [c.half.modelU], y := h.y ++ [c.half.modelY] }) ∧
         (qualifies c = false → Store.find? t.trims n = some { collector := h.collector })) ∧
     (s.pausedWork = false → ∀ n c h, Store.find? s.chans n = some c → Store.find? s.trims n = some h → 256 ≤ h.u.length →
       ∃ t, exec (.trimReplay n) s = .next t ∧ Store.find? t.trims n = none ∧ t.mem = s.mem ∧ t.wear = s.wear ∧
         ((∀ m, m ∈ candidates c.model → 63 * replayScore c.model s.wc.periodUs h < 64 * replayScore m s.wc.periodUs h) →
           0 < replayScore c.model s.wc.periodUs h → t = { s with trims := Store.erase s.trims n }))) ∧
  (∀ (s : State), s.stepMay = true →
     (s.wear = [] → 8 ≤ s.journal.buffer.length → ∃ t, exec .journalFlush s = .next t ∧ t.journal.buffer = s.journal.buffer.drop 8 ∧
       t.mem = s.mem ∧ t.chans = s.chans ∧ FlashOp.journal (journalAddr s.journal.headPage) (s.journal.buffer.take 8) ∈ t.flash.ops) ∧
     (s.wear = [] → s.journal.buffer.length < 8 → (∀ u, s.journal.firstUs = some u → s.nowUs < u + 60000000) → exec .journalFlush s = .next s) ∧
     (s.pausedWork = false → s.journal.freeSectors < 4 → s.flash.ops = [] → ∃ t, exec .journalCompaction s = .next t ∧ t.journal.buffer = [] ∧
       t.journal.firstUs = none ∧ t.mem = s.mem ∧ t.chans = s.chans ∧
       FlashOp.erase (journalAddr (256 * s.journal.oldest)) ∈ t.flash.ops))

/-- Duty rotation, plausibility, calibration and drift complete (R835 to R843): a group that is not automatic only counts its time, a changeover is
confirmed when the members of the running ranks run, and ends the rotation, and an aborted one restores the ranks, the checks leave channels and
memory alone, a calibration run takes one sample, and drift tracking counts its samples. Completion is stated of: DUTY_ROTATION_CHECK,
DUTY_CHANGEOVER_CONFIRM, DUTY_ABORT, PLAUSIBILITY_CHECK, CALIBRATION_SAMPLE, DRIFT_TRACKING. -/
def Obligations.RotationAndCalibrationComplete : Prop :=
  ∀ (s : State),
    (s.stepMay = true → s.wc.running = true → ∀ g d, s.duty = [(g, d)] → d.mode ≠ 1 → ∃ n, exec .dutyRotationCheck s = .next
      { s with duty := [(g, { d with ran := n })] } ∧ n ≤ d.ran + 1 ∧
        (∀ c, s.member (d.members.headD 0) = some c → n = d.ran + (s.runningIn c).toNat)) ∧
    (s.stepMay = true → s.wc.running = true → s.duty = [] → exec .dutyRotationCheck s = .next s) ∧
    (∀ g d m sp, Store.find? s.duty g = some d → d.before = some (m, sp) →
      (s.rankUp d sp = false → exec (.dutyChangeoverConfirm g) s = .next s) ∧
      (s.rankUp d sp = true → ∃ t, exec (.dutyChangeoverConfirm g) s = .next t ∧ Store.find? t.duty g = some { d with before := none } ∧ t.mem = s.mem) ∧
      (∃ t, exec (.dutyAbort g) s = .next t ∧ Store.find? t.duty g = some { d with members := m, before := none, ran := d.rotateS } ∧
        t.mem = s.mem)) ∧
    (s.stepMay = true → s.wc.running = true → s.pausedWork = false → ∃ t, exec .plausibilityCheck s = .next t ∧ t.chans = s.chans ∧
      t.mem = s.mem ∧ t.wc = s.wc ∧ t.tl = s.tl) ∧
    (s.stepMay = true → ∀ r, s.cal.runs = [(3, r)] →
      (r.count < 63 → exec .calibrationSample s = .next { s with cal := { s.cal with runs := [(3, { r with
        count := r.count + 1, sum := r.sum + toSigned 16 (s.fld Reg.tempSensor 15 0) })] } }) ∧
      (r.count = 63 → r.notify = none → ∀ change : Int, change = r.reference - 10 * Int.tdiv (r.sum + toSigned 16 (s.fld Reg.tempSensor 15 0)) 64 →
        ∃ t e, exec .calibrationSample s = .next t ∧ t.cal.runs = [] ∧ Store.find? t.cal.results 3 = some e ∧
          e.result = (if Int.natAbs change > 3000 then 1 else 0) ∧ e.cycle = s.wc.cycle ∧ t.chans = s.chans)) ∧
    (s.stepMay = true → ∃ t, exec .driftTracking s = .next t ∧ t.drift.samples = (if 3600 ≤ s.drift.samples + 1 then 0 else s.drift.samples + 1) ∧
      t.drift.applied = s.rbit Reg.clkgenStatus 3 ∧ t.mem = s.mem ∧ t.chans = s.chans ∧
      (s.holdoverAddend = none → t.drift.sum = s.drift.sum) ∧
      (∀ v, s.holdoverAddend = some v → t.drift.sum = s.drift.sum - Int.tdiv s.drift.sum 3600 + v))
end

