-- ==== Sys2Proof/Laws/Store.lean ====
section
/-! SUPPORT. The laws of keyed stores and of byte memory: read after write, and the canonical form that every operation keeps. -/

namespace Sys2Proof.Machine

/-! ### Read after write -/

@[simp] theorem Store.find?_nil {α : Type} (k : Nat) : Store.find? ([] : Store α) k = none := rfl

@[simp] theorem Store.find?_insert_self {α : Type} (m : Store α) (k : Nat) (v : α) : Store.find? (Store.insert m k v) k = some v := by
  induction m with
  | nil => simp [Store.insert, Store.find?]
  | cons p r ih =>
    obtain ⟨a, w⟩ := p
    simp only [Store.insert]
    split
    · simp [Store.find?]
    · split
      · simp [Store.find?]
      · rename_i h1 h2
        have : a ≠ k := fun h => h2 h.symm
        simp [Store.find?, this, ih]

theorem Store.find?_insert_ne {α : Type} (m : Store α) {k j : Nat} (v : α) (h : j ≠ k) :
    Store.find? (Store.insert m k v) j = Store.find? m j := by
  induction m with
  | nil => simp [Store.insert, Store.find?, Ne.symm h]
  | cons p r ih =>
    obtain ⟨a, w⟩ := p
    simp only [Store.insert]
    split
    · simp [Store.find?, Ne.symm h]
    · split
      · rename_i h1 h2
        subst h2
        simp [Store.find?, Ne.symm h]
      · simp [Store.find?, ih]

@[simp] theorem Store.find?_erase_self {α : Type} (m : Store α) (k : Nat) : Store.find? (Store.erase m k) k = none := by
  induction m with
  | nil => rfl
  | cons p r ih =>
    obtain ⟨a, w⟩ := p
    unfold Store.erase at ih ⊢
    by_cases h : a = k
    · simpa [h] using ih
    · simpa [h, Store.find?] using ih

theorem Store.find?_erase_ne {α : Type} (m : Store α) {k j : Nat} (h : j ≠ k) : Store.find? (Store.erase m k) j = Store.find? m j := by
  induction m with
  | nil => rfl
  | cons p r ih =>
    obtain ⟨a, w⟩ := p
    unfold Store.erase at ih ⊢
    by_cases h1 : a = k
    · subst h1
      simpa [Store.find?, Ne.symm h] using ih
    · simp [h1, Store.find?, ih]

@[simp] theorem Store.get_set_self {α : Type} [DecidableEq α] (m : Store α) (k : Nat) (v d : α) : Store.get (Store.set m k v d) k d = v := by
  unfold Store.set Store.get
  split
  · simp_all
  · simp

theorem Store.get_set_ne {α : Type} [DecidableEq α] (m : Store α) {k j : Nat} (v d e : α) (h : j ≠ k) :
    Store.get (Store.set m k v d) j e = Store.get m j e := by
  unfold Store.set Store.get
  split
  · rw [Store.find?_erase_ne m h]
  · rw [Store.find?_insert_ne m v h]

@[simp] theorem Store.get_insert_self {α : Type} (m : Store α) (k : Nat) (v d : α) : Store.get (Store.insert m k v) k d = v := by
  simp [Store.get]

theorem Store.get_insert_ne {α : Type} (m : Store α) {k j : Nat} (v d : α) (h : j ≠ k) :
    Store.get (Store.insert m k v) j d = Store.get m j d := by
  simp [Store.get, Store.find?_insert_ne m v h]

theorem Store.find?_modify {α : Type} (m : Store α) (k j : Nat) (f : α → α) :
    Store.find? (Store.modify m k f) j = if j = k then (Store.find? m j).map f else Store.find? m j := by
  induction m with
  | nil => simp [Store.modify]
  | cons p r ih =>
    obtain ⟨a, w⟩ := p
    unfold Store.modify at ih ⊢
    by_cases h : a = k
    · subst h
      by_cases h2 : j = a
      · subst h2; simp [Store.find?]
      · have : a ≠ j := fun e => h2 e.symm
        simp [Store.find?, this, h2, ih]
    · by_cases h2 : a = j
      · subst h2; simp [Store.find?, h]
      · simp [Store.find?, h, h2, ih]

/-! ### The canonical form -/

/-- Every key of a store is at least a bound. -/
theorem Store.sorted_cons {α : Type} (a : Nat) (v : α) (r : Store α) :
    Store.sorted ((a, v) :: r) = true ↔ (∀ p ∈ r, a < p.1) ∧ Store.sorted r = true := by
  induction r generalizing a v with
  | nil => simp [Store.sorted]
  | cons p r ih =>
    obtain ⟨b, w⟩ := p
    simp only [Store.sorted, Bool.and_eq_true, decide_eq_true_eq]
    rw [ih]
    constructor
    · rintro ⟨h1, h2, h3⟩
      refine ⟨?_, h2, h3⟩
      intro q hq
      rcases List.mem_cons.mp hq with h | h
      · subst h; exact h1
      · exact Nat.lt_trans h1 (h2 q h)
    · rintro ⟨h1, h2, h3⟩
      exact ⟨h1 (b, w) (List.mem_cons_self ..), h2, h3⟩

theorem Store.mem_insert {α : Type} (m : Store α) (k : Nat) (v : α) (p : Nat × α) (h : p ∈ Store.insert m k v) : p = (k, v) ∨ p ∈ m := by
  induction m with
  | nil => simpa [Store.insert] using h
  | cons q r ih =>
    obtain ⟨a, w⟩ := q
    simp only [Store.insert] at h
    split at h
    · simpa using h
    · split at h
      · rcases List.mem_cons.mp h with h | h
        · exact Or.inl h
        · exact Or.inr (List.mem_cons_of_mem _ h)
      · rcases List.mem_cons.mp h with h | h
        · exact Or.inr (by rw [h]; exact List.mem_cons_self ..)
        · rcases ih h with h | h
          · exact Or.inl h
          · exact Or.inr (List.mem_cons_of_mem _ h)

theorem Store.sorted_insert {α : Type} (m : Store α) (k : Nat) (v : α) (h : Store.sorted m = true) : Store.sorted (Store.insert m k v) = true := by
  induction m with
  | nil => simp [Store.insert, Store.sorted]
  | cons p r ih =>
    obtain ⟨a, w⟩ := p
    have h' := (Store.sorted_cons a w r).mp h
    simp only [Store.insert]
    split
    · rename_i hk
      refine (Store.sorted_cons _ _ _).mpr ⟨?_, h⟩
      intro q hq
      rcases List.mem_cons.mp hq with e | e
      · subst e; exact hk
      · exact Nat.lt_trans hk (h'.1 q e)
    · split
      · rename_i h1 h2
        subst h2
        exact (Store.sorted_cons _ _ _).mpr h'
      · rename_i h1 h2
        refine (Store.sorted_cons _ _ _).mpr ⟨?_, ih h'.2⟩
        intro q hq
        rcases Store.mem_insert r k v q hq with e | e
        · subst e
          show a < k
          omega
        · exact h'.1 q e

theorem Store.sorted_filter {α : Type} (m : Store α) (f : Nat × α → Bool) (h : Store.sorted m = true) : Store.sorted (m.filter f) = true := by
  induction m with
  | nil => rfl
  | cons p r ih =>
    obtain ⟨a, w⟩ := p
    have h' := (Store.sorted_cons a w r).mp h
    rw [List.filter_cons]
    split
    · exact (Store.sorted_cons _ _ _).mpr ⟨fun q hq => h'.1 q (List.mem_filter.mp hq).1, ih h'.2⟩
    · exact ih h'.2

theorem Store.sorted_set {α : Type} [DecidableEq α] (m : Store α) (k : Nat) (v d : α) (h : Store.sorted m = true) :
    Store.sorted (Store.set m k v d) = true := by
  unfold Store.set
  split
  · exact Store.sorted_filter m _ h
  · exact Store.sorted_insert m k v h

/-! ### Byte memory -/

@[simp] theorem Memory.read_write_self (m : Memory) (a : Nat) (b : Byte) : Memory.read (Memory.write m a b) a = b := by
  simp [Memory.read, Memory.write]

theorem Memory.read_write_ne (m : Memory) {a c : Nat} (b : Byte) (h : c ≠ a) : Memory.read (Memory.write m a b) c = Memory.read m c :=
  Store.get_set_ne m b Memory.unlisted Memory.unlisted h

/-- A write of a string changes no byte outside it. -/
theorem Memory.read_writeBytes_out (m : Memory) (a c : Nat) (l : Bytes) (h : c < a ∨ a + l.length ≤ c) :
    Memory.read (Memory.writeBytes m a l) c = Memory.read m c := by
  induction l generalizing m a with
  | nil => rfl
  | cons b r ih =>
    simp only [Memory.writeBytes]
    have hl : (b :: r).length = r.length + 1 := rfl
    rw [hl] at h
    rw [ih (Memory.write m a b) (a + 1) (by omega), Memory.read_write_ne m b (by omega)]

/-- A string that was written reads back. -/
theorem Memory.read_writeBytes_in (m : Memory) (a i : Nat) (l : Bytes) (h : i < l.length) :
    Memory.read (Memory.writeBytes m a l) (a + i) = l.getD i 0 := by
  induction l generalizing m a i with
  | nil => exact absurd h (Nat.not_lt_zero i)
  | cons b r ih =>
    simp only [Memory.writeBytes]
    cases i with
    | zero => rw [Memory.read_writeBytes_out _ _ _ _ (by omega)]; simp
    | succ j =>
      have hl : (b :: r).length = r.length + 1 := rfl
      rw [hl] at h
      rw [show a + (j + 1) = (a + 1) + j from by omega, ih _ _ _ (by omega)]
      simp

/-- The canonical form, in two parts. -/
theorem Memory.wf_iff (m : Memory) : Memory.wf m = true ↔ Store.sorted m = true ∧ ∀ p ∈ m, p.2 ≠ Memory.unlisted := by
  simp [Memory.wf]

/-- Writing a byte keeps the canonical form. -/
theorem Memory.wf_write (m : Memory) (a : Nat) (b : Byte) (h : Memory.wf m = true) : Memory.wf (Memory.write m a b) = true := by
  rw [Memory.wf_iff] at h ⊢
  refine ⟨Store.sorted_set m a b _ h.1, ?_⟩
  unfold Memory.write Store.set
  split
  · exact fun p hp => h.2 p (List.mem_filter.mp hp).1
  · rename_i hb
    intro p hp
    rcases Store.mem_insert m a b p hp with e | e
    · subst e; exact hb
    · exact h.2 p e

/-- Writing a string keeps the canonical form. -/
theorem Memory.wf_writeBytes (m : Memory) (a : Nat) (l : Bytes) (h : Memory.wf m = true) : Memory.wf (Memory.writeBytes m a l) = true := by
  induction l generalizing m a with
  | nil => exact h
  | cons b r ih => exact ih _ _ (Memory.wf_write m a b h)

/-- Keeping a part of the pairs keeps the canonical form. -/
theorem Memory.wf_filter (m : Memory) (f : Nat × Byte → Bool) (h : Memory.wf m = true) : Memory.wf (m.filter f) = true := by
  rw [Memory.wf_iff] at h ⊢
  exact ⟨Store.sorted_filter m f h.1, fun p hp => h.2 p (List.mem_filter.mp hp).1⟩

/-- Clearing a range keeps the canonical form. -/
theorem Memory.wf_clear (m : Memory) (lo n : Nat) (h : Memory.wf m = true) : Memory.wf (Memory.clear m lo n) = true :=
  Memory.wf_filter m _ h

/-- A run of memory updates, each of which keeps the canonical form, keeps it. -/
theorem Memory.wf_foldl {β : Type} (l : List β) (g : Memory → β → Memory) (h : ∀ m x, Memory.wf m = true → Memory.wf (g m x) = true)
    (m : Memory) (hm : Memory.wf m = true) : Memory.wf (l.foldl g m) = true := by
  induction l generalizing m with
  | nil => exact hm
  | cons x r ih => exact ih _ (h m x hm)

end Sys2Proof.Machine
end

