-- ==== Sys2Proof/Laws/State.lean ====
section
/-! SUPPORT. What each named update of the state leaves as it is: one lemma per field and update. Then the register file's own laws. -/

namespace Sys2Proof.Machine

/-! ### setReg -/

@[simp] theorem State.setReg_guards (s : State) (a : Nat) (v : Word) : (s.setReg a v).guards = s.guards := rfl
@[simp] theorem State.setReg_mem (s : State) (a : Nat) (v : Word) : (s.setReg a v).mem = s.mem := rfl
@[simp] theorem State.setReg_memErr (s : State) (a : Nat) (v : Word) : (s.setReg a v).memErr = s.memErr := rfl
@[simp] theorem State.setReg_time (s : State) (a : Nat) (v : Word) : (s.setReg a v).time = s.time := rfl
@[simp] theorem State.setReg_bbr (s : State) (a : Nat) (v : Word) : (s.setReg a v).bbr = s.bbr := rfl
@[simp] theorem State.setReg_otp (s : State) (a : Nat) (v : Word) : (s.setReg a v).otp = s.otp := rfl
@[simp] theorem State.setReg_host (s : State) (a : Nat) (v : Word) : (s.setReg a v).host = s.host := rfl
@[simp] theorem State.setReg_boot (s : State) (a : Nat) (v : Word) : (s.setReg a v).boot = s.boot := rfl
@[simp] theorem State.setReg_ptp (s : State) (a : Nat) (v : Word) : (s.setReg a v).ptp = s.ptp := rfl
@[simp] theorem State.setReg_omx (s : State) (a : Nat) (v : Word) : (s.setReg a v).omx = s.omx := rfl
@[simp] theorem State.setReg_wc (s : State) (a : Nat) (v : Word) : (s.setReg a v).wc = s.wc := rfl
@[simp] theorem State.setReg_chans (s : State) (a : Nat) (v : Word) : (s.setReg a v).chans = s.chans := rfl
@[simp] theorem State.setReg_chansWork (s : State) (a : Nat) (v : Word) : (s.setReg a v).chansWork = s.chansWork := rfl
@[simp] theorem State.setReg_gens (s : State) (a : Nat) (v : Word) : (s.setReg a v).gens = s.gens := rfl
@[simp] theorem State.setReg_changes (s : State) (a : Nat) (v : Word) : (s.setReg a v).changes = s.changes := rfl
@[simp] theorem State.setReg_programs (s : State) (a : Nat) (v : Word) : (s.setReg a v).programs = s.programs := rfl
@[simp] theorem State.setReg_tl (s : State) (a : Nat) (v : Word) : (s.setReg a v).tl = s.tl := rfl
@[simp] theorem State.setReg_slip (s : State) (a : Nat) (v : Word) : (s.setReg a v).slip = s.slip := rfl
@[simp] theorem State.setReg_flash (s : State) (a : Nat) (v : Word) : (s.setReg a v).flash = s.flash := rfl
@[simp] theorem State.setReg_journal (s : State) (a : Nat) (v : Word) : (s.setReg a v).journal = s.journal := rfl
@[simp] theorem State.setReg_uarts (s : State) (a : Nat) (v : Word) : (s.setReg a v).uarts = s.uarts := rfl
@[simp] theorem State.setReg_cans (s : State) (a : Nat) (v : Word) : (s.setReg a v).cans = s.cans := rfl
@[simp] theorem State.setReg_duty (s : State) (a : Nat) (v : Word) : (s.setReg a v).duty = s.duty := rfl
@[simp] theorem State.setReg_wear (s : State) (a : Nat) (v : Word) : (s.setReg a v).wear = s.wear := rfl
@[simp] theorem State.setReg_cal (s : State) (a : Nat) (v : Word) : (s.setReg a v).cal = s.cal := rfl
@[simp] theorem State.setReg_trims (s : State) (a : Nat) (v : Word) : (s.setReg a v).trims = s.trims := rfl
@[simp] theorem State.setReg_trimLast (s : State) (a : Nat) (v : Word) : (s.setReg a v).trimLast = s.trimLast := rfl
@[simp] theorem State.setReg_plaus (s : State) (a : Nat) (v : Word) : (s.setReg a v).plaus = s.plaus := rfl
@[simp] theorem State.setReg_drift (s : State) (a : Nat) (v : Word) : (s.setReg a v).drift = s.drift := rfl
@[simp] theorem State.setReg_scrub (s : State) (a : Nat) (v : Word) : (s.setReg a v).scrub = s.scrub := rfl
@[simp] theorem State.setReg_tx (s : State) (a : Nat) (v : Word) : (s.setReg a v).tx = s.tx := rfl
@[simp] theorem State.setReg_ves (s : State) (a : Nat) (v : Word) : (s.setReg a v).ves = s.ves := rfl
@[simp] theorem State.setReg_plain (s : State) (a : Nat) (v : Word) : (s.setReg a v).plain = s.plain := rfl
@[simp] theorem State.setReg_pilot (s : State) (a : Nat) (v : Word) : (s.setReg a v).pilot = s.pilot := rfl
@[simp] theorem State.setReg_pulses (s : State) (a : Nat) (v : Word) : (s.setReg a v).pulses = s.pulses := rfl
@[simp] theorem State.setReg_reclaim (s : State) (a : Nat) (v : Word) : (s.setReg a v).reclaim = s.reclaim := rfl
@[simp] theorem State.setReg_bus (s : State) (a : Nat) (v : Word) : (s.setReg a v).bus = s.bus := rfl
@[simp] theorem State.setReg_held (s : State) (a : Nat) (v : Word) : (s.setReg a v).held = s.held := rfl
@[simp] theorem State.setReg_pwrWait (s : State) (a : Nat) (v : Word) : (s.setReg a v).pwrWait = s.pwrWait := rfl
@[simp] theorem State.setReg_atPort (s : State) (a : Nat) (v : Word) : (s.setReg a v).atPort = s.atPort := rfl
@[simp] theorem State.setReg_paths (s : State) (a : Nat) (v : Word) : (s.setReg a v).paths = s.paths := rfl
@[simp] theorem State.setReg_answers (s : State) (a : Nat) (v : Word) : (s.setReg a v).answers = s.answers := rfl
@[simp] theorem State.setReg_fw (s : State) (a : Nat) (v : Word) : (s.setReg a v).fw = s.fw := rfl
@[simp] theorem State.setReg_dbg (s : State) (a : Nat) (v : Word) : (s.setReg a v).dbg = s.dbg := rfl
@[simp] theorem State.setReg_deferred (s : State) (a : Nat) (v : Word) : (s.setReg a v).deferred = s.deferred := rfl
@[simp] theorem State.setReg_lostClocks (s : State) (a : Nat) (v : Word) : (s.setReg a v).lostClocks = s.lostClocks := rfl
@[simp] theorem State.setReg_wdtUs (s : State) (a : Nat) (v : Word) : (s.setReg a v).wdtUs = s.wdtUs := rfl
@[simp] theorem State.setReg_belowUs (s : State) (a : Nat) (v : Word) : (s.setReg a v).belowUs = s.belowUs := rfl
@[simp] theorem State.setReg_sagAsked (s : State) (a : Nat) (v : Word) : (s.setReg a v).sagAsked = s.sagAsked := rfl
@[simp] theorem State.setReg_marks (s : State) (a : Nat) (v : Word) : (s.setReg a v).marks = s.marks := rfl
@[simp] theorem State.setReg_hydroWork (s : State) (a : Nat) (v : Word) : (s.setReg a v).hydroWork = s.hydroWork := rfl
@[simp] theorem State.setReg_macs (s : State) (a : Nat) (v : Word) : (s.setReg a v).macs = s.macs := rfl
@[simp] theorem State.setReg_netOut (s : State) (a : Nat) (v : Word) : (s.setReg a v).netOut = s.netOut := rfl
@[simp] theorem State.setReg_quay (s : State) (a : Nat) (v : Word) : (s.setReg a v).quay = s.quay := rfl
@[simp] theorem State.setReg_hm (s : State) (a : Nat) (v : Word) : (s.setReg a v).hm = s.hm := rfl
@[simp] theorem State.setReg_freeCtr (s : State) (a : Nat) (v : Word) : (s.setReg a v).freeCtr = s.freeCtr := rfl
@[simp] theorem State.setReg_pending (s : State) (a : Nat) (v : Word) : (s.setReg a v).pending = s.pending := rfl

/-! ### setFld -/

@[simp] theorem State.setFld_guards (s : State) (a hi lo v : Nat) : (s.setFld a hi lo v).guards = s.guards := rfl
@[simp] theorem State.setFld_mem (s : State) (a hi lo v : Nat) : (s.setFld a hi lo v).mem = s.mem := rfl
@[simp] theorem State.setFld_memErr (s : State) (a hi lo v : Nat) : (s.setFld a hi lo v).memErr = s.memErr := rfl
@[simp] theorem State.setFld_time (s : State) (a hi lo v : Nat) : (s.setFld a hi lo v).time = s.time := rfl
@[simp] theorem State.setFld_bbr (s : State) (a hi lo v : Nat) : (s.setFld a hi lo v).bbr = s.bbr := rfl
@[simp] theorem State.setFld_otp (s : State) (a hi lo v : Nat) : (s.setFld a hi lo v).otp = s.otp := rfl
@[simp] theorem State.setFld_host (s : State) (a hi lo v : Nat) : (s.setFld a hi lo v).host = s.host := rfl
@[simp] theorem State.setFld_boot (s : State) (a hi lo v : Nat) : (s.setFld a hi lo v).boot = s.boot := rfl
@[simp] theorem State.setFld_ptp (s : State) (a hi lo v : Nat) : (s.setFld a hi lo v).ptp = s.ptp := rfl
@[simp] theorem State.setFld_omx (s : State) (a hi lo v : Nat) : (s.setFld a hi lo v).omx = s.omx := rfl
@[simp] theorem State.setFld_wc (s : State) (a hi lo v : Nat) : (s.setFld a hi lo v).wc = s.wc := rfl
@[simp] theorem State.setFld_chans (s : State) (a hi lo v : Nat) : (s.setFld a hi lo v).chans = s.chans := rfl
@[simp] theorem State.setFld_chansWork (s : State) (a hi lo v : Nat) : (s.setFld a hi lo v).chansWork = s.chansWork := rfl
@[simp] theorem State.setFld_gens (s : State) (a hi lo v : Nat) : (s.setFld a hi lo v).gens = s.gens := rfl
@[simp] theorem State.setFld_changes (s : State) (a hi lo v : Nat) : (s.setFld a hi lo v).changes = s.changes := rfl
@[simp] theorem State.setFld_programs (s : State) (a hi lo v : Nat) : (s.setFld a hi lo v).programs = s.programs := rfl
@[simp] theorem State.setFld_tl (s : State) (a hi lo v : Nat) : (s.setFld a hi lo v).tl = s.tl := rfl
@[simp] theorem State.setFld_slip (s : State) (a hi lo v : Nat) : (s.setFld a hi lo v).slip = s.slip := rfl
@[simp] theorem State.setFld_flash (s : State) (a hi lo v : Nat) : (s.setFld a hi lo v).flash = s.flash := rfl
@[simp] theorem State.setFld_journal (s : State) (a hi lo v : Nat) : (s.setFld a hi lo v).journal = s.journal := rfl
@[simp] theorem State.setFld_uarts (s : State) (a hi lo v : Nat) : (s.setFld a hi lo v).uarts = s.uarts := rfl
@[simp] theorem State.setFld_cans (s : State) (a hi lo v : Nat) : (s.setFld a hi lo v).cans = s.cans := rfl
@[simp] theorem State.setFld_duty (s : State) (a hi lo v : Nat) : (s.setFld a hi lo v).duty = s.duty := rfl
@[simp] theorem State.setFld_wear (s : State) (a hi lo v : Nat) : (s.setFld a hi lo v).wear = s.wear := rfl
@[simp] theorem State.setFld_cal (s : State) (a hi lo v : Nat) : (s.setFld a hi lo v).cal = s.cal := rfl
@[simp] theorem State.setFld_trims (s : State) (a hi lo v : Nat) : (s.setFld a hi lo v).trims = s.trims := rfl
@[simp] theorem State.setFld_trimLast (s : State) (a hi lo v : Nat) : (s.setFld a hi lo v).trimLast = s.trimLast := rfl
@[simp] theorem State.setFld_plaus (s : State) (a hi lo v : Nat) : (s.setFld a hi lo v).plaus = s.plaus := rfl
@[simp] theorem State.setFld_drift (s : State) (a hi lo v : Nat) : (s.setFld a hi lo v).drift = s.drift := rfl
@[simp] theorem State.setFld_scrub (s : State) (a hi lo v : Nat) : (s.setFld a hi lo v).scrub = s.scrub := rfl
@[simp] theorem State.setFld_tx (s : State) (a hi lo v : Nat) : (s.setFld a hi lo v).tx = s.tx := rfl
@[simp] theorem State.setFld_ves (s : State) (a hi lo v : Nat) : (s.setFld a hi lo v).ves = s.ves := rfl
@[simp] theorem State.setFld_plain (s : State) (a hi lo v : Nat) : (s.setFld a hi lo v).plain = s.plain := rfl
@[simp] theorem State.setFld_pilot (s : State) (a hi lo v : Nat) : (s.setFld a hi lo v).pilot = s.pilot := rfl
@[simp] theorem State.setFld_pulses (s : State) (a hi lo v : Nat) : (s.setFld a hi lo v).pulses = s.pulses := rfl
@[simp] theorem State.setFld_reclaim (s : State) (a hi lo v : Nat) : (s.setFld a hi lo v).reclaim = s.reclaim := rfl
@[simp] theorem State.setFld_bus (s : State) (a hi lo v : Nat) : (s.setFld a hi lo v).bus = s.bus := rfl
@[simp] theorem State.setFld_held (s : State) (a hi lo v : Nat) : (s.setFld a hi lo v).held = s.held := rfl
@[simp] theorem State.setFld_pwrWait (s : State) (a hi lo v : Nat) : (s.setFld a hi lo v).pwrWait = s.pwrWait := rfl
@[simp] theorem State.setFld_atPort (s : State) (a hi lo v : Nat) : (s.setFld a hi lo v).atPort = s.atPort := rfl
@[simp] theorem State.setFld_paths (s : State) (a hi lo v : Nat) : (s.setFld a hi lo v).paths = s.paths := rfl
@[simp] theorem State.setFld_answers (s : State) (a hi lo v : Nat) : (s.setFld a hi lo v).answers = s.answers := rfl
@[simp] theorem State.setFld_fw (s : State) (a hi lo v : Nat) : (s.setFld a hi lo v).fw = s.fw := rfl
@[simp] theorem State.setFld_dbg (s : State) (a hi lo v : Nat) : (s.setFld a hi lo v).dbg = s.dbg := rfl
@[simp] theorem State.setFld_deferred (s : State) (a hi lo v : Nat) : (s.setFld a hi lo v).deferred = s.deferred := rfl
@[simp] theorem State.setFld_lostClocks (s : State) (a hi lo v : Nat) : (s.setFld a hi lo v).lostClocks = s.lostClocks := rfl
@[simp] theorem State.setFld_wdtUs (s : State) (a hi lo v : Nat) : (s.setFld a hi lo v).wdtUs = s.wdtUs := rfl
@[simp] theorem State.setFld_belowUs (s : State) (a hi lo v : Nat) : (s.setFld a hi lo v).belowUs = s.belowUs := rfl
@[simp] theorem State.setFld_sagAsked (s : State) (a hi lo v : Nat) : (s.setFld a hi lo v).sagAsked = s.sagAsked := rfl
@[simp] theorem State.setFld_marks (s : State) (a hi lo v : Nat) : (s.setFld a hi lo v).marks = s.marks := rfl
@[simp] theorem State.setFld_hydroWork (s : State) (a hi lo v : Nat) : (s.setFld a hi lo v).hydroWork = s.hydroWork := rfl
@[simp] theorem State.setFld_macs (s : State) (a hi lo v : Nat) : (s.setFld a hi lo v).macs = s.macs := rfl
@[simp] theorem State.setFld_netOut (s : State) (a hi lo v : Nat) : (s.setFld a hi lo v).netOut = s.netOut := rfl
@[simp] theorem State.setFld_quay (s : State) (a hi lo v : Nat) : (s.setFld a hi lo v).quay = s.quay := rfl
@[simp] theorem State.setFld_hm (s : State) (a hi lo v : Nat) : (s.setFld a hi lo v).hm = s.hm := rfl
@[simp] theorem State.setFld_freeCtr (s : State) (a hi lo v : Nat) : (s.setFld a hi lo v).freeCtr = s.freeCtr := rfl
@[simp] theorem State.setFld_pending (s : State) (a hi lo v : Nat) : (s.setFld a hi lo v).pending = s.pending := rfl

/-! ### setRbit -/

@[simp] theorem State.setRbit_guards (s : State) (a i : Nat) (b : Bool) : (s.setRbit a i b).guards = s.guards := rfl
@[simp] theorem State.setRbit_mem (s : State) (a i : Nat) (b : Bool) : (s.setRbit a i b).mem = s.mem := rfl
@[simp] theorem State.setRbit_memErr (s : State) (a i : Nat) (b : Bool) : (s.setRbit a i b).memErr = s.memErr := rfl
@[simp] theorem State.setRbit_time (s : State) (a i : Nat) (b : Bool) : (s.setRbit a i b).time = s.time := rfl
@[simp] theorem State.setRbit_bbr (s : State) (a i : Nat) (b : Bool) : (s.setRbit a i b).bbr = s.bbr := rfl
@[simp] theorem State.setRbit_otp (s : State) (a i : Nat) (b : Bool) : (s.setRbit a i b).otp = s.otp := rfl
@[simp] theorem State.setRbit_host (s : State) (a i : Nat) (b : Bool) : (s.setRbit a i b).host = s.host := rfl
@[simp] theorem State.setRbit_boot (s : State) (a i : Nat) (b : Bool) : (s.setRbit a i b).boot = s.boot := rfl
@[simp] theorem State.setRbit_ptp (s : State) (a i : Nat) (b : Bool) : (s.setRbit a i b).ptp = s.ptp := rfl
@[simp] theorem State.setRbit_omx (s : State) (a i : Nat) (b : Bool) : (s.setRbit a i b).omx = s.omx := rfl
@[simp] theorem State.setRbit_wc (s : State) (a i : Nat) (b : Bool) : (s.setRbit a i b).wc = s.wc := rfl
@[simp] theorem State.setRbit_chans (s : State) (a i : Nat) (b : Bool) : (s.setRbit a i b).chans = s.chans := rfl
@[simp] theorem State.setRbit_chansWork (s : State) (a i : Nat) (b : Bool) : (s.setRbit a i b).chansWork = s.chansWork := rfl
@[simp] theorem State.setRbit_gens (s : State) (a i : Nat) (b : Bool) : (s.setRbit a i b).gens = s.gens := rfl
@[simp] theorem State.setRbit_changes (s : State) (a i : Nat) (b : Bool) : (s.setRbit a i b).changes = s.changes := rfl
@[simp] theorem State.setRbit_programs (s : State) (a i : Nat) (b : Bool) : (s.setRbit a i b).programs = s.programs := rfl
@[simp] theorem State.setRbit_tl (s : State) (a i : Nat) (b : Bool) : (s.setRbit a i b).tl = s.tl := rfl
@[simp] theorem State.setRbit_slip (s : State) (a i : Nat) (b : Bool) : (s.setRbit a i b).slip = s.slip := rfl
@[simp] theorem State.setRbit_flash (s : State) (a i : Nat) (b : Bool) : (s.setRbit a i b).flash = s.flash := rfl
@[simp] theorem State.setRbit_journal (s : State) (a i : Nat) (b : Bool) : (s.setRbit a i b).journal = s.journal := rfl
@[simp] theorem State.setRbit_uarts (s : State) (a i : Nat) (b : Bool) : (s.setRbit a i b).uarts = s.uarts := rfl
@[simp] theorem State.setRbit_cans (s : State) (a i : Nat) (b : Bool) : (s.setRbit a i b).cans = s.cans := rfl
@[simp] theorem State.setRbit_duty (s : State) (a i : Nat) (b : Bool) : (s.setRbit a i b).duty = s.duty := rfl
@[simp] theorem State.setRbit_wear (s : State) (a i : Nat) (b : Bool) : (s.setRbit a i b).wear = s.wear := rfl
@[simp] theorem State.setRbit_cal (s : State) (a i : Nat) (b : Bool) : (s.setRbit a i b).cal = s.cal := rfl
@[simp] theorem State.setRbit_trims (s : State) (a i : Nat) (b : Bool) : (s.setRbit a i b).trims = s.trims := rfl
@[simp] theorem State.setRbit_trimLast (s : State) (a i : Nat) (b : Bool) : (s.setRbit a i b).trimLast = s.trimLast := rfl
@[simp] theorem State.setRbit_plaus (s : State) (a i : Nat) (b : Bool) : (s.setRbit a i b).plaus = s.plaus := rfl
@[simp] theorem State.setRbit_drift (s : State) (a i : Nat) (b : Bool) : (s.setRbit a i b).drift = s.drift := rfl
@[simp] theorem State.setRbit_scrub (s : State) (a i : Nat) (b : Bool) : (s.setRbit a i b).scrub = s.scrub := rfl
@[simp] theorem State.setRbit_tx (s : State) (a i : Nat) (b : Bool) : (s.setRbit a i b).tx = s.tx := rfl
@[simp] theorem State.setRbit_ves (s : State) (a i : Nat) (b : Bool) : (s.setRbit a i b).ves = s.ves := rfl
@[simp] theorem State.setRbit_plain (s : State) (a i : Nat) (b : Bool) : (s.setRbit a i b).plain = s.plain := rfl
@[simp] theorem State.setRbit_pilot (s : State) (a i : Nat) (b : Bool) : (s.setRbit a i b).pilot = s.pilot := rfl
@[simp] theorem State.setRbit_pulses (s : State) (a i : Nat) (b : Bool) : (s.setRbit a i b).pulses = s.pulses := rfl
@[simp] theorem State.setRbit_reclaim (s : State) (a i : Nat) (b : Bool) : (s.setRbit a i b).reclaim = s.reclaim := rfl
@[simp] theorem State.setRbit_bus (s : State) (a i : Nat) (b : Bool) : (s.setRbit a i b).bus = s.bus := rfl
@[simp] theorem State.setRbit_held (s : State) (a i : Nat) (b : Bool) : (s.setRbit a i b).held = s.held := rfl
@[simp] theorem State.setRbit_pwrWait (s : State) (a i : Nat) (b : Bool) : (s.setRbit a i b).pwrWait = s.pwrWait := rfl
@[simp] theorem State.setRbit_atPort (s : State) (a i : Nat) (b : Bool) : (s.setRbit a i b).atPort = s.atPort := rfl
@[simp] theorem State.setRbit_paths (s : State) (a i : Nat) (b : Bool) : (s.setRbit a i b).paths = s.paths := rfl
@[simp] theorem State.setRbit_answers (s : State) (a i : Nat) (b : Bool) : (s.setRbit a i b).answers = s.answers := rfl
@[simp] theorem State.setRbit_fw (s : State) (a i : Nat) (b : Bool) : (s.setRbit a i b).fw = s.fw := rfl
@[simp] theorem State.setRbit_dbg (s : State) (a i : Nat) (b : Bool) : (s.setRbit a i b).dbg = s.dbg := rfl
@[simp] theorem State.setRbit_deferred (s : State) (a i : Nat) (b : Bool) : (s.setRbit a i b).deferred = s.deferred := rfl
@[simp] theorem State.setRbit_lostClocks (s : State) (a i : Nat) (b : Bool) : (s.setRbit a i b).lostClocks = s.lostClocks := rfl
@[simp] theorem State.setRbit_wdtUs (s : State) (a i : Nat) (b : Bool) : (s.setRbit a i b).wdtUs = s.wdtUs := rfl
@[simp] theorem State.setRbit_belowUs (s : State) (a i : Nat) (b : Bool) : (s.setRbit a i b).belowUs = s.belowUs := rfl
@[simp] theorem State.setRbit_sagAsked (s : State) (a i : Nat) (b : Bool) : (s.setRbit a i b).sagAsked = s.sagAsked := rfl
@[simp] theorem State.setRbit_marks (s : State) (a i : Nat) (b : Bool) : (s.setRbit a i b).marks = s.marks := rfl
@[simp] theorem State.setRbit_hydroWork (s : State) (a i : Nat) (b : Bool) : (s.setRbit a i b).hydroWork = s.hydroWork := rfl
@[simp] theorem State.setRbit_macs (s : State) (a i : Nat) (b : Bool) : (s.setRbit a i b).macs = s.macs := rfl
@[simp] theorem State.setRbit_netOut (s : State) (a i : Nat) (b : Bool) : (s.setRbit a i b).netOut = s.netOut := rfl
@[simp] theorem State.setRbit_quay (s : State) (a i : Nat) (b : Bool) : (s.setRbit a i b).quay = s.quay := rfl
@[simp] theorem State.setRbit_hm (s : State) (a i : Nat) (b : Bool) : (s.setRbit a i b).hm = s.hm := rfl
@[simp] theorem State.setRbit_freeCtr (s : State) (a i : Nat) (b : Bool) : (s.setRbit a i b).freeCtr = s.freeCtr := rfl
@[simp] theorem State.setRbit_pending (s : State) (a i : Nat) (b : Bool) : (s.setRbit a i b).pending = s.pending := rfl

/-! ### orReg -/

@[simp] theorem State.orReg_guards (s : State) (a : Nat) (m : Word) : (s.orReg a m).guards = s.guards := rfl
@[simp] theorem State.orReg_mem (s : State) (a : Nat) (m : Word) : (s.orReg a m).mem = s.mem := rfl
@[simp] theorem State.orReg_memErr (s : State) (a : Nat) (m : Word) : (s.orReg a m).memErr = s.memErr := rfl
@[simp] theorem State.orReg_time (s : State) (a : Nat) (m : Word) : (s.orReg a m).time = s.time := rfl
@[simp] theorem State.orReg_bbr (s : State) (a : Nat) (m : Word) : (s.orReg a m).bbr = s.bbr := rfl
@[simp] theorem State.orReg_otp (s : State) (a : Nat) (m : Word) : (s.orReg a m).otp = s.otp := rfl
@[simp] theorem State.orReg_host (s : State) (a : Nat) (m : Word) : (s.orReg a m).host = s.host := rfl
@[simp] theorem State.orReg_boot (s : State) (a : Nat) (m : Word) : (s.orReg a m).boot = s.boot := rfl
@[simp] theorem State.orReg_ptp (s : State) (a : Nat) (m : Word) : (s.orReg a m).ptp = s.ptp := rfl
@[simp] theorem State.orReg_omx (s : State) (a : Nat) (m : Word) : (s.orReg a m).omx = s.omx := rfl
@[simp] theorem State.orReg_wc (s : State) (a : Nat) (m : Word) : (s.orReg a m).wc = s.wc := rfl
@[simp] theorem State.orReg_chans (s : State) (a : Nat) (m : Word) : (s.orReg a m).chans = s.chans := rfl
@[simp] theorem State.orReg_chansWork (s : State) (a : Nat) (m : Word) : (s.orReg a m).chansWork = s.chansWork := rfl
@[simp] theorem State.orReg_gens (s : State) (a : Nat) (m : Word) : (s.orReg a m).gens = s.gens := rfl
@[simp] theorem State.orReg_changes (s : State) (a : Nat) (m : Word) : (s.orReg a m).changes = s.changes := rfl
@[simp] theorem State.orReg_programs (s : State) (a : Nat) (m : Word) : (s.orReg a m).programs = s.programs := rfl
@[simp] theorem State.orReg_tl (s : State) (a : Nat) (m : Word) : (s.orReg a m).tl = s.tl := rfl
@[simp] theorem State.orReg_slip (s : State) (a : Nat) (m : Word) : (s.orReg a m).slip = s.slip := rfl
@[simp] theorem State.orReg_flash (s : State) (a : Nat) (m : Word) : (s.orReg a m).flash = s.flash := rfl
@[simp] theorem State.orReg_journal (s : State) (a : Nat) (m : Word) : (s.orReg a m).journal = s.journal := rfl
@[simp] theorem State.orReg_uarts (s : State) (a : Nat) (m : Word) : (s.orReg a m).uarts = s.uarts := rfl
@[simp] theorem State.orReg_cans (s : State) (a : Nat) (m : Word) : (s.orReg a m).cans = s.cans := rfl
@[simp] theorem State.orReg_duty (s : State) (a : Nat) (m : Word) : (s.orReg a m).duty = s.duty := rfl
@[simp] theorem State.orReg_wear (s : State) (a : Nat) (m : Word) : (s.orReg a m).wear = s.wear := rfl
@[simp] theorem State.orReg_cal (s : State) (a : Nat) (m : Word) : (s.orReg a m).cal = s.cal := rfl
@[simp] theorem State.orReg_trims (s : State) (a : Nat) (m : Word) : (s.orReg a m).trims = s.trims := rfl
@[simp] theorem State.orReg_trimLast (s : State) (a : Nat) (m : Word) : (s.orReg a m).trimLast = s.trimLast := rfl
@[simp] theorem State.orReg_plaus (s : State) (a : Nat) (m : Word) : (s.orReg a m).plaus = s.plaus := rfl
@[simp] theorem State.orReg_drift (s : State) (a : Nat) (m : Word) : (s.orReg a m).drift = s.drift := rfl
@[simp] theorem State.orReg_scrub (s : State) (a : Nat) (m : Word) : (s.orReg a m).scrub = s.scrub := rfl
@[simp] theorem State.orReg_tx (s : State) (a : Nat) (m : Word) : (s.orReg a m).tx = s.tx := rfl
@[simp] theorem State.orReg_ves (s : State) (a : Nat) (m : Word) : (s.orReg a m).ves = s.ves := rfl
@[simp] theorem State.orReg_plain (s : State) (a : Nat) (m : Word) : (s.orReg a m).plain = s.plain := rfl
@[simp] theorem State.orReg_pilot (s : State) (a : Nat) (m : Word) : (s.orReg a m).pilot = s.pilot := rfl
@[simp] theorem State.orReg_pulses (s : State) (a : Nat) (m : Word) : (s.orReg a m).pulses = s.pulses := rfl
@[simp] theorem State.orReg_reclaim (s : State) (a : Nat) (m : Word) : (s.orReg a m).reclaim = s.reclaim := rfl
@[simp] theorem State.orReg_bus (s : State) (a : Nat) (m : Word) : (s.orReg a m).bus = s.bus := rfl
@[simp] theorem State.orReg_held (s : State) (a : Nat) (m : Word) : (s.orReg a m).held = s.held := rfl
@[simp] theorem State.orReg_pwrWait (s : State) (a : Nat) (m : Word) : (s.orReg a m).pwrWait = s.pwrWait := rfl
@[simp] theorem State.orReg_atPort (s : State) (a : Nat) (m : Word) : (s.orReg a m).atPort = s.atPort := rfl
@[simp] theorem State.orReg_paths (s : State) (a : Nat) (m : Word) : (s.orReg a m).paths = s.paths := rfl
@[simp] theorem State.orReg_answers (s : State) (a : Nat) (m : Word) : (s.orReg a m).answers = s.answers := rfl
@[simp] theorem State.orReg_fw (s : State) (a : Nat) (m : Word) : (s.orReg a m).fw = s.fw := rfl
@[simp] theorem State.orReg_dbg (s : State) (a : Nat) (m : Word) : (s.orReg a m).dbg = s.dbg := rfl
@[simp] theorem State.orReg_deferred (s : State) (a : Nat) (m : Word) : (s.orReg a m).deferred = s.deferred := rfl
@[simp] theorem State.orReg_lostClocks (s : State) (a : Nat) (m : Word) : (s.orReg a m).lostClocks = s.lostClocks := rfl
@[simp] theorem State.orReg_wdtUs (s : State) (a : Nat) (m : Word) : (s.orReg a m).wdtUs = s.wdtUs := rfl
@[simp] theorem State.orReg_belowUs (s : State) (a : Nat) (m : Word) : (s.orReg a m).belowUs = s.belowUs := rfl
@[simp] theorem State.orReg_sagAsked (s : State) (a : Nat) (m : Word) : (s.orReg a m).sagAsked = s.sagAsked := rfl
@[simp] theorem State.orReg_marks (s : State) (a : Nat) (m : Word) : (s.orReg a m).marks = s.marks := rfl
@[simp] theorem State.orReg_hydroWork (s : State) (a : Nat) (m : Word) : (s.orReg a m).hydroWork = s.hydroWork := rfl
@[simp] theorem State.orReg_macs (s : State) (a : Nat) (m : Word) : (s.orReg a m).macs = s.macs := rfl
@[simp] theorem State.orReg_netOut (s : State) (a : Nat) (m : Word) : (s.orReg a m).netOut = s.netOut := rfl
@[simp] theorem State.orReg_quay (s : State) (a : Nat) (m : Word) : (s.orReg a m).quay = s.quay := rfl
@[simp] theorem State.orReg_hm (s : State) (a : Nat) (m : Word) : (s.orReg a m).hm = s.hm := rfl
@[simp] theorem State.orReg_freeCtr (s : State) (a : Nat) (m : Word) : (s.orReg a m).freeCtr = s.freeCtr := rfl
@[simp] theorem State.orReg_pending (s : State) (a : Nat) (m : Word) : (s.orReg a m).pending = s.pending := rfl

/-! ### addFld -/

@[simp] theorem State.addFld_guards (s : State) (a hi lo n : Nat) : (s.addFld a hi lo n).guards = s.guards := rfl
@[simp] theorem State.addFld_mem (s : State) (a hi lo n : Nat) : (s.addFld a hi lo n).mem = s.mem := rfl
@[simp] theorem State.addFld_memErr (s : State) (a hi lo n : Nat) : (s.addFld a hi lo n).memErr = s.memErr := rfl
@[simp] theorem State.addFld_time (s : State) (a hi lo n : Nat) : (s.addFld a hi lo n).time = s.time := rfl
@[simp] theorem State.addFld_bbr (s : State) (a hi lo n : Nat) : (s.addFld a hi lo n).bbr = s.bbr := rfl
@[simp] theorem State.addFld_otp (s : State) (a hi lo n : Nat) : (s.addFld a hi lo n).otp = s.otp := rfl
@[simp] theorem State.addFld_host (s : State) (a hi lo n : Nat) : (s.addFld a hi lo n).host = s.host := rfl
@[simp] theorem State.addFld_boot (s : State) (a hi lo n : Nat) : (s.addFld a hi lo n).boot = s.boot := rfl
@[simp] theorem State.addFld_ptp (s : State) (a hi lo n : Nat) : (s.addFld a hi lo n).ptp = s.ptp := rfl
@[simp] theorem State.addFld_omx (s : State) (a hi lo n : Nat) : (s.addFld a hi lo n).omx = s.omx := rfl
@[simp] theorem State.addFld_wc (s : State) (a hi lo n : Nat) : (s.addFld a hi lo n).wc = s.wc := rfl
@[simp] theorem State.addFld_chans (s : State) (a hi lo n : Nat) : (s.addFld a hi lo n).chans = s.chans := rfl
@[simp] theorem State.addFld_chansWork (s : State) (a hi lo n : Nat) : (s.addFld a hi lo n).chansWork = s.chansWork := rfl
@[simp] theorem State.addFld_gens (s : State) (a hi lo n : Nat) : (s.addFld a hi lo n).gens = s.gens := rfl
@[simp] theorem State.addFld_changes (s : State) (a hi lo n : Nat) : (s.addFld a hi lo n).changes = s.changes := rfl
@[simp] theorem State.addFld_programs (s : State) (a hi lo n : Nat) : (s.addFld a hi lo n).programs = s.programs := rfl
@[simp] theorem State.addFld_tl (s : State) (a hi lo n : Nat) : (s.addFld a hi lo n).tl = s.tl := rfl
@[simp] theorem State.addFld_slip (s : State) (a hi lo n : Nat) : (s.addFld a hi lo n).slip = s.slip := rfl
@[simp] theorem State.addFld_flash (s : State) (a hi lo n : Nat) : (s.addFld a hi lo n).flash = s.flash := rfl
@[simp] theorem State.addFld_journal (s : State) (a hi lo n : Nat) : (s.addFld a hi lo n).journal = s.journal := rfl
@[simp] theorem State.addFld_uarts (s : State) (a hi lo n : Nat) : (s.addFld a hi lo n).uarts = s.uarts := rfl
@[simp] theorem State.addFld_cans (s : State) (a hi lo n : Nat) : (s.addFld a hi lo n).cans = s.cans := rfl
@[simp] theorem State.addFld_duty (s : State) (a hi lo n : Nat) : (s.addFld a hi lo n).duty = s.duty := rfl
@[simp] theorem State.addFld_wear (s : State) (a hi lo n : Nat) : (s.addFld a hi lo n).wear = s.wear := rfl
@[simp] theorem State.addFld_cal (s : State) (a hi lo n : Nat) : (s.addFld a hi lo n).cal = s.cal := rfl
@[simp] theorem State.addFld_trims (s : State) (a hi lo n : Nat) : (s.addFld a hi lo n).trims = s.trims := rfl
@[simp] theorem State.addFld_trimLast (s : State) (a hi lo n : Nat) : (s.addFld a hi lo n).trimLast = s.trimLast := rfl
@[simp] theorem State.addFld_plaus (s : State) (a hi lo n : Nat) : (s.addFld a hi lo n).plaus = s.plaus := rfl
@[simp] theorem State.addFld_drift (s : State) (a hi lo n : Nat) : (s.addFld a hi lo n).drift = s.drift := rfl
@[simp] theorem State.addFld_scrub (s : State) (a hi lo n : Nat) : (s.addFld a hi lo n).scrub = s.scrub := rfl
@[simp] theorem State.addFld_tx (s : State) (a hi lo n : Nat) : (s.addFld a hi lo n).tx = s.tx := rfl
@[simp] theorem State.addFld_ves (s : State) (a hi lo n : Nat) : (s.addFld a hi lo n).ves = s.ves := rfl
@[simp] theorem State.addFld_plain (s : State) (a hi lo n : Nat) : (s.addFld a hi lo n).plain = s.plain := rfl
@[simp] theorem State.addFld_pilot (s : State) (a hi lo n : Nat) : (s.addFld a hi lo n).pilot = s.pilot := rfl
@[simp] theorem State.addFld_pulses (s : State) (a hi lo n : Nat) : (s.addFld a hi lo n).pulses = s.pulses := rfl
@[simp] theorem State.addFld_reclaim (s : State) (a hi lo n : Nat) : (s.addFld a hi lo n).reclaim = s.reclaim := rfl
@[simp] theorem State.addFld_bus (s : State) (a hi lo n : Nat) : (s.addFld a hi lo n).bus = s.bus := rfl
@[simp] theorem State.addFld_held (s : State) (a hi lo n : Nat) : (s.addFld a hi lo n).held = s.held := rfl
@[simp] theorem State.addFld_pwrWait (s : State) (a hi lo n : Nat) : (s.addFld a hi lo n).pwrWait = s.pwrWait := rfl
@[simp] theorem State.addFld_atPort (s : State) (a hi lo n : Nat) : (s.addFld a hi lo n).atPort = s.atPort := rfl
@[simp] theorem State.addFld_paths (s : State) (a hi lo n : Nat) : (s.addFld a hi lo n).paths = s.paths := rfl
@[simp] theorem State.addFld_answers (s : State) (a hi lo n : Nat) : (s.addFld a hi lo n).answers = s.answers := rfl
@[simp] theorem State.addFld_fw (s : State) (a hi lo n : Nat) : (s.addFld a hi lo n).fw = s.fw := rfl
@[simp] theorem State.addFld_dbg (s : State) (a hi lo n : Nat) : (s.addFld a hi lo n).dbg = s.dbg := rfl
@[simp] theorem State.addFld_deferred (s : State) (a hi lo n : Nat) : (s.addFld a hi lo n).deferred = s.deferred := rfl
@[simp] theorem State.addFld_lostClocks (s : State) (a hi lo n : Nat) : (s.addFld a hi lo n).lostClocks = s.lostClocks := rfl
@[simp] theorem State.addFld_wdtUs (s : State) (a hi lo n : Nat) : (s.addFld a hi lo n).wdtUs = s.wdtUs := rfl
@[simp] theorem State.addFld_belowUs (s : State) (a hi lo n : Nat) : (s.addFld a hi lo n).belowUs = s.belowUs := rfl
@[simp] theorem State.addFld_sagAsked (s : State) (a hi lo n : Nat) : (s.addFld a hi lo n).sagAsked = s.sagAsked := rfl
@[simp] theorem State.addFld_marks (s : State) (a hi lo n : Nat) : (s.addFld a hi lo n).marks = s.marks := rfl
@[simp] theorem State.addFld_hydroWork (s : State) (a hi lo n : Nat) : (s.addFld a hi lo n).hydroWork = s.hydroWork := rfl
@[simp] theorem State.addFld_macs (s : State) (a hi lo n : Nat) : (s.addFld a hi lo n).macs = s.macs := rfl
@[simp] theorem State.addFld_netOut (s : State) (a hi lo n : Nat) : (s.addFld a hi lo n).netOut = s.netOut := rfl
@[simp] theorem State.addFld_quay (s : State) (a hi lo n : Nat) : (s.addFld a hi lo n).quay = s.quay := rfl
@[simp] theorem State.addFld_hm (s : State) (a hi lo n : Nat) : (s.addFld a hi lo n).hm = s.hm := rfl
@[simp] theorem State.addFld_freeCtr (s : State) (a hi lo n : Nat) : (s.addFld a hi lo n).freeCtr = s.freeCtr := rfl
@[simp] theorem State.addFld_pending (s : State) (a hi lo n : Nat) : (s.addFld a hi lo n).pending = s.pending := rfl

/-! ### usedFree -/

@[simp] theorem State.usedFree_regs (s : State) : (s.usedFree).regs = s.regs := rfl
@[simp] theorem State.usedFree_guards (s : State) : (s.usedFree).guards = s.guards := rfl
@[simp] theorem State.usedFree_mem (s : State) : (s.usedFree).mem = s.mem := rfl
@[simp] theorem State.usedFree_memErr (s : State) : (s.usedFree).memErr = s.memErr := rfl
@[simp] theorem State.usedFree_time (s : State) : (s.usedFree).time = s.time := rfl
@[simp] theorem State.usedFree_bbr (s : State) : (s.usedFree).bbr = s.bbr := rfl
@[simp] theorem State.usedFree_otp (s : State) : (s.usedFree).otp = s.otp := rfl
@[simp] theorem State.usedFree_host (s : State) : (s.usedFree).host = s.host := rfl
@[simp] theorem State.usedFree_boot (s : State) : (s.usedFree).boot = s.boot := rfl
@[simp] theorem State.usedFree_ptp (s : State) : (s.usedFree).ptp = s.ptp := rfl
@[simp] theorem State.usedFree_omx (s : State) : (s.usedFree).omx = s.omx := rfl
@[simp] theorem State.usedFree_wc (s : State) : (s.usedFree).wc = s.wc := rfl
@[simp] theorem State.usedFree_chans (s : State) : (s.usedFree).chans = s.chans := rfl
@[simp] theorem State.usedFree_chansWork (s : State) : (s.usedFree).chansWork = s.chansWork := rfl
@[simp] theorem State.usedFree_gens (s : State) : (s.usedFree).gens = s.gens := rfl
@[simp] theorem State.usedFree_changes (s : State) : (s.usedFree).changes = s.changes := rfl
@[simp] theorem State.usedFree_programs (s : State) : (s.usedFree).programs = s.programs := rfl
@[simp] theorem State.usedFree_tl (s : State) : (s.usedFree).tl = s.tl := rfl
@[simp] theorem State.usedFree_slip (s : State) : (s.usedFree).slip = s.slip := rfl
@[simp] theorem State.usedFree_flash (s : State) : (s.usedFree).flash = s.flash := rfl
@[simp] theorem State.usedFree_journal (s : State) : (s.usedFree).journal = s.journal := rfl
@[simp] theorem State.usedFree_uarts (s : State) : (s.usedFree).uarts = s.uarts := rfl
@[simp] theorem State.usedFree_cans (s : State) : (s.usedFree).cans = s.cans := rfl
@[simp] theorem State.usedFree_duty (s : State) : (s.usedFree).duty = s.duty := rfl
@[simp] theorem State.usedFree_wear (s : State) : (s.usedFree).wear = s.wear := rfl
@[simp] theorem State.usedFree_cal (s : State) : (s.usedFree).cal = s.cal := rfl
@[simp] theorem State.usedFree_trims (s : State) : (s.usedFree).trims = s.trims := rfl
@[simp] theorem State.usedFree_trimLast (s : State) : (s.usedFree).trimLast = s.trimLast := rfl
@[simp] theorem State.usedFree_plaus (s : State) : (s.usedFree).plaus = s.plaus := rfl
@[simp] theorem State.usedFree_drift (s : State) : (s.usedFree).drift = s.drift := rfl
@[simp] theorem State.usedFree_scrub (s : State) : (s.usedFree).scrub = s.scrub := rfl
@[simp] theorem State.usedFree_tx (s : State) : (s.usedFree).tx = s.tx := rfl
@[simp] theorem State.usedFree_ves (s : State) : (s.usedFree).ves = s.ves := rfl
@[simp] theorem State.usedFree_plain (s : State) : (s.usedFree).plain = s.plain := rfl
@[simp] theorem State.usedFree_pilot (s : State) : (s.usedFree).pilot = s.pilot := rfl
@[simp] theorem State.usedFree_pulses (s : State) : (s.usedFree).pulses = s.pulses := rfl
@[simp] theorem State.usedFree_reclaim (s : State) : (s.usedFree).reclaim = s.reclaim := rfl
@[simp] theorem State.usedFree_bus (s : State) : (s.usedFree).bus = s.bus := rfl
@[simp] theorem State.usedFree_held (s : State) : (s.usedFree).held = s.held := rfl
@[simp] theorem State.usedFree_pwrWait (s : State) : (s.usedFree).pwrWait = s.pwrWait := rfl
@[simp] theorem State.usedFree_atPort (s : State) : (s.usedFree).atPort = s.atPort := rfl
@[simp] theorem State.usedFree_paths (s : State) : (s.usedFree).paths = s.paths := rfl
@[simp] theorem State.usedFree_answers (s : State) : (s.usedFree).answers = s.answers := rfl
@[simp] theorem State.usedFree_fw (s : State) : (s.usedFree).fw = s.fw := rfl
@[simp] theorem State.usedFree_dbg (s : State) : (s.usedFree).dbg = s.dbg := rfl
@[simp] theorem State.usedFree_deferred (s : State) : (s.usedFree).deferred = s.deferred := rfl
@[simp] theorem State.usedFree_lostClocks (s : State) : (s.usedFree).lostClocks = s.lostClocks := rfl
@[simp] theorem State.usedFree_wdtUs (s : State) : (s.usedFree).wdtUs = s.wdtUs := rfl
@[simp] theorem State.usedFree_belowUs (s : State) : (s.usedFree).belowUs = s.belowUs := rfl
@[simp] theorem State.usedFree_sagAsked (s : State) : (s.usedFree).sagAsked = s.sagAsked := rfl
@[simp] theorem State.usedFree_marks (s : State) : (s.usedFree).marks = s.marks := rfl
@[simp] theorem State.usedFree_hydroWork (s : State) : (s.usedFree).hydroWork = s.hydroWork := rfl
@[simp] theorem State.usedFree_macs (s : State) : (s.usedFree).macs = s.macs := rfl
@[simp] theorem State.usedFree_netOut (s : State) : (s.usedFree).netOut = s.netOut := rfl
@[simp] theorem State.usedFree_quay (s : State) : (s.usedFree).quay = s.quay := rfl
@[simp] theorem State.usedFree_hm (s : State) : (s.usedFree).hm = s.hm := rfl
@[simp] theorem State.usedFree_pending (s : State) : (s.usedFree).pending = s.pending := rfl

/-! ### setGuard -/

@[simp] theorem State.setGuard_regs (s : State) (b : Nat) (g : Guard) : (s.setGuard b g).regs = s.regs := rfl
@[simp] theorem State.setGuard_mem (s : State) (b : Nat) (g : Guard) : (s.setGuard b g).mem = s.mem := rfl
@[simp] theorem State.setGuard_memErr (s : State) (b : Nat) (g : Guard) : (s.setGuard b g).memErr = s.memErr := rfl
@[simp] theorem State.setGuard_time (s : State) (b : Nat) (g : Guard) : (s.setGuard b g).time = s.time := rfl
@[simp] theorem State.setGuard_bbr (s : State) (b : Nat) (g : Guard) : (s.setGuard b g).bbr = s.bbr := rfl
@[simp] theorem State.setGuard_otp (s : State) (b : Nat) (g : Guard) : (s.setGuard b g).otp = s.otp := rfl
@[simp] theorem State.setGuard_host (s : State) (b : Nat) (g : Guard) : (s.setGuard b g).host = s.host := rfl
@[simp] theorem State.setGuard_boot (s : State) (b : Nat) (g : Guard) : (s.setGuard b g).boot = s.boot := rfl
@[simp] theorem State.setGuard_ptp (s : State) (b : Nat) (g : Guard) : (s.setGuard b g).ptp = s.ptp := rfl
@[simp] theorem State.setGuard_omx (s : State) (b : Nat) (g : Guard) : (s.setGuard b g).omx = s.omx := rfl
@[simp] theorem State.setGuard_wc (s : State) (b : Nat) (g : Guard) : (s.setGuard b g).wc = s.wc := rfl
@[simp] theorem State.setGuard_chans (s : State) (b : Nat) (g : Guard) : (s.setGuard b g).chans = s.chans := rfl
@[simp] theorem State.setGuard_chansWork (s : State) (b : Nat) (g : Guard) : (s.setGuard b g).chansWork = s.chansWork := rfl
@[simp] theorem State.setGuard_gens (s : State) (b : Nat) (g : Guard) : (s.setGuard b g).gens = s.gens := rfl
@[simp] theorem State.setGuard_changes (s : State) (b : Nat) (g : Guard) : (s.setGuard b g).changes = s.changes := rfl
@[simp] theorem State.setGuard_programs (s : State) (b : Nat) (g : Guard) : (s.setGuard b g).programs = s.programs := rfl
@[simp] theorem State.setGuard_tl (s : State) (b : Nat) (g : Guard) : (s.setGuard b g).tl = s.tl := rfl
@[simp] theorem State.setGuard_slip (s : State) (b : Nat) (g : Guard) : (s.setGuard b g).slip = s.slip := rfl
@[simp] theorem State.setGuard_flash (s : State) (b : Nat) (g : Guard) : (s.setGuard b g).flash = s.flash := rfl
@[simp] theorem State.setGuard_journal (s : State) (b : Nat) (g : Guard) : (s.setGuard b g).journal = s.journal := rfl
@[simp] theorem State.setGuard_uarts (s : State) (b : Nat) (g : Guard) : (s.setGuard b g).uarts = s.uarts := rfl
@[simp] theorem State.setGuard_cans (s : State) (b : Nat) (g : Guard) : (s.setGuard b g).cans = s.cans := rfl
@[simp] theorem State.setGuard_duty (s : State) (b : Nat) (g : Guard) : (s.setGuard b g).duty = s.duty := rfl
@[simp] theorem State.setGuard_wear (s : State) (b : Nat) (g : Guard) : (s.setGuard b g).wear = s.wear := rfl
@[simp] theorem State.setGuard_cal (s : State) (b : Nat) (g : Guard) : (s.setGuard b g).cal = s.cal := rfl
@[simp] theorem State.setGuard_trims (s : State) (b : Nat) (g : Guard) : (s.setGuard b g).trims = s.trims := rfl
@[simp] theorem State.setGuard_trimLast (s : State) (b : Nat) (g : Guard) : (s.setGuard b g).trimLast = s.trimLast := rfl
@[simp] theorem State.setGuard_plaus (s : State) (b : Nat) (g : Guard) : (s.setGuard b g).plaus = s.plaus := rfl
@[simp] theorem State.setGuard_drift (s : State) (b : Nat) (g : Guard) : (s.setGuard b g).drift = s.drift := rfl
@[simp] theorem State.setGuard_scrub (s : State) (b : Nat) (g : Guard) : (s.setGuard b g).scrub = s.scrub := rfl
@[simp] theorem State.setGuard_tx (s : State) (b : Nat) (g : Guard) : (s.setGuard b g).tx = s.tx := rfl
@[simp] theorem State.setGuard_ves (s : State) (b : Nat) (g : Guard) : (s.setGuard b g).ves = s.ves := rfl
@[simp] theorem State.setGuard_plain (s : State) (b : Nat) (g : Guard) : (s.setGuard b g).plain = s.plain := rfl
@[simp] theorem State.setGuard_pilot (s : State) (b : Nat) (g : Guard) : (s.setGuard b g).pilot = s.pilot := rfl
@[simp] theorem State.setGuard_pulses (s : State) (b : Nat) (g : Guard) : (s.setGuard b g).pulses = s.pulses := rfl
@[simp] theorem State.setGuard_reclaim (s : State) (b : Nat) (g : Guard) : (s.setGuard b g).reclaim = s.reclaim := rfl
@[simp] theorem State.setGuard_bus (s : State) (b : Nat) (g : Guard) : (s.setGuard b g).bus = s.bus := rfl
@[simp] theorem State.setGuard_held (s : State) (b : Nat) (g : Guard) : (s.setGuard b g).held = s.held := rfl
@[simp] theorem State.setGuard_pwrWait (s : State) (b : Nat) (g : Guard) : (s.setGuard b g).pwrWait = s.pwrWait := rfl
@[simp] theorem State.setGuard_atPort (s : State) (b : Nat) (g : Guard) : (s.setGuard b g).atPort = s.atPort := rfl
@[simp] theorem State.setGuard_paths (s : State) (b : Nat) (g : Guard) : (s.setGuard b g).paths = s.paths := rfl
@[simp] theorem State.setGuard_answers (s : State) (b : Nat) (g : Guard) : (s.setGuard b g).answers = s.answers := rfl
@[simp] theorem State.setGuard_fw (s : State) (b : Nat) (g : Guard) : (s.setGuard b g).fw = s.fw := rfl
@[simp] theorem State.setGuard_dbg (s : State) (b : Nat) (g : Guard) : (s.setGuard b g).dbg = s.dbg := rfl
@[simp] theorem State.setGuard_deferred (s : State) (b : Nat) (g : Guard) : (s.setGuard b g).deferred = s.deferred := rfl
@[simp] theorem State.setGuard_lostClocks (s : State) (b : Nat) (g : Guard) : (s.setGuard b g).lostClocks = s.lostClocks := rfl
@[simp] theorem State.setGuard_wdtUs (s : State) (b : Nat) (g : Guard) : (s.setGuard b g).wdtUs = s.wdtUs := rfl
@[simp] theorem State.setGuard_belowUs (s : State) (b : Nat) (g : Guard) : (s.setGuard b g).belowUs = s.belowUs := rfl
@[simp] theorem State.setGuard_sagAsked (s : State) (b : Nat) (g : Guard) : (s.setGuard b g).sagAsked = s.sagAsked := rfl
@[simp] theorem State.setGuard_marks (s : State) (b : Nat) (g : Guard) : (s.setGuard b g).marks = s.marks := rfl
@[simp] theorem State.setGuard_hydroWork (s : State) (b : Nat) (g : Guard) : (s.setGuard b g).hydroWork = s.hydroWork := rfl
@[simp] theorem State.setGuard_macs (s : State) (b : Nat) (g : Guard) : (s.setGuard b g).macs = s.macs := rfl
@[simp] theorem State.setGuard_netOut (s : State) (b : Nat) (g : Guard) : (s.setGuard b g).netOut = s.netOut := rfl
@[simp] theorem State.setGuard_quay (s : State) (b : Nat) (g : Guard) : (s.setGuard b g).quay = s.quay := rfl
@[simp] theorem State.setGuard_hm (s : State) (b : Nat) (g : Guard) : (s.setGuard b g).hm = s.hm := rfl
@[simp] theorem State.setGuard_freeCtr (s : State) (b : Nat) (g : Guard) : (s.setGuard b g).freeCtr = s.freeCtr := rfl
@[simp] theorem State.setGuard_pending (s : State) (b : Nat) (g : Guard) : (s.setGuard b g).pending = s.pending := rfl

/-! ### setStation -/

@[simp] theorem State.setStation_regs (s : State) (id : Nat) (x : Station) : (s.setStation id x).regs = s.regs := rfl
@[simp] theorem State.setStation_guards (s : State) (id : Nat) (x : Station) : (s.setStation id x).guards = s.guards := rfl
@[simp] theorem State.setStation_mem (s : State) (id : Nat) (x : Station) : (s.setStation id x).mem = s.mem := rfl
@[simp] theorem State.setStation_memErr (s : State) (id : Nat) (x : Station) : (s.setStation id x).memErr = s.memErr := rfl
@[simp] theorem State.setStation_time (s : State) (id : Nat) (x : Station) : (s.setStation id x).time = s.time := rfl
@[simp] theorem State.setStation_bbr (s : State) (id : Nat) (x : Station) : (s.setStation id x).bbr = s.bbr := rfl
@[simp] theorem State.setStation_otp (s : State) (id : Nat) (x : Station) : (s.setStation id x).otp = s.otp := rfl
@[simp] theorem State.setStation_host (s : State) (id : Nat) (x : Station) : (s.setStation id x).host = s.host := rfl
@[simp] theorem State.setStation_boot (s : State) (id : Nat) (x : Station) : (s.setStation id x).boot = s.boot := rfl
@[simp] theorem State.setStation_ptp (s : State) (id : Nat) (x : Station) : (s.setStation id x).ptp = s.ptp := rfl
@[simp] theorem State.setStation_omx (s : State) (id : Nat) (x : Station) : (s.setStation id x).omx = s.omx := rfl
@[simp] theorem State.setStation_wc (s : State) (id : Nat) (x : Station) : (s.setStation id x).wc = s.wc := rfl
@[simp] theorem State.setStation_chans (s : State) (id : Nat) (x : Station) : (s.setStation id x).chans = s.chans := rfl
@[simp] theorem State.setStation_chansWork (s : State) (id : Nat) (x : Station) : (s.setStation id x).chansWork = s.chansWork := rfl
@[simp] theorem State.setStation_gens (s : State) (id : Nat) (x : Station) : (s.setStation id x).gens = s.gens := rfl
@[simp] theorem State.setStation_changes (s : State) (id : Nat) (x : Station) : (s.setStation id x).changes = s.changes := rfl
@[simp] theorem State.setStation_programs (s : State) (id : Nat) (x : Station) : (s.setStation id x).programs = s.programs := rfl
@[simp] theorem State.setStation_slip (s : State) (id : Nat) (x : Station) : (s.setStation id x).slip = s.slip := rfl
@[simp] theorem State.setStation_flash (s : State) (id : Nat) (x : Station) : (s.setStation id x).flash = s.flash := rfl
@[simp] theorem State.setStation_journal (s : State) (id : Nat) (x : Station) : (s.setStation id x).journal = s.journal := rfl
@[simp] theorem State.setStation_uarts (s : State) (id : Nat) (x : Station) : (s.setStation id x).uarts = s.uarts := rfl
@[simp] theorem State.setStation_cans (s : State) (id : Nat) (x : Station) : (s.setStation id x).cans = s.cans := rfl
@[simp] theorem State.setStation_duty (s : State) (id : Nat) (x : Station) : (s.setStation id x).duty = s.duty := rfl
@[simp] theorem State.setStation_wear (s : State) (id : Nat) (x : Station) : (s.setStation id x).wear = s.wear := rfl
@[simp] theorem State.setStation_cal (s : State) (id : Nat) (x : Station) : (s.setStation id x).cal = s.cal := rfl
@[simp] theorem State.setStation_trims (s : State) (id : Nat) (x : Station) : (s.setStation id x).trims = s.trims := rfl
@[simp] theorem State.setStation_trimLast (s : State) (id : Nat) (x : Station) : (s.setStation id x).trimLast = s.trimLast := rfl
@[simp] theorem State.setStation_plaus (s : State) (id : Nat) (x : Station) : (s.setStation id x).plaus = s.plaus := rfl
@[simp] theorem State.setStation_drift (s : State) (id : Nat) (x : Station) : (s.setStation id x).drift = s.drift := rfl
@[simp] theorem State.setStation_scrub (s : State) (id : Nat) (x : Station) : (s.setStation id x).scrub = s.scrub := rfl
@[simp] theorem State.setStation_tx (s : State) (id : Nat) (x : Station) : (s.setStation id x).tx = s.tx := rfl
@[simp] theorem State.setStation_ves (s : State) (id : Nat) (x : Station) : (s.setStation id x).ves = s.ves := rfl
@[simp] theorem State.setStation_plain (s : State) (id : Nat) (x : Station) : (s.setStation id x).plain = s.plain := rfl
@[simp] theorem State.setStation_pilot (s : State) (id : Nat) (x : Station) : (s.setStation id x).pilot = s.pilot := rfl
@[simp] theorem State.setStation_pulses (s : State) (id : Nat) (x : Station) : (s.setStation id x).pulses = s.pulses := rfl
@[simp] theorem State.setStation_reclaim (s : State) (id : Nat) (x : Station) : (s.setStation id x).reclaim = s.reclaim := rfl
@[simp] theorem State.setStation_bus (s : State) (id : Nat) (x : Station) : (s.setStation id x).bus = s.bus := rfl
@[simp] theorem State.setStation_held (s : State) (id : Nat) (x : Station) : (s.setStation id x).held = s.held := rfl
@[simp] theorem State.setStation_pwrWait (s : State) (id : Nat) (x : Station) : (s.setStation id x).pwrWait = s.pwrWait := rfl
@[simp] theorem State.setStation_atPort (s : State) (id : Nat) (x : Station) : (s.setStation id x).atPort = s.atPort := rfl
@[simp] theorem State.setStation_paths (s : State) (id : Nat) (x : Station) : (s.setStation id x).paths = s.paths := rfl
@[simp] theorem State.setStation_answers (s : State) (id : Nat) (x : Station) : (s.setStation id x).answers = s.answers := rfl
@[simp] theorem State.setStation_fw (s : State) (id : Nat) (x : Station) : (s.setStation id x).fw = s.fw := rfl
@[simp] theorem State.setStation_dbg (s : State) (id : Nat) (x : Station) : (s.setStation id x).dbg = s.dbg := rfl
@[simp] theorem State.setStation_deferred (s : State) (id : Nat) (x : Station) : (s.setStation id x).deferred = s.deferred := rfl
@[simp] theorem State.setStation_lostClocks (s : State) (id : Nat) (x : Station) : (s.setStation id x).lostClocks = s.lostClocks := rfl
@[simp] theorem State.setStation_wdtUs (s : State) (id : Nat) (x : Station) : (s.setStation id x).wdtUs = s.wdtUs := rfl
@[simp] theorem State.setStation_belowUs (s : State) (id : Nat) (x : Station) : (s.setStation id x).belowUs = s.belowUs := rfl
@[simp] theorem State.setStation_sagAsked (s : State) (id : Nat) (x : Station) : (s.setStation id x).sagAsked = s.sagAsked := rfl
@[simp] theorem State.setStation_marks (s : State) (id : Nat) (x : Station) : (s.setStation id x).marks = s.marks := rfl
@[simp] theorem State.setStation_hydroWork (s : State) (id : Nat) (x : Station) : (s.setStation id x).hydroWork = s.hydroWork := rfl
@[simp] theorem State.setStation_macs (s : State) (id : Nat) (x : Station) : (s.setStation id x).macs = s.macs := rfl
@[simp] theorem State.setStation_netOut (s : State) (id : Nat) (x : Station) : (s.setStation id x).netOut = s.netOut := rfl
@[simp] theorem State.setStation_quay (s : State) (id : Nat) (x : Station) : (s.setStation id x).quay = s.quay := rfl
@[simp] theorem State.setStation_hm (s : State) (id : Nat) (x : Station) : (s.setStation id x).hm = s.hm := rfl
@[simp] theorem State.setStation_freeCtr (s : State) (id : Nat) (x : Station) : (s.setStation id x).freeCtr = s.freeCtr := rfl
@[simp] theorem State.setStation_pending (s : State) (id : Nat) (x : Station) : (s.setStation id x).pending = s.pending := rfl

/-! ### updChan -/

@[simp] theorem State.updChan_regs (s : State) (n : Nat) (f : Channel → Channel) : (s.updChan n f).regs = s.regs := rfl
@[simp] theorem State.updChan_guards (s : State) (n : Nat) (f : Channel → Channel) : (s.updChan n f).guards = s.guards := rfl
@[simp] theorem State.updChan_mem (s : State) (n : Nat) (f : Channel → Channel) : (s.updChan n f).mem = s.mem := rfl
@[simp] theorem State.updChan_memErr (s : State) (n : Nat) (f : Channel → Channel) : (s.updChan n f).memErr = s.memErr := rfl
@[simp] theorem State.updChan_time (s : State) (n : Nat) (f : Channel → Channel) : (s.updChan n f).time = s.time := rfl
@[simp] theorem State.updChan_bbr (s : State) (n : Nat) (f : Channel → Channel) : (s.updChan n f).bbr = s.bbr := rfl
@[simp] theorem State.updChan_otp (s : State) (n : Nat) (f : Channel → Channel) : (s.updChan n f).otp = s.otp := rfl
@[simp] theorem State.updChan_host (s : State) (n : Nat) (f : Channel → Channel) : (s.updChan n f).host = s.host := rfl
@[simp] theorem State.updChan_boot (s : State) (n : Nat) (f : Channel → Channel) : (s.updChan n f).boot = s.boot := rfl
@[simp] theorem State.updChan_ptp (s : State) (n : Nat) (f : Channel → Channel) : (s.updChan n f).ptp = s.ptp := rfl
@[simp] theorem State.updChan_omx (s : State) (n : Nat) (f : Channel → Channel) : (s.updChan n f).omx = s.omx := rfl
@[simp] theorem State.updChan_wc (s : State) (n : Nat) (f : Channel → Channel) : (s.updChan n f).wc = s.wc := rfl
@[simp] theorem State.updChan_gens (s : State) (n : Nat) (f : Channel → Channel) : (s.updChan n f).gens = s.gens := rfl
@[simp] theorem State.updChan_changes (s : State) (n : Nat) (f : Channel → Channel) : (s.updChan n f).changes = s.changes := rfl
@[simp] theorem State.updChan_programs (s : State) (n : Nat) (f : Channel → Channel) : (s.updChan n f).programs = s.programs := rfl
@[simp] theorem State.updChan_tl (s : State) (n : Nat) (f : Channel → Channel) : (s.updChan n f).tl = s.tl := rfl
@[simp] theorem State.updChan_slip (s : State) (n : Nat) (f : Channel → Channel) : (s.updChan n f).slip = s.slip := rfl
@[simp] theorem State.updChan_flash (s : State) (n : Nat) (f : Channel → Channel) : (s.updChan n f).flash = s.flash := rfl
@[simp] theorem State.updChan_journal (s : State) (n : Nat) (f : Channel → Channel) : (s.updChan n f).journal = s.journal := rfl
@[simp] theorem State.updChan_uarts (s : State) (n : Nat) (f : Channel → Channel) : (s.updChan n f).uarts = s.uarts := rfl
@[simp] theorem State.updChan_cans (s : State) (n : Nat) (f : Channel → Channel) : (s.updChan n f).cans = s.cans := rfl
@[simp] theorem State.updChan_duty (s : State) (n : Nat) (f : Channel → Channel) : (s.updChan n f).duty = s.duty := rfl
@[simp] theorem State.updChan_wear (s : State) (n : Nat) (f : Channel → Channel) : (s.updChan n f).wear = s.wear := rfl
@[simp] theorem State.updChan_cal (s : State) (n : Nat) (f : Channel → Channel) : (s.updChan n f).cal = s.cal := rfl
@[simp] theorem State.updChan_trims (s : State) (n : Nat) (f : Channel → Channel) : (s.updChan n f).trims = s.trims := rfl
@[simp] theorem State.updChan_trimLast (s : State) (n : Nat) (f : Channel → Channel) : (s.updChan n f).trimLast = s.trimLast := rfl
@[simp] theorem State.updChan_plaus (s : State) (n : Nat) (f : Channel → Channel) : (s.updChan n f).plaus = s.plaus := rfl
@[simp] theorem State.updChan_drift (s : State) (n : Nat) (f : Channel → Channel) : (s.updChan n f).drift = s.drift := rfl
@[simp] theorem State.updChan_scrub (s : State) (n : Nat) (f : Channel → Channel) : (s.updChan n f).scrub = s.scrub := rfl
@[simp] theorem State.updChan_tx (s : State) (n : Nat) (f : Channel → Channel) : (s.updChan n f).tx = s.tx := rfl
@[simp] theorem State.updChan_ves (s : State) (n : Nat) (f : Channel → Channel) : (s.updChan n f).ves = s.ves := rfl
@[simp] theorem State.updChan_plain (s : State) (n : Nat) (f : Channel → Channel) : (s.updChan n f).plain = s.plain := rfl
@[simp] theorem State.updChan_pilot (s : State) (n : Nat) (f : Channel → Channel) : (s.updChan n f).pilot = s.pilot := rfl
@[simp] theorem State.updChan_pulses (s : State) (n : Nat) (f : Channel → Channel) : (s.updChan n f).pulses = s.pulses := rfl
@[simp] theorem State.updChan_reclaim (s : State) (n : Nat) (f : Channel → Channel) : (s.updChan n f).reclaim = s.reclaim := rfl
@[simp] theorem State.updChan_bus (s : State) (n : Nat) (f : Channel → Channel) : (s.updChan n f).bus = s.bus := rfl
@[simp] theorem State.updChan_held (s : State) (n : Nat) (f : Channel → Channel) : (s.updChan n f).held = s.held := rfl
@[simp] theorem State.updChan_pwrWait (s : State) (n : Nat) (f : Channel → Channel) : (s.updChan n f).pwrWait = s.pwrWait := rfl
@[simp] theorem State.updChan_atPort (s : State) (n : Nat) (f : Channel → Channel) : (s.updChan n f).atPort = s.atPort := rfl
@[simp] theorem State.updChan_paths (s : State) (n : Nat) (f : Channel → Channel) : (s.updChan n f).paths = s.paths := rfl
@[simp] theorem State.updChan_answers (s : State) (n : Nat) (f : Channel → Channel) : (s.updChan n f).answers = s.answers := rfl
@[simp] theorem State.updChan_fw (s : State) (n : Nat) (f : Channel → Channel) : (s.updChan n f).fw = s.fw := rfl
@[simp] theorem State.updChan_dbg (s : State) (n : Nat) (f : Channel → Channel) : (s.updChan n f).dbg = s.dbg := rfl
@[simp] theorem State.updChan_deferred (s : State) (n : Nat) (f : Channel → Channel) : (s.updChan n f).deferred = s.deferred := rfl
@[simp] theorem State.updChan_lostClocks (s : State) (n : Nat) (f : Channel → Channel) : (s.updChan n f).lostClocks = s.lostClocks := rfl
@[simp] theorem State.updChan_wdtUs (s : State) (n : Nat) (f : Channel → Channel) : (s.updChan n f).wdtUs = s.wdtUs := rfl
@[simp] theorem State.updChan_belowUs (s : State) (n : Nat) (f : Channel → Channel) : (s.updChan n f).belowUs = s.belowUs := rfl
@[simp] theorem State.updChan_sagAsked (s : State) (n : Nat) (f : Channel → Channel) : (s.updChan n f).sagAsked = s.sagAsked := rfl
@[simp] theorem State.updChan_marks (s : State) (n : Nat) (f : Channel → Channel) : (s.updChan n f).marks = s.marks := rfl
@[simp] theorem State.updChan_hydroWork (s : State) (n : Nat) (f : Channel → Channel) : (s.updChan n f).hydroWork = s.hydroWork := rfl
@[simp] theorem State.updChan_macs (s : State) (n : Nat) (f : Channel → Channel) : (s.updChan n f).macs = s.macs := rfl
@[simp] theorem State.updChan_netOut (s : State) (n : Nat) (f : Channel → Channel) : (s.updChan n f).netOut = s.netOut := rfl
@[simp] theorem State.updChan_quay (s : State) (n : Nat) (f : Channel → Channel) : (s.updChan n f).quay = s.quay := rfl
@[simp] theorem State.updChan_hm (s : State) (n : Nat) (f : Channel → Channel) : (s.updChan n f).hm = s.hm := rfl
@[simp] theorem State.updChan_freeCtr (s : State) (n : Nat) (f : Channel → Channel) : (s.updChan n f).freeCtr = s.freeCtr := rfl
@[simp] theorem State.updChan_pending (s : State) (n : Nat) (f : Channel → Channel) : (s.updChan n f).pending = s.pending := rfl

/-! ### The black-box appender: registers and recorder only -/

@[simp] theorem State.bbrPut_guards (s : State) (e : BbrEntry) (k : Bool) : (s.bbrPut e k).guards = s.guards := by
  unfold State.bbrPut; simp only []; (repeat' split) <;> rfl
@[simp] theorem State.bbrPut_mem (s : State) (e : BbrEntry) (k : Bool) : (s.bbrPut e k).mem = s.mem := by
  unfold State.bbrPut; simp only []; (repeat' split) <;> rfl
@[simp] theorem State.bbrPut_memErr (s : State) (e : BbrEntry) (k : Bool) : (s.bbrPut e k).memErr = s.memErr := by
  unfold State.bbrPut; simp only []; (repeat' split) <;> rfl
@[simp] theorem State.bbrPut_time (s : State) (e : BbrEntry) (k : Bool) : (s.bbrPut e k).time = s.time := by
  unfold State.bbrPut; simp only []; (repeat' split) <;> rfl
@[simp] theorem State.bbrPut_otp (s : State) (e : BbrEntry) (k : Bool) : (s.bbrPut e k).otp = s.otp := by
  unfold State.bbrPut; simp only []; (repeat' split) <;> rfl
@[simp] theorem State.bbrPut_host (s : State) (e : BbrEntry) (k : Bool) : (s.bbrPut e k).host = s.host := by
  unfold State.bbrPut; simp only []; (repeat' split) <;> rfl
@[simp] theorem State.bbrPut_boot (s : State) (e : BbrEntry) (k : Bool) : (s.bbrPut e k).boot = s.boot := by
  unfold State.bbrPut; simp only []; (repeat' split) <;> rfl
@[simp] theorem State.bbrPut_ptp (s : State) (e : BbrEntry) (k : Bool) : (s.bbrPut e k).ptp = s.ptp := by
  unfold State.bbrPut; simp only []; (repeat' split) <;> rfl
@[simp] theorem State.bbrPut_omx (s : State) (e : BbrEntry) (k : Bool) : (s.bbrPut e k).omx = s.omx := by
  unfold State.bbrPut; simp only []; (repeat' split) <;> rfl
@[simp] theorem State.bbrPut_wc (s : State) (e : BbrEntry) (k : Bool) : (s.bbrPut e k).wc = s.wc := by
  unfold State.bbrPut; simp only []; (repeat' split) <;> rfl
@[simp] theorem State.bbrPut_chans (s : State) (e : BbrEntry) (k : Bool) : (s.bbrPut e k).chans = s.chans := by
  unfold State.bbrPut; simp only []; (repeat' split) <;> rfl
@[simp] theorem State.bbrPut_chansWork (s : State) (e : BbrEntry) (k : Bool) : (s.bbrPut e k).chansWork = s.chansWork := by
  unfold State.bbrPut; simp only []; (repeat' split) <;> rfl
@[simp] theorem State.bbrPut_gens (s : State) (e : BbrEntry) (k : Bool) : (s.bbrPut e k).gens = s.gens := by
  unfold State.bbrPut; simp only []; (repeat' split) <;> rfl
@[simp] theorem State.bbrPut_changes (s : State) (e : BbrEntry) (k : Bool) : (s.bbrPut e k).changes = s.changes := by
  unfold State.bbrPut; simp only []; (repeat' split) <;> rfl
@[simp] theorem State.bbrPut_programs (s : State) (e : BbrEntry) (k : Bool) : (s.bbrPut e k).programs = s.programs := by
  unfold State.bbrPut; simp only []; (repeat' split) <;> rfl
@[simp] theorem State.bbrPut_tl (s : State) (e : BbrEntry) (k : Bool) : (s.bbrPut e k).tl = s.tl := by
  unfold State.bbrPut; simp only []; (repeat' split) <;> rfl
@[simp] theorem State.bbrPut_slip (s : State) (e : BbrEntry) (k : Bool) : (s.bbrPut e k).slip = s.slip := by
  unfold State.bbrPut; simp only []; (repeat' split) <;> rfl
@[simp] theorem State.bbrPut_flash (s : State) (e : BbrEntry) (k : Bool) : (s.bbrPut e k).flash = s.flash := by
  unfold State.bbrPut; simp only []; (repeat' split) <;> rfl
@[simp] theorem State.bbrPut_journal (s : State) (e : BbrEntry) (k : Bool) : (s.bbrPut e k).journal = s.journal := by
  unfold State.bbrPut; simp only []; (repeat' split) <;> rfl
@[simp] theorem State.bbrPut_uarts (s : State) (e : BbrEntry) (k : Bool) : (s.bbrPut e k).uarts = s.uarts := by
  unfold State.bbrPut; simp only []; (repeat' split) <;> rfl
@[simp] theorem State.bbrPut_cans (s : State) (e : BbrEntry) (k : Bool) : (s.bbrPut e k).cans = s.cans := by
  unfold State.bbrPut; simp only []; (repeat' split) <;> rfl
@[simp] theorem State.bbrPut_duty (s : State) (e : BbrEntry) (k : Bool) : (s.bbrPut e k).duty = s.duty := by
  unfold State.bbrPut; simp only []; (repeat' split) <;> rfl
@[simp] theorem State.bbrPut_wear (s : State) (e : BbrEntry) (k : Bool) : (s.bbrPut e k).wear = s.wear := by
  unfold State.bbrPut; simp only []; (repeat' split) <;> rfl
@[simp] theorem State.bbrPut_cal (s : State) (e : BbrEntry) (k : Bool) : (s.bbrPut e k).cal = s.cal := by
  unfold State.bbrPut; simp only []; (repeat' split) <;> rfl
@[simp] theorem State.bbrPut_trims (s : State) (e : BbrEntry) (k : Bool) : (s.bbrPut e k).trims = s.trims := by
  unfold State.bbrPut; simp only []; (repeat' split) <;> rfl
@[simp] theorem State.bbrPut_trimLast (s : State) (e : BbrEntry) (k : Bool) : (s.bbrPut e k).trimLast = s.trimLast := by
  unfold State.bbrPut; simp only []; (repeat' split) <;> rfl
@[simp] theorem State.bbrPut_plaus (s : State) (e : BbrEntry) (k : Bool) : (s.bbrPut e k).plaus = s.plaus := by
  unfold State.bbrPut; simp only []; (repeat' split) <;> rfl
@[simp] theorem State.bbrPut_drift (s : State) (e : BbrEntry) (k : Bool) : (s.bbrPut e k).drift = s.drift := by
  unfold State.bbrPut; simp only []; (repeat' split) <;> rfl
@[simp] theorem State.bbrPut_scrub (s : State) (e : BbrEntry) (k : Bool) : (s.bbrPut e k).scrub = s.scrub := by
  unfold State.bbrPut; simp only []; (repeat' split) <;> rfl
@[simp] theorem State.bbrPut_tx (s : State) (e : BbrEntry) (k : Bool) : (s.bbrPut e k).tx = s.tx := by
  unfold State.bbrPut; simp only []; (repeat' split) <;> rfl
@[simp] theorem State.bbrPut_ves (s : State) (e : BbrEntry) (k : Bool) : (s.bbrPut e k).ves = s.ves := by
  unfold State.bbrPut; simp only []; (repeat' split) <;> rfl
@[simp] theorem State.bbrPut_plain (s : State) (e : BbrEntry) (k : Bool) : (s.bbrPut e k).plain = s.plain := by
  unfold State.bbrPut; simp only []; (repeat' split) <;> rfl
@[simp] theorem State.bbrPut_pilot (s : State) (e : BbrEntry) (k : Bool) : (s.bbrPut e k).pilot = s.pilot := by
  unfold State.bbrPut; simp only []; (repeat' split) <;> rfl
@[simp] theorem State.bbrPut_pulses (s : State) (e : BbrEntry) (k : Bool) : (s.bbrPut e k).pulses = s.pulses := by
  unfold State.bbrPut; simp only []; (repeat' split) <;> rfl
@[simp] theorem State.bbrPut_reclaim (s : State) (e : BbrEntry) (k : Bool) : (s.bbrPut e k).reclaim = s.reclaim := by
  unfold State.bbrPut; simp only []; (repeat' split) <;> rfl
@[simp] theorem State.bbrPut_bus (s : State) (e : BbrEntry) (k : Bool) : (s.bbrPut e k).bus = s.bus := by
  unfold State.bbrPut; simp only []; (repeat' split) <;> rfl
@[simp] theorem State.bbrPut_held (s : State) (e : BbrEntry) (k : Bool) : (s.bbrPut e k).held = s.held := by
  unfold State.bbrPut; simp only []; (repeat' split) <;> rfl
@[simp] theorem State.bbrPut_pwrWait (s : State) (e : BbrEntry) (k : Bool) : (s.bbrPut e k).pwrWait = s.pwrWait := by
  unfold State.bbrPut; simp only []; (repeat' split) <;> rfl
@[simp] theorem State.bbrPut_atPort (s : State) (e : BbrEntry) (k : Bool) : (s.bbrPut e k).atPort = s.atPort := by
  unfold State.bbrPut; simp only []; (repeat' split) <;> rfl
@[simp] theorem State.bbrPut_paths (s : State) (e : BbrEntry) (k : Bool) : (s.bbrPut e k).paths = s.paths := by
  unfold State.bbrPut; simp only []; (repeat' split) <;> rfl
@[simp] theorem State.bbrPut_answers (s : State) (e : BbrEntry) (k : Bool) : (s.bbrPut e k).answers = s.answers := by
  unfold State.bbrPut; simp only []; (repeat' split) <;> rfl
@[simp] theorem State.bbrPut_fw (s : State) (e : BbrEntry) (k : Bool) : (s.bbrPut e k).fw = s.fw := by
  unfold State.bbrPut; simp only []; (repeat' split) <;> rfl
@[simp] theorem State.bbrPut_dbg (s : State) (e : BbrEntry) (k : Bool) : (s.bbrPut e k).dbg = s.dbg := by
  unfold State.bbrPut; simp only []; (repeat' split) <;> rfl
@[simp] theorem State.bbrPut_deferred (s : State) (e : BbrEntry) (k : Bool) : (s.bbrPut e k).deferred = s.deferred := by
  unfold State.bbrPut; simp only []; (repeat' split) <;> rfl
@[simp] theorem State.bbrPut_lostClocks (s : State) (e : BbrEntry) (k : Bool) : (s.bbrPut e k).lostClocks = s.lostClocks := by
  unfold State.bbrPut; simp only []; (repeat' split) <;> rfl
@[simp] theorem State.bbrPut_wdtUs (s : State) (e : BbrEntry) (k : Bool) : (s.bbrPut e k).wdtUs = s.wdtUs := by
  unfold State.bbrPut; simp only []; (repeat' split) <;> rfl
@[simp] theorem State.bbrPut_belowUs (s : State) (e : BbrEntry) (k : Bool) : (s.bbrPut e k).belowUs = s.belowUs := by
  unfold State.bbrPut; simp only []; (repeat' split) <;> rfl
@[simp] theorem State.bbrPut_sagAsked (s : State) (e : BbrEntry) (k : Bool) : (s.bbrPut e k).sagAsked = s.sagAsked := by
  unfold State.bbrPut; simp only []; (repeat' split) <;> rfl
@[simp] theorem State.bbrPut_marks (s : State) (e : BbrEntry) (k : Bool) : (s.bbrPut e k).marks = s.marks := by
  unfold State.bbrPut; simp only []; (repeat' split) <;> rfl
@[simp] theorem State.bbrPut_hydroWork (s : State) (e : BbrEntry) (k : Bool) : (s.bbrPut e k).hydroWork = s.hydroWork := by
  unfold State.bbrPut; simp only []; (repeat' split) <;> rfl
@[simp] theorem State.bbrPut_macs (s : State) (e : BbrEntry) (k : Bool) : (s.bbrPut e k).macs = s.macs := by
  unfold State.bbrPut; simp only []; (repeat' split) <;> rfl
@[simp] theorem State.bbrPut_netOut (s : State) (e : BbrEntry) (k : Bool) : (s.bbrPut e k).netOut = s.netOut := by
  unfold State.bbrPut; simp only []; (repeat' split) <;> rfl
@[simp] theorem State.bbrPut_quay (s : State) (e : BbrEntry) (k : Bool) : (s.bbrPut e k).quay = s.quay := by
  unfold State.bbrPut; simp only []; (repeat' split) <;> rfl
@[simp] theorem State.bbrPut_hm (s : State) (e : BbrEntry) (k : Bool) : (s.bbrPut e k).hm = s.hm := by
  unfold State.bbrPut; simp only []; (repeat' split) <;> rfl
@[simp] theorem State.bbrPut_freeCtr (s : State) (e : BbrEntry) (k : Bool) : (s.bbrPut e k).freeCtr = s.freeCtr := by
  unfold State.bbrPut; simp only []; (repeat' split) <;> rfl
@[simp] theorem State.bbrPut_pending (s : State) (e : BbrEntry) (k : Bool) : (s.bbrPut e k).pending = s.pending := by
  unfold State.bbrPut; simp only []; (repeat' split) <;> rfl
@[simp] theorem State.bbrA_guards (s : State) (v c r : Nat) (p : Word) (g : Nat) (k : Bool) : (s.bbrA v c r p g k).guards = s.guards := by
  unfold State.bbrA; split
  · rfl
  · exact State.bbrPut_guards ..
@[simp] theorem State.bbrB_guards (s : State) (v c r : Nat) (p : Word) (g : Nat) : (s.bbrB v c r p g).guards = s.guards :=
  State.bbrPut_guards ..
@[simp] theorem State.bbrA_mem (s : State) (v c r : Nat) (p : Word) (g : Nat) (k : Bool) : (s.bbrA v c r p g k).mem = s.mem := by
  unfold State.bbrA; split
  · rfl
  · exact State.bbrPut_mem ..
@[simp] theorem State.bbrB_mem (s : State) (v c r : Nat) (p : Word) (g : Nat) : (s.bbrB v c r p g).mem = s.mem :=
  State.bbrPut_mem ..
@[simp] theorem State.bbrA_memErr (s : State) (v c r : Nat) (p : Word) (g : Nat) (k : Bool) : (s.bbrA v c r p g k).memErr = s.memErr := by
  unfold State.bbrA; split
  · rfl
  · exact State.bbrPut_memErr ..
@[simp] theorem State.bbrB_memErr (s : State) (v c r : Nat) (p : Word) (g : Nat) : (s.bbrB v c r p g).memErr = s.memErr :=
  State.bbrPut_memErr ..
@[simp] theorem State.bbrA_time (s : State) (v c r : Nat) (p : Word) (g : Nat) (k : Bool) : (s.bbrA v c r p g k).time = s.time := by
  unfold State.bbrA; split
  · rfl
  · exact State.bbrPut_time ..
@[simp] theorem State.bbrB_time (s : State) (v c r : Nat) (p : Word) (g : Nat) : (s.bbrB v c r p g).time = s.time :=
  State.bbrPut_time ..
@[simp] theorem State.bbrA_otp (s : State) (v c r : Nat) (p : Word) (g : Nat) (k : Bool) : (s.bbrA v c r p g k).otp = s.otp := by
  unfold State.bbrA; split
  · rfl
  · exact State.bbrPut_otp ..
@[simp] theorem State.bbrB_otp (s : State) (v c r : Nat) (p : Word) (g : Nat) : (s.bbrB v c r p g).otp = s.otp :=
  State.bbrPut_otp ..
@[simp] theorem State.bbrA_host (s : State) (v c r : Nat) (p : Word) (g : Nat) (k : Bool) : (s.bbrA v c r p g k).host = s.host := by
  unfold State.bbrA; split
  · rfl
  · exact State.bbrPut_host ..
@[simp] theorem State.bbrB_host (s : State) (v c r : Nat) (p : Word) (g : Nat) : (s.bbrB v c r p g).host = s.host :=
  State.bbrPut_host ..
@[simp] theorem State.bbrA_boot (s : State) (v c r : Nat) (p : Word) (g : Nat) (k : Bool) : (s.bbrA v c r p g k).boot = s.boot := by
  unfold State.bbrA; split
  · rfl
  · exact State.bbrPut_boot ..
@[simp] theorem State.bbrB_boot (s : State) (v c r : Nat) (p : Word) (g : Nat) : (s.bbrB v c r p g).boot = s.boot :=
  State.bbrPut_boot ..
@[simp] theorem State.bbrA_ptp (s : State) (v c r : Nat) (p : Word) (g : Nat) (k : Bool) : (s.bbrA v c r p g k).ptp = s.ptp := by
  unfold State.bbrA; split
  · rfl
  · exact State.bbrPut_ptp ..
@[simp] theorem State.bbrB_ptp (s : State) (v c r : Nat) (p : Word) (g : Nat) : (s.bbrB v c r p g).ptp = s.ptp :=
  State.bbrPut_ptp ..
@[simp] theorem State.bbrA_omx (s : State) (v c r : Nat) (p : Word) (g : Nat) (k : Bool) : (s.bbrA v c r p g k).omx = s.omx := by
  unfold State.bbrA; split
  · rfl
  · exact State.bbrPut_omx ..
@[simp] theorem State.bbrB_omx (s : State) (v c r : Nat) (p : Word) (g : Nat) : (s.bbrB v c r p g).omx = s.omx :=
  State.bbrPut_omx ..
@[simp] theorem State.bbrA_wc (s : State) (v c r : Nat) (p : Word) (g : Nat) (k : Bool) : (s.bbrA v c r p g k).wc = s.wc := by
  unfold State.bbrA; split
  · rfl
  · exact State.bbrPut_wc ..
@[simp] theorem State.bbrB_wc (s : State) (v c r : Nat) (p : Word) (g : Nat) : (s.bbrB v c r p g).wc = s.wc :=
  State.bbrPut_wc ..
@[simp] theorem State.bbrA_chans (s : State) (v c r : Nat) (p : Word) (g : Nat) (k : Bool) : (s.bbrA v c r p g k).chans = s.chans := by
  unfold State.bbrA; split
  · rfl
  · exact State.bbrPut_chans ..
@[simp] theorem State.bbrB_chans (s : State) (v c r : Nat) (p : Word) (g : Nat) : (s.bbrB v c r p g).chans = s.chans :=
  State.bbrPut_chans ..
@[simp] theorem State.bbrA_chansWork (s : State) (v c r : Nat) (p : Word) (g : Nat) (k : Bool) : (s.bbrA v c r p g k).chansWork = s.chansWork := by
  unfold State.bbrA; split
  · rfl
  · exact State.bbrPut_chansWork ..
@[simp] theorem State.bbrB_chansWork (s : State) (v c r : Nat) (p : Word) (g : Nat) : (s.bbrB v c r p g).chansWork = s.chansWork :=
  State.bbrPut_chansWork ..
@[simp] theorem State.bbrA_gens (s : State) (v c r : Nat) (p : Word) (g : Nat) (k : Bool) : (s.bbrA v c r p g k).gens = s.gens := by
  unfold State.bbrA; split
  · rfl
  · exact State.bbrPut_gens ..
@[simp] theorem State.bbrB_gens (s : State) (v c r : Nat) (p : Word) (g : Nat) : (s.bbrB v c r p g).gens = s.gens :=
  State.bbrPut_gens ..
@[simp] theorem State.bbrA_changes (s : State) (v c r : Nat) (p : Word) (g : Nat) (k : Bool) : (s.bbrA v c r p g k).changes = s.changes := by
  unfold State.bbrA; split
  · rfl
  · exact State.bbrPut_changes ..
@[simp] theorem State.bbrB_changes (s : State) (v c r : Nat) (p : Word) (g : Nat) : (s.bbrB v c r p g).changes = s.changes :=
  State.bbrPut_changes ..
@[simp] theorem State.bbrA_programs (s : State) (v c r : Nat) (p : Word) (g : Nat) (k : Bool) : (s.bbrA v c r p g k).programs = s.programs := by
  unfold State.bbrA; split
  · rfl
  · exact State.bbrPut_programs ..
@[simp] theorem State.bbrB_programs (s : State) (v c r : Nat) (p : Word) (g : Nat) : (s.bbrB v c r p g).programs = s.programs :=
  State.bbrPut_programs ..
@[simp] theorem State.bbrA_tl (s : State) (v c r : Nat) (p : Word) (g : Nat) (k : Bool) : (s.bbrA v c r p g k).tl = s.tl := by
  unfold State.bbrA; split
  · rfl
  · exact State.bbrPut_tl ..
@[simp] theorem State.bbrB_tl (s : State) (v c r : Nat) (p : Word) (g : Nat) : (s.bbrB v c r p g).tl = s.tl :=
  State.bbrPut_tl ..
@[simp] theorem State.bbrA_slip (s : State) (v c r : Nat) (p : Word) (g : Nat) (k : Bool) : (s.bbrA v c r p g k).slip = s.slip := by
  unfold State.bbrA; split
  · rfl
  · exact State.bbrPut_slip ..
@[simp] theorem State.bbrB_slip (s : State) (v c r : Nat) (p : Word) (g : Nat) : (s.bbrB v c r p g).slip = s.slip :=
  State.bbrPut_slip ..
@[simp] theorem State.bbrA_flash (s : State) (v c r : Nat) (p : Word) (g : Nat) (k : Bool) : (s.bbrA v c r p g k).flash = s.flash := by
  unfold State.bbrA; split
  · rfl
  · exact State.bbrPut_flash ..
@[simp] theorem State.bbrB_flash (s : State) (v c r : Nat) (p : Word) (g : Nat) : (s.bbrB v c r p g).flash = s.flash :=
  State.bbrPut_flash ..
@[simp] theorem State.bbrA_journal (s : State) (v c r : Nat) (p : Word) (g : Nat) (k : Bool) : (s.bbrA v c r p g k).journal = s.journal := by
  unfold State.bbrA; split
  · rfl
  · exact State.bbrPut_journal ..
@[simp] theorem State.bbrB_journal (s : State) (v c r : Nat) (p : Word) (g : Nat) : (s.bbrB v c r p g).journal = s.journal :=
  State.bbrPut_journal ..
@[simp] theorem State.bbrA_uarts (s : State) (v c r : Nat) (p : Word) (g : Nat) (k : Bool) : (s.bbrA v c r p g k).uarts = s.uarts := by
  unfold State.bbrA; split
  · rfl
  · exact State.bbrPut_uarts ..
@[simp] theorem State.bbrB_uarts (s : State) (v c r : Nat) (p : Word) (g : Nat) : (s.bbrB v c r p g).uarts = s.uarts :=
  State.bbrPut_uarts ..
@[simp] theorem State.bbrA_cans (s : State) (v c r : Nat) (p : Word) (g : Nat) (k : Bool) : (s.bbrA v c r p g k).cans = s.cans := by
  unfold State.bbrA; split
  · rfl
  · exact State.bbrPut_cans ..
@[simp] theorem State.bbrB_cans (s : State) (v c r : Nat) (p : Word) (g : Nat) : (s.bbrB v c r p g).cans = s.cans :=
  State.bbrPut_cans ..
@[simp] theorem State.bbrA_duty (s : State) (v c r : Nat) (p : Word) (g : Nat) (k : Bool) : (s.bbrA v c r p g k).duty = s.duty := by
  unfold State.bbrA; split
  · rfl
  · exact State.bbrPut_duty ..
@[simp] theorem State.bbrB_duty (s : State) (v c r : Nat) (p : Word) (g : Nat) : (s.bbrB v c r p g).duty = s.duty :=
  State.bbrPut_duty ..
@[simp] theorem State.bbrA_wear (s : State) (v c r : Nat) (p : Word) (g : Nat) (k : Bool) : (s.bbrA v c r p g k).wear = s.wear := by
  unfold State.bbrA; split
  · rfl
  · exact State.bbrPut_wear ..
@[simp] theorem State.bbrB_wear (s : State) (v c r : Nat) (p : Word) (g : Nat) : (s.bbrB v c r p g).wear = s.wear :=
  State.bbrPut_wear ..
@[simp] theorem State.bbrA_cal (s : State) (v c r : Nat) (p : Word) (g : Nat) (k : Bool) : (s.bbrA v c r p g k).cal = s.cal := by
  unfold State.bbrA; split
  · rfl
  · exact State.bbrPut_cal ..
@[simp] theorem State.bbrB_cal (s : State) (v c r : Nat) (p : Word) (g : Nat) : (s.bbrB v c r p g).cal = s.cal :=
  State.bbrPut_cal ..
@[simp] theorem State.bbrA_trims (s : State) (v c r : Nat) (p : Word) (g : Nat) (k : Bool) : (s.bbrA v c r p g k).trims = s.trims := by
  unfold State.bbrA; split
  · rfl
  · exact State.bbrPut_trims ..
@[simp] theorem State.bbrB_trims (s : State) (v c r : Nat) (p : Word) (g : Nat) : (s.bbrB v c r p g).trims = s.trims :=
  State.bbrPut_trims ..
@[simp] theorem State.bbrA_trimLast (s : State) (v c r : Nat) (p : Word) (g : Nat) (k : Bool) : (s.bbrA v c r p g k).trimLast = s.trimLast := by
  unfold State.bbrA; split
  · rfl
  · exact State.bbrPut_trimLast ..
@[simp] theorem State.bbrB_trimLast (s : State) (v c r : Nat) (p : Word) (g : Nat) : (s.bbrB v c r p g).trimLast = s.trimLast :=
  State.bbrPut_trimLast ..
@[simp] theorem State.bbrA_plaus (s : State) (v c r : Nat) (p : Word) (g : Nat) (k : Bool) : (s.bbrA v c r p g k).plaus = s.plaus := by
  unfold State.bbrA; split
  · rfl
  · exact State.bbrPut_plaus ..
@[simp] theorem State.bbrB_plaus (s : State) (v c r : Nat) (p : Word) (g : Nat) : (s.bbrB v c r p g).plaus = s.plaus :=
  State.bbrPut_plaus ..
@[simp] theorem State.bbrA_drift (s : State) (v c r : Nat) (p : Word) (g : Nat) (k : Bool) : (s.bbrA v c r p g k).drift = s.drift := by
  unfold State.bbrA; split
  · rfl
  · exact State.bbrPut_drift ..
@[simp] theorem State.bbrB_drift (s : State) (v c r : Nat) (p : Word) (g : Nat) : (s.bbrB v c r p g).drift = s.drift :=
  State.bbrPut_drift ..
@[simp] theorem State.bbrA_scrub (s : State) (v c r : Nat) (p : Word) (g : Nat) (k : Bool) : (s.bbrA v c r p g k).scrub = s.scrub := by
  unfold State.bbrA; split
  · rfl
  · exact State.bbrPut_scrub ..
@[simp] theorem State.bbrB_scrub (s : State) (v c r : Nat) (p : Word) (g : Nat) : (s.bbrB v c r p g).scrub = s.scrub :=
  State.bbrPut_scrub ..
@[simp] theorem State.bbrA_tx (s : State) (v c r : Nat) (p : Word) (g : Nat) (k : Bool) : (s.bbrA v c r p g k).tx = s.tx := by
  unfold State.bbrA; split
  · rfl
  · exact State.bbrPut_tx ..
@[simp] theorem State.bbrB_tx (s : State) (v c r : Nat) (p : Word) (g : Nat) : (s.bbrB v c r p g).tx = s.tx :=
  State.bbrPut_tx ..
@[simp] theorem State.bbrA_ves (s : State) (v c r : Nat) (p : Word) (g : Nat) (k : Bool) : (s.bbrA v c r p g k).ves = s.ves := by
  unfold State.bbrA; split
  · rfl
  · exact State.bbrPut_ves ..
@[simp] theorem State.bbrB_ves (s : State) (v c r : Nat) (p : Word) (g : Nat) : (s.bbrB v c r p g).ves = s.ves :=
  State.bbrPut_ves ..
@[simp] theorem State.bbrA_plain (s : State) (v c r : Nat) (p : Word) (g : Nat) (k : Bool) : (s.bbrA v c r p g k).plain = s.plain := by
  unfold State.bbrA; split
  · rfl
  · exact State.bbrPut_plain ..
@[simp] theorem State.bbrB_plain (s : State) (v c r : Nat) (p : Word) (g : Nat) : (s.bbrB v c r p g).plain = s.plain :=
  State.bbrPut_plain ..
@[simp] theorem State.bbrA_pilot (s : State) (v c r : Nat) (p : Word) (g : Nat) (k : Bool) : (s.bbrA v c r p g k).pilot = s.pilot := by
  unfold State.bbrA; split
  · rfl
  · exact State.bbrPut_pilot ..
@[simp] theorem State.bbrB_pilot (s : State) (v c r : Nat) (p : Word) (g : Nat) : (s.bbrB v c r p g).pilot = s.pilot :=
  State.bbrPut_pilot ..
@[simp] theorem State.bbrA_pulses (s : State) (v c r : Nat) (p : Word) (g : Nat) (k : Bool) : (s.bbrA v c r p g k).pulses = s.pulses := by
  unfold State.bbrA; split
  · rfl
  · exact State.bbrPut_pulses ..
@[simp] theorem State.bbrB_pulses (s : State) (v c r : Nat) (p : Word) (g : Nat) : (s.bbrB v c r p g).pulses = s.pulses :=
  State.bbrPut_pulses ..
@[simp] theorem State.bbrA_reclaim (s : State) (v c r : Nat) (p : Word) (g : Nat) (k : Bool) : (s.bbrA v c r p g k).reclaim = s.reclaim := by
  unfold State.bbrA; split
  · rfl
  · exact State.bbrPut_reclaim ..
@[simp] theorem State.bbrB_reclaim (s : State) (v c r : Nat) (p : Word) (g : Nat) : (s.bbrB v c r p g).reclaim = s.reclaim :=
  State.bbrPut_reclaim ..
@[simp] theorem State.bbrA_bus (s : State) (v c r : Nat) (p : Word) (g : Nat) (k : Bool) : (s.bbrA v c r p g k).bus = s.bus := by
  unfold State.bbrA; split
  · rfl
  · exact State.bbrPut_bus ..
@[simp] theorem State.bbrB_bus (s : State) (v c r : Nat) (p : Word) (g : Nat) : (s.bbrB v c r p g).bus = s.bus :=
  State.bbrPut_bus ..
@[simp] theorem State.bbrA_held (s : State) (v c r : Nat) (p : Word) (g : Nat) (k : Bool) : (s.bbrA v c r p g k).held = s.held := by
  unfold State.bbrA; split
  · rfl
  · exact State.bbrPut_held ..
@[simp] theorem State.bbrB_held (s : State) (v c r : Nat) (p : Word) (g : Nat) : (s.bbrB v c r p g).held = s.held :=
  State.bbrPut_held ..
@[simp] theorem State.bbrA_pwrWait (s : State) (v c r : Nat) (p : Word) (g : Nat) (k : Bool) : (s.bbrA v c r p g k).pwrWait = s.pwrWait := by
  unfold State.bbrA; split
  · rfl
  · exact State.bbrPut_pwrWait ..
@[simp] theorem State.bbrB_pwrWait (s : State) (v c r : Nat) (p : Word) (g : Nat) : (s.bbrB v c r p g).pwrWait = s.pwrWait :=
  State.bbrPut_pwrWait ..
@[simp] theorem State.bbrA_atPort (s : State) (v c r : Nat) (p : Word) (g : Nat) (k : Bool) : (s.bbrA v c r p g k).atPort = s.atPort := by
  unfold State.bbrA; split
  · rfl
  · exact State.bbrPut_atPort ..
@[simp] theorem State.bbrB_atPort (s : State) (v c r : Nat) (p : Word) (g : Nat) : (s.bbrB v c r p g).atPort = s.atPort :=
  State.bbrPut_atPort ..
@[simp] theorem State.bbrA_paths (s : State) (v c r : Nat) (p : Word) (g : Nat) (k : Bool) : (s.bbrA v c r p g k).paths = s.paths := by
  unfold State.bbrA; split
  · rfl
  · exact State.bbrPut_paths ..
@[simp] theorem State.bbrB_paths (s : State) (v c r : Nat) (p : Word) (g : Nat) : (s.bbrB v c r p g).paths = s.paths :=
  State.bbrPut_paths ..
@[simp] theorem State.bbrA_answers (s : State) (v c r : Nat) (p : Word) (g : Nat) (k : Bool) : (s.bbrA v c r p g k).answers = s.answers := by
  unfold State.bbrA; split
  · rfl
  · exact State.bbrPut_answers ..
@[simp] theorem State.bbrB_answers (s : State) (v c r : Nat) (p : Word) (g : Nat) : (s.bbrB v c r p g).answers = s.answers :=
  State.bbrPut_answers ..
@[simp] theorem State.bbrA_fw (s : State) (v c r : Nat) (p : Word) (g : Nat) (k : Bool) : (s.bbrA v c r p g k).fw = s.fw := by
  unfold State.bbrA; split
  · rfl
  · exact State.bbrPut_fw ..
@[simp] theorem State.bbrB_fw (s : State) (v c r : Nat) (p : Word) (g : Nat) : (s.bbrB v c r p g).fw = s.fw :=
  State.bbrPut_fw ..
@[simp] theorem State.bbrA_dbg (s : State) (v c r : Nat) (p : Word) (g : Nat) (k : Bool) : (s.bbrA v c r p g k).dbg = s.dbg := by
  unfold State.bbrA; split
  · rfl
  · exact State.bbrPut_dbg ..
@[simp] theorem State.bbrB_dbg (s : State) (v c r : Nat) (p : Word) (g : Nat) : (s.bbrB v c r p g).dbg = s.dbg :=
  State.bbrPut_dbg ..
@[simp] theorem State.bbrA_deferred (s : State) (v c r : Nat) (p : Word) (g : Nat) (k : Bool) : (s.bbrA v c r p g k).deferred = s.deferred := by
  unfold State.bbrA; split
  · rfl
  · exact State.bbrPut_deferred ..
@[simp] theorem State.bbrB_deferred (s : State) (v c r : Nat) (p : Word) (g : Nat) : (s.bbrB v c r p g).deferred = s.deferred :=
  State.bbrPut_deferred ..
@[simp] theorem State.bbrA_lostClocks (s : State) (v c r : Nat) (p : Word) (g : Nat) (k : Bool) : (s.bbrA v c r p g k).lostClocks = s.lostClocks := by
  unfold State.bbrA; split
  · rfl
  · exact State.bbrPut_lostClocks ..
@[simp] theorem State.bbrB_lostClocks (s : State) (v c r : Nat) (p : Word) (g : Nat) : (s.bbrB v c r p g).lostClocks = s.lostClocks :=
  State.bbrPut_lostClocks ..
@[simp] theorem State.bbrA_wdtUs (s : State) (v c r : Nat) (p : Word) (g : Nat) (k : Bool) : (s.bbrA v c r p g k).wdtUs = s.wdtUs := by
  unfold State.bbrA; split
  · rfl
  · exact State.bbrPut_wdtUs ..
@[simp] theorem State.bbrB_wdtUs (s : State) (v c r : Nat) (p : Word) (g : Nat) : (s.bbrB v c r p g).wdtUs = s.wdtUs :=
  State.bbrPut_wdtUs ..
@[simp] theorem State.bbrA_belowUs (s : State) (v c r : Nat) (p : Word) (g : Nat) (k : Bool) : (s.bbrA v c r p g k).belowUs = s.belowUs := by
  unfold State.bbrA; split
  · rfl
  · exact State.bbrPut_belowUs ..
@[simp] theorem State.bbrB_belowUs (s : State) (v c r : Nat) (p : Word) (g : Nat) : (s.bbrB v c r p g).belowUs = s.belowUs :=
  State.bbrPut_belowUs ..
@[simp] theorem State.bbrA_sagAsked (s : State) (v c r : Nat) (p : Word) (g : Nat) (k : Bool) : (s.bbrA v c r p g k).sagAsked = s.sagAsked := by
  unfold State.bbrA; split
  · rfl
  · exact State.bbrPut_sagAsked ..
@[simp] theorem State.bbrB_sagAsked (s : State) (v c r : Nat) (p : Word) (g : Nat) : (s.bbrB v c r p g).sagAsked = s.sagAsked :=
  State.bbrPut_sagAsked ..
@[simp] theorem State.bbrA_marks (s : State) (v c r : Nat) (p : Word) (g : Nat) (k : Bool) : (s.bbrA v c r p g k).marks = s.marks := by
  unfold State.bbrA; split
  · rfl
  · exact State.bbrPut_marks ..
@[simp] theorem State.bbrB_marks (s : State) (v c r : Nat) (p : Word) (g : Nat) : (s.bbrB v c r p g).marks = s.marks :=
  State.bbrPut_marks ..
@[simp] theorem State.bbrA_hydroWork (s : State) (v c r : Nat) (p : Word) (g : Nat) (k : Bool) : (s.bbrA v c r p g k).hydroWork = s.hydroWork := by
  unfold State.bbrA; split
  · rfl
  · exact State.bbrPut_hydroWork ..
@[simp] theorem State.bbrB_hydroWork (s : State) (v c r : Nat) (p : Word) (g : Nat) : (s.bbrB v c r p g).hydroWork = s.hydroWork :=
  State.bbrPut_hydroWork ..
@[simp] theorem State.bbrA_macs (s : State) (v c r : Nat) (p : Word) (g : Nat) (k : Bool) : (s.bbrA v c r p g k).macs = s.macs := by
  unfold State.bbrA; split
  · rfl
  · exact State.bbrPut_macs ..
@[simp] theorem State.bbrB_macs (s : State) (v c r : Nat) (p : Word) (g : Nat) : (s.bbrB v c r p g).macs = s.macs :=
  State.bbrPut_macs ..
@[simp] theorem State.bbrA_netOut (s : State) (v c r : Nat) (p : Word) (g : Nat) (k : Bool) : (s.bbrA v c r p g k).netOut = s.netOut := by
  unfold State.bbrA; split
  · rfl
  · exact State.bbrPut_netOut ..
@[simp] theorem State.bbrB_netOut (s : State) (v c r : Nat) (p : Word) (g : Nat) : (s.bbrB v c r p g).netOut = s.netOut :=
  State.bbrPut_netOut ..
@[simp] theorem State.bbrA_quay (s : State) (v c r : Nat) (p : Word) (g : Nat) (k : Bool) : (s.bbrA v c r p g k).quay = s.quay := by
  unfold State.bbrA; split
  · rfl
  · exact State.bbrPut_quay ..
@[simp] theorem State.bbrB_quay (s : State) (v c r : Nat) (p : Word) (g : Nat) : (s.bbrB v c r p g).quay = s.quay :=
  State.bbrPut_quay ..
@[simp] theorem State.bbrA_hm (s : State) (v c r : Nat) (p : Word) (g : Nat) (k : Bool) : (s.bbrA v c r p g k).hm = s.hm := by
  unfold State.bbrA; split
  · rfl
  · exact State.bbrPut_hm ..
@[simp] theorem State.bbrB_hm (s : State) (v c r : Nat) (p : Word) (g : Nat) : (s.bbrB v c r p g).hm = s.hm :=
  State.bbrPut_hm ..
@[simp] theorem State.bbrA_freeCtr (s : State) (v c r : Nat) (p : Word) (g : Nat) (k : Bool) : (s.bbrA v c r p g k).freeCtr = s.freeCtr := by
  unfold State.bbrA; split
  · rfl
  · exact State.bbrPut_freeCtr ..
@[simp] theorem State.bbrB_freeCtr (s : State) (v c r : Nat) (p : Word) (g : Nat) : (s.bbrB v c r p g).freeCtr = s.freeCtr :=
  State.bbrPut_freeCtr ..
@[simp] theorem State.bbrA_pending (s : State) (v c r : Nat) (p : Word) (g : Nat) (k : Bool) : (s.bbrA v c r p g k).pending = s.pending := by
  unfold State.bbrA; split
  · rfl
  · exact State.bbrPut_pending ..
@[simp] theorem State.bbrB_pending (s : State) (v c r : Nat) (p : Word) (g : Nat) : (s.bbrB v c r p g).pending = s.pending :=
  State.bbrPut_pending ..

/-! ### Reading back -/

/-- A register reads back what was written. -/
@[simp] theorem State.reg_setReg_self (s : State) (a : Nat) (v : Word) : (s.setReg a v).reg a = v := Store.get_set_self ..

/-- A write leaves every other register as it is. -/
theorem State.reg_setReg_ne (s : State) {a b : Nat} (v : Word) (h : b ≠ a) : (s.setReg a v).reg b = s.reg b := Store.get_set_ne _ _ _ _ h

theorem State.reg_setFld_ne (s : State) {a b : Nat} (hi lo v : Nat) (h : b ≠ a) : (s.setFld a hi lo v).reg b = s.reg b :=
  State.reg_setReg_ne s _ h

theorem State.reg_setRbit_ne (s : State) {a b : Nat} (i : Nat) (c : Bool) (h : b ≠ a) : (s.setRbit a i c).reg b = s.reg b :=
  State.reg_setReg_ne s _ h

theorem State.reg_orReg_ne (s : State) {a b : Nat} (m : Word) (h : b ≠ a) : (s.orReg a m).reg b = s.reg b :=
  State.reg_setReg_ne s _ h

theorem State.reg_addFld_ne (s : State) {a b : Nat} (hi lo n : Nat) (h : b ≠ a) : (s.addFld a hi lo n).reg b = s.reg b :=
  State.reg_setReg_ne s _ h

@[simp] theorem State.reg_setFld_self (s : State) (a hi lo v : Nat) : (s.setFld a hi lo v).reg a = putBits (s.reg a) hi lo v :=
  State.reg_setReg_self ..

@[simp] theorem State.reg_setRbit_self (s : State) (a i : Nat) (b : Bool) : (s.setRbit a i b).reg a = putBit (s.reg a) i b :=
  State.reg_setReg_self ..

@[simp] theorem State.reg_orReg_self (s : State) (a : Nat) (m : Word) : (s.orReg a m).reg a = s.reg a ||| m := State.reg_setReg_self ..

@[simp] theorem State.reg_usedFree (s : State) (a : Nat) : s.usedFree.reg a = s.reg a := rfl
@[simp] theorem State.reg_setGuard (s : State) (b : Nat) (g : Guard) (a : Nat) : (s.setGuard b g).reg a = s.reg a := rfl
@[simp] theorem State.reg_setStation (s : State) (id : Nat) (x : Station) (a : Nat) : (s.setStation id x).reg a = s.reg a := rfl
@[simp] theorem State.reg_updChan (s : State) (n : Nat) (f : Channel → Channel) (a : Nat) : (s.updChan n f).reg a = s.reg a := rfl

/-- A station's record reads back. -/
@[simp] theorem State.station_setStation_self (s : State) (id : Nat) (x : Station) : (s.setStation id x).station id = x := Store.get_set_self ..

theorem State.station_setStation_ne (s : State) {id j : Nat} (x : Station) (h : j ≠ id) : (s.setStation id x).station j = s.station j :=
  Store.get_set_ne _ _ _ _ h

/-- A guard reads back. -/
@[simp] theorem State.guard_setGuard_self (s : State) (b : Nat) (g : Guard) : (s.setGuard b g).guard b = g := Store.get_set_self ..

theorem State.guard_setGuard_ne (s : State) {b c : Nat} (g : Guard) (h : c ≠ b) : (s.setGuard b g).guard c = s.guard c :=
  Store.get_set_ne _ _ _ _ h

/-! ### Bit fields -/

theorem getLsbD_fieldMask (hi lo i : Nat) (h : hi < 32) : (fieldMask hi lo).getLsbD i = (decide (lo ≤ i) && decide (i ≤ hi)) := by
  unfold fieldMask
  rw [BitVec.getLsbD_ofNat, Nat.testBit_shiftLeft, Nat.testBit_two_pow_sub_one]
  by_cases h1 : lo ≤ i <;> by_cases h2 : i ≤ hi <;> simp [h1, h2] <;> omega

theorem getLsbD_putBits (w : Word) (hi lo v i : Nat) (h : hi < 32) :
    (putBits w hi lo v).getLsbD i = if lo ≤ i ∧ i ≤ hi then v.testBit (i - lo) else w.getLsbD i := by
  unfold putBits
  simp only [BitVec.getLsbD_or, BitVec.getLsbD_and, BitVec.getLsbD_not, getLsbD_fieldMask hi lo i h, BitVec.getLsbD_ofNat, Nat.testBit_shiftLeft]
  by_cases h1 : lo ≤ i
  · by_cases h2 : i ≤ hi
    · have : i < 32 := by omega
      simp [h1, h2, this]
    · by_cases h3 : i < 32
      · simp [h2, h3]
      · simp [h2, BitVec.getLsbD_of_ge w i (by omega)]
  · by_cases h3 : i < 32
    · simp [h1, h3]
    · simp [h1, BitVec.getLsbD_of_ge w i (by omega)]

/-- A bit that was put reads back. -/
theorem bit_putBit_self (w : Word) (i : Nat) (b : Bool) (h : i < 32) : bit (putBit w i b) i = b := by
  unfold bit putBit
  rw [getLsbD_putBits w i i b.toNat i h]
  cases b <;> simp

/-- The other bits stay. -/
theorem bit_putBit_ne (w : Word) (i j : Nat) (b : Bool) (h : i < 32) (hj : j ≠ i) : bit (putBit w i b) j = bit w j := by
  unfold bit putBit
  rw [getLsbD_putBits w i i b.toNat j h, if_neg (by omega)]

/-- A field that was put reads back its low bits. -/
theorem bits_putBits_self (w : Word) (hi lo v : Nat) (h : hi < 32) (hl : lo ≤ hi) : bits (putBits w hi lo v) hi lo = v % 2 ^ (hi + 1 - lo) := by
  apply Nat.eq_of_testBit_eq
  intro i
  unfold bits
  rw [Nat.testBit_mod_two_pow, Nat.testBit_mod_two_pow, Nat.testBit_shiftRight, BitVec.testBit_toNat, getLsbD_putBits w hi lo v (lo + i) h]
  by_cases hi' : i < hi + 1 - lo
  · rw [if_pos (by omega)]
    simp
  · simp [hi']

/-- A field apart from the one that was put stays. -/
theorem bits_putBits_apart (w : Word) (hi lo v hj lj : Nat) (h : hi < 32) (ha : hj < lo ∨ hi < lj) : bits (putBits w hi lo v) hj lj = bits w hj lj := by
  apply Nat.eq_of_testBit_eq
  intro i
  unfold bits
  rw [Nat.testBit_mod_two_pow, Nat.testBit_mod_two_pow, Nat.testBit_shiftRight, Nat.testBit_shiftRight, BitVec.testBit_toNat, BitVec.testBit_toNat,
    getLsbD_putBits w hi lo v (lj + i) h]
  by_cases hi' : i < hj + 1 - lj
  · rw [if_neg (by omega)]
  · simp [hi']

@[simp] theorem State.rbit_setRbit_self (s : State) (a i : Nat) (b : Bool) (h : i < 32) : (s.setRbit a i b).rbit a i = b := by
  unfold State.rbit
  rw [State.reg_setRbit_self, bit_putBit_self _ _ _ h]

theorem State.rbit_setRbit_ne (s : State) {a c i j : Nat} (b : Bool) (h : c ≠ a) : (s.setRbit a i b).rbit c j = s.rbit c j := by
  unfold State.rbit
  rw [State.reg_setRbit_ne s i b h]

theorem State.fld_setFld_self (s : State) (a hi lo v : Nat) (h : hi < 32) (hl : lo ≤ hi) : (s.setFld a hi lo v).fld a hi lo = v % 2 ^ (hi + 1 - lo) := by
  unfold State.fld
  rw [State.reg_setFld_self, bits_putBits_self _ _ _ _ h hl]

theorem State.fld_setFld_ne (s : State) {a c : Nat} (hi lo v hj lj : Nat) (h : c ≠ a) : (s.setFld a hi lo v).fld c hj lj = s.fld c hj lj := by
  unfold State.fld
  rw [State.reg_setFld_ne s hi lo v h]

end Sys2Proof.Machine
end

