-- ==== Sys2Proof/Laws/Commands.lean ====
section
/-! SUPPORT. How a command that is admitted runs: its body, then its reply. -/

namespace Sys2Proof.Machine

/-- Hearing a request leaves the interpreter queue as it is. -/
@[simp] theorem State.heard_interp (s : State) (q : Req) : (s.heard q).omx.interp = s.omx.interp := by
  unfold State.heard; split <;> rfl

/-- An admitted request runs now. -/
theorem State.runsNow_admits {s : State} {q : Req} (h : s.Admits q) : (s.heard q).runsNow q = true := by
  simp [State.runsNow, h.passes, h.idle, h.whole]

/-- An admitted request runs its body on its argument and ends with its reply. -/
theorem State.runCommand_admits {s : State} {q : Req} (h : s.Admits q) (b : Body) :
    s.runCommand q b = .next ((b q.ep (s.argOf q) (s.bodyAt q)).finish q) := by
  have h4 := h.fits
  have h5 := h.allowed
  simp only [State.argOf, State.bodyAt] at h4 h5 ⊢
  simp only [State.runCommand, h.idle, List.contains_nil, Bool.false_eq_true, if_false, State.runsNow_admits h, if_true, State.runBody,
    Nat.not_lt.mpr h4, h5]

/-- An access that reaches its block acts there. -/
theorem State.toBlock_reaches {s : State} {who : Initiator} {addr : Nat} (h : s.Reaches who addr) (act : State → State) :
    s.toBlock who addr act = act (s.busAnswer who .ok) := by
  obtain ⟨h0, h1, h2, h3, h4⟩ := h
  have h4' : (decide (blockOf addr = 3) && !s.arrUp) = false := by simpa using h4
  have h3' : (decide (who.master = 4) && s.otp.jtagLock) = false := by simpa using h3
  simp only [State.toBlock, h0, h1, h2, h3', h4', Bool.false_eq_true, if_false]

/-- An accepted guarded write acts with the guard closed. -/
theorem State.guardedWrite_opens {s : State} {who : Initiator} {addr : Nat} (h : s.Opens who addr) (act : State → State) :
    s.guardedWrite who addr act = act (s.opened who addr) := by
  have h1 : (s.busAnswer who .ok).guardOpen (blockOf addr) who = true := h.guard
  simp only [State.guardedWrite, State.toBlock_reaches h.toReaches, h1, if_true, State.opened]

/-- A fetched instruction runs its body. -/
theorem State.instr_fetches {s u : State} (h : s.Fetches u) (body : State → State) : s.instr body = .next (body u) := by
  obtain ⟨h1, h2, h3⟩ := h
  unfold State.instr
  have hb : (!s.dbg.stepping && s.dbg.breaks.any fun (x : Nat × Word) => x.2 == s.hm.pc) = false := by
    rcases h2 with h2 | h2
    · simp [h2]
    · simp; intro _ a b hab; exact h2 a b hab
  simp only [h1, hb, Bool.not_true, Bool.false_eq_true, if_false, h3]

/-- A fetched instruction whose register numbers are legal runs its body. -/
theorem State.instrR_fetches {s u : State} (h : s.Fetches u) (l : List Nat) (hl : ∀ r, r ∈ l → r < 24) (body : State → State) :
    s.instrR l body = .next (body u) := by
  unfold State.instrR
  rw [State.instr_fetches h]
  have : (l.any fun r => decide (r ≥ 24)) = false := by
    simp; intro a ha; have := hl a ha; omega
  simp [this]

end Sys2Proof.Machine
end

