-- ==== Sys2Proof/Machine/Pins.lean ====
section
/-! DEFINITION. The signal balls: what each one does in reset, after its release, and while its block runs (R52 to R55, R60, R63 to R67, Table PKG-7, R769). -/

namespace Sys2Proof.Machine

/-- The signal balls of Tables PKG-4 to PKG-6; the arguments number the port, controller, bank and line. -/
inductive Ball where
  | resetN | sense | pwrFailN | sagRstN | testN | timeRefclk | xtal25 | xtal32k | tdiode | perstN | hostIrqN
  | bootMode (line : Nat)
  | jtagTck | jtagTms | jtagTdi | jtagTrstN | jtagTdo
  | hspiSclk | hspiMosi | hspiCsN | hspiMiso | hspiRdyN
  | canTx (n : Nat)
  | canRx (n : Nat)
  | uartTx (n : Nat)
  | uartRx (n : Nat)
  | uartDe (n : Nat)
  | qspiSclk
  | qspiCsN (n : Nat)
  | qspiIo (line : Nat)
  | ethTxc (port : Nat)
  | ethTxCtl (port : Nat)
  | ethTxd (port line : Nat)
  | ethRx (port line : Nat)
  | ethMdc (port : Nat)
  | ethMdio (port : Nat)
  | pcieTx (lane : Nat)
  | pcieRx (lane : Nat)
  | pcieRefclk
  | slwTx (lane : Nat)
  | slwRx (lane : Nat)
  | slbIo (bank line : Nat)
deriving DecidableEq, Repr

/-- What a ball does: an input with or without a pull; high impedance with or without a pull; a level driven; driven as its block's
transfers ask; an open-drain output asserted or released; an oscillator or clock running; a passive ball; a serialiser's transmitter off
or in electrical idle; a termination off or on. -/
inductive Drive where
  | input | inputUp | inputDown | highZ | highZUp | highZDown | low | high | driven | asserted | released | running | passive
  | txOff | idle | termOff | termOn
deriving DecidableEq, Repr

/-- The balls that the AON domain powers (R54). -/
def Ball.aon : Ball → Bool
  | .pwrFailN | .sagRstN | .xtal32k => true
  | _ => false

/-- Table PKG-7, column Reset state; the AON balls' own states stand in `State.ball`. -/
def Ball.inReset : Ball → Drive
  | .resetN | .testN | .jtagTms | .jtagTdi | .hspiCsN | .canRx _ | .uartRx _ => .inputUp
  | .bootMode _ | .perstN | .jtagTck | .jtagTrstN | .hspiSclk | .hspiMosi | .ethRx _ _ => .inputDown
  | .sense | .timeRefclk | .pcieRefclk => .input
  | .pwrFailN | .sagRstN => .released
  | .xtal25 | .xtal32k => .running
  | .tdiode => .passive
  | .hostIrqN | .jtagTdo | .hspiMiso | .ethMdio _ => .highZ
  | .hspiRdyN | .canTx _ | .uartTx _ | .qspiCsN _ | .qspiIo _ => .highZUp
  | .uartDe _ | .qspiSclk | .ethTxc _ | .ethTxCtl _ | .ethTxd _ _ | .ethMdc _ | .slbIo _ _ => .highZDown
  | .pcieTx _ => .txOff
  | .pcieRx _ | .slwRx _ => .termOff
  | .slwTx _ => .idle

/-- Whether a containment domain is held in reset. -/
def State.inDomainReset (s : State) (d : Nat) : Bool := s.reclaim.inReset.contains d

/-- Whether the HSPI can take a new transaction or a further block (R769): the device answers on HSPI, or its ROM waits for an image there
(R162, R770). Between commands the receive DCQ holds nothing, since SYS drains it at once (log entry 163). -/
def State.hspiReady (s : State) : Bool :=
  !s.boot.held && !s.inDomainReset 8 && (s.boot.imaged || (s.host.bootWait && s.boot.mode == 2))

/-- A ball that its block drives once enabled, and otherwise leaves in its reset state. -/
def whenOn (on : Bool) (b : Ball) : Drive := if on then .driven else b.inReset

/-- A ball after reset release (Table PKG-7, column After reset release), with the idling of a containment-domain reset (R53). -/
def State.ballRuns (s : State) (b : Ball) : Drive :=
  match b with
  | .hspiSclk | .hspiMosi | .hspiCsN | .canRx _ | .uartRx _ | .ethRx _ _ | .resetN => .input
  | .hostIrqN => if s.hostIrq then .asserted else .highZ
  | .jtagTdo | .hspiMiso | .ethMdio _ | .qspiIo _ => .driven
  | .hspiRdyN => if s.hspiReady then .low else .high
  | .canTx n =>
    if s.inDomainReset 8 then .high
    else if s.rbit (Reg.canCtrl + 256 * n) 0 && !s.rbit (Reg.canCtrl + 256 * n) 1 then .driven else .high
  | .uartTx n => whenOn (s.rbit (Reg.uartCtrl + 256 * n) 0 && !s.inDomainReset 8) b
  | .uartDe n => if s.inDomainReset 8 then .low else whenOn (s.rbit (Reg.uartCtrl + 256 * n) 0) b
  | .qspiSclk => .low
  | .qspiCsN _ => if s.inDomainReset 9 || !s.rbit Reg.qspiCtrl 7 then .high else .driven
  | .ethTxCtl p => if s.inDomainReset (5 + p) then .low else whenOn (s.rbit (Reg.ethCtrl + 65536 * p) 1) b
  | .ethTxc p => if s.inDomainReset (5 + p) then .running else whenOn (s.rbit (Reg.ethCtrl + 65536 * p) 1) b
  | .ethTxd p _ => whenOn (s.rbit (Reg.ethCtrl + 65536 * p) 1) b
  | .ethMdc p => whenOn (s.rbit (Reg.ethCtrl + 65536 * p) 6 || s.rbit (Reg.ethMdioCmd + 65536 * p) 31) b
  | .pcieTx _ => if s.pcieDown then .txOff else if s.rbit Reg.pcieStatus 0 then .driven else .idle
  | .pcieRx _ => if s.pcieDown then .termOff else .termOn
  | .slwTx n => whenOn (s.designRuns && s.rbit (Reg.slipctlLane + 4 * n) 0) b
  | .slwRx n => if s.designRuns && s.rbit (Reg.slipctlLane + 4 * n) 0 then .termOn else .termOff
  | .slbIo bank _ => if !s.rbit Reg.slipctlStatus (2 + bank) then .highZ else whenOn s.designRuns b
  | .sense | .pwrFailN | .sagRstN | .testN | .timeRefclk | .xtal25 | .xtal32k | .tdiode | .perstN | .bootMode _ | .jtagTck | .jtagTms
  | .jtagTdi | .jtagTrstN | .pcieRefclk => b.inReset

/-- What a ball does now (R52, R54, R60, R63): PWR_FAIL_N follows the warning and SAG_RST_N a reset monitor's condition, in reset and out
of it; every other ball is in its reset state while a device reset is held, which a low TEST_N makes last. -/
def State.ball (s : State) (b : Ball) : Drive :=
  match b with
  | .pwrFailN => if s.rbit Reg.supmonStatus 0 then .asserted else .released
  | .sagRstN => if s.boot.sagLow then .asserted else .released
  | b => if s.boot.held then b.inReset else s.ballRuns b

end Sys2Proof.Machine
end

