-- ==== Sys2Proof/Tests/Slice0.lean ====
section
/-! SUPPORT. Tests: ill-formed terms, known answers, and a witness for the hypotheses of each obligation. -/

section

-- One theorem after the other: in parallel each would hold a stack of its own.
set_option Elab.async false
set_option linter.unusedVariables false

open Sys2Proof Sys2Proof.Machine


/-! ### Well-formedness: a well-formed term of every command passes, and each check refuses an ill-formed term -/

/-- A request, a bus request and frames whose fields all lie in range. -/
def gReq : Req := { ep := .hspi, pkt := { version := 2, flags := 0, session := 0, priority := 0, seq := 0, opcode := 1, handle := 0, status := 0, payload := [] } }
def gBus : BusReq := { who := { master := 1 }, addr := 0, write := false, size := 8, beats := 1 }
def gFw : FwPacket := { dst := 0, src := 0, kind := 0, tid := 0 }
def gRx : RxFrame := { bytes := [] }
def gTl : TlFrame := {}
def gPtp : PtpMsg := {}

theorem test_wf_0 :
    ([.ping, .info, .sessionOpen, .sessionClose, .ctrlTake, .ctrlRelease, .timeGet, .resetDevice, .authChallenge, .authResponse, .cycleSet,
       .cycleStart, .cycleStop, .cycleStatus, .chCreate, .chDestroy, .chConfig, .chBind, .chArm, .chDisarm, .chSetpoint, .chRead, .chList,
       .chDepend, .chModelRead, .chModelWrite, .chModelTrimOn, .chModelTrimOff, .chModelRestore, .chSafe, .stList, .stAdmit, .stFallback,
       .stRelease, .stStatus, .vslLoad, .vslCommit, .tankDefine, .sectionDefine, .limitsSet, .condRead, .strengthRead, .progLoad, .progUnload,
       .progInfo, .slipLoadBegin, .slipLoadData, .slipLoadApply, .slipLoadAbort, .slipStatus, .slipCapture, .slipReadback, .bbStatus, .bbRead,
       .bbMark, .bbRelease, .tmSubscribe, .tmCancel, .wearRead, .wearReset, .calRunSensorZero, .calRunSensorSpan, .calRunTemp, .calRunSupmon,
       .calRunPlausibility, .calRead, .dutySet, .mirrorSet, .fwUpdateBegin, .fwUpdateData, .fwUpdateCommit, .fwUpdateAbort, .patchLoad,
       .otpProgramKeyHash, .otpProgramRevoke, .otpProgramRollback, .otpProgramOpenFw, .otpProgramJtagLock, .otpProgramSlipSignReq,
       .otpProgramCustomerKey, .diagRegRead, .diagRegWrite, .diagMemRead, .diagBar2On, .diagBar2Off, .contFragment] : List (Req → Instr)).all (fun c =>
      (c gReq).wf && !(c { gReq with ep := .pcie 4 }).wf) = true ∧
    ([.assemblyTimeout, .sessionLivenessExpiry, .udpGapExpiry, .authNonceExpiry, .wvmset, .wvmclr, .dmaDone, .hmFenceLift, .modbusPollStart,
       .modbusTimeout] : List (Nat → Instr)).all (fun c =>
      (c 0).wf && !(c 8).wf) = true ∧
    (Instr.wf (.pcieReqDoorbell 0 [] 0 false) &&
      !Instr.wf (.pcieReqDoorbell 4 [] 0 false) &&
      !Instr.wf (.pcieReqDoorbell 0 [] 65536 false)) = true ∧
    ([.pcieReplyDoorbell, .supmonCrossing] : List (Nat → Bool → Instr)).all (fun c =>
      (c 0 false).wf && !(c 4 false).wf) = true := by decide +kernel

theorem test_wf_1 :
    (Instr.wf (.pcieEvtCons 0 0 false) &&
      !Instr.wf (.pcieEvtCons 4 0 false) &&
      !Instr.wf (.pcieEvtCons 0 16384 false)) = true ∧
    (Instr.wf (.pcieConfigRequest false 0 0) &&
      !Instr.wf (.pcieConfigRequest false 4096 0)) = true ∧
    (Instr.wf (.pcieBar2Read 0 false) &&
      !Instr.wf (.pcieBar2Read 4294967296 false)) = true ∧
    (Instr.wf (.pcieBar2Write 0 0) &&
      !Instr.wf (.pcieBar2Write 4294967296 0)) = true ∧
    ([.hspiReadStatus, .hspiReadPacket] : List (Word → Nat → Instr)).all (fun c =>
      (c 0 0).wf && !(c 0 65536).wf) = true ∧
    (Instr.wf (.loadChunk .hspi 0 0 []) &&
      !Instr.wf (.loadChunk (.pcie 4) 0 0 []) &&
      !Instr.wf (.loadChunk .hspi 4294967296 0 []) &&
      !Instr.wf (.loadChunk .hspi 0 4294967296 [])) = true ∧
    (Instr.wf (.flashHeaderRetry 0 false) &&
      !Instr.wf (.flashHeaderRetry 3 false)) = true ∧
    ([.bootImageChecked, .pllLock] : List (Nat → Instr)).all (fun c =>
      (c 0).wf && !(c 3).wf) = true ∧
    (Instr.wf (.sagReset false false false []) &&
      !Instr.wf (.sagReset false false false [10]) &&
      !Instr.wf (.sagReset false false false [0])) = true ∧
    (Instr.wf (.senseConversion 0) &&
      !Instr.wf (.senseConversion 65536)) = true ∧
    ([.pinReset, .jtagSysreset, .doubleTrap, .wdtExpiry, .thermalShutdown] : List (List Nat → Instr)).all (fun c =>
      (c []).wf && !(c [10]).wf && !(c [0]).wf) = true ∧
    ([.sysctlSwreset, .intcClaim, .timerSyscntLatch, .ptpTimeSnapshot, .fairwayTraceRead, .shadowDataRead, .dcqDropClear, .quayBusyClear,
       .clrColl, .clrEcc, .clrCounts, .scrubClr, .ptpStep, .slipctlApplyGo, .winTimeout] : List (Initiator → Instr)).all (fun c =>
      (c { master := 1 }).wf && !(c { master := 5 }).wf) = true ∧
    (Instr.wf (.clockLost []) &&
      !Instr.wf (.clockLost [13])) = true ∧
    ([.clockGood, .fieldWakeDone] : List (Nat → Instr)).all (fun c =>
      (c 0).wf && !(c 16).wf) = true := by decide +kernel

theorem test_wf_2 :
    ([.macMarkArrival, .bankLow, .bankRestored, .ptpAnnounceReceiptTimeout] : List (Nat → Instr)).all (fun c =>
      (c 0).wf && !(c 2).wf) = true ∧
    ([.configResend, .joinForget] : List (Nat → Instr)).all (fun c =>
      (c 0).wf && !(c 128).wf) = true ∧
    ([.markCompare, .canTxDone, .canRxTimeout, .canBusOff, .canBusOffRecovery, .vsPresentRise, .vsPresentFall] : List (Nat → Instr)).all (fun c =>
      (c 0).wf && !(c 4).wf) = true ∧
    (Instr.wf (.pilotMboxWrite 0 0) &&
      !Instr.wf (.pilotMboxWrite 2 0)) = true ∧
    ([.enter, .leave] : List (Nat → Nat → BitVec 10 → Instr)).all (fun c =>
      (c 0 0 0).wf && !(c 32 0 0).wf && !(c 0 32 0).wf) = true ∧
    (Instr.wf (.rdsys 0 0) &&
      !Instr.wf (.rdsys 32 0) &&
      !Instr.wf (.rdsys 0 16)) = true ∧
    (Instr.wf (.wrsys 0 0) &&
      !Instr.wf (.wrsys 16 0) &&
      !Instr.wf (.wrsys 0 32)) = true ∧
    ([.stwin, .ldwin] : List (Nat → Nat → Instr)).all (fun c =>
      (c 0 0).wf && !(c 8 0).wf && !(c 0 32).wf) = true ∧
    ([.cwb, .cinv, .cwbinv, .wrfsr] : List (Nat → BitVec 10 → Instr)).all (fun c =>
      (c 0 0).wf && !(c 32 0).wf) = true ∧
    ([.rdflt, .rdfq] : List (Nat → Nat → Instr)).all (fun c =>
      (c 0 0).wf && !(c 32 0).wf && !(c 0 8).wf) = true ∧
    ([.rdfsr, .guardExpiry, .domainResetRelease, .dutyChangeoverConfirm, .dutyAbort] : List (Nat → Instr)).all (fun c =>
      (c 0).wf && !(c 32).wf) = true ∧
    ([.mulLo, .mulHs, .mulHu, .mulwS, .mulwU, .addf, .addcf, .subf, .subbf, .divS, .divU, .remS, .remU] : List (Nat → Nat → Nat → Instr)).all (fun c =>
      (c 0 0 0).wf && !(c 32 0 0).wf && !(c 0 32 0).wf && !(c 0 0 32).wf) = true ∧
    ([.divlU, .clz] : List (Nat → Nat → Instr)).all (fun c =>
      (c 0 0).wf && !(c 32 0).wf && !(c 0 32).wf) = true ∧
    ([.fadd, .fsub, .fmul, .fdiv, .fmac, .fmsc, .fnmac, .fminn, .fmaxn, .fcmpeq, .fcmplt, .fcmple, .fcpys, .fput] : List (FpFmt → Nat → Nat → Nat → Nat → Instr)).all (fun c =>
      (c .s 0 0 0 0).wf && !(c .s 32 0 0 0).wf && !(c .s 0 32 0 0).wf && !(c .s 0 0 32 0).wf && !(c .s 0 0 0 8).wf) = true := by decide +kernel

theorem test_wf_3 :
    ([.fsqrt, .ftoi, .ftou, .itof, .utof, .ftof, .fneg, .fabs, .fget] : List (FpFmt → Nat → Nat → Nat → Instr)).all (fun c =>
      (c .s 0 0 0).wf && !(c .s 32 0 0).wf && !(c .s 0 32 0).wf && !(c .s 0 0 8).wf) = true ∧
    ([.floadS, .floadD, .fstoreS, .fstoreD] : List (Nat → Nat → BitVec 32 → Instr)).all (fun c =>
      (c 0 0 0).wf && !(c 32 0 0).wf && !(c 0 32 0).wf) = true ∧
    (Instr.wf (.intcComplete { master := 1 } 0) &&
      !Instr.wf (.intcComplete { master := 5 } 0) &&
      !Instr.wf (.intcComplete { master := 1 } 64)) = true ∧
    ([.intcEndService, .mdioCommand] : List (Initiator → Nat → Word → Instr)).all (fun c =>
      (c { master := 1 } 0 0).wf && !(c { master := 5 } 0 0).wf && !(c { master := 1 } 2 0).wf) = true ∧
    (Instr.wf (.debugAccess .halt) &&
      !Instr.wf (.debugAccess (.setBreak 4 0 true))) = true ∧
    (Instr.wf (.registerWrite { master := 1 } 0 0) &&
      !Instr.wf (.registerWrite { master := 5 } 0 0) &&
      !Instr.wf (.registerWrite { master := 1 } 4294967296 0)) = true ∧
    ([.guardKey, .reclaimUnfence] : List (Initiator → Nat → Instr)).all (fun c =>
      (c { master := 1 } 0).wf && !(c { master := 5 } 0).wf && !(c { master := 1 } 32).wf) = true ∧
    (Instr.wf (.guardWrongKey { master := 1 } 0 0) &&
      !Instr.wf (.guardWrongKey { master := 5 } 0 0) &&
      !Instr.wf (.guardWrongKey { master := 1 } 32 0)) = true ∧
    (Instr.wf (.guardClearFlags { master := 1 } 0 0) &&
      !Instr.wf (.guardClearFlags { master := 5 } 0 0) &&
      !Instr.wf (.guardClearFlags { master := 1 } 32 0)) = true ∧
    ([.otpProgCmd, .wdtService, .basinPowerWrite, .rtcSet] : List (Initiator → Word → Instr)).all (fun c =>
      (c { master := 1 } 0).wf && !(c { master := 5 } 0).wf) = true ∧
    (Instr.wf (.ethCntClear { master := 1 } 0) &&
      !Instr.wf (.ethCntClear { master := 5 } 0) &&
      !Instr.wf (.ethCntClear { master := 1 } 2)) = true := by decide +kernel

theorem test_wf_4 :
    ([.ethRxKick, .ethTxKick] : List (Initiator → Nat → Nat → Instr)).all (fun c =>
      (c { master := 1 } 0 0).wf && !(c { master := 5 } 0 0).wf && !(c { master := 1 } 2 0).wf && !(c { master := 1 } 0 3).wf) = true ∧
    (Instr.wf (.mdioDone 0 0) &&
      !Instr.wf (.mdioDone 2 0)) = true ∧
    (Instr.wf (.mdioPoll 0 false false 0) &&
      !Instr.wf (.mdioPoll 2 false false 0)) = true ∧
    (Instr.wf (.dmaGo { master := 1 } 0) &&
      !Instr.wf (.dmaGo { master := 5 } 0) &&
      !Instr.wf (.dmaGo { master := 1 } 8)) = true ∧
    (Instr.wf (.dmaError 0 0) &&
      !Instr.wf (.dmaError 8 0) &&
      !Instr.wf (.dmaError 0 4294967296)) = true ∧
    (Instr.wf (.matrixRequest gBus [] []) &&
      !Instr.wf (.matrixRequest { gBus with beats := 257 } [] []) &&
      !Instr.wf (.matrixRequest gBus [{ gBus with beats := 257 }] []) &&
      !Instr.wf (.matrixRequest gBus [] [{ write := true, addr := 0, data := [] }])) = true ∧
    (Instr.wf (.eccWriteBack 0) &&
      !Instr.wf (.eccWriteBack 4294967296)) = true ∧
    ([.basinWakeDone, .basinScrubRead] : List (Nat → Instr)).all (fun c =>
      (c 0).wf && !(c 5).wf) = true ∧
    (Instr.wf (.arrHalfWrite { master := 1 } false) &&
      !Instr.wf (.arrHalfWrite { master := 5 } false)) = true ∧
    (Instr.wf (.slipctlCaptureGo { master := 1 } 0) &&
      !Instr.wf (.slipctlCaptureGo { master := 5 } 0)) = true ∧
    (Instr.wf (.bbrRelease { master := 1 } 0) &&
      !Instr.wf (.bbrRelease { master := 5 } 0) &&
      !Instr.wf (.bbrRelease { master := 1 } 4096)) = true ∧
    (Instr.wf (.bbrAppend { master := 1 } 0 0 0) &&
      !Instr.wf (.bbrAppend { master := 5 } 0 0 0) &&
      !Instr.wf (.bbrAppend { master := 1 } 16 0 0)) = true ∧
    (Instr.wf (.fairwayRequest gFw [] []) &&
      !Instr.wf (.fairwayRequest { gFw with tid := 64 } [] []) &&
      !Instr.wf (.fairwayRequest gFw [{ gFw with tid := 64 }] []) &&
      !Instr.wf (.fairwayRequest gFw [] [{ write := true, addr := 0, data := [] }])) = true := by decide +kernel

theorem test_wf_5 :
    ([.fairwayResponse, .waking, .wakeRetry] : List (FwPacket → Instr)).all (fun c =>
      (c gFw).wf && !(c { gFw with tid := 64 }).wf) = true ∧
    ([.fairwayTimeout, .tidQuarantineEnd, .injectionLeaseExpiry] : List (Nat → Nat → Instr)).all (fun c =>
      (c 0 0).wf && !(c 16 0).wf && !(c 0 64).wf) = true ∧
    (Instr.wf (.holdLeaseExpiry 0 0 0) &&
      !Instr.wf (.holdLeaseExpiry 5 0 0) &&
      !Instr.wf (.holdLeaseExpiry 0 8 0) &&
      !Instr.wf (.holdLeaseExpiry 0 0 4294967296)) = true ∧
    (Instr.wf (.qcPortLeaseExpiry 0) &&
      !Instr.wf (.qcPortLeaseExpiry 24)) = true ∧
    (Instr.wf (.bbrPortLeaseExpiry 0 false) &&
      !Instr.wf (.bbrPortLeaseExpiry 5 false)) = true ∧
    (Instr.wf (.fenceSequence 0 0 0 0) &&
      !Instr.wf (.fenceSequence 32 0 0 0) &&
      !Instr.wf (.fenceSequence 0 16 0 0) &&
      !Instr.wf (.fenceSequence 0 0 16 0) &&
      !Instr.wf (.fenceSequence 0 0 0 65536)) = true ∧
    (Instr.wf (.ethRxFrame 0 gRx) &&
      !Instr.wf (.ethRxFrame 2 gRx) &&
      !Instr.wf (.ethRxFrame 0 { gRx with stampNs := 1000000000 })) = true ∧
    ([.rxDescriptorRetry, .descriptorWaitExpiry, .ptpMessageInterval] : List (Nat → Nat → Instr)).all (fun c =>
      (c 0 0).wf && !(c 2 0).wf && !(c 0 3).wf) = true ∧
    (Instr.wf (.ethTxDone 0 0) &&
      !Instr.wf (.ethTxDone 2 0) &&
      !Instr.wf (.ethTxDone 0 4)) = true ∧
    ([.join, .configAck, .input, .announceReceived, .commitReceived] : List (TlFrame → Instr)).all (fun c =>
      (c gTl).wf && !(c { gTl with port := 2 }).wf) = true ∧
    (Instr.wf (.arpRequest 0 0 0 0) &&
      !Instr.wf (.arpRequest 2 0 0 0) &&
      !Instr.wf (.arpRequest 0 281474976710656 0 0) &&
      !Instr.wf (.arpRequest 0 0 4294967296 0) &&
      !Instr.wf (.arpRequest 0 0 0 4294967296)) = true ∧
    (Instr.wf (.icmpEchoRequest 0 0 0 0 0 []) &&
      !Instr.wf (.icmpEchoRequest 2 0 0 0 0 []) &&
      !Instr.wf (.icmpEchoRequest 0 281474976710656 0 0 0 []) &&
      !Instr.wf (.icmpEchoRequest 0 0 4294967296 0 0 []) &&
      !Instr.wf (.icmpEchoRequest 0 0 0 4294967296 0 []) &&
      !Instr.wf (.icmpEchoRequest 0 0 0 0 4294967296 [])) = true := by decide +kernel

theorem test_wf_6 :
    ([.ptpSync, .ptpFollowUp, .ptpDelayReq, .ptpDelayResp, .ptpAnnounce] : List (Nat → PtpMsg → Instr)).all (fun c =>
      (c 0 gPtp).wf && !(c 2 gPtp).wf && !(c 0 { gPtp with domain := 256 }).wf) = true ∧
    (Instr.wf (.modbusResponse 0 [] false) &&
      !Instr.wf (.modbusResponse 8 [] false)) = true ∧
    (Instr.wf (.nmeaSentence 0 []) &&
      !Instr.wf (.nmeaSentence 8 [])) = true ∧
    (Instr.wf (.canFrameReceived 0 0 false []) &&
      !Instr.wf (.canFrameReceived 4 0 false []) &&
      !Instr.wf (.canFrameReceived 0 536870912 false []) &&
      !Instr.wf (.canFrameReceived 0 0 false (zeros 65))) = true ∧
    (Instr.wf (.pointAgeExpiry 0 0) &&
      !Instr.wf (.pointAgeExpiry 128 0) &&
      !Instr.wf (.pointAgeExpiry 0 64)) = true ∧
    (Instr.wf (.vsPost 0 [] 0) &&
      !Instr.wf (.vsPost 4 [] 0) &&
      !Instr.wf (.vsPost 0 [(64, 0, 0)] 0) &&
      !Instr.wf (.vsPost 0 [(0, 256, 0)] 0) &&
      !Instr.wf (.vsPost 0 [(0, 0, 32768)] 0) &&
      !Instr.wf (.vsPost 0 [(0, 0, -32769)] 0) &&
      !Instr.wf (.vsPost 0 [] 4294967296)) = true ∧
    (Instr.wf (.qcTransfer 0 [] [] []) &&
      !Instr.wf (.qcTransfer 24 [] [] []) &&
      !Instr.wf (.qcTransfer 0 [] [] [{ write := true, addr := 0, data := [] }])) = true ∧
    (Instr.wf (.qcRawAccess 0 false 0 0 false [] []) &&
      !Instr.wf (.qcRawAccess 24 false 0 0 false [] []) &&
      !Instr.wf (.qcRawAccess 0 false 65536 0 false [] []) &&
      !Instr.wf (.qcRawAccess 0 false 0 0 false [] [{ write := true, addr := 0, data := [] }])) = true ∧
    (Instr.wf (.laneLost 0 0) &&
      !Instr.wf (.laneLost 12 0) &&
      !Instr.wf (.laneLost 0 65536)) = true ∧
    (Instr.wf (.slipWindowAccess { master := 1 } false 0 0 0) &&
      !Instr.wf (.slipWindowAccess { master := 5 } false 0 0 0) &&
      !Instr.wf (.slipWindowAccess { master := 1 } false 4294967296 0 0)) = true ∧
    (Instr.wf (.plainWindowAccess gBus) &&
      !Instr.wf (.plainWindowAccess { gBus with beats := 257 })) = true := by decide +kernel

theorem test_wf_7 :
    (Instr.wf (.fieldSleep 0 false) &&
      !Instr.wf (.fieldSleep 16 false)) = true ∧
    (Instr.wf (.slipConfigScrubRead 0 0) &&
      !Instr.wf (.slipConfigScrubRead 4294967296 0) &&
      !Instr.wf (.slipConfigScrubRead 0 128)) = true ∧
    (Instr.wf (.trimReplay 0) &&
      !Instr.wf (.trimReplay 1024)) = true ∧
    (Instr.wf (.xipRead { master := 1 } 0) &&
      !Instr.wf (.xipRead { master := 5 } 0) &&
      !Instr.wf (.xipRead { master := 1 } 4294967296)) = true ∧
    (Instr.wf (.tempSample [none, none, none, none, none, none]) &&
      !Instr.wf (.tempSample [none])) = true ∧
    (Instr.wf (.pcieLinkStateChange false 0 0) &&
      !Instr.wf (.pcieLinkStateChange false 4 0) &&
      !Instr.wf (.pcieLinkStateChange false 0 17)) = true ∧
    (Instr.wf (.hmLoadStore .load32 0 0 0) &&
      !Instr.wf (.hmLoadStore .load32 32 0 0) &&
      !Instr.wf (.hmLoadStore .load32 0 32 0)) = true ∧
    (Instr.wf (.hmBranch .jump 0 0 0 0) &&
      !Instr.wf (.hmBranch .jump 32 0 0 0) &&
      !Instr.wf (.hmBranch .jump 0 32 0 0) &&
      !Instr.wf (.hmBranch .jump 0 0 32 0)) = true ∧
    (Instr.wf (.hmIntegerInstruction .addi 0 0 0 0) &&
      !Instr.wf (.hmIntegerInstruction .addi 32 0 0 0) &&
      !Instr.wf (.hmIntegerInstruction .addi 0 32 0 0) &&
      !Instr.wf (.hmIntegerInstruction .addi 0 0 32 0)) = true ∧
    (Instr.wf (.laneLockRegained 0) &&
      !Instr.wf (.laneLockRegained 12)) = true := by decide +kernel

theorem test_wf_fields : (
    [.ping { gReq with pkt := { gReq.pkt with version := 256 } }, .ping { gReq with pkt := { gReq.pkt with session := 256 } },
     .ping { gReq with pkt := { gReq.pkt with priority := 256 } }, .ping { gReq with pkt := { gReq.pkt with opcode := 65536 } },
     .ping { gReq with pkt := { gReq.pkt with handle := 65536 } }, .ping { gReq with pkt := { gReq.pkt with status := 65536 } },
     .ping { gReq with pkt := { gReq.pkt with payload := zeros 8193 } }, .ping { gReq with ep := .udp 4294967296 0 0 },
     .ping { gReq with ep := .udp 0 65536 0 }, .ping { gReq with ep := .udp 0 0 2 }, .sysctlSwreset { master := 3, node := 16 },
     .plainWindowAccess { gBus with who := { master := 5 } }, .plainWindowAccess { gBus with addr := 4294967296 },
     .plainWindowAccess { gBus with size := 3 }, .plainWindowAccess { gBus with beats := 0 },
     .plainWindowAccess { gBus with write := true, data := [] }, .plainWindowAccess { gBus with qos := 16 },
     .matrixRequest gBus [] [{ write := true, addr := 0, data := [] }],
     .matrixRequest gBus [] [{ write := false, addr := 4294967296, data := [] }], .debugAccess (.setWatch 2 0 true),
     .debugAccess (.readReg 4294967296), .debugAccess (.writeReg 4294967296 0), .debugAccess (.readMem 4294967296),
     .debugAccess (.writeMem 4294967296 0), .waking { gFw with dst := 16 }, .waking { gFw with src := 16 }, .waking { gFw with kind := 16 },
     .waking { gFw with qos := 16 }, .waking { gFw with epoch := 16 }, .waking { gFw with status := 16 },
     .waking { gFw with addr := 4294967296 }, .join { gTl with src := 281474976710656 }, .join { gTl with version := 256 },
     .join { gTl with stationId := 256 }, .join { gTl with flags := 256 }, .join { gTl with epoch := 65536 },
     .join { gTl with length := 65536 }, .join { gTl with cycle := 4294967296 }, .join { gTl with mark := 4294967296 },
     .ptpSync 0 { gPtp with seq := 65536 }, .ptpSync 0 { gPtp with priority1 := 256 }, .ptpSync 0 { gPtp with clockClass := 256 },
     .ptpSync 0 { gPtp with accuracy := 256 }, .ptpSync 0 { gPtp with variance := 65536 }, .ptpSync 0 { gPtp with priority2 := 256 },
     .ptpSync 0 { gPtp with stepsRemoved := 65536 }] : List Instr).all (fun i => !i.wf) = true := by decide +kernel

/-! ### Known answers: the document the spec names, or its own worked examples -/

/-- FIPS 180-4: SHA-256 of "abc" (R146 names the hash). -/
theorem test_sha256_abc : (sha256 [0x61, 0x62, 0x63]).take 8 = [0xBA, 0x78, 0x16, 0xBF, 0x8F, 0x01, 0xCF, 0xEA] := by decide +kernel

/-- CRC-32/ISO-HDLC of the nine digits. -/
theorem test_crc32_digits : crc32 [0x31, 0x32, 0x33, 0x34, 0x35, 0x36, 0x37, 0x38, 0x39] = 0xCBF43926 := by decide +kernel

/-! ### Small states and operands for the witnesses -/

namespace Wit

def z (n : Nat) : Bytes := List.replicate n 0
def w4 (n : Nat) : Bytes := leBytes 4 n
/-- A device after Harbour Open with one session of pair 0, which holds the control token. -/
def up : State := (({ omx := { sessions := [(1, { ep := .pcie 0, livenessMs := 3000, expected := 5 })], token := 1 }, boot := { held := false, basins := true } } : State).setRbit Reg.sysctlBootStatus 15 true).setRbit Reg.otpStatus 0 true
def valveP : Bytes := (z 80).set 0 2 |>.set 2 1 |>.set 36 1 |>.set 40 1 |>.set 68 0xE8 |>.set 69 3
def cfgN : Bytes := [1,0,3,1,0,0,0,0] ++ [1,0,0,0,0,0,0,0] ++ [5,1,0,0,0,0,0,0] ++ [7,1,2,0,9,0,0,0]
def mkCh (t : ChType) (st : ChState) (p : Bytes) (roles : List RoleBind) : Channel := { typ := t, state := st, params := p, roles, model := z 56, modelWritten := z 56 }
def openGuards (m n : Nat) (s : State) : State :=
  { s with guards := (List.range 64).map fun i => (i, { holder := some (m, n) }) }
def addCh (k : Nat) (c : Channel) (s : State) : State := { s with chans := Store.insert s.chans k c }
def sess : Session := { ep := .pcie 0, livenessMs := 3000, expected := 5, authed := true, ks := z 32, subs := [(2, ⟨1, false, [], [], [], 0⟩)], assembly := some ⟨0x501, 0, [1,2]⟩, heldReqs := [], challenge := some ⟨z 16, z 16⟩ }
def valve0 : Channel := mkCh .valve .defined valveP []
def pump1 : Channel := mkCh .pump .bound (valveP.set 0 3) [⟨1, 3, 5⟩, ⟨2, 3, 1⟩]
def level2 : Channel := mkCh .level .active (valveP.set 0 1) [⟨1, 3, 1⟩]
/-- The same device with channels in five states, stations in six, a vessel model, a design and a customer key. -/
def rich : State :=
  let s := { up with omx := { up.omx with sessions := [(1, sess)] } }
  let s := addCh 0 valve0 s
  let s := addCh 1 pump1 s
  let s := addCh 2 level2 s
  let s := addCh 3 (mkCh .valve .safed valveP [⟨1, 3, 7⟩, ⟨2, 4, 1⟩]) s
  let s := addCh 4 (mkCh .valve .armed valveP [⟨1, 3, 5⟩, ⟨2, 3, 1⟩]) s
  let s := (s.setStation 3 { config := cfgN, state := .moored, mac := 7, epoch := 2, takePart := true }).setStation 4 { config := cfgN, state := .hailed }
  let s := (s.setStation 5 { config := cfgN, state := .slack }).setStation 6 { config := cfgN, state := .joining, join := some ⟨9, 0, 3, .hailed⟩ }
  let s := (s.setStation 7 { config := cfgN, state := .lost }).setStation 8 { config := cfgN, state := .absent }
  let s := { s with ves := { s.ves with half := { s.ves.half with live := some {}, published := some { cycle := 7, strengthOk := true, strengthCycle := 6, sections := [(0,(3,4)),(1,(5,-6))] } } } }
  let s := { s with slip := { s.slip with design := some ⟨5, 6, 1, [(0,1)], []⟩, shadow := some (5, 7) }, tl := { s.tl with epoch := 9 } }
  { s with otp := { s.otp with custKey := some (z 32) }, wear := [(0, ⟨5, 3000000, 0, 0, false, 0⟩)], lostClocks := 0, freeCtr := 3,
           gens := [(3, 2)] }
def run0 (s : State) : State := { s with wc := { s.wc with running := true, cycle := 9, everStarted := true } }
def req (handle : Nat) (p : Bytes) : Req := { ep := .pcie 0, pkt := { session := 1, seq := 5, opcode := if handle = 0 then 1 else 0x0207, handle, payload := p } }
def openReq (p : Bytes) : Req := { ep := .hspi, pkt := { seq := 9, opcode := 3, payload := p } }
def authReq : Req := req 0 (hmac (z 32) (labelHost ++ z 16 ++ z 16 ++ [1]))

def setAt (b : Bytes) (o : Nat) (v : Bytes) : Bytes := b.take o ++ v ++ b.drop (o + v.length)
def setAll (b : Bytes) (l : List (Nat × Bytes)) : Bytes := l.foldl (fun b x => setAt b x.1 x.2) b
/-- A configuration block and the header of a one-block Slipway image. -/
def blk : Bytes := z 4092 ++ w4 1614480521
def hdr : Bytes :=
  setAll (z 256) [(0, w4 0x5359444E), (4, [1,0,0x44,0x4E,0x60,0xB1]), (12, w4 1), (16, w4 4352), (20, [1,0]), (24, List.replicate 12 255), (32, w4 558161692), (252, w4 345901248)]
/-- An image that is its header alone. -/
def bare : Bytes := setAll (z 256) [(16, w4 256)]
/-- The smallest vessel model that VSL_COMMIT takes: two hydrostatic records, one section over the whole length. -/
def partT : Bytes := setAll (z 112) ([(0, w4 60000), (12, w4 30000), (16, w4 1000), (32, w4 1000000), (36, [2, 0])] ++
  (List.range 9).flatMap fun i => [(40 + 4 * i, w4 (100 * i)), (76 + 4 * i, w4 (100 * i))])
def hydroT : Bytes := setAll (z 64) [(24, w4 1), (32, w4 1000), (36, w4 5000), (56, w4 1)]
def secDef : Bytes := setAll (z 20) [(3, [2]), (8, w4 60000), (12, w4 1000)]
def areaT : Bytes := setAll (z 16) [(8, w4 100), (12, w4 50)]
def tab (d : Bytes) : TableLoad := ⟨d.length, 0, d, true⟩
def model1 : VesselModel := { modelId := 1, sections := [(0, secDef)], tables := [(tableKey 1 0, tab partT), (tableKey 2 0, tab hydroT), (tableKey 4 0, tab areaT)] }
/-- A kernel image of the one macro-instruction END. -/
def progImg : Bytes :=
  let p := setAll (z 40) [(0, w4 0x4B59444E), (4, [0x60, 0xB1, 1, 0]), (8, w4 1), (12, w4 8), (16, [0xE0, 0x11]), (32, [0x68])]
  p ++ w4 (crc32 p).toNat
/-- A boot image, a patch image, and the hashes of the keys that sign them. -/
def bootImg : Bytes := leBytes 260 0x13521d2f600000000000000000000000000000000000000000000000000000000081249712e55f2557a1f615552b504bcea6cc3969387101d2897068facec7dcd4c0b704b7b42fad43a41403eb47cc01f56076621d9431b41c1190b8b1683c7f41712a9638c90f9f50d05017bb3c9f7c583a0ca5b77ac49d1d7ee9492d93950fad712a9638c90f9f50d05017bb3c9f7c583a0ca5b77ac49d1d7ee9492d93950fad6597b40c083e4f16a0edec719655055d758d67fc19bfdfa2cf09f2482f9fa0eb0000000000000000000000000000000000000000000000000000000000000000000000000000000000000004000000000000000a0000b160000100014959444e
def bootKey : Bytes := leBytes 32 0x13265e23d2840eb0ce1df52973efe36b77711abbcca64fb2922b96372b025e35
def patchImg : Bytes := leBytes 210 0x2000000005450964ec518e7125abcccee9caff53396f829cc11aaa54eccb6f48a3b87706fa13e13821f37ab2569213512f6e62d162a281f30057b9fd1a6445ddc0ee1e78ccd39b8ba78627800239aaae0661b15f0221e3755ef09a39ddc44840c3b58335f6849756135da7800239aaae0661b15f0221e3755ef09a39ddc44840c3b58335f6849756135da7b9352c94de3a575a17888b6207fb4f252fe07722662fb3dfd23ae0d835633fc00000000000000000000000000000000000000000000000e0000b1605059444e
def patchKey : Bytes := leBytes 32 0x6468bb622fe011e8d6f2bb88c0adda52d1506bc054761f816a3bcb71f84e6e1

def busReq (who : Initiator) (addr : Nat) (write : Bool) (size : Nat) : BusReq := { who, addr, write, size, beats := 1, data := if write then List.replicate size 7 else [] }
def pk (n : Nat) : Packet := { session := 1, opcode := n, payload := [1,2,3] }
/-- An open device whose PCIe endpoint is configured, with packets waiting for the host. -/
def hs : State := ({ up with host := { up.host with perst := false, memEnable := true, bootWait := false, linkDownPending := true }, omx := { up.omx with hspiWait := [pk 1, pk 2], boxes := [(0, { replyBuf := some (pk 3), replyWait := [pk 4], replyReady := true, evRing := [], evProd := 3, evCons := 1 }), (1, { replyBuf := some (pk 3), replyWait := [], replyReady := true })] } } : State).setRbit Reg.sysctlBootStatus 17 true
/-- A device in its boot ROM, and one in a load mode. -/
def bootS : State := { up with boot := { up.boot with imaged := false, basins := true, mode := 0, retries := [1, 0] }, otp := { up.otp with keyHash := [(0, bootKey)] } }
def loadS (mode : Nat) : State := { up with host := { up.host with bootWait := true }, boot := { up.boot with mode, basins := true } }
def opened (r : Nat) (v : Nat) (s : State) : State := openGuards 1 0 (s.setReg r (BitVec.ofNat 32 v))

/-- Ports that receive and send, with links up. -/
def eup : State := (((((rich.setReg Reg.ethCtrl 0x7F).setReg (Reg.ethCtrl + 65536) 0xFF).setReg Reg.ethMacLo 0x33221100).setFld Reg.ethMacHi 15 0 0x5544).setReg (Reg.ethStatus) 3).setReg (Reg.ethStatus + 65536) 1
def tf (p t : Nat) : TxTl := { port := p, dest := 5, typ := t, stationId := 3, cycle := 1, mark := 2, epoch := 3, payload := z 8 }
def rxTl (s : State) : RxFrame := { bytes := ((List.range 6).map fun i => BitVec.ofNat 8 (s.macAddr 0 / 256 ^ (5 - i))) ++ z 6 ++ [0x88, 0xB5] ++ z 60 }
def r1 : State := run0 rich
def one (st : Station) : State := { r1 with tl := { r1.tl with stations := [(3, st)] }, wc := { r1.wc with lastOutcome := .discarded } }
def stMo : Station := { config := cfgN, state := .moored, mac := 7, epoch := 2, takePart := true, inputFor := some 9, inbox := [(1, (0, 5))], points := [(1,(0,3))], sends := 2 }
def fq (n tid d : Nat) : FwTid := { req := { dst := d, src := n, kind := 1, tid := tid, addr := 0x20000000, length := 4 }, retries := 2 }
def fwS : State := { rich with fw := { rich.fw with tids := [(3, fq 0 3 1), (256*1+3, fq 1 3 9), (256*8+0, fq 8 0 0), (256*9+3, fq 9 3 1)], quarantine := [(8, 1)], trace := [[1,2,3,4],[5,6,7,8]], tracePos := 0 } }
def fp (kind dst src tid : Nat) (bad : Nat) : FwPacket := { dst, src, kind, tid, addr := 0x20000000, length := 4, data := [1,2,3,4], allowNs := 7, poisoned := bad == 1, crcBad := bad == 2 }
def wd (l : List (Nat × Nat)) : BitVec 112 := BitVec.ofNat 112 (l.foldl (fun a x => a + x.2 * 2 ^ x.1) 0)
def pil (p : Pilot) : State := { rich with pilot := p, plain := { rich.plain with power := (List.replicate 16 .off).set 2 .on, mem := [(5,9)], elems := [(66, { x := true, y := true }), (67, { c := true })] } }
def tp (n : Nat) (s : State) : State := s.setFld Reg.pilotTrapPend 6 0 n
def pw (l : List Power) (s : State) : State := { s with plain := { s.plain with power := l } }
def allOn : List Power := List.replicate 16 .on
def qs (n : Nat) (s : State) : State := pw allOn (s.setFld Reg.quayStatus 2 0 n)
def badD (s : State) : State := { s with mem := Memory.writeBytes s.mem 0x22000000 ([1,0,5,0] ++ z 28) }
def ph (p : Phase) (s : State) : State := { s with wc := { s.wc with phase := p, gathered := true } }
def memP : Store Byte := [(5, 9), (1024, 7), (102405, 8)]

/-- A running design whose virtual station 0 has queue controllers 0 and 1. -/
def slipRun (mode rx : Nat) : State :=
  ((((rich.setReg Reg.slipctlStatus 1).setReg Reg.slipctlQcCfg (BitVec.ofNat 32 (mode + 4 * rx))).setReg Reg.slipctlQcSize 64).setReg Reg.slipctlQcSize 64)
def withSlip (f : Slipway → Slipway) (s : State) : State := { s with slip := f s.slip }
def canC : Bytes := setAll (z 48) [(12, [1, 1]), (16, [0x23, 1]), (24, [0x23, 1, 0, 0, 1])]
def canS (ctrl : BitVec 32) : State := { ((up.setStation 120 { config := canC }).setReg Reg.canCtrl ctrl) with cans := [(0, { txQueue := [0] })] }
def flashS (op : FlashOp) : State := { up.setReg Reg.qspiCtrl 0x80 with flash := { up.flash with ops := [op] } }
def modbusC : Bytes := setAll (z 40) [(5, [1]), (12, [2, 1]), (16, [7, 3, 0, 0, 2]), (24, [7, 16, 0, 0, 2]), (32, [1])]
def nmeaC : Bytes := setAll (z 28) [(5, [2]), (13, [1]), (16, [1]), (20, [71, 80, 71, 71, 65])]
def uartS (c : Bytes) (ctrl : BitVec 32) (u : Uart) : State := { ((up.setStation 112 { config := c }).setReg Reg.uartCtrl ctrl) with uarts := [(0, u)] }
def nmeaLine : Bytes := [36, 71, 80, 71, 71, 65, 44, 49, 13, 10]
/-- A core in supervisor mode, with r7 at a Basin address and interrupt source 3 offered at level 9. -/
def hmS (hsr : Word) (wvm : BitVec 8) : State :=
  { up with hm := { up.hm with g := [0, 1, 2, 3, 4, 5, 6, 0x20000000], h := (List.range 32).map fun i => BitVec.ofNat 32 (i + 1), hsr, wvm } }
/-- The Plain with field 2 on, and the Pilot in a foreground. -/
def plS (p : Pilot) : State :=
  { up with pilot := p, plain := { up.plain with power := (List.replicate 16 .off).set 2 .on, mem := [(66 * 1024 + 12, 5), (66 * 1024 + 25, 3), (66 * 1024 + 26, 9), (66 * 1024 + 30, 0x80), (66 * 1024 + 31, 0xFF)] } }
def vesS : State := { rich with ves := { rich.ves with staging := model1 } }
def fg : Pilot := { st := .foreground }
def mk (w dst s1 s2 rest : Nat) : MacroInstr := BitVec.ofNat 64 (w * 2^8 + dst * 2^14 + s1 * 2^27 + s2 * 2^40 + rest * 2^53)
def sealRun (s : State) : State := { s with wc := { s.wc with running := true, cycle := 9, everStarted := true } }

theorem admits_of {s : State} {q : Req} (h : s.omx.interp = [] ∧ (s.heard q).checkReq q.ep q.pkt = .go ∧ q.pkt.isCont = false ∧
    (s.argOf q).payload.length ≤ 65536 ∧ (s.bodyAt q).check11 (s.argOf q) = none) : s.Admits q :=
  ⟨h.1, h.2.1, h.2.2.1, h.2.2.2.1, h.2.2.2.2⟩

theorem reaches_of {s : State} {who : Initiator} {a : Nat} (h : s.silent who = false ∧ s.masterFenced who.master 4 = false ∧ who.master ≠ 0 ∧
    (who.master == 4 && s.otp.jtagLock) = false ∧ (blockOf a == 3 && !s.arrUp) = false) : s.Reaches who a := ⟨h.1, h.2.1, h.2.2.1, h.2.2.2.1, h.2.2.2.2⟩

theorem opens_of {s : State} {who : Initiator} {a : Nat} (h : (s.silent who = false ∧ s.masterFenced who.master 4 = false ∧ who.master ≠ 0 ∧
    (who.master == 4 && s.otp.jtagLock) = false ∧ (blockOf a == 3 && !s.arrUp) = false) ∧ s.guardOpen (blockOf a) who = true) : s.Opens who a :=
  { toReaches := reaches_of h.1, guard := h.2 }

theorem quiet_of {s : State} (h : s.held = [] ∧ s.atPort = [] ∧ s.paths = [] ∧ s.boot.basins = true) : s.Quiet := ⟨h.1, h.2.1, h.2.2.1, h.2.2.2⟩

theorem portFree_of {s : State} (h : s.fw.parked = [] ∧ s.slip.portWait = [] ∧ s.atPort = []) : s.PortFree := ⟨h.1, h.2.1, h.2.2⟩

/-- The state after the fetch of the instruction at the pc. -/
def fetched (s : State) : State := (State.fetch { s with hm := { s.hm with waiting := false }, dbg := { s.dbg with stepping := false } }).1

theorem fetches_of {s : State} (h : s.hmRuns = true ∧ s.dbg.breaks = [] ∧
    (State.fetch { s with hm := { s.hm with waiting := false }, dbg := { s.dbg with stepping := false } }).2 = 0) : s.Fetches (fetched s) :=
  ⟨h.1, .inr (by rw [h.2.1]; intro k a hm; cases hm), Prod.ext rfl h.2.2⟩


/-- The state in which an FP instruction issues, once what it depends on has completed. -/
def issued (s : State) (uses : List Nat) (divider : Bool) : State :=
  { fetched s with hm := (fetched s).hm.completeN ((fetched s).hm.waitsFor uses divider) }

theorem issues_of {s : State} {uses : List Nat} {divider : Bool} (h : (s.hmRuns = true ∧ s.dbg.breaks = [] ∧
    (State.fetch { s with hm := { s.hm with waiting := false }, dbg := { s.dbg with stepping := false } }).2 = 0) ∧
    (issued s uses divider).hm.fq = [] ∧ (issued s uses divider).hm.fe = true) : s.Issues (issued s uses divider) uses divider :=
  ⟨⟨fetched s, fetches_of h.1, rfl⟩, h.2.1, h.2.2⟩

end Wit
open Wit

open Wit

/-! ### The hypotheses of the statements are met: one theorem a statement, a conjunct a clause -/

set_option maxRecDepth 20000

theorem test_hyps_StepRunsFront :
    (∃ s : State, s.pending ≠ []) ∧
    (∃ s : State, s.pending = []) :=
  ⟨⟨{ up with pending := [.perstNAssert] }, by decide +kernel⟩,
   ⟨up, by decide +kernel⟩⟩

theorem test_hyps_SystemCommandsComplete :
    (∃ q : Req, ∃ s : State, s.Admits q ∧ (let p := (s.argOf q).payload; p.length ≤ 64)) ∧
    (∃ q : Req, ∃ s : State, s.Admits q ∧ (let p := (s.argOf q).payload; p.length = 4 ∧ (u16 p 0 = 0 ∨ 500 ≤ u16 p 0 ∧ u16 p 0 ≤ 60000) ∧ firstNonZero p 2 2 = none ∧ (let u := s.bodyAt q; u.endpointBound q.ep = false ∧ (u.freeSession).isSome = true))) ∧
    (∃ q : Req, ∃ s : State, s.Admits q ∧ (let p := [0, 0, 0, 0]; q.pkt.session ≠ 0 ∧ p = (s.argOf q).payload ∧ (let u := s.bodyAt q; u.omx.token = 0))) ∧
    (∃ q : Req, ∃ s : State, s.Admits q ∧ (let p := []; p = (s.argOf q).payload ∧ (let u := s.bodyAt q; u.omx.token = q.pkt.session))) ∧
    (∃ q : Req, ∃ s : State, s.Admits q ∧ (let p := (s.argOf q).payload; p.length = 8 ∧ u32 p 0 = 0xA5A5 ∧ u8 p 4 = 1 ∧ firstNonZero p 5 3 = none)) :=
  ⟨⟨req 0 ([0,0,0,0]), up, admits_of (by decide +kernel), by decide +kernel⟩,
   ⟨openReq [0,0,0,0], up, admits_of (by decide +kernel), by decide +kernel⟩,
   ⟨req 0 ([0,0,0,0]), { up with omx := { up.omx with token := 0 } }, admits_of (by decide +kernel), by decide +kernel⟩,
   ⟨req 0 ([]), up, admits_of (by decide +kernel), by decide +kernel⟩,
   ⟨req 0 ([0xA5,0xA5,0,0,1,0,0,0]), up, admits_of (by decide +kernel), by decide +kernel⟩⟩

theorem test_hyps_CycleCommandsComplete :
    (∃ q : Req, ∃ s : State, s.Admits q ∧ (let p := (s.argOf q).payload; p.length = 16 ∧ (let u := s.bodyAt q; u.otp.custKey.isSome = true ∧ u.omx.lockout = false))) ∧
    (∃ q : Req, ∃ s : State, s.Admits q ∧ (let p := (s.argOf q).payload; p.length = 32 ∧ (let u := s.bodyAt q; ∃ k ∈ u.otp.custKey, ∃ c ∈ ((u.session q.pkt.session).bind fun x => x.challenge), p = hmac k (labelHost ++ c.devNonce ++ c.hostNonce ++ [BitVec.ofNat 8 q.pkt.session])))) ∧
    (∃ q : Req, ∃ s : State, s.Admits q ∧ (let p := []; p = (s.argOf q).payload ∧ (let u := s.bodyAt q; u.cycleOn = false ∧ u.fld Reg.sysctlPlainFail 15 0 ≠ 0xFFFF))) ∧
    (∃ q : Req, ∃ s : State, s.Admits q ∧ (let p := []; p = (s.argOf q).payload ∧ (let u := s.bodyAt q; u.cycleOn = true ∧ u.wc.stopPending = false))) :=
  ⟨⟨req 0 (z 16), rich, admits_of (by decide +kernel), by decide +kernel⟩,
   ⟨authReq, rich, admits_of (by decide +kernel), by decide +kernel⟩,
   ⟨req 0 ([]), up, admits_of (by decide +kernel), by decide +kernel⟩,
   ⟨req 0 ([]), run0 rich, admits_of (by decide +kernel), by decide +kernel⟩⟩

theorem test_hyps_ChannelCommandsComplete :
    (∃ q : Req, ∃ s : State, s.Admits q ∧ (let k := s.argOf q; (let p := k.payload; p.length = 8 + u16 p 4 ∧ u8 p 1 ≤ 1 ∧ u16 p 2 ≤ 1023 ∧ u16 p 4 ≤ 1024 ∧ firstNonZero p 6 2 = none ∧ (let u := s.bodyAt q; ∃ t ∈ (chType? (u8 p 0)), t ≠ .custom ∧ u16 p 4 = blockLength t (p.drop 8) ∧ badField t (p.drop 8) = none ∧ (u.pickSlot (u16 p 2) (u8 p 1 % 2 == 1)).isSome = true)))) ∧
    (∃ q : Req, ∃ s : State, s.Admits q ∧ (let p := [0, 0, 0, 0]; (let k := s.argOf q; p = k.payload ∧ (let u := s.bodyAt q; u.dependents (slotOf q.pkt.handle) false = false ∧ ∃ c ∈ (u.checkHandle q.pkt.handle).toOption, c.destroying = false ∧ (c.state = .defined ∨ c.state = .bound))))) ∧
    (∃ q : Req, ∃ s : State, s.Admits q ∧ (let k := s.argOf q; (let p := k.payload; p.length = 8 + u16 p 2 ∧ firstNonZero p 4 4 = none ∧ (let u := s.bodyAt q; ∃ c ∈ (u.checkHandle q.pkt.handle).toOption, c.destroying = false ∧ c.typ ≠ .custom ∧ c.state.runs = false ∧ (let d := u.latest (slotOf q.pkt.handle) c; u16 p 0 + u16 p 2 ≤ d.params.length ∧ (let new := d.params.take (u16 p 0) ++ p.drop 8 ++ d.params.drop (u16 p 0 + u16 p 2); badField c.typ new = none ∧ new.length = blockLength c.typ new)))))) ∧
    (∃ q : Req, ∃ s : State, s.Admits q ∧ (let k := s.argOf q; (let p := k.payload; p.length = 4 + 4 * u8 p 0 ∧ 1 ≤ u8 p 0 ∧ u8 p 0 ≤ 16 ∧ firstNonZero p 1 3 = none ∧ (let u := s.bodyAt q; ∃ c ∈ (u.checkHandle q.pkt.handle).toOption, c.destroying = false ∧ (c.state = .defined ∨ c.state = .bound) ∧ ∃ d ∈ (u.bindAll p (u8 p 0) 0 c).toOption, u.taken (slotOf q.pkt.handle) d = false)))) ∧
    (∃ q : Req, ∃ s : State, s.Admits q ∧ (let k := s.argOf q; (let p := k.payload; p.length = 4 ∧ u8 p 0 ≤ 1 ∧ firstNonZero p 1 3 = none ∧ (let u := s.bodyAt q; u.dependents (slotOf q.pkt.handle) true = false ∧ ∃ c ∈ (u.checkHandle q.pkt.handle).toOption, c.destroying = false ∧ c.state ≠ .defined ∧ c.state ≠ .bound)))) ∧
    (∃ q : Req, ∃ s : State, s.Admits q ∧ (let k := s.argOf q; (let p := k.payload; p.length = 12 ∧ u8 p 0 = 0 ∧ u32 p 8 = 0 ∧ firstNonZero p 1 3 = none ∧ (let u := s.bodyAt q; u.duty = [] ∧ ∃ c ∈ (u.checkHandle q.pkt.handle).toOption, c.destroying = false ∧ hasSetpoint c = true ∧ pSpMin (u.latest (slotOf q.pkt.handle) c).params ≤ s32 p 4 ∧ s32 p 4 ≤ pSpMax (u.latest (slotOf q.pkt.handle) c).params ∧ c.state ≠ .safed ∧ c.state ≠ .faulted)))) ∧
    (∃ q : Req, ∃ s : State, s.Admits q ∧ (let p := [0, 0, 0, 0]; (let k := s.argOf q; p = k.payload ∧ (let u := s.bodyAt q; ∃ c ∈ (u.checkHandle q.pkt.handle).toOption, c.destroying = false ∧ c.state.runs = true)))) ∧
    (∃ q : Req, ∃ s : State, s.Admits q ∧ (let p := [0, 0, 0, 0]; (let k := s.argOf q; p = k.payload ∧ (let u := s.bodyAt q; ∃ c ∈ (u.checkHandle q.pkt.handle).toOption, c.destroying = false ∧ c.state = .safed)))) :=
  ⟨⟨req 0 ([2,0,9,0,80,0,0,0] ++ valveP), up, admits_of (by decide +kernel), by decide +kernel⟩,
   ⟨req 1024 ([0,0,0,0]), rich, admits_of (by decide +kernel), by decide +kernel⟩,
   ⟨req 1024 ([8,0,4,0,0,0,0,0] ++ z 4), rich, admits_of (by decide +kernel), by decide +kernel⟩,
   ⟨req 1024 ([1,0,0,0,1,4,7,0]), rich, admits_of (by decide +kernel), by decide +kernel⟩,
   ⟨req 1026 ([0,0,0,0]), rich, admits_of (by decide +kernel), by decide +kernel⟩,
   ⟨req 1024 (z 12), rich, admits_of (by decide +kernel), by decide +kernel⟩,
   ⟨req 1026 ([0,0,0,0]), rich, admits_of (by decide +kernel), by decide +kernel⟩,
   ⟨req 2051 ([0,0,0,0]), rich, admits_of (by decide +kernel), by decide +kernel⟩⟩

theorem test_hyps_ChannelReadsComplete :
    (∃ q : Req, ∃ s : State, s.Admits q ∧ (let k := s.argOf q; (let p := k.payload; p.length = 4 ∧ u16 p 0 = 0 ∧ u8 p 2 = 0xFF ∧ u8 p 3 = 0))) ∧
    (∃ q : Req, ∃ s : State, s.Admits q ∧ (let p := [0, 0, 0, 0]; (let k := s.argOf q; p = k.payload ∧ (let u := s.bodyAt q; ∃ c ∈ (u.checkHandle q.pkt.handle).toOption, c.destroying = false)))) ∧
    (∃ q : Req, ∃ s : State, s.Admits q ∧ (let n := slotOf q.pkt.handle; (let k := s.argOf q; (let p := k.payload; p.length = 4 + 4 * u8 p 0 ∧ u8 p 0 ≤ 8 ∧ firstNonZero p 1 3 = none ∧ (let u := s.bodyAt q; u.badDep n p = none ∧ ∃ c ∈ (u.checkHandle q.pkt.handle).toOption, c.destroying = false))))) ∧
    (∃ q : Req, ∃ s : State, s.Admits q ∧ (let k := s.argOf q; (let p := k.payload; p.length = 8 ∧ firstNonZero p 1 1 = none ∧ u16 p 2 = 0 ∧ firstNonZero p 4 4 = none ∧ u8 p 0 = 0 ∧ (let u := s.bodyAt q; ∃ c ∈ (u.checkHandle q.pkt.handle).toOption, c.destroying = false)))) ∧
    (∃ q : Req, ∃ s : State, s.Admits q ∧ (let k := s.argOf q; (let p := k.payload; p.length = 8 ∧ firstNonZero p 1 1 = none ∧ u16 p 2 = 0 ∧ firstNonZero p 4 4 = none ∧ u8 p 0 = 2 ∧ (let u := s.bodyAt q; ∃ c ∈ (u.checkHandle q.pkt.handle).toOption, c.destroying = false)))) ∧
    (∃ q : Req, ∃ s : State, s.Admits q ∧ (let k := s.argOf q; (let p := k.payload; p.length = 8 ∧ firstNonZero p 1 1 = none ∧ u16 p 2 = 0 ∧ firstNonZero p 4 4 = none ∧ u8 p 0 = 3 ∧ (let u := s.bodyAt q; ∃ c ∈ (u.checkHandle q.pkt.handle).toOption, c.destroying = false)))) ∧
    (∃ q : Req, ∃ s : State, s.Admits q ∧ (let k := s.argOf q; (let p := k.payload; p.length = 8 ∧ firstNonZero p 1 1 = none ∧ u16 p 2 = 0 ∧ firstNonZero p 4 4 = none ∧ u8 p 0 = 4 ∧ (let u := s.bodyAt q; ∃ c ∈ (u.checkHandle q.pkt.handle).toOption, c.destroying = false)))) ∧
    (∃ q : Req, ∃ s : State, s.Admits q ∧ (let k := s.argOf q; (let p := k.payload; p.length = 64 ∧ u8 p 0 = 1 ∧ firstNonZero p 1 1 = none ∧ u16 p 2 = 56 ∧ firstNonZero p 4 4 = none ∧ (let u := s.bodyAt q; ∃ c ∈ (u.checkHandle q.pkt.handle).toOption, c.destroying = false ∧ ((modelChecks c.typ (p.drop 8)).find? fun f => !f.good) = none)))) ∧
    (∃ s : State, s.cycleOn = true) ∧
    (∃ s : State, s.cycleOn = false) ∧
    (∃ s : State, s.wc.running = true ∧ s.wc.boundaryTaken = false) ∧
    (∃ s : State, s.wc.running = true ∧ s.wc.boundaryTaken = true ∧ s.wc.stopPending = false) :=
  ⟨⟨req 0 ([0,0,0xFF,0]), up, admits_of (by decide +kernel), by decide +kernel⟩,
   ⟨req 1024 ([0,0,0,0]), rich, admits_of (by decide +kernel), by decide +kernel⟩,
   ⟨req 1024 ([0,0,0,0]), rich, admits_of (by decide +kernel), by decide +kernel⟩,
   ⟨req 1024 (z 8), rich, admits_of (by decide +kernel), by decide +kernel⟩,
   ⟨req 1024 ([2,0,0,0,0,0,0,0]), rich, admits_of (by decide +kernel), by decide +kernel⟩,
   ⟨req 1024 ([3,0,0,0,0,0,0,0]), rich, admits_of (by decide +kernel), by decide +kernel⟩,
   ⟨req 1024 ([4,0,0,0,0,0,0,0]), rich, admits_of (by decide +kernel), by decide +kernel⟩,
   ⟨req 1024 ([1,0,56,0,0,0,0,0] ++ z 56), rich, admits_of (by decide +kernel), by decide +kernel⟩,
   ⟨run0 rich, by decide +kernel⟩,
   ⟨up, by decide +kernel⟩,
   ⟨run0 rich, by decide +kernel⟩,
   ⟨{ run0 rich with wc := { (run0 rich).wc with boundaryTaken := true } }, by decide +kernel⟩⟩

theorem test_hyps_StationCommandsComplete :
    (∃ q : Req, ∃ s : State, s.Admits q ∧ (let p := [0, 0, 0, 0]; (let k := s.argOf q; p = k.payload))) ∧
    (∃ q : Req, ∃ s : State, s.Admits q ∧ (let k := s.argOf q; (let p := k.payload; p.length = 16 + u16 p 10 ∧ u8 p 0 < 112 ∧ u8 p 1 ≤ 2 ∧ (u8 p 1 = 1 → u8 p 2 ≤ 1) ∧ u8 p 3 = 0 ∧ u16 p 10 ≤ 16384 ∧ firstNonZero p 12 4 = none ∧ (let u := s.bodyAt q; (u16 p 10 ≠ 0 → u.configFault (u8 p 0) (p.drop 16) = none) ∧ (u8 p 1 = 2 → (u.station (u8 p 0)).state ≠ .moored ∧ (u.station (u8 p 0)).state ≠ .slack))))) ∧
    (∃ q : Req, ∃ s : State, s.Admits q ∧ (let k := s.argOf q; (let p := k.payload; p.length = 12 ∧ u8 p 0 < 112 ∧ u8 p 1 = 1 ∧ u8 p 2 ≤ 15 ∧ u8 p 3 = 0 ∧ u8 p 4 ≤ 63 ∧ u8 p 5 ≤ 2 ∧ u8 p 6 = 0 ∧ u8 p 7 = 0 ∧ (let u := s.bodyAt q; (let st := u.station (u8 p 0); pointDir (u8 p 0) st.config (u8 p 4) = some true ∧ st.state ≠ .moored ∧ st.state ≠ .slack))))) ∧
    (∃ q : Req, ∃ s : State, s.Admits q ∧ (let k := s.argOf q; (let p := k.payload; p.length = 12 ∧ u8 p 0 < 112 ∧ u8 p 1 = 1 ∧ u8 p 2 ≤ 15 ∧ u8 p 3 = 0 ∧ u8 p 4 ≤ 63 ∧ u8 p 5 ≤ 2 ∧ u8 p 6 = 0 ∧ u8 p 7 = 0 ∧ (let u := s.bodyAt q; (let st := u.station (u8 p 0); pointDir (u8 p 0) st.config (u8 p 4) = some true ∧ (st.state = .moored ∨ st.state = .slack) ∧ st.sends = 0))))) ∧
    (∃ q : Req, ∃ s : State, s.Admits q ∧ (let k := s.argOf q; (let p := k.payload; p.length = 4 ∧ u8 p 0 ≤ 127 ∧ u8 p 1 ≤ 1 ∧ firstNonZero p 2 2 = none ∧ (let u := s.bodyAt q; (u.station (u8 p 0)).state ≠ .absent ∧ (u8 p 1 = 0 → (u.chans.any fun x => x.2.state.runs && x.2.roles.any fun b => b.station == u8 p 0) = false))))) ∧
    (∃ q : Req, ∃ s : State, s.Admits q ∧ (let k := s.argOf q; (let p := k.payload; p.length = 4 ∧ u8 p 0 ≤ 127 ∧ firstNonZero p 1 3 = none))) :=
  ⟨⟨req 0 ([0,0,0,0]), up, admits_of (by decide +kernel), by decide +kernel⟩,
   ⟨req 0 ([8,1,0,0] ++ z 12), up, admits_of (by decide +kernel), by decide +kernel⟩,
   ⟨req 0 ([8,1,3,0,5,1,0,0] ++ w4 9), rich, admits_of (by decide +kernel), by decide +kernel⟩,
   ⟨req 0 ([3,1,3,0,5,1,0,0] ++ w4 9), rich, admits_of (by decide +kernel), by decide +kernel⟩,
   ⟨req 0 ([7,0,0,0]), rich, admits_of (by decide +kernel), by decide +kernel⟩,
   ⟨req 0 ([0,0,0,0]), up, admits_of (by decide +kernel), by decide +kernel⟩⟩

theorem test_hyps_VesselCommandsComplete :
    (∃ q : Req, ∃ s : State, s.Admits q ∧ (let k := s.argOf q; (let p := k.payload; 16 ≤ p.length ∧ u8 p 0 = 1 ∧ u8 p 1 = 0 ∧ u16 p 2 = 0 ∧ u32 p 4 = 0 ∧ u32 p 8 = 112 ∧ p.length = 128 ∧ (crc32 (p.drop 16)).toNat = u32 p 12))) ∧
    (∃ q : Req, ∃ s : State, s.Admits q ∧ (let k := s.argOf q; (let p := k.payload; p.length = 28 ∧ u16 p 0 ≤ 511 ∧ u8 p 3 = 0 ∧ 1 ≤ u8 p 2 ∧ u8 p 2 ≤ 4 ∧ 2 ≤ u16 p 14 ∧ u16 p 14 ≤ 256))) ∧
    (∃ q : Req, ∃ s : State, s.Admits q ∧ (let k := s.argOf q; (let p := k.payload; p.length = 20 ∧ u16 p 0 ≤ 255 ∧ u8 p 2 = 0 ∧ 2 ≤ u8 p 3 ∧ u8 p 3 ≤ 64 ∧ firstNonZero p 17 3 = none))) ∧
    (∃ q : Req, ∃ s : State, s.Admits q ∧ (let k := s.argOf q; (let p := k.payload; p.length = 20 ∧ u8 p 0 ≤ 1 ∧ u8 p 1 ≤ 1 ∧ u16 p 2 = 0 ∧ (let u := s.bodyAt q; u.ves.half.live.isSome = true)))) ∧
    (∃ q : Req, ∃ s : State, s.Admits q ∧ (let p := []; (let k := s.argOf q; p = k.payload ∧ (let u := s.bodyAt q; (u.ves.half.published).isSome = true)))) ∧
    (∃ q : Req, ∃ s : State, s.Admits q ∧ (let p := [0, 0, 0, 0]; (let k := s.argOf q; p = k.payload ∧ (let u := s.bodyAt q; ∃ r ∈ u.ves.half.published, r.strengthOk = true)))) :=
  ⟨⟨req 0 ([1,0,0,0] ++ z 4 ++ w4 112 ++ w4 (crc32 partT).toNat ++ partT), rich, admits_of (by decide +kernel), by decide +kernel⟩,
   ⟨req 0 (setAll (z 28) [(2, [1]), (14, [2, 0])]), rich, admits_of (by decide +kernel), by decide +kernel⟩,
   ⟨req 0 (secDef), rich, admits_of (by decide +kernel), by decide +kernel⟩,
   ⟨req 0 (z 20), rich, admits_of (by decide +kernel), by decide +kernel⟩,
   ⟨req 0 ([]), rich, admits_of (by decide +kernel), by decide +kernel⟩,
   ⟨req 0 (z 4), rich, admits_of (by decide +kernel), by decide +kernel⟩⟩

theorem test_hyps_ImageCommandsComplete :
    (∃ q : Req, ∃ s : State, s.Admits q ∧ (let k := s.argOf q; (let p := k.payload; p.length = 4 ∧ firstNonZero p 2 2 = none ∧ (let u := s.bodyAt q; (Store.find? u.programs (u16 p 0)).isSome = true ∧ u.progUsers (u16 p 0) = [])))) ∧
    (∃ q : Req, ∃ s : State, s.Admits q ∧ (let p := [0, 0, 0, 0]; (let k := s.argOf q; p = k.payload))) ∧
    (∃ q : Req, ∃ s : State, s.Admits q ∧ (let k := s.argOf q; (let p := k.payload; 268 ≤ p.length ∧ u8 p 0 = 0 ∧ firstNonZero p 1 3 = none ∧ u32 p 4 = 0 ∧ 260 ≤ u32 p 8 ∧ u32 p 8 ≤ 393472 ∧ p.length ≤ 12 + u32 p 8 ∧ (let u := s.bodyAt q; u.omx.firmware = none)))) ∧
    (∃ q : Req, ∃ s : State, s.Admits q ∧ (let k := s.argOf q; (let p := k.payload; 12 ≤ p.length ∧ firstNonZero p 1 3 = none ∧ u32 p 8 = 0 ∧ u8 p 0 = 1 ∧ (let u := s.bodyAt q; ∃ g ∈ u.omx.firmware, g.owner = q.pkt.session ∧ u32 p 4 = g.data.length ∧ g.data.length + p.length ≤ g.total + 12)))) ∧
    (∃ q : Req, ∃ s : State, s.Admits q ∧ (let k := s.argOf q; (let p := k.payload; 12 ≤ p.length ∧ firstNonZero p 1 3 = none ∧ u32 p 8 = 0 ∧ u8 p 0 = 2 ∧ p.length = 12 ∧ (let u := s.bodyAt q; ∃ g ∈ u.omx.firmware, g.owner = q.pkt.session ∧ g.data.length = g.total ∧ u.imageResult g.data = 1 ∧ u.boot.imgSeq < u32 g.data 12)))) ∧
    (∃ q : Req, ∃ s : State, s.Admits q ∧ (let k := s.argOf q; (let p := k.payload; 12 ≤ p.length ∧ firstNonZero p 1 3 = none ∧ u32 p 8 = 0 ∧ u8 p 0 = 3 ∧ p.length = 12 ∧ (let u := s.bodyAt q; ∃ g ∈ u.omx.firmware, g.owner = q.pkt.session)))) ∧
    (∃ q : Req, ∃ s : State, s.Admits q ∧ (let k := s.argOf q; (let p := k.payload; patchWords (p.drop 196) ≤ 512 ∧ patchMatches (p.drop 196) ≤ 32 ∧ (let u := s.bodyAt q; u.cycleOn = false ∧ u.patchImageOk p = true)))) ∧
    (∃ q : Req, ∃ s : State, s.Admits q ∧ (let k := s.argOf q; (let p := k.payload; p.length = 36 ∧ u16 p 2 = 0x07B0 ∧ u8 p 0 = 1 ∧ u8 p 1 ≤ 3 ∧ (let u := s.bodyAt q; u.cycleOn = false ∧ u.otpRefused (u8 p 0) (u8 p 1) p = false)))) ∧
    (∃ q : Req, ∃ s : State, s.Admits q ∧ (let k := s.argOf q; (let p := k.payload; p.length = 36 ∧ u16 p 2 = 0x07B0 ∧ u8 p 0 = 2 ∧ u8 p 1 ≤ 3 ∧ firstNonZero p 4 32 = none ∧ (let u := s.bodyAt q; u.cycleOn = false ∧ u.otpRefused (u8 p 0) (u8 p 1) p = false)))) ∧
    (∃ q : Req, ∃ s : State, s.Admits q ∧ (let k := s.argOf q; (let p := k.payload; p.length = 36 ∧ u16 p 2 = 0x07B0 ∧ u8 p 0 = 3 ∧ u8 p 4 ≤ 63 ∧ firstNonZero p 5 31 = none ∧ (let u := s.bodyAt q; u.cycleOn = false ∧ u.otpRefused (u8 p 0) (u8 p 1) p = false ∧ u.otp.rollback < u8 p 4)))) ∧
    (∃ q : Req, ∃ s : State, s.Admits q ∧ (let k := s.argOf q; (let p := k.payload; p.length = 36 ∧ u16 p 2 = 0x07B0 ∧ u8 p 0 = 4 ∧ firstNonZero p 4 32 = none ∧ (let u := s.bodyAt q; u.cycleOn = false ∧ u.otpRefused (u8 p 0) (u8 p 1) p = false)))) ∧
    (∃ q : Req, ∃ s : State, s.Admits q ∧ (let k := s.argOf q; (let p := k.payload; p.length = 36 ∧ u16 p 2 = 0x07B0 ∧ u8 p 0 = 5 ∧ firstNonZero p 4 32 = none ∧ (let u := s.bodyAt q; u.cycleOn = false ∧ u.otpRefused (u8 p 0) (u8 p 1) p = false)))) ∧
    (∃ q : Req, ∃ s : State, s.Admits q ∧ (let k := s.argOf q; (let p := k.payload; p.length = 36 ∧ u16 p 2 = 0x07B0 ∧ u8 p 0 = 6 ∧ firstNonZero p 4 32 = none ∧ (let u := s.bodyAt q; u.cycleOn = false ∧ u.otpRefused (u8 p 0) (u8 p 1) p = false)))) ∧
    (∃ q : Req, ∃ s : State, s.Admits q ∧ (let k := s.argOf q; (let p := k.payload; p.length = 36 ∧ u16 p 2 = 0x07B0 ∧ u8 p 0 = 7 ∧ (let u := s.bodyAt q; u.cycleOn = false ∧ u.otpRefused (u8 p 0) (u8 p 1) p = false)))) :=
  ⟨⟨req 0 ([1,0,0,0]), { rich with programs := [(1, ⟨progImg, 8, 0, false, false⟩)] }, admits_of (by decide +kernel), by decide +kernel⟩,
   ⟨req 0 ([0,0,0,0]), rich, admits_of (by decide +kernel), by decide +kernel⟩,
   ⟨req 0 ([0,0,0,0] ++ w4 0 ++ w4 260 ++ bootImg), rich, admits_of (by decide +kernel), by decide +kernel⟩,
   ⟨req 0 ([1,0,0,0] ++ w4 256 ++ w4 0 ++ [1,2,3,4]), { rich with omx := { rich.omx with firmware := some ⟨1, 260, false, bootImg.take 256⟩ }, otp := { rich.otp with keyHash := [(0, bootKey)] } }, admits_of (by decide +kernel), by decide +kernel⟩,
   ⟨req 0 ([2] ++ z 11), { rich with omx := { rich.omx with firmware := some ⟨1, 260, false, bootImg⟩ }, otp := { rich.otp with keyHash := [(0, bootKey)] } }, admits_of (by decide +kernel), by decide +kernel⟩,
   ⟨req 0 ([3] ++ z 11), { rich with omx := { rich.omx with firmware := some ⟨1, 260, false, bootImg.take 256⟩ }, otp := { rich.otp with keyHash := [(0, bootKey)] } }, admits_of (by decide +kernel), by decide +kernel⟩,
   ⟨req 0 (patchImg), { rich with otp := { rich.otp with keyHash := [(0, patchKey)] } }, admits_of (by decide +kernel), by decide +kernel⟩,
   ⟨req 0 ([1,2,0xB0,7] ++ z 32), rich, admits_of (by decide +kernel), by decide +kernel⟩,
   ⟨req 0 ([2,0,0xB0,7] ++ z 32), rich, admits_of (by decide +kernel), by decide +kernel⟩,
   ⟨req 0 ([3,0,0xB0,7] ++ (1 :: z 31)), { up with boot := { up.boot with imgRollback := 3 } }, admits_of (by decide +kernel), by decide +kernel⟩,
   ⟨req 0 ([4,0,0xB0,7] ++ z 32), rich, admits_of (by decide +kernel), by decide +kernel⟩,
   ⟨req 0 ([5,0,0xB0,7] ++ z 32), rich, admits_of (by decide +kernel), by decide +kernel⟩,
   ⟨req 0 ([6,0,0xB0,7] ++ z 32), rich, admits_of (by decide +kernel), by decide +kernel⟩,
   ⟨req 0 ([7,0,0xB0,7] ++ z 32), { up with boot := { up.boot with imgRollback := 3 } }, admits_of (by decide +kernel), by decide +kernel⟩⟩

theorem test_hyps_SlipCommandsComplete :
    (∃ q : Req, ∃ s : State, s.Admits q ∧ blocksIn 0 = 0 ∧ (let k := s.argOf q; (let p := k.payload; 12 ≤ p.length ∧ u8 p 1 ≤ 1 ∧ firstNonZero p 2 2 = none ∧ u8 p 0 = 0 ∧ u32 p 4 = 0 ∧ u32 p 8 = u32 (p.drop 12) 16 ∧ p.length ≤ 12 + u32 p 8 ∧ badBlock (p.drop 12) 0 (blocksIn (p.length - 12)) = none ∧ (let u := s.bodyAt q; u.slip.staging = none ∧ u.slipHeaderFault (p.drop 12) = none)))) ∧
    (∃ q : Req, ∃ s : State, s.Admits q ∧ (let k := s.argOf q; (let p := k.payload; 12 ≤ p.length ∧ u8 p 1 ≤ 1 ∧ firstNonZero p 2 2 = none ∧ u32 p 8 = 0 ∧ u8 p 0 = 1 ∧ (let u := s.bodyAt q; ∃ g ∈ u.slip.staging, g.owner = q.pkt.session ∧ u32 p 4 = g.data.length ∧ g.data.length + p.length ≤ g.total + 12 ∧ badBlock (g.data ++ p.drop 12) (blocksIn g.data.length) (blocksIn (g.data ++ p.drop 12).length) = none)))) ∧
    (∃ q : Req, ∃ s : State, s.Admits q ∧ (let k := s.argOf q; (let p := k.payload; 12 ≤ p.length ∧ u8 p 1 ≤ 1 ∧ firstNonZero p 2 2 = none ∧ u32 p 8 = 0 ∧ u8 p 0 = 2 ∧ p.length = 12 ∧ (let u := s.bodyAt q; u.slip.waiting = none ∧ u.slip.applying = none ∧ ∃ g ∈ u.slip.staging, g.owner = q.pkt.session ∧ g.data.length = g.total ∧ u.slipApplyFault g.data = none)))) ∧
    (∃ q : Req, ∃ s : State, s.Admits q ∧ (let k := s.argOf q; (let p := k.payload; 12 ≤ p.length ∧ u8 p 1 ≤ 1 ∧ firstNonZero p 2 2 = none ∧ u32 p 8 = 0 ∧ u8 p 0 = 3 ∧ p.length = 12 ∧ (let u := s.bodyAt q; ∃ g ∈ u.slip.staging, g.owner = q.pkt.session)))) ∧
    (∃ q : Req, ∃ s : State, s.Admits q ∧ (let p := []; (let k := s.argOf q; p = k.payload))) ∧
    (∃ q : Req, ∃ s : State, s.Admits q ∧ (let k := s.argOf q; (let p := k.payload; p.length = 4 ∧ u8 p 0 ≤ 3 ∧ firstNonZero p 1 3 = none ∧ (let u := s.bodyAt q; u.canCapture (u8 p 0) = true)))) ∧
    (∃ q : Req, ∃ s : State, ∃ key, ∃ t, s.Admits q ∧ (let k := s.argOf q; (let p := k.payload; p.length = 8 ∧ u32 p 0 % 4 = 0 ∧ u32 p 0 < 56064 ∧ u16 p 4 % 4 = 0 ∧ firstNonZero p 6 2 = none ∧ (let u := s.bodyAt q; u.slip.shadow = some (key, t))))) :=
  ⟨⟨req 0 ([0,0,0,0] ++ w4 0 ++ w4 4352 ++ hdr), rich, admits_of (by decide +kernel), by decide +kernel⟩,
   ⟨req 0 ([1,0,0,0] ++ w4 256 ++ w4 0 ++ z 4), { rich with slip := { rich.slip with staging := some ⟨1, 4352, false, hdr⟩ } }, admits_of (by decide +kernel), by decide +kernel⟩,
   ⟨req 0 ([2] ++ z 11), { rich with slip := { rich.slip with staging := some ⟨1, 256, false, bare⟩ } }, admits_of (by decide +kernel), by decide +kernel⟩,
   ⟨req 0 ([3] ++ z 11), { rich with slip := { rich.slip with staging := some ⟨1, 4352, false, hdr⟩ } }, admits_of (by decide +kernel), by decide +kernel⟩,
   ⟨req 0 ([]), rich, admits_of (by decide +kernel), by decide +kernel⟩,
   ⟨req 0 ([1,0,0,0]), rich.setFld Reg.slipctlStatus 1 0 1, admits_of (by decide +kernel), by decide +kernel⟩,
   ⟨req 0 ([0,0,0,0,4,0,0,0]), rich, 5, 7, admits_of (by decide +kernel), by decide +kernel⟩⟩

theorem test_hyps_MaintenanceCommandsComplete :
    (∃ q : Req, ∃ s : State, s.Admits q ∧ (let p := []; (let k := s.argOf q; p = k.payload))) ∧
    (∃ q : Req, ∃ s : State, s.Admits q ∧ (let k := s.argOf q; (let p := k.payload; p.length = 4 ∧ u16 p 0 ≤ 4095 ∧ 1 ≤ u16 p 2 ∧ u16 p 2 ≤ 4096))) ∧
    (∃ q : Req, ∃ s : State, s.Admits q ∧ (let k := s.argOf q; (let p := k.payload; p.length = 8 ∧ u8 p 0 ≤ 1 ∧ u8 p 1 = 0 ∧ firstNonZero p 2 2 = none ∧ (let u := s.bodyAt q; u.rbit Reg.bbrStatus 0 = false)))) ∧
    (∃ q : Req, ∃ s : State, s.Admits q ∧ (let k := s.argOf q; (let p := k.payload; p.length = 4 ∧ u16 p 2 = 0xFFFF ∧ (let u := s.bodyAt q; u.rbit Reg.bbrStatus 0 = true ∧ u16 p 0 = u.fld Reg.bbrTrigger 11 0)))) ∧
    (∃ q : Req, ∃ s : State, s.Admits q ∧ (let k := s.argOf q; (let p := k.payload; p.length = 8 ∧ u8 p 2 = 1 ∧ u16 p 0 ≠ 0 ∧ u8 p 3 ≤ 1 ∧ tmEntryOk p 4 = true ∧ u8 p 5 = 0 ∧ (let u := s.bodyAt q; ∃ x ∈ (u.session q.pkt.session), (((List.range 8).find? fun i => (Store.find? x.subs i).isNone)).isSome = true)))) ∧
    (∃ q : Req, ∃ s : State, s.Admits q ∧ (let k := s.argOf q; (let p := k.payload; p.length = 4 ∧ firstNonZero p 1 3 = none ∧ u8 p 0 ≠ 0xFF ∧ (let u := s.bodyAt q; ((u.session q.pkt.session).bind fun x => Store.find? x.subs (u8 p 0)).isSome = true)))) ∧
    (∃ q : Req, ∃ s : State, s.Admits q ∧ (let p := []; (let k := s.argOf q; p = k.payload ∧ (let u := s.bodyAt q; ∃ c ∈ (u.checkHandle q.pkt.handle).toOption, c.destroying = false ∧ (c.typ = .valve ∨ c.typ = .pump))))) ∧
    (∃ q : Req, ∃ s : State, s.Admits q ∧ (let k := s.argOf q; (let p := k.payload; p.length = 4 ∧ u8 p 0 ≤ 3 ∧ firstNonZero p 1 3 = none ∧ (let u := s.bodyAt q; ∃ c ∈ (u.checkHandle q.pkt.handle).toOption, c.destroying = false ∧ (c.typ = .valve ∨ c.typ = .pump))))) ∧
    (∃ q : Req, ∃ s : State, s.Admits q ∧ (let k := s.argOf q; (let p := k.payload; p.length = 8 ∧ firstNonZero p 1 3 = none ∧ u8 p 0 = 1 ∧ (let u := s.bodyAt q; u.calBusy (u8 p 0) = false ∧ ∃ c ∈ (u.checkHandle q.pkt.handle).toOption, (u.primaryInput c).isSome = true)))) ∧
    (∃ q : Req, ∃ s : State, s.Admits q ∧ (let k := s.argOf q; (let p := k.payload; p.length = 8 ∧ firstNonZero p 1 3 = none ∧ u8 p 0 = 2 ∧ (let u := s.bodyAt q; u.calBusy (u8 p 0) = false ∧ ∃ c ∈ (u.checkHandle q.pkt.handle).toOption, (u.primaryInput c).isSome = true)))) ∧
    (∃ q : Req, ∃ s : State, s.Admits q ∧ (let k := s.argOf q; (let p := k.payload; p.length = 8 ∧ firstNonZero p 1 3 = none ∧ u8 p 0 = 3 ∧ (let u := s.bodyAt q; u.calBusy (u8 p 0) = false)))) ∧
    (∃ q : Req, ∃ s : State, s.Admits q ∧ (let k := s.argOf q; (let p := k.payload; p.length = 8 ∧ firstNonZero p 1 3 = none ∧ u8 p 0 = 4 ∧ (let u := s.bodyAt q; u.calBusy (u8 p 0) = false)))) ∧
    (∃ q : Req, ∃ s : State, s.Admits q ∧ (let k := s.argOf q; (let p := k.payload; p.length = 8 ∧ firstNonZero p 1 3 = none ∧ u8 p 0 = 5 ∧ (let u := s.bodyAt q; u.calBusy (u8 p 0) = false)))) ∧
    (∃ q : Req, ∃ s : State, s.Admits q ∧ (let k := s.argOf q; (let p := k.payload; p.length = 4 ∧ 1 ≤ u8 p 0 ∧ u8 p 0 ≤ 5 ∧ firstNonZero p 1 3 = none))) ∧
    (∃ q : Req, ∃ s : State, s.Admits q ∧ (let k := s.argOf q; (let p := k.payload; p.length = 8 ∧ 1 ≤ u16 p 0 ∧ u16 p 0 ≤ 16 ∧ u8 p 2 = 0 ∧ u8 p 3 ≤ 2))) :=
  ⟨⟨req 0 ([]), rich, admits_of (by decide +kernel), by decide +kernel⟩,
   ⟨req 0 ([0,0,1,0]), rich, admits_of (by decide +kernel), by decide +kernel⟩,
   ⟨req 0 (z 8), rich, admits_of (by decide +kernel), by decide +kernel⟩,
   ⟨req 0 ([0,0,0xFF,0xFF]), rich.setRbit Reg.bbrStatus 0 true, admits_of (by decide +kernel), by decide +kernel⟩,
   ⟨req 0 ([1,0,1,0,1,0,0,0]), rich, admits_of (by decide +kernel), by decide +kernel⟩,
   ⟨req 0 ([2,0,0,0]), rich, admits_of (by decide +kernel), by decide +kernel⟩,
   ⟨req 1024 ([]), rich, admits_of (by decide +kernel), by decide +kernel⟩,
   ⟨req 1024 (z 4), rich, admits_of (by decide +kernel), by decide +kernel⟩,
   ⟨req 1025 ([1,0,0,0,0,0,0,0]), rich, admits_of (by decide +kernel), by decide +kernel⟩,
   ⟨req 1025 ([2,0,0,0,0,0,0,0]), rich, admits_of (by decide +kernel), by decide +kernel⟩,
   ⟨req 0 ([3,0,0,0,0,0,0,0]), rich, admits_of (by decide +kernel), by decide +kernel⟩,
   ⟨req 0 ([4,0,0,0,0,0,0,0]), rich, admits_of (by decide +kernel), by decide +kernel⟩,
   ⟨req 0 ([5,0,0,0,0,0,0,0]), rich, admits_of (by decide +kernel), by decide +kernel⟩,
   ⟨req 0 ([1,0,0,0]), rich, admits_of (by decide +kernel), by decide +kernel⟩,
   ⟨req 0 ([1,0,0,0,0,0,0,0]), rich, admits_of (by decide +kernel), by decide +kernel⟩⟩

theorem test_hyps_DiagCommandsComplete :
    (∃ q : Req, ∃ s : State, s.Admits q ∧ (let k := s.argOf q; (let p := k.payload; p.length = 12 ∧ u8 p 1 = 0 ∧ u8 p 0 = 1 ∧ (let u := s.bodyAt q; (let a := u32 p 4; 0x40000000 ≤ a ∧ a < 0x40180000 ∧ a % 4 = 0 ∧ (let t := u.matrix { who := hmData, addr := a, write := false, size := 4, beats := 1 }; t.bus.status = .ok)))))) ∧
    (∃ q : Req, ∃ s : State, s.Admits q ∧ (let k := s.argOf q; (let p := k.payload; p.length = 12 ∧ u8 p 1 = 0 ∧ u8 p 0 = 2 ∧ (let u := s.bodyAt q; (let a := u32 p 4; 0x40000000 ≤ a ∧ a < 0x40180000 ∧ a % 4 = 0 ∧ u.diagBarred a = false ∧ (let t := (u.guardAccess hmData (blockOf a) 0x5AC3).matrix { who := hmData, addr := a, write := true, size := 4, beats := 1, data := slice p 8 4 }; t.bus.status = .ok ∧ (let v := (t.faultF 0x034 1 0x13 (BitVec.ofNat 32 a)).matrix { who := hmData, addr := a, write := false, size := 4, beats := 1 }; v.bus.status = .ok))))))) ∧
    (∃ q : Req, ∃ s : State, s.Admits q ∧ (let k := s.argOf q; (let p := k.payload; p.length = 12 ∧ u8 p 1 = 0 ∧ u8 p 0 = 3 ∧ u16 p 2 % 8 = 0 ∧ (let u := s.bodyAt q; u16 p 2 + 4 ≤ u.replyMax q.ep k ∧ (let a := u32 p 4; a % 8 = 0 ∧ 0x30000000 ≤ a ∧ a + u16 p 2 ≤ 0x31000000 ∧ ((u.readWords hmData a (u16 p 2 / 8) []).2).isSome = true))))) ∧
    (∃ q : Req, ∃ s : State, s.Admits q ∧ (let k := s.argOf q; (let p := k.payload; p.length = 12 ∧ u8 p 1 = 0 ∧ u8 p 0 = 4))) ∧
    (∃ q : Req, ∃ s : State, s.Admits q ∧ (let k := s.argOf q; (let p := k.payload; p.length = 12 ∧ u8 p 1 = 0 ∧ u8 p 0 = 5))) :=
  ⟨⟨req 0 ([1,0,0,0] ++ w4 0x40000000 ++ w4 0), up, admits_of (by decide +kernel), by decide +kernel⟩,
   ⟨req 0 ([2,0,0,0] ++ w4 0x40060004 ++ w4 3), up, admits_of (by decide +kernel), by decide +kernel⟩,
   ⟨req 0 ([3,0,8,0] ++ w4 0x30000000 ++ w4 0), up, admits_of (by decide +kernel), by decide +kernel⟩,
   ⟨req 0 ([4,0,0,0] ++ z 8), up, admits_of (by decide +kernel), by decide +kernel⟩,
   ⟨req 0 ([5,0,0,0] ++ z 8), up, admits_of (by decide +kernel), by decide +kernel⟩⟩

theorem test_hyps_SessionTimersAndFragmentsComplete :
    (∃ n : Nat, ∃ s : State, (s.session n).isSome = true) ∧
    (∃ q : Req, ∃ s : State, q.pkt.session ≠ 0 ∧ continuable q.pkt.opcode = true ∧ q.pkt.isAuth = false ∧ s.checkReq q.ep q.pkt = .go ∧ ∃ x ∈ (s.session q.pkt.session), x.heldReqs = [] ∧ x.ep = q.ep ∧ x.expected = q.pkt.seq ∧ (let b := ((x.assembly.filter fun a => a.opcode == q.pkt.opcode && a.handle == q.pkt.handle).map fun a => a.bytes).getD []; b.length + q.pkt.content.length ≤ 65536)) :=
  ⟨⟨1, rich, by decide +kernel⟩,
   ⟨{ (req 0 [1,2,3]) with pkt := { (req 0 [1,2,3]).pkt with opcode := 0x0501 } }, rich, by decide +kernel⟩⟩

theorem test_hyps_TransportsComplete :
    (∃ n : Nat, ∃ s : State, ∃ buf : Bytes, ∃ c, n ≤ 3 ∧ s.pcieDown = false ∧ s.rbit Reg.sysctlBootStatus 17 = true ∧ s.host.bootWait = false ∧ s.pairBusy n = false ∧ c ≤ 8192 ∧ c ≤ buf.length) ∧
    (∃ n : Nat, ∃ s : State, n ≤ 3 ∧ s.pcieDown = false ∧ (s.box n).replyReady = true ∧ (s.box n).replyWait = []) ∧
    (∃ n : Nat, ∃ s : State, n ≤ 3 ∧ s.pcieDown = false ∧ (s.box n).replyReady = true ∧ ((s.box n).replyWait) ≠ []) ∧
    (∃ n : Nat, ∃ s : State, ∃ i, n ≤ 3 ∧ s.pcieDown = false ∧ i % 16 = 0 ∧ i < 16384 ∧ (i + 16384 - (s.box n).evCons) % 16384 ≤ ((s.box n).evProd + 16384 - (s.box n).evCons) % 16384) ∧
    (∃ n : Nat, ∃ s : State, n ≤ 3 ∧ s.pcieDown = false) ∧
    (∃ s : State, s.pcieDown = false ∧ s.rbit Reg.sysctlBootStatus 17 = false) ∧
    (∃ s : State, s.pcieDown = false ∧ s.rbit Reg.sysctlBootStatus 17 = true) ∧
    (∃ s : State, s.host.linkDownPending = true) ∧
    (∃ s : State, ∃ g, ∃ w, s.pcieDown = false ∧ g < 4 ∧ w < 4) ∧
    (∃ s : State, ∃ b : Bytes, s.hspiUp = true ∧ s.hspiRoom = true ∧ s.hspiLoading = false ∧ 20 ≤ b.length ∧ b.length ≤ 8212) ∧
    (∃ s : State, ∃ m, s.hspiUp = true ∧ ∃ p ∈ s.hspiWaiting.head?, p.encode.length ≤ 8212 ∧ m < p.encode.length) ∧
    (∃ s : State, ∃ w : Word, (let op := 1; s.hspiUp = true ∧ w.toNat % 256 = op ∧ 0x1000000 ≤ w.toNat)) ∧
    (∃ s : State, ∃ w : Word, (let op := 2; s.hspiUp = true ∧ w.toNat % 256 = op ∧ 0x1000000 ≤ w.toNat)) ∧
    (∃ s : State, ∃ w : Word, (let op := 3; s.hspiUp = true ∧ w.toNat % 256 = op ∧ 0x1000000 ≤ w.toNat)) :=
  ⟨⟨2, hs, z 8192, 8192, by decide +kernel⟩,
   ⟨1, hs, by decide +kernel⟩,
   ⟨0, hs, by decide +kernel⟩,
   ⟨1, hs, 0, by decide +kernel⟩,
   ⟨0, hs, by decide +kernel⟩,
   ⟨hs.setRbit Reg.sysctlBootStatus 17 false, by decide +kernel⟩,
   ⟨hs, by decide +kernel⟩,
   ⟨hs, by decide +kernel⟩,
   ⟨hs, 3, 3, by decide +kernel⟩,
   ⟨{ up with boot := { up.boot with imaged := true } }, z 20, by decide +kernel⟩,
   ⟨hs, 0, by decide +kernel⟩,
   ⟨hs, 0x1000001, by decide +kernel⟩,
   ⟨hs, 0x1000002, by decide +kernel⟩,
   ⟨hs, 0x1000003, by decide +kernel⟩⟩

theorem test_hyps_BootCompletes :
    (∃ s : State, s.boot.held = true ∧ s.boot.sagLow = false ∧ s.boot.hot = false ∧ s.lostClocks.testBit 3 = false) ∧
    (∃ s : State, s.boot.held = false ∧ s.boot.basins = false ∧ s.atPort = [] ∧ s.held = []) ∧
    (∃ s : State, ∃ i, s.boot.held = false ∧ s.boot.imaged = false ∧ s.boot.basins = true ∧ s.flashBoot = true ∧ s.boot.retries.length = 2 ∧ (i = 1 ∨ i = 2) ∧ s.boot.retries.getD (i - 1) 0 < 2) ∧
    (∃ s : State, s.boot.held = false ∧ s.boot.imaged = false ∧ s.boot.basins = true ∧ s.flashBoot = true ∧ ∃ c ∈ s.recordSlots.candidates.head?, (let img := s.recordSlots.slotImage c; s.recordSlots.imageResult img = 1)) ∧
    (∃ s : State, ∃ off, ∃ total, ∃ data, s.host.bootWait = true ∧ s.boot.mode = 2 ∧ (s.chunkResult off total data).1 = 0 ∧ ∃ all ∈ some (s.chunkResult off total data).2, True) ∧
    (∃ s : State, ∃ off, ∃ total, ∃ data, s.host.bootWait = true ∧ s.boot.mode = 2 ∧ (s.chunkResult off total data).1 = 1 ∧ ∃ all ∈ some (s.chunkResult off total data).2, True) ∧
    (∃ s : State, s.boot.held = false ∧ s.rbit Reg.sysctlBootStatus 16 = false ∧ s.boot.patch = []) ∧
    (∃ s : State, s.boot.held = false ∧ s.harbourOpen = false ∧ s.firmwareRuns = true ∧ s.rbit Reg.sysctlBootStatus 16 = true) :=
  ⟨⟨State.reset, by decide +kernel⟩,
   ⟨{ bootS with boot := { bootS.boot with basins := false } }, by decide +kernel⟩,
   ⟨up, 1, by decide +kernel⟩,
   ⟨{ bootS with flash := { bootS.flash with cs0 := (bootImg.zipIdx.map fun x => (x.2 + 1048576, x.1)) } }, by decide +kernel⟩,
   ⟨{ loadS 2 with otp := { up.otp with keyHash := [(0, bootKey)] } }, 0, 260, bootImg.take 256, by decide +kernel⟩,
   ⟨{ loadS 2 with host := { (loadS 2).host with load := some (260, bootImg.take 256) }, otp := { up.otp with keyHash := [(0, bootKey)] } }, 256, 260, [0x13,0,0,0], by decide +kernel⟩,
   ⟨{ bootS with boot := { bootS.boot with basins := false } }, by decide +kernel⟩,
   ⟨(({ up with boot := { up.boot with imaged := true, basins := true } } : State).setRbit Reg.sysctlBootStatus 15 false).setRbit Reg.sysctlBootStatus 16 true, by decide +kernel⟩⟩

theorem test_hyps_SupplyCommandsComplete :
    (∃ s : State, ∃ a, ∃ b, s.warning = false ∧ ((a && s.rbit Reg.supmonCtrl 0 && s.filtered 0) || (b && s.rbit Reg.supmonCtrl 1 && s.filtered 1)) = true) ∧
    (∃ s : State, s.warning = true ∧ s.reports = true) ∧
    (∃ s : State, s.warning = true ∧ s.rbit Reg.supmonStatus 3 = true) ∧
    (∃ s : State, ∃ i : Bool, ∃ c : Bool, ∃ p : Bool, ∃ also : List Nat, s.boot.held = false ∧ (i || c || p) = true ∧ Cause.por ∉ also) ∧
    (∃ s : State, s.rbit Reg.supmonAonStatus 0 = false ∧ s.boot.vbatLogged = false) :=
  ⟨⟨up, false, true, by decide +kernel⟩,
   ⟨(up.setRbit Reg.supmonStatus 0 true), by decide +kernel⟩,
   ⟨((up.setRbit Reg.supmonStatus 0 true).setRbit Reg.supmonStatus 3 true), by decide +kernel⟩,
   ⟨up, true, true, true, [], by decide +kernel⟩,
   ⟨up, by decide +kernel⟩⟩

theorem test_hyps_DeviceResetsComplete :
    (∃ s : State, s.boot.held = false ∧ s.otp.jtagLock = false) ∧
    (∃ s : State, ∃ who, s.Opens who Reg.sysctlSwreset ∧ s.boot.held = false) ∧
    (∃ s : State, s.boot.held = false ∧ s.rbit Reg.reclaimStatus 2 = true) ∧
    (∃ s : State, s.boot.held = false ∧ s.rbit Reg.timerWdtCtrl 0 = true) ∧
    (∃ s : State, ∃ also : List Nat, s.boot.held = false) :=
  ⟨⟨up, by decide +kernel⟩,
   ⟨openGuards 1 0 up, ⟨1,0⟩, opens_of (by decide +kernel), by decide +kernel⟩,
   ⟨up.setRbit Reg.reclaimStatus 2 true, by decide +kernel⟩,
   ⟨up.setRbit Reg.timerWdtCtrl 0 true, by decide +kernel⟩,
   ⟨up, [], by decide +kernel⟩⟩

theorem test_hyps_HeldResetKeepsCause :
    (∃ s : State, s.boot.held = true) ∧
    (∃ s : State, s.boot.held = true ∧ s.otp.jtagLock = false) ∧
    (∃ s : State, ∃ who, s.Opens who Reg.sysctlSwreset ∧ s.boot.held = true) ∧
    (∃ s : State, s.boot.held = true ∧ s.rbit Reg.reclaimStatus 2 = true) ∧
    (∃ s : State, s.boot.held = true ∧ s.rbit Reg.timerWdtCtrl 0 = true) :=
  ⟨⟨openGuards 1 0 .reset, by decide +kernel⟩,
   ⟨openGuards 1 0 .reset, by decide +kernel⟩,
   ⟨openGuards 1 0 .reset, ⟨1,0⟩, opens_of (by decide +kernel), by decide +kernel⟩,
   ⟨State.reset.setRbit Reg.reclaimStatus 2 true, by decide +kernel⟩,
   ⟨State.reset.setRbit Reg.timerWdtCtrl 0 true, by decide +kernel⟩⟩

theorem test_hyps_FencesStandAndEnd :
    (∃ s : State, ∃ d : Nat, s.boot.held = false ∧ 2 ≤ d ∧ d ≤ 13 ∧ d ≠ 10 ∧ s.domainFenced d = false ∧ s.reclaim.inReset.contains d = false) ∧
    (∃ s : State, ∃ m : Nat, ∃ p : Nat, s.boot.held = false ∧ s.atPort = [] ∧ p ≤ 7 ∧ s.rbit Reg.matrixPolicy p = true) ∧
    (∃ s : State, s.boot.held = false) ∧
    (∃ s : State, ∃ n, s.boot.held = false ∧ n < 24 ∧ s.rbit (Reg.slipctlQcStatus + 16 * n) 0 = false) ∧
    (∃ s : State, ∃ m : Nat, s.boot.held = false ∧ ¬ (m = 1 ∧ s.reclaim.hmPorts.contains 7 = true)) ∧
    (∃ s : State, s.boot.held = false ∧ s.fld Reg.quayStatus 2 0 ≠ 0) ∧
    (∃ s : State, ∃ d : Nat, autoUnfence d = true ∧ s.reclaim.inReset.contains d = true ∧ s.domainFenced d = true ∧ s.rbit Reg.reclaimFenced (16 + d) = false) ∧
    (∃ s : State, ∃ who, ∃ d : Nat, s.Opens who Reg.reclaimUnfence ∧ d ≤ 13 ∧ s.domainFenced d = true ∧ s.reclaim.inReset.contains d = false) ∧
    (∃ s : State, ∃ who, ∃ d : Nat, s.Opens who Reg.reclaimUnfence ∧ d ≤ 13 ∧ s.domainFenced d = false) ∧
    (∃ s : State, ∃ p : Nat, s.reclaim.hmPorts = [p]) ∧
    (∃ s : State, s.domainFenced 13 = true) :=
  ⟨⟨up, 2, by decide +kernel⟩,
   ⟨up, 0, 7, by decide +kernel⟩,
   ⟨up, by decide +kernel⟩,
   ⟨up, 0, by decide +kernel⟩,
   ⟨up, 0, by decide +kernel⟩,
   ⟨up.setReg Reg.quayStatus 1, by decide +kernel⟩,
   ⟨{ up.setReg Reg.reclaimFenced 0x3FFF with reclaim := { up.reclaim with inReset := [3, 6], unfenceAtRelease := [3], hmPorts := [5] } }, 6, by decide +kernel⟩,
   ⟨openGuards 1 0 (up.setReg Reg.reclaimFenced 0x3FFF), ⟨1,0⟩, 2, opens_of (by decide +kernel), by decide +kernel⟩,
   ⟨openGuards 1 0 up, ⟨1,0⟩, 2, opens_of (by decide +kernel), by decide +kernel⟩,
   ⟨{ up.setReg Reg.reclaimFenced 0x3FFF with reclaim := { up.reclaim with inReset := [3, 6], unfenceAtRelease := [3], hmPorts := [5] } }, 5, by decide +kernel⟩,
   ⟨openGuards 1 0 (up.setReg Reg.reclaimFenced 0x3FFF), by decide +kernel⟩⟩

theorem test_hyps_ThermalAndClockComplete :
    (∃ s : State, ∃ r : Int, s.rbit Reg.tempCtrl 0 = true ∧ s.fld Reg.tempOffset 15 0 = 0 ∧ (∀ i, i < 6 → s.rbit Reg.tempMax (16 + i) = false) ∧ -5500 ≤ r ∧ r ≤ 15000) ∧
    (∃ s : State, s.reports = true ∧ s.fld Reg.reclaimStatus 1 0 = 0) ∧
    (∃ s : State, s.fld Reg.reclaimStatus 1 0 ≠ 2) ∧
    (∃ s : State, s.fld Reg.reclaimStatus 1 0 = 2) ∧
    (∃ s : State, s.fld Reg.reclaimStatus 1 0 = 1) ∧
    (∃ s : State, ∃ n, s.tl.stations = [] ∧ (n = 6 ∨ n = 7 ∨ n = 12) ∧ s.monitored n = true ∧ s.lostClocks.testBit n = false) ∧
    (∃ s : State, ∃ n, 5 ≤ n ∧ n ≤ 12 ∧ s.monitored n = true) ∧
    (∃ s : State, ∃ n, n ≤ 2 ∧ ¬ (n ≤ 1 ∧ s.lostClocks.testBit n = true)) ∧
    (∃ s : State, s.rbit Reg.clkgenStatus 2 = true ∧ s.rbit Reg.clkgenStatus 4 = true ∧ s.rbit Reg.clkgenTimeCfg 1 = false) ∧
    (∃ s : State, ∃ who, s.Opens who Reg.clkgenCtrl) ∧
    (∃ s : State, s.rbit Reg.clkgenCtrl 0 ≠ s.rbit Reg.clkgenStatus 13) :=
  ⟨⟨up, -5500, by decide +kernel⟩,
   ⟨up, by decide +kernel⟩,
   ⟨up, by decide +kernel⟩,
   ⟨up.setReg Reg.reclaimStatus 2, by decide +kernel⟩,
   ⟨up.setReg Reg.reclaimStatus 1, by decide +kernel⟩,
   ⟨up, 12, by decide +kernel⟩,
   ⟨up, 12, by decide +kernel⟩,
   ⟨up, 0, by decide +kernel⟩,
   ⟨up.setReg Reg.clkgenStatus 0x2014, by decide +kernel⟩,
   ⟨opened Reg.clkgenCtrl 1 up, ⟨1,0⟩, opens_of (by decide +kernel)⟩,
   ⟨opened Reg.clkgenCtrl 1 up, by decide +kernel⟩⟩

theorem test_hyps_GuardsOpenAndDeny :
    (∃ s : State, ∃ who : Initiator, ∃ b : Nat, ∃ key : BitVec 16, s.Reaches who (guardAddr b) ∧ b < 24 ∧ key ≠ 0x5AC3 ∧ key ≠ 0) ∧
    (∃ s : State, ∃ who : Initiator, ∃ b : Nat, s.Reaches who (guardAddr b) ∧ b < 24) ∧
    (∃ s : State, ∃ who : Initiator, s.Reaches who (Reg.sysctlSwreset) ∧ (let addr := Reg.sysctlSwreset; addr % 65536 ≠ 0xFFC ∧ s.guardOpen (blockOf addr) who = false)) ∧
    (∃ s : State, ∃ who : Initiator, s.Reaches who (Reg.clkgenCtrl) ∧ (let addr := Reg.clkgenCtrl; addr % 65536 ≠ 0xFFC ∧ s.guardOpen (blockOf addr) who = false)) ∧
    (∃ s : State, ∃ who : Initiator, s.Reaches who (Reg.otpProgCmd) ∧ (let addr := Reg.otpProgCmd; addr % 65536 ≠ 0xFFC ∧ s.guardOpen (blockOf addr) who = false)) ∧
    (∃ s : State, ∃ who : Initiator, s.Reaches who (Reg.basinctlPwr) ∧ (let addr := Reg.basinctlPwr; addr % 65536 ≠ 0xFFC ∧ s.guardOpen (blockOf addr) who = false)) ∧
    (∃ s : State, ∃ who : Initiator, ∃ addr : Nat, s.Reaches who addr ∧ s.guardOpen (blockOf addr) who = false ∧ addr % 65536 ≠ 0xFFC ∧ ∃ r ∈ (regRow? addr), (∀ f, f ∈ r.fields → f.access = .rwg ∨ f.access = .ro) ∧ (∃ f, f ∈ r.fields ∧ f.access = .rwg)) :=
  ⟨⟨up, ⟨1,0⟩, 0, 1, reaches_of (by decide +kernel), by decide +kernel⟩,
   ⟨up, ⟨1,0⟩, 0, reaches_of (by decide +kernel), by decide +kernel⟩,
   ⟨up, ⟨1,0⟩, reaches_of (by decide +kernel), by decide +kernel⟩,
   ⟨up, ⟨1,0⟩, reaches_of (by decide +kernel), by decide +kernel⟩,
   ⟨up, ⟨1,0⟩, reaches_of (by decide +kernel), by decide +kernel⟩,
   ⟨up, ⟨1,0⟩, reaches_of (by decide +kernel), by decide +kernel⟩,
   ⟨up, ⟨1,0⟩, Reg.basinctlPwr, reaches_of (by decide +kernel), by decide +kernel⟩⟩

theorem test_hyps_ClearsAndInterruptsComplete :
    (∃ s : State, ∃ who : Initiator, s.Reaches who Reg.clkgenDcqDrop) ∧
    (∃ s : State, ∃ who : Initiator, s.Reaches who Reg.quayBusyCnt) ∧
    (∃ s : State, ∃ who : Initiator, s.Reaches who Reg.basinctlClear) ∧
    (∃ s : State, ∃ who : Initiator, s.Reaches who Reg.fairwayClear) ∧
    (∃ s : State, ∃ who : Initiator, s.Reaches who Reg.scrubClear) ∧
    (∃ s : State, ∃ who : Initiator, ∃ p, s.Reaches who (Reg.ethCntClear + 65536 * p) ∧ p < 2) ∧
    (∃ s : State, ∃ who : Initiator, s.Reaches who Reg.intcClaim ∧ ∃ n ∈ s.offered, n < 64) ∧
    (∃ s : State, ∃ who : Initiator, s.Reaches who Reg.intcClaim ∧ s.offered = none) ∧
    (∃ s : State, ∃ who : Initiator, ∃ n, s.Reaches who Reg.intcComplete ∧ n < 64) ∧
    (∃ s : State, ∃ who : Initiator, ∃ i, s.Reaches who (Reg.intcInservice + 4 * i) ∧ i < 2) :=
  ⟨⟨up, ⟨1,0⟩, reaches_of (by decide +kernel)⟩,
   ⟨up, ⟨1,0⟩, reaches_of (by decide +kernel)⟩,
   ⟨up, ⟨1,0⟩, reaches_of (by decide +kernel)⟩,
   ⟨up, ⟨1,0⟩, reaches_of (by decide +kernel)⟩,
   ⟨up, ⟨1,0⟩, reaches_of (by decide +kernel)⟩,
   ⟨up, ⟨1,0⟩, 0, reaches_of (by decide +kernel), by decide +kernel⟩,
   ⟨{ ((up.setReg Reg.intcLevel 0x77777777).setReg (Reg.intcLevel + 4) 0x77777777) with pulses := 0x3FF }, ⟨1,0⟩, reaches_of (by decide +kernel), by decide +kernel⟩,
   ⟨up, ⟨1,0⟩, reaches_of (by decide +kernel), by decide +kernel⟩,
   ⟨up, ⟨1,0⟩, 0, reaches_of (by decide +kernel), by decide +kernel⟩,
   ⟨up, ⟨1,0⟩, 0, reaches_of (by decide +kernel), by decide +kernel⟩⟩

theorem test_hyps_TimersAndOtpComplete :
    (∃ s : State, ∃ who : Initiator, ∃ v : Word, s.Reaches who Reg.timerWdtService ∧ ¬ (s.rbit Reg.timerWdtCtrl 0 = true ∧ (s.elapsedMs < s.fld Reg.timerWdtMin 13 0 ∨ s.fld Reg.timerWdtMax 13 0 ≤ s.elapsedMs)) ∧ v.toNat % 65536 = 0x3C96) ∧
    (∃ s : State, ∃ who : Initiator, ∃ v : Word, s.Reaches who Reg.timerWdtService ∧ v.toNat % 65536 ≠ 0x3C96) ∧
    (∃ s : State, s.rbit Reg.timerWdtCtrl 0 = true) ∧
    (∃ s : State, ∃ n, s.wc.running = true ∧ n < 4 ∧ s.rbit (Reg.timerMarkCmp + 4 * n) 31 = true) ∧
    (∃ s : State, ∃ who : Initiator, s.Reaches who Reg.timerSyscntLo) ∧
    (∃ s : State, ∃ who : Initiator, ∃ v : Word, s.Opens who Reg.otpProgCmd ∧ s.warning = false ∧ v.getLsbD 0 = true) ∧
    (∃ s : State, ∃ who : Initiator, ∃ v : Word, s.Opens who Reg.otpProgCmd ∧ s.warning = true ∧ v.getLsbD 0 = true) ∧
    (∃ s : State, ∃ who : Initiator, s.Opens who Reg.otpProgCmd ∧ s.rbit Reg.otpStatus 1 = true) :=
  ⟨⟨up, ⟨1,0⟩, 0x3C96, reaches_of (by decide +kernel), by decide +kernel⟩,
   ⟨up, ⟨1,0⟩, 0, reaches_of (by decide +kernel), by decide +kernel⟩,
   ⟨openGuards 1 0 ((up.setRbit Reg.timerWdtCtrl 0 true).setRbit Reg.otpStatus 1 true), by decide +kernel⟩,
   ⟨(run0 up).setReg (Reg.timerMarkCmp + 12) 0x80000000, 3, by decide +kernel⟩,
   ⟨up, ⟨1,0⟩, reaches_of (by decide +kernel)⟩,
   ⟨openGuards 1 0 up, ⟨1,0⟩, 1, opens_of (by decide +kernel), by decide +kernel⟩,
   ⟨openGuards 1 0 (up.setRbit Reg.supmonStatus 0 true), ⟨1,0⟩, 1, opens_of (by decide +kernel), by decide +kernel⟩,
   ⟨openGuards 1 0 ((up.setRbit Reg.timerWdtCtrl 0 true).setRbit Reg.otpStatus 1 true), ⟨1,0⟩, opens_of (by decide +kernel), by decide +kernel⟩⟩

theorem test_hyps_RegisterWritesTakeTheirFields :
    (∃ s : State, ∃ who : Initiator, ∃ a : Nat, s.Reaches who a ∧ (a ∈ [Reg.supmonIrqEn, Reg.clkgenIrqEn, Reg.fairwayIrqEn, Reg.ptpIrqEn, Reg.bbrIrqEn, Reg.tempIrqEn, Reg.timerIrqEn] ∨ a ∈ [Reg.supmonEvents, Reg.fairwayEvents, Reg.basinctlEvents, Reg.ptpEvents, Reg.slipctlEvents, Reg.bbrEvents, Reg.tempEvents, Reg.timerEvents]) ∧ ∃ r ∈ (regRow? a), r.isGuarded = false) ∧
    (∃ s : State, ∃ who : Initiator, s.Reaches who (Reg.timerIrqEn)) ∧
    (∃ s : State, ∃ who : Initiator, s.Reaches who (Reg.timerEvents)) :=
  ⟨⟨up, ⟨1,0⟩, Reg.supmonIrqEn, reaches_of (by decide +kernel), by decide +kernel⟩,
   ⟨up, ⟨1,0⟩, reaches_of (by decide +kernel)⟩,
   ⟨up, ⟨1,0⟩, reaches_of (by decide +kernel)⟩⟩

theorem test_hyps_MatrixReachesAndRefuses :
    (∃ s : State, ∃ r : BusReq, s.Quiet ∧ s.portLocked = false ∧ s.masterFenced 1 1 = false ∧ s.basinState 0 = 0 ∧ r.who.master = 1 ∧ s.silent r.who = false ∧ 0x20000000 ≤ r.addr ∧ r.addr + BusReq.len r ≤ 0x20100000 ∧ r.beats = 1 ∧ (r.size = 1 ∨ r.size = 2 ∨ r.size = 4 ∨ r.size = 8) ∧ r.addr % r.size = 0 ∧ s.errWords r.addr (BusReq.len r) = [] ∧ r.write = true) ∧
    (∃ s : State, ∃ r : BusReq, s.Quiet ∧ s.portLocked = false ∧ s.masterFenced 1 1 = false ∧ s.basinState 0 = 0 ∧ r.who.master = 1 ∧ s.silent r.who = false ∧ 0x20000000 ≤ r.addr ∧ r.addr + BusReq.len r ≤ 0x20100000 ∧ r.beats = 1 ∧ (r.size = 1 ∨ r.size = 2 ∨ r.size = 4 ∨ r.size = 8) ∧ r.addr % r.size = 0 ∧ s.errWords r.addr (BusReq.len r) = [] ∧ r.write = false) ∧
    (∃ s : State, ∃ r : BusReq, s.Quiet ∧ s.portLocked = false ∧ r.who.master ≤ 4 ∧ 0x100000 ≤ r.addr ∧ s.silent r.who = false ∧ targetOf r.addr = none ∧ s.masterFenced r.who.master 8 = false) ∧
    (∃ s : State, ∃ r : BusReq, s.Quiet ∧ s.portLocked = false ∧ r.who.master ≤ 4 ∧ 0x100000 ≤ r.addr ∧ s.silent r.who = false ∧ ∃ p ∈ (targetOf r.addr), s.masterFenced r.who.master p = true) ∧
    (∃ s : State, ∃ r : BusReq, s.Quiet ∧ s.portLocked = false ∧ r.who.master ≤ 4 ∧ 0x100000 ≤ r.addr ∧ s.silent r.who = false ∧ ∃ p ∈ (targetOf r.addr), s.masterFenced r.who.master p = false ∧ (reach r.who.master).contains p = false) ∧
    (∃ s : State, ∃ r : BusReq, s.Quiet ∧ s.portLocked = false ∧ r.who.master ≤ 4 ∧ 0x100000 ≤ r.addr ∧ s.silent r.who = false) ∧
    (∃ s : State, ∃ r : BusReq, ∃ q : BusReq, ∃ p : PortUse, s.portLocked = false ∧ s.boot.basins = true ∧ s.atPort = [] ∧ s.rbit Reg.fairwayFence 17 = false ∧ s.basinState 2 = 0 ∧ 8 ≤ s.transactions 1 ∧ s.silent r.who = false ∧ s.masterFenced r.who.master 2 = false ∧ s.errWords r.addr 8 = [] ∧ 0x22000000 ≤ r.addr ∧ r.addr < 0x22200000 ∧ r.addr % 8 = 0 ∧ r.size = 8 ∧ r.beats = 1 ∧ r.who.master = 1 ∧ r.stalled = false ∧ (∀ x, x ∈ s.paths → BusReq.same x.2 r = false) ∧ s.silent q.who = false ∧ s.masterFenced q.who.master 2 = false ∧ (q.who.master = 0 ∨ q.who.master = 2) ∧ q.addr = r.addr ∧ q.size = 8 ∧ q.beats = 1 ∧ p.addr = r.addr ∧ p.data.length = 8 ∧ p.write = true) ∧
    (∃ s : State, ∃ r : BusReq, ∃ q : BusReq, ∃ p : PortUse, s.portLocked = false ∧ s.boot.basins = true ∧ s.atPort = [] ∧ s.rbit Reg.fairwayFence 17 = false ∧ s.basinState 2 = 0 ∧ s.held = [] ∧ s.paths = [] ∧ s.silent r.who = false ∧ s.masterFenced r.who.master 2 = false ∧ s.errWords r.addr 8 = [] ∧ 0x22000000 ≤ r.addr ∧ r.addr < 0x22200000 ∧ r.addr % 8 = 0 ∧ r.size = 8 ∧ r.beats = 1 ∧ r.who.master = 1 ∧ r.stalled = false ∧ r.write = true ∧ s.silent q.who = false ∧ s.masterFenced q.who.master 2 = false ∧ (q.who.master = 0 ∨ q.who.master = 2) ∧ q.addr = r.addr ∧ q.size = 8 ∧ q.beats = 1 ∧ q.write = true ∧ q.who.master = 2 ∧ q.id = 0 ∧ q.stalled = false ∧ (s.qosOf r < s.qosOf q ∨ s.qosOf q < s.qosOf r) ∧ p.addr = r.addr ∧ p.data.length = 8 ∧ p.write = true) ∧
    (∃ s : State, ∃ r : BusReq, ∃ q : BusReq, ∃ p : PortUse, s.portLocked = false ∧ s.boot.basins = true ∧ s.atPort = [] ∧ s.rbit Reg.fairwayFence 17 = false ∧ s.basinState 2 = 0 ∧ s.held = [] ∧ s.paths = [] ∧ s.silent r.who = false ∧ s.masterFenced r.who.master 2 = false ∧ s.errWords r.addr 8 = [] ∧ 0x22000000 ≤ r.addr ∧ r.addr < 0x22200000 ∧ r.addr % 8 = 0 ∧ r.size = 8 ∧ r.beats = 1 ∧ r.who.master = 1 ∧ r.stalled = false ∧ r.write = false ∧ s.silent q.who = false ∧ s.masterFenced q.who.master 2 = false ∧ (q.who.master = 0 ∨ q.who.master = 2) ∧ q.addr = r.addr ∧ q.size = 8 ∧ q.beats = 1 ∧ p.addr = r.addr ∧ p.data.length = 8 ∧ p.write = true) :=
  ⟨⟨up, (busReq ⟨1,0⟩ 536870912 true 1), quiet_of (by decide +kernel), by decide +kernel⟩,
   ⟨up, (busReq ⟨1,0⟩ 536870912 false 1), quiet_of (by decide +kernel), by decide +kernel⟩,
   ⟨up, (busReq ⟨0,0⟩ 4026531840 true 1), quiet_of (by decide +kernel), by decide +kernel⟩,
   ⟨up.setReg Reg.reclaimFenced 0x3FFF, (busReq ⟨4,0⟩ 536870912 true 1), quiet_of (by decide +kernel), by decide +kernel⟩,
   ⟨up, (busReq ⟨0,0⟩ 1073741824 true 1), quiet_of (by decide +kernel), by decide +kernel⟩,
   ⟨up, busReq ⟨1,0⟩ 0x22000000 true 8, quiet_of (by decide +kernel), by decide +kernel⟩,
   ⟨{ up with held := List.replicate 8 (busReq ⟨1,0⟩ 0x23000000 false 8) }, busReq ⟨1,0⟩ 0x22000000 true 8, busReq ⟨2,0⟩ 0x22000000 true 8, ⟨true, 0x22000000, [1,2,3,4,5,6,7,8], false⟩, by decide +kernel⟩,
   ⟨up, busReq ⟨1,0⟩ 0x22000000 true 8, busReq ⟨2,0⟩ 0x22000000 true 8, ⟨true, 0x22000000, [1,2,3,4,5,6,7,8], false⟩, by decide +kernel⟩,
   ⟨up, busReq ⟨1,0⟩ 0x22000000 false 8, busReq ⟨2,0⟩ 0x22000000 true 8, ⟨true, 0x22000000, [1,2,3,4,5,6,7,8], false⟩, by decide +kernel⟩⟩

theorem test_hyps_BasinDmaAndDebugComplete :
    (∃ s : State, ∃ who : Initiator, s.Opens who Reg.basinctlPwr ∧ (∀ b, b < 4 → s.basinState b = 0 ∧ s.basinWaking b = false) ∧ s.held = [] ∧ s.pwrWait = []) ∧
    (∃ s : State, ∃ b, s.held = [] ∧ s.pwrWait = [] ∧ s.fw.wake = [] ∧ b < 4 ∧ s.basinWaking b = true) ∧
    (∃ s : State, ∃ a, Store.get s.memErr (a / 8 * 8) 0 = 1) ∧
    (∃ s : State, ∃ who : Initiator, ∃ n, s.Reaches who (Reg.matrixDmaCtrl + 32 * n) ∧ n < 8) ∧
    (∃ s : State, ∃ n, n < 8 ∧ s.rbit (Reg.matrixDmaStatus + 32 * n) 0 = true ∧ ∃ t ∈ some (s.dmaCopy (s.dmaSrc n) (s.dmaDst n) (s.dmaLen n) (s.dmaLen n / 4)).1, (s.dmaCopy (s.dmaSrc n) (s.dmaDst n) (s.dmaLen n) (s.dmaLen n / 4)).2 = none ∧ True) ∧
    (∃ s : State, ∃ n, ∃ a, n < 8 ∧ s.rbit (Reg.matrixDmaStatus + 32 * n) 0 = true ∧ s.dmaBefore n a = 0) ∧
    (∃ s : State, ∃ who : Initiator, ∃ o, s.masterFenced 1 6 = false ∧ s.rbit Reg.qspiCtrl 7 = false ∧ who.master = 1 ∧ s.silent who = false ∧ o % 4 = 0 ∧ o + 4 ≤ 0x8000000) ∧
    (∃ s : State, ∃ o, s.pcieDown = false ∧ s.bar2 = true ∧ o % 4 = 0 ∧ o < 0x180000 ∧ (let t := s.matrix { who := { master := 3, node := 8 }, addr := 0x40000000 + o, write := false, size := 4, beats := 1 }; t.bus.status = .ok)) ∧
    (∃ s : State, s.pcieDown = false ∧ s.bar2 = true) ∧
    (∃ s : State, ∃ n, s.otp.jtagLock = false ∧ n < 4) ∧
    (∃ s : State, ∃ n, s.otp.jtagLock = false ∧ n < 2) ∧
    (∃ s : State, s.otp.jtagLock = false) :=
  ⟨⟨openGuards 1 0 (up.setReg Reg.basinctlPwrStatus 0), ⟨1,0⟩, opens_of (by decide +kernel), by decide +kernel⟩,
   ⟨up.setReg Reg.basinctlPwrStatus 0xFFFF, 0, by decide +kernel⟩,
   ⟨{ up with memErr := [(8, 1), (0x20000000, 1)] }, 8, by decide +kernel⟩,
   ⟨up, ⟨1,0⟩, 0, reaches_of (by decide +kernel), by decide +kernel⟩,
   ⟨(up.setReg Reg.basinctlPwrStatus 0).setReg Reg.matrixDmaStatus 1, 0, by decide +kernel⟩,
   ⟨(up.setReg Reg.basinctlPwrStatus 0).setReg Reg.matrixDmaStatus 1, 0, 8, by decide +kernel⟩,
   ⟨up, ⟨1,0⟩, 0, by decide +kernel⟩,
   ⟨{ (up.setReg Reg.pcieStatus 0xFFFFFFFF) with host := { up.host with perst := false, memEnable := true, busMaster := true } }, 0, by decide +kernel⟩,
   ⟨{ (up.setReg Reg.pcieStatus 0xFFFFFFFF) with host := { up.host with perst := false, memEnable := true, busMaster := true } }, by decide +kernel⟩,
   ⟨up, 0, by decide +kernel⟩,
   ⟨up, 0, by decide +kernel⟩,
   ⟨up, by decide +kernel⟩⟩

theorem test_hyps_RecorderCommandsComplete :
    (∃ s : State, ∃ who : Initiator, ∃ low : DWord, s.rbit Reg.bbrStatus 0 = false ∧ (who.master = 1 ∨ who.master = 4 ∧ s.otp.jtagLock = false) ∧ s.masterFenced who.master 7 = false ∧ 2 < low.toNat % 4096) ∧
    (∃ s : State, ∃ who : Initiator, s.Opens who Reg.bbrRelease ∧ s.rbit Reg.bbrStatus 0 = true ∧ (let i := s.fld Reg.bbrTrigger 11 0; i < 4096)) ∧
    (∃ s : State, ∃ who : Initiator, s.Opens who Reg.bbrRtcSet ∧ (who.master = 1 → s.reports = false)) ∧
    (∃ s : State, s.boot.held = false ∧ s.time.total + 1000 < 281474976710656 * 1000000000) :=
  ⟨⟨openGuards 2 0 up, ⟨1,0⟩, 3, by decide +kernel⟩,
   ⟨openGuards 1 0 ((up.setRbit Reg.bbrStatus 0 true).setFld Reg.bbrTrigger 11 0 5), ⟨1,0⟩, opens_of (by decide +kernel), by decide +kernel⟩,
   ⟨openGuards 2 0 up, ⟨2,0⟩, opens_of (by decide +kernel), by decide +kernel⟩,
   ⟨openGuards 2 0 up, by decide +kernel⟩⟩

theorem test_hyps_EthernetFramesComplete :
    (∃ s : State, ∃ p : Nat, ∃ f : RxFrame, s.macs.length = 2 ∧ p < 2 ∧ (s.mac p).inbox = [] ∧ (∀ r : Nat, r < 3 → s.oldestRx p r = none) ∧ s.rxEn p = true ∧ f.fifoOverflow = false ∧ f.fcsOk = false) ∧
    (∃ s : State, ∃ p : Nat, ∃ f : RxFrame, s.macs.length = 2 ∧ p < 2 ∧ (s.mac p).inbox = [] ∧ (∀ r : Nat, r < 3 → s.oldestRx p r = none) ∧ s.rxEn p = true ∧ s.vlanOk p none = true ∧ (s.mac p).fifo = [] ∧ s.rbit (Reg.ethStatus + 65536 * p) 2 = false ∧ s.descBuf (s.rxDesc p 0 (s.rxHead p 0)) < 2147483648 ∧ f.fifoOverflow = false ∧ f.fcsOk = true ∧ 60 ≤ f.bytes.length ∧ f.bytes.length ≤ 9014 ∧ ofBe (f.bytes.take 6) = s.macAddr p ∧ be16 f.bytes 12 = 0x88B5) ∧
    (∃ s : State, ∃ p : Nat, s.macs.length = 2 ∧ p < 2 ∧ (s.mac p).inbox = [] ∧ ∃ f ∈ ((s.mac p).fifo).head?, (let r := f.ring; (∀ r : Nat, r < 3 → s.oldestRx p r = none) ∧ r < 3)) ∧
    (∃ s : State, ∃ who : Initiator, ∃ p : Nat, ∃ r, s.Reaches who (rxBase p r + 8) ∧ s.macs.length = 2 ∧ p < 2 ∧ (s.mac p).inbox = [] ∧ (∀ r : Nat, r < 3 → s.oldestRx p r = none) ∧ r < 3) ∧
    (∃ s : State, ∃ p : Nat, ∃ f : TxTl, s.macs.length = 2 ∧ p < 2 ∧ s.sends p = true ∧ ∃ q ∈ (s.inProgress p), q < 4 ∧ s.txFront p q = some (.tl f)) ∧
    (∃ f : TxTl, f.tci = none ∧ (let p := f.port; p < 2)) ∧
    (∃ s : State, ∃ who : Initiator, ∃ p : Nat, ∃ q, s.Reaches who (txBase p q + 8) ∧ p < 2 ∧ s.sends p = true ∧ q < 4) ∧
    (∃ s : State, ∃ p : Nat, p < 2 ∧ s.txReady p 3 = 0 ∧ s.inProgress p ≠ some 3) :=
  ⟨⟨eup, 0, { bytes := z 64, fcsOk := false }, by decide +kernel⟩,
   ⟨eup, 0, rxTl eup, by decide +kernel⟩,
   ⟨{ eup with macs := [{ fifo := [{ ring := 0, cls := 1, bytes := z 64, tci := none, sec := 0, ns := 0 }], goodRun := 2 }, {}] }, 0, by decide +kernel⟩,
   ⟨eup, ⟨1,0⟩, 0, 0, reaches_of (by decide +kernel), by decide +kernel⟩,
   ⟨{ eup with tx := [tf 0 0x11, tf 1 0x12, tf 0 0x12] }, 0, tf 0 0x11, by decide +kernel⟩,
   ⟨tf 0 0x11, by decide +kernel⟩,
   ⟨eup, ⟨1,0⟩, 0, 0, reaches_of (by decide +kernel), by decide +kernel⟩,
   ⟨eup, 0, by decide +kernel⟩⟩

theorem test_hyps_PortServicesAndPtpComplete :
    (∃ s : State, ∃ who : Initiator, ∃ p : Nat, s.Reaches who (Reg.ethMdioCmd + 65536 * p) ∧ s.macs.length = 2 ∧ p < 2) ∧
    (∃ s : State, ∃ p : Nat, s.macs.length = 2 ∧ p < 2 ∧ s.rbit (Reg.ethMdioCmd + 65536 * p) 31 = true ∧ s.fld (Reg.ethMdioCmd + 65536 * p) 11 10 = 2) ∧
    (∃ s : State, ∃ p : Nat, s.macs.length = 2 ∧ p < 2 ∧ s.rbit (Reg.ethCtrl + 65536 * p) 6 = true ∧ s.linkUp p = false ∧ (s.mac p).goodRun < 2) ∧
    (∃ s : State, ∃ p : Nat, s.macs.length = 2 ∧ p < 2 ∧ s.rbit (Reg.ethCtrl + 65536 * p) 6 = true ∧ s.linkUp p = false ∧ 2 ≤ (s.mac p).goodRun) ∧
    (∃ s : State, ∃ who : Initiator, ∃ p : Nat, s.Opens who Reg.ptpStep ∧ s.macs.length = 2 ∧ s.cycleOn = false ∧ p < 2) ∧
    (∃ s : State, ∃ who : Initiator, ∃ p : Nat, s.Reaches who Reg.ptpTimeSecLo ∧ s.macs.length = 2 ∧ p < 2) ∧
    (∃ s : State, ∃ p : Nat, ∃ i : Nat, s.macs.length = 2 ∧ p < 2 ∧ s.answersAt p i = true) ∧
    (∃ s : State, ∃ p : Nat, ∃ i : Nat, ∃ d : Bytes, s.macs.length = 2 ∧ p < 2 ∧ (s.mac p).echoes = [] ∧ s.sends p = true ∧ s.answersAt p i = true ∧ d.length ≤ 1472) ∧
    (∃ s : State, ∃ p : Nat, s.macs.length = 2 ∧ s.harbourOpen = true ∧ p < 2) ∧
    (∃ s : State, ∃ p : Nat, ∃ m : PtpMsg, s.ptp.ports.length = 2 ∧ p < 2 ∧ (let r := s.ptpPort p; r.role = 2 ∧ r.parent = none ∧ r.hears m = true)) ∧
    (∃ s : State, ∃ p : Nat, ∃ m : PtpMsg, s.ptp.ports.length = 2 ∧ p < 2 ∧ (let r := s.ptpPort p; r.fromParent m = true ∧ m.twoStep = true)) ∧
    (∃ s : State, ∃ p : Nat, ∃ m : PtpMsg, s.ptp.ports.length = 2 ∧ p < 2 ∧ (let r := s.ptpPort p; r.fromParent m = true ∧ m.twoStep = false)) ∧
    (∃ s : State, ∃ p : Nat, ∃ m : PtpMsg, s.ptp.ports.length = 2 ∧ p < 2 ∧ (let r := s.ptpPort p; ∃ w ∈ r.waiting, r.fromParent m = true ∧ w.seq = m.seq)) ∧
    (∃ s : State, ∃ p : Nat, ∃ m : PtpMsg, ∃ tx : Nat, s.ptp.ports.length = 2 ∧ p < 2 ∧ (let r := s.ptpPort p; r.fromParent m = true ∧ r.delaySeq = some (m.seq, tx))) ∧
    (∃ s : State, ∃ p : Nat, ∃ m : PtpMsg, s.ptp.ports.length = 2 ∧ p < 2 ∧ s.sends p = true ∧ (let r := s.ptpPort p; r.master = true ∧ r.hears m = true)) ∧
    (∃ s : State, ∃ p : Nat, s.ptp.ports.length = 2 ∧ p < 2 ∧ (let r := s.ptpPort p; r.role = 2 ∧ r.master = false)) ∧
    (∃ s : State, ∃ p : Nat, s.ptp.ports.length = 2 ∧ p < 2 ∧ s.sends p = true ∧ (let r := s.ptpPort p; r.role = 1 ∧ r.master = true ∧ r.oneStep = false)) :=
  ⟨⟨eup, ⟨1,0⟩, 0, reaches_of (by decide +kernel), by decide +kernel⟩,
   ⟨eup.setReg Reg.ethMdioCmd 0x80000800, 0, by decide +kernel⟩,
   ⟨{ (((eup.setReg Reg.ethStatus 0).setReg (Reg.ethStatus + 65536) 0).setRbit Reg.ethCtrl 6 true) with macs := [{goodRun := 1}, {goodRun := 5}] }, 0, by decide +kernel⟩,
   ⟨{ (((eup.setReg Reg.ethStatus 0).setReg (Reg.ethStatus + 65536) 0).setRbit Reg.ethCtrl 6 true) with macs := [{goodRun := 1}, {goodRun := 5}] }, 1, by decide +kernel⟩,
   ⟨opened Reg.ptpStepSec 5 eup, ⟨1,0⟩, 0, opens_of (by decide +kernel), by decide +kernel⟩,
   ⟨eup, ⟨1,0⟩, 0, reaches_of (by decide +kernel), by decide +kernel⟩,
   ⟨{ (eup.setReg Reg.ethIpAddr 7) with boot := { eup.boot with imaged := true } }, 0, 7, by decide +kernel⟩,
   ⟨{ (eup.setReg Reg.ethIpAddr 7) with boot := { eup.boot with imaged := true } }, 0, 7, z 1472, by decide +kernel⟩,
   ⟨eup, 0, by decide +kernel⟩,
   ⟨{ eup with ptp := { eup.ptp with ports := [{ role := 2 }, { role := 1, master := true, oneStep := true }] } }, 0, {}, by decide +kernel⟩,
   ⟨{ eup with ptp := { eup.ptp with ports := [{ role := 2, parent := some {}, waiting := some { seq := 4, rxNs := 100 }, delaySeq := some (4, 77), diffNs := 5, master := false, seqs := [1,2,3] }, { role := 1, master := true, domain := 0, seqs := [7,8,9] }] } }, 0, { twoStep := true, seq := 4, rxNs := 1000, txNs := 500 }, by decide +kernel⟩,
   ⟨{ eup with ptp := { eup.ptp with ports := [{ role := 2, parent := some {}, waiting := some { seq := 4, rxNs := 100 }, delaySeq := some (4, 77), diffNs := 5, master := false, seqs := [1,2,3] }, { role := 1, master := true, domain := 0, seqs := [7,8,9] }] } }, 0, {}, by decide +kernel⟩,
   ⟨{ eup with ptp := { eup.ptp with ports := [{ role := 2, parent := some {}, waiting := some { seq := 4, rxNs := 100 }, delaySeq := some (4, 77), diffNs := 5, master := false, seqs := [1,2,3] }, { role := 1, master := true, domain := 0, seqs := [7,8,9] }] } }, 0, { twoStep := true, seq := 4, rxNs := 1000, txNs := 500 }, by decide +kernel⟩,
   ⟨{ eup with ptp := { eup.ptp with ports := [{ role := 2, parent := some {}, waiting := some { seq := 4, rxNs := 100 }, delaySeq := some (4, 77), diffNs := 5, master := false, seqs := [1,2,3] }, { role := 1, master := true, domain := 0, seqs := [7,8,9] }] } }, 0, { twoStep := true, seq := 4, rxNs := 1000, txNs := 500 }, 77, by decide +kernel⟩,
   ⟨{ eup with ptp := { eup.ptp with ports := [{ role := 2, parent := some {}, waiting := some { seq := 4, rxNs := 100 }, delaySeq := some (4, 77), diffNs := 5, master := false, seqs := [1,2,3] }, { role := 1, master := true, domain := 0, seqs := [7,8,9] }] } }, 1, {}, by decide +kernel⟩,
   ⟨{ eup with ptp := { eup.ptp with ports := [{ role := 2, parent := some {}, waiting := some { seq := 4, rxNs := 100 }, delaySeq := some (4, 77), diffNs := 5, master := false, seqs := [1,2,3] }, { role := 1, master := true, domain := 0, seqs := [7,8,9] }] } }, 0, by decide +kernel⟩,
   ⟨{ eup with ptp := { eup.ptp with ports := [{ role := 2, parent := some {}, waiting := some { seq := 4, rxNs := 100 }, delaySeq := some (4, 77), diffNs := 5, master := false, seqs := [1,2,3] }, { role := 1, master := true, domain := 0, seqs := [7,8,9] }] } }, 1, by decide +kernel⟩⟩

theorem test_hyps_WatchCycleCompletes :
    (∃ s : State, s.boot.held = false ∧ s.wc.stopPending = false ∧ (s.nextMark).isSome = true) ∧
    (∃ s : State, s.boot.held = false ∧ s.wc.stopPending = true ∧ (s.nextMark).isSome = true) ∧
    (∃ s : State, s.reports = true ∧ s.wc.running = true ∧ s.wc.boundaryTaken = false) ∧
    (∃ s : State, s.reports = true ∧ s.wc.running = false ∧ s.wc.stopPending = true) ∧
    (∃ s : State, s.reports = true ∧ s.wc.running = true ∧ s.wc.ended = false ∧ s.wc.gathered = false ∧ s.wc.lastOutcome ≠ .committed ∧ ∃ y_ ∈ (s.tl.stations).head?, (s.tl.stations).length = 1 ∧ ∃ id ∈ some y_.1, ∃ st ∈ some y_.2, id < 112 ∧ st.takePart = true ∧ st.state = .moored ∧ st.inputFor = some s.wc.cycle.toNat) ∧
    (∃ s : State, s.reports = true ∧ s.wc.running = true ∧ s.wc.ended = false ∧ s.wc.gathered = false ∧ ∃ y_ ∈ (s.tl.stations).head?, (s.tl.stations).length = 1 ∧ ∃ id ∈ some y_.1, ∃ st ∈ some y_.2, id < 112 ∧ st.takePart = true ∧ st.state = .moored ∧ st.inputFor = none ∧ st.missRun + 1 < stationLostN id st) ∧
    (∃ s : State, s.wc.running = true ∧ s.wc.ended = false ∧ s.reports = true ∧ s.wc.phase = .commit ∧ (∀ p, p ∈ s.changes → p.used = false)) :=
  ⟨⟨r1, by decide +kernel⟩,
   ⟨{ r1 with wc := { r1.wc with stopPending := true } }, by decide +kernel⟩,
   ⟨r1, by decide +kernel⟩,
   ⟨{ rich with wc := { rich.wc with stopPending := true } }, by decide +kernel⟩,
   ⟨one stMo, by decide +kernel⟩,
   ⟨one { stMo with inputFor := none }, by decide +kernel⟩,
   ⟨{ r1 with wc := { r1.wc with phase := .commit, gathered := true }, chansWork := some [] }, by decide +kernel⟩⟩

theorem test_hyps_StationLinkCompletes :
    (∃ s : State, ∃ f : TlFrame, s.reports = true ∧ s.tl.role ≠ .standby ∧ (∀ x, x ∈ s.tl.stations → x.2.held = false) ∧ headerOk f = true ∧ f.epoch = s.tl.epoch ∧ s.tl.announced.testBit f.port = true ∧ (let id := f.stationId; id < 112 ∧ s.joinReason id f.src f.port = 0 ∧ (let st := s.station id; st.state = .absent ∧ st.join = none))) ∧
    (∃ s : State, ∃ id : Nat, s.reports = true ∧ id < 112 ∧ (let st := s.station id; st.state = .hailed ∧ (st.join).isSome = true)) ∧
    (∃ s : State, s.reports = true ∧ s.tl.role ≠ .standby ∧ ∃ y_ ∈ (s.joinsPending).head?, (s.joinsPending).length = 1 ∧ ∃ id ∈ some y_.1, ∃ j ∈ some y_.2, id < 112 ∧ s.joinReason id j.mac j.port = 0 ∧ (let st := s.station id; st.state = .hailed)) ∧
    (∃ s : State, ∃ id : Nat, s.reports = true ∧ id < 112 ∧ (let st := s.station id; st.held = true ∧ 1 ≤ st.sends ∧ st.sends < 5)) ∧
    (∃ s : State, ∃ f : TlFrame, s.reports = true ∧ headerOk f = true ∧ f.epoch = s.tl.epoch ∧ u8 f.payload 2 = 0 ∧ (let id := f.stationId; id < 112 ∧ (let st := s.station id; st.state = .joining ∧ 1 ≤ st.sends ∧ st.mac = f.src ∧ u16 f.payload 0 = st.configSeq ∧ st.firstConfig = true))) ∧
    (∃ s : State, ∃ f : TlFrame, s.reports = true ∧ s.wc.gathered = false ∧ headerOk f = true ∧ f.epoch = s.followedEpoch ∧ s.inputOk f = true ∧ (let id := f.stationId; id < 112 ∧ (let st := s.station id; (st.state = .moored ∨ st.state = .slack)))) ∧
    (∃ s : State, ∃ f : TlFrame, s.reports = true ∧ s.wc.gathered = true ∧ headerOk f = true ∧ f.epoch = s.followedEpoch ∧ s.inputOk f = true ∧ (let id := f.stationId; id < 112 ∧ (let st := s.station id; (st.state = .moored ∨ st.state = .slack)))) ∧
    (∃ s : State, ∃ f : TlFrame, s.reports = true ∧ s.tl.followed = none ∧ s.tl.heard = [] ∧ s.tl.role = .idle ∧ f.version = 1 ∧ f.flags = 0 ∧ f.length ≤ f.body.length ∧ f.stationId = 0xFF) ∧
    (∃ s : State, ∃ f : TlFrame, s.reports = true ∧ s.tl.role = .active ∧ f.version = 1 ∧ f.flags = 0 ∧ f.length ≤ f.body.length ∧ f.stationId = 0xFF ∧ claimHigher (u8 f.payload 0, f.epoch, f.src) (2, s.tl.epoch, s.macAddr f.port) = true) ∧
    (∃ s : State, ∃ f : TlFrame, s.reports = true ∧ s.tl.role = .standby ∧ ∃ d ∈ s.tl.followed, f.version = 1 ∧ f.flags = 0 ∧ f.length ≤ f.body.length ∧ f.stationId = 0xFF ∧ f.epoch = d.epoch ∧ d.mac = f.src) ∧
    (∃ s : State, s.boot.held = false ∧ s.wc.stopPending = false ∧ s.wc.running = true ∧ s.wc.ended = false ∧ s.wc.bracedVerdict = false ∧ s.wc.discardVerdict = false ∧ (s.nextMark).isSome = true) :=
  ⟨⟨{ rich with tl := { rich.tl with stations := [(8, { config := cfgN }), (9, { config := cfgN, state := .hailed, join := some ⟨5, 0, 2, .lost⟩, sends := 3 })], announced := 3 } }, { src := 9, stationId := 8, epoch := 9, cycle := 3 }, by decide +kernel⟩,
   ⟨{ rich with tl := { rich.tl with stations := [(8, { config := cfgN }), (9, { config := cfgN, state := .hailed, join := some ⟨5, 0, 2, .lost⟩, sends := 3 })], announced := 3 } }, 9, by decide +kernel⟩,
   ⟨{ rich with tl := { rich.tl with stations := [(8, { config := cfgN }), (9, { config := cfgN, state := .hailed, join := some ⟨5, 0, 2, .lost⟩, sends := 3 })], announced := 3 } }, by decide +kernel⟩,
   ⟨{ rich with tl := { rich.tl with stations := [(6, { config := cfgN, state := .joining, sends := 1, firstConfig := true })], announced := 3 } }, 6, by decide +kernel⟩,
   ⟨{ rich with tl := { rich.tl with stations := [(6, { config := cfgN, state := .joining, sends := 1, firstConfig := true })], announced := 3 } }, { src := 0, stationId := 6, epoch := 9, length := 4, body := z 4 }, by decide +kernel⟩,
   ⟨one stMo, { src := 7, stationId := 3, epoch := 9, cycle := 9, mark := 0, length := 12, body := [4,0,0,0,0,0,1,0] ++ [1,0,5,0] }, by decide +kernel⟩,
   ⟨{ (one stMo) with wc := { (one stMo).wc with gathered := true } }, { src := 7, stationId := 3, epoch := 9, cycle := 9, mark := 0, length := 12, body := [4,0,0,0,0,0,1,0] ++ [1,0,5,0] }, by decide +kernel⟩,
   ⟨{ rich with tl := { rich.tl with stations := [(8, { config := cfgN }), (9, { config := cfgN, state := .hailed, join := some ⟨5, 0, 2, .lost⟩, sends := 3 })], announced := 3 } }, { src := 5, stationId := 0xFF, flags := 0, epoch := 99, length := 12, body := [2,0,0,0,1,2,3,0,0,0,0,0] }, by decide +kernel⟩,
   ⟨{ r1 with tl := { r1.tl with role := .active, stations := [] } }, { src := 5, stationId := 0xFF, flags := 0, epoch := 99, length := 12, body := [2,0,0,0,1,2,3,0,0,0,0,0] }, by decide +kernel⟩,
   ⟨{ r1 with tl := { r1.tl with role := .standby, followed := some ⟨5, 99, 2, 20000, 0, [1,2,3]⟩ } }, { src := 5, stationId := 0xFF, flags := 0, epoch := 99, length := 12, body := [2,0,0,0,1,2,3,0,0,0,0,0] }, by decide +kernel⟩,
   ⟨one stMo, by decide +kernel⟩⟩

theorem test_hyps_QuayAndFieldsComplete :
    (∃ s : State, s.fld Reg.quayStatus 2 0 = 0 ∧ s.wc.running = false) ∧
    (∃ s : State, s.fld Reg.quayStatus 2 0 = 1 ∧ s.passReady (s.fld Reg.quayLdPtr 20 0) = true ∧ s.wc.running = false ∧ ∃ u ∈ some (s.loadPass).1, (s.loadPass).2 = none ∧ True) ∧
    (∃ s : State, s.fld Reg.quayStatus 2 0 = 1 ∧ s.passReady (s.fld Reg.quayLdPtr 20 0) = true ∧ s.wc.running = true ∧ s.wc.ended = false ∧ s.wc.phase = .load ∧ ∃ u ∈ some (s.loadMirror.loadPass).1, (s.loadMirror.loadPass).2 = none ∧ True) ∧
    (∃ s : State, s.fld Reg.quayStatus 2 0 = 1 ∧ s.passReady (s.fld Reg.quayLdPtr 20 0) = true ∧ s.wc.running = false ∧ ∃ u ∈ some (s.loadPass).1, ∃ e ∈ (s.loadPass).2, True) ∧
    (∃ s : State, s.fld Reg.quayStatus 2 0 = 2 ∧ s.passReady (s.fld Reg.quayUlPtr 20 0) = true ∧ s.wc.running = false ∧ ∃ u ∈ some (s.unloadPass).1, (s.unloadPass).2 = none ∧ True) ∧
    (∃ s : State, s.fld Reg.quayStatus 2 0 = 2 ∧ s.passReady (s.fld Reg.quayUlPtr 20 0) = true ∧ s.wc.running = true ∧ s.wc.ended = false ∧ s.wc.phase = .unload ∧ ∃ u ∈ some (s.unloadPass).1, (s.unloadPass).2 = none ∧ u.wc.ended = false) ∧
    (∃ s : State, s.fld Reg.quayStatus 2 0 ≠ 0 ∧ s.inWindow = false) ∧
    (∃ s : State, ∃ r : BusReq, s.rbit Reg.fairwayFence 17 = false ∧ s.inWindow = false ∧ s.plain.ecc = [] ∧ 0x30000000 ≤ r.addr ∧ r.addr < 0x31000000 ∧ s.silent r.who = false ∧ r.who.master < 4 ∧ s.masterFenced r.who.master 5 = false ∧ windowForm r = true ∧ s.rbit Reg.sysctlPlainFail (fieldOf ((r.addr - 0x30000000) / 1024)) = false ∧ s.plain.on (fieldOf ((r.addr - 0x30000000) / 1024)) = true ∧ r.write = false) ∧
    (∃ s : State, ∃ r : BusReq, s.rbit Reg.fairwayFence 17 = false ∧ s.inWindow = false ∧ s.plain.ecc = [] ∧ Store.sorted s.plain.mem = true ∧ 0x30000000 ≤ r.addr ∧ r.addr < 0x31000000 ∧ s.silent r.who = false ∧ r.who.master < 4 ∧ s.masterFenced r.who.master 5 = false ∧ windowForm r = true ∧ s.rbit Reg.sysctlPlainFail (fieldOf ((r.addr - 0x30000000) / 1024)) = false ∧ s.plain.on (fieldOf ((r.addr - 0x30000000) / 1024)) = true ∧ r.write = true ∧ r.data.length = r.size * r.beats) ∧
    (∃ s : State, s.plain.power.length = 16 ∧ ∃ y_ ∈ (s.plain.waking).head?, (s.plain.waking).length = 1 ∧ ∃ f ∈ some y_.1, ∃ off ∈ some y_.2, f < 16) ∧
    (∃ s : State, ∃ f, s.plain.mirrorPairs = 0 ∧ s.plain.sleeps = [] ∧ f < 16 ∧ s.plain.on f = true ∧ s.sleepWaits f = true) ∧
    (∃ s : State, ∃ f, s.plain.power.length = 16 ∧ s.plain.mirrorPairs = 0 ∧ f < 16 ∧ s.plain.on f = true ∧ s.sleepWaits f = false ∧ s.fieldIdle f = true) ∧
    (∃ s : State, s.inWindow = false ∧ s.arrUp = true) :=
  ⟨⟨pw allOn up, by decide +kernel⟩,
   ⟨qs 1 rich, by decide +kernel⟩,
   ⟨qs 1 (ph .load r1), by decide +kernel⟩,
   ⟨badD (qs 1 rich), by decide +kernel⟩,
   ⟨qs 2 rich, by decide +kernel⟩,
   ⟨qs 2 (ph .unload r1), by decide +kernel⟩,
   ⟨qs 1 rich, by decide +kernel⟩,
   ⟨pw allOn up, (busReq ⟨0,0⟩ 805306368 false 4), by decide +kernel⟩,
   ⟨pw allOn up, (busReq ⟨0,0⟩ 805306368 true 4), by decide +kernel⟩,
   ⟨{ pw (allOn.set 15 .off) rich with plain := { (pw (allOn.set 15 .off) rich).plain with mem := memP, waking := [(15, true)] } }, by decide +kernel⟩,
   ⟨qs 1 rich, 15, by decide +kernel⟩,
   ⟨pw allOn up, 15, by decide +kernel⟩,
   ⟨pw allOn up, by decide +kernel⟩⟩

theorem test_hyps_FairwayCompletes :
    (∃ s : State, ∃ p : FwPacket, s.fw.waiting = [] ∧ p.src < 16 ∧ p.dst < 16 ∧ s.rbit Reg.fairwayFence p.src = false ∧ (fwTargets p.src).contains p.dst = false ∧ (p.kind = 1 ∨ p.kind = 2)) ∧
    (∃ s : State, ∃ p : FwPacket, s.fw.waiting = [] ∧ p.src < 16 ∧ p.dst < 16 ∧ s.rbit Reg.fairwayFence p.src = false ∧ (fwTargets p.src).contains p.dst = true ∧ p.tid < fwTids p.src ∧ Store.find? s.fw.tids (256 * p.src + p.tid) = none ∧ s.fw.quarantine.contains (p.src, p.tid) = false ∧ (p.kind = 1 ∨ p.kind = 2) ∧ s.reserved p.src + FwPacket.reserve p ≤ fwBuffer p.src) ∧
    (∃ s : State, ∃ p : FwPacket, s.fw.waiting = [] ∧ p.src < 16 ∧ p.dst < 16 ∧ s.rbit Reg.fairwayFence p.src = false ∧ (fwTargets p.src).contains p.dst = true ∧ p.tid < fwTids p.src ∧ Store.find? s.fw.tids (256 * p.src + p.tid) = none ∧ s.fw.quarantine.contains (p.src, p.tid) = false ∧ p.kind = 1 ∧ fwBuffer p.src < s.reserved p.src + FwPacket.reserve p) ∧
    (∃ p : FwPacket, p.src < 16 ∧ p.dst < 16 ∧ p.kind = 1 ∧ p.bulk = false) ∧
    (∃ s : State, ∃ p : FwPacket, s.fw.waiting = [] ∧ p.src < 16 ∧ p.dst < 16 ∧ p.headUe = false ∧ p.poisoned = false ∧ p.crcBad = false ∧ s.rbit Reg.fairwayFence p.dst = false ∧ p.status = 0 ∧ p.kind ≠ 0xA ∧ p.corrected = [] ∧ (s.outstanding p).isSome = true) ∧
    (∃ s : State, ∃ p : FwPacket, p.src < 16 ∧ p.dst < 16 ∧ ∃ x ∈ (s.outstanding p), 1 ≤ x.retries) ∧
    (∃ s : State, ∃ n : Nat, ∃ tid : Nat, s.fw.waiting = [] ∧ n < 16 ∧ tid < 256 ∧ ∃ x ∈ (Store.find? s.fw.tids (256 * n + tid)), endpointDomain x.req.dst = none) ∧
    (∃ s : State, ∃ n : Nat, ∃ tid : Nat, ∃ who, s.Reaches who Reg.fairwayTraceData ∧ s.fw.trace ≠ [] ∧ n < 16 ∧ tid < 256) ∧
    (∃ s : State, ∃ p : FwPacket, p.headUe = false ∧ p.reserved = false ∧ (p.kind = 1 ∨ p.kind = 2) ∧ s.rbit Reg.fairwayFence (16 + p.dst) = true) ∧
    (∃ s : State, ∃ p : FwPacket, p.headUe = false ∧ p.reserved = false ∧ (p.kind = 1 ∨ p.kind = 2) ∧ s.rbit Reg.fairwayFence (16 + p.dst) = false ∧ p.poisoned = true) ∧
    (∃ s : State, ∃ p : FwPacket, p.headUe = false ∧ p.reserved = false ∧ (p.kind = 1 ∨ p.kind = 2) ∧ s.rbit Reg.fairwayFence (16 + p.dst) = false ∧ p.poisoned = false ∧ p.bulk = true ∧ p.crcBad = true) :=
  ⟨⟨fwS, fp 1 1 1 0 0, by decide +kernel⟩,
   ⟨fwS, fp 1 1 0 0 0, by decide +kernel⟩,
   ⟨fwS, { fp 1 1 6 0 0 with length := 4096 }, by decide +kernel⟩,
   ⟨fp 1 1 0 0 0, by decide +kernel⟩,
   ⟨fwS, fp 1 1 0 3 0, by decide +kernel⟩,
   ⟨fwS, fp 1 1 0 3 0, by decide +kernel⟩,
   ⟨fwS, 8, 0, by decide +kernel⟩,
   ⟨fwS, 8, 0, ⟨1,0⟩, reaches_of (by decide +kernel), by decide +kernel⟩,
   ⟨fwS.setReg Reg.fairwayFence 0xFFFF0000, fp 1 1 0 0 0, by decide +kernel⟩,
   ⟨fwS, fp 1 1 0 0 1, by decide +kernel⟩,
   ⟨fwS, { fp 1 1 0 3 2 with bulk := true }, by decide +kernel⟩⟩

theorem test_hyps_MicroWordsComplete :
    (∃ s : State, ∃ w : BitVec 112, s.pilotRuns = true ∧ maskDepth (mbits w 73 71) s.pilot.depth = none) ∧
    (∃ s : State, ∃ w : BitVec 112, s.pilotRuns = true ∧ ∃ d ∈ (maskDepth (mbits w 73 71) s.pilot.depth), (let b := s.microBody w true; (let t := { b with pilot := { b.pilot with depth := d, inWait := false } }; t.pilot.calls.length < 8))) ∧
    (∃ s : State, ∃ w : BitVec 112, s.pilotRuns = true ∧ ∃ d ∈ (maskDepth (mbits w 73 71) s.pilot.depth), (let b := s.microBody w true; (let t := { b with pilot := { b.pilot with depth := d, inWait := false } }; t.pilot.calls ≠ []))) ∧
    (∃ s : State, ∃ w : BitVec 112, s.pilotRuns = true ∧ ∃ d ∈ (maskDepth (mbits w 73 71) s.pilot.depth), (let b := s.microBody w true; (let t := { b with pilot := { b.pilot with depth := d, inWait := false } }; t.pilot.calls = []))) ∧
    (∃ s : State, ∃ w : BitVec 112, s.pilotRuns = true ∧ (maskDepth (mbits w 73 71) s.pilot.depth).isSome = true ∧ (let i := mbits w 27 26; s.pilot.lc.getD i 0 ≠ 0)) ∧
    (∃ s : State, ∃ w : BitVec 112, s.pilotRuns = true ∧ (maskDepth (mbits w 73 71) s.pilot.depth).isSome = true ∧ (let i := mbits w 27 26; s.pilot.lc.getD i 0 = 0)) ∧
    (∃ s : State, ∃ w : BitVec 112, s.pilotRuns = true ∧ s.pilot.queue ≠ [] ∧ (maskDepth (mbits w 73 71) s.pilot.depth).isSome = true) ∧
    (∃ s : State, ∃ w : BitVec 112, s.pilotRuns = true ∧ s.cond (mbits w 25 21) % 2 = 0 ∧ (maskDepth (mbits w 73 71) s.pilot.depth).isSome = true) ∧
    (∃ s : State, ∃ w : BitVec 112, s.pilotRuns = true ∧ s.cond (mbits w 25 21) % 2 = 1 ∧ (maskDepth (mbits w 73 71) s.pilot.depth).isSome = true) ∧
    (∃ s : State, ∃ w : BitVec 112, s.pilotRuns = true ∧ (s.pilot.slots.getLast?).isSome = true ∧ (maskDepth (mbits w 73 71) s.pilot.depth).isSome = true) ∧
    (∃ s : State, ∃ a, s.pilotRuns = true ∧ 0x4000 ≤ a ∧ a < 32768) ∧
    (∃ s : State, ∃ w : BitVec 112, ∃ n : Nat, s.pilotRuns = true ∧ mbits w 32 30 = 0 ∧ mbits w 36 35 = 0 ∧ mbits w 41 39 = 0 ∧ mbits w 53 50 = 6 ∧ mbits w 56 54 = 1 ∧ mbits w 59 57 = 0 ∧ mbits w 61 60 = 0 ∧ mbits w 63 62 = 0 ∧ mbits w 70 69 = 0 ∧ mbits w 73 71 = 0 ∧ mbits w 75 74 = 0 ∧ n ∈ s.plain.onElems) :=
  ⟨⟨pil { st := .foreground, calls := List.range 8, depth := 4, upc := 5 }, wd [(71,1)], by decide +kernel⟩,
   ⟨pil { st := .ebb, slots := [List.replicate 24 7] }, 0, by decide +kernel⟩,
   ⟨pil { st := .foreground, lc := [3,0,65535,1], calls := [7,8], depth := 2, upc := 0x3FFF, queue := [0x123456789ABCDEF0, 5] }, 0, by decide +kernel⟩,
   ⟨pil { st := .ebb, slots := [List.replicate 24 7] }, 0, by decide +kernel⟩,
   ⟨pil { st := .foreground, lc := [3,0,65535,1], calls := [7,8], depth := 2, upc := 0x3FFF, queue := [0x123456789ABCDEF0, 5] }, 0, by decide +kernel⟩,
   ⟨pil { st := .ebb, slots := [List.replicate 24 7] }, 0, by decide +kernel⟩,
   ⟨pil { st := .foreground, lc := [3,0,65535,1], calls := [7,8], depth := 2, upc := 0x3FFF, queue := [0x123456789ABCDEF0, 5] }, 0, by decide +kernel⟩,
   ⟨pil { st := .ebb, slots := [List.replicate 24 7] }, 0, by decide +kernel⟩,
   ⟨pil { st := .ebb, slots := [List.replicate 24 7] }, wd [(21,6)], by decide +kernel⟩,
   ⟨pil { st := .ebb, slots := [List.replicate 24 7] }, 0, by decide +kernel⟩,
   ⟨pil { st := .ebb, slots := [List.replicate 24 7] }, 0x4000, by decide +kernel⟩,
   ⟨pil { st := .ebb, slots := [List.replicate 24 7] }, wd [(50,6),(57,0),(54,1),(5,3)], elemOfRing 2 5, by decide +kernel⟩⟩

theorem test_hyps_HarbourHandlerReturnsOrAbandons :
    (∃ s : State, s.pilotRuns = true ∧ s.pilot.trapOk = true ∧ s.pilot.slots.length < 4 ∧ s.matches s.pilot.upc = [] ∧ s.rbit Reg.pilotWatch 0 = false ∧ s.pilot.upc < 32768 ∧ (s.pilot.slots ≠ [] → s.pilot.st = .trap) ∧ s.pilot.lc.length = 4 ∧ (∀ x, x ∈ s.pilot.lc → x < 65536) ∧ s.pilot.a.length = 4 ∧ (∀ x, x ∈ s.pilot.a → x < 8192) ∧ s.pilot.s.length = 16 ∧ s.pilot.depth < 8 ∧ s.pilot.calls.length ≤ 8 ∧ ∃ c ∈ s.nextTrap, (c = 3 ∨ c = 4 ∨ c = 5) ∧ s.matches (0x3F00 + 16 * c) = []) ∧
    (∃ s : State, (let c := 1; s.pilotRuns = true ∧ s.pilot.trapOk = true ∧ s.nextTrap = some c ∧ s.pilot.slots.length < 4 ∧ s.matches (0x3F00 + 16 * c) = [])) ∧
    (∃ s : State, (let c := 2; s.pilotRuns = true ∧ s.pilot.trapOk = true ∧ s.nextTrap = some c ∧ s.pilot.slots.length < 4 ∧ s.matches (0x3F00 + 16 * c) = [])) ∧
    (∃ s : State, (let c := 0; s.pilotRuns = true ∧ s.pilot.trapOk = true ∧ s.nextTrap = some c ∧ s.pilot.slots.length < 4 ∧ s.matches (0x3F00 + 16 * c) = [] ∧ (s.pilot.slots = [] ∧ s.pilot.st = .foreground ∨ s.pilot.slots ≠ [] ∧ s.pilot.under = .foreground) ∧ s.pilot.sagFor = some s.wc.cycle ∧ s.wc.ended = false ∧ s.pilot.dlLeft < (s.pilot.s.getD 14 0).toNat)) ∧
    (∃ s : State, (let c := 6; s.pilotRuns = true ∧ s.pilot.trapOk = true ∧ s.nextTrap = some c ∧ s.pilot.slots.length < 4 ∧ s.matches (0x3F00 + 16 * c) = [])) :=
  ⟨⟨tp 8 (pil { st := .foreground, upc := 77 }), by decide +kernel⟩,
   ⟨tp 2 (pil { st := .foreground, upc := 77 }), by decide +kernel⟩,
   ⟨tp 4 (pil { st := .foreground, upc := 77 }), by decide +kernel⟩,
   ⟨tp 1 (pil { st := .foreground, dlLeft := 5, s := List.replicate 16 9, sagFor := some 0 }), by decide +kernel⟩,
   ⟨tp 64 (pil { st := .foreground, upc := 77 }), by decide +kernel⟩⟩

theorem test_hyps_PilotCommandsComplete :
    (∃ s : State, s.warning = true ∧ s.boot.held = false ∧ s.sagAsked = false) ∧
    (∃ s : State, (s.warning = false ∨ s.sagAsked = true)) ∧
    (∃ s : State, s.pilot.unloadDone = false ∧ s.fld Reg.pilotDeadline 17 0 ≠ 0) ∧
    (∃ s : State, s.pilot.ackPending = true) ∧
    (∃ s : State, s.arrUp = true) ∧
    (∃ s : State, s.pilot.st = .idle ∧ s.arrUp = true) ∧
    (∃ s : State, s.pilot.st = .haltedBreak) ∧
    (∃ s : State, s.pilot.st = .idle ∧ (∀ i : Nat, i < 32 → s.rbit (Reg.pilotMatch + 4 * i) 31 = false)) ∧
    (∃ n, n < 2) ∧
    (∃ s : State, s.pilotRuns = true ∧ s.pilot.queue.length < 32 ∧ s.basinState 1 = 0 ∧ s.basinWaking 1 = false ∧ (let o := (s.pilot.mpc + 8 * s.pilot.queue.length) % 262144; Store.get s.memErr (0x21000000 + o) 0 ≠ 2)) :=
  ⟨⟨up.setRbit Reg.supmonStatus 0 true, by decide +kernel⟩,
   ⟨pil {}, by decide +kernel⟩,
   ⟨(pil { st := .foreground }).setFld Reg.pilotDeadline 17 0 99, by decide +kernel⟩,
   ⟨pil { st := .foreground, ackPending := true }, by decide +kernel⟩,
   ⟨up.setRbit Reg.supmonStatus 0 true, by decide +kernel⟩,
   ⟨up.setRbit Reg.supmonStatus 0 true, by decide +kernel⟩,
   ⟨pil { st := .haltedBreak }, by decide +kernel⟩,
   ⟨up.setRbit Reg.supmonStatus 0 true, by decide +kernel⟩,
   ⟨0, by decide +kernel⟩,
   ⟨(pil { st := .foreground }).setFld Reg.pilotDeadline 17 0 99, by decide +kernel⟩⟩

theorem test_hyps_PlainMovesComparesAndLogicComplete : ∃ s : State, ∃ m : MacroInstr, ∃ n : Nat, s.pilotRuns = true ∧ n ∈ s.acts m :=
  ⟨plS fg, mk 7 100 96 200 0, 66, by decide +kernel⟩

theorem test_hyps_PlainArithmeticAndShiftsComplete :
    (∃ s : State, ∃ m : MacroInstr, ∃ n : Nat, s.pilotRuns = true ∧ (let w := mW m; (let rd := reading (mSign m) w; n ∈ s.acts m ∧ (let a := s.plain.bits n (s.src1At m n) w; (let b := s.plain.bits n (s.src2At m n) w; rd b ≠ 0 ∧ ¬ (mSign m = true ∧ rd a = -(2 ^ (w - 1)) ∧ rd b = -1)))))) ∧
    (∃ s : State, ∃ m : MacroInstr, ∃ n : Nat, s.pilotRuns = true ∧ mSign m = true ∧ (let w := mW m; (let rd := reading (mSign m) w; n ∈ s.acts m ∧ (let a := s.plain.bits n (s.src1At m n) w; rd a = -(2 ^ (w - 1)) ∧ (let b := s.plain.bits n (s.src2At m n) w; rd b = -1))))) ∧
    (∃ s : State, ∃ m : MacroInstr, ∃ n : Nat, s.pilotRuns = true ∧ (let w := mW m; (let rd := reading (mSign m) w; n ∈ s.acts m ∧ (let b := s.plain.bits n (s.src2At m n) w; rd b = 0)))) ∧
    (∃ s : State, ∃ m : MacroInstr, ∃ n : Nat, s.pilotRuns = true ∧ n ∈ s.acts m) ∧
    (∃ s : State, ∃ m : MacroInstr, ∃ n : Nat, s.pilotRuns = true ∧ mMsel m = 0 ∧ mSrc2 m = 1 ∧ n ∈ s.acts m) :=
  ⟨⟨plS fg, mk 7 100 96 200 0, 66, by decide +kernel⟩,
   ⟨plS fg, mk 7 100 240 248 0x40, 66, by decide +kernel⟩,
   ⟨plS fg, mk 7 100 96 200 0, 64, by decide +kernel⟩,
   ⟨plS fg, mk 7 100 96 200 0, 66, by decide +kernel⟩,
   ⟨plS fg, mk 7 100 200 1 0, 66, by decide +kernel⟩⟩

theorem test_hyps_PlainScansMasksAndTablesComplete :
    (∃ s : State, ∃ m : MacroInstr, ∃ n : Nat, s.pilotRuns = true ∧ n ∈ s.acts m ∧ ∃ i ∈ some (chainPos (mEdge m == 3) n).1, ∃ at_ ∈ some (chainPos (mEdge m == 3) n).2, True) ∧
    (∃ s : State, ∃ m : MacroInstr, ∃ n : Nat, ∃ x, s.pilotRuns = true ∧ (let w := mW m; (let val := (fun k => reading (mSign m) w (s.plain.bits k (s.src1At m k) w)); n ∈ s.acts m ∧ x ∈ (s.acts m).map val ∧ (∀ y, y ∈ (s.acts m).map val → y ≤ x)))) ∧
    (∃ s : State, ∃ m : MacroInstr, ∃ n : Nat, ∃ x, s.pilotRuns = true ∧ (let w := mW m; (let val := (fun k => reading (mSign m) w (s.plain.bits k (s.src1At m k) w)); n ∈ s.acts m ∧ x ∈ (s.acts m).map val ∧ (∀ y, y ∈ (s.acts m).map val → x ≤ y)))) ∧
    (∃ s : State, ∃ m : MacroInstr, ∃ n : Nat, s.pilotRuns = true ∧ s.pilot.s.length = 16 ∧ (let d := s.pilot.maskD; d < 4 ∧ n ∈ s.plain.onElems)) ∧
    (∃ s : State, ∃ m : MacroInstr, ∃ n : Nat, s.pilotRuns = true ∧ s.pilot.s.length = 16 ∧ (let d := s.pilot.maskD; 1 ≤ d ∧ d < 4 ∧ n ∈ s.plain.onElems)) ∧
    (∃ s : State, ∃ m : MacroInstr, ∃ n : Nat, (let d := 0; s.pilotRuns = true ∧ d = s.pilot.maskD ∧ s.pilot.s.length = 16 ∧ n ∈ s.plain.onElems)) ∧
    (∃ s : State, ∃ m : MacroInstr, ∃ n : Nat, s.pilotRuns = true ∧ s.pilot.s.length = 16 ∧ (let w := mW m; n ∈ s.plain.onElems ∧ n ∈ s.acts m ∧ (let rd := (fun a => reading (mSign m) w (s.plain.bits n a w)); (let ix := (s.plain.elem n).ix; (let h0 := rd (mSrc2 m + ix); (let h1 := rd (mSrc2 m + ix + w); h0 < h1 ∧ h1 - h0 < 2 ^ (2 * w - 1))))))) :=
  ⟨⟨plS fg, mk 7 100 96 200 0, 66, by decide +kernel⟩,
   ⟨plS fg, mk 7 100 240 248 0x40, 66, 0, by decide +kernel⟩,
   ⟨plS fg, mk 7 100 96 200 0, 66, 0, by decide +kernel⟩,
   ⟨plS fg, mk 7 100 96 200 0, 66, by decide +kernel⟩,
   ⟨plS { fg with s := (List.replicate 16 0).set 13 2 }, mk 7 100 96 200 0, 66, by decide +kernel⟩,
   ⟨plS fg, mk 7 100 96 200 0, 66, by decide +kernel⟩,
   ⟨plS fg, mk 7 100 96 200 0, 66, by decide +kernel⟩⟩

theorem test_hyps_PlainControlFlowComplete :
    (∃ s : State, ∃ m : MacroInstr, s.pilotRuns = true ∧ s.pilot.loops = [] ∧ s.pilot.s.length = 16 ∧ s.pilot.lc.length = 4 ∧ 1 ≤ mDst m) ∧
    (∃ s : State, ∃ m : MacroInstr, s.pilotRuns = true ∧ s.pilot.loops = [] ∧ s.pilot.s.length = 16 ∧ s.pilot.lc.length = 4 ∧ s.pilot.macroCalls < 4) ∧
    (∃ s : State, ∃ m : MacroInstr, s.pilotRuns = true ∧ s.pilot.loops = [] ∧ s.pilot.s.length = 16 ∧ s.pilot.lc.length = 4 ∧ 4 ≤ s.pilot.macroCalls) ∧
    (∃ s : State, ∃ m : MacroInstr, s.pilotRuns = true ∧ s.pilot.loops = [] ∧ s.pilot.s.length = 16 ∧ s.pilot.lc.length = 4 ∧ 1 ≤ s.pilot.macroCalls ∧ s.pilot.macroCalls ≤ 4) :=
  ⟨⟨plS fg, mk 7 100 200 300 0, by decide +kernel⟩,
   ⟨plS fg, mk 7 100 200 300 0, by decide +kernel⟩,
   ⟨plS { fg with macroCalls := 4 }, mk 7 100 200 300 0, by decide +kernel⟩,
   ⟨plS { fg with macroCalls := 4 }, mk 7 100 200 300 0, by decide +kernel⟩⟩

theorem test_hyps_HmIntegerInstructionsComplete :
    (∃ s : State, ∃ rd : Nat, ∃ rs1 : Nat, ∃ rs2 : Nat, s.Fetches (fetched s) ∧ rd < 24 ∧ rs1 < 24 ∧ rs2 < 24) ∧
    (∃ s : State, ∃ rd : Nat, ∃ rs1 : Nat, ∃ rs2 : Nat, ∃ lo : Word, ∃ hi : Word, s.Fetches (fetched s) ∧ (let u := fetched s; rd < 24 ∧ rd % 2 = 0 ∧ 2 ≤ rd ∧ rs1 < 24 ∧ (let a := u.r rs1; rs2 < 24 ∧ (let b := u.r rs2; (lo.toNat : Int) + 2 ^ 32 * hi.toInt = a.toInt * b.toInt)))) ∧
    (∃ s : State, ∃ rd : Nat, ∃ rs1 : Nat, ∃ rs2 : Nat, ∃ lo : Word, ∃ hi : Word, s.Fetches (fetched s) ∧ (let u := fetched s; rd < 24 ∧ rd % 2 = 0 ∧ 2 ≤ rd ∧ rs1 < 24 ∧ (let a := u.r rs1; rs2 < 24 ∧ (let b := u.r rs2; lo.toNat + 2 ^ 32 * hi.toNat = a.toNat * b.toNat)))) ∧
    (∃ s : State, ∃ rd : Nat, ∃ rs1 : Nat, ∃ rs2 : Nat, s.Fetches (fetched s) ∧ (let u := fetched s; rd < 24 ∧ rd % 2 = 0 ∧ 2 ≤ rd ∧ (let hi := (u.r (rd + 1)).toNat; rs1 < 24 ∧ rs2 < 24 ∧ (let b := u.r rs2; b ≠ 0 ∧ hi < b.toNat)))) ∧
    (∃ s : State, ∃ rd : Nat, ∃ rs1 : Nat, ∃ rs2 : Nat, s.Fetches (fetched s) ∧ (let u := fetched s; rd < 24 ∧ rd % 2 = 0 ∧ 2 ≤ rd ∧ (let hi := (u.r (rd + 1)).toNat; rs1 < 24 ∧ rs2 < 24 ∧ (let b := u.r rs2; b ≠ 0 ∧ b.toNat ≤ hi)))) ∧
    (∃ s : State, ∃ rd : Nat, ∃ rs1 : Nat, ∃ rs2 : Nat, s.Fetches (fetched s) ∧ (let u := fetched s; rd < 24 ∧ rs1 < 24 ∧ rs2 < 24 ∧ (let b := u.r rs2; b ≠ 0))) ∧
    (∃ s : State, ∃ rd : Nat, ∃ rs1 : Nat, ∃ rs2 : Nat, ∃ k, s.Fetches (fetched s) ∧ (let u := fetched s; rd < 24 ∧ rs1 < 24 ∧ (let a := u.r rs1; rs2 < 24 ∧ k ≤ 32 ∧ a.toNat < 2 ^ (32 - k) ∧ (k < 32 → 2 ^ (31 - k) ≤ a.toNat)))) :=
  ⟨⟨hmS 0x18 1, 2, 1, 1, fetches_of (by decide +kernel), by decide +kernel⟩,
   ⟨hmS 0x18 1, 2, 1, 1, 1, 0, fetches_of (by decide +kernel), by decide +kernel⟩,
   ⟨hmS 0x18 1, 2, 1, 1, 1, 0, fetches_of (by decide +kernel), by decide +kernel⟩,
   ⟨hmS 0x18 1, 2, 1, 5, fetches_of (by decide +kernel), by decide +kernel⟩,
   ⟨hmS 0x18 1, 2, 1, 1, fetches_of (by decide +kernel), by decide +kernel⟩,
   ⟨hmS 0x18 1, 2, 1, 1, fetches_of (by decide +kernel), by decide +kernel⟩,
   ⟨hmS 0x18 1, 2, 1, 1, 31, fetches_of (by decide +kernel), by decide +kernel⟩⟩

theorem test_hyps_WindowsOverlap :
    (∃ w : Nat, ∃ i : Nat, w < 8 ∧ 0 < i ∧ i < 8) ∧
    (∃ w : Nat, ∃ i : Nat, w < 8 ∧ i < 8) ∧
    (∃ w : Nat, ∃ i : Nat, w < 8 ∧ i < 4) ∧
    (∃ h : Hm, ∃ w : Nat, ∃ i : Nat, h.h.length = 32 ∧ w < 8 ∧ i < 4) :=
  ⟨⟨0, 1, by decide +kernel⟩,
   ⟨0, 0, by decide +kernel⟩,
   ⟨0, 0, by decide +kernel⟩,
   ⟨(hmS 0x18 1).hm, 0, 0, by decide +kernel⟩⟩

theorem test_hyps_HmTrapsAndInterruptsEnter :
    (∃ s : State, s.Fetches (fetched s)) ∧
    (∃ s : State, ∃ rd : Nat, s.Fetches (fetched s) ∧ 24 ≤ rd) ∧
    (∃ s : State, ∃ rd : Nat, ∃ rs1, ∃ rs2, s.Fetches (fetched s) ∧ rd < 24 ∧ (rd % 2 = 1 ∨ rd = 0) ∧ rs1 < 24 ∧ rs2 < 24) ∧
    (∃ s : State, ∃ rd : Nat, ∃ rs1, ∃ rs2, s.Fetches (fetched s) ∧ (let u := fetched s; rd < 24 ∧ rs1 < 24 ∧ rs2 < 24 ∧ u.r rs2 = 0)) ∧
    (∃ s : State, ∃ op : HmMemOp, ∃ rd : Nat, ∃ rs1, ∃ imm, s.Fetches (fetched s) ∧ (let u := fetched s; rd < 24 ∧ rs1 < 24 ∧ (u.r rs1 + imm).toNat % HmMemOp.size op ≠ 0)) ∧
    (∃ s : State, s.Fetches (fetched s) ∧ (let u := fetched s; u.hm.et = true)) ∧
    (∃ s : State, ∃ rd : Nat, ∃ rs1, ∃ imm : BitVec 10, s.Fetches (fetched s) ∧ (let u := fetched s; u.hm.wvm.getLsbD ((bits u.hm.hsr 2 0 + 6) % 8) = true ∧ rd < 24 ∧ rs1 < 24 ∧ (imm.getLsbD 9 = true ∨ imm.toNat % 32 < 24))) ∧
    (∃ s : State, ∃ rd : Nat, ∃ rs1, ∃ imm : BitVec 10, s.Fetches (fetched s) ∧ (let u := fetched s; u.hm.wvm.getLsbD ((bits u.hm.hsr 2 0 + 1) % 8) = false ∧ rd < 24 ∧ rs1 < 24 ∧ (imm.getLsbD 9 = true ∨ imm.toNat % 32 < 24))) ∧
    (∃ s : State, s.hmRuns = true ∧ s.dbg.halted = false ∧ s.hm.et = true ∧ (s.qualifies).isSome = true) ∧
    (∃ s : State, s.hmRuns = true ∧ s.dbg.halted = false ∧ s.hm.et = false ∧ (s.qualifies).isSome = true) :=
  ⟨⟨hmS 0x18 1, fetches_of (by decide +kernel)⟩,
   ⟨hmS 0x18 1, 24, fetches_of (by decide +kernel), by decide +kernel⟩,
   ⟨hmS 0x18 1, 3, 7, 0, fetches_of (by decide +kernel), by decide +kernel⟩,
   ⟨hmS 0x18 1, 3, 7, 0, fetches_of (by decide +kernel), by decide +kernel⟩,
   ⟨hmS 0x18 1, .load16u, 3, 7, 1, fetches_of (by decide +kernel), by decide +kernel⟩,
   ⟨hmS 0x18 1, fetches_of (by decide +kernel), by decide +kernel⟩,
   ⟨hmS 0x18 0x40, 3, 7, 1, fetches_of (by decide +kernel), by decide +kernel⟩,
   ⟨hmS 0x18 1, 3, 7, 1, fetches_of (by decide +kernel), by decide +kernel⟩,
   ⟨((hmS 0x18 1).setReg Reg.intcSoft 1).setReg (Reg.intcLevel + 28) 9, by decide +kernel⟩,
   ⟨((hmS 0x10 1).setReg Reg.intcSoft 1).setReg (Reg.intcLevel + 28) 9, by decide +kernel⟩⟩

theorem test_hyps_HmSystemInstructionsComplete :
    (∃ s : State, ∃ rd, ∃ rs1, ∃ imm : BitVec 10, s.Fetches (fetched s) ∧ (let u := fetched s; (let c := bits u.hm.hsr 2 0; u.hm.wvm.getLsbD ((c + 6) % 8) = false ∧ rd < 24 ∧ rs1 < 24 ∧ (imm.getLsbD 9 = true ∨ imm.toNat % 32 < 24)))) ∧
    (∃ s : State, ∃ rd, ∃ rs1, ∃ imm : BitVec 10, s.Fetches (fetched s) ∧ (let u := fetched s; (let c := bits u.hm.hsr 2 0; u.hm.wvm.getLsbD ((c + 1) % 8) = true ∧ rd < 24 ∧ rs1 < 24 ∧ (imm.getLsbD 9 = true ∨ imm.toNat % 32 < 24)))) ∧
    (∃ s : State, ∃ b, s.Fetches (fetched s) ∧ (let u := fetched s; (let c := bits u.hm.hsr 2 0; (let w := (c + b % 8) % 8; (u.hm.et = true → u.hm.wvm.getLsbD ((c + 7) % 8) = false → w ≠ (c + 7) % 8))))) ∧
    (∃ s : State, ∃ b, s.Fetches (fetched s) ∧ (let u := fetched s; (let c := bits u.hm.hsr 2 0; (let w := (c + b % 8) % 8; (w = c → u.hm.wvm.getLsbD c = false))))) ∧
    (∃ s : State, ∃ rd, ∃ i, s.Fetches (fetched s) ∧ rd < 24 ∧ i < 16) ∧
    (∃ s : State, ∃ rs, s.Fetches (fetched s) ∧ rs < 24) ∧
    (∃ s : State, s.Fetches (fetched s) ∧ (let u := fetched s; u.hm.et = true)) ∧
    (∃ s : State, s.Fetches (fetched s) ∧ (let u := fetched s; u.hm.et = false)) :=
  ⟨⟨hmS 0x18 1, 3, 7, 0, fetches_of (by decide +kernel), by decide +kernel⟩,
   ⟨hmS 0x18 2, 3, 7, 0, fetches_of (by decide +kernel), by decide +kernel⟩,
   ⟨hmS 0x18 1, 0, fetches_of (by decide +kernel), by decide +kernel⟩,
   ⟨hmS 0x18 1, 1, fetches_of (by decide +kernel), by decide +kernel⟩,
   ⟨hmS 0x18 1, 3, 0, fetches_of (by decide +kernel), by decide +kernel⟩,
   ⟨hmS 0x18 1, 0, fetches_of (by decide +kernel), by decide +kernel⟩,
   ⟨hmS 0x18 1, fetches_of (by decide +kernel), by decide +kernel⟩,
   ⟨hmS 0x10 1, fetches_of (by decide +kernel), by decide +kernel⟩⟩

theorem test_hyps_HmMemoryInstructionsComplete :
    (∃ s : State, ∃ op : HmMemOp, ∃ rd : Nat, ∃ rs1 : Nat, ∃ imm : Word, s.Fetches (fetched s) ∧ (let u := fetched s; (op = .load8s ∨ op = .load8u ∨ op = .load16s ∨ op = .load16u ∨ op = .load32) ∧ (let n := HmMemOp.size op; rd < 24 ∧ rs1 < 24 ∧ (let a := (u.r rs1 + imm).toNat; a % n = 0 ∧ (let t := u.dataRead a n; t.bus.status = .ok))))) ∧
    (∃ s : State, ∃ op : HmMemOp, ∃ rd : Nat, ∃ rs1 : Nat, ∃ imm : Word, s.Fetches (fetched s) ∧ (let u := fetched s; (op = .store8 ∨ op = .store16 ∨ op = .store32) ∧ (let n := HmMemOp.size op; rd < 24 ∧ rs1 < 24 ∧ (let a := (u.r rs1 + imm).toNat; a % n = 0 ∧ (let t := u.dataWrite a (leBytes n (u.r rd).toNat); t.bus.status = .ok))))) ∧
    (∃ s : State, ∃ rs : Nat, ∃ b : Nat, s.Fetches (fetched s) ∧ (let u := fetched s; rs < 24 ∧ (let a := (u.r rs).toNat; a % 4 = 0 ∧ b % 8 ≠ 0 ∧ (let w := (bits u.hm.hsr 2 0 + b) % 8; ∃ t ∈ some (u.storeWords a ((List.range 8).map (fun i => u.hm.regIn w (16 + i)) ++ (List.range 4).map (fun i => u.hm.regIn w (8 + i)))).1, (u.storeWords a ((List.range 8).map (fun i => u.hm.regIn w (16 + i)) ++ (List.range 4).map (fun i => u.hm.regIn w (8 + i)))).2 = none ∧ True)))) ∧
    (∃ s : State, ∃ rs : Nat, ∃ b : Nat, s.Fetches (fetched s) ∧ (let u := fetched s; rs < 24 ∧ (let a := (u.r rs).toNat; a % 4 = 0 ∧ ∃ t ∈ some (u.loadWords a 12 []).1, (u.loadWords a 12 []).2.1 = none ∧ ∃ l ∈ some (u.loadWords a 12 []).2.2, b % 8 ≠ 0))) ∧
    (∃ s : State, ∃ rs : Nat, ∃ imm : BitVec 10, s.Fetches (fetched s) ∧ (let u := fetched s; rs < 24 ∧ (let line := (u.r rs + imm.setWidth 32).toNat / 32 * 32; (let t := u.writeBack line; t.bus.status = .ok)))) ∧
    (∃ s : State, ∃ rd : Nat, ∃ rs1 : Nat, ∃ imm : Word, s.Fetches (fetched s) ∧ (let u := fetched s; rd < 24 ∧ rs1 < 24 ∧ (u.r rs1 + imm).toNat % 4 = 0)) :=
  ⟨⟨hmS 0x18 1, .load8s, 23, 7, 0, fetches_of (by decide +kernel), by decide +kernel⟩,
   ⟨hmS 0x18 1, .store8, 23, 7, 0, fetches_of (by decide +kernel), by decide +kernel⟩,
   ⟨hmS 0x18 1, 7, 3, fetches_of (by decide +kernel), by decide +kernel⟩,
   ⟨hmS 0x18 1, 7, 3, fetches_of (by decide +kernel), by decide +kernel⟩,
   ⟨hmS 0x18 1, 7, 0, fetches_of (by decide +kernel), by decide +kernel⟩,
   ⟨hmS 0x18 1, 23, 7, 0, fetches_of (by decide +kernel), by decide +kernel⟩⟩

theorem test_hyps_FpArithmeticCompletes :
    (∃ s : State, ∃ fd : Nat, ∃ fs1 : Nat, ∃ fs2 : Nat, ∃ rm : Nat, s.Issues (issued s [fs1 % 32, fs2 % 32, fd % 32] false) [fs1 % 32, fs2 % 32, fd % 32] false ∧ rm % 8 < 6) ∧
    (∃ s : State, ∃ fd : Nat, ∃ fs1 : Nat, ∃ fs2 : Nat, ∃ rm : Nat, s.Issues (issued s [fs1 % 32, fs2 % 32, fd % 32] true) [fs1 % 32, fs2 % 32, fd % 32] true ∧ rm % 8 < 6) ∧
    (∃ s : State, ∃ fd : Nat, ∃ fs1 : Nat, ∃ rm : Nat, s.Issues (issued s [fs1 % 32, fd % 32] true) [fs1 % 32, fd % 32] true ∧ rm % 8 < 6) ∧
    (∃ s : State, ∃ fd : Nat, ∃ fs1 : Nat, ∃ rm : Nat, s.Issues (issued s [fd % 32] false) [fd % 32] false ∧ fs1 < 24 ∧ rm % 8 < 6) ∧
    (∃ s : State, ∃ fd : Nat, ∃ fs1 : Nat, ∃ rm : Nat, s.Issues (issued s [fs1 % 32, fd % 32] false) [fs1 % 32, fd % 32] false ∧ rm % 8 < 6) ∧
    (∃ s : State, ∃ fmt : FpFmt, ∃ fd : Nat, ∃ fs1 : Nat, ∃ fs2 : Nat, ∃ rm : Nat, s.Issues (issued s [fs1 % 32, fs2 % 32, fd % 32] false) [fs1 % 32, fs2 % 32, fd % 32] false) ∧
    (∃ s : State, ∃ fmt : FpFmt, ∃ fd : Nat, ∃ fs1 : Nat, ∃ rm : Nat, s.Issues (issued s [fs1 % 32, fs1 % 32, fd % 32] false) [fs1 % 32, fs1 % 32, fd % 32] false) ∧
    (∃ s : State, ∃ fmt : FpFmt, ∃ fd : Nat, ∃ fs1 : Nat, ∃ fs2 : Nat, ∃ rm : Nat, s.Issues (issued s [fd % 32] false) [fd % 32] false ∧ fs1 < 24 ∧ (fmt = .d → fs2 < 24)) :=
  ⟨⟨hmS 0x18 1, 31, 23, 31, 5, issues_of (by decide +kernel), by decide +kernel⟩,
   ⟨hmS 0x18 1, 31, 23, 31, 5, issues_of (by decide +kernel), by decide +kernel⟩,
   ⟨hmS 0x18 1, 31, 23, 5, issues_of (by decide +kernel), by decide +kernel⟩,
   ⟨hmS 0x18 1, 31, 23, 5, issues_of (by decide +kernel), by decide +kernel⟩,
   ⟨hmS 0x18 1, 31, 23, 5, issues_of (by decide +kernel), by decide +kernel⟩,
   ⟨hmS 0x18 1, .s, 31, 23, 31, 5, issues_of (by decide +kernel)⟩,
   ⟨hmS 0x18 1, .s, 31, 23, 5, issues_of (by decide +kernel)⟩,
   ⟨hmS 0x18 1, .s, 31, 23, 31, 5, issues_of (by decide +kernel), by decide +kernel⟩⟩

theorem test_hyps_FpMovesAndStateComplete :
    (∃ s : State, ∃ rd : Nat, ∃ fs1 : Nat, ∃ fs2 : Nat, ∃ rm : Nat, s.Issues (issued s [fs1 % 32, fs2 % 32] false) [fs1 % 32, fs2 % 32] false ∧ rd < 24 ∧ rm % 8 < 6) ∧
    (∃ s : State, ∃ rd : Nat, ∃ fs1 : Nat, ∃ fs2 : Nat, ∃ rm : Nat, s.Issues (issued s [fs1 % 32, fs1 % 32] false) [fs1 % 32, fs1 % 32] false ∧ rd < 24 ∧ rm % 8 < 6) ∧
    (∃ s : State, ∃ rd : Nat, ∃ fs1 : Nat, ∃ rm : Nat, s.Issues (issued s [fs1 % 32] false) [fs1 % 32] false ∧ rd < 24) ∧
    (∃ s : State, ∃ rd : Nat, ∃ rm : Nat, ∃ f : Nat, ∃ rs : Nat, ∃ imm : Word, s.Issues (issued s [f % 32] false) [f % 32] false ∧ rd < 24 ∧ (let t := issued s [f % 32] false; rs < 24 ∧ (let a := (t.r rs + imm).toNat; a % 4 = 0 ∧ (let u := t.dataRead a 4; u.bus.status = .ok)))) ∧
    (∃ s : State, ∃ rd : Nat, ∃ rm : Nat, ∃ f : Nat, ∃ rs : Nat, ∃ imm : Word, s.Issues (issued s [f % 32] false) [f % 32] false ∧ rd < 24 ∧ (let t := issued s [f % 32] false; rs < 24 ∧ (let a := (t.r rs + imm).toNat; a % 8 = 0 ∧ (let u := t.dataRead a 8; u.bus.status = .ok)))) ∧
    (∃ s : State, ∃ rd : Nat, ∃ rm : Nat, ∃ f : Nat, ∃ rs : Nat, ∃ imm : Word, s.Issues (issued s [f % 32] false) [f % 32] false ∧ rd < 24 ∧ (let t := issued s [f % 32] false; rs < 24 ∧ (let a := (t.r rs + imm).toNat; a % 4 = 0 ∧ (let u := t.dataWrite a (leBytes 4 (t.f f)); u.bus.status = .ok)))) ∧
    (∃ s : State, ∃ rd : Nat, ∃ rm : Nat, ∃ f : Nat, ∃ rs : Nat, ∃ imm : Word, s.Issues (issued s [f % 32] false) [f % 32] false ∧ rd < 24 ∧ (let t := issued s [f % 32] false; rs < 24 ∧ (let a := (t.r rs + imm).toNat; a % 8 = 0 ∧ (let u := t.dataWrite a (leBytes 8 (t.f f)); u.bus.status = .ok)))) ∧
    (∃ s : State, ∃ t : State, ∃ rd : Nat, ∃ rm : Nat, s.Fetches (fetched s) ∧ (let u := fetched s; u.hm.completeAll.fq = [] ∧ rd < 24)) ∧
    (∃ s : State, ∃ t : State, ∃ rd : Nat, ∃ rm : Nat, s.Fetches (fetched s) ∧ (let u := fetched s; bit u.hm.hsr 4 = true ∧ u.hm.fq.length ≤ 4 ∧ rd < 24)) ∧
    (∃ s : State, ∃ t : State, ∃ rd : Nat, ∃ rm : Nat, ∃ rs : Nat, ∃ imm : BitVec 10, s.Fetches (fetched s) ∧ (let u := fetched s; bit u.hm.hsr 4 = true ∧ rd < 24 ∧ rs < 24)) ∧
    (∃ s : State, ∃ t : State, ∃ rd : Nat, ∃ rm : Nat, ∃ code : Nat, s.Fetches (fetched s) ∧ (let u := fetched s; bit u.hm.hsr 4 = true ∧ u.hm.fq = [] ∧ rd < 24 ∧ code < 4)) ∧
    (∃ s : State, ∃ t : State, ∃ rd : Nat, ∃ rm : Nat, ∃ code : Nat, s.Fetches (fetched s) ∧ (let u := fetched s; bit u.hm.hsr 4 = true ∧ u.hm.fq ≠ [] ∧ rd < 24 ∧ code < 4 ∧ code < 3)) ∧
    (∃ s : State, ∃ t : State, ∃ rd : Nat, ∃ rm : Nat, s.Fetches (fetched s) ∧ (let code := 3; code < 4 ∧ (let u := fetched s; bit u.hm.hsr 4 = true ∧ u.hm.fq ≠ [] ∧ rd < 24))) ∧
    (∃ s : State, ∃ t : State, ∃ rd : Nat, ∃ rm : Nat, s.boot.held = false ∧ ∃ op ∈ s.hm.flight.head?, op.exc < 32 ∧ rd < 24) :=
  ⟨⟨hmS 0x18 1, 23, 31, 31, 5, issues_of (by decide +kernel), by decide +kernel⟩,
   ⟨hmS 0x18 1, 23, 31, 31, 5, issues_of (by decide +kernel), by decide +kernel⟩,
   ⟨hmS 0x18 1, 23, 31, 5, issues_of (by decide +kernel), by decide +kernel⟩,
   ⟨hmS 0x18 1, 23, 5, 31, 7, 0, issues_of (by decide +kernel), by decide +kernel⟩,
   ⟨hmS 0x18 1, 23, 5, 31, 7, 0, issues_of (by decide +kernel), by decide +kernel⟩,
   ⟨hmS 0x18 1, 23, 5, 31, 7, 0, issues_of (by decide +kernel), by decide +kernel⟩,
   ⟨hmS 0x18 1, 23, 5, 31, 7, 0, issues_of (by decide +kernel), by decide +kernel⟩,
   ⟨hmS 0x18 1, up, 23, 5, fetches_of (by decide +kernel), by decide +kernel⟩,
   ⟨hmS 0x18 1, up, 23, 5, fetches_of (by decide +kernel), by decide +kernel⟩,
   ⟨hmS 0x18 1, up, 23, 5, 7, 0, fetches_of (by decide +kernel), by decide +kernel⟩,
   ⟨hmS 0x18 1, up, 23, 5, 2, fetches_of (by decide +kernel), by decide +kernel⟩,
   ⟨{ hmS 0x18 1 with hm := { (hmS 0x18 1).hm with fq := [⟨4,5,6⟩, ⟨7,8,9⟩] } }, up, 23, 5, 2, fetches_of (by decide +kernel), by decide +kernel⟩,
   ⟨{ hmS 0x18 1 with hm := { (hmS 0x18 1).hm with fq := [⟨4,5,6⟩, ⟨7,8,9⟩] } }, up, 23, 5, fetches_of (by decide +kernel), by decide +kernel⟩,
   ⟨{ hmS 0x18 1 with hm := { (hmS 0x18 1).hm with flight := [⟨4,5,some 3,false,0x11⟩] } }, up, 23, 5, by decide +kernel⟩⟩

theorem test_hyps_SlipwayCompletes :
    (∃ s : State, s.PortFree ∧ s.warning = false ∧ s.slip.applying = none ∧ s.ebbNow = true ∧ s.slip.applyArmed = true ∧ (s.slip.waiting).isSome = true) ∧
    (∃ s : State, s.PortFree ∧ (let good := true; ∃ w ∈ s.slip.applying, w.notify = none ∧ (good = (w.image.length == u32 w.image 16 && (badBlock w.image 0 (blocksIn w.image.length)).isNone)))) ∧
    (∃ s : State, s.PortFree ∧ (let good := false; ∃ w ∈ s.slip.applying, w.notify = none ∧ (good = (w.image.length == u32 w.image 16 && (badBlock w.image 0 (blocksIn w.image.length)).isNone)))) ∧
    (∃ s : State, ∃ who, s.PortFree ∧ s.Opens who Reg.slipctlApply ∧ s.slip.applying = none ∧ s.slip.waiting = none) ∧
    (∃ s : State, ∃ who, s.PortFree ∧ s.Reaches who Reg.slipctlCapture) ∧
    (∃ s : State, ∃ c : BitVec 2, s.PortFree ∧ s.fld Reg.slipctlStatus 1 0 = 1 ∧ s.slip.captureArmed = some c.toNat ∧ s.lostClocks.testBit (8 + c.toNat) = false) ∧
    (∃ s : State, ∃ who, s.PortFree ∧ s.Reaches who Reg.slipctlShadowData ∧ (s.slip.shadow).isSome = true ∧ (let a := s.fld Reg.slipctlShadowAddr 15 0; 4 * a < shadowBytes)) ∧
    (∃ s : State, ∃ n : Nat, ∃ words : List DWord, s.PortFree ∧ s.portHolder = none ∧ n < 24 ∧ s.qcCut n = false ∧ s.qcLive n = true ∧ s.qcSize n ≠ 0 ∧ (let a := Reg.slipctlQcCfg + 16 * n; s.fld a 1 0 = 1 ∧ s.rbit a 2 = false ∧ words.length ≤ 16)) ∧
    (∃ s : State, ∃ n : Nat, ∃ words : List DWord, s.PortFree ∧ s.portHolder = none ∧ n < 24 ∧ s.qcCut n = false ∧ s.qcLive n = true ∧ s.qcSize n ≠ 0 ∧ (let a := Reg.slipctlQcCfg + 16 * n; s.fld a 1 0 = 1 ∧ s.rbit a 2 = true ∧ words.length ≤ 16)) ∧
    (∃ s : State, ∃ n : Nat, ∃ off : Nat, ∃ lock : Bool, ∃ p : PortUse, s.PortFree ∧ n < 24 ∧ (s.portHolder = none ∨ s.portHolder = some n) ∧ s.qcLive n = true ∧ (let a := Reg.slipctlQcCfg + 16 * n; s.fld a 1 0 = 3 ∧ off / 8 * 8 + 8 ≤ s.qcSize n ∧ (let c := qcAddr (s.qcBase n + off / 8 * 8); (lock = true → (s.qc n).locked < 16) ∧ p.write = true ∧ p.addr = c ∧ p.data.length = 8))) ∧
    (∃ s : State, ∃ n : Nat, s.PortFree ∧ ∃ m ∈ s.portHolder, n < 24 ∧ m ≠ n) ∧
    (∃ s : State, ∃ n : Nat, ∃ v : Nat, s.PortFree ∧ n < 24 ∧ v < 4 ∧ s.presents v = true ∧ (s.vst v).present = true) ∧
    (∃ s : State, ∃ n : Nat, ∃ b, s.PortFree ∧ n < 24 ∧ b < 2) ∧
    (∃ s : State, ∃ n : Nat, ∃ l, s.PortFree ∧ n < 24 ∧ l < 12) ∧
    (∃ s : State, ∃ n : Nat, ∃ who, ∃ off : Nat, s.PortFree ∧ s.windowOpen = true ∧ n < 24 ∧ s.silent who = false ∧ who.master < 3 ∧ s.masterFenced who.master 5 = false ∧ off < 0x1000000) ∧
    (∃ s : State, ∃ n : Nat, s.PortFree ∧ s.windowOpen = true ∧ n < 24) :=
  ⟨⟨withSlip (fun x => { x with waiting := some ⟨bare, false, none⟩, applyArmed := true }) rich, portFree_of (by decide +kernel), by decide +kernel⟩,
   ⟨withSlip (fun x => { x with applying := some ⟨bare, false, none⟩ }) rich, portFree_of (by decide +kernel), by decide +kernel⟩,
   ⟨withSlip (fun x => { x with applying := some ⟨hdr, false, none⟩ }) rich, portFree_of (by decide +kernel), by decide +kernel⟩,
   ⟨openGuards 1 0 up, ⟨1,0⟩, portFree_of (by decide +kernel), opens_of (by decide +kernel), by decide +kernel⟩,
   ⟨slipRun 1 0, ⟨1,0⟩, portFree_of (by decide +kernel), reaches_of (by decide +kernel)⟩,
   ⟨withSlip (fun x => { x with captureArmed := some 2 }) (slipRun 1 0), 2, portFree_of (by decide +kernel), by decide +kernel⟩,
   ⟨slipRun 1 0, ⟨1,0⟩, portFree_of (by decide +kernel), reaches_of (by decide +kernel), by decide +kernel⟩,
   ⟨slipRun 1 0, 0, [], portFree_of (by decide +kernel), by decide +kernel⟩,
   ⟨slipRun 1 1, 0, [], portFree_of (by decide +kernel), by decide +kernel⟩,
   ⟨slipRun 3 0, 0, 0, true, ⟨true, 0x22140000, [1,2,3,4,5,6,7,8], false⟩, portFree_of (by decide +kernel), by decide +kernel⟩,
   ⟨withSlip (fun x => { x with qcs := [(1, { locked := 2 })] }) (slipRun 3 0), 23, portFree_of (by decide +kernel), by decide +kernel⟩,
   ⟨withSlip (fun x => { x with vs := [(0, { present := true })] }) (slipRun 1 0), 23, 0, portFree_of (by decide +kernel), by decide +kernel⟩,
   ⟨slipRun 1 0, 23, 0, portFree_of (by decide +kernel), by decide +kernel⟩,
   ⟨slipRun 1 0, 23, 0, portFree_of (by decide +kernel), by decide +kernel⟩,
   ⟨slipRun 1 0, 23, ⟨1,0⟩, 0, portFree_of (by decide +kernel), by decide +kernel⟩,
   ⟨slipRun 1 0, 23, portFree_of (by decide +kernel), by decide +kernel⟩⟩

theorem test_hyps_SerialStationsComplete :
    (∃ s : State, ∃ n : Nat, n < 8 ∧ s.uartServes n 1 = true ∧ (s.uart n).inFlight = none ∧ ((s.uart n).writes) ≠ []) ∧
    (∃ s : State, ∃ n : Nat, n < 8 ∧ s.uartServes n 1 = true ∧ (s.uart n).inFlight = none ∧ (s.uart n).writes = [] ∧ (let c := (s.station (112 + n)).config; ((readPolls c)[(s.uart n).nextRead % (readPolls c).length]?).isSome = true)) ∧
    (∃ s : State, ∃ n : Nat, ∃ f : Bytes, n < 8 ∧ s.uartServes n 1 = true ∧ (let c := (s.station (112 + n)).config; ∃ x ∈ ((s.uart n).inFlight), modbusOk c x f = true)) ∧
    (∃ s : State, ∃ n : Nat, ∃ f : Bytes, n < 8 ∧ s.uartServes n 1 = true ∧ (let c := (s.station (112 + n)).config; ∃ x ∈ ((s.uart n).inFlight), modbusOk c x f = false)) ∧
    (∃ s : State, ∃ n : Nat, ∃ b : Bytes, n < 8 ∧ s.uartServes n 2 = true ∧ (b.length < 3 ∨ 82 < b.length ∨ b.headD 0 ≠ 36)) ∧
    (∃ s : State, ∃ n : Nat, ∃ b : Bytes, n < 8 ∧ s.uartServes n 2 = true ∧ (let c := (s.station (112 + n)).config; ∃ body ∈ (nmeaBody b), ∃ fields ∈ (nmeaFields body), (stationPoints (112 + n) c).any (fun x => fields.headD [] == slice c (x.2.2 + 4) 5) = true)) ∧
    (∃ s : State, ∃ n : Nat, ∃ id : Nat, ∃ p : Nat, n < 8 ∧ 112 ≤ id ∧ id < 124 ∧ p ∈ inPoints id (s.station id).config) :=
  ⟨⟨uartS modbusC 3 { writes := [(1, 0, 2)] }, 0, by decide +kernel⟩,
   ⟨uartS modbusC 3 {}, 0, by decide +kernel⟩,
   ⟨uartS modbusC 3 { inFlight := some (0, 0, 2) }, 0, withCrc16 [7, 3, 4, 1, 2, 3, 4], by decide +kernel⟩,
   ⟨uartS modbusC 3 { inFlight := some (0, 0, 2) }, 0, [], by decide +kernel⟩,
   ⟨uartS nmeaC 5 {}, 0, [], by decide +kernel⟩,
   ⟨uartS nmeaC 5 {}, 0, nmeaLine, by decide +kernel⟩,
   ⟨uartS modbusC 3 { writes := [(1, 0, 2)] }, 0, 112, 1, by decide +kernel⟩⟩

theorem test_hyps_CanAndFlashComplete :
    (∃ s : State, ∃ n : Nat, n < 4 ∧ s.canServes n = true ∧ s.rbit (Reg.canCtrl + 256 * n) 1 = false ∧ ((s.canPort n).txQueue) ≠ []) ∧
    (∃ s : State, ∃ n : Nat, ∃ i : Nat, ∃ x : Bool, n < 4 ∧ s.canServes n = true ∧ (stationPoints (120 + n) (s.station (120 + n)).config).any (fun p => !p.2.1 && u32 (s.station (120 + n)).config p.2.2 % 2 ^ 29 == i && (u32 (s.station (120 + n)).config p.2.2).testBit 29 == x) = true) ∧
    (∃ s : State, ∃ n : Nat, n < 4 ∧ s.rbit (Reg.canCtrl + 256 * n) 2 = true) ∧
    (∃ s : State, ∃ n : Nat, ∃ a : Nat, s.rbit Reg.qspiCtrl 7 = true ∧ s.flash.task = none ∧ n < 4 ∧ s.flash.ops = [.erase a]) ∧
    (∃ s : State, ∃ n : Nat, ∃ a : Nat, ∃ d : Bytes, s.rbit Reg.qspiCtrl 7 = true ∧ s.flash.task = none ∧ n < 4 ∧ s.flash.ops = [.program a d]) :=
  ⟨⟨canS 1, 0, by decide +kernel⟩,
   ⟨canS 1, 0, 0x123, false, by decide +kernel⟩,
   ⟨canS 4, 0, by decide +kernel⟩,
   ⟨flashS (.erase 65536), 0, 65536, by decide +kernel⟩,
   ⟨flashS (.program 256 [1, 2]), 0, 256, [1, 2], by decide +kernel⟩⟩

theorem test_hyps_ScrubbingCompletes :
    (∃ s : State, s.sliceMay = true ∧ s.windowWaits = false ∧ s.plain.rewrite = [] ∧ s.rbit Reg.scrubCtrl 0 = true ∧ (s.plain.repair ≠ [] ∨ s.wc.running = false ∨ s.slicesDone < s.fld Reg.scrubPlainCfg 3 0)) ∧
    (∃ s : State, s.sliceMay = true ∧ s.windowWaits = false ∧ s.plain.rewrite = [] ∧ s.rbit Reg.scrubCtrl 0 = false ∧ s.quay.jobs = false ∧ s.wc.checkPosted = false) ∧
    (∃ s : State, s.sliceMay = true ∧ s.rbit Reg.scrubCtrl 0 = true) ∧
    (∃ s : State, ∃ b : Nat, s.domainFenced 11 = false ∧ s.scrub.basinPos.length = 5 ∧ b < 5 ∧ s.rbit Reg.scrubCtrl (1 + b) = true ∧ s.basinState b = 0 ∧ (let off := s.scrub.basinPos.getD b 0; Store.find? s.memErr (basinBase b + off) = none)) ∧
    (∃ s : State, ∃ b : Nat, s.domainFenced 11 = false ∧ s.scrub.basinPos.length = 5 ∧ b < 5 ∧ s.rbit Reg.scrubCtrl (1 + b) = true ∧ s.basinState b = 0 ∧ (let off := s.scrub.basinPos.getD b 0; Store.find? s.memErr (basinBase b + off) = some 1)) ∧
    (∃ s : State, ∃ b : Nat, s.domainFenced 11 = false ∧ s.scrub.basinPos.length = 5 ∧ b < 5 ∧ s.rbit Reg.scrubCtrl (1 + b) = true ∧ s.basinState b = 0 ∧ (let off := s.scrub.basinPos.getD b 0; Store.find? s.memErr (basinBase b + off) = some 2)) :=
  ⟨⟨up.setReg Reg.scrubCtrl 0x7F, by decide +kernel⟩,
   ⟨up, by decide +kernel⟩,
   ⟨up.setReg Reg.scrubCtrl 0x7F, by decide +kernel⟩,
   ⟨up.setReg Reg.scrubCtrl 0x7F, 0, by decide +kernel⟩,
   ⟨{ (up.setReg Reg.scrubCtrl 0x7F).setReg Reg.basinctlPwrStatus 0 with memErr := [(0x20000000, 1)] }, 0, by decide +kernel⟩,
   ⟨{ (up.setReg Reg.scrubCtrl 0x7F).setReg Reg.basinctlPwrStatus 0 with memErr := [(0x20000000, 2)] }, 0, by decide +kernel⟩⟩

theorem test_hyps_TelemetryTrimAndJournalComplete :
    (∃ s : State, s.stepMay = true ∧ s.wc.running = true ∧ s.wc.lastOutcome = .committed ∧ s.omx.sessions = []) ∧
    (∃ s : State, s.stepMay = true ∧ s.wc.running = true ∧ s.pausedWork = true) ∧
    (∃ s : State, s.stepMay = true ∧ s.wc.running = true ∧ s.pausedWork = false ∧ s.wc.lastOutcome = .committed) ∧
    (∃ s : State, ∃ n, s.stepMay = true ∧ s.wc.running = true ∧ s.pausedWork = false ∧ (Store.find? s.chans n).isSome = true ∧ ∃ h ∈ (Store.find? s.trims n), 256 ≤ h.u.length) ∧
    (∃ s : State, s.stepMay = true ∧ s.wear = [] ∧ 8 ≤ s.journal.buffer.length) ∧
    (∃ s : State, s.stepMay = true ∧ s.wear = [] ∧ s.journal.buffer.length < 8 ∧ (∀ u, s.journal.firstUs = some u → s.nowUs < u + 60000000)) ∧
    (∃ s : State, s.stepMay = true ∧ s.pausedWork = false ∧ s.journal.freeSectors < 4 ∧ s.flash.ops = []) :=
  ⟨⟨run0 { up with omx := { up.omx with sessions := [] } }, by decide +kernel⟩,
   ⟨(run0 up).setRbit Reg.supmonStatus 0 true, by decide +kernel⟩,
   ⟨run0 up, by decide +kernel⟩,
   ⟨{ run0 rich with trims := [(2, { collector := 0, u := List.replicate 256 3, y := List.replicate 256 5 })] }, 2, by decide +kernel⟩,
   ⟨{ up with journal := { up.journal with buffer := List.replicate 8 (z 32) } }, by decide +kernel⟩,
   ⟨run0 up, by decide +kernel⟩,
   ⟨{ up with journal := { up.journal with freeSectors := 3 } }, by decide +kernel⟩⟩

theorem test_hyps_RotationAndCalibrationComplete :
    (∃ s : State, s.stepMay = true ∧ s.wc.running = true ∧ ∃ y_ ∈ (s.duty).head?, (s.duty).length = 1 ∧ ∃ g ∈ some y_.1, ∃ d ∈ some y_.2, d.mode ≠ 1) ∧
    (∃ s : State, s.stepMay = true ∧ s.wc.running = true ∧ s.duty = []) ∧
    (∃ s : State, ∃ g : Nat, ∃ m : List Nat, ∃ sp : List Int, ∃ d ∈ (Store.find? s.duty g), d.before = some (m, sp) ∧ s.rankUp d sp = false) ∧
    (∃ s : State, ∃ g : Nat, ∃ m : List Nat, ∃ sp : List Int, ∃ d ∈ (Store.find? s.duty g), d.before = some (m, sp) ∧ s.rankUp d sp = true) ∧
    (∃ s : State, s.stepMay = true ∧ s.wc.running = true ∧ s.pausedWork = false) ∧
    (∃ s : State, ∃ r : CalRun, s.stepMay = true ∧ s.cal.runs = [(3, r)] ∧ r.count < 63) ∧
    (∃ s : State, ∃ r : CalRun, s.stepMay = true ∧ s.cal.runs = [(3, r)] ∧ r.count = 63 ∧ r.notify = none) :=
  ⟨⟨{ run0 rich with duty := [(0, ⟨0, 60, [0x401, 0x402], 3, none⟩)] }, by decide +kernel⟩,
   ⟨run0 rich, by decide +kernel⟩,
   ⟨{ run0 rich with duty := [(0, ⟨0, 60, [0x401, 0x402], 3, some ([0x402, 0x401], [5, 7])⟩)] }, 0, [0x402, 0x401], [5, 7], by decide +kernel⟩,
   ⟨{ run0 rich with duty := [(0, ⟨0, 60, [0x401, 0x402], 3, some ([0x402, 0x401], [0, 0])⟩)] }, 0, [0x402, 0x401], [0, 0], by decide +kernel⟩,
   ⟨run0 rich, by decide +kernel⟩,
   ⟨{ rich with cal := { rich.cal with runs := [(3, { slot := 0, reference := 250, notify := none, sum := 5, count := 7 })] } }, { slot := 0, reference := 250, notify := none, sum := 5, count := 7 }, by decide +kernel⟩,
   ⟨{ rich with cal := { rich.cal with runs := [(3, { slot := 0, reference := 250, notify := none, sum := 5, count := 63 })] } }, { slot := 0, reference := 250, notify := none, sum := 5, count := 63 }, by decide +kernel⟩⟩


/-! ### Written by hand: hypotheses that rest on a free value, and the statements over a family of instructions -/

/-- CH_ARM meets its clause wherever the free cost of the limits (log entry 7) leaves room. -/
theorem test_hyps_ChannelCommandsComplete_arm (h : Config.limitsCost 3 ≤ 1000000) :
    ∃ (q : Req) (s v : State) (c : Channel), s.Admits q ∧ (s.argOf q).payload = [0, 0, 0, 0] ∧
      (s.bodyAt q).checkHandle q.pkt.handle = .ok c ∧ (c.destroying = false ∧ c.state = .bound ∧
      (namedDeps ((s.bodyAt q).latest (slotOf q.pkt.handle) c).typ ((s.bodyAt q).latest (slotOf q.pkt.handle) c).params).any
        (fun i => decide (i ≥ ((s.bodyAt q).latest (slotOf q.pkt.handle) c).deps.length)) = false) ∧
      v = ((s.bodyAt q).pend .atCycle (.arm (slotOf q.pkt.handle)) none).admitView ∧ (v.costNow : Int) ≤ v.budgetNow v.chans := by
  refine ⟨req 1029 [0, 0, 0, 0], addCh 5 (mkCh .valve .bound valveP [⟨1, 4, 7⟩]) rich, _, mkCh .valve .bound valveP [⟨1, 4, 7⟩],
    admits_of (by decide +kernel), by decide +kernel, by rfl, by decide +kernel, rfl, ?_⟩
  have e : (((addCh 5 (mkCh .valve .bound valveP [⟨1, 4, 7⟩]) rich).bodyAt (req 1029 [0, 0, 0, 0])).pend .atCycle
    (.arm (slotOf (req 1029 [0, 0, 0, 0]).pkt.handle)) none).admitView.costNow = 65226 + Config.limitsCost 3 + 445 + 0 := by rfl
  rw [e, show State.budgetNow _ _ = 6753504 by rfl]
  omega

/-- CYCLE_START, likewise. -/
theorem test_hyps_CycleCommandsComplete_start (h : Config.limitsCost 0 ≤ 1000000) :
    ∃ (q : Req) (s : State), s.Admits q ∧ (s.argOf q).payload = z 12 ∧ (s.bodyAt q).cycleOn = false ∧
      ((s.bodyAt q).admitView.costOf (s.bodyAt q).admitView.chans 1 (s.bodyAt q).admitView.modelSize (s.bodyAt q).admitView.pairs : Int) ≤
        budget (s.bodyAt q).admitView.arrMhz 20000 (gatherUs 20000 10) 1000 ((s.bodyAt q).admitView.frameBuild (s.bodyAt q).admitView.chans) := by
  refine ⟨req 0 (z 12), up, admits_of (by decide +kernel), by decide +kernel, by decide +kernel, ?_⟩
  have e : (up.bodyAt (req 0 (z 12))).admitView.costOf (up.bodyAt (req 0 (z 12))).admitView.chans 1
    (up.bodyAt (req 0 (z 12))).admitView.modelSize (up.bodyAt (req 0 (z 12))).admitView.pairs = 354 + Config.limitsCost 0 + 157 + 0 := by rfl
  have a : budget (up.bodyAt (req 0 (z 12))).admitView.arrMhz 20000 (gatherUs 20000 10) 1000
    ((up.bodyAt (req 0 (z 12))).admitView.frameBuild (up.bodyAt (req 0 (z 12))).admitView.chans) = 6755904 := by decide +kernel
  rw [e, a]
  omega

/-- MIRROR_SET and VSL_COMMIT, likewise, VSL_COMMIT with the free cost of a pass. -/
theorem test_hyps_MaintenanceCommandsComplete_mirror (h : Config.limitsCost 2 ≤ 1000000) :
    ∃ (q : Req) (s : State), s.Admits q ∧ (s.argOf q).payload = [0, 0, 0, 0] ∧
      ((s.bodyAt q).admitView.costOf (s.bodyAt q).admitView.chans (s.bodyAt q).admitView.wc.decimation (s.bodyAt q).admitView.modelSize 0 : Int) ≤
        (s.bodyAt q).admitView.budgetNow (s.bodyAt q).admitView.chans := by
  refine ⟨req 0 (z 4), rich, admits_of (by decide +kernel), by decide +kernel, ?_⟩
  have e : (rich.bodyAt (req 0 (z 4))).admitView.costOf (rich.bodyAt (req 0 (z 4))).admitView.chans (rich.bodyAt (req 0 (z 4))).admitView.wc.decimation
    (rich.bodyAt (req 0 (z 4))).admitView.modelSize 0 = 65226 + Config.limitsCost 2 + 445 + 0 := by rfl
  rw [e, show State.budgetNow _ _ = 6754704 by rfl]
  omega

theorem test_hyps_VesselCommandsComplete_commit (h : Config.limitsCost 2 ≤ 1000000) (k : Config.hydroCost 0 1 ≤ 1000000) :
    ∃ (q : Req) (s : State), s.Admits q ∧ (s.argOf q).payload = z 8 ∧ ((s.bodyAt q).ves.staging.isEmpty = false ∧
      (s.bodyAt q).modelFault (s.bodyAt q).ves.staging = none) ∧
      ((s.bodyAt q).admitView.costOf (s.bodyAt q).admitView.chans (s.bodyAt q).admitView.wc.decimation
        ((s.bodyAt q).ves.staging.tanks.length, (s.bodyAt q).ves.staging.sections.length) (s.bodyAt q).admitView.pairs : Int) ≤
        (s.bodyAt q).admitView.budgetNow (s.bodyAt q).admitView.chans := by
  refine ⟨req 0 (z 8), vesS, admits_of (by decide +kernel), by decide +kernel, by decide +kernel, ?_⟩
  have e : (vesS.bodyAt (req 0 (z 8))).admitView.costOf (vesS.bodyAt (req 0 (z 8))).admitView.chans (vesS.bodyAt (req 0 (z 8))).admitView.wc.decimation
    ((vesS.bodyAt (req 0 (z 8))).ves.staging.tanks.length, (vesS.bodyAt (req 0 (z 8))).ves.staging.sections.length)
    (vesS.bodyAt (req 0 (z 8))).admitView.pairs = 65226 + Config.hydroCost 0 1 + Config.limitsCost 2 + 445 + 0 := by rfl
  rw [e, show State.budgetNow _ _ = 6754704 by rfl]
  omega

/-- PROG_LOAD, where the Harbour firmware's own programs (a free number) leave room in Basin 1. -/
theorem test_hyps_ImageCommandsComplete_prog (h : Config.harbourCode ≤ 200000) :
    ∃ (q : Req) (s : State), s.Admits q ∧ q.pkt.isAsync = false ∧ (s.argOf q).payload = [0, 0, 1, 0] ++ progImg ∧
      (imgLayoutFault progImg = none ∧ imgCodeFault progImg = none ∧
        (crc32 (progImg.take (progImg.length - 4))).toNat = u32 progImg (progImg.length - 4) ∧
        Store.find? (s.bodyAt q).programs 1 = none) ∧ progImg.length ≤ (s.bodyAt q).basin1Free := by
  refine ⟨req 0 ([0, 0, 1, 0] ++ progImg), rich, admits_of (by decide +kernel), by decide +kernel, by decide +kernel, by decide +kernel, ?_⟩
  rw [show (rich.bodyAt (req 0 ([0, 0, 1, 0] ++ progImg))).basin1Free = 262144 - Config.harbourCode - 0 - 0 by rfl,
    show progImg.length = 44 by rfl]
  omega

/-- A branch, whatever its displacement counts from (log entry 12). -/
theorem test_hyps_HmMemoryInstructionsComplete_branch : ∃ (s : State) (rd rs1 : Nat) (imm target : Word), s.Fetches (fetched s) ∧ rd < 24 ∧
    rs1 < 24 ∧ target = (fetched s).hm.pc + 4 * (imm + Config.branchBase) ∧ target.toNat % 4 = 0 :=
  ⟨hmS 0x18 1, 23, 7, 4 - Config.branchBase, 16, fetches_of (by decide +kernel), by decide, by decide,
    by rw [BitVec.sub_add_cancel]; decide +kernel, by decide⟩

/-- A configuration word of the sweep, whichever words are the last of the memory. -/
theorem test_hyps_ScrubbingCompletes_slipway : ∃ s : State, s.domainFenced 11 = false ∧ s.rbit Reg.scrubCtrl 6 = true ∧ s.inWindow = false ∧
    s.wc.running = false ∧ s.slip.applying = none := ⟨up.setReg Reg.scrubCtrl 0x7F, by decide +kernel⟩

theorem test_hyps_ResetState : ∃ r ∈ regTable, ∃ f ∈ r.fields, 0 < r.count := by decide +kernel

theorem test_hyps_MemoryCanonicalKept : ∃ s t : State, s.Inv ∧ step s = .next t :=
  ⟨{ pending := [.perstNAssert] }, _, show Memory.wf _ = true by decide, rfl⟩

/-- The states of the frame statement, for the forms that store at DST, at TLERP's and STIX's address, on the mask and nowhere. -/
theorem test_hyps_PlainInstructionsFrame : ∃ (s : State) (m : MacroInstr), s.pilotRuns = true ∧ s.pilot.maskD = 1 ∧
    (∃ t, exec (.plainAdd m) s = .next t) ∧ (∃ t, exec (.plainTlerp m) s = .next t) ∧ (∃ t, exec (.plainStix m) s = .next t) ∧
    (∃ t, exec (.plainMelse m) s = .next t) ∧ ∃ t, exec (.plainNop m) s = .next t :=
  ⟨plS { fg with s := (List.replicate 16 0).set 13 1 }, mk 7 100 96 200 0, by decide +kernel, by decide +kernel,
    ⟨_, rfl⟩, ⟨_, rfl⟩, ⟨_, rfl⟩, ⟨_, rfl⟩, ⟨_, rfl⟩⟩

/-- A signalling and a quiet NaN of binary32 and a number, below 2 · `top`, as the statement tells them apart. -/
theorem test_hyps_FpSpecialValues : let IsNan := fun w : Nat => decide (0xFF * 2 ^ 23 < w % 2 ^ 31)
    IsNan 0x7F800001 = true ∧ IsNan 0x7FC00001 = true ∧ IsNan 0x7F800000 = false ∧ 0x7F800001 < 2 * 2 ^ 31 ∧ 0x7F800001 / 2 ^ 22 % 2 = 0 ∧
    0x7FC00001 / 2 ^ 22 % 2 = 1 := by decide

end
end

section
/-! SUPPORT. A source of a device reset that fires while a reset is held (R134): what an entry that is also reported leaves of the reset's
record, what latching a cause then changes, and the statement HeldResetKeepsCause. -/

namespace Sys2Proof.Machine

/-! ### Entries and FAULT events leave the boot part and the registers below the Ethernet ports -/

section
variable (s : State)

/-- The appender writes registers of the BBR block only. -/
theorem State.reg_bbrPut_of_lt {a : Nat} (h : a < Reg.bbrStatus) (e : BbrEntry) (mark : Bool) : (s.bbrPut e mark).reg a = s.reg a := by
  have ne (b : Nat) (hb : Reg.bbrStatus ≤ b) : a ≠ b := Nat.ne_of_lt (Nat.lt_of_lt_of_le h hb)
  have ring (t : State) (b : Bbr) : State.reg { t with bbr := b } a = t.reg a := rfl
  unfold State.bbrPut
  simp only []
  (repeat' split) <;>
    simp (disch := exact ne _ (by decide)) only [ring, State.reg_setReg_ne, State.reg_setFld_ne, State.reg_addFld_ne, State.reg_orReg_ne]

@[simp] theorem State.updSession_boot (n : Nat) (f : Session → Session) : (s.updSession n f).boot = s.boot := rfl
@[simp] theorem State.updSession_reg (n : Nat) (f : Session → Session) (a : Nat) : (s.updSession n f).reg a = s.reg a := rfl
@[simp] theorem State.setBox_boot (n : Nat) (b : Mailbox) : (s.setBox n b).boot = s.boot := rfl
@[simp] theorem State.setBox_reg (n : Nat) (b : Mailbox) (a : Nat) : (s.setBox n b).reg a = s.reg a := rfl
@[simp] theorem State.raiseVector_boot (v : Nat) : (s.raiseVector v).boot = s.boot := rfl
@[simp] theorem State.raiseVector_reg (v a : Nat) : (s.raiseVector v).reg a = s.reg a := rfl

theorem State.queueTx_boot (port q : Nat) (item : List TxItem) {put : State → State} (h : (put s).boot = s.boot) :
    (s.queueTx port q item put).boot = s.boot := by
  unfold State.queueTx
  split
  · exact h
  · rfl

/-- A MAC that cannot send counts in a register of an Ethernet port and sets an event bit of one. -/
theorem State.reg_queueTx_of_lt {a : Nat} (ha : a < Reg.ethCtrl) (port q : Nat) (item : List TxItem) {put : State → State}
    (h : (put s).reg a = s.reg a) : (s.queueTx port q item put).reg a = s.reg a := by
  have hcnt : a ≠ ethCnt port 12 := by
    unfold ethCnt Reg.eth0Cnt Reg.eth1Cnt
    unfold Reg.ethCtrl at ha
    split <;> omega
  have hev : a ≠ Reg.ethEvents + 65536 * port := by
    unfold Reg.ethEvents
    unfold Reg.ethCtrl at ha
    omega
  unfold State.queueTx
  split
  · exact h
  · exact (State.reg_setRbit_ne _ _ _ hev).trans (State.reg_addFld_ne _ _ _ _ hcnt)

/-- An event for one session leaves the boot part and the registers below the Ethernet ports. -/
theorem State.emitTo_frame {a : Nat} (ha : a < Reg.ethCtrl) (n code handle : Nat) (payload : Bytes) :
    (s.emitTo n code handle payload).boot = s.boot ∧ (s.emitTo n code handle payload).reg a = s.reg a := by
  unfold State.emitTo
  cases s.session n with
  | none => exact ⟨rfl, rfl⟩
  | some x =>
    cases hx : x.ep with
    | pcie k =>
      simp only [hx]
      split <;> simp
    | udp ip port eth =>
      simp only [hx]
      split
      · exact ⟨State.queueTx_boot _ _ _ _ rfl, State.reg_queueTx_of_lt _ ha _ _ _ rfl⟩
      · simp
    | hspi =>
      simp only [hx]
      split <;> simp

theorem State.emitAll_frame {a : Nat} (ha : a < Reg.ethCtrl) (code handle : Nat) (payload : Bytes) :
    (s.emitAll code handle payload).boot = s.boot ∧ (s.emitAll code handle payload).reg a = s.reg a :=
  List.foldlRecOn (motive := fun t : State => t.boot = s.boot ∧ t.reg a = s.reg a) _ _ ⟨rfl, rfl⟩ fun t ⟨hb, hr⟩ p _ =>
    have ⟨hb', hr'⟩ := t.emitTo_frame ha p.1 code handle payload
    ⟨hb'.trans hb, hr'.trans hr⟩

/-- An entry through port B, with its FAULT event, leaves the boot part and the registers below the Ethernet ports. -/
theorem State.faultB_frame {a : Nat} (ha : a < Reg.ethCtrl) (event severity source : Nat) (payload : Word) (flags : Nat) :
    (s.faultB event severity source payload flags).boot = s.boot ∧ (s.faultB event severity source payload flags).reg a = s.reg a := by
  have hr : (s.bbrB event severity source payload flags).reg a = s.reg a :=
    s.reg_bbrPut_of_lt (Nat.lt_trans ha (by decide)) _ _
  simp only [State.faultB, State.emitFault]
  split
  · obtain ⟨hb', hr'⟩ := State.emitAll_frame (s.bbrB event severity source payload flags) ha 0x8006 0 _
    exact ⟨hb'.trans (s.bbrB_boot ..), hr'.trans hr⟩
  · exact ⟨s.bbrB_boot .., hr⟩

theorem State.reg_lastFence_ne {a : Nat} (h : a ≠ Reg.reclaimLast) (d lease res : Nat) : (s.lastFence d lease res).reg a = s.reg a :=
  State.reg_setReg_ne _ _ h

end

/-! ### Latching a cause while a reset is held -/

/-- The step of `State.latchCause` for one cause: its bit in CAUSES_SEEN is set where it is among the sources `l`. -/
def State.markSeen (l : List Nat) (s : State) (c : Nat) : State :=
  if l.contains c then s.setRbit Reg.sysctlResetCause (7 + c) true else s

theorem State.latchCause_of_held {s : State} (h : s.boot.held = true) (l : List Nat) :
    s.latchCause l = causeOrder.foldl (State.markSeen l) s := by
  simp only [State.latchCause, h, if_true]
  rfl

theorem State.deviceResets_of_held {s : State} (h : s.boot.held = true) (l : List Nat) : s.deviceResets l = s.latchCause l := by
  simp only [State.deviceResets, h, if_true]

@[simp] theorem State.markSeen_boot (l : List Nat) (s : State) (c : Nat) : (s.markSeen l c).boot = s.boot := by
  unfold State.markSeen
  split <;> rfl

/-- CAUSES_SEEN lies above CAUSE, so that marking a cause leaves CAUSE. -/
theorem State.cause_markSeen (l : List Nat) (s : State) {c : Nat} (h : c < 25) :
    (s.markSeen l c).fld Reg.sysctlResetCause 3 0 = s.fld Reg.sysctlResetCause 3 0 := by
  unfold State.markSeen
  split
  · unfold State.fld
    rw [State.reg_setRbit_self]
    exact bits_putBits_apart _ _ _ _ _ _ (by omega) (Or.inl (by omega))
  · rfl

theorem State.rbit_markSeen_self {l : List Nat} (s : State) {c : Nat} (h : c < 25) (hl : c ∈ l) :
    (s.markSeen l c).rbit Reg.sysctlResetCause (7 + c) = true := by
  rw [State.markSeen, if_pos (List.contains_iff_mem.mpr hl)]
  exact State.rbit_setRbit_self _ _ _ _ (by omega)

/-- A bit of SYSCTL_RESET_CAUSE that is set stays set. -/
theorem State.rbit_markSeen_of_rbit (l : List Nat) {s : State} {c i : Nat} (h : c < 25) (hi : s.rbit Reg.sysctlResetCause i = true) :
    (s.markSeen l c).rbit Reg.sysctlResetCause i = true := by
  unfold State.markSeen
  split
  · by_cases hc : i = 7 + c
    · rw [hc]
      exact State.rbit_setRbit_self _ _ _ _ (by omega)
    · unfold State.rbit at hi ⊢
      rw [State.reg_setRbit_self, bit_putBit_ne _ _ _ _ (by omega) hc, hi]
  · exact hi

theorem causeOrder_lt : ∀ c ∈ causeOrder, c < 25 := by decide

/-- What marking sources in CAUSES_SEEN leaves: CAUSE and the boot part. -/
theorem State.foldl_markSeen_frame (l : List Nat) (s : State) {cs : List Nat} (h : ∀ c ∈ cs, c < 25) :
    (cs.foldl (State.markSeen l) s).boot = s.boot ∧
    (cs.foldl (State.markSeen l) s).fld Reg.sysctlResetCause 3 0 = s.fld Reg.sysctlResetCause 3 0 :=
  List.foldlRecOn (motive := fun t : State => t.boot = s.boot ∧ t.fld Reg.sysctlResetCause 3 0 = s.fld Reg.sysctlResetCause 3 0) _ _ ⟨rfl, rfl⟩
    fun t ⟨hb, hc⟩ c hm => ⟨(t.markSeen_boot l c).trans hb, (t.cause_markSeen l (h c hm)).trans hc⟩

/-- Every source among `cs` that fires is marked in CAUSES_SEEN. -/
theorem State.rbit_foldl_markSeen {l : List Nat} {c : Nat} (hl : c ∈ l) {cs : List Nat} (h : ∀ x ∈ cs, x < 25) (hc : c ∈ cs) (s : State) :
    (cs.foldl (State.markSeen l) s).rbit Reg.sysctlResetCause (7 + c) = true := by
  induction cs generalizing s with
  | nil => simp at hc
  | cons x r ih =>
    obtain ⟨hx, hr⟩ := List.forall_mem_cons.mp h
    rcases List.mem_cons.mp hc with rfl | hc
    · exact List.foldlRecOn (motive := fun t : State => t.rbit Reg.sysctlResetCause (7 + c) = true) r _ (s.rbit_markSeen_self hx hl)
        fun t ht y hy => t.rbit_markSeen_of_rbit l (hr y hy) ht
    · exact ih hr hc _

/-- The source `c` fired in `s` while a reset was held: its bit in CAUSES_SEEN is set, CAUSE stands and the reset is still held (R134). -/
structure State.SeenInReset (s : State) (c : Nat) (t : State) : Prop where
  seen : t.rbit Reg.sysctlResetCause (7 + c) = true
  cause : t.fld Reg.sysctlResetCause 3 0 = s.fld Reg.sysctlResetCause 3 0
  held : t.boot.held = true

/-- A source that fires while a reset is held, once the work `u` before it has left the boot part and SYSCTL_RESET_CAUSE. -/
theorem State.SeenInReset.deviceResets {s u : State} (h : s.boot.held = true) (hb : u.boot = s.boot)
    (hr : u.reg Reg.sysctlResetCause = s.reg Reg.sysctlResetCause) {c : Nat} (hc : c ∈ causeOrder) (also : List Nat) :
    s.SeenInReset c (u.deviceResets (c :: also)) := by
  have hu : u.boot.held = true := hb ▸ h
  rw [State.deviceResets_of_held hu, State.latchCause_of_held hu]
  obtain ⟨hboot, hcause⟩ := u.foldl_markSeen_frame (c :: also) causeOrder_lt
  exact ⟨State.rbit_foldl_markSeen List.mem_cons_self causeOrder_lt hc u, hcause.trans (by rw [State.fld, hr, State.fld]),
    (congrArg Boot.held hboot).trans hu⟩

/-! ### The sources -/

theorem State.wdtExpire_seenInReset {s : State} (h : s.boot.held = true) (hen : s.rbit Reg.timerWdtCtrl 0 = true) (also : List Nat) :
    s.SeenInReset (if s.rbit Reg.reclaimStatus 2 then Cause.doubleTrap else Cause.wdt) (s.wdtExpire also) := by
  obtain ⟨hb, hr⟩ := s.faultB_frame (a := Reg.sysctlResetCause) (by decide) 0x012 2 0x12 (BitVec.ofNat 32 s.elapsedMs) 0
  simp only [State.wdtExpire, hen, Bool.not_true, Bool.false_eq_true, if_false]
  split
  · exact .deviceResets h hb hr (by decide) also
  · exact .deviceResets (u := State.lastFence _ 1 7 0) h hb ((State.reg_lastFence_ne _ (by decide) 1 7 0).trans hr) (by decide) also

theorem execThermalShutdown_seenInReset {s : State} (h : s.boot.held = true) (also : List Nat) :
    ∃ t, execThermalShutdown also s = .next t ∧ s.SeenInReset Cause.thermal t := by
  obtain ⟨hb, hr⟩ := s.faultB_frame (a := Reg.sysctlResetCause) (by decide) 0x01B 6 0x12 (BitVec.ofNat 32 s.tempMax) 0
  obtain ⟨hseen, hcause, hheld⟩ := State.SeenInReset.deviceResets h hb hr (c := Cause.thermal) (by decide) also
  exact ⟨_, rfl, hseen, hcause, hheld⟩

/-- Settles O21: while a reset is held, each source only marks CAUSES_SEEN; the watchdog and the thermal shutdown write their entries first,
which touch neither the boot part nor SYSCTL_RESET_CAUSE. -/
theorem heldResetKeepsCause : Obligations.HeldResetKeepsCause := by
  intro s Keeps h hKeeps
  have keeps {i : Instr} {c : Nat} {t : State} (hi : exec i s = .next t) (ht : s.SeenInReset c t) : Keeps i c := by
    rw [hKeeps]
    exact ⟨t, hi, ht.seen, ht.cause, ht.held⟩
  refine ⟨fun also => ?pin, fun hl also => ?jtag, fun who ho => ?host, fun he also => ?doubleTrap, fun hen also => ?wdt, fun also => ?thermal⟩
  case pin => exact keeps rfl (.deviceResets h rfl rfl (by decide) also)
  case jtag =>
    have hi : exec (.jtagSysreset also) s = .next (if s.otp.jtagLock then s else s.deviceResets (Cause.jtag :: also)) := rfl
    rw [hl] at hi
    exact keeps hi (.deviceResets h rfl rfl (by decide) also)
  case host =>
    have hi : exec (.sysctlSwreset who) s = .next (s.guardedWrite who Reg.sysctlSwreset fun t => t.deviceReset Cause.host) := rfl
    rw [State.guardedWrite_opens ho] at hi
    exact keeps hi (.deviceResets (u := s.opened who Reg.sysctlSwreset) h rfl rfl (by decide) [])
  case doubleTrap =>
    have hi : exec (.doubleTrap also) s = .next (if s.rbit Reg.reclaimStatus 2 then s.deviceResets (Cause.doubleTrap :: also) else s) := rfl
    rw [he] at hi
    exact keeps hi (.deviceResets h rfl rfl (by decide) also)
  case wdt => exact keeps rfl (State.wdtExpire_seenInReset h hen also)
  case thermal =>
    obtain ⟨t, hi, ht⟩ := execThermalShutdown_seenInReset h also
    exact keeps hi ht

end Sys2Proof.Machine
end

section
/-! SUPPORT. The register windows of the Harbourmaster (R597): the one place of the register file that each register of a window is read from
and written to, and the statement WindowsOverlap. -/

namespace Sys2Proof.Machine

section
variable (h : Hm) (w : Nat) {i : Nat}

theorem Hm.regIn_global (h0 : 0 < i) (hi : i < 8) : h.regIn w i = h.g.getD i 0 := by
  rw [Hm.regIn, if_neg (Nat.ne_of_gt h0), if_pos hi]

theorem Hm.regIn_local (hi : i < 8) : h.regIn w (16 + i) = h.l.getD (8 * (w % 8) + i) 0 := by
  rw [Hm.regIn, if_neg (by omega), if_neg (by omega), if_neg (by omega), if_neg (by omega), if_pos (by omega), Nat.add_sub_cancel_left,
    Nat.mul_comm]

/-- P0 to P3 are half-bank H[w + 1]. -/
theorem Hm.regIn_passIn (hi : i < 4) : h.regIn w (8 + i) = h.h.getD (4 * ((w + 1) % 8) + i) 0 := by
  rw [Hm.regIn, if_neg (by omega), if_neg (by omega), if_pos (by omega), Nat.add_sub_cancel_left, Nat.mul_comm]

/-- P4 to P7 are half-bank H[w]. -/
theorem Hm.regIn_passOut (hi : i < 4) : h.regIn w (12 + i) = h.h.getD (4 * (w % 8) + i) 0 := by
  rw [Hm.regIn, if_neg (by omega), if_neg (by omega), if_neg (by omega), if_pos (by omega), Nat.add_sub_cancel_left, Nat.mul_comm]

theorem Hm.setRegIn_passOut (hi : i < 4) (v : Word) : h.setRegIn w (12 + i) v = { h with h := h.h.set (4 * (w % 8) + i) v } := by
  rw [Hm.setRegIn, if_neg (by omega), if_neg (by omega), if_neg (by omega), if_pos (by omega), Nat.add_sub_cancel_left, Nat.mul_comm]

/-- The window that ENTER moves to is `w + 7` modulo 8, and the half-bank after its own is that of `w`. -/
theorem Hm.regIn_passOut_eq_passIn (hi : i < 4) : h.regIn w (12 + i) = h.regIn ((w + 7) % 8) (8 + i) := by
  have hbank : ((w + 7) % 8 + 1) % 8 = w % 8 := by omega
  rw [h.regIn_passOut w hi, h.regIn_passIn _ hi, hbank]

theorem Hm.regIn_setRegIn_passOut (hlen : h.h.length = 32) (hi : i < 4) (v : Word) : (h.setRegIn w (12 + i) v).regIn w (12 + i) = v := by
  have hlt : 4 * (w % 8) + i < h.h.length := by omega
  rw [Hm.regIn_passOut _ w hi, h.setRegIn_passOut w hi, List.getD_eq_getElem?_getD, List.getElem?_set_self hlt, Option.getD_some]

end

/-- Settles O46: each view reads one place of the file, and a write of P4 to P7 is read back first in its own window, then through the view
below, which is the same place. -/
theorem windowsOverlap : Obligations.WindowsOverlap := by
  intro h w i hw
  have hmod : w % 8 = w := Nat.mod_eq_of_lt hw
  refine ⟨h.regIn_global w, fun hi => ?locals, h.regIn_passIn w, fun hi => ?passOut, h.regIn_passOut_eq_passIn w, fun hlen hi v => ?written⟩
  case locals => rw [h.regIn_local w hi, hmod]
  case passOut => rw [h.regIn_passOut w hi, hmod]
  case written => rw [← Hm.regIn_passOut_eq_passIn _ w hi, h.regIn_setRegIn_passOut w hlen hi]

end Sys2Proof.Machine
end

section
/-! SUPPORT. The integer instructions of the Harbourmaster (R627 to R636): the body that each shape of instruction runs once it is fetched, the
arithmetic of its result, and the statement HmIntegerInstructionsComplete. -/

namespace Sys2Proof.Machine

/-! ### The halves of a double word (R628) -/

section
variable (hi lo : Word)

theorem ofInt_eq_append : BitVec.ofInt 64 (lo.toNat + 2 ^ 32 * hi.toInt) = hi ++ lo := by
  have hval : (hi ++ lo : DWord).toInt = lo.toNat + 2 ^ 32 * hi.toInt := (BitVec.toInt_append (x := hi) (y := lo)).trans (Int.add_comm _ _)
  rw [← hval, BitVec.ofInt_toInt]

theorem ofNat_eq_append : BitVec.ofNat 64 (lo.toNat + 2 ^ 32 * hi.toNat) = hi ++ lo := by
  have hval : (hi ++ lo : DWord).toNat = lo.toNat + 2 ^ 32 * hi.toNat := by
    rw [BitVec.toNat_append, ← Nat.shiftLeft_add_eq_or_of_lt lo.isLt, Nat.shiftLeft_eq, Nat.mul_comm, Nat.add_comm]
  rw [← hval, BitVec.ofNat_toNat, BitVec.setWidth_eq]

theorem setWidth_word_append : (hi ++ lo : DWord).setWidth 32 = lo :=
  BitVec.setWidth_append_eq_right

theorem setWidth_shiftRight_word_append : ((hi ++ lo : DWord) >>> 32).setWidth 32 = hi :=
  BitVec.extractLsb'_append_eq_left

end

/-! ### Overflow and the flags of HSR (R629, R630) -/

/-- V is set exactly where the 32-bit result is not the exact one. -/
theorem overflows_eq (x : Int) : overflows x = decide (x ≠ (BitVec.ofInt 32 x).toInt) := by
  rw [overflows, ← Bool.decide_or, decide_eq_decide, BitVec.toInt_ofInt, Int.bmod_def]
  omega

/-- The flags stand in HSR's bits 15 to 12 as N, Z, V, C. -/
theorem Hm.bit_setFlags (h : Hm) (n z v c : Bool) : bit (h.setFlags n z v c).hsr 15 = n ∧ bit (h.setFlags n z v c).hsr 14 = z ∧
    bit (h.setFlags n z v c).hsr 13 = v ∧ bit (h.setFlags n z v c).hsr 12 = c := by
  have place (i : Nat) (hi : 12 ≤ i ∧ i ≤ 15) :
      bit (h.setFlags n z v c).hsr i = (c.toNat + 2 * v.toNat + 4 * z.toNat + 8 * n.toNat).testBit (i - 12) :=
    (getLsbD_putBits _ _ _ _ _ (by decide)).trans (if_pos hi)
  rw [place 15 (by decide), place 14 (by decide), place 13 (by decide), place 12 (by decide)]
  clear place
  decide +revert

/-- `v` is the low word of the exact value. -/
theorem State.flags_setFlags (u : State) {v : Word} {exact : Int} (hv : v = BitVec.ofInt 32 exact) (chained carry : Bool) :
    u.Flags (u.hm.setFlags (bit v 31) (v == 0 && (!chained || bit u.hm.hsr 14)) (overflows exact) carry).hsr v exact chained carry := by
  obtain ⟨hN, hZ, hV, hC⟩ := u.hm.bit_setFlags (bit v 31) (v == 0 && (!chained || bit u.hm.hsr 14)) (overflows exact) carry
  exact ⟨hN, hZ, hV.trans (by rw [overflows_eq, hv]), hC, bits_putBits_apart _ _ _ _ _ _ (by decide) (by decide),
    bits_putBits_apart _ _ _ _ _ _ (by decide) (by decide)⟩

/-- The carry that enters a chained instruction is the bit C. -/
theorem Hm.toNat_carryIn_true (h : Hm) : (h.carryIn true).toNat = bits h.hsr 12 12 := by
  have hC : bits h.hsr 12 12 = h.flagC.toNat := by
    rw [bits, Nat.shiftRight_eq_div_pow, Hm.flagC, bit, BitVec.getLsbD, Nat.toNat_testBit, Nat.add_sub_cancel_left, Nat.pow_one]
  rw [hC, Hm.carryIn, Bool.true_and]
  cases h.flagC <;> rfl

/-! ### Leading zeros -/

theorem clz32_eq {a : Word} {k : Nat} (hk : k ≤ 32) (hlt : a.toNat < 2 ^ (32 - k)) (hle : k < 32 → 2 ^ (31 - k) ≤ a.toNat) : clz32 a = k := by
  have above {j : Nat} (hj : j < k) : a.getLsbD (31 - j) = false :=
    Nat.testBit_lt_two_pow (Nat.lt_of_lt_of_le hlt (Nat.pow_le_pow_right (by decide) (by omega)))
  rcases Nat.lt_or_eq_of_le hk with hk | rfl
  · have top : a.getLsbD (31 - k) = true :=
      Nat.testBit_of_two_pow_le_and_two_pow_add_one_gt (hle hk) (by rwa [show 31 - k + 1 = 32 - k by omega])
    have hfind : (List.range 32).find? (fun i => a.getLsbD (31 - i)) = some k :=
      List.find?_range_eq_some.2 ⟨top, List.mem_range.2 hk, fun j hj => by simp [above hj]⟩
    rw [clz32, hfind, Option.getD_some]
  · have hfind : (List.range 32).find? (fun i => a.getLsbD (31 - i)) = none :=
      List.find?_eq_none.2 fun j hj => by simp [above (List.mem_range.1 hj)]
    rw [clz32, hfind, Option.getD_none]

/-! ### A register write leaves HSR -/

theorem Hm.setRegIn_hsr (h : Hm) (w r : Nat) (v : Word) : (h.setRegIn w r v).hsr = h.hsr := by
  unfold Hm.setRegIn
  (repeat' split) <;> rfl

@[simp] theorem State.setR_hsr (u : State) (r : Nat) (v : Word) : (u.setR r v).hm.hsr = u.hm.hsr := Hm.setRegIn_hsr ..

/-! ### The bodies that the instructions share -/

/-- An even register from 2 up is the low half of a pair (R628). -/
theorem pairOk_of_even {rd : Nat} (hd : rd < 24) (heven : rd % 2 = 0) (hge : 2 ≤ rd) : pairOk rd = true := by
  simp [pairOk, heven, hge]
  omega

section
variable {s u : State} (h : s.Fetches u) {rd rs1 rs2 : Nat} (hd : rd < 24) (h1 : rs1 < 24) (h2 : rs2 < 24)
include h hd h1

theorem State.instrR_two_fetches (body : State → State) : s.instrR [rd, rs1] body = .next (body u) :=
  State.instrR_fetches h _ (by simp [hd, h1]) body

section
variable (heven : rd % 2 = 0) (hge : 2 ≤ rd) {v : State}
include heven hge

/-- DIVL_U with the high half below the divisor: the quotient fits in a word, and V is cleared (R635). -/
theorem execDivlU_of_lt (hfit : (u.r (rd + 1)).toNat < (u.r rs1).toNat) {n : Nat} (hn : n = (u.r rd).toNat + 2 ^ 32 * (u.r (rd + 1)).toNat)
    (hv : v = (u.setR rd (BitVec.ofNat 32 (n / (u.r rs1).toNat))).setR (rd + 1) (BitVec.ofNat 32 (n % (u.r rs1).toNat))) :
    execDivlU rd rs1 s = .next { v with hm := { v.hm with hsr := putBit u.hm.hsr 13 false } }.pcNext := by
  have hd0 : (u.r rs1).toNat ≠ 0 := Nat.ne_zero_of_lt hfit
  rw [show 2 ^ 32 = 4294967296 from rfl] at hn
  subst hn hv
  simp only [execDivlU, State.instrR_two_fetches h hd h1, pairOk_of_even hd heven hge, Bool.not_true, Bool.false_eq_true, if_false, hd0,
    Nat.not_le.2 hfit, ge_iff_le, State.setR_hsr]

/-- DIVL_U with the high half at least the divisor: both halves read all ones, and V is set (R635). -/
theorem execDivlU_of_le (hb : u.r rs1 ≠ 0) (hover : (u.r rs1).toNat ≤ (u.r (rd + 1)).toNat)
    (hv : v = (u.setR rd 0xFFFFFFFF).setR (rd + 1) 0xFFFFFFFF) :
    execDivlU rd rs1 s = .next { v with hm := { v.hm with hsr := putBit u.hm.hsr 13 true } }.pcNext := by
  have hd0 : (u.r rs1).toNat ≠ 0 := fun h0 => hb (BitVec.eq_of_toNat_eq h0)
  subst hv
  simp only [execDivlU, State.instrR_two_fetches h hd h1, pairOk_of_even hd heven hge, Bool.not_true, Bool.false_eq_true, if_false, hd0,
    hover, if_true, ge_iff_le, State.setR_hsr]

end

include h2

theorem State.instrR_three_fetches (body : State → State) : s.instrR [rd, rs1, rs2] body = .next (body u) :=
  State.instrR_fetches h _ (by simp [hd, h1, h2]) body

theorem State.alu_fetches (f : Word → Word → Word) : s.alu rd rs1 rs2 f = .next (u.ret rd (f (u.r rs1) (u.r rs2))) :=
  State.instrR_three_fetches h hd h1 h2 _

theorem State.hmDivide_fetches (hb : u.r rs2 ≠ 0) (f : Word → Word → Word) :
    s.hmDivide rd rs1 rs2 f = .next (u.ret rd (f (u.r rs1) (u.r rs2))) := by
  rw [State.hmDivide, State.instrR_three_fetches h hd h1 h2, if_neg hb]

theorem State.mulw_fetches (heven : rd % 2 = 0) (hge : 2 ≤ rd) {f : Word → Word → DWord} {hi lo : Word} (hf : f (u.r rs1) (u.r rs2) = hi ++ lo) :
    s.mulw rd rs1 rs2 f = .next ((u.setR rd lo).setR (rd + 1) hi).pcNext := by
  rw [State.mulw, State.instrR_three_fetches h hd h1 h2]
  simp only [pairOk_of_even hd heven hge, hf, setWidth_word_append, setWidth_shiftRight_word_append, Bool.not_true, Bool.false_eq_true, if_false]

/-- ADDF and ADDCF: `c` is the carry that enters (R629). -/
theorem State.addFlags_fetches (chain : Bool) {c : Nat} (hc : (u.hm.carryIn chain).toNat = c) :
    ∃ w : Word, s.addFlags rd rs1 rs2 chain = .next ({ u with hm := { u.hm with hsr := w } }.ret rd (u.r rs1 + u.r rs2 + BitVec.ofNat 32 c)) ∧
      u.Flags w (u.r rs1 + u.r rs2 + BitVec.ofNat 32 c) ((u.r rs1).toInt + (u.r rs2).toInt + c) chain
        (decide (2 ^ 32 ≤ (u.r rs1).toNat + (u.r rs2).toNat + c)) := by
  subst hc
  rw [BitVec.ofNat_toNat, BitVec.setWidth_eq]
  refine ⟨_, State.instrR_three_fetches h hd h1 h2 _, u.flags_setFlags ?_ chain _⟩
  simp [BitVec.ofInt_add]

/-- SUBF and SUBBF: `c` is the borrow that enters (R630). -/
theorem State.subFlags_fetches (chain : Bool) {c : Nat} (hc : (u.hm.carryIn chain).toNat = c) :
    ∃ w : Word, s.subFlags rd rs1 rs2 chain = .next ({ u with hm := { u.hm with hsr := w } }.ret rd (u.r rs1 - u.r rs2 - BitVec.ofNat 32 c)) ∧
      u.Flags w (u.r rs1 - u.r rs2 - BitVec.ofNat 32 c) ((u.r rs1).toInt - (u.r rs2).toInt - c) chain
        (decide ((u.r rs1).toNat < (u.r rs2).toNat + c)) := by
  subst hc
  rw [BitVec.ofNat_toNat, BitVec.setWidth_eq]
  refine ⟨_, State.instrR_three_fetches h hd h1 h2 _, u.flags_setFlags ?_ chain _⟩
  simp [Int.sub_eq_add_neg, BitVec.sub_eq_add_neg, BitVec.ofInt_add, BitVec.ofInt_neg]

end

/-! ### Which body each instruction runs -/

section
variable (rd rs1 rs2 : Nat) (s : State)

theorem exec_addi (imm : Word) : exec (.hmIntegerInstruction .addi rd rs1 rs2 imm) s = s.instrR [rd, rs1] fun t => t.ret rd (t.r rs1 + imm) := rfl

theorem exec_hmAlu (opc : BitVec 7) (func : BitVec 10) (imm : Word) : exec (.hmIntegerInstruction (.other opc func false) rd rs1 rs2 imm) s =
    s.instrR [rd, rs1, rs2] fun t => t.ret rd (Config.hmAlu opc func (t.r rs1) (t.r rs2)) := rfl

theorem exec_hmAluImm (opc : BitVec 7) (func : BitVec 10) (imm : Word) : exec (.hmIntegerInstruction (.other opc func true) rd rs1 rs2 imm) s =
    s.instrR [rd, rs1] fun t => t.ret rd (Config.hmAlu opc func (t.r rs1) imm) := rfl

theorem exec_mulLo : exec (.mulLo rd rs1 rs2) s = s.alu rd rs1 rs2 fun a b => BitVec.ofNat 32 (a.toNat * b.toNat) := rfl

theorem exec_mulHs : exec (.mulHs rd rs1 rs2) s = s.alu rd rs1 rs2 fun a b => BitVec.ofInt 32 (a.toInt * b.toInt / 2 ^ 32) := rfl

theorem exec_mulHu : exec (.mulHu rd rs1 rs2) s = s.alu rd rs1 rs2 fun a b => BitVec.ofNat 32 (a.toNat * b.toNat / 2 ^ 32) := rfl

theorem exec_mulwS : exec (.mulwS rd rs1 rs2) s = s.mulw rd rs1 rs2 fun a b => BitVec.ofInt 64 (a.toInt * b.toInt) := rfl

theorem exec_mulwU : exec (.mulwU rd rs1 rs2) s = s.mulw rd rs1 rs2 fun a b => BitVec.ofNat 64 (a.toNat * b.toNat) := rfl

theorem exec_divlU : exec (.divlU rd rs2) s = execDivlU rd rs2 s := rfl

theorem exec_addf : exec (.addf rd rs1 rs2) s = s.addFlags rd rs1 rs2 false := rfl

theorem exec_addcf : exec (.addcf rd rs1 rs2) s = s.addFlags rd rs1 rs2 true := rfl

theorem exec_subf : exec (.subf rd rs1 rs2) s = s.subFlags rd rs1 rs2 false := rfl

theorem exec_subbf : exec (.subbf rd rs1 rs2) s = s.subFlags rd rs1 rs2 true := rfl

theorem exec_divS : exec (.divS rd rs1 rs2) s = s.hmDivide rd rs1 rs2 fun a b => BitVec.ofInt 32 (Int.tdiv a.toInt b.toInt) := rfl

theorem exec_divU : exec (.divU rd rs1 rs2) s = s.hmDivide rd rs1 rs2 fun a b => BitVec.ofNat 32 (a.toNat / b.toNat) := rfl

theorem exec_remS : exec (.remS rd rs1 rs2) s = s.hmDivide rd rs1 rs2 fun a b => BitVec.ofInt 32 (Int.tmod a.toInt b.toInt) := rfl

theorem exec_remU : exec (.remU rd rs1 rs2) s = s.hmDivide rd rs1 rs2 fun a b => BitVec.ofNat 32 (a.toNat % b.toNat) := rfl

theorem exec_clz : exec (.clz rd rs1) s = s.instrR [rd, rs1] fun t => t.ret rd (BitVec.ofNat 32 (clz32 (t.r rs1))) := rfl

end

/-- Settles O45: a fetched instruction with legal register numbers runs its body, and each clause reads off what that body writes. -/
theorem hmIntegerInstructionsComplete : Obligations.HmIntegerInstructionsComplete := by
  rintro s u rd rs1 rs2 _ _ h hd h1 h2 rfl rfl
  simp only [exec_addi, exec_hmAlu, exec_hmAluImm, exec_mulLo, exec_mulHs, exec_mulHu, exec_mulwS, exec_mulwU, exec_divlU, exec_addf, exec_addcf,
    exec_subf, exec_subbf, exec_divS, exec_divU, exec_remS, exec_remU, exec_clz]
  refine ⟨fun imm => State.instrR_two_fetches h hd h1 _,
    fun opc func imm => ⟨State.instrR_three_fetches h hd h1 h2 _, State.instrR_two_fetches h hd h1 _⟩,
    State.alu_fetches h hd h1 h2 _, State.alu_fetches h hd h1 h2 _, State.alu_fetches h hd h1 h2 _,
    fun heven hge => ⟨fun lo hi hp => ?mulwS, fun lo hi hp => ?mulwU, fun n hi hhi hn hb => ?divlU⟩, ?addf, ?subf, fun c hc => ?chained,
    fun hb => ?divide, fun k hk hlt hle => ?clz⟩
  case mulwS => exact State.mulw_fetches h hd h1 h2 heven hge (by rw [← hp, ofInt_eq_append])
  case mulwU => exact State.mulw_fetches h hd h1 h2 heven hge (by rw [← hp, ofNat_eq_append])
  case divlU =>
    subst hhi
    exact ⟨fun hfit => ⟨_, execDivlU_of_lt h hd h2 heven hge hfit hn rfl, fun v hv => by rw [hv]⟩,
      fun hover => ⟨_, execDivlU_of_le h hd h2 heven hge hb hover rfl, fun v hv => by rw [hv]⟩⟩
  case addf => simpa using State.addFlags_fetches h hd h1 h2 false (c := 0) rfl
  case subf => simpa using State.subFlags_fetches h hd h1 h2 false (c := 0) rfl
  case chained =>
    have hcarry : (u.hm.carryIn true).toNat = c := u.hm.toNat_carryIn_true.trans hc.symm
    exact ⟨State.addFlags_fetches h hd h1 h2 true hcarry, State.subFlags_fetches h hd h1 h2 true hcarry⟩
  case divide =>
    exact ⟨State.hmDivide_fetches h hd h1 h2 hb _, State.hmDivide_fetches h hd h1 h2 hb _, State.hmDivide_fetches h hd h1 h2 hb _,
      State.hmDivide_fetches h hd h1 h2 hb _⟩
  case clz => simpa only [clz32_eq hk hlt hle] using State.instrR_two_fetches h hd h1 fun t => t.ret rd (BitVec.ofNat 32 (clz32 (t.r rs1)))

end Sys2Proof.Machine
end

section
/-! The proofs below are elaborated one after another: side by side, with their waiting threads, they take more memory than a compile of the text has. -/

set_option Elab.async false

section
/-! SUPPORT. One step and the state after reset (statements StepRunsFront, ResetState and ResetMemoryCanonical). -/

namespace Sys2Proof.Machine

/-! ### One step -/

theorem step_of_pending_cons {s : State} {c : Instr} {r : List Instr} (h : s.pending = c :: r) : step s = exec c { s with pending := r } := by
  simp only [step, h]

theorem step_of_pending_nil {s : State} (h : s.pending = []) : step s = .next s := by
  simp only [step, h]

/-- Settles O1: the two cases of the queue. -/
theorem stepRunsFront : Obligations.StepRunsFront :=
  ⟨fun _ _ _ h => step_of_pending_cons h, fun _ h => step_of_pending_nil h⟩

/-! ### Reset -/

/-- No register differs from its reset value after a reset. -/
theorem State.reg_reset (a : Nat) : State.reset.reg a = regReset a := rfl

/-- The fields of a row read their reset values at every register of the row. -/
def RegRow.resetsFields (r : RegRow) : Bool :=
  (List.range r.count).all fun k => r.fields.all fun f => bits (regReset (r.base + r.stride * k)) f.hi f.lo == f.reset

theorem regTable_resetsFields : regTable.all RegRow.resetsFields = true := by decide +kernel

theorem State.fld_reset {r : RegRow} (hr : r ∈ regTable) {f : RegField} (hf : f ∈ r.fields) {k : Nat} (hk : k < r.count) :
    State.reset.fld (r.base + r.stride * k) f.hi f.lo = f.reset := by
  have hrow := List.all_eq_true.mp regTable_resetsFields r hr
  have hreg := List.all_eq_true.mp hrow k (List.mem_range.mpr hk)
  exact beq_iff_eq.mp (List.all_eq_true.mp hreg f hf)

/-- Settles O2: the reset column by the register map, the rest by the state's definition. -/
theorem resetState : Obligations.ResetState :=
  ⟨fun _ hr _ hf _ hk => State.fld_reset hr hf hk, rfl, rfl, rfl, by decide, rfl, rfl⟩

/-- Settles O3: nothing is listed, and the empty memory is canonical. -/
theorem resetMemoryCanonical : Obligations.ResetMemoryCanonical := ⟨rfl, rfl⟩

end Sys2Proof.Machine
end

section
/-! SUPPORT. The reply of a command over UDP reaches the MAC of its port (R239, R744), which refutes the statement ReplyFrame. -/

namespace Sys2Proof.Machine

/-- A device whose port 0 sends: its link is up and TX_EN is set. -/
def portSends : State := { regs := [(Reg.ethCtrl, 2), (Reg.ethStatus, 1)] }

/-- A PING without a session, from a host on port 0. -/
def pingOverUdp : Req := { ep := .udp 0 0 0, pkt := { opcode := 0x0001 } }

/-- The reply joins queue 0 of the MAC. -/
theorem macs_finish_pingOverUdp :
    (Rep.finish { state := portSends } pingOverUdp).macs = [{ sending := some 0, order := [.reply] }, {}] := by decide +kernel

/-- Refutes O5: the reply of a command that came over UDP is handed to the MAC of its port, so that the MAC's record changes as well. -/
theorem not_replyFrame : ¬ Obligations.ReplyFrame := by
  intro h
  have hmacs := congrArg State.macs (h portSends _ pingOverUdp [] St.ok 0 rfl)
  rw [macs_finish_pingOverUdp] at hmacs
  exact absurd hmacs (by decide)

end Sys2Proof.Machine
end

section
/-! SUPPORT. Reading the fields of a payload that was put together from little-endian fields (R5), and the shape in which an admitted command
completes. -/

namespace Sys2Proof

/-! ### Little-endian fields -/

@[simp] theorem length_leBytes (n v : Nat) : (leBytes n v).length = n := by
  induction n generalizing v with
  | zero => rfl
  | succ n ih => simp [leBytes, ih]

@[simp] theorem length_zeros (n : Nat) : (zeros n).length = n := List.length_replicate

/-- Induction on a list from its end, for folds from the left. -/
theorem list_snoc_induction {α : Type} {motive : List α → Prop} (nil : motive [])
    (append_singleton : ∀ (l : List α) (a : α), motive l → motive (l ++ [a])) (l : List α) : motive l := by
  have hreverse : ∀ r : List α, motive r.reverse := fun r => by
    induction r with
    | nil => exact nil
    | cons a r ih =>
      rw [List.reverse_cons]
      exact append_singleton _ a ih
  exact l.reverse_reverse ▸ hreverse l.reverse

theorem foldl_congr_mem {α β : Type} {f g : β → α → β} {l : List α} (h : ∀ b, ∀ a ∈ l, f b a = g b a) (b : β) : l.foldl f b = l.foldl g b := by
  induction l generalizing b with
  | nil => rfl
  | cons a l ih => rw [List.foldl_cons, List.foldl_cons, h b a List.mem_cons_self, ih fun b a ha => h b a (List.mem_cons_of_mem _ ha)]

/-- A byte behind the first part of a payload is a byte of the rest. -/
theorem u8_append_of_le {l r : Bytes} {i : Nat} (h : l.length ≤ i) : u8 (l ++ r) i = u8 r (i - l.length) := by
  unfold u8
  rw [List.getD_eq_getElem?_getD, List.getElem?_append_right h, List.getD_eq_getElem?_getD]

theorem u8_cons_of_pos (b : Byte) (r : Bytes) {i : Nat} (h : 0 < i) : u8 (b :: r) i = u8 r (i - 1) := by
  obtain ⟨j, rfl⟩ := Nat.exists_eq_succ_of_ne_zero (Nat.pos_iff_ne_zero.mp h)
  simp [u8]

@[simp] theorem u8_cons_zero (b : Byte) (r : Bytes) : u8 (b :: r) 0 = b.toNat := rfl

/-- Byte `i` of a field is its `i`-th digit to the base 256. -/
theorem u8_leBytes_append (n v : Nat) (r : Bytes) {i : Nat} (h : i < n) : u8 (leBytes n v ++ r) i = v / 256 ^ i % 256 := by
  induction n generalizing v i with
  | zero => omega
  | succ n ih =>
    cases i with
    | zero => simp [leBytes, u8]
    | succ i =>
      have hr : u8 (leBytes (n + 1) v ++ r) (i + 1) = u8 (leBytes n (v / 256) ++ r) i := rfl
      rw [hr, ih _ (by omega), Nat.div_div_eq_div_mul, Nat.pow_succ']

theorem u16_append_of_le {l r : Bytes} {i : Nat} (h : l.length ≤ i) : u16 (l ++ r) i = u16 r (i - l.length) := by
  have h1 : l.length ≤ i + 1 := Nat.le_succ_of_le h
  rw [u16, u16, u8_append_of_le h, u8_append_of_le h1, Nat.sub_add_comm h]

theorem u32_append_of_le {l r : Bytes} {i : Nat} (h : l.length ≤ i) : u32 (l ++ r) i = u32 r (i - l.length) := by
  have h2 : l.length ≤ i + 2 := Nat.le_trans h (Nat.le_add_right i 2)
  rw [u32, u32, u16_append_of_le h, u16_append_of_le h2, Nat.sub_add_comm h]

theorem u64_append_of_le {l r : Bytes} {i : Nat} (h : l.length ≤ i) : u64 (l ++ r) i = u64 r (i - l.length) := by
  have h4 : l.length ≤ i + 4 := Nat.le_trans h (Nat.le_add_right i 4)
  rw [u64, u64, u32_append_of_le h, u32_append_of_le h4, Nat.sub_add_comm h]

theorem u16_cons_of_pos (b : Byte) (r : Bytes) {i : Nat} (h : 0 < i) : u16 (b :: r) i = u16 r (i - 1) :=
  u16_append_of_le (l := [b]) h

theorem u32_cons_of_pos (b : Byte) (r : Bytes) {i : Nat} (h : 0 < i) : u32 (b :: r) i = u32 r (i - 1) :=
  u32_append_of_le (l := [b]) h

@[simp] theorem u8_leBytes_one_append (v : Nat) (r : Bytes) : u8 (leBytes 1 v ++ r) 0 = v % 256 := by
  simpa using u8_leBytes_append 1 v r Nat.zero_lt_one

@[simp] theorem u16_leBytes_append (v : Nat) (r : Bytes) : u16 (leBytes 2 v ++ r) 0 = v % 65536 := by
  simp only [u16, u8_leBytes_append 2 v r (i := 0) (by omega), u8_leBytes_append 2 v r (i := 0 + 1) (by omega)]
  omega

@[simp] theorem u32_leBytes_append (v : Nat) (r : Bytes) : u32 (leBytes 4 v ++ r) 0 = v % 2 ^ 32 := by
  simp only [u32, u16, u8_leBytes_append 4 v r (i := 0) (by omega), u8_leBytes_append 4 v r (i := 0 + 1) (by omega),
    u8_leBytes_append 4 v r (i := 0 + 2) (by omega), u8_leBytes_append 4 v r (i := 0 + 2 + 1) (by omega)]
  omega

/-- A field in two parts. -/
theorem leBytes_add (m n v : Nat) : leBytes (m + n) v = leBytes m v ++ leBytes n (v / 256 ^ m) := by
  induction m generalizing v with
  | zero => simp [leBytes]
  | succ m ih => rw [Nat.succ_add, leBytes, ih, leBytes, List.cons_append, Nat.div_div_eq_div_mul, Nat.pow_succ']

@[simp] theorem u64_leBytes_append (v : Nat) (r : Bytes) : u64 (leBytes 8 v ++ r) 0 = v % 2 ^ 64 := by
  rw [u64, leBytes_add 4 4, List.append_assoc, u32_leBytes_append, u32_append_of_le (by simp), length_leBytes]
  simp only [Nat.zero_add, Nat.sub_self, u32_leBytes_append]
  omega

theorem u8_leBytes_one (v : Nat) : u8 (leBytes 1 v) 0 = v % 256 := by simpa using u8_leBytes_one_append v []
theorem u16_leBytes (v : Nat) : u16 (leBytes 2 v) 0 = v % 65536 := by simpa using u16_leBytes_append v []
theorem u32_leBytes (v : Nat) : u32 (leBytes 4 v) 0 = v % 2 ^ 32 := by simpa using u32_leBytes_append v []

end Sys2Proof

namespace Sys2Proof.Machine

/-! ### The completion of an admitted command -/

/-- A command that is admitted completes with what its body answers. -/
theorem State.Admits.exec_eq {q : Req} {s : State} (h : s.Admits q) {i : Instr} {b : Body} {r : Rep} (hi : exec i s = s.runCommand q b)
    (hb : b q.ep (s.argOf q) (s.bodyAt q) = r) : exec i s = .next (r.finish q) := by
  rw [hi, State.runCommand_admits h, hb]

end Sys2Proof.Machine
end

section
/-! SUPPORT. The bodies of the system and cycle commands on well-formed payloads (Tables OPC-4 and OPC-5), and the statements
SystemCommandsComplete and CycleCommandsComplete. -/

namespace Sys2Proof.Machine

/-! ### System commands -/

section
variable (ep : Endpoint) {q : Packet} (s : State)

theorem bodyPing_of_le (h : q.payload.length ≤ 64) : bodyPing ep q s = { state := s, payload := q.payload } := by
  simp only [bodyPing, Nat.not_lt.mpr h, if_false]

/-- INFO's reply names the device, the open sessions, the token's holder and the warning. -/
theorem bodyInfo_of_nil (h : q.payload = []) : ∃ r, bodyInfo ep q s = { state := s, payload := r } ∧ r.length = 32 ∧
    u32 r 0 = 0x2B1607E5 ∧ u8 r 18 = s.sessionBits % 256 ∧ u8 r 19 = s.omx.token % 256 ∧ u8 r 28 = s.warning.toNat := by
  have hw : s.warning.toNat % 256 = s.warning.toNat := by cases s.warning <;> rfl
  refine ⟨_, if_neg (by simp [h]), ?_⟩
  simp [u8_append_of_le, hw]

theorem bodySessionOpen_of_free {n : Nat} (hlen : q.payload.length = 4) (hlive : u16 q.payload 0 = 0 ∨ 500 ≤ u16 q.payload 0 ∧ u16 q.payload 0 ≤ 60000)
    (hz : firstNonZero q.payload 2 2 = none) (hep : s.endpointBound ep = false) (hn : s.freeSession = some n) :
    bodySessionOpen ep q s =
      let ms := if u16 q.payload 0 = 0 then 3000 else u16 q.payload 0
      { state := { s with omx := { s.omx with
          sessions := Store.insert s.omx.sessions n { ep := ep, livenessMs := ms, expected := q.seq + 1, opening := s.omx.openings }
          openings := s.omx.openings + 1 } },
        payload := [BitVec.ofNat 8 n, 0] ++ leBytes 2 ms ++ leBytes 2 (q.seq + 1).toNat,
        after := fun t => t.firstEvents n } := by
  have hrange : ¬ (u16 q.payload 0 ≠ 0 ∧ (u16 q.payload 0 < 500 ∨ 60000 < u16 q.payload 0)) := by omega
  simp only [bodySessionOpen, hlen, hrange, hz, hep, hn, ne_eq, not_true_eq_false, if_false, Bool.false_eq_true]

theorem bodySessionClose_of_nil (h : q.payload = []) :
    bodySessionClose ep q s = { state := s, after := fun t => t.endSession q.session } := by
  simp [bodySessionClose, h]

theorem bodyCtrlTake_of_free (hp : q.payload = [0, 0, 0, 0]) (ht : s.omx.token = 0) (hs : q.session ≠ 0) :
    bodyCtrlTake ep q s = { state := { s with omx := { s.omx with token := q.session } }.dropStaging, payload := [0] } := by
  simp [bodyCtrlTake, hp, ht, Ne.symm hs, u8, firstNonZero, List.range_succ]
  rfl

theorem bodyCtrlRelease_of_holder (hp : q.payload = []) (ht : s.omx.token = q.session) :
    bodyCtrlRelease ep q s = { state := { s with omx := { s.omx with token := 0 } }.dropStaging } := by
  simp [bodyCtrlRelease, hp, ht]

theorem bodyTimeGet_of_nil (h : q.payload = []) : ∃ r, bodyTimeGet ep q s = { state := s, payload := r } ∧ r.length = 20 ∧
    u64 r 0 = s.nowUs % 2 ^ 64 ∧ u32 r 8 = s.wc.cycle.toNat ∧ u32 r 12 = (s.reg Reg.bbrRtcS).toNat := by
  refine ⟨_, if_neg (by simp [h]), ?_⟩
  have h1 : s.wc.cycle.toNat % 2 ^ 32 = s.wc.cycle.toNat := Nat.mod_eq_of_lt s.wc.cycle.isLt
  have h2 : (s.reg Reg.bbrRtcS).toNat % 2 ^ 32 = (s.reg Reg.bbrRtcS).toNat := Nat.mod_eq_of_lt (s.reg Reg.bbrRtcS).isLt
  simp only [List.append_assoc, u32_append_of_le, u64_leBytes_append, u32_leBytes_append, length_leBytes, List.length_append, length_zeros, h1, h2,
    Nat.reduceLeDiff, Nat.reduceSub, Nat.reduceAdd, Nat.sub_self, and_self]

theorem bodyResetDevice_of_forced (hlen : q.payload.length = 8) (hk : u32 q.payload 0 = 0xA5A5) (hf : u8 q.payload 4 = 1)
    (hz : firstNonZero q.payload 5 3 = none) :
    bodyResetDevice ep q s =
      { state := s, after := fun t => { t.raiseVector 8 with omx := { t.omx with resetAnnounced := true } } } := by
  simp [bodyResetDevice, hlen, hk, hf, hz]

end

/-- Settles O6: each body on the payload that its clause names. -/
theorem systemCommandsComplete : Obligations.SystemCommandsComplete := by
  rintro q s h p u rfl rfl
  refine ⟨fun hlen => ?ping, fun hp => ?info, ?sessionOpen, fun hp => ?close, fun hp ht hs => ?take, fun hp ht => ?release, fun hp => ?time,
    fun hlen hk hf hz => ?reset⟩
  case ping => exact h.exec_eq rfl (bodyPing_of_le _ _ hlen)
  case info =>
    obtain ⟨r, hb, hr⟩ := bodyInfo_of_nil q.ep (s.bodyAt q) hp
    exact ⟨r, h.exec_eq rfl hb, hr⟩
  case sessionOpen =>
    rintro n ms x hlen rfl hlive hz hep hn rfl
    exact h.exec_eq rfl (bodySessionOpen_of_free _ _ hlen hlive hz hep hn)
  case close => exact h.exec_eq rfl (bodySessionClose_of_nil _ _ hp)
  case take => exact h.exec_eq rfl (bodyCtrlTake_of_free _ _ hp ht hs)
  case release => exact h.exec_eq rfl (bodyCtrlRelease_of_holder _ _ hp ht)
  case time =>
    obtain ⟨r, hb, hr⟩ := bodyTimeGet_of_nil q.ep (s.bodyAt q) hp
    exact ⟨r, h.exec_eq rfl hb, hr⟩
  case reset => exact h.exec_eq rfl (bodyResetDevice_of_forced _ _ hlen hk hf hz)

end Sys2Proof.Machine
end

section
/-! SUPPORT. The run of failed authentications (R253): what answers a request keeps it below 3. The statement CycleCommandsComplete asks for a body
state whose run is 0 whatever the opcode of the request, while the reply ends a run only for the opcode of AUTH_RESPONSE: it is refuted. -/

namespace Sys2Proof.Machine

/-! ### A run of failures stays below 3 -/

/-- The run of failed authentications is short of the three that start a lockout. -/
def State.FewFails (s : State) : Prop := s.omx.authFailRun ≤ 2

theorem State.FewFails.of_eq {s t : State} (h : s.FewFails) (ht : t.omx.authFailRun = s.omx.authFailRun) : t.FewFails := by
  unfold State.FewFails
  rw [ht]
  exact h

section
variable (s : State)

theorem State.authFailRun_queueTx (port q : Nat) (item : List TxItem) {put : State → State}
    (h : (put s).omx.authFailRun = s.omx.authFailRun) : (s.queueTx port q item put).omx.authFailRun = s.omx.authFailRun := by
  unfold State.queueTx
  split
  · exact h
  · rfl

theorem State.authFailRun_send (ep : Endpoint) (p : Packet) : (s.send ep p).omx.authFailRun = s.omx.authFailRun := by
  cases ep with
  | pcie n =>
    simp only [State.send]
    split <;> rfl
  | udp ip port eth => exact s.authFailRun_queueTx _ _ _ rfl
  | hspi => rfl

theorem State.authFailRun_emitTo (n code handle : Nat) (payload : Bytes) :
    (s.emitTo n code handle payload).omx.authFailRun = s.omx.authFailRun := by
  unfold State.emitTo
  cases s.session n with
  | none => rfl
  | some x =>
    cases hx : x.ep with
    | pcie k =>
      simp only [hx]
      split <;> rfl
    | udp ip port eth =>
      simp only [hx]
      split
      · exact State.authFailRun_queueTx _ _ _ _ rfl
      · rfl
    | hspi =>
      simp only [hx]
      split <;> rfl

theorem State.authFailRun_faultA (event severity source : Nat) (payload : Word) :
    (s.faultA event severity source payload).omx.authFailRun = s.omx.authFailRun := by
  have hb : (s.bbrA event severity source payload).omx.authFailRun = s.omx.authFailRun := by rw [State.bbrA_omx]
  exact List.foldlRecOn (motive := fun t : State => t.omx.authFailRun = s.omx.authFailRun) _ _ hb
    fun t ht p _ => (t.authFailRun_emitTo ..).trans ht

variable {s}

theorem State.FewFails.updSession (h : s.FewFails) (n : Nat) (f : Session → Session) : (s.updSession n f).FewFails := h

theorem State.FewFails.noteAuth (h : s.FewFails) (q : Packet) (proved : Bool) (status : Nat) : (s.noteAuth q proved status).FewFails := by
  simp only [State.noteAuth]
  split
  · split
    · exact State.FewFails.of_eq (s := { s with omx := { s.omx with authFailRun := 0, lockout := true } }) (Nat.zero_le 2) (State.authFailRun_faultA ..)
    · show s.omx.authFailRun + 1 ≤ 2
      omega
  · split
    · exact Nat.zero_le 2
    · exact h

theorem State.FewFails.reply (h : s.FewFails) (ep : Endpoint) (q : Packet) (status handle : Nat) (payload : Bytes) (cont : Bool) :
    (s.reply ep q status handle payload cont).FewFails := by
  simp only [State.reply]
  refine State.FewFails.of_eq ?_ (State.authFailRun_send ..)
  split
  · exact h.noteAuth ..
  · split
    · exact (h.noteAuth ..).of_eq rfl
    · exact (h.noteAuth ..).of_eq rfl

theorem State.FewFails.replyBare (h : s.FewFails) (ep : Endpoint) (q : Packet) (status : Nat) (payload : Bytes) :
    (s.replyBare ep q status payload).FewFails :=
  (h.noteAuth q false status).of_eq (State.authFailRun_send ..)

theorem State.FewFails.fragment (h : s.FewFails) (q : Req) : (s.fragment q).FewFails := by
  have hd : (s.dropOtherAssembly q.pkt).FewFails := h.updSession _ _
  simp only [State.fragment]
  split
  · exact hd.reply ..
  · split <;> split <;> exact (hd.updSession _ _).reply ..

theorem State.FewFails.accept (h : s.FewFails) (q : Req) : (s.accept q).FewFails := by
  unfold State.accept
  split
  · exact State.FewFails.replyBare (s := s.usedFree) h ..
  · split
    · exact h.fragment q
    · exact h

theorem State.FewFails.answer (h : s.FewFails) (q : Req) (v : Verdict) : (s.answer q v).FewFails := by
  have hd : (s.dropOtherAssembly q.pkt).FewFails := h.updSession _ _
  cases v with
  | drop | quiet | hold | go => exact h
  | again r => exact h.of_eq (State.authFailRun_send ..)
  | answer st pl =>
    simp only [State.answer]
    split
    · exact State.FewFails.replyBare (s := s.usedFree) h ..
    · split
      · exact hd.reply ..
      · split
        · exact hd.replyBare ..
        · exact h.replyBare ..

theorem State.FewFails.releaseOne (h : s.FewFails) {n : Nat} {t : State} (ht : s.releaseOne n = some t) : t.FewFails := by
  unfold State.releaseOne at ht
  split at ht
  · cases ht
  · split at ht
    · cases ht
    · next x _ q _ =>
      have hu : (s.updSession n fun x => { x with heldReqs := x.heldReqs.filter fun r => r.pkt.seq != q.pkt.seq }).FewFails := h.of_eq rfl
      simp only [] at ht
      split at ht <;> cases ht
      · exact hu.accept q
      · exact hu.answer q _

theorem State.FewFails.settle (h : s.FewFails) (n fuel : Nat) : (s.settle n fuel).FewFails := by
  induction fuel generalizing s with
  | zero => exact h
  | succ fuel ih =>
    have release : (match s.releaseOne n with | some t => t.settle n fuel | none => s).FewFails := by
      cases ht : s.releaseOne n with
      | none => exact h
      | some t => exact ih (h.releaseOne ht)
    unfold State.settle
    split
    · next q _ =>
      split
      · exact ih (State.FewFails.fragment (s := { s with omx := { s.omx with interp := s.omx.interp.erase q } }) h q)
      · exact release
    · exact release

theorem State.FewFails.finish (h : s.FewFails) (payload : Bytes) (q : Req) : (Rep.finish { state := s, payload := payload } q).FewFails :=
  State.FewFails.settle (h.reply ..) ..

end

/-! ### A right AUTH_RESPONSE row whose packet has the opcode of PING -/

/-- The challenge of the session below. -/
def openChallenge : Challenge := { hostNonce := zeros 16, devNonce := zeros 16 }

/-- An open device with a customer key and three failed authentications; session 1 has a challenge. -/
def failedThrice : State :=
  { regs := [(Reg.sysctlBootStatus, BitVec.ofNat 32 (2 ^ 15))], otp := { custKey := some (zeros 32) },
    omx := { sessions := [(1, { ep := .pcie 0, livenessMs := 3000, expected := 5, challenge := some openChallenge })], authFailRun := 3 } }

/-- The right response to the challenge, in a packet with the opcode of PING. -/
def responseAsPing : Req :=
  { ep := .pcie 0, pkt := { session := 1, seq := 5, opcode := 0x0001, payload := hmac (zeros 32) (labelHost ++ zeros 16 ++ zeros 16 ++ [1]) } }

theorem failedThrice_admits : failedThrice.Admits responseAsPing where
  idle := rfl
  passes := by decide +kernel
  whole := rfl
  fits := by decide +kernel
  allowed := by decide +kernel

theorem authFailRun_finish_responseAsPing :
    (Rep.finish (bodyAuthResponse responseAsPing.ep (failedThrice.argOf responseAsPing) (failedThrice.bodyAt responseAsPing))
      responseAsPing).omx.authFailRun = 3 := by decide +kernel

/-- Refutes O7: the AUTH_RESPONSE clause gives a body state whose run of failures is 0, so that the run stays below 3 to the end of the command; but a
request whose packet carries another opcode than AUTH_RESPONSE's leaves a run of 3 as it was. -/
theorem not_cycleCommandsComplete : ¬ Obligations.CycleCommandsComplete := by
  intro h
  obtain ⟨-, hresponse, -⟩ := h responseAsPing failedThrice failedThrice_admits _ _ rfl rfl
  obtain ⟨v, hexec, hrun, -⟩ := hresponse (zeros 32) openChallenge (by decide +kernel) rfl rfl (by decide +kernel)
  have hfinish := failedThrice_admits.exec_eq (i := .authResponse responseAsPing) rfl rfl
  rw [hexec] at hfinish
  have hv : v.FewFails := Nat.le_trans (Nat.le_of_eq hrun) (Nat.zero_le 2)
  have hend := hv.finish (hmac (zeros 32) (labelDev ++ openChallenge.hostNonce ++ openChallenge.devNonce ++ [1])) responseAsPing
  have hsame := Host.Outcome.next.inj hfinish
  rw [State.FewFails] at hend
  have hrun3 := authFailRun_finish_responseAsPing
  rw [← hsame] at hrun3
  exact absurd (hrun3 ▸ hend) (by decide)

end Sys2Proof.Machine
end

section
/-! SUPPORT. Channel reads, dependencies and model blocks (Table OPC-6), the hand-over of a change (R26, R267), and the statement
ChannelReadsComplete. -/

namespace Sys2Proof

@[simp] theorem length_leInt (n : Nat) (v : Int) : (leInt n v).length = n := length_leBytes ..

/-- Records of one length make a string of a multiple of it. -/
theorem length_flatMap_of_const {α : Type} (l : List α) (f : α → Bytes) {n : Nat} (h : ∀ x, (f x).length = n) :
    (l.flatMap f).length = n * l.length := by
  induction l with
  | nil => rfl
  | cons x r ih => rw [List.flatMap_cons, List.length_append, h, ih, List.length_cons, Nat.mul_succ, Nat.add_comm]

end Sys2Proof

namespace Sys2Proof.Machine

/-! ### The hand-over of a change -/

section
variable (s : State) (q : Packet) (e : Effect) (c : Change) (tail : Bytes)

theorem changeRep_of_on (h : s.cycleOn = true) : changeRep s q e c tail =
    { state := s.pend e c (s.notifyOf q), status := changeStatus q,
      payload := leBytes 4 (if e = .atPass then s.passCycle else s.effectCycle).toNat ++ tail } := by
  simp [changeRep, State.change, State.appliesNow, h]

theorem changeRep_of_off (h : s.cycleOn = false) : (changeRep s q e c tail).state = s.applyStopped c ∧
    (changeRep s q e c tail).payload = leBytes 4 0 ++ tail := by
  simp [changeRep, State.change, State.appliesNow, h]

theorem changeRep_status : (changeRep s q e c tail).status = if q.isAsync then 1 else 0 := rfl

/-- The waiting change that `pend` lists carries its cycle. -/
theorem State.pend_eq (n : Option Notify) : s.pend e c n = { s with changes := s.changes ++
    [{ effect := e, cycle := if e = .atPass then s.passCycle else s.effectCycle, notify := n, change := c }] } := rfl

theorem State.effectCycle_of_untaken (hr : s.wc.running = true) (hb : s.wc.boundaryTaken = false) : s.effectCycle = s.wc.cycle := by
  simp [State.effectCycle, hr, hb]

theorem State.effectCycle_of_taken (hr : s.wc.running = true) (hb : s.wc.boundaryTaken = true) (hs : s.wc.stopPending = false) :
    s.effectCycle = if s.wc.cycle + 1 = 0 then 1 else s.wc.cycle + 1 := by
  simp [State.effectCycle, hr, hb, hs, nextCycle]

end

/-! ### The bodies -/

section
variable (ep : Endpoint) {q : Packet} (s : State)

/-- CH_LIST from slot 0 without filters: a page of all channels. -/
theorem bodyChList_of_all (hlen : q.payload.length = 4) (h0 : u16 q.payload 0 = 0) (hst : u8 q.payload 2 = 0xFF) (ht : u8 q.payload 3 = 0) :
    ∃ r page rest, bodyChList ep q s = { state := s, payload := r } ∧ s.chans = page ++ rest ∧
      page.length = min (pageSize (s.replyMax ep q) 4 4 256) s.chans.length ∧ u16 r 0 = page.length % 65536 ∧
      r.length = 4 + 4 * page.length ∧ (rest = [] → u16 r 2 = 0xFFFF) := by
  have hall : (s.chans.filter fun x => decide (u16 q.payload 0 ≤ x.1) && (u8 q.payload 2 == 0xFF || x.2.state.code == u8 q.payload 2) &&
      (u8 q.payload 3 == 0 || x.2.typ.code == u8 q.payload 3)) = s.chans := by simp [h0, hst, ht]
  simp only [bodyChList, hall]
  generalize hn : pageSize (s.replyMax ep q) 4 4 256 = n
  simp only [hlen, h0, hst, ht, ne_eq, not_true_eq_false, if_false, and_false, Nat.not_lt_zero]
  refine ⟨_, s.chans.take n, s.chans.drop n, rfl, (List.take_append_drop ..).symm, List.length_take, ?_, ?_, ?_⟩
  · simp only [List.append_assoc, u16_leBytes_append]
  · rw [List.length_append, List.length_append, length_leBytes, length_leBytes, length_flatMap_of_const _ _ (n := 4) (fun x => by simp)]
  · intro hrest
    simp [hrest, u16_append_of_le]

variable {ep s}

theorem State.named_of_ok {c : Channel} (hc : s.checkHandle q.handle = .ok c) (hd : c.destroying = false) (k : Nat → Channel → Rep) :
    s.named q k = k (slotOf q.handle) c := by
  simp [State.named, hc, hd]

theorem bodyChRead_of_record {c : Channel} (hc : s.checkHandle q.handle = .ok c) (hp : q.payload = [0, 0, 0, 0]) :
    bodyChRead ep q s = { state := s, payload := s.chRecord (slotOf q.handle) c } := by
  simp [bodyChRead, hc, hp, u8, firstNonZero, List.range_succ]

theorem bodyChDepend_of_good {c : Channel} (hc : s.checkHandle q.handle = .ok c) (hd : c.destroying = false)
    (hlen : q.payload.length = 4 + 4 * u8 q.payload 0) (hn : u8 q.payload 0 ≤ 8) (hz : firstNonZero q.payload 1 3 = none)
    (hbad : s.badDep (slotOf q.handle) q.payload = none) :
    bodyChDepend ep q s = restRep s q (slotOf q.handle) c (.depend (slotOf q.handle)
      ((List.range (u8 q.payload 0)).map fun i => ⟨u16 q.payload (4 + 4 * i), u8 q.payload (6 + 4 * i)⟩)) := by
  have hlen' : ¬ (q.payload.length < 4 ∨ q.payload.length ≠ 4 + 4 * u8 q.payload 0) := by omega
  rw [bodyChDepend, State.named_of_ok hc hd]
  simp only [hlen', Nat.not_lt.mpr hn, hz, hbad, if_false]

/-- CH_MODEL without a block: the operation that OP names. -/
theorem bodyChModel_of_short {c : Channel} (hc : s.checkHandle q.handle = .ok c) (hd : c.destroying = false) (hlen : q.payload.length = 8)
    (hz1 : firstNonZero q.payload 1 1 = none) (hm : u16 q.payload 2 = 0) (hz4 : firstNonZero q.payload 4 4 = none) :
    (u8 q.payload 0 = 0 → bodyChModel ep q s = modelRead s c) ∧
    (u8 q.payload 0 = 2 → bodyChModel ep q s = modelTrimOn s q (slotOf q.handle)) ∧
    (u8 q.payload 0 = 3 → bodyChModel ep q s = modelTrimOff s q (slotOf q.handle)) ∧
    (u8 q.payload 0 = 4 → bodyChModel ep q s = modelRestore s q (slotOf q.handle)) := by
  refine ⟨?_, ?_, ?_, ?_⟩ <;> intro ho <;> rw [bodyChModel, State.named_of_ok hc hd] <;> simp [modelLayout, hlen, hz1, hm, hz4, ho]

theorem bodyChModel_of_write {c : Channel} (hc : s.checkHandle q.handle = .ok c) (hd : c.destroying = false) (hlen : q.payload.length = 64)
    (ho : u8 q.payload 0 = 1) (hz1 : firstNonZero q.payload 1 1 = none) (hm : u16 q.payload 2 = 56) (hz4 : firstNonZero q.payload 4 4 = none)
    (hgood : ((modelChecks c.typ (q.payload.drop 8)).find? fun f => !f.good) = none) :
    bodyChModel ep q s = changeRep s q .atCycle (.modelWrite (slotOf q.handle) (q.payload.drop 8)) [0, 0, 0, 0] := by
  rw [bodyChModel, State.named_of_ok hc hd]
  simp only [modelLayout, hlen, ho, hz1, hm, hz4, beq_self_eq_true, if_true, modelWrite, hgood]
  rfl

end

/-- What the record of CH_READ names of its channel. -/
theorem State.chRecord_fields (s : State) (slot : Nat) (c : Channel) : (s.chRecord slot c).length = 36 ∧
    u16 (s.chRecord slot c) 0 = s.handleOf slot % 65536 ∧ u8 (s.chRecord slot c) 2 = c.typ.code % 256 ∧
    u8 (s.chRecord slot c) 3 = c.state.code % 256 := by
  simp [State.chRecord, u8_append_of_le]

/-- Settles O9: each body on the payload that its clause names, then the two ways in which a change is handed over. -/
theorem channelReadsComplete : Obligations.ChannelReadsComplete := by
  refine ⟨?_, fun s q e c tail => ⟨fun hon => ?_, changeRep_of_off s q e c tail, changeRep_status s q e c tail, s.effectCycle_of_untaken,
    s.effectCycle_of_taken⟩⟩
  · rintro q s h _ _ _ rfl rfl rfl
    refine ⟨fun hlen h0 hst ht => ?list, ?_⟩
    case list =>
      obtain ⟨r, page, rest, hb, hr⟩ := bodyChList_of_all q.ep (s.bodyAt q) hlen h0 hst ht
      exact ⟨r, page, rest, h.exec_eq rfl hb, hr⟩
    rintro c _ rfl hc hd
    refine ⟨fun hp => ⟨?read, State.chRecord_fields ..⟩, fun hlen hn hz hbad => ?depend, fun hlen hz1 hm hz4 => ?short,
      fun hlen ho hz1 hm hz4 hgood => ?write⟩
    case read => exact h.exec_eq rfl (bodyChRead_of_record hc hp)
    case depend => exact h.exec_eq rfl (bodyChDepend_of_good hc hd hlen hn hz hbad)
    case short =>
      obtain ⟨hread, hon, hoff, hrestore⟩ := bodyChModel_of_short (ep := q.ep) (q := s.argOf q) hc hd hlen hz1 hm hz4
      exact ⟨fun ho => h.exec_eq rfl (hread ho), fun ho => h.exec_eq rfl (hon ho), fun ho => h.exec_eq rfl (hoff ho),
        fun ho => h.exec_eq rfl (hrestore ho)⟩
    case write => exact h.exec_eq rfl (bodyChModel_of_write hc hd hlen ho hz1 hm hz4 hgood)
  · rw [changeRep_of_on s q e c tail hon]
    exact ⟨_, s.pend_eq e c _, rfl, rfl, fun he => by simp [he]⟩

end Sys2Proof.Machine
end

section
/-! SUPPORT. The bodies of the station commands on well-formed payloads (Table OPC-7), and the statement StationCommandsComplete. -/

namespace Sys2Proof.Machine

@[simp] theorem length_beBytes (n v : Nat) : (beBytes n v).length = n := by simp [beBytes]

theorem u8_lt (b : Bytes) (i : Nat) : u8 b i < 256 := (b.getD i 0).isLt

/-- The record of a network station after an ST_ADMIT with payload `p` (R288). -/
def Station.admitted (st : Station) (p : Bytes) : Station :=
  let x := { st with
    mode := if u8 p 1 = 1 then .locked else if u8 p 1 = 2 then .refuse else .auto
    lockPort := u8 p 2
    lockMac := ofBe (slice p 4 6) }
  if u16 p 10 = 0 then x
  else { x with config := p.drop 16, refusedCfg := false, configSeq := u16 (p.drop 16) 0, missK := u8 (p.drop 16) 3 }

theorem Station.admitted_fields (st : Station) (p : Bytes) :
    (st.admitted p).mode = (if u8 p 1 = 1 then .locked else if u8 p 1 = 2 then .refuse else .auto) ∧ (st.admitted p).lockPort = u8 p 2 ∧
    (st.admitted p).lockMac = ofBe (slice p 4 6) ∧ (st.admitted p).state = st.state ∧
    (u16 p 10 = 0 → (st.admitted p).config = st.config) ∧ (u16 p 10 ≠ 0 → (st.admitted p).config = p.drop 16) := by
  unfold Station.admitted
  by_cases h : u16 p 10 = 0 <;> simp [h]

section
variable {ep : Endpoint} {q : Packet} {s : State}

theorem bodyStList_of_zero (hp : q.payload = [0, 0, 0, 0]) : ∃ r page, bodyStList ep q s = { state := s, payload := r } ∧
    page = ((List.range 128).filter fun i => (Store.find? s.tl.stations i).isSome).take (pageSize (s.replyMax ep q) 4 8 128) ∧
    r.length = 4 + 8 * page.length ∧ u8 r 0 = page.length % 256 := by
  have h0 : u8 [(0 : Byte), 0, 0, 0] 0 = 0 := rfl
  have hz : firstNonZero [0, 0, 0, 0] 1 3 = none := by decide
  simp only [bodyStList, hp, h0, hz, List.length_cons, List.length_nil, Nat.zero_add, Nat.reduceAdd, ne_eq, not_true_eq_false, if_false,
    gt_iff_lt, Nat.not_lt_zero, Nat.zero_le, decide_true, Bool.true_and]
  refine ⟨_, _, rfl, rfl, ?_, ?_⟩
  · simp only [List.length_append, length_leBytes, length_zeros]
    rw [length_flatMap_of_const _ _ (n := 8) (fun i => by simp)]
  · simp only [List.append_assoc, u8_leBytes_one_append]

/-- ST_ADMIT of a network station without PERSIST keeps its record with the mode, the lock and, where it carries one, the block. -/
theorem bodyStAdmit_of_network (hlen : q.payload.length = 16 + u16 q.payload 10) (hid : u8 q.payload 0 < 112) (hmode : u8 q.payload 1 ≤ 2)
    (hport : u8 q.payload 1 = 1 → u8 q.payload 2 ≤ 1) (hpersist : u8 q.payload 3 = 0) (hsize : u16 q.payload 10 ≤ 16384)
    (hz : firstNonZero q.payload 12 4 = none) (hcfg : u16 q.payload 10 ≠ 0 → s.configFault (u8 q.payload 0) (q.payload.drop 16) = none)
    (hrefuse : u8 q.payload 1 = 2 → (s.station (u8 q.payload 0)).state ≠ .moored ∧ (s.station (u8 q.payload 0)).state ≠ .slack) :
    bodyStAdmit ep q s =
      { state := s.setStation (u8 q.payload 0) ((s.station (u8 q.payload 0)).admitted q.payload),
        payload := [BitVec.ofNat 8 ((s.station (u8 q.payload 0)).admitted q.payload).state.code] } := by
  have hlen' : ¬ (q.payload.length < 16 ∨ q.payload.length ≠ 16 + u16 q.payload 10) := by omega
  have hid' : ¬ u8 q.payload 0 > 127 := by omega
  have hport' : ¬ (u8 q.payload 1 = 1 ∧ 1 < u8 q.payload 2) := fun ⟨h1, h2⟩ => absurd (hport h1) (Nat.not_le.mpr h2)
  have hfault : (if u16 q.payload 10 ≠ 0 then s.configFault (u8 q.payload 0) (q.payload.drop 16) else none) = none := by
    split
    · next h => exact hcfg h
    · rfl
  have hstate : ¬ (u8 q.payload 1 = 2 ∧ ((s.station (u8 q.payload 0)).state = .moored ∨ (s.station (u8 q.payload 0)).state = .slack)) :=
    fun ⟨h2, h⟩ => h.elim (hrefuse h2).1 (hrefuse h2).2
  have hnet : ¬ 112 ≤ u8 q.payload 0 := Nat.not_le.mpr hid
  simp only [bodyStAdmit, hlen', hid', Nat.not_lt.mpr hmode, Nat.not_lt.mpr hsize, hid, hpersist, hz, hfault, hnet, hport', hstate, if_false,
    if_true, decide_true, decide_false, Bool.true_and, Bool.false_and, Bool.false_eq_true, gt_iff_lt, Nat.not_lt_zero, Nat.zero_ne_one,
    State.station_setStation_self, Bool.and_eq_true, Bool.or_eq_true, decide_eq_true_eq]
  rfl

theorem bodyStFallback_of_one (hlen : q.payload.length = 12) (hid : u8 q.payload 0 < 112) (hn : u8 q.payload 1 = 1) (hf : u8 q.payload 2 ≤ 15)
    (hz : u8 q.payload 3 = 0) (hpt : u8 q.payload 4 ≤ 63) (hact : u8 q.payload 5 ≤ 2)
    (hdir : pointDir (u8 q.payload 0) (s.station (u8 q.payload 0)).config (u8 q.payload 4) = some true) (hz6 : u8 q.payload 6 = 0)
    (hz7 : u8 q.payload 7 = 0) :
    bodyStFallback ep q s =
      if (s.station (u8 q.payload 0)).state = .moored || (s.station (u8 q.payload 0)).state = .slack then
        { state := s.sendFallback (u8 q.payload 0) q.payload (s.notifyOf q true), status := St.accepted, payload := leBytes 4 s.frameCycle }
      else { state := s.setStation (u8 q.payload 0) ((s.station (u8 q.payload 0)).keepFallback q.payload (s.notifyOf q true)),
             status := St.accepted, payload := leBytes 4 0 } := by
  have h63 : ¬ 63 < u8 q.payload 4 := Nat.not_lt.mpr hpt
  have h2 : ¬ 2 < u8 q.payload 5 := Nat.not_lt.mpr hact
  simp [bodyStFallback, hlen, Nat.not_le.mpr hid, hn, Nat.not_lt.mpr hf, hz, List.range_succ, h63, h2, hdir, hz6, hz7]

theorem bodyStRelease_of_known (hlen : q.payload.length = 4) (hid : u8 q.payload 0 ≤ 127) (hf : u8 q.payload 1 ≤ 1)
    (hz : firstNonZero q.payload 2 2 = none) (hst : (s.station (u8 q.payload 0)).state ≠ .absent)
    (hdep : u8 q.payload 1 = 0 → (s.chans.any fun x => x.2.state.runs && x.2.roles.any fun b => b.station == u8 q.payload 0) = false) :
    bodyStRelease ep q s = changeRep s q .atCommit (.stRelease (u8 q.payload 0) (decide (u8 q.payload 1 = 1))) := by
  have hdep' : (decide (u8 q.payload 1 = 0) && s.chans.any fun x => x.2.state.runs && x.2.roles.any fun b => b.station == u8 q.payload 0) = false := by
    by_cases h0 : u8 q.payload 1 = 0
    · simp only [h0, hdep h0, Bool.and_false]
    · simp only [h0, decide_false, Bool.false_and]
  simp only [bodyStRelease, hlen, Nat.not_lt.mpr hid, Nat.not_lt.mpr hf, hz, hst, hdep', ne_eq, not_true_eq_false, if_false,
    Bool.false_eq_true]

theorem bodyStStatus_of_id (hlen : q.payload.length = 4) (hid : u8 q.payload 0 ≤ 127) (hz : firstNonZero q.payload 1 3 = none) :
    bodyStStatus ep q s = { state := s, payload := s.stRecord (u8 q.payload 0) } := by
  simp only [bodyStStatus, hlen, Nat.not_lt.mpr hid, hz, ne_eq, not_true_eq_false, if_false]

end

/-- What the record of ST_STATUS names of its station. -/
theorem State.stRecord_fields (s : State) (id : Nat) : (s.stRecord id).length = 48 ∧ u8 (s.stRecord id) 0 = id % 256 ∧
    u8 (s.stRecord id) 1 = (s.station id).state.code % 256 := by
  simp [State.stRecord, pointMask, u8_append_of_le]

/-- Settles O10: each body on the payload that its clause names. -/
theorem stationCommandsComplete : Obligations.StationCommandsComplete := by
  rintro q s h _ _ _ rfl rfl rfl
  refine ⟨fun hp => ?list, fun hlen hid hmode hport hpersist hsize hz hcfg hrefuse => ?admission, ?fallback,
    fun hlen hid hf hz hst hdep => ?release, fun hlen hid hz => ⟨?status, ?record⟩⟩
  case list =>
    obtain ⟨r, page, hb, hr⟩ := bodyStList_of_zero (ep := q.ep) (s := s.bodyAt q) hp
    exact ⟨r, page, h.exec_eq rfl hb, hr⟩
  case admission =>
    exact ⟨_, h.exec_eq rfl (bodyStAdmit_of_network hlen hid hmode hport hpersist hsize hz hcfg hrefuse), Station.admitted_fields _ _⟩
  case fallback =>
    rintro _ rfl hlen hid hn hf hz hpt hact hdir hz6 hz7
    have hb := bodyStFallback_of_one (ep := q.ep) hlen hid hn hf hz hpt hact hdir hz6 hz7
    exact ⟨fun hm hs => h.exec_eq rfl (by rw [hb]; simp [hm, hs]; rfl), fun hms _ => h.exec_eq rfl (by rw [hb]; simp [hms])⟩
  case release => exact h.exec_eq rfl (bodyStRelease_of_known hlen hid hf hz hst hdep)
  case status => exact h.exec_eq rfl (bodyStStatus_of_id hlen hid hz)
  case record =>
    obtain ⟨hl, h0, h1⟩ := (s.bodyAt q).stRecord_fields (u8 (s.argOf q).payload 0)
    exact ⟨hl, h0.trans (Nat.mod_eq_of_lt (u8_lt _ _)), h1⟩

end Sys2Proof.Machine
end

section
/-! SUPPORT. A TANK_DEFINE whose NAME is not ASCII text is refused (Table OPC-8), which refutes the statement VesselCommandsComplete: it asks no
such thing of the payload. -/

namespace Sys2Proof.Machine

/-- A device after Harbour Open with one session, of mailbox pair 0, which holds the control token. -/
def openDevice : State :=
  { regs := [(Reg.sysctlBootStatus, BitVec.ofNat 32 (2 ^ 15))],
    omx := { sessions := [(1, { ep := .pcie 0, livenessMs := 3000, expected := 5 })], token := 1 } }

/-- A request of that session. -/
def requestOf (opcode : Nat) (payload : Bytes) : Req := { ep := .pcie 0, pkt := { session := 1, seq := 5, opcode := opcode, payload := payload } }

/-- TANK_DEFINE of tank 0, of KIND 1 with two points, whose NAME begins with a byte that is not ASCII. -/
def oddlyNamedTank : Bytes := [0, 0, 1, 0] ++ zeros 10 ++ [2, 0] ++ zeros 4 ++ [0xFF] ++ zeros 7

theorem openDevice_admits_oddlyNamedTank : openDevice.Admits (requestOf 0x0403 oddlyNamedTank) where
  idle := rfl
  passes := by decide +kernel
  whole := rfl
  fits := by decide +kernel
  allowed := by decide +kernel

/-- The refusal leaves no definition in the staging model. -/
theorem tanks_finish_oddlyNamedTank :
    (Rep.finish (bodyTankDefine (.pcie 0) (openDevice.argOf (requestOf 0x0403 oddlyNamedTank)) (openDevice.bodyAt (requestOf 0x0403 oddlyNamedTank)))
      (requestOf 0x0403 oddlyNamedTank)).ves.staging.tanks = [] := by decide +kernel

/-- Refutes O11: TANK_DEFINE refuses a NAME that is not ASCII, so that it stages nothing, where the statement has it stage every definition whose
numbers are in range. -/
theorem not_vesselCommandsComplete : ¬ Obligations.VesselCommandsComplete := by
  intro h
  obtain ⟨-, htank, -⟩ := h _ _ openDevice_admits_oddlyNamedTank _ _ _ rfl rfl rfl
  have hexec := htank (by decide) (by decide) (by decide) (by decide) (by decide) (by decide) (by decide)
  rw [openDevice_admits_oddlyNamedTank.exec_eq (b := bodyTankDefine) rfl rfl] at hexec
  have htanks := congrArg (fun t : State => t.ves.staging.tanks) (Host.Outcome.next.inj hexec)
  exact absurd (tanks_finish_oddlyNamedTank.symm.trans htanks) (by decide +kernel)

end Sys2Proof.Machine
end

section
/-! SUPPORT. The bodies of the program, firmware, patch and OTP commands on well-formed payloads (Tables OPC-9 and OPC-14), and the statement
ImageCommandsComplete. -/

namespace Sys2Proof.Machine

section
variable {ep : Endpoint} {q : Packet} {s : State}

/-- PROG_LOAD of a sound image under a free identifier that no running channel names. -/
theorem bodyProgLoad_of_sound (hlen : 40 ≤ q.payload.length) (h0 : u8 q.payload 0 = 0) (h1 : u8 q.payload 1 = 0) (hlo : 1 ≤ u16 q.payload 2)
    (hhi : u16 q.payload 2 ≤ 255) (hlay : imgLayoutFault (q.payload.drop 4) = none) (hcode : imgCodeFault (q.payload.drop 4) = none)
    (hcrc : (crc32 ((q.payload.drop 4).take ((q.payload.drop 4).length - 4))).toNat = u32 (q.payload.drop 4) ((q.payload.drop 4).length - 4))
    (hnew : Store.find? s.programs (u16 q.payload 2) = none) (hfree : (q.payload.drop 4).length ≤ s.basin1Free)
    (hused : ((s.admitView.progUsers (u16 q.payload 2)).any fun c => c.state.runs) = false) (hasync : q.isAsync = false) :
    bodyProgLoad ep q s =
      { state := { s with programs := (Store.insert s.programs (u16 q.payload 2)
          ⟨q.payload.drop 4, u32 (q.payload.drop 4) 12, crc32 ((q.payload.drop 4).take ((q.payload.drop 4).length - 4)), false, false⟩) },
        payload := leBytes 2 (u16 q.payload 2) ++ [0, 0] ++ leBytes 4 (u32 (q.payload.drop 4) 12) ++ [0, 0, 0, 0], after := fun v => v } := by
  have hid : ¬ (u16 q.payload 2 = 0 ∨ 255 < u16 q.payload 2) := by omega
  simp only [bodyProgLoad, Nat.not_lt.mpr hlen, h0, h1, hid, hlay, hcode, hcrc, hnew, Nat.not_lt.mpr hfree, hused, changeStatus,
    State.notifyOf, hasync, gt_iff_lt, Nat.not_lt_zero, ne_eq, not_true_eq_false, Option.isSome_none, Nat.zero_div, Bool.or_self,
    Bool.false_eq_true, false_and, if_false]
  rfl

theorem bodyProgUnload_of_unused (hlen : q.payload.length = 4) (hz : firstNonZero q.payload 2 2 = none)
    (hsome : (Store.find? s.programs (u16 q.payload 0)).isSome = true) (hused : s.progUsers (u16 q.payload 0) = []) :
    bodyProgUnload ep q s = { state := { s with
      programs := Store.erase s.programs (u16 q.payload 0)
      flash := { s.flash with progs := Store.erase s.flash.progs (u16 q.payload 0) } } } := by
  obtain ⟨g, hg⟩ := Option.isSome_iff_exists.mp hsome
  simp [bodyProgUnload, hlen, hz, hg, hused]

theorem bodyProgInfo_of_list (hp : q.payload = [0, 0, 0, 0]) : bodyProgInfo ep q s =
    { state := s, payload := leBytes 2 s.programs.length ++ zeros 2 ++ leBytes 4 s.basin1Free ++ s.programs.flatMap fun g => leBytes 2 g.1 } := by
  have hz : firstNonZero [0#8, 0#8, 0#8, 0#8] 2 2 = none := by decide
  simp [bodyProgInfo, hp, hz, u16, u8]

/-! ### FW_UPDATE -/

theorem bodyFwUpdate_of_begin (hlen : 268 ≤ q.payload.length) (h0 : u8 q.payload 0 = 0) (hz : firstNonZero q.payload 1 3 = none)
    (hnone : s.omx.firmware = none) (hoff : u32 q.payload 4 = 0) (hlo : 260 ≤ u32 q.payload 8) (hhi : u32 q.payload 8 ≤ 393472)
    (hfit : q.payload.length ≤ 12 + u32 q.payload 8) : bodyFwUpdate ep q s =
      { state := s.setFw (some ⟨q.session, u32 q.payload 8, false, q.payload.drop 12⟩), payload := s.fwReply (q.payload.length - 12) 0 } := by
  have hlen' : ¬ q.payload.length < 12 := by omega
  have hdata : ¬ q.payload.length - 12 < 256 := by omega
  have htotal : ¬ (u32 q.payload 8 < 260 ∨ u32 q.payload 8 > 393472 ∨ q.payload.length - 12 > u32 q.payload 8) := by omega
  simp [bodyFwUpdate, fwFields, fwBegin, hlen', h0, hz, hdata, hoff, htotal, hnone]

/-- The field checks that the operations on a staging share. -/
theorem fwFields_of_good (hlen : 12 ≤ q.payload.length) (hop : u8 q.payload 0 ≤ 3) (hshort : u8 q.payload 0 ≠ 1 → q.payload.length = 12)
    (hz : firstNonZero q.payload 1 3 = none) (ht : u32 q.payload 8 = 0) (begin : Bool) : fwFields s q.payload begin = none := by
  have hlen' : ¬ (q.payload.length < 12 ∨ ((u8 q.payload 0 = 2 ∨ u8 q.payload 0 = 3) ∧ q.payload.length ≠ 12)) := by omega
  simp [fwFields, hlen', Nat.not_lt.mpr hop, hz, ht]

theorem State.fwStaging_of_owner {g : Staging} {n : Nat} (hg : s.omx.firmware = some g) (ho : g.owner = n) : s.fwStaging n = some g := by
  simp [State.fwStaging, hg, ho]

section
variable {g : Staging} (hlen : 12 ≤ q.payload.length) (hz : firstNonZero q.payload 1 3 = none) (ht : u32 q.payload 8 = 0)
  (hg : s.omx.firmware = some g) (ho : g.owner = q.session)
include hlen hz ht hg ho

theorem bodyFwUpdate_of_data (hop : u8 q.payload 0 = 1) (hoff : u32 q.payload 4 = g.data.length)
    (hfit : g.data.length + q.payload.length ≤ g.total + 12) : bodyFwUpdate ep q s =
      { state := s.setFw (some { g with data := g.data ++ q.payload.drop 12 }), payload := s.fwReply (g.data ++ q.payload.drop 12).length 0 } := by
  have hfit' : ¬ g.data.length + (q.payload.length - 12) > g.total := by omega
  have hop3 : u8 q.payload 0 ≤ 3 := by omega
  have hff := fwFields_of_good (s := s) hlen hop3 (fun h => absurd hop h) hz ht false
  simp [bodyFwUpdate, hff, hop, fwData, State.fwStaging_of_owner hg ho, hoff, hfit']

theorem bodyFwUpdate_of_commit (hop : u8 q.payload 0 = 2) (hl : q.payload.length = 12) (hall : g.data.length = g.total)
    (hres : s.imageResult g.data = 1) (hseq : s.boot.imgSeq < u32 g.data 12) : bodyFwUpdate ep q s =
      { state := (s.setFw none).queueWrite (.writeFwSlot s.otherSlot g.data (s.notifyOf q true)), status := St.accepted,
        payload := s.fwReply g.data.length 1 } := by
  have hop3 : u8 q.payload 0 ≤ 3 := by omega
  have hff := fwFields_of_good (s := s) hlen hop3 (fun _ => hl) hz ht false
  have hseq' : ¬ u32 g.data 12 ≤ s.boot.imgSeq := Nat.not_le.mpr hseq
  simp [bodyFwUpdate, hff, hop, fwCommit, State.fwStaging_of_owner hg ho, hall, hres, hseq']

theorem bodyFwUpdate_of_abort (hop : u8 q.payload 0 = 3) (hl : q.payload.length = 12) : bodyFwUpdate ep q s =
    { state := s.setFw none, payload := s.fwReply g.data.length 0 } := by
  have hop3 : u8 q.payload 0 ≤ 3 := by omega
  have hff := fwFields_of_good (s := s) hlen hop3 (fun _ => hl) hz ht false
  simp [bodyFwUpdate, hff, hop, fwAbort, State.fwStaging_of_owner hg ho]

end

theorem bodyPatchLoad_of_good (hc : s.cycleOn = false) (hok : s.patchImageOk q.payload = true) (hw : patchWords (q.payload.drop 196) ≤ 512)
    (hm : patchMatches (q.payload.drop 196) ≤ 32) : bodyPatchLoad ep q s =
      { state := s.installPatch (q.payload.drop 196),
        payload := leBytes 2 (patchWords (q.payload.drop 196)) ++ leBytes 1 (patchMatches (q.payload.drop 196)) ++ [0] ++
          leBytes 4 (patchId (q.payload.drop 196)) } := by
  simp [bodyPatchLoad, hc, hok, Nat.not_lt.mpr hw, Nat.not_lt.mpr hm]
  rfl

/-- OTP_PROGRAM of a known ITEM whose fields are good programs it. -/
theorem bodyOtpProgram_of_good (hlen : q.payload.length = 36) (hkey : u16 q.payload 2 = 0x07B0) (hc : s.cycleOn = false)
    (hr : s.otpRefused (u8 q.payload 0) (u8 q.payload 1) q.payload = false) {item : Nat} (hitem : u8 q.payload 0 = item) (hlo : 1 ≤ item)
    (hhi : item ≤ 7) (hi : item ≤ 2 → u8 q.payload 1 ≤ 3) (hroll : item = 3 → u8 q.payload 4 ≤ 63 ∧ s.otp.rollback < u8 q.payload 4)
    (hz : firstNonZero q.payload (if item = 1 ∨ item = 7 then 36 else if item = 3 then 5 else 4)
      (36 - if item = 1 ∨ item = 7 then 36 else if item = 3 then 5 else 4) = none) :
    bodyOtpProgram ep q s = { state := { s with otp := s.otp.program item (u8 q.payload 1) q.payload } } := by
  subst hitem
  have hitem' : ¬ (u8 q.payload 0 = 0 ∨ u8 q.payload 0 > 7) := by omega
  have hindex : ¬ ((u8 q.payload 0 = 1 ∨ u8 q.payload 0 = 2) ∧ u8 q.payload 1 > 3) := by omega
  have hroll' : ¬ (u8 q.payload 0 = 3 ∧ (u8 q.payload 4 > 63 ∨ u8 q.payload 4 ≤ s.otp.rollback)) := by omega
  simp only [bodyOtpProgram, hlen, hitem', hindex, hkey, hroll', hz, hc, hr, ne_eq, not_true_eq_false, Bool.or_self, Bool.false_eq_true, if_false]

end

/-- Settles O12: each body on the payload that its clause names. -/
theorem imageCommandsComplete : Obligations.ImageCommandsComplete := by
  rintro q s h _ _ _ _ rfl rfl rfl rfl
  refine ⟨fun hlen h0 h1 hlo hhi hlay hcode hcrc hnew hfree hused hasync => ?load, fun hlen hz hsome hused => ?unload, fun hp => ?info,
    fun hlen h0 hz hnone hoff hlo hhi hfit => ?first, fun g hlen hz ht hg ho => ⟨fun hop hoff hfit => ?data,
      fun hop hl hall hres hseq => ?commit, fun hop hl => ?abort⟩,
    fun hc hok hw hm => h.exec_eq rfl (bodyPatchLoad_of_good hc hok hw hm), fun hlen hkey hc hr => ?otp⟩
  case load => exact h.exec_eq rfl (bodyProgLoad_of_sound hlen h0 h1 hlo hhi hlay hcode hcrc hnew hfree hused hasync)
  case unload =>
    exact ⟨_, h.exec_eq rfl (bodyProgUnload_of_unused hlen hz hsome hused), Store.find?_erase_self .., fun n hn => Store.find?_erase_ne _ hn,
      Store.find?_erase_self ..⟩
  case info =>
    refine ⟨_, h.exec_eq rfl (bodyProgInfo_of_list hp), ?_, ?_⟩
    · simp only [List.append_assoc, u16_leBytes_append]
    · simp [length_flatMap_of_const _ (fun g : Nat × Program => leBytes 2 g.1) (n := 2) (fun g => by simp)]
      omega
  case first => exact h.exec_eq rfl (bodyFwUpdate_of_begin hlen h0 hz hnone hoff hlo hhi hfit)
  case data => exact h.exec_eq rfl (bodyFwUpdate_of_data hlen hz ht hg ho hop hoff hfit)
  case commit => exact h.exec_eq rfl (bodyFwUpdate_of_commit hlen hz ht hg ho hop hl hall hres hseq)
  case abort => exact h.exec_eq rfl (bodyFwUpdate_of_abort hlen hz ht hg ho hop hl)
  case otp =>
    have hgood := fun {n : Nat} => bodyOtpProgram_of_good (ep := q.ep) (item := n) hlen hkey hc hr
    exact ⟨fun hop hi => h.exec_eq rfl (hgood hop (by decide) (by decide) (fun _ => hi) nofun rfl),
      fun hop hi hz => h.exec_eq rfl (hgood hop (by decide) (by decide) (fun _ => hi) nofun hz),
      fun hop hhi hlt hz => h.exec_eq rfl (hgood hop (by decide) (by decide) nofun (fun _ => ⟨hhi, hlt⟩) hz),
      fun hop hz => h.exec_eq rfl (hgood hop (by decide) (by decide) nofun nofun hz),
      fun hop hz => h.exec_eq rfl (hgood hop (by decide) (by decide) nofun nofun hz),
      fun hop hz => h.exec_eq rfl (hgood hop (by decide) (by decide) nofun nofun hz),
      fun hop => h.exec_eq rfl (hgood hop (by decide) (by decide) nofun nofun rfl)⟩

end Sys2Proof.Machine
end

section
/-! SUPPORT. The bodies of the Slipway commands on well-formed payloads (Table OPC-10), and the statement SlipCommandsComplete. -/

namespace Sys2Proof.Machine

theorem State.fld_setFld_apart (s : State) (a hi lo v hj lj : Nat) (h : hi < 32) (ha : hj < lo ∨ hi < lj) :
    (s.setFld a hi lo v).fld a hj lj = s.fld a hj lj := by
  unfold State.fld
  rw [State.reg_setFld_self, bits_putBits_apart _ _ _ _ _ _ h ha]

section
variable {ep : Endpoint} {q : Packet} {s : State}

/-- A SLIP_LOAD that passes the field checks of all operations is handled by its operation. -/
theorem bodySlipLoad_of_fields (hlen : 12 ≤ q.payload.length) (hop : u8 q.payload 0 ≤ 3) (h1 : u8 q.payload 1 ≤ 1)
    (hz : firstNonZero q.payload 2 2 = none) (hshort : 2 ≤ u8 q.payload 0 → q.payload.length = 12)
    (ht : u8 q.payload 0 ≠ 0 → u32 q.payload 8 = 0) :
    bodySlipLoad ep q s = match u8 q.payload 0 with | 0 => slipBegin s q | 1 => slipData s q | 2 => slipApply s q | _ => slipAbort s q := by
  have hlen' : ¬ (q.payload.length < 12 ∨ ((u8 q.payload 0 = 2 ∨ u8 q.payload 0 = 3) ∧ q.payload.length ≠ 12)) := by omega
  have htotal : (!(u8 q.payload 0 == 0) && decide (u32 q.payload 8 ≠ 0)) = false := by
    by_cases h0 : u8 q.payload 0 = 0
    · simp [h0]
    · simp [ht h0]
  have hf : slipFields s q.payload (u8 q.payload 0 == 0) = none := by
    simp only [slipFields, hlen', gt_iff_lt, Nat.not_lt.mpr hop, Nat.not_lt.mpr h1, hz, htotal, Bool.false_eq_true, if_false]
  rw [bodySlipLoad, hf] <;> rfl

theorem slipBegin_of_sound (hnone : s.slip.staging = none) (hoff : u32 q.payload 4 = 0) (hh : s.slipHeaderFault (q.payload.drop 12) = none)
    (ht : u32 q.payload 8 = u32 (q.payload.drop 12) 16) (hlen : q.payload.length ≤ 12 + u32 q.payload 8)
    (hblocks : badBlock (q.payload.drop 12) 0 (blocksIn (q.payload.length - 12)) = none) :
    slipBegin s q = { state := { s.slipPlace 0 (q.payload.drop 12) with slip := { s.slip with
                        lastStatus := 0, verified := 0, staging := some ⟨q.session, u32 q.payload 8, false, q.payload.drop 12⟩ } },
                      payload := leBytes 4 (q.payload.length - 12) ++ [0, 0, 0, 0] } := by
  have hfit : ¬ q.payload.length - 12 > u32 q.payload 8 := by omega
  have hb0 : blocksIn ([] : Bytes).length = 0 := rfl
  simp only [slipBegin, hoff, hh, List.length_drop, hfit, State.slipOthers, hnone, State.slipTake, List.nil_append, hb0, hblocks, ← ht,
    ne_eq, not_true_eq_false, false_or, Bool.false_eq_true, if_false]
  rfl

section
variable {g : Staging} (hg : s.slip.staging = some g) (ho : g.owner = q.session)
include hg ho

theorem slipData_of_next (hoff : u32 q.payload 4 = g.data.length) (hfit : g.data.length + (q.payload.length - 12) ≤ g.total)
    (hblocks : badBlock (g.data ++ q.payload.drop 12) (blocksIn g.data.length) (blocksIn (g.data ++ q.payload.drop 12).length) = none) :
    slipData s q = { state := { s.slipPlace g.data.length (q.payload.drop 12) with slip := { s.slip with
                       staging := some ⟨g.owner, g.total, false, g.data ++ q.payload.drop 12⟩ } },
                     payload := leBytes 4 (g.data ++ q.payload.drop 12).length ++ [0, 0, 0, 0] } := by
  simp only [slipData, hg, ho, hoff, List.length_drop, gt_iff_lt, Nat.not_lt.mpr hfit, State.slipTake, hblocks, ne_eq, not_true_eq_false, if_false]
  rfl

theorem slipApply_of_sound (hw : s.slip.waiting = none) (ha : s.slip.applying = none) (hall : g.data.length = g.total)
    (hf : s.slipApplyFault g.data = none) (h1 : u8 q.payload 1 ≤ 1) :
    ∃ v eff, slipApply s q = { state := v, status := St.accepted, payload := leBytes 4 g.data.length ++ leBytes 4 (eff : Word).toNat } ∧
      (s.cycleOn = true → eff = s.effectCycle ∧ v.slip.staging = none ∧
        v.slip.waiting = some ⟨g.data, decide (u8 q.payload 1 = 1), s.notifyOf q true⟩) := by
  have hpersist : (u8 q.payload 1 % 2 == 1) = decide (u8 q.payload 1 = 1) := by
    rw [Nat.mod_eq_of_lt (Nat.lt_succ_of_le h1)]
    rfl
  simp only [slipApply, hg, ho, hw, ha, hall, hf, hpersist, ne_eq, not_true_eq_false, if_false]
  refine ⟨_, _, rfl, fun hon => ?_⟩
  have happ : ∀ l : Slipway, State.appliesNow { s with slip := l } = false := fun l => congrArg not hon
  simp only [State.change, happ, Bool.false_eq_true, if_false]
  exact ⟨rfl, rfl, rfl⟩

theorem slipAbort_of_owner : slipAbort s q =
    { state := { s with slip := { s.slip with staging := none } }, payload := leBytes 4 g.data.length ++ [0, 0, 0, 0] } := by
  simp only [slipAbort, hg, ho, ne_eq, not_true_eq_false, if_false]
  rfl

end

/-! ### SLIP_STATUS, SLIP_CAPTURE and SLIP_READBACK -/

theorem bodySlipStatus_of_nil (hp : q.payload = []) : ∃ b, bodySlipStatus ep q s = { state := s, payload := b } ∧ b.length = 24 ∧
    u8 b 0 = s.slipState % 256 ∧ u16 b 2 = s.slip.lastStatus % 65536 ∧ u32 b 12 = s.slipStaged % 2 ^ 32 := by
  simp only [bodySlipStatus, hp, ne_eq, not_true_eq_false, if_false]
  refine ⟨_, rfl, ?_, ?_, ?_, ?_⟩ <;> simp [u16_append_of_le, u32_append_of_le]

/-- A capture takes the next identifier and leaves its clock's number (R815). -/
theorem State.takeCapture_fields (s : State) : s.takeCapture.fld Reg.slipctlCapture 15 8 = (s.fld Reg.slipctlCapture 15 8 + 1) % 256 ∧
    s.takeCapture.fld Reg.slipctlCapture 1 0 = s.fld Reg.slipctlCapture 1 0 ∧ s.takeCapture.slip.shadow.isSome = true := by
  have hfld : ∀ hi lo, s.takeCapture.fld Reg.slipctlCapture hi lo =
      (s.setFld Reg.slipctlCapture 15 8 ((s.fld Reg.slipctlCapture 15 8 + 1) % 256)).fld Reg.slipctlCapture hi lo := fun _ _ => rfl
  refine ⟨?_, ?_, rfl⟩
  · rw [hfld, State.fld_setFld_self _ _ _ _ _ (by decide) (by decide)]
    exact Nat.mod_mod ..
  · rw [hfld, State.fld_setFld_apart _ _ _ _ _ _ _ (by decide) (by decide)]

theorem bodySlipCapture_of_running (hlen : q.payload.length = 4) (h3 : u8 q.payload 0 ≤ 3) (hz : firstNonZero q.payload 1 3 = none)
    (hc : s.canCapture (u8 q.payload 0) = true) : ∃ v, bodySlipCapture ep q s =
      { state := v, payload := leBytes 4 (v.fld Reg.slipctlCapture 15 8) ++ leBytes 8 s.nowUs } ∧
      v.fld Reg.slipctlCapture 15 8 = (s.fld Reg.slipctlCapture 15 8 + 1) % 256 ∧ v.fld Reg.slipctlCapture 1 0 = u8 q.payload 0 ∧
      v.slip.shadow.isSome = true := by
  obtain ⟨hid, hclock, hshadow⟩ := (s.setFld Reg.slipctlCapture 1 0 (u8 q.payload 0)).takeCapture_fields
  refine ⟨_, ?_, hid.trans ?_, hclock.trans ?_, hshadow⟩
  · simp only [bodySlipCapture, hlen, gt_iff_lt, Nat.not_lt.mpr h3, hz, hc, ne_eq, not_true_eq_false, Bool.not_true, Bool.false_eq_true, if_false]
  · rw [State.fld_setFld_apart _ _ _ _ _ _ _ (by decide) (by decide)]
  · rw [State.fld_setFld_self _ _ _ _ _ (by decide) (by decide)]
    exact Nat.mod_eq_of_lt (Nat.lt_succ_of_le h3)

theorem u16_lt (b : Bytes) (i : Nat) : u16 b i < 65536 := by
  have h0 := u8_lt b i
  have h1 := u8_lt b (i + 1)
  simp only [u16]
  omega

theorem u32_lt (b : Bytes) (i : Nat) : u32 b i < 2 ^ 32 := by
  have h0 := u16_lt b i
  have h1 := u16_lt b (i + 2)
  simp only [u32]
  omega

theorem bodySlipReadback_of_shadow {key t : Nat} (hlen : q.payload.length = 8) (h4 : u32 q.payload 0 % 4 = 0) (hlt : u32 q.payload 0 < 56064)
    (hn : u16 q.payload 4 % 4 = 0) (hz : firstNonZero q.payload 6 2 = none) (hs : s.slip.shadow = some (key, t)) :
    ∃ b n, bodySlipReadback ep q s = { state := s, payload := b } ∧ b.length = 12 + n ∧
      n = min (min (u16 q.payload 4) (56064 - u32 q.payload 0)) ((s.replyMax ep q - 12) / 4 * 4) ∧ u32 b 4 = u32 q.payload 0 ∧
      u32 b 8 = 56064 := by
  have hin : ¬ (u32 q.payload 0 % 4 ≠ 0 ∨ u32 q.payload 0 ≥ 56064) := by omega
  simp only [bodySlipReadback, shadowBytes, hlen, hin, hn, hz, hs, ne_eq, not_true_eq_false, if_false]
  refine ⟨_, _, rfl, ?_, rfl, ?_, ?_⟩
  · simp
    omega
  · simp only [List.append_assoc, u32_append_of_le, length_leBytes, Nat.le_refl, Nat.sub_self, u32_leBytes_append]
    exact Nat.mod_eq_of_lt (u32_lt ..)
  · simp [u32_append_of_le]

end

/-- Settles O13: each body on the payload that its clause names. -/
theorem slipCommandsComplete : Obligations.SlipCommandsComplete := by
  rintro q s h _ _ _ rfl rfl rfl
  refine ⟨fun hlen h1 hz => ⟨fun hop hnone hoff hh ht hfit hblocks _ => ?first, fun g hg ho ht => ⟨fun hop hoff hfit hblocks => ?data,
    fun hop hl hw ha hall hf => ?apply, fun hop hl => ?abort⟩⟩, fun hp => ?status, fun hlen h3 hz hc => ?capture,
    fun key t hlen h4 hlt hn hz hs => ?readback⟩
  case first =>
    have hbody := bodySlipLoad_of_fields (ep := q.ep) (s := s.bodyAt q) hlen (by omega) h1 hz (by omega) (by omega)
    rw [hop] at hbody
    exact ⟨_, h.exec_eq rfl (hbody.trans (slipBegin_of_sound hnone hoff hh ht hfit hblocks)), rfl, rfl, rfl⟩
  case data =>
    have hbody := bodySlipLoad_of_fields (ep := q.ep) (s := s.bodyAt q) hlen (by omega) h1 hz (by omega) (fun _ => ht)
    rw [hop] at hbody
    exact ⟨_, h.exec_eq rfl (hbody.trans (slipData_of_next hg ho hoff (by omega) hblocks)), rfl, rfl⟩
  case apply =>
    have hbody := bodySlipLoad_of_fields (ep := q.ep) (s := s.bodyAt q) hlen (by omega) h1 hz (fun _ => hl) (fun _ => ht)
    rw [hop] at hbody
    obtain ⟨v, eff, happly, hv⟩ := slipApply_of_sound (q := s.argOf q) hg ho hw ha hall hf h1
    exact ⟨v, eff, h.exec_eq rfl (hbody.trans happly), hv⟩
  case abort =>
    have hbody := bodySlipLoad_of_fields (ep := q.ep) (s := s.bodyAt q) hlen (by omega) h1 hz (fun _ => hl) (fun _ => ht)
    rw [hop] at hbody
    exact h.exec_eq rfl (hbody.trans (slipAbort_of_owner hg ho))
  case status =>
    obtain ⟨b, hb, hr⟩ := bodySlipStatus_of_nil (ep := q.ep) (s := s.bodyAt q) hp
    exact ⟨b, h.exec_eq rfl hb, hr⟩
  case capture =>
    obtain ⟨v, hb, hr⟩ := bodySlipCapture_of_running (ep := q.ep) hlen h3 hz hc
    exact ⟨v, h.exec_eq rfl hb, hr⟩
  case readback =>
    obtain ⟨b, n, hb, hr⟩ := bodySlipReadback_of_shadow (ep := q.ep) hlen h4 hlt hn hz hs
    exact ⟨b, n, h.exec_eq rfl hb, hr⟩

end Sys2Proof.Machine
end

section
/-! SUPPORT. A calibration run of a channel that is being destroyed is refused (R264, R281), which refutes the statement
MaintenanceCommandsComplete: it asks only that the handle names a channel with an input. -/

namespace Sys2Proof.Machine

/-- A level channel with its first input bound, which CH_DESTROY is taking away. -/
def leavingLevel : Channel :=
  { typ := .level, state := .bound, params := zeros 92, roles := [⟨1, 0, 0⟩], model := [], modelWritten := [], destroying := true }

/-- The open device with that channel in slot 0. -/
def leavingDevice : State := { openDevice with chans := [(0, leavingLevel)] }

/-- CAL_RUN of KIND 1 on slot 0. -/
def zeroLeaving : Req := { requestOf 0x0903 ([1] ++ zeros 7) with
  pkt := { (requestOf 0x0903 ([1] ++ zeros 7)).pkt with handle := 1024 } }

theorem leavingDevice_admits_zeroLeaving : leavingDevice.Admits zeroLeaving where
  idle := rfl
  passes := by decide +kernel
  whole := rfl
  fits := by decide +kernel
  allowed := by decide +kernel

theorem eq_ok_of_toOption {α : Type} {x : Except Nat α} {a : α} (h : x.toOption = some a) : x = .ok a := by
  cases x with
  | error e => cases h
  | ok b => rw [Option.some.inj h]

theorem checkHandle_zeroLeaving : (leavingDevice.bodyAt zeroLeaving).checkHandle zeroLeaving.pkt.handle = .ok leavingLevel :=
  eq_ok_of_toOption (by decide +kernel)

/-- The refusal starts no run. -/
theorem runs_finish_zeroLeaving : (Rep.finish (bodyCalRun (.pcie 0) (leavingDevice.argOf zeroLeaving) (leavingDevice.bodyAt zeroLeaving))
    zeroLeaving).cal.runs = [] := by decide +kernel

/-- Refutes O14: CAL_RUN of KIND 1 is refused on a channel that is being destroyed, where the statement has it start its run on every channel with an
input. -/
theorem not_maintenanceCommandsComplete : ¬ Obligations.MaintenanceCommandsComplete := by
  intro h
  obtain ⟨-, -, -, -, -, -, -, hcal, -⟩ := h _ _ leavingDevice_admits_zeroLeaving _ _ _ rfl rfl rfl
  obtain ⟨hzero, -⟩ := (hcal _ (by decide +kernel) (by decide +kernel) (by decide +kernel) rfl).1 leavingLevel checkHandle_zeroLeaving (by decide +kernel)
  have hexec := hzero (by decide +kernel)
  rw [leavingDevice_admits_zeroLeaving.exec_eq (b := bodyCalRun) rfl rfl] at hexec
  have hruns := congrArg (fun t : State => t.cal.runs) (Host.Outcome.next.inj hexec)
  exact absurd (runs_finish_zeroLeaving.symm.trans hruns) (by decide +kernel)

end Sys2Proof.Machine
end

section
/-! SUPPORT. The operations of DIAG on well-formed payloads (Table OPC-15), and the statement DiagCommandsComplete. -/

namespace Sys2Proof.Machine

/-- External memory is no Basin. -/
theorem basinOf_of_external {a : Nat} (h : 0x30000000 ≤ a) : basinOf a = none := by
  have hout : ∀ lo hi, hi ≤ 0x30000000 → ¬ (lo ≤ a ∧ a < hi) := by omega
  simp [basinOf, hout]

section
variable {ep : Endpoint} {q : Packet} {s : State}

/-- A DIAG payload that passes the common checks is handled by its operation. -/
theorem bodyDiag_of_fault (hlen : q.payload.length = 12) (h1 : u8 q.payload 1 = 0) (hlo : 1 ≤ u8 q.payload 0) (hhi : u8 q.payload 0 ≤ 5)
    (hf : diagFault s ep q (u8 q.payload 0) q.payload = none) :
    bodyDiag ep q s = match u8 q.payload 0 with
      | 1 => diagRegRead q s | 2 => diagRegWrite q s | 3 => diagMemRead q s | 4 => diagBar2 true s | _ => diagBar2 false s := by
  have hop : ¬ (u8 q.payload 0 < 1 ∨ 5 < u8 q.payload 0) := by omega
  have hz : firstNonZero q.payload 1 1 = none := by simp [firstNonZero, h1]
  simp only [bodyDiag, diagBody, hlen, hop, hz, hf, ne_eq, not_true_eq_false, if_false] <;> rfl

theorem diagFault_of_register {op : Nat} (hop : op ≤ 2) (hlo : 0x40000000 ≤ u32 q.payload 4) (hhi : u32 q.payload 4 < 0x40180000)
    (h4 : u32 q.payload 4 % 4 = 0) : diagFault s ep q op q.payload = none := by
  simp [diagFault, hop, hlo, hhi, h4]

theorem diagFault_of_external (h8 : u16 q.payload 2 % 8 = 0) (hfit : u16 q.payload 2 + 4 ≤ s.replyMax ep q) (ha : u32 q.payload 4 % 8 = 0)
    (hlo : 0x30000000 ≤ u32 q.payload 4) (hhi : u32 q.payload 4 + u16 q.payload 2 ≤ 0x31000000) :
    diagFault s ep q 3 q.payload = none := by
  simp [diagFault, basinOf_of_external hlo, h8, Nat.not_lt.mpr hfit, ha, hlo, hhi]

/-- The reply of a register access that the matrix answered OKAY. -/
theorem diagRep_of_ok (h : s.bus.status = .ok) (w : Word) : diagRep s w = { state := s, payload := leBytes 4 w.toNat ++ [0, 0, 0, 0] } := by
  simp only [diagRep, h, if_true, List.append_assoc]
  rfl

theorem diagRegRead_of_ok {t : State} (ht : t = s.matrix { who := hmData, addr := u32 q.payload 4, write := false, size := 4, beats := 1 })
    (hok : t.bus.status = .ok) :
    diagRegRead q s = { state := t, payload := leBytes 4 (BitVec.ofNat 32 (ofLe t.bus.data)).toNat ++ [0, 0, 0, 0] } := by
  simp only [diagRegRead, ← ht, hok, if_true, diagRep_of_ok hok]

theorem diagRegWrite_of_ok {t v : State} (hb : s.diagBarred (u32 q.payload 4) = false)
    (ht : t = (s.guardAccess hmData (blockOf (u32 q.payload 4)) 0x5AC3).matrix
      { who := hmData, addr := u32 q.payload 4, write := true, size := 4, beats := 1, data := slice q.payload 8 4 })
    (hok : t.bus.status = .ok)
    (hv : v = (t.faultF 0x034 1 0x13 (BitVec.ofNat 32 (u32 q.payload 4))).matrix
      { who := hmData, addr := u32 q.payload 4, write := false, size := 4, beats := 1 })
    (hvok : v.bus.status = .ok) :
    diagRegWrite q s = { state := v, payload := leBytes 4 (BitVec.ofNat 32 (ofLe v.bus.data)).toNat ++ [0, 0, 0, 0] } := by
  simp only [diagRegWrite, hb, ← ht, hok, ← hv, hvok, bne_self_eq_false, Bool.false_eq_true, if_false, if_true, diagRep_of_ok hvok]

theorem diagMemRead_of_data {d : Bytes} (hd : (s.readWords hmData (u32 q.payload 4) (u16 q.payload 2 / 8) []).2 = some d) :
    diagMemRead q s = { state := (s.readWords hmData (u32 q.payload 4) (u16 q.payload 2 / 8) []).1, payload := leBytes 4 (u32 q.payload 4) ++ d } := by
  generalize hr : s.readWords hmData (u32 q.payload 4) (u16 q.payload 2 / 8) [] = r at hd
  obtain ⟨t, x⟩ := r
  obtain rfl : x = some d := hd
  simp only [diagMemRead, hr]

end

/-- Settles O15: each operation on the payload that its clause names. -/
theorem diagCommandsComplete : Obligations.DiagCommandsComplete := by
  rintro q s h _ _ _ _ rfl rfl rfl rfl hlen h1
  have hbody := fun hlo hhi hf => bodyDiag_of_fault (ep := q.ep) (s := s.bodyAt q) hlen h1 hlo hhi hf
  refine ⟨fun hlo hhi h4 => ⟨fun t hop ht hok => ?read, fun t v hop hb ht hok hv hvok => ?write⟩,
    fun d hop h8 hfit ha hlo hhi hd => ?memory, fun hop => ?on, fun hop => ?off⟩ <;> rw [hop] at hbody
  case read =>
    exact h.exec_eq rfl ((hbody (by decide) (by decide) (diagFault_of_register (by decide) hlo hhi h4)).trans (diagRegRead_of_ok ht hok))
  case write =>
    exact h.exec_eq rfl ((hbody (by decide) (by decide) (diagFault_of_register (by decide) hlo hhi h4)).trans
      (diagRegWrite_of_ok hb ht hok hv hvok))
  case memory =>
    exact h.exec_eq rfl ((hbody (by decide) (by decide) (diagFault_of_external h8 hfit ha hlo hhi)).trans (diagMemRead_of_data hd))
  case on => exact h.exec_eq rfl (hbody (by decide) (by decide) rfl)
  case off => exact h.exec_eq rfl (hbody (by decide) (by decide) rfl)

end Sys2Proof.Machine
end

section
/-! SUPPORT. What telling the hosts changes: an entry in the recorder's ring and an event to a session leave every part of the state but the registers
of these units, the ring, the interrupt status of the host ports, the sessions and the MACs. -/

namespace Sys2Proof.Machine

/-- The registers that telling the hosts writes: those of the Ethernet ports and of BBR, and the event register at the place of a port that is none. -/
def told (a : Nat) : Bool := decide (Reg.ethCtrl ≤ a) && (a % 65536 == 0x30 || [0x4008, 0x4009, 0x4011].contains (a / 65536))

theorem told_of_lt {a : Nat} (h : a < Reg.ethCtrl) : told a = false := by
  rw [told, decide_eq_false (Nat.not_le.mpr h), Bool.false_and]

theorem told_ethCnt (port : Nat) {i : Nat} (h : i < 1024) : told (ethCnt port i) = true := by
  have hblock : ethCnt port i / 65536 = 0x4008 ∨ ethCnt port i / 65536 = 0x4009 := by
    unfold ethCnt Reg.eth0Cnt Reg.eth1Cnt
    split <;> omega
  have hle : Reg.ethCtrl ≤ ethCnt port i := by
    unfold ethCnt Reg.eth0Cnt Reg.eth1Cnt Reg.ethCtrl
    split <;> omega
  rcases hblock with hb | hb <;> simp [told, hle, hb]

theorem told_ethEvents (port : Nat) : told (Reg.ethEvents + 65536 * port) = true := by
  have hle : Reg.ethCtrl ≤ Reg.ethEvents + 65536 * port := Nat.le_add_right_of_le (by decide)
  have hmod : (Reg.ethEvents + 65536 * port) % 65536 = 0x30 := Nat.add_mul_mod_self_left ..
  simp [told, hle, hmod]

/-- `t` is `s` after entries in the ring and events to sessions. -/
structure State.Tells (s t : State) : Prop where
  eq : t = { s with
    regs := t.regs
    bbr := t.bbr
    host := { s.host with irqStatus := t.host.irqStatus, msixPending := t.host.msixPending }
    omx := t.omx
    macs := t.macs }
  reg : ∀ a, told a = false → t.reg a = s.reg a

namespace State.Tells

@[refl] theorem refl (s : State) : s.Tells s := ⟨rfl, fun _ _ => rfl⟩

theorem trans {s t u : State} (h : s.Tells t) (h' : t.Tells u) : s.Tells u where
  eq := by
    rw [h'.eq, h.eq]
  reg a ha := (h'.reg a ha).trans (h.reg a ha)

section
variable {s t : State} (h : s.Tells t)
include h

theorem mem : t.mem = s.mem := by rw [h.eq]
theorem boot : t.boot = s.boot := by rw [h.eq]
theorem chans : t.chans = s.chans := by rw [h.eq]
theorem wc : t.wc = s.wc := by rw [h.eq]
theorem reclaim : t.reclaim = s.reclaim := by rw [h.eq]
theorem otp : t.otp = s.otp := by rw [h.eq]
theorem flash : t.flash = s.flash := by rw [h.eq]
theorem hm : t.hm = s.hm := by rw [h.eq]
theorem tl : t.tl = s.tl := by rw [h.eq]
theorem pilot : t.pilot = s.pilot := by rw [h.eq]
theorem plain : t.plain = s.plain := by rw [h.eq]
theorem perst : t.host.perst = s.host.perst := by rw [h.eq]

theorem reg_of_lt {a : Nat} (ha : a < Reg.ethCtrl) : t.reg a = s.reg a := h.reg a (told_of_lt ha)
theorem rbit {a : Nat} (ha : told a = false) (i : Nat) : t.rbit a i = s.rbit a i := congrArg (bit · i) (h.reg a ha)
theorem fld {a : Nat} (ha : told a = false) (hi lo : Nat) : t.fld a hi lo = s.fld a hi lo := congrArg (bits · hi lo) (h.reg a ha)

end
end State.Tells

section
variable (s : State)

theorem State.tells_setReg {a : Nat} (ha : told a = true) (v : Word) : s.Tells (s.setReg a v) :=
  ⟨rfl, fun b hb => State.reg_setReg_ne _ _ fun heq => by simp [heq, ha] at hb⟩

theorem State.tells_bbr (b : Bbr) : s.Tells { s with bbr := b } := ⟨rfl, fun _ _ => rfl⟩
theorem State.tells_omx (o : Omneax) : s.Tells { s with omx := o } := ⟨rfl, fun _ _ => rfl⟩

section
variable {s} {t : State} (h : s.Tells t) {a : Nat}
include h

theorem State.Tells.setReg (v : Word) (ha : told a = true := by decide) : s.Tells (t.setReg a v) := h.trans (t.tells_setReg ha v)
theorem State.Tells.setFld (hi lo v : Nat) (ha : told a = true := by decide) : s.Tells (t.setFld a hi lo v) := h.setReg _ ha
theorem State.Tells.addFld (hi lo n : Nat) (ha : told a = true := by decide) : s.Tells (t.addFld a hi lo n) := h.setReg _ ha
theorem State.Tells.orReg (m : Word) (ha : told a = true := by decide) : s.Tells (t.orReg a m) := h.setReg _ ha
theorem State.Tells.bbr (b : Bbr) : s.Tells { t with bbr := b } := h.trans (t.tells_bbr b)

end

theorem State.bbrPut_tells (e : BbrEntry) (mark : Bool) : s.Tells (s.bbrPut e mark) := by
  have hself : s.Tells s := .refl s
  cases hf : s.rbit Reg.bbrStatus 0
  · simp only [State.bbrPut, hf, Bool.false_and, Bool.false_eq_true, if_false]
    split
    · split
      · exact .orReg (.bbr (.setFld (.orReg (.setReg (.setFld (.setFld (.addFld (.setFld (.bbr hself _) ..) ..) ..) ..) _) _) ..) _) _
      · exact .bbr (.setFld (.orReg (.setReg (.setFld (.setFld (.addFld (.setFld (.bbr hself _) ..) ..) ..) ..) _) _) ..) _
    · exact .addFld (.setFld (.bbr hself _) ..) ..
  · simp only [State.bbrPut, hf, Bool.true_and, if_true]
    split
    · exact .orReg (.addFld hself ..) _
    · split
      · exact .orReg (.setFld (.addFld (.setFld (.bbr hself _) ..) ..) ..) _
      · exact .setFld (.addFld (.setFld (.bbr hself _) ..) ..) ..

theorem State.bbrA_tells (event severity source : Nat) (payload : Word) (flags : Nat) (mark : Bool) :
    s.Tells (s.bbrA event severity source payload flags mark) := by
  unfold State.bbrA
  split
  · rfl
  · exact s.bbrPut_tells ..

theorem State.bbrB_tells (event severity source : Nat) (payload : Word) (flags : Nat) : s.Tells (s.bbrB event severity source payload flags) :=
  s.bbrPut_tells ..

theorem State.updSession_tells (n : Nat) (f : Session → Session) : s.Tells (s.updSession n f) := s.tells_omx _

theorem State.setBox_tells (n : Nat) (b : Mailbox) : s.Tells (s.setBox n b) := s.tells_omx _

theorem State.raiseVector_tells (v : Nat) : s.Tells (s.raiseVector v) := ⟨rfl, fun _ _ => rfl⟩

theorem State.setMac_tells (port : Nat) (m : Mac) : s.Tells (s.setMac port m) := ⟨rfl, fun _ _ => rfl⟩

theorem State.queueTx_tells (port q : Nat) (item : List TxItem) {put : State → State} (h : s.Tells (put s)) :
    s.Tells (s.queueTx port q item put) := by
  unfold State.queueTx
  split
  · exact h.trans ((put s).setMac_tells ..)
  · exact ((Tells.refl s).addFld 31 0 1 (told_ethCnt port (by decide))).setReg _ (told_ethEvents port)

theorem State.emitTo_tells (n code handle : Nat) (payload : Bytes) : s.Tells (s.emitTo n code handle payload) := by
  unfold State.emitTo
  cases s.session n with
  | none => rfl
  | some x =>
    refine (s.updSession_tells n fun x => { x with evNum := x.evNum + 1 }).trans ?_
    cases hx : x.ep with
    | pcie k =>
      simp only [hx]
      split
      · exact (State.setBox_tells ..).trans (State.raiseVector_tells ..)
      · rfl
    | udp ip port eth =>
      simp only [hx]
      split
      · exact State.queueTx_tells _ _ _ _ (State.updSession_tells ..)
      · rfl
    | hspi =>
      simp only [hx]
      split
      · exact State.updSession_tells ..
      · rfl

theorem State.emitAll_tells (code handle : Nat) (payload : Bytes) : s.Tells (s.emitAll code handle payload) :=
  List.foldlRecOn (motive := s.Tells) _ _ (.refl s) fun t ht _ _ => ht.trans (t.emitTo_tells ..)

theorem State.emitFault_tells (severity source event : Nat) (payload : Word) : s.Tells (s.emitFault severity source event payload) :=
  s.emitAll_tells ..

theorem State.faultA_tells (event severity source : Nat) (payload : Word) : s.Tells (s.faultA event severity source payload) :=
  (s.bbrA_tells ..).trans (State.emitFault_tells ..)

theorem State.faultB_tells (event severity source : Nat) (payload : Word) (flags : Nat) : s.Tells (s.faultB event severity source payload flags) := by
  simp only [State.faultB]
  split
  · exact (s.bbrB_tells ..).trans (State.emitFault_tells ..)
  · exact s.bbrB_tells ..

theorem State.faultF_tells (event severity source : Nat) (payload : Word) : s.Tells (s.faultF event severity source payload) := by
  simp only [State.faultF]
  split
  · exact (s.bbrA_tells ..).trans (State.emitFault_tells ..)
  · exact s.bbrA_tells ..

theorem State.emitCompletion_tells (n : Notify) (status : Nat) (cycle : Word) : s.Tells (s.emitCompletion n status cycle) := by
  unfold State.emitCompletion
  split
  · exact s.emitTo_tells ..
  · rfl

end

end Sys2Proof.Machine
end

section
/-! SUPPORT. The mailboxes, the PCIe endpoint and the host SPI (R235 to R246, R761 to R770), and the statement TransportsComplete. -/

namespace Sys2Proof.Machine

section
variable (s : State)

@[simp] theorem State.box_setBox_self (n : Nat) (b : Mailbox) : (s.setBox n b).box n = b := Store.get_set_self ..
@[simp] theorem State.box_raiseVector (v n : Nat) : (s.raiseVector v).box n = s.box n := rfl

/-! ### Mailboxes -/

/-- A register write that arrives as one aligned doubleword acts. -/
theorem State.bar0Write_of_up {f : State → State} (h : s.pcieDown = false) : s.bar0Write true f = f s := by
  simp [State.bar0Write, h]

/-- Any other write is discarded and counted. -/
theorem State.bar0Write_of_malformed {f : State → State} (h : s.pcieDown = false) :
    s.bar0Write false f = { s with host := { s.host with discards := min 0xFFFFFFFF (s.host.discards + 1) } } := by
  simp only [State.bar0Write, h, State.hostDiscard, satU, Nat.min_comm]
  rfl

/-- The bytes that a doorbell submits while the count stays within the buffer. -/
theorem doorbellUnit_of_le {buf : Bytes} {c : Nat} (h : c ≤ 8192) (hb : c ≤ buf.length) : doorbellUnit (buf.take 8192) c = buf.take c := by
  have hlen : c ≤ (buf.take 8192).length := by
    rw [List.length_take]
    exact Nat.le_min.mpr ⟨h, hb⟩
  rw [doorbellUnit, List.take_append_of_le_length hlen, List.take_take, Nat.min_eq_left h]

theorem execPcieReqDoorbell_of_free {n : Nat} {buf : Bytes} {c : Nat} (hn : n ≤ 3) (hd : s.pcieDown = false)
    (hr : s.rbit Reg.sysctlBootStatus 17 = true) (hw : s.host.bootWait = false) (hb : s.pairBusy n = false) (hc : c ≤ 8192)
    (hl : c ≤ buf.length) :
    execPcieReqDoorbell n buf c true s = .next ((s.setBox n { s.box n with reqBuf := buf.take 8192 }).receive (.pcie n) (buf.take c)) := by
  rw [execPcieReqDoorbell, State.bar0Write_of_up _ hd]
  simp [Nat.not_lt.mpr hn, hw, State.reqDoorbell, hr, hb, doorbellUnit_of_le hc hl]

theorem execPcieReplyDoorbell_of_ready {n : Nat} (hn : n ≤ 3) (hd : s.pcieDown = false) (hr : (s.box n).replyReady = true) :
    execPcieReplyDoorbell n true s = .next (match (s.box n).replyWait with
      | [] => s.setBox n { s.box n with replyBuf := none, replyReady := false }
      | p :: r => (s.setBox n { s.box n with replyBuf := some p, replyReady := true, replyWait := r }).raiseVector n) := by
  rw [execPcieReplyDoorbell, State.bar0Write_of_up _ hd]
  simp [Nat.not_lt.mpr hn, hr] <;> rfl

theorem execPcieEvtCons_of_reached {n i : Nat} (hn : n ≤ 3) (hd : s.pcieDown = false) (h16 : i % 16 = 0) (hi : i < 16384)
    (hp : (i + 16384 - (s.box n).evCons) % 16384 ≤ ((s.box n).evProd + 16384 - (s.box n).evCons) % 16384) :
    execPcieEvtCons n i true s = .next (s.setBox n ((s.box n).consume i)) := by
  rw [execPcieEvtCons, State.bar0Write_of_up _ hd]
  simp [Nat.not_lt.mpr hn, h16, Nat.not_le.mpr hi, Nat.not_lt.mpr hp]

/-! ### The endpoint -/

/-- A configuration request that arrives before CFG_READY is retried. -/
theorem execPcieConfigRequest_of_unready (hd : s.pcieDown = false) (hr : s.rbit Reg.sysctlBootStatus 17 = false) (w : Bool) (off : Nat) (v : Word) :
    execPcieConfigRequest w off v s = .next { s with host := { s.host with completion := some .retry, configRetry := s.host.configRetry + 1 } } := by
  simp [execPcieConfigRequest, hd, hr]

theorem execPcieConfigRequest_of_ready (hd : s.pcieDown = false) (hr : s.rbit Reg.sysctlBootStatus 17 = true) (w : Bool) (off : Nat) (v : Word) :
    execPcieConfigRequest w off v s = .next (if w then
        { s.configWrite off v with host := { (s.configWrite off v).host with completion := some (.data 0) } }
      else { s with host := { s.host with completion := some (.data (s.configRead off)) } }) := by
  simp [execPcieConfigRequest, hd, hr]

theorem getD_setNth_zero {α : Type} {l : List α} (h : 0 < l.length) (v d : α) : (setNth l 0 v).getD 0 d = v := by
  simp [setNth, h]

theorem State.endSession_perst (n : Nat) : (s.endSession n).host.perst = s.host.perst := by
  have hdrop : ∀ (t : State) ep, (t.dropEvents ep).host = t.host := fun t ep => by cases ep <;> rfl
  unfold State.endSession
  split
  · rfl
  · refine (State.faultA_tells ..).perst.trans ?_
    split <;> exact congrArg _ (hdrop _ _)

theorem State.vanishPcie_perst : s.vanishPcie.host.perst = s.host.perst :=
  List.foldlRecOn (motive := fun t : State => t.host.perst = s.host.perst) _ _ rfl fun t ht p _ => by
    split
    · exact (t.endSession_perst _).trans ht
    · exact ht

/-- What a reset of the endpoint leaves. -/
theorem State.resetEndpoint_host : s.resetEndpoint.host.bars = [0, 0, 0, 0] ∧ s.resetEndpoint.host.memEnable = false ∧
    s.resetEndpoint.host.busMaster = false ∧ s.resetEndpoint.host.irqStatus = 0 ∧ s.resetEndpoint.host.perst = s.host.perst :=
  ⟨rfl, rfl, rfl, rfl, s.vanishPcie_perst⟩

theorem State.rbit_monitor_ne {a : Nat} (hm : a ≠ Reg.clkgenMonEn) (hs : a ≠ Reg.clkgenStatus) (i : Nat) (on : Bool) :
    (s.monitor i on).reg a = s.reg a := by
  unfold State.monitor
  split
  · rfl
  · cases on
    · exact (State.reg_setRbit_ne _ _ _ hs).trans (State.reg_setRbit_ne _ _ _ hm)
    · exact State.reg_setRbit_ne _ _ _ hm

/-- PCIE_STATUS as a change of the link's state writes it. -/
def State.showLink (s : State) (up : Bool) (gen width : Nat) : State :=
  ((s.setRbit Reg.pcieStatus 0 up).setFld Reg.pcieStatus 2 1 gen).setFld Reg.pcieStatus 4 3 width

theorem State.showLink_fields (up : Bool) {gen width : Nat} (hg : gen < 4) (hw : width < 4) :
    (s.showLink up gen width).fld Reg.pcieStatus 0 0 = up.toNat ∧ (s.showLink up gen width).fld Reg.pcieStatus 2 1 = gen ∧
    (s.showLink up gen width).fld Reg.pcieStatus 4 3 = width := by
  refine ⟨?_, ?_, ?_⟩
  · rw [State.showLink, State.fld_setFld_apart _ _ _ _ _ _ _ (by decide) (by decide), State.fld_setFld_apart _ _ _ _ _ _ _ (by decide) (by decide)]
    refine (State.fld_setFld_self s Reg.pcieStatus 0 0 up.toNat (by decide) (by decide)).trans ?_
    cases up <;> rfl
  · rw [State.showLink, State.fld_setFld_apart _ _ _ _ _ _ _ (by decide) (by decide), State.fld_setFld_self _ _ _ _ _ (by decide) (by decide)]
    exact Nat.mod_eq_of_lt hg
  · rw [State.showLink, State.fld_setFld_self _ _ _ _ _ (by decide) (by decide)]
    exact Nat.mod_eq_of_lt hw

theorem State.rbit_eq_fld (a i : Nat) : s.rbit a i = decide (s.fld a i i = 1) := by
  have h : 2 ^ (i + 1 - i) = 2 := congrArg (2 ^ ·) (show i + 1 - i = 1 by omega)
  simp only [State.rbit, State.fld, bit, bits, BitVec.getLsbD, Nat.testBit_eq_decide_div_mod_eq, Nat.shiftRight_eq_div_pow, h]

theorem execPcieLinkStateChange_of_up (hd : s.pcieDown = false) (gen width : Nat) : execPcieLinkStateChange true gen width s =
    .next { (s.showLink true gen width).monitor 0 true with
      host := { ((s.showLink true gen width).monitor 0 true).host with linkDownPending := false } } := by
  simp only [execPcieLinkStateChange, hd]
  rfl

theorem execPcieLinkStateChange_of_down (gen width : Nat) : execPcieLinkStateChange false gen width s =
    .next { s.showLink false 0 0 with host := { (s.showLink false 0 0).host with linkDownPending := true } } := by
  simp only [execPcieLinkStateChange, Bool.and_false]
  rfl

/-! ### Host SPI -/

/-- The fields of the command word of an operation with a length (Table CMD-4). -/
theorem hspiValid_of_length {op n lo hi : Nat} {w : Word} (hw : w = BitVec.ofNat 32 (op + 256 * n)) (ho : op < 256) (hn : n ≤ 8212)
    (hlo : lo ≤ n) (hhi : n ≤ hi) : hspiValid op lo hi w = true ∧ hspiLength w = n := by
  have hv : w.toNat = op + 256 * n := by
    rw [hw, BitVec.toNat_ofNat]
    omega
  have h0 : bits w 7 0 = op := by
    simp only [bits, hv, Nat.shiftRight_eq_div_pow]
    omega
  have h24 : bits w 31 24 = 0 := by
    simp only [bits, hv, Nat.shiftRight_eq_div_pow]
    omega
  have hl : hspiLength w = n := by
    simp only [hspiLength, bits, hv, Nat.shiftRight_eq_div_pow]
    omega
  exact ⟨by simp [hspiValid, h0, h24, hl, hlo, hhi], hl⟩

/-- A command word whose byte 3 is not zero is none. -/
theorem hspiValid_of_byte3 {w : Word} (h : 0x1000000 ≤ w.toNat) (op lo hi : Nat) : hspiValid op lo hi w = false := by
  have h24 : bits w 31 24 ≠ 0 := by
    have hlt := w.isLt
    simp only [bits, Nat.shiftRight_eq_div_pow]
    omega
  simp [hspiValid, h24]

theorem execHspiWritePacket_of_room {b : Bytes} {w : Word} (hup : s.hspiUp = true) (hw : w = BitVec.ofNat 32 (1 + 256 * b.length))
    (hr : s.hspiRoom = true) (hload : s.hspiLoading = false) (hlo : 20 ≤ b.length) (hhi : b.length ≤ 8212) :
    execHspiWritePacket w b s = .next ((s.addFld Reg.hspiCount 31 16 1).receive .hspi b) := by
  obtain ⟨hvalid, hlen⟩ := hspiValid_of_length hw (by decide) hhi hlo hhi
  have hload' : (s.addFld Reg.hspiCount 31 16 1).hspiLoading = false := hload
  simp [execHspiWritePacket, hup, State.hspiWhole, hload, hvalid, hlen, hr, hload']

@[simp] theorem State.length_hspiStatus : s.hspiStatus.length = 4 := by simp [State.hspiStatus]

theorem execHspiReadStatus_of_whole (hup : s.hspiUp = true) :
    execHspiReadStatus 2 4 s = .next { s with host := { s.host with hspiOut := 0 :: s.hspiStatus } } := by
  have hvalid : hspiValid 2 0 0 2#32 = true := by decide
  have htake : s.hspiStatus.take 4 = s.hspiStatus := List.take_of_length_le (Nat.le_of_eq s.length_hspiStatus)
  simp [execHspiReadStatus, hup, hvalid, htake]

theorem State.u8_hspiStatus : u8 s.hspiStatus 0 % 2 = s.hspiRoom.toNat ∧ u8 s.hspiStatus 1 = s.host.bootResult % 256 := by
  have hroom := s.hspiRoom.toNat_lt
  constructor
  · simp only [State.hspiStatus, List.append_assoc, u8_leBytes_one_append]
    omega
  · simp [State.hspiStatus, u8_append_of_le]

theorem State.hspiWaiting_hspiPop {p : Packet} {r : List Packet} (h : s.hspiWaiting = p :: r) (hw : s.omx.hspiWait ≠ []) :
    s.hspiPop.hspiWaiting = r := by
  obtain ⟨p', r', hl⟩ := List.exists_cons_of_ne_nil hw
  have hpop : s.hspiPop = { s with omx := { s.omx with hspiWait := r' } } := by simp [State.hspiPop, hl]
  have hall : p' :: (r' ++ s.hspiEvents) = p :: r := by rw [← h, State.hspiWaiting, hl, List.cons_append]
  rw [hpop]
  exact (List.cons.inj hall).2

section
variable {p : Packet} {r : List Packet} {w : Word} (hup : s.hspiUp = true) (hw : w = BitVec.ofNat 32 (3 + 256 * p.encode.length))
  (hl : p.encode.length ≤ 8212) (hq : s.hspiWaiting = p :: r)
include hup hw hl hq

theorem execHspiReadPacket_of_whole : execHspiReadPacket w p.encode.length s =
    .next ({ s with host := { s.host with hspiOut := 0 :: p.encode } }).hspiPop := by
  obtain ⟨hvalid, -⟩ := hspiValid_of_length hw (by decide) hl (Nat.le_refl _) (Nat.le_refl _)
  simp [execHspiReadPacket, hup, hq, hvalid]

theorem execHspiReadPacket_of_short {m : Nat} (hm : m < p.encode.length) : execHspiReadPacket w m s =
    .next ({ s with host := { s.host with hspiOut := 0 :: p.encode.take m } }).hspiFraming := by
  obtain ⟨hvalid, -⟩ := hspiValid_of_length hw (by decide) hl (Nat.le_refl _) (Nat.le_refl _)
  simp [execHspiReadPacket, hup, hq, hvalid, hm]

end

theorem State.hspiPop_host : s.hspiPop.host = s.host := by
  unfold State.hspiPop
  split <;> rfl

end

/-- Settles O17: the transports one by one. -/
theorem transportsComplete : Obligations.TransportsComplete := by
  refine ⟨fun n s hn hd => ⟨fun buf c hr hw hb hc hl => execPcieReqDoorbell_of_free s hn hd hr hw hb hc hl,
      fun hr => ⟨fun hq => ?lastReply, fun p r hq => ?nextReply⟩, fun i h16 hi hp => ?cons, fun m => ?clear,
    fun buf c i m t ht => ?malformed⟩,
    fun s => ⟨fun hd => ⟨fun hr w off v => ?retry, fun hr off v => ⟨?configRead, ?bar, ?command⟩⟩, ?perst, ⟨_, rfl, rfl⟩, fun hd => ?flr,
      fun h => ?expiry, fun g w hd hg hw => ?up, fun g w => ?down⟩,
    fun s hup => ⟨fun b w hw hr hload hlo hhi => execHspiWritePacket_of_room s hup hw hr hload hlo hhi, ?readStatus,
      fun p r w hw hl hq => ⟨⟨_, execHspiReadPacket_of_whole s hup hw hl hq, congrArg _ (State.hspiPop_host _),
          State.hspiWaiting_hspiPop { s with host := { s.host with hspiOut := 0 :: p.encode } } hq⟩,
        fun m hm => ⟨_, execHspiReadPacket_of_short s hup hw hl hq hm, rfl, hq⟩⟩, fun op w b m _ h => ?framing⟩⟩
  case lastReply =>
    have hexec := execPcieReplyDoorbell_of_ready s hn hd hr
    rw [hq] at hexec
    exact ⟨_, hexec, by simp, by simp⟩
  case nextReply =>
    have hexec := execPcieReplyDoorbell_of_ready s hn hd hr
    rw [hq] at hexec
    exact ⟨_, hexec, by simp, by simp, by simp, rfl⟩
  case cons =>
    refine ⟨_, execPcieEvtCons_of_reached s hn hd h16 hi hp, ?_, ?_, fun e => ?_⟩ <;> simp [Mailbox.consume]
  case clear =>
    refine ⟨{ s with host := { s.host with irqStatus := s.host.irqStatus &&& ~~~ m } }, ?_, rfl, fun i hi => ?_⟩
    · exact congrArg Host.Outcome.next (State.bar0Write_of_up s hd)
    · simp [hi]
  case malformed =>
    subst ht
    exact ⟨congrArg _ (s.bar0Write_of_malformed hd), congrArg _ (s.bar0Write_of_malformed hd), congrArg _ (s.bar0Write_of_malformed hd),
      congrArg _ (s.bar0Write_of_malformed hd)⟩
  case retry => exact ⟨_, execPcieConfigRequest_of_unready s hd hr w off v, rfl, rfl⟩
  case configRead => exact ⟨_, execPcieConfigRequest_of_ready s hd hr false off v, rfl, rfl⟩
  case bar =>
    refine ⟨_, execPcieConfigRequest_of_ready s hd hr true 0x10 v, rfl, fun hlen => ?_⟩
    have hbar : (setNth s.host.bars 0 v).getD 0 0 = v := getD_setNth_zero (by omega) v 0
    exact congrArg (fun x : Word => (x &&& 0xFFFC0000) ||| 4) hbar
  case command => exact ⟨_, execPcieConfigRequest_of_ready s hd hr true 0x04 v, rfl, rfl⟩
  case perst =>
    refine ⟨_, rfl, rfl, rfl, rfl, rfl, ?_, ?_⟩
    · rw [State.fld_setFld_apart _ _ _ _ _ _ _ (by decide) (by decide)]
      exact State.fld_setFld_self _ Reg.pcieStatus 5 5 0 (by decide) (by decide)
    · exact State.fld_setFld_self _ Reg.pcieStatus 4 0 0 (by decide) (by decide)
  case flr =>
    obtain ⟨hbars, hmem, hmaster, -, hperst⟩ := s.resetEndpoint_host
    exact ⟨s.resetEndpoint, congrArg Host.Outcome.next (if_neg (by simp [hd])), hbars, hmem, hmaster, hperst⟩
  case expiry => exact congrArg Host.Outcome.next (if_pos h)
  case up =>
    obtain ⟨hbit, hgen, hwidth⟩ := s.showLink_fields true hg hw
    have hreg : ((s.showLink true g w).monitor 0 true).reg Reg.pcieStatus = (s.showLink true g w).reg Reg.pcieStatus :=
      State.rbit_monitor_ne _ (by decide) (by decide) 0 true
    refine ⟨_, execPcieLinkStateChange_of_up s hd g w, ?_, (congrArg (bits · 2 1) hreg).trans hgen, (congrArg (bits · 4 3) hreg).trans hwidth, rfl⟩
    exact (congrArg (bit · 0) hreg).trans ((State.rbit_eq_fld _ _ 0).trans (by simp [hbit]))
  case down =>
    obtain ⟨hbit, hgen, hwidth⟩ := s.showLink_fields false (gen := 0) (width := 0) (by decide) (by decide)
    refine ⟨_, execPcieLinkStateChange_of_down s g w, ?_, rfl⟩
    simp only [State.fld, bits, Nat.shiftRight_eq_div_pow, Bool.toNat_false] at hbit hgen hwidth ⊢
    show ((s.showLink false 0 0).reg Reg.pcieStatus).toNat / 2 ^ 0 % 2 ^ (4 + 1 - 0) = 0
    omega
  case readStatus =>
    obtain ⟨hroom, hresult⟩ := s.u8_hspiStatus
    refine ⟨_, execHspiReadStatus_of_whole s hup, rfl, by simp, rfl, ?_, ?_⟩
    · exact (congrArg (· % 2) (u8_cons_of_pos _ _ (by decide))).trans hroom
    · exact (u8_cons_of_pos _ _ (by decide)).trans hresult
  case framing =>
    have hbad := hspiValid_of_byte3 h
    refine ⟨fun _ => ?_, fun _ => ?_, fun _ => ?_⟩
    · exact congrArg Host.Outcome.next (by simp [hup, State.hspiWhole, hbad, State.hspiFraming])
    · exact congrArg Host.Outcome.next (by simp [hup, hbad, State.hspiFraming])
    · refine congrArg Host.Outcome.next ?_
      cases s.hspiWaiting with
      | nil => simp [hup, State.hspiFraming]
      | cons p r => simp [hup, hbad, State.hspiFraming]

end Sys2Proof.Machine
end

section
/-! SUPPORT. POR_RELEASE clears the last conversion of SENSE (R85), which refutes the statement BootCompletes: it has the command change nothing but
the boot part of the state that the reset leaves. -/

namespace Sys2Proof.Machine

/-- A device that is held in reset with a conversion of SENSE on show. -/
def heldWithSense : State := { State.reset with regs := [(Reg.supmonSenseMv, 5)] }

/-- Refutes O18: POR_RELEASE with VBAT good clears SUPMON_SENSE_MV, which a device reset keeps. -/
theorem not_bootCompletes : ¬ Obligations.BootCompletes := by
  intro h
  obtain ⟨⟨t, hexec, hframe, -⟩, -⟩ := (h.1 heldWithSense).1 (by decide +kernel)
  have ht := Host.Outcome.next.inj hexec
  have hzero : t.reg Reg.supmonSenseMv = 0 := by
    rw [← ht]
    decide +kernel
  have hkept : t.reg Reg.supmonSenseMv = heldWithSense.cleared.reg Reg.supmonSenseMv := by rw [hframe]; rfl
  exact absurd (hkept.symm.trans hzero) (by decide +kernel)

end Sys2Proof.Machine
end

section
/-! SUPPORT. A device reset that no other reset precedes (R133 to R137): what is latched, what is kept and what is gone, and the statement
DeviceResetsComplete. -/

namespace Sys2Proof.Machine

theorem Store.find?_filter_keys {α : Type} (m : Store α) (p : Nat → Bool) (k : Nat) :
    Store.find? (m.filter fun x => p x.1) k = if p k then Store.find? m k else none := by
  induction m with
  | nil => simp
  | cons x r ih =>
    obtain ⟨a, v⟩ := x
    by_cases hk : a = k
    · subst hk
      cases hp : p a <;> simp_all [Store.find?]
    · cases hp : p a <;> simp_all [Store.find?]

/-! ### The registers after a reset -/

section
variable (s : State) {a : Nat}

theorem State.reg_cleared_of_ne (hs : a ≠ Reg.supmonStatus) (hb : a ≠ Reg.bbrStatus) :
    s.cleared.reg a = if keptRegs.contains a then s.reg a else regReset a := by
  have hfilter : State.reg { s with regs := s.regs.filter fun p => keptRegs.contains p.1 } a = if keptRegs.contains a then s.reg a else regReset a := by
    simp only [State.reg, Store.get, Store.find?_filter_keys]
    split <;> rfl
  rw [← hfilter]
  show State.reg (State.setFld _ Reg.bbrStatus 4 3 0) a = _
  rw [State.reg_setFld_ne _ _ _ _ hb]
  split
  · rfl
  · exact State.reg_setReg_ne _ _ hs

/-! ### Latching a cause -/

theorem firstCause_mem {l : List Nat} {c : Nat} (hc : c ∈ causeOrder) (hl : c ∈ l) : firstCause l ∈ causeOrder ∧ firstCause l ∈ l := by
  obtain ⟨d, hd⟩ := Option.isSome_iff_exists.mp (List.find?_isSome.mpr ⟨c, hc, List.contains_iff_mem.mpr hl⟩)
  have hfirst : firstCause l = d := by rw [firstCause, hd, Option.getD_some]
  rw [hfirst]
  exact ⟨List.mem_of_find?_eq_some hd, List.contains_iff_mem.mp (List.find?_some hd)⟩

theorem State.latchCause_of_free (h : s.boot.held = false) (l : List Nat) :
    s.latchCause l = causeOrder.foldl (State.markSeen l) (s.setFld Reg.sysctlResetCause 3 0 (firstCause l)) := by
  simp only [State.latchCause, h, Bool.false_eq_true, if_false]
  rfl

theorem causeOrder_lt_ten : ∀ c ∈ causeOrder, c < 10 := by decide

theorem State.cause_latchCause (h : s.boot.held = false) {l : List Nat} (hf : firstCause l ∈ causeOrder) :
    (s.latchCause l).fld Reg.sysctlResetCause 3 0 = firstCause l := by
  rw [s.latchCause_of_free h, (State.foldl_markSeen_frame l _ causeOrder_lt).2, State.fld_setFld_self _ _ _ _ _ (by decide) (by decide)]
  have hlt := causeOrder_lt_ten _ hf
  exact Nat.mod_eq_of_lt (by omega)

theorem State.seen_latchCause (h : s.boot.held = false) {l : List Nat} {c : Nat} (hc : c ∈ causeOrder) (hl : c ∈ l) :
    (s.latchCause l).rbit Reg.sysctlResetCause (7 + c) = true := by
  rw [s.latchCause_of_free h]
  exact State.rbit_foldl_markSeen hl causeOrder_lt hc _

/-- Latching writes registers only. -/
theorem State.latchCause_frame (l : List Nat) : (s.latchCause l).otp = s.otp ∧ (s.latchCause l).flash = s.flash := by
  refine List.foldlRecOn (motive := fun t : State => t.otp = s.otp ∧ t.flash = s.flash) _ _ ?_ fun t ht c _ => ?_
  · split <;> exact ⟨rfl, rfl⟩
  · split <;> exact ht

end

/-! ### The reset -/

/-- `t` is what a device reset with cause `c` leaves of `s` (Table BOT-2). -/
def State.ResetBy (s : State) (c : Nat) (t : State) : Prop :=
  t.fld Reg.sysctlResetCause 3 0 = c ∧ t.rbit Reg.sysctlResetCause (7 + c) = true ∧ t.wc.running = false ∧
    t.omx.sessions = [] ∧ t.chans = [] ∧ t.programs = [] ∧ t.mem = [] ∧ t.boot.held = true ∧ t.harbourOpen = false ∧
    t.otp = s.otp ∧ t.flash.cs0 = s.flash.cs0 ∧ t.flash.progs = s.flash.progs

theorem Flash.afterReset_frame (f : Flash) (busy : Bool) (key : Nat) :
    (f.afterReset busy key).cs0 = f.cs0 ∧ (f.afterReset busy key).progs = f.progs := by
  unfold Flash.afterReset
  split
  · split <;> exact ⟨rfl, rfl⟩
  · exact ⟨rfl, rfl⟩

/-- The entry RESET, where there is one, and the latched cause stand when everything else is cleared. -/
theorem State.deviceResets_of_free {s : State} (h : s.boot.held = false) (l : List Nat) : ∃ t : State, ∃ e : Option (Word × Word),
    (s.latchCause l).Tells t ∧ s.deviceResets l = { t.cleared with boot := { t.cleared.boot with resetEntry := e } } := by
  simp only [State.deviceResets, h, Bool.false_eq_true, if_false]
  by_cases hp : (firstCause l == Cause.por) = true
  · rw [if_pos hp, if_pos hp]
    exact ⟨s.latchCause l, none, .refl _, rfl⟩
  · rw [if_neg hp, if_neg hp]
    exact ⟨(s.latchCause l).bbrB 0x011 5 0x12 (s.latchCause l).resetPayload, _, State.bbrB_tells .., rfl⟩

theorem State.reg_deviceResets {s : State} (h : s.boot.held = false) (l : List Nat) :
    (s.deviceResets l).reg Reg.sysctlResetCause = (s.latchCause l).reg Reg.sysctlResetCause ∧
    (s.deviceResets l).reg Reg.sysctlBootStatus = regReset Reg.sysctlBootStatus := by
  obtain ⟨t, e, ht, hr⟩ := State.deviceResets_of_free h l
  have hreg : ∀ a, (s.deviceResets l).reg a = t.cleared.reg a := fun a => by rw [hr]; rfl
  rw [hreg, hreg, t.reg_cleared_of_ne (by decide) (by decide), t.reg_cleared_of_ne (by decide) (by decide), ht.reg _ (by decide)]
  exact ⟨rfl, rfl⟩

/-- Sources that fire while no reset is held reset the device with the first of them, after work that left OTP, flash and the boot part. -/
theorem State.ResetBy.deviceResets {s u : State} (hheld : u.boot.held = false) (ho : u.otp = s.otp) (hf : u.flash = s.flash) {l : List Nat}
    {c : Nat} (hc : c ∈ causeOrder) (hl : c ∈ l) : s.ResetBy (firstCause l) (u.deviceResets l) := by
  obtain ⟨hfirst, hin⟩ := firstCause_mem hc hl
  obtain ⟨hcause, hstatus⟩ := State.reg_deviceResets hheld l
  obtain ⟨hotp, hflash⟩ := u.latchCause_frame l
  obtain ⟨t, e, ht, hr⟩ := State.deviceResets_of_free hheld l
  obtain ⟨hcs, hprogs⟩ := t.flash.afterReset_frame (t.rbit Reg.qspiCtrl 7) t.freeCtr
  have hopen : (u.deviceResets l).harbourOpen = false := (congrArg (bit · 15) hstatus).trans (by decide)
  have hfl : t.flash = s.flash := ht.flash.trans (hflash.trans hf)
  have hot : t.otp = s.otp := ht.otp.trans (hotp.trans ho)
  refine ⟨(congrArg (bits · 3 0) hcause).trans (u.cause_latchCause hheld hfirst), (congrArg (bit · _) hcause).trans (u.seen_latchCause hheld hfirst hin),
    ?_, ?_, ?_, ?_, ?_, ?_, hopen, ?_, ?_, ?_⟩ <;> rw [hr]
  case refine_7 => exact hot
  case refine_8 => exact hcs.trans (congrArg Flash.cs0 hfl)
  case refine_9 => exact hprogs.trans (congrArg Flash.progs hfl)
  all_goals rfl

/-- A single source gives its own cause. -/
theorem State.ResetBy.deviceReset {s u : State} (hheld : u.boot.held = false) (ho : u.otp = s.otp) (hf : u.flash = s.flash) {c : Nat}
    (hc : c ∈ causeOrder) : s.ResetBy c (u.deviceResets [c]) := by
  have hone : firstCause [c] = c := by simpa using (firstCause_mem hc (List.mem_singleton_self c)).2
  have hreset := State.ResetBy.deviceResets hheld ho hf hc (List.mem_singleton_self c)
  rwa [hone] at hreset

theorem mem_causeOrder {x : Nat} (h1 : 1 ≤ x) (h9 : x ≤ 9) : x ∈ causeOrder := by
  have hall : ∀ y < 10, 1 ≤ y → y ∈ causeOrder := by decide
  exact hall x (by omega) h1

/-- Settles O20: each source by the reset that it ends in; the watchdog and the thermal shutdown write their entries first. -/
theorem deviceResetsComplete : Obligations.DeviceResetsComplete := by
  rintro s _ h rfl
  refine ⟨⟨_, rfl, ?pin⟩, fun hl => ⟨_, congrArg Host.Outcome.next (if_neg (by simp [hl])), ?jtag⟩, fun who ho => ?host,
    fun he => ⟨_, congrArg Host.Outcome.next (if_pos he), ?doubleTrap⟩, fun hen => ⟨_, rfl, ?wdt⟩, ⟨_, rfl, ?thermal, rfl⟩,
    fun also c hc => ⟨_, rfl, ?several, fun x hx h1 h9 => ?seen⟩⟩
  case pin => exact State.ResetBy.deviceReset h rfl rfl (by decide)
  case jtag => exact State.ResetBy.deviceReset h rfl rfl (by decide)
  case host =>
    have hi : exec (.sysctlSwreset who) s = .next (s.guardedWrite who Reg.sysctlSwreset fun t => t.deviceReset Cause.host) := rfl
    rw [State.guardedWrite_opens ho] at hi
    exact ⟨_, hi, State.ResetBy.deviceReset (u := s.opened who Reg.sysctlSwreset) h rfl rfl (by decide)⟩
  case doubleTrap => exact State.ResetBy.deviceReset h rfl rfl (by decide)
  case wdt =>
    have ht := s.faultB_tells 0x012 2 0x12 (BitVec.ofNat 32 s.elapsedMs) 0
    have hheld : (s.faultB 0x012 2 0x12 (BitVec.ofNat 32 s.elapsedMs) 0).boot.held = false := (congrArg Boot.held ht.boot).trans h
    simp only [State.wdtExpire, hen, Bool.not_true, Bool.false_eq_true, if_false]
    split
    · exact State.ResetBy.deviceReset hheld ht.otp ht.flash (by decide)
    · exact State.ResetBy.deviceReset (u := State.lastFence _ 1 7 0) hheld ht.otp ht.flash (by decide)
  case thermal =>
    have ht := s.faultB_tells 0x01B 6 0x12 (BitVec.ofNat 32 s.tempMax) 0
    exact State.ResetBy.deviceReset ((congrArg Boot.held ht.boot).trans h) ht.otp ht.flash (by decide)
  case several =>
    rw [hc]
    exact State.ResetBy.deviceResets h rfl rfl (c := Cause.pin) (by decide) List.mem_cons_self
  case seen =>
    obtain ⟨hcause, -⟩ := State.reg_deviceResets h (Cause.pin :: also)
    exact (congrArg (bit · _) hcause).trans (s.seen_latchCause h (mem_causeOrder h1 h9) (List.mem_cons_of_mem _ hx))

end Sys2Proof.Machine
end

section
/-! SUPPORT. The supply warning, the sag reset and the AON supply (R79 to R98), and the statement SupplyCommandsComplete. -/

namespace Sys2Proof.Machine

section
variable (s : State)

theorem State.rbit_setRbit_apart (a : Nat) {i j : Nat} (b : Bool) (h : i < 32) (hj : j ≠ i) : (s.setRbit a i b).rbit a j = s.rbit a j := by
  rw [State.rbit, State.reg_setRbit_self, bit_putBit_ne _ _ _ _ h hj, State.rbit]

theorem State.rbit_setFld_apart (a hi lo v : Nat) {j : Nat} (h : hi < 32) (hj : j < lo ∨ hi < j) : (s.setFld a hi lo v).rbit a j = s.rbit a j := by
  have hout : ¬ (lo ≤ j ∧ j ≤ hi) := by omega
  rw [State.rbit, State.reg_setFld_self, bit, getLsbD_putBits _ _ _ _ _ h, if_neg hout]
  rfl

theorem State.rbit_setFld_in (a hi lo v : Nat) {j : Nat} (h : hi < 32) (hl : lo ≤ j) (hj : j ≤ hi) :
    (s.setFld a hi lo v).rbit a j = v.testBit (j - lo) := by
  rw [State.rbit, State.reg_setFld_self, bit, getLsbD_putBits _ _ _ _ _ h, if_pos ⟨hl, hj⟩]

theorem State.rbit_orReg (a : Nat) (m : Word) (i : Nat) : (s.orReg a m).rbit a i = (s.rbit a i || bit m i) := by
  rw [State.rbit, State.reg_orReg_self, bit, BitVec.getLsbD_or]
  rfl

/-! ### Telling the network of the warning -/

/-- A Tideline frame joins the frames to send. -/
theorem State.sendTl_reg {a : Nat} (ha : a < Reg.ethCtrl) (f : TxTl) : (s.sendTl f).reg a = s.reg a := by
  unfold State.sendTl
  split
  · rfl
  · exact State.reg_queueTx_of_lt _ ha _ _ _ rfl

/-- BRACE leaves the registers below the Ethernet ports. -/
theorem State.brace_reg {a : Nat} (ha : a < Reg.ethCtrl) (on : Bool) : (s.brace on).reg a = s.reg a := by
  refine List.foldlRecOn (motive := fun t : State => t.reg a = s.reg a) _ _ ?_ fun t ht v _ => ?_
  · exact List.foldlRecOn (motive := fun t : State => t.reg a = s.reg a) _ _ rfl fun t ht id _ => (State.sendTl_reg _ ha _).trans ht
  · split <;> exact ht

theorem State.tellSupply_tells (warn : Bool) (mon : Nat) : s.Tells (s.tellSupply warn mon) :=
  List.foldlRecOn (motive := s.Tells) _ _ (.refl s) fun t ht _ _ => ht.trans (t.emitTo_tells ..)

theorem State.feedFlash_reg {a : Nat} (ha : a ≠ Reg.qspiCtrl) : s.feedFlash.reg a = s.reg a := by
  unfold State.feedFlash
  split
  · rfl
  · split
    · exact State.reg_setRbit_ne _ _ _ ha
    · split
      · rfl
      · exact State.reg_setRbit_ne _ _ _ ha

/-! ### The commands -/

/-- What a warn monitor's crossing leaves, where no warning holds: the monitors that crossed, the warning and its event. -/
theorem execWarningAssert_of_crossed (hw : s.warning = false) {x y : Bool} {a b : Bool}
    (ha : (a && s.rbit Reg.supmonCtrl 0 && s.filtered 0) = x) (hb : (b && s.rbit Reg.supmonCtrl 1 && s.filtered 1) = y) (hxy : (x || y) = true) :
    ∃ t, execWarningAssert a b s = .next t ∧ t.warning = true ∧ t.rbit Reg.supmonEvents 0 = true ∧
      (x = true → t.rbit Reg.supmonStatus 1 = true) ∧ (y = true → t.rbit Reg.supmonStatus 2 = true) := by
  have hnone : (!x && !y) = false := by
    revert hxy
    cases x <;> cases y <;> decide
  simp only [execWarningAssert, ha, hb, hnone, hw, Bool.false_eq_true, if_false]
  generalize hm : BitVec.ofNat 32 (2 * x.toNat + 4 * y.toNat) = m
  generalize hu : (((s.orReg Reg.supmonStatus m).setRbit Reg.supmonStatus 3 false).setRbit Reg.supmonStatus 0 true).setRbit Reg.supmonEvents 0 true = u
  have ht := (u.addFld Reg.supmonAonStatus 31 16 1).bbrB_tells 0x013 2 0x10 (BitVec.ofNat 32 (x.toNat + 2 * y.toNat + 65536 *
    (u.addFld Reg.supmonAonStatus 31 16 1).senseMv)) 0
  have hreg : ∀ {c}, c < Reg.supmonAonStatus → ∀ i, (State.bbrB (u.addFld Reg.supmonAonStatus 31 16 1) 0x013 2 0x10 (BitVec.ofNat 32 (x.toNat +
      2 * y.toNat + 65536 * (u.addFld Reg.supmonAonStatus 31 16 1).senseMv))).rbit c i = u.rbit c i := fun hc i =>
    (ht.rbit (told_of_lt (Nat.lt_trans hc (by decide))) i).trans (congrArg (bit · i) (State.reg_addFld_ne _ _ _ _ (Nat.ne_of_lt hc)))
  have hstatus : ∀ i, u.rbit Reg.supmonStatus i = if i = 0 then true else if i = 3 then false else (s.rbit Reg.supmonStatus i || bit m i) := by
    intro i
    rw [← hu, State.rbit_setRbit_ne _ _ (by decide)]
    by_cases h0 : i = 0
    · subst h0
      exact State.rbit_setRbit_self _ _ _ _ (by decide)
    · rw [State.rbit_setRbit_apart _ _ _ (by decide) h0, if_neg h0]
      by_cases h3 : i = 3
      · subst h3
        exact State.rbit_setRbit_self _ _ _ _ (by decide)
      · rw [State.rbit_setRbit_apart _ _ _ (by decide) h3, if_neg h3, State.rbit_orReg]
  refine ⟨_, rfl, (hreg (by decide) 0).trans (hstatus 0), (hreg (by decide) 0).trans ?_, fun hx => (hreg (by decide) 1).trans ?_,
    fun hy => (hreg (by decide) 2).trans ?_⟩
  · rw [← hu]
    exact State.rbit_setRbit_self _ _ _ _ (by decide)
  · subst hx
    have hbit : bit m 1 = true := by
      rw [← hm]
      cases y <;> decide
    rw [hstatus, hbit]
    simp
  · subst hy
    have hbit : bit m 2 = true := by
      rw [← hm]
      cases x <;> decide
    rw [hstatus, hbit]
    simp

theorem execWarningClear_of_recovered (hw : s.warning = true) (hr : s.rbit Reg.supmonStatus 3 = true) :
    ∃ t, execWarningClear s = .next t ∧ t.warning = false ∧ t.rbit Reg.supmonEvents 1 = true := by
  simp only [execWarningClear, hw, hr, Bool.not_true, Bool.or_self, Bool.false_eq_true, if_false]
  generalize hu : (s.setFld Reg.supmonStatus 3 0 0).setRbit Reg.supmonEvents 1 true = u
  have hwarn : u.rbit Reg.supmonStatus 0 = false := by
    rw [← hu, State.rbit_setRbit_ne _ _ (by decide), State.rbit_setFld_in _ _ _ _ _ (by decide) (by decide) (by decide)]
    rfl
  have hevent : u.rbit Reg.supmonEvents 1 = true := by
    rw [← hu]
    exact State.rbit_setRbit_self _ _ _ _ (by decide)
  have ht := u.bbrB_tells 0x014 1 0x10 (BitVec.ofNat 32 (65536 * u.senseMv)) 0
  generalize hv : u.bbrB 0x014 1 0x10 (BitVec.ofNat 32 (65536 * u.senseMv)) = v at ht
  have hreg : ∀ {c}, c < Reg.ethCtrl → (State.feedFlash (if v.reports then (v.brace false).tellSupply false (s.fld Reg.supmonStatus 2 1) else v)).reg c =
      u.reg c := by
    intro c hc
    refine (State.feedFlash_reg _ (Nat.ne_of_lt (Nat.lt_trans hc (by decide)))).trans ?_
    split
    · exact ((State.tellSupply_tells ..).reg_of_lt hc).trans ((v.brace_reg hc false).trans (ht.reg_of_lt hc))
    · exact ht.reg_of_lt hc
  exact ⟨_, rfl, (congrArg (bit · 0) (hreg (by decide))).trans hwarn, (congrArg (bit · 1) (hreg (by decide))).trans hevent⟩

/-- A sag comes first among the sources of one cycle but for the power-on reset (R135). -/
theorem firstCause_sag {also : List Nat} (h : Cause.por ∉ also) : firstCause (Cause.sag :: also) = Cause.sag := by
  have hpor : (Cause.sag :: also).contains Cause.por = false := by
    rw [Bool.eq_false_iff, ne_eq, List.contains_iff_mem, List.mem_cons, not_or]
    exact ⟨by decide, h⟩
  have hsag : (Cause.sag :: also).contains Cause.sag = true := List.contains_iff_mem.mpr List.mem_cons_self
  rw [firstCause, causeOrder, List.find?_cons_of_neg (by rw [hpor]; decide), List.find?_cons_of_pos hsag, Option.getD_some]

/-- What a crossing of SENSE shows. -/
theorem execSupmonCrossing_sense (low : Bool) : ∃ t, execSupmonCrossing 0 low s = .next t ∧ t.rbit Reg.supmonStatus 4 = low ∧
    (low = true → s.rbit Reg.supmonCtrl 0 = true → t.rbit Reg.supmonStatus 3 = false) ∧ t = { s with regs := t.regs, belowUs := t.belowUs } := by
  unfold execSupmonCrossing
  by_cases hc : (low && (decide (0 = 0) && s.rbit Reg.supmonCtrl 0 || decide (0 = 1) && s.rbit Reg.supmonCtrl 1)) = true
  · refine ⟨_, congrArg Host.Outcome.next (if_pos hc), ?_, fun _ _ => ?_, rfl⟩
    · rw [State.rbit_setRbit_apart _ _ _ (by decide) (by decide)]
      exact State.rbit_setRbit_self _ _ _ _ (by decide)
    · exact State.rbit_setRbit_self _ _ _ _ (by decide)
  · refine ⟨_, congrArg Host.Outcome.next (if_neg hc), State.rbit_setRbit_self _ _ _ _ (by decide), fun hl he => ?_, rfl⟩
    exact absurd (by simp [hl, he]) hc

theorem execVbatLow_of_first (hs : s.rbit Reg.supmonAonStatus 0 = false) (hl : s.boot.vbatLogged = false) :
    ∃ t, execVbatLow s = .next t ∧ t.rbit Reg.supmonAonStatus 0 = true ∧ t.rbit Reg.supmonEvents 2 = true ∧ t.boot.vbatLogged = true := by
  simp only [execVbatLow, hs, Bool.false_eq_true, if_false]
  generalize hu : (s.setRbit Reg.supmonEvents 2 true).setRbit Reg.supmonAonStatus 0 true = u
  have hlow : u.rbit Reg.supmonAonStatus 0 = true := by
    rw [← hu]
    exact State.rbit_setRbit_self _ _ _ _ (by decide)
  have hevent : u.rbit Reg.supmonEvents 2 = true := by
    rw [← hu, State.rbit_setRbit_ne _ _ (by decide)]
    exact State.rbit_setRbit_self _ _ _ _ (by decide)
  have hlogged : u.boot.vbatLogged = false := by
    rw [← hu]
    exact hl
  have ht := State.faultB_tells { u with boot := { u.boot with vbatLogged := true } } 0x015 1 0x10 0 0
  refine ⟨_, congrArg Host.Outcome.next (if_neg (by simp [hlow, hlogged])), (ht.rbit (by decide) 0).trans hlow, (ht.rbit (by decide) 2).trans hevent,
    congrArg Boot.vbatLogged ht.boot⟩

end

/-- Settles O19: the commands one by one. -/
theorem supplyCommandsComplete : Obligations.SupplyCommandsComplete := by
  intro s
  refine ⟨fun hw a b hab => execWarningAssert_of_crossed s hw rfl rfl hab,
    fun hw => ⟨fun hr => ?irq, ?recovery, fun hr => execWarningClear_of_recovered s hw hr⟩, fun h i c p also hm hpor => ?sag, ⟨_, rfl, rfl⟩,
    fun mv => ⟨_, rfl, ?conversion, rfl⟩, execSupmonCrossing_sense s, execVbatLow_of_first s,
    ⟨_, rfl, State.rbit_setRbit_self _ _ _ _ (by decide), rfl⟩, fun v => ⟨_, rfl, State.rbit_setRbit_self _ _ _ _ (by decide), rfl⟩⟩
  case irq =>
    have hexec : exec .warningIrq s = execWarningIrq s := rfl
    rw [hexec, execWarningIrq, if_neg (by simp [hw, hr])]
  case recovery =>
    have hexec : exec .warningRecoveryStart s = execWarningRecoveryStart s := rfl
    rw [hexec, execWarningRecoveryStart, if_pos hw]
    exact ⟨_, rfl, State.rbit_setRbit_self _ _ _ _ (by decide), (State.rbit_setRbit_apart _ _ _ (by decide) (by decide)).trans hw⟩
  case sag =>
    have hcrossed : ¬ ((!i && !c && !p) = true) := by
      revert hm
      cases i <;> cases c <;> cases p <;> decide
    refine ⟨_, congrArg Host.Outcome.next (if_neg hcrossed), rfl, rfl, ?_⟩
    generalize hu : s.orReg Reg.supmonResetSrc (BitVec.ofNat 32 (i.toNat + 2 * c.toNat + 4 * p.toNat)) = u
    have hheld : u.boot.held = false := by
      rw [← hu]
      exact h
    have hreset := State.ResetBy.deviceResets (s := u) hheld rfl rfl (c := Cause.sag) (by decide) (List.mem_cons_self (l := also))
    exact hreset.1.trans (firstCause_sag hpor)
  case conversion =>
    refine (State.fld_setFld_self _ _ _ _ _ (by decide) (by decide)).trans ?_
    exact Nat.mod_eq_of_lt (Nat.lt_succ_of_le (Nat.min_le_right ..))

end Sys2Proof.Machine
end

section
/-! SUPPORT. A fence lets the accesses that wait for port B go on (R798), which refutes the statement FencesStandAndEnd: an access that waits at a
master port may clear the event that the fence has just set. -/

namespace Sys2Proof.Machine

/-- A device out of reset, where a write of the Harbourmaster that clears RECLAIM_EVENTS waits at its master port. -/
def clearWaits : State :=
  { boot := { held := false, basins := true }
    atPort := [{ who := { master := 1 }, addr := Reg.reclaimEvents, write := true, size := 4, beats := 1, data := [1, 0, 0, 0] }] }

/-- The waiting write takes the event of the fence away. -/
theorem events_fence_clearWaits : ((clearWaits.fence 4 0 0 0).freePort).rbit Reg.reclaimEvents 0 = false := by decide +kernel

/-- Refutes O22: FENCE_SEQUENCE of the DMA's domain sets its event, and the write that waited clears it. -/
theorem not_fencesStandAndEnd : ¬ Obligations.FencesStandAndEnd := by
  intro h
  obtain ⟨t, hexec, ht⟩ := (h.1 clearWaits (by decide)).1 4 0 0 0 (by decide) (by decide) (by decide) (by decide +kernel) (by decide +kernel)
  obtain ⟨-, hevent, -⟩ := ht (by decide) (by decide)
  rw [← Host.Outcome.next.inj hexec, events_fence_clearWaits] at hevent
  exact absurd hevent (by decide)

end Sys2Proof.Machine
end

section
/-! SUPPORT. The configuration fields of the PCIE block ignore writes while the endpoint cannot answer (R199), which refutes the statement
GuardsOpenAndDeny: it has the write of every guarded register deny. -/

namespace Sys2Proof.Machine

/-- After reset, with PERST_N asserted, the Harbourmaster reaches the registers of the PCIE block. -/
theorem reset_reaches_pcieOutBase : State.reset.Reaches { master := 1 } Reg.pcieOutBaseLo where
  heard := by decide +kernel
  unfenced := by decide +kernel
  path := by decide
  debug := by decide
  answers := by decide

/-- Refutes O24: a write of PCIE_OUT_BASE with the guard closed is ignored while PERST_N is asserted, so that GUARD_DENIED stays clear. -/
theorem not_guardsOpenAndDeny : ¬ Obligations.GuardsOpenAndDeny := by
  intro h
  obtain ⟨-, -, -, -, hrow⟩ := h.2 State.reset { master := 1 } Reg.pcieOutBaseLo 0 ⟨Reg.pcieOutBaseLo, 1, 0x4, [⟨31, 29, .rwg, .q, 0⟩]⟩
    reset_reaches_pcieOutBase (by decide) (by decide)
  obtain ⟨t, ht, hdenied, -⟩ := hrow (by decide) (by simp) ⟨_, List.mem_singleton_self _, rfl⟩
  have hignored : ((State.reset.plainWrite { master := 1 } Reg.pcieOutBaseLo 0).guard (blockOf Reg.pcieOutBaseLo)).denied = false := by decide +kernel
  rw [ht, hdenied] at hignored
  exact absurd hignored (by decide)

end Sys2Proof.Machine
end

section
/-! SUPPORT. Register writes without an action of their own (R179 to R182), the clears and the interrupt controller, and the statements
ClearsAndInterruptsComplete and RegisterWritesTakeTheirFields. -/

namespace Sys2Proof.Machine

theorem testBit_bits (w : Word) {hi lo i : Nat} (hl : lo ≤ i) (hh : i ≤ hi) : (bits w hi lo).testBit (i - lo) = w.getLsbD i := by
  have hlt : i - lo < hi + 1 - lo := by omega
  rw [bits, Nat.testBit_mod_two_pow, Nat.testBit_shiftRight, decide_eq_true hlt, Bool.true_and, Nat.add_sub_cancel' hl, BitVec.testBit_toNat]

/-- A field that is written with its own bits of a word takes these bits. -/
theorem getLsbD_putBits_bits (w v : Word) {hi lo i : Nat} (h : hi < 32) :
    (putBits w hi lo (bits v hi lo)).getLsbD i = if lo ≤ i ∧ i ≤ hi then v.getLsbD i else w.getLsbD i := by
  rw [getLsbD_putBits _ _ _ _ _ h]
  split
  · next hin => exact testBit_bits v hin.1 hin.2
  · rfl

/-! ### The write of a row without guarded and Q-class fields -/

theorem RegField.write_of_unguarded {f : RegField} (h : f.access ≠ .rwg) (open_ : Bool) (v w : Word) : f.write open_ v w = f.write false v w := by
  unfold RegField.write
  cases hf : f.access with
  | rwg => exact absurd hf h
  | _ => rfl

/-- What holds of the rows of interrupt enables and events: no guarded field, no Q-class field, and a field that takes a write. -/
def RegRow.isQuiet (r : RegRow) : Bool := !r.isGuarded && !r.writesQ true && r.takes false

section
variable {s : State} {a : Nat} {r : RegRow}

/-- The write of a row of which nothing follows stores its fields. -/
theorem State.storeRow_of_quiet (who : Initiator) (v : Word) (hq : r.isQuiet = true) (hr : ∀ old w, s.readBack a old w = w)
    (ha : ∀ (t : State) old, t.afterWrite a old = t) :
    s.storeRow who a r v = s.setReg a (r.fields.foldl (fun w f => f.write false v w) (s.reg a)) := by
  simp only [RegRow.isQuiet, Bool.and_eq_true, Bool.not_eq_true'] at hq
  obtain ⟨⟨hg, hw⟩, ht⟩ := hq
  have hfield : ∀ f ∈ r.fields, f.access ≠ .rwg := fun f hf heq =>
    Bool.eq_false_iff.mp hg (List.any_eq_true.mpr ⟨f, hf, by simp [heq]⟩)
  have hopen : ∀ o, r.writesQ o = false := fun o => by
    refine Bool.eq_false_iff.mpr fun h => Bool.eq_false_iff.mp hw ?_
    obtain ⟨f, hf, hfq⟩ := List.any_eq_true.mp h
    refine List.any_eq_true.mpr ⟨f, hf, ?_⟩
    revert hfq
    cases o <;> simp
    intro h1 h2
    exact ⟨h1, .inl h2⟩
  have htakes : ∀ o, r.takes o = true := fun o => by
    obtain ⟨f, hf, hft⟩ := List.any_eq_true.mp ht
    refine List.any_eq_true.mpr ⟨f, hf, ?_⟩
    revert hft
    cases o <;> simp
    exact fun h => .inl h
  have hfold : r.fields.foldl (fun w f => f.write (s.guardOpen (blockOf a) who) v w) (s.reg a) =
      r.fields.foldl (fun w f => f.write false v w) (s.reg a) :=
    foldl_congr_mem (fun w f hf => RegField.write_of_unguarded (hfield f hf) _ v w) _
  simp only [State.storeRow, hg, hopen, htakes, hfold, hr, ha, Bool.not_false, Bool.not_true, Bool.false_and, Bool.false_eq_true, if_true, if_false]

/-- The registers of interrupt enables, events and interrupts in service that a write reaches without an action. -/
def eventRegs : List Nat :=
  [Reg.supmonIrqEn, Reg.clkgenIrqEn, Reg.fairwayIrqEn, Reg.ptpIrqEn, Reg.bbrIrqEn, Reg.tempIrqEn, Reg.timerIrqEn, Reg.supmonEvents, Reg.fairwayEvents,
    Reg.basinctlEvents, Reg.ptpEvents, Reg.slipctlEvents, Reg.bbrEvents, Reg.tempEvents, Reg.timerEvents, Reg.intcInservice, Reg.intcInservice + 4]

theorem regRow_eventRegs : ∀ b ∈ eventRegs, ((regRow? b).any RegRow.isQuiet) = true ∧ inPeripherals b = true ∧ isPcieField b = false := by decide +kernel

theorem readBack_eventRegs (t : State) (old w : Word) : ∀ b ∈ eventRegs, t.readBack b old w = w := by
  unfold eventRegs
  repeat refine List.forall_mem_cons.mpr ⟨rfl, ?_⟩
  exact List.forall_mem_nil _

theorem afterWrite_eventRegs (t : State) (old : Word) : ∀ b ∈ eventRegs, t.afterWrite b old = t := by
  unfold eventRegs
  repeat refine List.forall_mem_cons.mpr ⟨rfl, ?_⟩
  exact List.forall_mem_nil _

theorem State.plainWrite_eventRegs {who : Initiator} (h : s.Reaches who a) (ha : a ∈ eventRegs) (hr : regRow? a = some r) (v : Word) :
    s.plainWrite who a v = (s.busAnswer who .ok).setReg a (r.fields.foldl (fun w f => f.write false v w) (s.reg a)) := by
  obtain ⟨hq, hin, hp⟩ := regRow_eventRegs a ha
  rw [hr, Option.any_some] at hq
  simp only [State.plainWrite, hin, hr, if_true, State.toBlock_reaches h, hp, Bool.false_and, Bool.false_eq_true, if_false]
  exact State.storeRow_of_quiet who v hq (fun old w => readBack_eventRegs _ old w a ha) fun t old => afterWrite_eventRegs t old a ha

theorem writeReg_eventRegs (t : State) (who : Initiator) (v : Word) : ∀ b ∈ eventRegs, t.writeReg who b v = t.plainWrite who b v := by
  have hlast : ∀ b ∈ eventRegs, t.writeReg who b v = t.clusterOff (t.plainWrite who b v) b := by
    unfold eventRegs
    repeat refine List.forall_mem_cons.mpr ⟨rfl, ?_⟩
    exact List.forall_mem_nil _
  have hblock : ∀ b ∈ eventRegs, blockOf b ≠ 11 ∧ blockOf b ≠ 12 := by decide
  intro b hb
  obtain ⟨h11, h12⟩ := hblock b hb
  simp [hlast b hb, State.clusterOff, h11, h12]

end

/-- Settles O27: the row's fields by the write without an action, and the two registers of the timers bit by bit. -/
theorem registerWritesTakeTheirFields : Obligations.RegisterWritesTakeTheirFields := by
  intro s who a v h
  have hexec : ∀ r, a ∈ eventRegs → regRow? a = some r →
      exec (.registerWrite who a v) s = .next ((s.busAnswer who .ok).setReg a (r.fields.foldl (fun w f => f.write false v w) (s.reg a))) := fun r ha hr =>
    congrArg Host.Outcome.next ((writeReg_eventRegs s who v a ha).trans (State.plainWrite_eventRegs h ha hr v))
  refine ⟨fun r ha hr _ => ⟨_, hexec r ?listed hr, State.reg_setReg_self .., rfl, fun b hb => State.reg_setReg_ne _ _ hb⟩, ?enable, ?events⟩
  case listed =>
    have hsub : ∀ b, b ∈ [Reg.supmonIrqEn, Reg.clkgenIrqEn, Reg.fairwayIrqEn, Reg.ptpIrqEn, Reg.bbrIrqEn, Reg.tempIrqEn, Reg.timerIrqEn] ++
        [Reg.supmonEvents, Reg.fairwayEvents, Reg.basinctlEvents, Reg.ptpEvents, Reg.slipctlEvents, Reg.bbrEvents, Reg.tempEvents, Reg.timerEvents] →
        b ∈ eventRegs := by decide
    exact hsub a (List.mem_append.mpr ha)
  case enable =>
    rintro rfl
    refine ⟨_, hexec ⟨Reg.timerIrqEn, 1, 0x4, [⟨0, 0, .rw, .i, 0⟩, ⟨4, 1, .rw, .i, 0⟩]⟩ (by decide) rfl, fun i hi => ?_⟩
    rw [State.reg_setReg_self]
    simp only [List.foldl_cons, List.foldl_nil, RegField.write]
    rw [getLsbD_putBits_bits _ _ (by decide), getLsbD_putBits_bits _ _ (by decide)]
    by_cases h0 : i = 0
    · simp [h0]
    · have h1 : 1 ≤ i := Nat.pos_of_ne_zero h0
      simp [h0, h1]
  case events =>
    rintro rfl
    refine ⟨_, hexec ⟨Reg.timerEvents, 1, 0x4, [⟨0, 0, .w1c, .i, 0⟩, ⟨4, 1, .w1c, .i, 0⟩]⟩ (by decide) rfl, fun i hi => ?_⟩
    rw [State.reg_setReg_self]
    simp only [List.foldl_cons, List.foldl_nil, RegField.write, BitVec.getLsbD_and, BitVec.getLsbD_not, hi, decide_true, Bool.true_and,
      getLsbD_fieldMask _ _ _ (show 0 < 32 by decide), getLsbD_fieldMask _ _ _ (show 4 < 32 by decide)]
    by_cases h0 : i = 0
    · simp [h0]
    · have h1 : 1 ≤ i := Nat.pos_of_ne_zero h0
      simp [h0, h1, Bool.and_comm]

end Sys2Proof.Machine
end

section
/-! SUPPORT. The clears, the interrupt controller, the timers and the OTP word programs, and the statements ClearsAndInterruptsComplete and
TimersAndOtpComplete. -/

namespace Sys2Proof.Machine

theorem ofLe_leBytes (n v : Nat) : ofLe (leBytes n v) = v % 256 ^ n := by
  induction n generalizing v with
  | zero => simp [leBytes, ofLe, Nat.mod_one]
  | succ n ih =>
    rw [leBytes, ofLe, ih, BitVec.toNat_ofNat, show 2 ^ 8 = 256 from rfl, Nat.pow_succ', ← Nat.mod_mul]

section
variable (s : State)

/-! ### Registers returned to 0 -/

theorem State.zeroRegs_succ (base n stride : Nat) :
    s.zeroRegs base (n + 1) stride = (s.zeroRegs base n stride).setReg (base + stride * n) 0 := by
  simp only [State.zeroRegs, List.range_succ, List.foldl_append, List.foldl_cons, List.foldl_nil]

/-- Only registers change. -/
theorem State.zeroRegs_frame (base n stride : Nat) : s.zeroRegs base n stride = { s with regs := (s.zeroRegs base n stride).regs } := by
  induction n with
  | zero => rfl
  | succ n ih => rw [State.zeroRegs_succ, ih]; rfl

theorem State.reg_zeroRegs_of_ne (base n stride : Nat) {a : Nat} (h : ∀ i, i < n → a ≠ base + stride * i) :
    (s.zeroRegs base n stride).reg a = s.reg a := by
  induction n with
  | zero => rfl
  | succ n ih => rw [State.zeroRegs_succ, State.reg_setReg_ne _ _ (h n (Nat.lt_succ_self n)), ih fun i hi => h i (Nat.lt_succ_of_lt hi)]

theorem State.reg_zeroRegs_of_zero (base n stride : Nat) {a : Nat} (h : s.reg a = 0) : (s.zeroRegs base n stride).reg a = 0 := by
  induction n with
  | zero => exact h
  | succ n ih =>
    rw [State.zeroRegs_succ]
    by_cases ha : a = base + stride * n
    · rw [ha, State.reg_setReg_self]
    · rw [State.reg_setReg_ne _ _ ha, ih]

theorem State.reg_zeroRegs_of_lt (base n stride : Nat) {i : Nat} (h : i < n) : (s.zeroRegs base n stride).reg (base + stride * i) = 0 := by
  obtain ⟨m, rfl⟩ := Nat.exists_eq_add_of_lt h
  induction m with
  | zero => rw [Nat.add_zero, State.zeroRegs_succ, State.reg_setReg_self]
  | succ m ih =>
    rw [show i + (m + 1) + 1 = i + m + 1 + 1 from rfl, State.zeroRegs_succ]
    by_cases ha : base + stride * i = base + stride * (i + m + 1)
    · rw [ha, State.reg_setReg_self]
    · rw [State.reg_setReg_ne _ _ ha, ih (by omega)]

/-- The fairway's counts stand in three columns; a later column's clear keeps the zeros of the earlier ones. -/
theorem State.reg_clearFairway (n : Nat) (h : n < 16) : s.clearFairway.reg (Reg.fairwayCntA + 16 * n) = 0 ∧
    s.clearFairway.reg (Reg.fairwayCntB + 16 * n) = 0 ∧ s.clearFairway.reg (Reg.fairwayCntC + 16 * n) = 0 :=
  ⟨State.reg_zeroRegs_of_zero _ _ _ _ (State.reg_zeroRegs_of_zero _ _ _ _ (State.reg_zeroRegs_of_lt _ _ _ _ h)),
   State.reg_zeroRegs_of_zero _ _ _ _ (State.reg_zeroRegs_of_lt _ _ _ _ h), State.reg_zeroRegs_of_lt _ _ _ _ h⟩

/-! ### The interrupt controller -/

/-- A bit of INTC_INSERVICE set or cleared is that source's service; the other sources stay. -/
theorem State.inService_setRbit (n m : Nat) (b : Bool) :
    (s.setRbit (Reg.intcInservice + 4 * (n / 32)) (n % 32) b).inService m = if m = n then b else s.inService m := by
  unfold State.inService
  split
  · next h => rw [h, State.rbit_setRbit_self _ _ _ _ (Nat.mod_lt _ (by decide))]
  · next h =>
    by_cases hd : m / 32 = n / 32
    · rw [hd, State.rbit_setRbit_apart _ _ _ (Nat.mod_lt _ (by decide)) (by omega)]
    · rw [State.rbit_setRbit_ne _ _ (by omega)]

theorem State.inService_serve (n m : Nat) : (s.serve n).inService m = if m = n then true else s.inService m :=
  State.inService_setRbit s n m true

theorem State.irqLevel_lt (n : Nat) : s.irqLevel n < 16 := by
  unfold State.irqLevel State.fld bits
  exact Nat.lt_of_lt_of_eq (Nat.mod_lt _ (Nat.two_pow_pos _)) (congrArg (2 ^ ·) (show 4 * (n % 8) + 3 + 1 - 4 * (n % 8) = 4 by omega))

end

section
variable {s : State} {who : Initiator}

theorem execIntcClaim_of_offered {n : Nat} (h : s.Reaches who Reg.intcClaim) (hn : n < 64) (ho : s.offered = some n) :
    ∃ t, execIntcClaim who s = .next t ∧ t.inService n = true ∧ (∀ m, m < 64 → m ≠ n → t.inService m = s.inService m) ∧
      u8 t.bus.data 0 = n ∧ u8 t.bus.data 1 = s.irqLevel n := by
  have ho' : (s.busAnswer who .ok).offered = some n := ho
  have hl := s.irqLevel_lt n
  refine ⟨((s.busAnswer who .ok).serve n).busAnswer who .ok (leBytes 4 (n + 256 * s.irqLevel n)), ?_, ?_, fun m _ hm => ?_, ?_, ?_⟩
  · simp only [execIntcClaim, State.toBlock_reaches h, State.claim, ho']
    rfl
  · exact (State.inService_serve (s.busAnswer who .ok) n n).trans (if_pos rfl)
  · exact (State.inService_serve (s.busAnswer who .ok) n m).trans (if_neg hm)
  · show u8 (leBytes 4 (n + 256 * s.irqLevel n)) 0 = n
    rw [← List.append_nil (leBytes _ _), u8_leBytes_append _ _ _ (by decide)]
    omega
  · show u8 (leBytes 4 (n + 256 * s.irqLevel n)) 1 = s.irqLevel n
    rw [← List.append_nil (leBytes _ _), u8_leBytes_append _ _ _ (by decide)]
    omega

theorem execIntcClaim_of_none (h : s.Reaches who Reg.intcClaim) (ho : s.offered = none) :
    ∃ t, execIntcClaim who s = .next t ∧ t.bus.data = [0, 0, 0, 0x80] ∧ t.regs = s.regs := by
  have ho' : (s.busAnswer who .ok).offered = none := ho
  refine ⟨(s.busAnswer who .ok).busAnswer who .ok (leBytes 4 0x80000000), ?_, show leBytes 4 0x80000000 = [0, 0, 0, 0x80] by decide, rfl⟩
  simp only [execIntcClaim, State.toBlock_reaches h, State.claim, ho']

/-- Ones written to an INTC_INSERVICE word end the service of those sources. -/
theorem execIntcEndService_inService {i : Nat} (m : Word) (hi : i < 2) (h : s.Reaches who (Reg.intcInservice + 4 * i)) :
    ∃ t, execIntcEndService who i m s = .next t ∧ ∀ n, n < 32 → t.inService (32 * i + n) = (s.inService (32 * i + n) && !m.getLsbD n) := by
  have hrow : Reg.intcInservice + 4 * i ∈ eventRegs ∧
      regRow? (Reg.intcInservice + 4 * i) = some ⟨Reg.intcInservice, 2, 4, [⟨31, 0, .w1c, .i, 0⟩]⟩ := by
    clear h
    revert i
    decide +kernel
  refine ⟨_, congrArg Host.Outcome.next ((if_neg (Nat.not_le.mpr hi)).trans (State.plainWrite_eventRegs h hrow.1 hrow.2 m)), fun n hn => ?_⟩
  have hd : (32 * i + n) / 32 = i ∧ (32 * i + n) % 32 = n := by omega
  simp only [State.inService, hd, State.rbit, State.reg_setReg_self, List.foldl_cons, List.foldl_nil, RegField.write, bit, BitVec.getLsbD_and,
    BitVec.getLsbD_not, getLsbD_fieldMask _ _ _ (show 31 < 32 by decide), hn, Nat.le_of_lt_succ hn, Nat.zero_le, decide_true, Bool.true_and, Bool.and_true]

end

/-- Settles O25: the clears by the zeroed registers, the claim by the source offered. -/
theorem clearsAndInterruptsComplete : Obligations.ClearsAndInterruptsComplete := by
  refine ⟨fun s who => ⟨fun h => ?drop, fun h => ?busy, fun h => ⟨?coll, ?ecc⟩, fun h => ?counts, fun h => ?scrub, fun p hp h => ?eth⟩,
    fun s who => ⟨fun h => ⟨fun n hn ho => execIntcClaim_of_offered h hn ho, execIntcClaim_of_none h⟩, fun h n hn => ?complete,
      fun i m hi h => execIntcEndService_inService m hi h⟩⟩
  case drop =>
    exact ⟨_, congrArg Host.Outcome.next (State.toBlock_reaches h _), State.fld_setFld_self _ _ _ _ _ (by decide) (by decide)⟩
  case busy => exact ⟨_, congrArg Host.Outcome.next (State.toBlock_reaches h _), State.reg_setReg_self ..⟩
  case coll =>
    refine ⟨_, congrArg Host.Outcome.next (State.toBlock_reaches h _), fun i hi => State.reg_zeroRegs_of_lt _ _ _ _ hi, fun i hi =>
      State.reg_zeroRegs_of_ne _ _ _ _ fun j hj => ?_⟩
    simp only [Reg.basinctlEcc, Reg.basinctlColl]
    omega
  case ecc =>
    refine ⟨_, congrArg Host.Outcome.next (State.toBlock_reaches h _), fun i hi => ?_, State.reg_setReg_self .., fun i hi => ?_⟩
    · rw [State.clearEcc, State.reg_setReg_ne _ _ (by simp only [Reg.basinctlEcc, Reg.basinctlUeAddr]; omega), State.reg_zeroRegs_of_lt _ _ _ _ hi]
    · refine (State.reg_setReg_ne _ _ (by simp only [Reg.basinctlColl, Reg.basinctlUeAddr]; omega)).trans (State.reg_zeroRegs_of_ne _ _ _ _ fun j hj => ?_)
      simp only [Reg.basinctlEcc, Reg.basinctlColl]
      omega
  case counts => exact ⟨_, congrArg Host.Outcome.next (State.toBlock_reaches h _), State.reg_clearFairway _⟩
  case scrub =>
    exact ⟨_, congrArg Host.Outcome.next (State.toBlock_reaches h _), State.reg_zeroRegs_of_zero _ _ _ _ (State.reg_setReg_self ..), fun i hi =>
      State.reg_zeroRegs_of_lt _ _ _ _ hi⟩
  case eth =>
    refine ⟨_, congrArg Host.Outcome.next ((if_neg (Nat.not_le.mpr hp)).trans (State.toBlock_reaches h _)), fun i hi => ?_, ?_⟩
    · rw [show ethCnt p i = ethCnt p 0 + 4 * i by simp only [ethCnt]; omega, State.clearEthCnt, State.reg_zeroRegs_of_lt _ _ _ _ hi]
    · rw [State.clearEthCnt, State.zeroRegs_frame]
      rfl
  case complete =>
    have hm : n % 64 = n := Nat.mod_eq_of_lt hn
    refine ⟨_, congrArg Host.Outcome.next (State.toBlock_reaches h _), ?_, fun m _ hne => ?_⟩
    · rw [hm, State.endService, State.inService_setRbit, if_pos rfl]
    · rw [hm, State.endService, State.inService_setRbit, if_neg hne]
      rfl

section
variable {s : State} {who : Initiator}

theorem execWdtService_in_window {v : Word} (h : s.Reaches who Reg.timerWdtService) (hv : v.toNat % 65536 = 0x3C96)
    (hw : ¬ (s.rbit Reg.timerWdtCtrl 0 = true ∧ (s.elapsedMs < s.fld Reg.timerWdtMin 13 0 ∨ s.fld Reg.timerWdtMax 13 0 ≤ s.elapsedMs))) :
    ∃ t, execWdtService who v s = .next t ∧ t.wdtUs = s.nowUs ∧ t.regs = s.regs := by
  have hb : bits v 15 0 = 0x3C96 := (by simpa [bits] using hv)
  have hw' : (s.rbit Reg.timerWdtCtrl 0 && (decide (s.elapsedMs < s.fld Reg.timerWdtMin 13 0) || decide (s.fld Reg.timerWdtMax 13 0 ≤ s.elapsedMs))) = false :=
    Bool.eq_false_iff.mpr fun hb => hw (by simpa only [Bool.and_eq_true, Bool.or_eq_true, decide_eq_true_eq] using hb)
  have hw'' : ((s.busAnswer who .ok).rbit Reg.timerWdtCtrl 0 && (decide ((s.busAnswer who .ok).elapsedMs < (s.busAnswer who .ok).fld Reg.timerWdtMin 13 0) ||
      decide ((s.busAnswer who .ok).fld Reg.timerWdtMax 13 0 ≤ (s.busAnswer who .ok).elapsedMs))) = false := hw'
  refine ⟨{ s.busAnswer who .ok with wdtUs := s.nowUs }, ?_, rfl, rfl⟩
  simp only [execWdtService, State.toBlock_reaches h, State.wdtServe, hb, hw'', ne_eq, not_true_eq_false, Bool.false_eq_true, if_false]
  rfl

theorem execWdtService_of_wrong_key {v : Word} (h : s.Reaches who Reg.timerWdtService) (hv : v.toNat % 65536 ≠ 0x3C96) :
    ∃ t, execWdtService who v s = .next t ∧ t.rbit Reg.timerWdtStatus 18 = true ∧ t.wdtUs = s.wdtUs := by
  have hb : bits v 15 0 ≠ 0x3C96 := (by simpa [bits] using hv)
  refine ⟨_, congrArg Host.Outcome.next ((State.toBlock_reaches h _).trans (if_pos hb)), State.rbit_setRbit_self _ _ _ _ (by decide), rfl⟩

theorem execTimerSyscntLatch_latches (h : s.Reaches who Reg.timerSyscntLo) : ∃ t c, execTimerSyscntLatch who s = .next t ∧
    c = Config.freeWord s.freeCtr ∧ ofLe t.bus.data = c.toNat % 2 ^ 32 ∧ t.reg Reg.timerSyscntHi = (c >>> 32).setWidth 32 :=
  ⟨_, _, congrArg Host.Outcome.next (State.toBlock_reaches h _), rfl, ofLe_leBytes 4 _, State.reg_setReg_self ..⟩

theorem State.warning_opened_setReg (a b : Nat) (v : Word) (h : Reg.supmonStatus ≠ b) : ((s.opened who a).setReg b v).warning = s.warning := by
  unfold State.warning State.rbit
  rw [State.reg_setReg_ne _ _ h]
  rfl

/-- GO while no warning holds: the program runs. -/
theorem State.otpGo_of_quiet {u : State} {v : Word} (hg : v.getLsbD 0 = true) (hw : u.warning = false) :
    (u.otpGo v).rbit Reg.otpStatus 1 = true ∧ (u.otpGo v).otp = u.otp := by
  simp only [State.otpGo, bit, hg, hw, Bool.not_true, Bool.false_eq_true, if_false]
  split
  · next hs => exact ⟨hs, rfl⟩
  · exact ⟨State.rbit_setRbit_self _ _ _ _ (by decide), rfl⟩

/-- A program that is verified ors the data into its word. -/
theorem execOtpProgDone_of_verified (hs : s.rbit Reg.otpStatus 1 = true) : ∃ t, execOtpProgDone true s = .next t ∧ t.rbit Reg.otpStatus 1 = false ∧
    (Store.sorted s.otp.raw = true → ∀ b, Store.get t.otp.raw b 0 =
      if b = (s.reg Reg.otpProgAddr).toNat then Store.get s.otp.raw (s.reg Reg.otpProgAddr).toNat 0 ||| s.reg Reg.otpProgData else Store.get s.otp.raw b 0) := by
  refine ⟨_, congrArg Host.Outcome.next (if_neg (by simp [hs])), State.rbit_setRbit_self s Reg.otpStatus 1 false (by decide), fun _ b => ?_⟩
  by_cases hb : b = (s.reg Reg.otpProgAddr).toNat
  · rw [if_pos hb, hb]
    exact Store.get_set_self ..
  · rw [if_neg hb]
    exact Store.get_set_ne _ _ _ _ hb

theorem execOtpProgDone_of_failed (hs : s.rbit Reg.otpStatus 1 = true) : ∃ t, execOtpProgDone false s = .next t ∧ t.rbit Reg.otpStatus 3 = true ∧
    t.otp = s.otp :=
  ⟨_, congrArg Host.Outcome.next (if_neg (by simp [hs])), State.rbit_setRbit_self (s.setRbit Reg.otpStatus 1 false) Reg.otpStatus 3 true (by decide), rfl⟩

end

/-- Settles O26: the window of the watchdog's service, and GO with and without the warning. -/
theorem timersAndOtpComplete : Obligations.TimersAndOtpComplete := by
  refine ⟨fun s who => ⟨fun h => ⟨fun v hv hw => execWdtService_in_window h hv hw, fun v hv => execWdtService_of_wrong_key h hv⟩,
      fun h => ⟨_, congrArg Host.Outcome.next (if_pos h), State.rbit_setRbit_self _ _ _ _ (by decide), rfl⟩,
      fun n hn hr hc => ⟨_, congrArg Host.Outcome.next (if_pos (by simp [hn, hr, hc])), State.rbit_setRbit_self _ _ _ _ (by omega), rfl⟩,
      execTimerSyscntLatch_latches⟩,
    fun s who v ho => ⟨fun hg hw => ?_, fun hg hw => ?_, fun hs a ha => ?_⟩⟩
  · have hq : ((s.opened who Reg.otpProgCmd).setReg Reg.otpProgCmd v).warning = false := (State.warning_opened_setReg _ _ _ (by decide)).trans hw
    exact ⟨_, congrArg Host.Outcome.next (State.guardedWrite_opens ho _), State.otpGo_of_quiet hg hq⟩
  · have hq : ((s.opened who Reg.otpProgCmd).setReg Reg.otpProgCmd v).warning = true := (State.warning_opened_setReg _ _ _ (by decide)).trans hw
    refine ⟨(((s.opened who Reg.otpProgCmd).setReg Reg.otpProgCmd v).setRbit Reg.otpStatus 3 true), ?_, State.rbit_setRbit_self _ _ _ _ (by decide), ?_⟩
    · show execOtpProgCmd who v s = _
      simp only [execOtpProgCmd, State.guardedWrite_opens ho, State.otpGo, bit, hg, hq, Bool.not_true, Bool.false_eq_true, if_false, if_true]
    · rw [State.rbit_setRbit_apart _ _ _ (by decide) (by decide), State.rbit, State.reg_setReg_ne _ _ (by decide)]
      rfl
  · subst ha
    exact ⟨execOtpProgDone_of_verified hs, execOtpProgDone_of_failed hs⟩

end Sys2Proof.Machine
end

section
/-! SUPPORT. A burst whose holder makes the path wait keeps the path of a HOLD port before anything asks whether its master is fenced (R665, R670),
which refutes the statement MatrixReachesAndRefuses: it has every request of a fenced master answered with FENCED. -/

namespace Sys2Proof.Machine

/-- A device out of reset with the Harbourmaster in error mode, every master fenced by it, and the port of Basin 0 on HOLD. -/
def fencedHoldPort : State :=
  ({ boot := { held := false, basins := true } : State }.setRbit Reg.reclaimStatus 2 true).setRbit Reg.matrixPolicy 1 true

/-- A read burst of the Harbourmaster at Basin 0 that does not accept its data. -/
def stalledBurst : BusReq := { who := { master := 1 }, addr := 0x20000000, write := false, size := 8, beats := 2, stalled := true }

/-- The burst gets no response: it keeps the path of its port. -/
theorem answers_stalledBurst : (({ fencedHoldPort with answers := [] }.arbitrate [{ place := 0, req := stalledBurst }] [] 1).retryPorts).answers = [] := by
  decide +kernel

/-- Refutes O28: the stalled burst of a fenced master at a HOLD port is not answered. -/
theorem not_matrixReachesAndRefuses : ¬ Obligations.MatrixReachesAndRefuses := by
  intro h
  obtain ⟨-, hfenced, -⟩ := h.2.1 fencedHoldPort stalledBurst (by decide) (by decide) (by decide +kernel) ⟨rfl, rfl, rfl, rfl⟩ (by decide +kernel)
  obtain ⟨t, hexec, ht⟩ := hfenced 1 (by decide) (by decide +kernel)
  have hnone : t.answers = [] := Host.Outcome.next.inj hexec ▸ answers_stalledBurst
  rw [ht] at hnone
  exact List.cons_ne_nil _ _ hnone

end Sys2Proof.Machine
end

section
/-! SUPPORT. A Basin's wake lets the requests that wait at their master ports go on (R687), which refutes the statement BasinDmaAndDebugComplete: a
request that waits there may clear the event that the wake has just set. -/

namespace Sys2Proof.Machine

/-- A device where Basin 0 wakes from OFF while a write of the Harbourmaster that clears its WAKE_DONE waits at its master port. -/
def wakeClearWaits : State :=
  (({ boot := { held := false, basins := true }
      atPort := [{ who := { master := 1 }, addr := Reg.basinctlEvents, write := true, size := 4, beats := 1, data := [32, 0, 0, 0] }] } : State).setFld
    Reg.basinctlPwrStatus 1 0 2).wakeBasin 0

/-- The waiting write takes WAKE_DONE away. -/
theorem events_basinUp_wakeClearWaits :
    (((wakeClearWaits.basinUp 0).retryPorts.serveWake 0).serveWake 1).rbit Reg.basinctlEvents 5 = false := by decide +kernel

/-- Refutes O29: BASIN_WAKE_DONE of Basin 0 sets its event, and the write that waited clears it. -/
theorem not_basinDmaAndDebugComplete : ¬ Obligations.BasinDmaAndDebugComplete := by
  intro h
  obtain ⟨-, hwake, -⟩ := h.1 wakeClearWaits { master := 1 }
  obtain ⟨t, hexec, -, -, hevent⟩ := hwake 0 (by decide) (by decide +kernel) (by decide +kernel) (by decide +kernel) (by decide +kernel)
  have hset := hevent (by decide +kernel)
  rw [← Host.Outcome.next.inj hexec] at hset
  exact absurd (hset.symm.trans events_basinUp_wakeClearWaits) (by decide)

end Sys2Proof.Machine
end

section
/-! SUPPORT. On VBAT alone the real-time counter stands while the 32.768 kHz clock is lost (R120), which refutes the statement
RecorderCommandsComplete: it has the counter advance at every tick. -/

namespace Sys2Proof.Machine

/-- A device on VBAT alone without its 32.768 kHz clock. -/
def stoppedRtc : State := ({ lostClocks := 2 ^ 12 } : State).setRbit Reg.supmonAonStatus 1 true

/-- The tick changes nothing. -/
theorem execAnchor_stoppedRtc : execAnchor stoppedRtc = .next stoppedRtc := congrArg Host.Outcome.next (if_pos (by decide +kernel))

/-- Refutes O30: the seconds stay where the counter stands. -/
theorem not_recorderCommandsComplete : ¬ Obligations.RecorderCommandsComplete := by
  intro h
  obtain ⟨-, -, -, ⟨t, hexec, hsec, -⟩, -⟩ := h stoppedRtc { master := 1 }
  rw [← Host.Outcome.next.inj ((execAnchor_stoppedRtc).symm.trans hexec)] at hsec
  exact absurd hsec (by decide +kernel)

end Sys2Proof.Machine
end

section
/-! SUPPORT. The octets of a frame, the receive rings of a MAC with nothing for the firmware, the transmit queues at a mark, and the statement
EthernetFramesComplete. -/

namespace Sys2Proof.Machine

/-! ### Slices of a string -/

theorem slice_append_left (a b : Bytes) {i n : Nat} (h : i + n ≤ a.length) : slice (a ++ b) i n = slice a i n := by
  rw [slice, slice, List.drop_append_of_le_length (by omega), List.take_append_of_le_length (by rw [List.length_drop]; omega)]

theorem slice_append_right (a b : Bytes) {i : Nat} (n : Nat) (h : a.length ≤ i) : slice (a ++ b) i n = slice b (i - a.length) n := by
  rw [slice, slice, List.drop_append, List.drop_of_length_le h, List.nil_append]

theorem slice_zero_length (a : Bytes) : slice a 0 a.length = a := List.take_length

theorem slice_zero_of_length {a : Bytes} {n : Nat} (h : a.length = n) : slice a 0 n = a := h ▸ slice_zero_length a

theorem length_macBytes (s : State) (p : Nat) : (s.macBytes p).length = 6 := by simp [State.macBytes]

theorem TxTl.length_header (f : TxTl) : f.header.length = 16 := by simp [TxTl.header]

/-! ### A Tideline frame as it is sent -/

/-- Four octets of a payload that is padded with at least so many zeros. -/
theorem take_four_padded (d r : Bytes) (k : Nat) (h : d.length < 4 → 4 ≤ k) : (d ++ (zeros k ++ r)).take 4 = (d ++ zeros 60).take 4 := by
  by_cases hd : d.length < 4
  · have hk := h hd
    have htake : ∀ n r, 4 ≤ n → (zeros n ++ r).take (4 - d.length) = zeros (4 - d.length) := fun n r hn => by
      rw [List.take_append_of_le_length (by rw [zeros, List.length_replicate]; omega), zeros, List.take_replicate, Nat.min_eq_left (by omega), zeros]
    have h60 := htake 60 [] (by decide)
    rw [List.append_nil] at h60
    rw [List.take_append (l₁ := d) (l₂ := zeros k ++ r), List.take_append (l₁ := d) (l₂ := zeros 60), htake k r hk, h60]
  · rw [List.take_append_of_le_length (by omega), List.take_append_of_le_length (by omega)]

/-- An untagged Tideline frame: the two addresses, the EtherType, the header, then the payload with zeros to the least length, and the FCS. -/
theorem State.tlBytes_of_untagged (s : State) {f : TxTl} (h : f.tci = none) : ∃ k r, (f.payload.length < 4 → 4 ≤ k) ∧
    s.tlBytes f = (beBytes 6 f.dest ++ s.macBytes f.port) ++ (beBytes 2 0x88B5 ++ (f.header ++ (f.payload ++ (zeros k ++ r)))) := by
  have hlen : (s.etherFrame f.port f.dest f.tci 0x88B5 (f.header ++ f.payload)).length = 30 + f.payload.length := by
    simp only [State.etherFrame, h, List.append_nil, List.length_append, length_beBytes, length_macBytes, TxTl.length_header]
    omega
  refine ⟨60 - (30 + f.payload.length), leBytes 4 (crc32 (s.etherFrame f.port f.dest f.tci 0x88B5 (f.header ++ f.payload) ++
    zeros (60 - (30 + f.payload.length)))).toNat, fun _ => by omega, ?_⟩
  rw [State.tlBytes, onWire, hlen]
  generalize crc32 _ = c
  simp only [State.etherFrame, h, List.append_nil, List.append_assoc]

theorem State.tlBytes_slices (s : State) {f : TxTl} (h : f.tci = none) : slice (s.tlBytes f) 0 12 = beBytes 6 f.dest ++ s.macBytes f.port ∧
    slice (s.tlBytes f) 12 2 = [0x88, 0xB5] ∧ slice (s.tlBytes f) 14 20 = f.header ++ (f.payload ++ zeros 60).take 4 := by
  obtain ⟨k, r, hk, hb⟩ := s.tlBytes_of_untagged h
  have h12 : (beBytes 6 f.dest ++ s.macBytes f.port).length = 12 := by simp [length_macBytes]
  refine ⟨?_, ?_, ?_⟩
  · rw [hb, slice_append_left _ _ (Nat.le_of_eq h12.symm), slice_zero_of_length h12]
  · rw [hb, slice_append_right _ _ _ (Nat.le_of_eq h12), h12, slice_append_left _ _ (by simp), slice_zero_of_length (by simp)]
    decide
  · rw [hb, slice_append_right _ _ _ (by rw [h12]; decide), h12, slice_append_right _ _ _ (by simp), length_beBytes, slice, List.drop_zero,
      List.take_append, List.take_of_length_le (by rw [TxTl.length_header]; decide), TxTl.length_header, take_four_padded _ _ _ hk]

theorem TxTl.header_epoch (f : TxTl) : slice f.header 4 2 = leBytes 2 f.epoch := by
  simp only [TxTl.header, List.append_assoc]
  simp only [← List.append_assoc (leBytes 1 1)]
  rw [slice_append_right _ _ _ (by simp), slice_append_right _ _ _ (by simp), slice_append_right _ _ _ (by simp)]
  simp only [List.length_append, length_leBytes]
  rw [slice_append_left _ _ (by simp), slice_zero_of_length (by simp)]

/-! ### The MACs -/

section
variable {s t : State} {p : Nat}

theorem State.mac_setMac_self (m : Mac) (h : p < s.macs.length) : (s.setMac p m).mac p = m := by
  simp only [State.mac, State.setMac, List.getD_eq_getElem?_getD, List.getElem?_set_self h, Option.getD_some]

theorem State.setMac_mac_self (s : State) (p : Nat) : s.setMac p (s.mac p) = s := by
  have hm : s.macs.set p (s.mac p) = s.macs := by
    by_cases h : p < s.macs.length
    · rw [State.mac, List.getD_eq_getElem?_getD, List.getElem?_eq_getElem h, Option.getD_some, List.set_getElem_self]
    · exact List.set_eq_of_length_le (Nat.not_lt.mp h)
  simp only [State.setMac, hm]

/-- What the firmware finds in a ring depends on its place there, the ring's registers and memory. -/
theorem State.oldestRx_congr {r : Nat} (ht : (t.mac p).tails = (s.mac p).tails) (hm : t.mem = s.mem) (h0 : t.reg (rxBase p r) = s.reg (rxBase p r))
    (h4 : t.reg (rxBase p r + 4) = s.reg (rxBase p r + 4)) : t.oldestRx p r = s.oldestRx p r := by
  simp only [State.oldestRx, State.rxSize, State.rxDesc, State.descBuf, State.fld, ht, hm, h0, h4]
  rfl

theorem State.oldestRx_setMac {r : Nat} {m : Mac} (hp : p < s.macs.length) (ht : m.tails = (s.mac p).tails) :
    (s.setMac p m).oldestRx p r = s.oldestRx p r :=
  State.oldestRx_congr (by rw [State.mac_setMac_self _ hp, ht]) rfl rfl rfl

theorem State.tidyRing_of_none {r : Nat} (h : s.oldestRx p r = none) (n : Nat) : s.tidyRing p r n = s := by
  cases n with
  | zero => rfl
  | succ n => simp only [State.tidyRing, h, ite_self]

/-- With no datagram and no complete frame for it, the firmware leaves the rings as they are. -/
theorem State.takeInbox_of_idle (hi : (s.mac p).inbox = []) (ho : ∀ r : Nat, r < 3 → s.oldestRx p r = none) : s.takeInbox p = s := by
  have hs : s.setMac p { s.mac p with inbox := [] } = s := by
    rw [← hi]
    exact State.setMac_mac_self s p
  have hfold : ∀ l : List Nat, (∀ r ∈ l, r < 3) → l.foldl (fun (u : State) r => u.tidyRing p r (u.rxSize p r)) s = s := by
    intro l hl
    induction l with
    | nil => rfl
    | cons r l ih =>
      rw [List.foldl_cons, State.tidyRing_of_none (ho r (hl r List.mem_cons_self)), ih fun x hx => hl x (List.mem_cons_of_mem _ hx)]
  simp only [State.takeInbox, hi, hs, List.foldl_nil]
  exact hfold _ (by decide)

/-- A port's counters stand apart from its receive rings. -/
theorem rxBase_ne_ethCnt (p : Nat) {r i : Nat} (hr : r < 3) (hi : i < 17) : rxBase p r ≠ ethCnt p i ∧ rxBase p r + 4 ≠ ethCnt p i := by
  simp only [rxBase, ethCnt, Reg.eth0RxRingBase, Reg.eth1RxRingBase, Reg.eth0Cnt, Reg.eth1Cnt]
  split <;> omega

theorem State.takeInbox_ethCount (hi : (s.mac p).inbox = []) (ho : ∀ r : Nat, r < 3 → s.oldestRx p r = none) {i : Nat} (hc : i < 17) (n : Nat) :
    (s.ethCount p i n).takeInbox p = s.ethCount p i n := by
  have hm : (s.ethCount p i n).mac p = s.mac p := congrArg (·.getD p {}) (State.addFld_macs s _ _ _ _)
  refine State.takeInbox_of_idle (hm ▸ hi) fun r hr => (State.oldestRx_congr (hm ▸ rfl) (State.addFld_mem s _ _ _ _) ?_ ?_).trans (ho r hr)
  · exact State.reg_addFld_ne _ _ _ _ (rxBase_ne_ethCnt p hr hc).1
  · exact State.reg_addFld_ne _ _ _ _ (rxBase_ne_ethCnt p hr hc).2

/-- A frame that waits alone in the FIFO stays there while its ring has no descriptor for it. -/
theorem State.rxAll_of_waiting {f : RxFill} {l : List RxFill} (hf : (s.mac p).fifo = f :: l) (hr : s.rbit (Reg.ethStatus + 65536 * p) (2 + f.ring) = false)
    (hd : s.descBuf (s.rxDesc p f.ring (s.rxHead p f.ring)) < 2147483648) : s.rxAll p = s := by
  unfold State.rxAll
  rw [State.rxRun]
  simp only [hf, hr, Bool.false_eq_true, if_false, hd, if_true]

theorem execEthRxFrame_of_badFcs {f : RxFrame} (hp : p < 2) (hi : (s.mac p).inbox = []) (ho : ∀ r : Nat, r < 3 → s.oldestRx p r = none)
    (he : s.rxEn p = true) (hv : f.fifoOverflow = false) (hc : f.fcsOk = false) : execEthRxFrame p f s = .next (s.ethCount p 1 1) := by
  simp only [execEthRxFrame, Nat.not_le.mpr hp, he, hv, hc, Bool.not_true, Bool.not_false, Bool.false_eq_true, if_true, if_false]
  rw [State.takeInbox_ethCount hi ho (by decide)]

/-- A frame that joins an empty FIFO stays there while its ring has no descriptor for it. -/
theorem State.rxPush_of_waiting {f : RxFill} (hp : p < s.macs.length) (hq : (s.mac p).fifo = []) (hlen : f.bytes.length ≤ 32768)
    (hr : s.rbit (Reg.ethStatus + 65536 * p) (2 + f.ring) = false) (hd : s.descBuf (s.rxDesc p f.ring (s.rxHead p f.ring)) < 2147483648) :
    s.rxPush p f = s.setMac p { s.mac p with fifo := [f] } := by
  have hall : (s.setMac p { s.mac p with fifo := [f] }).rxAll p = s.setMac p { s.mac p with fifo := [f] } :=
    State.rxAll_of_waiting (congrArg Mac.fifo (State.mac_setMac_self _ hp)) hr hd
  have hfit : ¬ (0 + f.bytes.length > 32768) := by omega
  simp only [State.rxPush, hq, List.isEmpty_nil, Bool.not_true, Bool.false_and, Bool.false_eq_true, if_false, Mac.held, List.foldl_nil, hfit,
    List.nil_append, hall]

/-- A frame that the filters pass and no tag marks joins the FIFO as its class says. -/
theorem execEthRxFrame_of_passed {f : RxFrame} {c : Nat × Nat} (hp : p < 2) (he : s.rxEn p = true) (hv : f.fifoOverflow = false) (hc : f.fcsOk = true)
    (ht : be16 f.bytes 12 ≠ 0x8100) (hmin : 60 ≤ f.bytes.length) (hmax : f.bytes.length ≤ 9014) (hd : ofBe (f.bytes.take 6) = s.macAddr p)
    (hvlan : s.vlanOk p none = true) (hcls : s.classify p f.bytes = .ok c) :
    execEthRxFrame p f s = .next ((s.rxPush p (s.rxFill p f c.1 c.2)).takeInbox p) := by
  have htci : frameTci f.bytes = none := if_neg ht
  have hun : untagged f.bytes = f.bytes := if_neg ht
  have hlen : ¬ (9018 < f.bytes.length + 4) := by omega
  have hlen' : ¬ (f.bytes.length + 4 < 64) := by omega
  simp only [execEthRxFrame, Nat.not_le.mpr hp, he, hv, hc, htci, hun, hlen, hlen', hd, hvlan, hcls, Option.isSome_none, Bool.not_true,
    Bool.false_eq_true, decide_false, Bool.or_false, if_false, ne_eq, not_true_eq_false, false_and]

/-- A Tideline frame for the port joins the FIFO and waits there. -/
theorem execEthRxFrame_of_tideline {f : RxFrame} (hp : p < 2) (hl : s.macs.length = 2) (hi : (s.mac p).inbox = [])
    (ho : ∀ r : Nat, r < 3 → s.oldestRx p r = none) (he : s.rxEn p = true) (hv : f.fifoOverflow = false) (hc : f.fcsOk = true)
    (hmin : 60 ≤ f.bytes.length) (hmax : f.bytes.length ≤ 9014) (hd : ofBe (f.bytes.take 6) = s.macAddr p) (ht : be16 f.bytes 12 = 0x88B5)
    (hvlan : s.vlanOk p none = true) (hq : (s.mac p).fifo = []) (hs : s.rbit (Reg.ethStatus + 65536 * p) 2 = false)
    (hb : s.descBuf (s.rxDesc p 0 (s.rxHead p 0)) < 2147483648) :
    execEthRxFrame p f s = .next (s.setMac p { s.mac p with fifo := [s.rxFill p f 0 0] }) := by
  have hlt : p < s.macs.length := hl ▸ hp
  have hnt : be16 f.bytes 12 ≠ 0x8100 := by rw [ht]; decide
  have hcls : s.classify p f.bytes = .ok (0, 0) := by simp [State.classify, ht]
  have hfill : (s.rxFill p f 0 0).bytes.length = f.bytes.length := congrArg List.length (if_neg hnt)
  rw [execEthRxFrame_of_passed hp he hv hc hnt hmin hmax hd hvlan hcls, State.rxPush_of_waiting (f := s.rxFill p f 0 0) hlt hq (by omega) hs hb,
    State.takeInbox_of_idle]
  · rw [State.mac_setMac_self _ hlt]
    exact hi
  · intro r hr
    rw [State.oldestRx_setMac hlt]
    · exact ho r hr
    · rfl

end

/-! ### The transmit queues -/

section
variable {s t : State} {p : Nat}

theorem State.tx_txMove (s : State) (p q h n : Nat) : (s.txMove p q h n).tx = s.tx := by
  induction n generalizing s h with
  | zero => rfl
  | succ n ih =>
    rw [State.txMove]
    split
    · exact ih _ _
    · rfl

/-- Moving HEAD writes no other register. -/
theorem State.reg_txMove_ne (s : State) (p q h n : Nat) {a : Nat} (ha : a ≠ txBase p q + 12) : (s.txMove p q h n).reg a = s.reg a := by
  induction n generalizing s h with
  | zero => rfl
  | succ n ih =>
    rw [State.txMove]
    split
    · exact ih _ _
    · exact State.reg_setFld_ne _ _ _ _ ha

/-- Whether a ring has a ready frame depends on its registers and memory. -/
theorem State.txReady_congr {q : Nat} (hm : t.mem = s.mem) (h0 : t.reg (txBase p q) = s.reg (txBase p q)) (h4 : t.reg (txBase p q + 4) = s.reg (txBase p q + 4))
    (h12 : t.reg (txBase p q + 12) = s.reg (txBase p q + 12)) : t.txReady p q = s.txReady p q := by
  simp only [State.txReady, State.txReadyAt, State.txHead, State.txDesc, State.txSize, State.descBuf, State.fld, hm, h0, h4, h12]
  rfl

theorem State.flushRing_of_empty (h : s.txReady p 3 = 0) (n : Nat) : s.flushRing p (s.txHead p 3) n = s.txMove p 3 (s.txHead p 3) 257 := by
  cases n with
  | zero => rfl
  | succ n => simp only [State.flushRing, show s.txReadyAt p 3 (s.txHead p 3) = 0 from h, if_true]

/-- The port's counters and events stand apart from its transmit queues. -/
theorem txBase_ne (p : Nat) {q : Nat} (hq : q < 4) (i : Nat) (hi : i < 16) :
    txBase p q + i ≠ ethCnt p 11 ∧ txBase p q + i ≠ Reg.ethEvents + 65536 * p := by
  simp only [txBase, ethCnt, Reg.eth0TxRingBase, Reg.eth1TxRingBase, Reg.eth0Cnt, Reg.eth1Cnt, Reg.ethEvents]
  split <;> omega

theorem TxTl.flushes_iff (f : TxTl) (p : Nat) : f.flushes p = true ↔ f.port = p ∧ (f.typ = 0x11 ∨ f.typ = 0x12) := by
  simp [TxTl.flushes]

/-- Where no frame has started, every OUTPUT and COMMIT of the port goes. -/
theorem dropLate_none (p : Nat) (l : List TxTl) : dropLate p none l = l.filter fun f => !f.flushes p := by
  induction l with
  | nil => rfl
  | cons f l ih =>
    rw [dropLate, if_neg (by simp), ih, List.filter_cons]
    cases f.flushes p <;> simp

/-- The state after the OUTPUT and COMMIT frames of a port have gone, counted and shown. -/
def State.lateDropped (s : State) (p : Nat) : State :=
  let l := s.tx.filter fun f => !f.flushes p
  let t := { s.sampleMark (2 + p) with tx := l }.ethCount p 11 (s.tx.length - l.length)
  if s.tx.length - l.length = 0 then t else t.ethEvent p 6

theorem State.tx_lateDropped (s : State) (p : Nat) : (s.lateDropped p).tx = s.tx.filter fun f => !f.flushes p := by
  unfold State.lateDropped
  dsimp only
  split <;> rfl

theorem State.txReady_lateDropped (s : State) (p : Nat) : (s.lateDropped p).txReady p 3 = s.txReady p 3 := by
  have hreg : ∀ i, i < 16 → (s.lateDropped p).reg (txBase p 3 + i) = s.reg (txBase p 3 + i) := by
    intro i hi
    obtain ⟨hc, he⟩ := txBase_ne p (q := 3) (by decide) i hi
    unfold State.lateDropped
    dsimp only
    split
    · exact State.reg_addFld_ne _ _ _ _ hc
    · exact (State.reg_setRbit_ne _ _ _ he).trans (State.reg_addFld_ne _ _ _ _ hc)
  refine State.txReady_congr ?_ (hreg 0 (by decide)) (hreg 4 (by decide)) (hreg 12 (by decide))
  unfold State.lateDropped
  dsimp only
  split <;> rfl

theorem execMacMarkArrival_of_idle (hp : p < 2) (hr : s.txReady p 3 = 0) (hi : s.inProgress p ≠ some 3) :
    execMacMarkArrival p s = .next ((s.lateDropped p).txMove p 3 ((s.lateDropped p).txHead p 3) 257) := by
  have hready : (s.lateDropped p).txReady p 3 = 0 := (State.txReady_lateDropped s p).trans hr
  rw [← State.flushRing_of_empty hready 256]
  simp only [execMacMarkArrival, Nat.not_le.mpr hp, hi, decide_false, Bool.and_false, Bool.false_eq_true, if_false, dropLate_none]
  rfl

theorem State.rbit_lateDropped_of_exists {f : TxTl} (hf : f ∈ s.tx) (hl : f.flushes p = true) :
    ((s.lateDropped p).txMove p 3 ((s.lateDropped p).txHead p 3) 257).rbit (Reg.ethEvents + 65536 * p) 6 = true := by
  have hshort : (s.tx.filter fun f => !f.flushes p).length < s.tx.length :=
    List.length_filter_lt_length_iff_exists.mpr ⟨f, hf, by simp [hl]⟩
  have hset : (s.lateDropped p).rbit (Reg.ethEvents + 65536 * p) 6 = true := by
    unfold State.lateDropped
    dsimp only
    rw [if_neg (by omega)]
    exact State.rbit_setRbit_self _ _ _ _ (by decide)
  unfold State.rbit
  rw [State.reg_txMove_ne _ _ _ _ _ (txBase_ne p (by decide) 12 (by decide)).2.symm]
  exact hset

theorem State.macs_txSent (s : State) (p q : Nat) (b : Bytes) : (s.txSent p q b).macs = s.macs.set p { s.mac p with sent := b } := rfl

/-- The octets that left stay on show while the MAC looks for its next frame. -/
theorem State.sent_txNext (q : Nat) (b : Bytes) (h : p < s.macs.length) : (((s.txSent p q b).txNext p).mac p).sent = b := by
  have hmac : (s.txSent p q b).mac p = { s.mac p with sent := b } := by
    rw [State.mac, State.macs_txSent, List.getD_eq_getElem?_getD, List.getElem?_set_self h, Option.getD_some]
  rw [State.txNext, State.mac_setMac_self _ (by rw [State.macs_txSent, List.length_set]; exact h), hmac]

theorem State.tx_txNext_txSent (s : State) (p q : Nat) (b : Bytes) : ((s.txSent p q b).txNext p).tx = s.tx := rfl

theorem State.regs_txNext (s : State) (p : Nat) : (s.txNext p).regs = s.regs := rfl

theorem State.rbit_txSent {q : Nat} (b : Bytes) (hq : q < 4) : ((s.txSent p q b).txNext p).rbit (Reg.ethEvents + 65536 * p) (3 + q) = true := by
  rw [State.rbit, State.reg, State.regs_txNext]
  exact State.rbit_setRbit_self _ _ _ _ (by omega)

theorem execEthTxDone_of_tideline {f : TxTl} {q : Nat} (hp : p < 2) (hq : q < 4) (hl : s.macs.length = 2) (hs : s.sends p = true)
    (hi : s.inProgress p = some q) (hf : s.txFront p q = some (.tl f)) : ∃ t, execEthTxDone p q s = .next t ∧ t.tx = s.tx.erase f ∧
      (t.mac p).sent = s.tlBytes f ∧ t.rbit (Reg.ethEvents + 65536 * p) (3 + q) = true := by
  refine ⟨(({ s with tx := s.tx.erase f } : State).txSent p q (s.tlBytes f)).txNext p, ?_, State.tx_txNext_txSent _ _ _ _,
    State.sent_txNext (s := { s with tx := s.tx.erase f }) _ _ (hl ▸ hp), State.rbit_txSent _ hq⟩
  simp only [execEthTxDone, show ¬ (p ≥ 2 ∨ q ≥ 4) by omega, hs, hi, hf, Bool.not_true, Bool.false_eq_true, if_false, ne_eq, not_true_eq_false,
    State.txOctets, State.txRemove]

end

/-- Settles O31: one frame received, the rings as they run, and the queues at a mark. -/
theorem ethernetFramesComplete : Obligations.EthernetFramesComplete := by
  refine ⟨fun s who p hp hl hi ho => ⟨fun f he hv => ⟨fun hc => ⟨_, execEthRxFrame_of_badFcs hp hi ho he hv hc, rfl⟩, ?tideline⟩,
      fun r f l hr hf hring => ⟨?retry, ?expiry⟩, fun r hr h => ?kick⟩,
    fun s who p hp => ⟨fun f q hq hl hs hi hf => execEthTxDone_of_tideline hp hq hl hs hi hf, ?slices, fun q hq h hs => ?txKick, fun hr hi => ?mark⟩⟩
  case tideline =>
    intro hc hmin hmax hd ht hvlan hq hs hb
    exact ⟨_, execEthRxFrame_of_tideline hp hl hi ho he hv hc hmin hmax hd ht hvlan hq hs hb,
      congrArg Mac.fifo (State.mac_setMac_self _ (hl ▸ hp)), show untagged f.bytes = f.bytes by rw [untagged, ht]; rfl, rfl, rfl⟩
  case retry => simp only [exec, execRxDescriptorRetry, hf, hring, if_true]
  case expiry => simp only [exec, execDescriptorWaitExpiry, hf, hring, if_true]
  case kick => simp only [exec, execEthRxKick, show ¬ (p ≥ 2 ∨ r ≥ 3) by omega, if_false, State.toBlock_reaches h]
  case slices =>
    rintro f ht rfl
    obtain ⟨h1, h2, h3⟩ := s.tlBytes_slices ht
    exact ⟨h1, h2, h3, f.header_epoch⟩
  case txKick =>
    have hs' : (s.busAnswer who .ok).sends p = true := hs
    simp only [exec, execEthTxKick, show ¬ (p ≥ 2 ∨ q ≥ 4) by omega, if_false, State.toBlock_reaches h, hs', if_true]
  case mark =>
    refine ⟨_, execMacMarkArrival_of_idle hp hr hi, fun f => ?_, ?_⟩
    · rw [State.tx_txMove, State.tx_lateDropped, List.mem_filter, Bool.not_eq_true', ← Bool.not_eq_true, TxTl.flushes_iff]
    · rintro ⟨f, hf, hlate⟩
      exact State.rbit_lateDropped_of_exists hf ((f.flushes_iff p).mpr hlate)

end Sys2Proof.Machine
end

section
/-! SUPPORT. What the firmware's return of descriptors and its own frames leave, the link's rise, the PTP instances, and the statement
PortServicesAndPtpComplete. -/

namespace Sys2Proof.Machine

/-! ### Descriptors handed back -/

section
variable (s : State) (p r : Nat)

theorem State.mac_setMac (m : Mac) : (s.setMac p m).mac p = if p < s.macs.length then m else s.mac p := by
  split
  · next h => exact State.mac_setMac_self m h
  · next h => rw [State.setMac, List.set_eq_of_length_le (Nat.not_lt.mp h)]

theorem State.echoes_setMac {m : Mac} (h : m.echoes = (s.mac p).echoes) : ((s.setMac p m).mac p).echoes = (s.mac p).echoes := by
  rw [State.mac_setMac]
  split
  · exact h
  · rfl

/-- Two states that differ in memory, the MACs and registers, with the same echo record of a port. -/
structure State.Tidied (s t : State) (p : Nat) : Prop where
  eq : t = { s with mem := t.mem, macs := t.macs, regs := t.regs }
  echoes : (t.mac p).echoes = (s.mac p).echoes

theorem State.Tidied.refl : s.Tidied s p := ⟨rfl, rfl⟩

theorem State.Tidied.trans {s t u : State} {p : Nat} (h : s.Tidied t p) (h' : t.Tidied u p) : s.Tidied u p where
  eq := by rw [h'.eq, h.eq]
  echoes := h'.echoes.trans h.echoes

theorem State.handBack_passRx_tidied (d : Nat × Nat) : s.Tidied ((s.handBack p r d).passRx p r d) p :=
  ⟨rfl, State.echoes_setMac (s.handBack p r d) p rfl⟩

theorem State.tidyRing_tidied (n : Nat) : s.Tidied (s.tidyRing p r n) p := by
  induction n generalizing s with
  | zero => exact .refl s p
  | succ n ih =>
    rw [State.tidyRing]
    split
    · exact .refl s p
    · next d _ =>
      split
      · refine .trans ?_ (ih _)
        split
        · exact .trans (s.handBack_passRx_tidied p r d) ⟨rfl, rfl⟩
        · exact s.handBack_passRx_tidied p r d
      · exact .refl s p

theorem State.returnRx_tidied : s.Tidied (s.returnRx p r) p := by
  unfold State.returnRx
  split
  · exact .refl s p
  · next d _ => exact (s.handBack_passRx_tidied p r d).trans (State.tidyRing_tidied _ _ _ _)

theorem State.netOut_returnRx : (s.returnRx p r).netOut = s.netOut := by rw [(s.returnRx_tidied p r).eq]
theorem State.ptpPort_returnRx (q : Nat) : (s.returnRx p r).ptpPort q = s.ptpPort q := by
  rw [State.ptpPort, (s.returnRx_tidied p r).eq]
  rfl

end

/-! ### The firmware's own frames -/

section
variable {s : State} {p : Nat}

theorem State.queueTx_of_sends (h : s.sends p = true) (q : Nat) (item : List TxItem) (put : State → State) :
    s.queueTx p q item put = (put s).setMac p { (put s).mac p with
      sending := ((put s).mac p).sending.orElse fun _ => some q, order := ((put s).mac p).order ++ item } := by
  rw [State.queueTx, if_pos h]

/-- A port that sends takes the frames in their order, and keeps its echo record. -/
theorem State.sendNet_of_sends {l : List NetTx} (hl : ∀ x ∈ l, x.place.1 = p) : s.sends p = true →
    (s.sendNet l).netOut = s.netOut ++ l ∧ ((s.sendNet l).mac p).echoes = (s.mac p).echoes := by
  induction l generalizing s with
  | nil => exact fun _ => ⟨(List.append_nil _).symm, rfl⟩
  | cons x l ih =>
    intro h
    obtain rfl := hl x List.mem_cons_self
    have hone := State.queueTx_of_sends h x.place.2 (if x.place.2 = 0 then [.net] else []) fun u => { u with netOut := u.netOut ++ [x] }
    obtain ⟨hout, hecho⟩ := ih (s := s.queueTx x.place.1 x.place.2 (if x.place.2 = 0 then [.net] else []) fun u => { u with netOut := u.netOut ++ [x] })
      (fun y hy => hl y (List.mem_cons_of_mem _ hy)) (by rw [hone]; exact h)
    refine ⟨?_, ?_⟩
    · refine hout.trans ?_
      rw [hone]
      exact List.append_assoc _ [x] l
    · refine hecho.trans ?_
      rw [hone]
      exact State.echoes_setMac { s with netOut := s.netOut ++ [x] } x.place.1 rfl

theorem execIcmpEchoRequest_of_first {m i j e : Nat} {d : Bytes} (hp : p < s.macs.length) (ha : s.answersAt p i = true) (hd : d.length ≤ 1472)
    (he : (s.mac p).echoes = []) (hs : s.sends p = true) : ∃ t, execIcmpEchoRequest p m j i e d s = .next t ∧
      t.netOut = s.netOut ++ [NetTx.echoReply p m j e d] ∧ (t.mac p).echoes = [s.nowUs] := by
  obtain ⟨hout, hecho⟩ := State.sendNet_of_sends (s := s.setMac p { s.mac p with echoes := [s.nowUs] }) (p := p) (l := [.echoReply p m j e d])
    (by simp [NetTx.place]) hs
  refine ⟨_, ?_, (State.netOut_returnRx _ p 1).trans hout, ?_⟩
  · simp only [execIcmpEchoRequest, ha, hd, he, List.filter_nil, List.length_nil, List.nil_append, decide_true, Bool.and_true,
      show decide (0 < 10) = true from rfl, if_true]
  · rw [(State.returnRx_tidied _ p 1).echoes, hecho, State.mac_setMac_self _ hp]

end

/-! ### The link's rise (R728) -/

section
variable (s : State) {p : Nat}

/-- A frame that leaves its queue writes the queue's HEAD and the port's events at most. -/
theorem State.reg_txRemove_ne (q : Nat) (f : TxFrame) (sent : Bool) {a : Nat} (he : a ≠ Reg.ethEvents + 65536 * p) (hb : a ≠ txBase p q + 12) :
    (s.txRemove p q f sent).reg a = s.reg a := by
  cases f with
  | tl f => rfl
  | net x => rfl
  | omneax ep x n => cases n <;> rfl
  | ring n => exact (State.reg_txMove_ne _ _ _ _ _ hb).trans (State.reg_setRbit_ne _ _ _ he)

theorem State.reg_rxAbort_ne {a : Nat} (h : a ≠ ethCnt p 9) : (s.rxAbort p).reg a = s.reg a := by
  unfold State.rxAbort
  dsimp only
  split
  · rfl
  · exact State.reg_addFld_ne _ _ _ _ h

/-- The transient of a new speed leaves the port's status. -/
theorem State.reg_ethTransient_status (p : Nat) : (s.ethTransient p).reg (Reg.ethStatus + 65536 * p) = s.reg (Reg.ethStatus + 65536 * p) := by
  have hcnt : ∀ i, i < 17 → Reg.ethStatus + 65536 * p ≠ ethCnt p i := by
    intro i hi
    simp only [ethCnt, Reg.ethStatus, Reg.eth0Cnt, Reg.eth1Cnt]
    split <;> omega
  have hbase : ∀ q, Reg.ethStatus + 65536 * p ≠ txBase p q + 12 := by
    intro q
    simp only [txBase, Reg.ethStatus, Reg.eth0TxRingBase, Reg.eth1TxRingBase]
    split <;> omega
  have habort : (s.rxAbort p).reg (Reg.ethStatus + 65536 * p) = s.reg (Reg.ethStatus + 65536 * p) := s.reg_rxAbort_ne (hcnt 9 (by decide))
  unfold State.ethTransient
  dsimp only
  split
  · exact habort
  · split
    · exact habort
    · split
      · exact habort
      · refine Eq.trans ?_ habort
        exact (State.reg_addFld_ne _ _ _ _ (hcnt 12 (by decide))).trans
          (State.reg_txRemove_ne _ _ _ _ (by simp only [Reg.ethStatus, Reg.ethEvents]; omega) (hbase _))

/-- The third good poll in a row raises the link. -/
theorem State.linkUp_linkRises (p : Nat) (full : Bool) (speed : Nat) : (s.linkRises p full speed).linkUp p = true := by
  have hup : ((s.setRbit (Reg.ethStatus + 65536 * p) 0 true).ethEvent p 7).linkUp p = true :=
    (State.rbit_setRbit_ne _ _ (by simp only [Reg.ethStatus, Reg.ethEvents]; omega)).trans (State.rbit_setRbit_self _ _ _ _ (by decide))
  have hc : Reg.ethStatus + 65536 * p ≠ Reg.ethCtrl + 65536 * p := by simp only [Reg.ethStatus, Reg.ethCtrl]; omega
  unfold State.linkUp State.rbit at hup ⊢
  unfold State.linkRises
  dsimp only
  split
  · exact hup
  · split
    · rw [State.reg_setRbit_ne _ _ _ hc, State.reg_setFld_ne _ _ _ _ hc]
      split
      · exact hup
      · rw [State.reg_ethTransient_status]
        exact hup
    · rw [State.reg_setRbit_ne _ _ _ hc]
      exact hup

theorem State.fld_setRbit_apart (a hj lj : Nat) {i : Nat} (b : Bool) (h : i < 32) (ha : hj < i ∨ i < lj) : (s.setRbit a i b).fld a hj lj = s.fld a hj lj :=
  State.fld_setFld_apart s a i i b.toNat hj lj h ha

theorem State.firmwareRuns_linkEvents (p : Nat) : ((s.setRbit (Reg.ethStatus + 65536 * p) 0 true).ethEvent p 7).firmwareRuns = s.firmwareRuns := by
  have hr : ((s.setRbit (Reg.ethStatus + 65536 * p) 0 true).ethEvent p 7).recovery = s.recovery :=
    (State.rbit_setRbit_ne _ _ (by simp only [Reg.sysctlBootStatus, Reg.ethEvents]; omega)).trans
      (State.rbit_setRbit_ne _ _ (by simp only [Reg.sysctlBootStatus, Reg.ethStatus]; omega))
  unfold State.firmwareRuns
  rw [hr]
  rfl

/-- On a full-duplex link the running firmware sets the speed and enables transmission. -/
theorem State.ctrl_linkRises (p : Nat) (v : BitVec 2) (h : s.firmwareRuns = true) :
    (s.linkRises p true v.toNat).fld (Reg.ethCtrl + 65536 * p) 3 2 = v.toNat ∧ (s.linkRises p true v.toNat).rbit (Reg.ethCtrl + 65536 * p) 1 = true := by
  simp only [State.linkRises, State.firmwareRuns_linkEvents, h, Bool.not_true, Bool.false_eq_true, if_false, if_true]
  refine ⟨?_, State.rbit_setRbit_self _ _ _ _ (by decide)⟩
  rw [State.fld_setRbit_apart _ _ _ _ _ (by decide) (by decide), State.fld_setFld_self _ _ _ _ _ (by decide) (by decide)]
  exact Nat.mod_eq_of_lt v.isLt

end

/-! ### The TIME base and the PTP instances -/

theorem TimeBase.total_atNs (b : TimeBase) (n : Int) : ((b.atNs n).total : Int) = n % (281474976710656 * 1000000000) := by
  rw [TimeBase.total, TimeBase.atNs, Nat.div_add_mod']
  exact Int.toNat_of_nonneg (Int.emod_nonneg _ (by decide))

section
variable {s : State} {p : Nat}

theorem State.ptpPort_setPtp (q : PtpPort) (h : p < s.ptp.ports.length) : (s.setPtp p q).ptpPort p = q := by
  simp only [State.ptpPort, State.setPtp, List.getD_eq_getElem?_getD, List.getElem?_set_self h, Option.getD_some]

theorem State.ptpPort_returnRx_setPtp (q : PtpPort) (r : Nat) (h : p < s.ptp.ports.length) : ((s.setPtp p q).returnRx p r).ptpPort p = q := by
  rw [State.ptpPort_returnRx, State.ptpPort_setPtp q h]

theorem execPtpStep_of_idle {who : Initiator} (h : s.Opens who Reg.ptpStep) (hc : s.cycleOn = false) : ∃ t, execPtpStep who s = .next t ∧
    t.rbit Reg.ptpEvents 0 = true ∧ (t.time.total : Int) =
      ((s.time.total : Int) + ((s.reg Reg.ptpStepSec).toInt * 1000000000 + (s.reg Reg.ptpStepNs).toInt)) % (281474976710656 * 1000000000) := by
  have hc' : (s.opened who Reg.ptpStep).cycleOn = false := hc
  refine ⟨_, congrArg Host.Outcome.next ((State.guardedWrite_opens h _).trans (if_neg (by simp [hc']))), State.rbit_setRbit_self _ _ _ _ (by decide), ?_⟩
  exact TimeBase.total_atNs _ _

theorem execMdioDone_of_read {d : BitVec 16} (hp : p < 2) (hg : s.rbit (Reg.ethMdioCmd + 65536 * p) 31 = true)
    (hr : s.fld (Reg.ethMdioCmd + 65536 * p) 11 10 = 2) : ∃ t, execMdioDone p d s = .next t ∧ t.rbit (Reg.ethMdioCmd + 65536 * p) 31 = false ∧
      t.fld (Reg.ethMdioData + 65536 * p) 15 0 = d.toNat := by
  have hne : Reg.ethMdioCmd + 65536 * p ≠ Reg.ethMdioData + 65536 * p := by simp only [Reg.ethMdioCmd, Reg.ethMdioData]; omega
  refine ⟨(s.setRbit (Reg.ethMdioCmd + 65536 * p) 31 false).setFld (Reg.ethMdioData + 65536 * p) 15 0 d.toNat, ?_, ?_, ?_⟩
  · simp only [execMdioDone, hg, hr, Nat.not_le.mpr hp, decide_false, Bool.not_true, Bool.or_false, Bool.false_eq_true, if_false, if_true]
  · rw [State.rbit, State.reg_setFld_ne _ _ _ _ hne]
    exact State.rbit_setRbit_self _ _ _ _ (by decide)
  · rw [State.fld_setFld_self _ _ _ _ _ (by decide) (by decide)]
    exact Nat.mod_eq_of_lt d.isLt

/-- A good poll counts; the third in a row raises the link. -/
theorem execMdioPoll_of_good (hp : p < 2) (v : BitVec 2) (he : s.rbit (Reg.ethCtrl + 65536 * p) 6 = true) (hl : s.linkUp p = false) :
    execMdioPoll p true true v s = .next (if 2 ≤ (s.mac p).goodRun then
      (s.setMac p { s.mac p with goodRun := min 3 ((s.mac p).goodRun + 1) }).linkRises p true v.toNat
      else s.setMac p { s.mac p with goodRun := min 3 ((s.mac p).goodRun + 1) }) := by
  simp only [execMdioPoll, he, hl, Nat.not_le.mpr hp, decide_false, Bool.not_true, Bool.or_false, Bool.false_eq_true, if_false, ge_iff_le,
    Bool.not_false, Bool.true_and, decide_eq_true_eq]

theorem execPtpAnnounce_of_first {m : PtpMsg} (hp : p < 2) (hl : s.ptp.ports.length = 2) (hh : (s.ptpPort p).hears m = true)
    (hr : (s.ptpPort p).role = 2) (hn : (s.ptpPort p).parent = none) : ∃ t, execPtpAnnounce p m s = .next t ∧ (t.ptpPort p).parent = some m ∧
      (t.ptpPort p).master = false := by
  have hm : (s.ptpPort p).maySlave = true := by simp [PtpPort.maySlave, hr]
  refine ⟨(s.setPtp p { s.ptpPort p with parent := some m, master := false, lostMaster := false, okRun := 0, locked := false }).returnRx p 2, ?_, ?_⟩
  · have hchanged : (none != some m.srcIdentity) = true := rfl
    simp [execPtpAnnounce, Nat.not_le.mpr hp, hh, hm, hr, hn, hchanged]
  · rw [State.ptpPort_returnRx_setPtp _ _ (hl ▸ hp)]
    exact ⟨rfl, rfl⟩

theorem execPtpAnnounceReceiptTimeout_of_slave (hp : p < 2) (hl : s.ptp.ports.length = 2) (hr : (s.ptpPort p).role = 2)
    (hm : (s.ptpPort p).master = false) : ∃ t, execPtpAnnounceReceiptTimeout p s = .next t ∧ (t.ptpPort p).locked = false ∧
      (t.ptpPort p).lostMaster = true ∧ (t.ptpPort p).parent = none ∧ t.regs = s.regs := by
  have hs : (s.ptpPort p).maySlave = true := by simp [PtpPort.maySlave, hr]
  refine ⟨s.setPtp p { s.ptpPort p with locked := false, lostMaster := true, okRun := 0, parent := none, waiting := none, master := false }, ?_, ?_⟩
  · simp only [execPtpAnnounceReceiptTimeout, Nat.not_le.mpr hp, hs, hm, hr, decide_false, Bool.not_true, Bool.or_false, Bool.false_eq_true, if_false,
      show ¬ (2 = 3) by decide]
    rfl
  · rw [State.ptpPort_setPtp _ (hl ▸ hp)]
    exact ⟨rfl, rfl, rfl, rfl⟩

/-- A master's two-step Sync goes out with its Follow_Up. -/
theorem execPtpMessageInterval_sync (hp : p < 2) (hs : s.sends p = true) (hr : (s.ptpPort p).role = 1) (hm : (s.ptpPort p).master = true)
    (ho : (s.ptpPort p).oneStep = false) : ∃ t, execPtpMessageInterval p 0 s = .next t ∧ t.netOut = s.netOut ++
      [NetTx.ptp p 0 ((s.ptpPort p).seqs.getD 0 0) (s.ptpPort p).domain s.time.total, .ptp p 3 ((s.ptpPort p).seqs.getD 0 0) (s.ptpPort p).domain s.time.total] := by
  refine ⟨(s.sendNet _).setPtp p { s.ptpPort p with seqs := (s.ptpPort p).seqs.set 0 (((s.ptpPort p).seqs.getD 0 0 + 1) % 65536) }, ?_,
    (State.sendNet_of_sends (by simp [NetTx.place]) hs).1⟩
  simp [execPtpMessageInterval, Nat.not_le.mpr hp, hr, hm, ho]

theorem execPtpMessageInterval_announce (hp : p < 2) (hs : s.sends p = true) (hr : (s.ptpPort p).role = 1) (hm : (s.ptpPort p).master = true) :
    ∃ t, execPtpMessageInterval p 1 s = .next t ∧
      t.netOut = s.netOut ++ [NetTx.ptp p 1 ((s.ptpPort p).seqs.getD 1 0) (s.ptpPort p).domain s.time.total] := by
  refine ⟨(s.sendNet _).setPtp p { s.ptpPort p with seqs := (s.ptpPort p).seqs.set 1 (((s.ptpPort p).seqs.getD 1 0 + 1) % 65536) }, ?_,
    (State.sendNet_of_sends (by simp [NetTx.place]) hs).1⟩
  simp [execPtpMessageInterval, Nat.not_le.mpr hp, hr, hm]

end

/-- Settles O32: each service by the state that its row gives, with what the return of its descriptors leaves. -/
theorem portServicesAndPtpComplete : Obligations.PortServicesAndPtpComplete := by
  refine ⟨fun s who p hp hl => ⟨fun v h => ?mdio, fun d hg hr => execMdioDone_of_read hp hg hr, fun v he hd => ⟨fun hrun => ?poll, fun hrun => ?link⟩,
      execPtpStep_of_idle, ?second, fun h => ?snapshot, fun m i ha => ⟨fun j => ?arp, fun j e d hd he hs =>
        execIcmpEchoRequest_of_first (hl ▸ hp) ha hd he hs⟩, fun h => ?announce⟩,
    fun s p m r hp hl hr => ⟨?ptpAnnounce, fun hf => ⟨fun ht => ?twoStep, fun ht => ?oneStep, fun w hw hq => ?followUp, fun tx hd => ?delayResp⟩,
      fun hh hm hs => ?delayReq, ?receipt, ?sync, ?interval⟩⟩
  case mdio => exact ⟨_, congrArg Host.Outcome.next ((if_neg (Nat.not_le.mpr hp)).trans (State.toBlock_reaches h _)), State.reg_setReg_self ..⟩
  case poll =>
    refine ⟨_, (execMdioPoll_of_good hp v he hd).trans (congrArg _ (if_neg (Nat.not_le.mpr hrun))), ?_, rfl⟩
    rw [State.mac_setMac_self _ (hl ▸ hp)]
    exact Nat.min_eq_right (by omega)
  case link =>
    exact ⟨_, (execMdioPoll_of_good hp v he hd).trans (congrArg _ (if_pos hrun)), State.linkUp_linkRises .., fun hf => State.ctrl_linkRises _ _ _ hf⟩
  case second => exact ⟨_, rfl, rfl, rfl, State.rbit_setRbit_self _ _ _ _ (by decide)⟩
  case snapshot => exact ⟨_, congrArg Host.Outcome.next (State.toBlock_reaches h _), rfl, rfl, ofLe_leBytes 4 _, rfl⟩
  case arp => simp only [exec, execArpRequest, ha, if_true]
  case announce => simp only [exec, execAnnounce, h, if_true]
  case ptpAnnounce =>
    rw [hr]
    exact fun hh hrole hn => execPtpAnnounce_of_first hp hl hh hrole hn
  case twoStep =>
    refine ⟨(s.setPtp p { r with waiting := some m }).returnRx p 2, ?_, by rw [State.ptpPort_returnRx_setPtp _ _ (hl ▸ hp)]⟩
    simp only [exec, execPtpSync, ← hr, hf, ht, Nat.not_le.mpr hp, decide_false, Bool.not_true, Bool.or_false, Bool.false_eq_true, if_false, if_true]
  case oneStep =>
    simp only [exec, execPtpSync, ← hr, hf, ht, Nat.not_le.mpr hp, decide_false, Bool.not_true, Bool.or_false, Bool.false_eq_true, if_false]
  case followUp =>
    simp only [exec, execPtpFollowUp, ← hr, hf, hw, hq, Nat.not_le.mpr hp, decide_false, Bool.not_true, Bool.or_false, Bool.false_eq_true, if_false, if_true]
  case delayResp =>
    refine ⟨(s.setPtp p { r with delaySeq := none, delayNs := (r.diffNs + (m.rxNs - tx - m.correctionNs)) / 2 }).returnRx p 2, ?_, ?_⟩
    · simp only [exec, execPtpDelayResp, ← hr, hf, hd, Nat.not_le.mpr hp, decide_false, Bool.not_true, Bool.or_false, Bool.false_eq_true, if_false, if_true]
    · rw [State.ptpPort_returnRx_setPtp _ _ (hl ▸ hp)]
      exact ⟨rfl, rfl⟩
  case delayReq =>
    refine ⟨(s.sendNet [.ptp p 4 m.seq r.domain m.rxNs.toNat (some m)]).returnRx p 2, ?_, ?_⟩
    · simp only [exec, execPtpDelayReq, ← hr, hh, hm, Nat.not_le.mpr hp, decide_false, Bool.not_true, Bool.or_false, Bool.false_eq_true, if_false]
    · exact (State.netOut_returnRx ..).trans (State.sendNet_of_sends (by simp [NetTx.place]) hs).1
  case receipt =>
    rw [hr]
    exact fun hrole hm => execPtpAnnounceReceiptTimeout_of_slave hp hl hrole hm
  case sync =>
    rw [hr]
    exact fun hs hrole hm ho => execPtpMessageInterval_sync hp hs hrole hm ho
  case interval =>
    rw [hr]
    exact fun hs hrole hm => execPtpMessageInterval_announce hp hs hrole hm

end Sys2Proof.Machine
end

section
/-! SUPPORT. A cycle whose verdict is already BRACED or DISCARDED has no COMMIT (R38), which refutes the statement WatchCycleCompletes: it has every
open cycle in its commit phase flip. -/

namespace Sys2Proof.Machine

/-- A device whose firmware runs, with a cycle in its commit phase that bracing has taken. -/
def bracedCommit : State :=
  ({ boot := { held := false }, wc := { running := true, ended := false, phase := .commit, bracedVerdict := true } } : State).setRbit
    Reg.sysctlBootStatus 15 true

/-- Nothing happens at the flip of that cycle. -/
theorem execCommitFlip_bracedCommit : execCommitFlip bracedCommit = .next bracedCommit := congrArg Host.Outcome.next (if_pos (by decide +kernel))

/-- Refutes O33: the braced cycle stays open. -/
theorem not_watchCycleCompletes : ¬ Obligations.WatchCycleCompletes := by
  intro h
  obtain ⟨hflip, -⟩ := h.2 bracedCommit rfl rfl
  obtain ⟨t, hexec, -, -, -, hended, -⟩ := hflip (by decide +kernel) rfl (by decide)
  rw [← Host.Outcome.next.inj (execCommitFlip_bracedCommit.symm.trans hexec)] at hended
  exact absurd hended (by decide)

end Sys2Proof.Machine
end

section
/-! SUPPORT. What a station's change of state and the frames to it leave, two devices on one network, a LATE cycle at its mark, and the statement
StationLinkCompletes. -/

namespace Sys2Proof.Machine

section
variable (s : State)

/-! ### The link's state under the operations of the firmware -/

theorem State.station_congr {s t : State} (h : t.tl = s.tl) (i : Nat) : t.station i = s.station i := by rw [State.station, h, State.station]

theorem State.Tells.station {s t : State} (h : s.Tells t) (i : Nat) : t.station i = s.station i := State.station_congr h.tl i

theorem State.tl_sendTl (f : TxTl) : (s.sendTl f).tl = s.tl := by
  unfold State.sendTl
  split
  · rfl
  · unfold State.queueTx
    split <;> rfl

theorem State.station_sendTl (f : TxTl) (i : Nat) : (s.sendTl f).station i = s.station i := State.station_congr (s.tl_sendTl f) i

theorem State.tl_returnRx (p r : Nat) : (s.returnRx p r).tl = s.tl := by rw [(s.returnRx_tidied p r).eq]
theorem State.wc_returnRx (p r : Nat) : (s.returnRx p r).wc = s.wc := by rw [(s.returnRx_tidied p r).eq]
theorem State.station_returnRx (p r i : Nat) : (s.returnRx p r).station i = s.station i := State.station_congr (s.tl_returnRx p r) i

/-! ### A station's change of state -/

/-- A station's change of state is its record's, then what tells of it. -/
theorem State.stationTo_tells {id : Nat} {new : StState} (cause : Nat) (h : (s.station id).state ≠ new) :
    (s.setStation id { (if (new = .lost || new = .absent) && id < 112 then (s.station id).keepAll else s.station id) with
      state := new
      sinceLost := (if (new = .lost || new = .absent) && id < 112 then (s.station id).keepAll else s.station id).sinceLost || (new = .lost || new = .absent)
      takePart := (if (new = .lost || new = .absent) && id < 112 then (s.station id).keepAll else s.station id).takePart && !(new = .lost || new = .absent) }).Tells
      (s.stationTo id new cause) := by
  simp only [State.stationTo, if_neg h]
  exact .trans (State.emitAll_tells _ _ _ _) (State.bbrA_tells _ _ _ _ _ _ _)

theorem State.state_stationTo (id : Nat) (new : StState) (cause : Nat) : ((s.stationTo id new cause).station id).state = new := by
  by_cases h : (s.station id).state = new
  · rw [State.stationTo, if_pos h, h]
  · rw [(s.stationTo_tells cause h).station, State.station_setStation_self]

/-- A station that stays on the link keeps the rest of its record. -/
theorem State.station_stationTo_of_stays (id : Nat) {new : StState} (cause : Nat) (hl : new ≠ .lost) (ha : new ≠ .absent) :
    (s.stationTo id new cause).station id = { s.station id with state := new } := by
  by_cases h : (s.station id).state = new
  · rw [State.stationTo, if_pos h, ← h]
  · rw [(s.stationTo_tells cause h).station, State.station_setStation_self]
    simp [hl, ha]

theorem State.station_stationTo_ne {id j : Nat} (new : StState) (cause : Nat) (hj : j ≠ id) : (s.stationTo id new cause).station j = s.station j := by
  by_cases h : (s.station id).state = new
  · rw [State.stationTo, if_pos h]
  · rw [(s.stationTo_tells cause h).station, State.station_setStation_ne _ _ hj]

/-- Of the link's own state a change of a station touches the stations only. -/
theorem State.tl_stationTo (id : Nat) (new : StState) (cause : Nat) :
    (s.stationTo id new cause).tl = { s.tl with stations := (s.stationTo id new cause).tl.stations } := by
  by_cases h : (s.station id).state = new
  · rw [State.stationTo, if_pos h]
  · rw [(s.stationTo_tells cause h).tl]
    rfl

end

section
variable {s t : State}

/-! ### JOIN, CONFIG and INPUT -/

theorem State.joinReason_congr (h : t.tl = s.tl) (id mac port : Nat) : t.joinReason id mac port = s.joinReason id mac port := by
  simp only [State.joinReason, State.station, State.heldOn, h]
  rfl

theorem State.lostByMac_of_free (h : ∀ x, x ∈ s.tl.stations → x.2.held = false) (mac : Nat) : s.lostByMac mac = s := by
  have hnone : (s.tl.stations.filter fun (x : Nat × Station) => decide (x.1 < 112) && x.2.held && x.2.mac == mac) = [] :=
    List.filter_eq_nil_iff.mpr fun x hx => by simp [h x hx]
  rw [State.lostByMac, hnone]
  rfl

theorem State.handleJoin_of_absent {f : TlFrame} (hfree : ∀ x, x ∈ s.tl.stations → x.2.held = false) (hr : s.joinReason f.stationId f.src f.port = 0)
    (ha : (s.station f.stationId).state = .absent) (hj : (s.station f.stationId).join = none) :
    s.handleJoin f = (s.setStation f.stationId { s.station f.stationId with
      join := some { mac := f.src, port := f.port, cycle := f.cycle, back := .absent } }).stationTo f.stationId .hailed 0 := by
  simp [State.handleJoin, State.lostByMac_of_free hfree, hr, ha, hj]

theorem execJoin_of_absent {f : TlFrame} (hs : s.reports = true) (hh : headerOk f = true) (he : f.epoch = s.tl.epoch)
    (hann : s.tl.announced.testBit f.port = true) (hrole : s.tl.role ≠ .standby) (hfree : ∀ x, x ∈ s.tl.stations → x.2.held = false)
    (hr : s.joinReason f.stationId f.src f.port = 0) (ha : (s.station f.stationId).state = .absent) (hj : (s.station f.stationId).join = none) :
    ∃ t, execJoin f s = .next t ∧ (t.station f.stationId).state = .hailed ∧
      (t.station f.stationId).join = some { mac := f.src, port := f.port, cycle := f.cycle, back := .absent } := by
  have htl := s.tl_returnRx f.port 0
  have hst := s.station_returnRx f.port 0 f.stationId
  have hjoin := State.handleJoin_of_absent (s := s.returnRx f.port 0) (f := f) (by rw [htl]; exact hfree)
    ((State.joinReason_congr htl _ _ _).trans hr) (by rw [hst]; exact ha) (by rw [hst]; exact hj)
  refine ⟨(s.returnRx f.port 0).handleJoin f, ?_, ?_, ?_⟩
  · simp only [execJoin, hs, htl, hann, hh, hrole, he, Bool.not_true, Bool.false_eq_true, if_false, ne_eq, not_true_eq_false, decide_false,
      Bool.or_self]
  · rw [hjoin, State.state_stationTo]
  · rw [hjoin, State.station_stationTo_of_stays _ _ _ (by decide) (by decide), State.station_setStation_self]

theorem State.state_forgetJoin {id : Nat} {j : PendingJoin} (hj : (s.station id).join = some j) (hh : (s.station id).state = .hailed) :
    ((s.forgetJoin id).station id).state = j.back := by
  have hb : ((s.station id).state == .hailed) = true := by rw [hh]; rfl
  simp only [State.forgetJoin, hj, hb, if_true]
  exact State.state_stationTo ..

/-- The fallback changes kept for a JOIN alter the block, not the station's place on the link. -/
theorem Station.state_takeKept (st : Station) : st.takeKept.state = st.state := by
  refine List.foldlRecOn (motive := fun u : Station => u.state = st.state) st.fbKept _ rfl fun u hu f _ => ?_
  exact hu

/-- CONFIG counts its sends and leaves the rest of the record. -/
theorem State.station_sendConfig (s : State) (id : Nat) : (s.sendConfig id).station id = { s.station id with sends := (s.station id).sends + 1 } := by
  rw [State.sendConfig, State.station_sendTl, State.station_setStation_self]

theorem State.station_admitJoin (s : State) (id : Nat) (j : PendingJoin) : (s.admitJoin id j).station id =
    { (s.station id).takeKept with
      mac := j.mac, port := j.port, join := none, epoch := s.tl.epoch, sends := 1, firstConfig := true, ackedSeq := none, state := .joining } := by
  rw [State.admitJoin, State.station_sendConfig, State.station_sendTl, State.station_stationTo_of_stays _ _ _ (by decide) (by decide),
    State.station_setStation_self]

theorem execAdmissionRound_of_one {id : Nat} {j : PendingJoin} (hs : s.reports = true) (hrole : s.tl.role ≠ .standby) (hp : s.joinsPending = [(id, j)])
    (hr : s.joinReason id j.mac j.port = 0) : execAdmissionRound s = .next (s.admitJoin id j) := by
  have hrole' : (s.tl.role == .standby) = false := beq_eq_false_iff_ne.mpr hrole
  simp [execAdmissionRound, hs, hrole', hp, State.roundOne, hr]

/-- What is told of fallback changes leaves the stations' records. -/
theorem State.station_tellWaiting (s : State) (id status : Nat) :
    (s.tellWaiting id status).station id = { s.station id with fbWait := [] } := by
  have hfold : ∀ (l : List Notify) (u : State),
      (l.foldl (fun (t : State) n => t.emitCompletion n status (BitVec.ofNat 32 t.frameCycle)) u).station id = u.station id := by
    intro l u
    exact List.foldlRecOn (motive := fun t : State => t.station id = u.station id) l _ rfl fun t ht n _ =>
      ((State.emitCompletion_tells _ _ _ _).station id).trans ht
  rw [State.tellWaiting, hfold, State.station_setStation_self]

theorem State.station_moorStation (s : State) (id : Nat) : ((s.moorStation id).station id).state = .moored ∧
    ((s.moorStation id).station id).ackedSeq = some (s.station id).configSeq ∧ ((s.moorStation id).station id).missRun = 0 := by
  rw [State.moorStation, State.station_tellWaiting, State.station_stationTo_of_stays _ _ _ (by decide) (by decide), State.station_setStation_self]
  exact ⟨rfl, rfl, rfl⟩

theorem execConfigAck_of_first {f : TlFrame} (hs : s.reports = true) (hid : f.stationId < 112) (hh : headerOk f = true) (he : f.epoch = s.tl.epoch)
    (hj : (s.station f.stationId).state = .joining) (hn : 1 ≤ (s.station f.stationId).sends) (hm : (s.station f.stationId).mac = f.src)
    (hq : u16 f.payload 0 = (s.station f.stationId).configSeq) (hz : u8 f.payload 2 = 0) (hc : (s.station f.stationId).firstConfig = true) :
    execConfigAck f s = .next ((s.returnRx f.port 0).moorStation f.stationId) := by
  have hheld : (s.station f.stationId).held = true := by rw [Station.held, hj]; rfl
  simp [execConfigAck, hs, hh, s.tl_returnRx, s.station_returnRx, he, hheld, hm, hq, hz, State.handleAck, hc, Nat.not_le.mpr hid, Nat.ne_of_gt hn]

theorem State.inputOk_congr (ht : t.tl = s.tl) (hw : t.wc = s.wc) (f : TlFrame) : t.inputOk f = s.inputOk f := by
  simp only [State.inputOk, State.station, ht, hw]

theorem State.followedEpoch_congr (h : t.tl = s.tl) : t.followedEpoch = s.followedEpoch := by
  simp only [State.followedEpoch, h]

theorem State.keepInput_wc (s : State) (f : TlFrame) : (s.keepInput f).wc = s.wc := by
  unfold State.keepInput
  split <;> rfl

/-- An INPUT for the current cycle from a station that takes part is stored, or counted as late. -/
theorem execInput_of_ok {f : TlFrame} (hs : s.reports = true) (hid : f.stationId < 112) (hh : headerOk f = true) (he : f.epoch = s.followedEpoch)
    (hst : (s.station f.stationId).state = .moored ∨ (s.station f.stationId).state = .slack) (hok : s.inputOk f = true) :
    execInput f s = .next (if s.wc.gathered then (s.returnRx f.port 0).takeInput f else (s.keepInput f).takeInput f) := by
  have hst' : ((s.station f.stationId).state == .moored || (s.station f.stationId).state == .slack) = true := by
    rcases hst with h | h <;> rw [h] <;> rfl
  have hok' := (State.inputOk_congr (s.tl_returnRx f.port 0) (s.wc_returnRx f.port 0) f).trans hok
  have he' := he.trans (State.followedEpoch_congr (s.tl_returnRx f.port 0)).symm
  simp only [execInput, hs, hh, s.station_returnRx, hst', hok', ← he', Nat.not_le.mpr hid, Bool.not_true, Bool.false_or, Bool.false_eq_true, if_false,
    ne_eq, not_true_eq_false, decide_false]

/-! ### Two devices on one network -/

theorem State.nowUs_returnRx (s : State) (p r : Nat) : (s.returnRx p r).nowUs = s.nowUs := by
  rw [State.nowUs, (s.returnRx_tidied p r).eq]
  rfl

/-- Handing descriptors back writes the port's count of discarded frames at most. -/
theorem State.reg_tidyRing_ne (s : State) (p r n : Nat) {a : Nat} (h : a ≠ Reg.ethTlDiscard + 65536 * p) : (s.tidyRing p r n).reg a = s.reg a := by
  induction n generalizing s with
  | zero => rfl
  | succ n ih =>
    rw [State.tidyRing]
    split
    · rfl
    · split
      · rw [ih]
        split
        · exact State.reg_addFld_ne _ _ _ _ h
        · rfl
      · rfl

theorem State.reg_returnRx_ne (s : State) (p r : Nat) {a : Nat} (h : a ≠ Reg.ethTlDiscard + 65536 * p) : (s.returnRx p r).reg a = s.reg a := by
  unfold State.returnRx
  split
  · rfl
  · exact State.reg_tidyRing_ne _ _ _ _ h

theorem State.macAddr_returnRx (s : State) (p r : Nat) : (s.returnRx p r).macAddr p = s.macAddr p := by
  simp only [State.macAddr, State.macBytes, State.fld,
    s.reg_returnRx_ne p r (a := Reg.ethMacLo + 65536 * p) (by simp only [Reg.ethMacLo, Reg.ethTlDiscard]; omega),
    s.reg_returnRx_ne p r (a := Reg.ethMacHi + 65536 * p) (by simp only [Reg.ethMacHi, Reg.ethTlDiscard]; omega)]

/-- The only peer heard is the one followed. -/
theorem State.hearPeer_of_first {d : PeerDevice} (h : s.tl.heard = []) (hu : d.heardUs = s.nowUs) :
    s.hearPeer d = { s with tl := { s.tl with heard := [d], followed := some d } } := by
  simp [State.hearPeer, State.bestPeer, h, hu]

theorem Store.mem_of_find? {α : Type} {m : Store α} {k : Nat} {v : α} (h : Store.find? m k = some v) : (k, v) ∈ m := by
  induction m with
  | nil => exact absurd h (by simp)
  | cons p m ih =>
    rw [Store.find?] at h
    split at h
    · next hk =>
      obtain rfl := Option.some.inj h
      exact hk ▸ List.mem_cons_self
    · exact List.mem_cons_of_mem _ (ih h)

/-- A station that is neither held nor hailed loses nothing; the others are LOST in turn. -/
theorem State.held_loseAll (s : State) (i : Nat) : (s.loseAll.station i).held = false := by
  have hstep : ∀ (l : List Nat) (t : State), ((t.station i).held = true → i ∈ l) →
      ((l.foldl (fun (t : State) id => (t.setStation id { t.station id with join := none, sends := 0 }).stationTo id .lost 4) t).station i).held = false := by
    intro l
    induction l with
    | nil => exact fun t h => Bool.eq_false_iff.mpr fun hh => List.not_mem_nil (h hh)
    | cons n l ih =>
      intro t h
      rw [List.foldl_cons]
      refine ih _ fun hh => ?_
      by_cases hn : i = n
      · rw [hn, Station.held, State.state_stationTo] at hh
        exact absurd hh (by decide)
      · rw [State.station_stationTo_ne _ _ _ hn, State.station_setStation_ne _ _ hn] at hh
        exact List.mem_of_ne_of_mem hn (h hh)
  refine hstep _ s fun hh => ?_
  rw [State.station, Store.get] at hh
  cases hf : Store.find? s.tl.stations i with
  | none => rw [hf] at hh; exact absurd hh (by decide)
  | some st =>
    rw [hf] at hh
    exact List.mem_map.mpr ⟨(i, st), List.mem_filter.mpr ⟨Store.mem_of_find? hf, by simpa using .inl hh⟩, rfl⟩

theorem State.tl_loseAll (s : State) : s.loseAll.tl = { s.tl with stations := s.loseAll.tl.stations } := by
  refine List.foldlRecOn (motive := fun t : State => t.tl = { s.tl with stations := t.tl.stations }) _ _ rfl fun t ht id _ => ?_
  rw [State.tl_stationTo, show (t.setStation id { t.station id with join := none, sends := 0 }).tl =
    { t.tl with stations := (t.setStation id { t.station id with join := none, sends := 0 }).tl.stations } from rfl, ht]

theorem execAnnounceReceived_of_valid {f : TlFrame} (hs : s.reports = true) (hv : f.version = 1) (hf : f.flags = 0) (hl : f.length ≤ f.body.length)
    (hid : f.stationId = 0xFF) : execAnnounceReceived f s = .next (
      if s.tl.role == .active && claimHigher (u8 f.payload 0, f.epoch, f.src) (2, s.tl.epoch, s.macAddr f.port) then
        ((s.returnRx f.port 0).hearPeer ((s.returnRx f.port 0).peerOf f)).yieldClaim f.epoch
      else (s.returnRx f.port 0).hearPeer ((s.returnRx f.port 0).peerOf f)) := by
  simp only [execAnnounceReceived, hs, hv, hf, hid, Nat.not_lt.mpr hl, s.tl_returnRx, s.macAddr_returnRx, Bool.not_true, Bool.false_eq_true, if_false,
    ne_eq, not_true_eq_false, decide_false, Bool.or_self]
  rfl

theorem State.yieldClaim_standby (s : State) (epoch : Nat) : (s.yieldClaim epoch).tl.role = .standby ∧ (s.yieldClaim epoch).tl.missedMarks = 0 ∧
    ∀ i, ((s.yieldClaim epoch).station i).held = false := by
  have htells := State.faultF_tells ({ s with tl := { s.tl with role := .standby, missedMarks := 0 } } : State).loseAll 0x062 3 0x16 (BitVec.ofNat 32 epoch)
  have htl := htells.tl
  rw [State.tl_loseAll] at htl
  refine ⟨congrArg Tideline.role htl, congrArg Tideline.missedMarks htl, fun i => ?_⟩
  exact (congrArg Station.held (htells.station i)).trans (State.held_loseAll _ i)

theorem execCommitReceived_of_followed {f : TlFrame} {d : PeerDevice} (hs : s.reports = true) (hv : f.version = 1) (hf : f.flags = 0)
    (hl : f.length ≤ f.body.length) (hid : f.stationId = 0xFF) (hd : s.tl.followed = some d) (hr : s.tl.role = .standby) (he : f.epoch = d.epoch)
    (hm : d.mac = f.src) : ∃ t, execCommitReceived f s = .next t ∧ t.tl.followed = some { d with commits := (f.mark :: d.commits).take 8 } ∧
      t.wc = s.wc := by
  refine ⟨{ s.returnRx f.port 0 with tl := { s.tl with
    followed := some (d.commit f.mark), heard := s.tl.heard.map fun x => if x.mac = d.mac then x.commit f.mark else x } }, ?_, rfl, s.wc_returnRx _ _⟩
  have hr' : (s.tl.role != .standby) = false := by rw [hr]; rfl
  simp only [execCommitReceived, hs, s.tl_returnRx, hd, hv, hf, hid, he, hm, hr', Nat.not_lt.mpr hl, Bool.not_true, Bool.false_eq_true, if_false,
    ne_eq, not_true_eq_false, decide_false, Bool.or_self]

/-! ### A cycle that is still open at its mark -/

theorem State.wc_raiseLate (s : State) (reason : Nat) : (s.raiseLate reason).wc = s.wc :=
  (State.Tells.trans (State.emitAll_tells _ _ _ _) (State.bbrA_tells _ _ _ _ _ _ _)).wc

theorem State.wc_escalateLate (s : State) : s.escalateLate.wc = { s.wc with
    lateRun := s.wc.lateRun + 1
    restricted := decide (s.wc.lateRun = 2) || s.wc.restricted
    decimation := if (s.wc.lateRun + 1) % 8 = 0 ∧ s.wc.decimation < 16 then min 16 (2 * s.wc.decimation) else s.wc.decimation } := by
  unfold State.escalateLate
  by_cases h3 : s.wc.lateRun = 2
  · simp [h3, State.wc_raiseLate]
  · by_cases h8 : (s.wc.lateRun + 1) % 8 = 0
    · by_cases hd : s.wc.decimation < 16
      · simp [h3, h8, hd, Nat.not_le.mpr hd, State.wc_raiseLate]
      · simp [h3, h8, hd, Nat.le_of_not_lt hd, State.wc_raiseLate]
    · simp [h3, h8]

theorem State.wc_endCycle_late (hr : s.wc.running = true) (he : s.wc.ended = false) (hb : s.wc.bracedVerdict = false) (hd : s.wc.discardVerdict = false) :
    (s.endCycle .late).wc = { s.wc with
      ended := true, phase := .ebb, lastCycle := s.wc.cycle, lastOutcome := .late, committedRun := 0, nLate := s.wc.nLate + 1
      lateRun := s.wc.lateRun + 1
      restricted := decide (s.wc.lateRun = 2) || s.wc.restricted
      decimation := if (s.wc.lateRun + 1) % 8 = 0 ∧ s.wc.decimation < 16 then min 16 (2 * s.wc.decimation) else s.wc.decimation } := by
  have ho : s.wc.verdict .late = .late := by simp [WatchCycle.verdict, hb, hd]
  have hentry : ∀ t : State, (t.cycleEntry .late).wc = t.wc := fun t => (State.bbrA_tells t _ _ _ _ _ _).wc
  simp only [State.endCycle, hr, he, ho, hentry, Bool.not_true, Bool.or_self, Bool.false_eq_true, if_false, beq_self_eq_true, if_true, State.wc_escalateLate]
  rfl

/-- Freeing the slots of channels that leave touches no cycle. -/
theorem State.wc_freeLeaving (s : State) : s.freeLeaving.wc = s.wc :=
  List.foldlRecOn (motive := fun t : State => t.wc = s.wc) _ _ rfl fun _ ht _ _ => ht

theorem execWatchMark_of_open {m : Nat} (hh : s.boot.held = false) (hm : s.nextMark = some m) (hp : s.wc.stopPending = false) :
    execWatchMark s = .next (({ (s.endCycle .late).freeLeaving with time := (s.endCycle .late).freeLeaving.time.atUs m }.setRbit
      Reg.timerEvents 0 true).beginCycle m |>.loadMark m) := by
  simp only [execWatchMark, hh, hm, hp, Bool.false_eq_true, if_false]

end

/-- Settles O34: the station's record after each frame, the claim of the other device, and the count of the LATE cycle. -/
theorem stationLinkCompletes : Obligations.StationLinkCompletes := by
  refine ⟨?stations, ?peers, ?late⟩
  case stations =>
    rintro s f id st hs hid rfl
    refine ⟨?join, fun j hj hst => ?forget, fun j hrole hp hr hst => ?round, fun hh h1 h5 => ?resend, ?ack, ?input⟩
    case join =>
      rintro rfl hh he hann hrole hfree hr ha hj
      exact execJoin_of_absent hs hh he hann hrole hfree hr ha hj
    case forget =>
      refine ⟨s.forgetJoin id, ?_, State.state_forgetJoin hj hst⟩
      simp [exec, execJoinForget, hs, hj, Nat.not_le.mpr hid]
    case round =>
      refine ⟨_, execAdmissionRound_of_one hs hrole hp hr, ?_⟩
      rw [State.station_admitJoin]
      exact ⟨rfl, rfl, rfl, rfl, rfl⟩
    case resend =>
      refine ⟨s.sendConfig id, ?_, by rw [State.station_sendConfig]⟩
      simp [exec, execConfigResend, hs, hh, h5, Nat.not_le.mpr hid, Nat.ne_of_gt h1]
    case ack =>
      rintro rfl hh he hj h1 hm hq hz hc
      obtain ⟨hst, hseq, hrun⟩ := State.station_moorStation (s.returnRx f.port 0) f.stationId
      rw [State.station_returnRx] at hseq
      exact ⟨_, execConfigAck_of_first hs hid hh he hj h1 hm hq hz hc, hst, hseq, hrun⟩
    case input =>
      rintro rfl hh he hst hok
      have hexec := execInput_of_ok hs hid hh he hst hok
      refine ⟨fun hg => ⟨(s.keepInput f).takeInput f, hexec.trans (by rw [hg]; rfl), ?_⟩,
        fun hg => ⟨(s.returnRx f.port 0).takeInput f, hexec.trans (by rw [hg]; rfl), ?_⟩⟩
      · rw [State.takeInput, s.keepInput_wc, hg]
        simp only [Bool.false_eq_true, if_false, State.station_setStation_self, and_self]
      · rw [State.takeInput, s.wc_returnRx, hg]
        simp only [if_true, State.station_setStation_self, s.station_returnRx, and_self]
  case peers =>
    intro s f hs hv hf hl hid
    have hexec := execAnnounceReceived_of_valid hs hv hf hl hid
    refine ⟨fun hn hh hr => ?first, fun hr hc => ?yields, fun d hd hr he hm => execCommitReceived_of_followed hs hv hf hl hid hd hr he hm⟩
    case first =>
      refine ⟨(s.returnRx f.port 0).hearPeer ((s.returnRx f.port 0).peerOf f), ?_, ?_⟩
      · exact hexec.trans (by rw [hr]; rfl)
      · rw [State.hearPeer_of_first (by rw [s.tl_returnRx, hh]) rfl]
        refine ⟨(congrArg Tideline.role (s.tl_returnRx _ _)).trans hr, ?_⟩
        simp [State.peerOf, s.tl_returnRx, hh, s.nowUs_returnRx]
    case yields =>
      refine ⟨((s.returnRx f.port 0).hearPeer ((s.returnRx f.port 0).peerOf f)).yieldClaim f.epoch, ?_, State.yieldClaim_standby _ _⟩
      exact hexec.trans (by rw [hr, hc]; rfl)
  case late =>
    intro s m hh hm hp hr he hb hd
    have hwc : ((s.endCycle .late).freeLeaving).wc = _ := (State.wc_freeLeaving _).trans (State.wc_endCycle_late hr he hb hd)
    refine ⟨_, execWatchMark_of_open hh hm hp, ?_⟩
    simp only [State.loadMark, State.beginCycle, State.setDeadline, State.setFld_wc, State.setRbit_wc, hwc]
    refine ⟨trivial, trivial, trivial, fun h2 => ?_, fun h2 => ?_, trivial⟩
    · simp [h2]
    · simp [h2]

end Sys2Proof.Machine
end

section
/-! SUPPORT. The end of an UNLOAD does not lead to COMMIT where the cycle's verdict is already BRACED or DISCARDED (R38), which refutes the statement
QuayAndFieldsComplete: it asks only that the cycle has not ended. -/

namespace Sys2Proof.Machine

/-- A device whose Quay is at the end of an UNLOAD without fields, in a cycle that bracing has taken. -/
def bracedUnload : State :=
  ({ boot := { held := false }, wc := { running := true, ended := false, phase := .unload, bracedVerdict := true } } : State).setFld Reg.quayStatus 2 0 2

theorem unloadPass_bracedUnload : bracedUnload.unloadPass = (bracedUnload, none) := by
  have hempty : u16 (bracedUnload.b2 (bracedUnload.fld Reg.quayUlPtr 20 0) 32) 0 = 0 := by decide +kernel
  simp only [State.unloadPass, hempty, if_true]

/-- After UNLOAD_DONE the cycle is still in its unload phase. -/
theorem phase_unloadDone_bracedUnload :
    ((((bracedUnload.setReg Reg.quayStatus 0).setRbit Reg.quayEvents 1 true).quayTime Reg.quayUlTime).quayMbox.takeSleeps).wc.phase = .unload := by
  decide +kernel

theorem execUnloadDone_bracedUnload : execUnloadDone bracedUnload = .next
    (((bracedUnload.setReg Reg.quayStatus 0).setRbit Reg.quayEvents 1 true).quayTime Reg.quayUlTime).quayMbox.takeSleeps := by
  have hgo : ¬ ((bracedUnload.fld Reg.quayStatus 2 0 ≠ 2 || !bracedUnload.passReady (bracedUnload.fld Reg.quayUlPtr 20 0)) = true) := by decide +kernel
  rw [execUnloadDone, if_neg hgo]
  simp only [unloadPass_bracedUnload]
  exact congrArg Host.Outcome.next (if_pos (by decide +kernel))

/-- Refutes O35: the braced cycle does not go on to COMMIT. -/
theorem not_quayAndFieldsComplete : ¬ Obligations.QuayAndFieldsComplete := by
  intro h
  obtain ⟨-, -, -, -, hunload, -⟩ := h.1 bracedUnload
  obtain ⟨-, hcycle⟩ := hunload (by decide +kernel) (by decide +kernel)
  obtain ⟨t, hexec, hphase⟩ := hcycle bracedUnload rfl rfl rfl unloadPass_bracedUnload rfl
  rw [← Host.Outcome.next.inj (execUnloadDone_bracedUnload.symm.trans hexec), phase_unloadDone_bracedUnload] at hphase
  exact absurd hphase (by decide)

end Sys2Proof.Machine
end

section
/-! SUPPORT. A packet that travels alone through the mesh, requests and responses of the Fairway, and the statement FairwayCompletes. -/

namespace Sys2Proof.Machine

/-! ### A packet alone (R699)

Its QoS and the time that its head has waited decide nothing where no other packet asks for a port. -/

/-- A packet less its QoS and its wait. -/
def Worm.bare (w : Worm) : Worm := { w with qos := 0, wait := 0 }

/-- The output ports that a packet alone is granted in a cycle. -/
def Worm.grantAlone (w : Worm) : Worm :=
  ((Worm.places w).filter fun i => Worm.headAt w i [w]).foldl (fun u i =>
    if portTaken [w] w.rsp (Worm.port w i) then u else { u with own := u.own.set i true }) w

/-- The flits of a packet alone after a cycle, with the ports that it has. -/
def Worm.advance (c : Nat) (w : Worm) : Worm :=
  let sent := (Worm.places w).map fun i => Worm.out w i + (Worm.moves w i [w]).toNat
  let since := (Worm.places w).map fun i => if Worm.out w i = 0 && 0 < sent.getD i 0 then c else w.since.getD i 0
  let k := w.path.length - 1
  { w with sent := sent, since := since, head := if w.head.isNone && decide (0 < sent.getD k 0) then some (c + 1) else w.head,
           last := if w.last.isNone && decide (w.flits ≤ sent.getD k 0) then some (c + 1) else w.last }

/-- The way of a packet alone from a cycle on. -/
def Worm.runAlone (w : Worm) (c : Nat) : Nat → Worm
  | 0 => w
  | n + 1 => if w.last.isSome then w else (Worm.advance c (Worm.grantAlone w)).runAlone (c + 1) n

theorem Worm.bare_advance (c : Nat) (w : Worm) : (w.advance c).bare = w.bare.advance c := rfl

/-- One worm's grants: the fold of the mesh on it is the fold of its own ports. -/
theorem grants_single (w : Worm) (l : List Nat) (v : Worm) (hv : v.place = w.place) (step : List Worm → Worm × Nat → List Worm)
    (hstep : ∀ (u : List Worm) i, step u (w, i) = if portTaken [w] w.rsp (Worm.port w i)
      then u.map fun x => if x.place = w.place then { x with wait := x.wait + 1 } else x
      else u.map fun x => if x.place = w.place then { x with own := x.own.set i true } else x) :
    ∃ v', (l.map fun i => (w, i)).foldl step [v] = [v'] ∧ v'.bare = l.foldl (fun u i =>
      if portTaken [w] w.rsp (Worm.port w i) then u else { u with own := u.own.set i true }) v.bare := by
  induction l generalizing v with
  | nil => exact ⟨v, rfl, rfl⟩
  | cons i l ih =>
    rw [List.map_cons, List.foldl_cons, List.foldl_cons, hstep]
    split
    · rw [List.map_singleton, if_pos hv]
      exact ih { v with wait := v.wait + 1 } hv
    · rw [List.map_singleton, if_pos hv]
      exact ih { v with own := v.own.set i true } hv

theorem grantPorts_single (w : Worm) : ∃ v, grantPorts [w] = [v] ∧ v.bare = w.bare.grantAlone := by
  unfold grantPorts
  dsimp only
  rw [List.flatMap_singleton]
  refine grants_single w _ w rfl _ fun u i => ?_
  have hany : (((Worm.places w).filter fun i => Worm.headAt w i [w]).map fun i => (w, i)).any (fun x => x.1.place != w.place && x.1.rsp == w.rsp &&
      Worm.port x.1 x.2 == Worm.port w i && (headBefore x (w, i) || (!headBefore (w, i) x && decide (x.1.place < w.place)))) = false := by
    simp [List.any_eq_false]
  simp only [hany, Bool.not_false, Bool.and_true]
  cases portTaken [w] w.rsp (Worm.port w i) <;> rfl

theorem meshCycle_single (c : Nat) (w : Worm) : ∃ v, meshCycle c [w] = [v] ∧ v.bare = (w.bare.grantAlone).advance c := by
  obtain ⟨v, hv, hb⟩ := grantPorts_single w
  refine ⟨v.advance c, ?_, by rw [Worm.bare_advance, hb]⟩
  simp only [meshCycle, hv]
  rfl

theorem runMesh_single (w : Worm) (c n : Nat) : ∃ v, runMesh [w] c n = [v] ∧ v.bare = w.bare.runAlone c n := by
  induction n generalizing w c with
  | zero => exact ⟨w, rfl, rfl⟩
  | succ n ih =>
    rw [runMesh, Worm.runAlone, List.all_cons, List.all_nil, Bool.and_true]
    by_cases hl : w.last.isSome = true
    · rw [if_pos hl, if_pos (show w.bare.last.isSome = true from hl)]
      exact ⟨w, rfl, rfl⟩
    · rw [if_neg hl, if_neg (show ¬ w.bare.last.isSome = true from hl)]
      obtain ⟨v, hv, hb⟩ := meshCycle_single c w
      obtain ⟨u, hu, hub⟩ := ih v (c + 1)
      exact ⟨u, by rw [hv, hu], by rw [hub, hb]⟩

/-- A packet alone arrives as it runs alone. -/
theorem arrivals_single (p : FwPacket) : arrivals [p] = [(((worm 0 p).bare.runAlone 1 (meshFuel [worm 0 p])).place,
    ((worm 0 p).bare.runAlone 1 (meshFuel [worm 0 p])).head.getD 0, ((worm 0 p).bare.runAlone 1 (meshFuel [worm 0 p])).last.getD 0)] := by
  obtain ⟨v, hv, hb⟩ := runMesh_single (worm 0 p) 1 (meshFuel [worm 0 p])
  have hsort : arrivals [p] = [(v.place, v.head.getD 0, v.last.getD 0)] := by
    simp only [arrivals, List.zipIdx_singleton, List.map_singleton, hv, List.mergeSort_singleton]
  rw [hsort, ← hb]
  rfl

theorem Worm.place_grantAlone (w : Worm) : w.grantAlone.place = w.place :=
  List.foldlRecOn (motive := fun u : Worm => u.place = w.place) _ _ rfl fun u hu i _ => by split <;> exact hu

theorem Worm.place_runAlone (w : Worm) (c n : Nat) : (w.runAlone c n).place = w.place := by
  induction n generalizing w c with
  | zero => rfl
  | succ n ih =>
    rw [Worm.runAlone]
    split
    · rfl
    · exact (ih _ _).trans w.place_grantAlone

/-- A packet alone arrives, as the first of its row. -/
theorem arrivals_single_place (p : FwPacket) : ∃ h l, arrivals [p] = [(0, h, l)] :=
  ⟨_, _, by rw [arrivals_single, Worm.place_runAlone]; rfl⟩

/-- A packet of one flit on its way between two nodes. -/
def readWorm (a b : Nat) : Worm :=
  { place := 0, path := route a b, rsp := false, flits := 1, qos := 0, wait := 0, sent := (route a b).map fun _ => 0, since := (route a b).map fun _ => 0,
    own := (route a b).map fun _ => false }

theorem runAlone_readWorm : ∀ a, a < 16 → ∀ b, b < 16 → ((readWorm a b).runAlone 1 88).head = some (hops a b + 2) ∧
    ((readWorm a b).runAlone 1 88).last = some (hops a b + 2) := by
  decide +kernel

/-- A READ without CRC arrives two cycles after its hops. -/
theorem arrivals_read {p : FwPacket} (hs : p.src < 16) (hd : p.dst < 16) (hk : p.kind = 1) (hb : p.bulk = false) :
    arrivals [p] = [(0, hops p.src p.dst + 2, hops p.src p.dst + 2)] := by
  have hflits : (FwPacket.flits p).length = 1 := by simp [FwPacket.flits, FwPacket.carries, hk, hb]
  have hworm : (worm 0 p).bare = readWorm p.src p.dst := by
    simp only [worm, Worm.bare, readWorm, hflits, hk]
    rfl
  have hfuel : meshFuel [worm 0 p] = 88 := by
    simp only [meshFuel, worm, hflits, List.foldl_cons, List.foldl_nil]
  obtain ⟨hhead, hlast⟩ := runAlone_readWorm p.src hs p.dst hd
  rw [arrivals_single, hworm, hfuel, hhead, hlast, Worm.place_runAlone]
  rfl

end Sys2Proof.Machine
end

section
/-! SUPPORT. The Fairway's records, injection and arrivals (SPEC chapter 19), and the statement FairwayCompletes. -/

namespace Sys2Proof.Machine

/-! ### The Fairway's records: counts and events are registers above FAIRWAY_FENCE -/

theorem fwCount_above_fence (node word : Nat) : Reg.fairwayFence < [Reg.fairwayCntA, Reg.fairwayCntB, Reg.fairwayCntC].getD word Reg.fairwayCntA + 16 * node := by
  match word with
  | 0 => simp only [List.getD_cons_zero, Reg.fairwayFence, Reg.fairwayCntA]; omega
  | 1 => simp only [List.getD_cons_succ, List.getD_cons_zero, Reg.fairwayFence, Reg.fairwayCntB]; omega
  | 2 => simp only [List.getD_cons_succ, List.getD_cons_zero, Reg.fairwayFence, Reg.fairwayCntC]; omega
  | _ + 3 => simp only [List.getD_cons_succ, List.getD_nil, Reg.fairwayFence, Reg.fairwayCntA]; omega

theorem State.reg_fwCount_of_ne (s : State) (node word : Nat) (high : Bool) {a : Nat}
    (h : a ≠ [Reg.fairwayCntA, Reg.fairwayCntB, Reg.fairwayCntC].getD word Reg.fairwayCntA + 16 * node) : (s.fwCount node word high).reg a = s.reg a := by
  unfold State.fwCount
  cases high
  · exact State.reg_addFld_ne s _ _ _ h
  · exact State.reg_addFld_ne s _ _ _ h

theorem State.rbit_fence_fwCount (s : State) (node word : Nat) (high : Bool) (i : Nat) :
    (s.fwCount node word high).rbit Reg.fairwayFence i = s.rbit Reg.fairwayFence i := by
  rw [State.rbit, State.reg_fwCount_of_ne s node word high (Nat.ne_of_lt (fwCount_above_fence node word))]
  rfl

theorem State.rbit_fence_fwEvent (s : State) (b node dst status tid i : Nat) :
    (s.fwEvent b node dst status tid).rbit Reg.fairwayFence i = s.rbit Reg.fairwayFence i := by
  rw [State.rbit, State.fwEvent, State.reg_setReg_ne _ _ (by decide), State.reg_setRbit_ne _ _ _ (by decide)]
  rfl

/-- What no count and no event of the Fairway changes, a packet's way does not change. -/
theorem State.onTheWay_keeps {P : State → Prop} (hcount : ∀ t node word high, P t → P (State.fwCount t node word high))
    (hevent : ∀ t b node dst status tid, P t → P (State.fwEvent t b node dst status tid)) {s : State} (h : P s) (p : FwPacket) : P (s.onTheWay p) := by
  have hfold : P ((p.corrected.filter fun n => (route p.src p.dst).contains n).foldl
      (fun (t : State) n => (t.fwCount n 0 false).fwEvent 0 n p.dst 0 p.tid) s) :=
    List.foldlRecOn (motive := P) _ _ h fun t ht n _ => hevent _ _ _ _ _ _ (hcount _ _ _ _ ht)
  unfold State.onTheWay
  dsimp only
  split
  · exact hevent _ _ _ _ _ _ (hcount _ _ _ _ hfold)
  · split
    · exact hevent _ _ _ _ _ _ (hcount _ _ _ _ hfold)
    · exact hfold

theorem State.fw_fwCount (s : State) (node word : Nat) (high : Bool) : (s.fwCount node word high).fw = s.fw := by cases high <;> rfl

theorem State.mem_fwCount (s : State) (node word : Nat) (high : Bool) : (s.fwCount node word high).mem = s.mem := by cases high <;> rfl

theorem State.bus_fwCount (s : State) (node word : Nat) (high : Bool) : (s.fwCount node word high).bus = s.bus := by cases high <;> rfl

theorem State.fw_onTheWay (s : State) (p : FwPacket) : (s.onTheWay p).fw = s.fw :=
  State.onTheWay_keeps (P := fun t => t.fw = s.fw) (fun t _ _ _ h => (t.fw_fwCount _ _ _).trans h) (fun _ _ _ _ _ _ h => h) rfl p

theorem State.mem_onTheWay (s : State) (p : FwPacket) : (s.onTheWay p).mem = s.mem :=
  State.onTheWay_keeps (P := fun t => t.mem = s.mem) (fun t _ _ _ h => (t.mem_fwCount _ _ _).trans h) (fun _ _ _ _ _ _ h => h) rfl p

theorem State.bus_onTheWay (s : State) (p : FwPacket) : (s.onTheWay p).bus = s.bus :=
  State.onTheWay_keeps (P := fun t => t.bus = s.bus) (fun t _ _ _ h => (t.bus_fwCount _ _ _).trans h) (fun _ _ _ _ _ _ h => h) rfl p

theorem State.rbit_fence_onTheWay (s : State) (p : FwPacket) (i : Nat) : (s.onTheWay p).rbit Reg.fairwayFence i = s.rbit Reg.fairwayFence i :=
  State.onTheWay_keeps (P := fun t => t.rbit Reg.fairwayFence i = s.rbit Reg.fairwayFence i) (fun t _ _ _ h => (t.rbit_fence_fwCount _ _ _ i).trans h)
    (fun t _ _ _ _ _ h => (t.rbit_fence_fwEvent _ _ _ _ _ i).trans h) rfl p

/-- A packet without an error leaves no record on its way. -/
theorem State.onTheWay_clean (s : State) {p : FwPacket} (hc : p.corrected = []) (hh : p.headUe = false) (hp : p.poisoned = false) : s.onTheWay p = s := by
  simp [State.onTheWay, hc, hh, hp]

/-! ### Capture -/

/-- A capture only adds to the trace. -/
theorem State.capture_eq (s : State) (p : FwPacket) : ∃ tr n, s.capture p = { s with fw := { s.fw with trace := tr, tracePos := n } } := by
  unfold State.capture
  dsimp only
  split
  · split
    · exact ⟨_, _, rfl⟩
    · exact ⟨_, _, rfl⟩
  · exact ⟨_, _, rfl⟩

/-! ### Injection and arrival -/

/-- With no request waiting for response space, a retry does nothing. -/
theorem State.injectWaiting_of_none {s : State} (h : s.fw.waiting = []) : s.injectWaiting = s := by
  simp only [State.injectWaiting, h, List.foldl_nil]
  rw [← h]

/-- A destination that is not listed answers DECODE at the node (R695). -/
theorem State.inject_unlisted {s : State} {p : FwPacket} (hf : s.rbit Reg.fairwayFence p.src = false) (ht : (fwTargets p.src).contains p.dst = false) :
    s.inject p = (s.fwComplete p.src p.tid 1, none) := by
  simp only [State.inject, hf, ht, Bool.false_and, Bool.false_eq_true, if_false, Bool.not_false, if_true]

/-- A request with a free TID enters the mesh where its response has space. -/
theorem State.inject_free {s : State} {p : FwPacket} (hf : s.rbit Reg.fairwayFence p.src = false) (ht : (fwTargets p.src).contains p.dst = true)
    (hn : p.tid < fwTids p.src) (hfree : Store.find? s.fw.tids (256 * p.src + p.tid) = none) (hq : s.fw.quarantine.contains (p.src, p.tid) = false)
    (hsp : s.reserved p.src + FwPacket.reserve p ≤ fwBuffer p.src) {q : FwPacket}
    (hqq : q = { p with qos := s.fwQos p, epoch := s.epoch p.src, status := 0, allowNs := 0 }) :
    s.inject p = (({ s with fw := { s.fw with tids := Store.insert s.fw.tids (256 * p.src + p.tid) { req := q } } } : State).capture q, some q) := by
  subst hqq
  simp only [State.inject, hf, ht, hfree, hq, Bool.false_and, Bool.false_eq_true, if_false, Bool.not_true, Option.isSome_none, Bool.or_self,
    decide_eq_false (Nat.not_le_of_lt hn), ge_iff_le, gt_iff_lt, Nat.not_lt_of_le hsp]

/-- A request for whose response there is no space waits (R703). -/
theorem State.inject_full {s : State} {p : FwPacket} (hf : s.rbit Reg.fairwayFence p.src = false) (ht : (fwTargets p.src).contains p.dst = true)
    (hn : p.tid < fwTids p.src) (hfree : Store.find? s.fw.tids (256 * p.src + p.tid) = none) (hq : s.fw.quarantine.contains (p.src, p.tid) = false)
    (hsp : fwBuffer p.src < s.reserved p.src + FwPacket.reserve p) :
    s.inject p = ({ s with fw := { s.fw with waiting := s.fw.waiting ++ [p] } }, none) := by
  simp only [State.inject, hf, ht, hfree, hq, Bool.false_and, Bool.false_eq_true, if_false, Bool.not_true, Option.isSome_none, Bool.or_self,
    decide_eq_false (Nat.not_le_of_lt hn), ge_iff_le, gt_iff_lt, hsp, if_true]

/-- A request that its node does not inject travels nowhere. -/
theorem State.travel_of_inject_none {s t : State} {p : FwPacket} (hk : p.kind < 8) (h : s.inject p = (t, none)) (other : List PortUse) :
    s.travel [p] other = { t with fw := { t.fw with arrived := [] } } := by
  have hnil : arrivals [] = [] := by decide +kernel
  simp only [State.travel, List.foldl_cons, List.foldl_nil, if_neg (Nat.not_le_of_lt hk), h, hnil, List.map_nil]

/-- A request that travels alone is served at its endpoint. -/
theorem State.travel_of_inject {s t : State} {p q : FwPacket} (hk : p.kind < 8) (hkq : q.kind < 8) (h : s.inject p = (t, some q)) (other : List PortUse) :
    s.travel [p] other = ({ t with fw := { t.fw with arrived := (arrivals [q]).map fun (x : Nat × Nat × Nat) => (q.src, x.2) } } : State).serveRequest q other := by
  obtain ⟨a, b, hab⟩ := arrivals_single_place q
  simp only [State.travel, List.foldl_cons, List.foldl_nil, if_neg (Nat.not_le_of_lt hk), h, List.nil_append, hab, List.map_cons, List.map_nil,
    List.getElem?_cons_zero, Option.map_some, Option.getD_some, State.arrive1, if_neg (Nat.not_le_of_lt hkq)]

/-! ### Requests at their endpoint -/

/-- The response to a request that is not performed. -/
def refusalOf (p : FwPacket) (status : Nat) : FwPacket :=
  { dst := p.src, src := p.dst, kind := 9, qos := p.qos, tid := p.tid, epoch := p.epoch, status := status, bulk := p.bulk }

theorem State.responses_respond (s : State) (p : FwPacket) (status : Nat) :
    (s.respond p 9 status).fw.responses = s.fw.responses ++ [refusalOf p status] := rfl

section
variable (s : State) (p : FwPacket) (hh : p.headUe = false) (hr : p.reserved = false) (hk : p.kind = 1 ∨ p.kind = 2)
include hh hr hk

theorem State.serveRequest_of_whole (other : List PortUse) (t : State) (ht : t = s.onTheWay p) : s.serveRequest p other =
    if t.rbit Reg.fairwayFence (16 + p.dst) then (t.respond p 9 5).fwEvent 7 p.dst p.dst 5 p.tid
    else if p.poisoned then t.respond p 9 3
    else if p.bulk && p.crcBad then ((t.fwCount p.dst 1 true).fwEvent 3 p.dst p.dst 4 p.tid).respond p 9 4
    else s.serveRequest p other := by
  subst ht
  have hkk : (p.kind == 1 || p.kind == 2) = true := by simpa using hk
  unfold State.serveRequest
  dsimp only
  rw [hh, hr, hkk, if_neg Bool.false_ne_true, Bool.not_true, Bool.or_self, if_neg Bool.false_ne_true]
  split
  · rfl
  · split
    · rfl
    · split <;> rfl

/-- A fenced endpoint answers FENCED (R718). -/
theorem State.serveRequest_fenced (hf : s.rbit Reg.fairwayFence (16 + p.dst) = true) (other : List PortUse) :
    s.serveRequest p other = ((s.onTheWay p).respond p 9 5).fwEvent 7 p.dst p.dst 5 p.tid := by
  rw [s.serveRequest_of_whole p hh hr hk other _ rfl, State.rbit_fence_onTheWay, if_pos hf]

/-- A poisoned request answers ECC at its endpoint (R706). -/
theorem State.serveRequest_poisoned (hf : s.rbit Reg.fairwayFence (16 + p.dst) = false) (hp : p.poisoned = true) (other : List PortUse) :
    s.serveRequest p other = (s.onTheWay p).respond p 9 3 := by
  rw [s.serveRequest_of_whole p hh hr hk other _ rfl, State.rbit_fence_onTheWay, hf, if_neg Bool.false_ne_true, if_pos hp]

/-- A request with a wrong CRC answers CRC at its endpoint (R707). -/
theorem State.serveRequest_crcBad (hf : s.rbit Reg.fairwayFence (16 + p.dst) = false) (hp : p.poisoned = false) (hb : p.bulk = true)
    (hc : p.crcBad = true) (other : List PortUse) :
    s.serveRequest p other = (((s.onTheWay p).fwCount p.dst 1 true).fwEvent 3 p.dst p.dst 4 p.tid).respond p 9 4 := by
  rw [s.serveRequest_of_whole p hh hr hk other _ rfl, State.rbit_fence_onTheWay, hf, if_neg Bool.false_ne_true, hp, if_neg Bool.false_ne_true, hb, hc,
    Bool.and_self, if_pos rfl]
end

/-! ### Responses and timers -/

/-- A response without an error completes the transaction that it names. -/
theorem State.takeResponse_completes {s : State} {p : FwPacket} {x : FwTid} (hd : p.dst < 16) (hh : p.headUe = false) (hp : p.poisoned = false)
    (hc : p.crcBad = false) (hf : s.rbit Reg.fairwayFence p.dst = false) (hs : p.status = 0) (hk : p.kind ≠ 0xA) (hcor : p.corrected = [])
    (ho : s.outstanding p = some x) : s.takeResponse p = ((s.takeRsp p).capture p).fwComplete p.dst p.tid 0 p.data := by
  obtain ⟨tr, n, hcap⟩ := (s.takeRsp p).capture_eq p
  have hft : ((s.takeRsp p).capture p).rbit Reg.fairwayFence p.dst = false := by rw [hcap]; exact hf
  have hot : ((s.takeRsp p).capture p).outstanding p = some x := by rw [hcap]; exact ho
  unfold State.takeResponse
  rw [State.onTheWay_clean _ hcor hh hp]
  dsimp only
  rw [hot, hft, hh, hp, hc, hs]
  simp [Nat.not_le_of_lt hd, hk]

theorem State.reg_fairwayState_fwCount (s : State) (node word : Nat) (high : Bool) {a n : Nat} (h : a = Reg.fairwayState + 16 * n) :
    (s.fwCount node word high).reg a = s.reg a := by
  refine s.reg_fwCount_of_ne node word high ?_
  match word with
  | 0 => simp only [List.getD_cons_zero, Reg.fairwayCntA, Reg.fairwayState] at *; omega
  | 1 => simp only [List.getD_cons_succ, List.getD_cons_zero, Reg.fairwayCntB, Reg.fairwayState] at *; omega
  | 2 => simp only [List.getD_cons_succ, List.getD_cons_zero, Reg.fairwayCntC, Reg.fairwayState] at *; omega
  | _ + 3 => simp only [List.getD_cons_succ, List.getD_nil, Reg.fairwayCntA, Reg.fairwayState] at *; omega

theorem State.epoch_fwCount (s : State) (node word : Nat) (high : Bool) (n : Nat) : (s.fwCount node word high).epoch n = s.epoch n := by
  rw [State.epoch, State.fld, State.reg_fairwayState_fwCount s node word high rfl]
  rfl

theorem State.epoch_fwEvent (s : State) (b node dst status tid n : Nat) : (s.fwEvent b node dst status tid).epoch n = s.epoch n := by
  have hne : Reg.fairwayState + 16 * n ≠ Reg.fairwayLastErr ∧ Reg.fairwayState + 16 * n ≠ Reg.fairwayEvents := by
    simp only [Reg.fairwayState, Reg.fairwayLastErr, Reg.fairwayEvents]; omega
  rw [State.epoch, State.fld, State.fwEvent, State.reg_setReg_ne _ _ hne.1, State.reg_setRbit_ne _ _ _ hne.2]
  rfl

theorem State.epoch_nextEpoch (s : State) (n : Nat) : (s.nextEpoch n).epoch n = (s.epoch n + 1) % 16 := by
  rw [State.epoch, State.nextEpoch, State.fld_setFld_self _ _ _ _ _ (by decide) (by decide)]
  exact Nat.mod_eq_of_lt (Nat.mod_lt _ (by decide))

/-- The state in which a timeout leaves the Fairway, where no lease stands behind the endpoint. -/
def State.timedOut (s : State) (n tid dst : Nat) : State :=
  let t := ((s.fwComplete n tid 7).nextEpoch n).fwCount n 2 false
  { t with fw := { t.fw with quarantine := t.fw.quarantine ++ [(n, tid)] } }.fwEvent 4 n dst 7 tid

theorem State.fw_timedOut (s : State) (n tid dst : Nat) :
    (s.timedOut n tid dst).fw = { (s.fwComplete n tid 7).fw with quarantine := s.fw.quarantine ++ [(n, tid)] } := rfl

theorem State.epoch_timedOut (s : State) (n tid dst : Nat) : (s.timedOut n tid dst).epoch n = (s.epoch n + 1) % 16 := by
  rw [State.timedOut, State.epoch_fwEvent]
  exact (State.epoch_fwCount _ n 2 false n).trans (State.epoch_nextEpoch (s.fwComplete n tid 7) n)

theorem execFairwayTimeout_of_open {s : State} {n tid : Nat} {x : FwTid} (hx : Store.find? s.fw.tids (256 * n + tid) = some x)
    (hd : endpointDomain x.req.dst = none) (hw : s.fw.waiting = []) : execFairwayTimeout n tid s = .next (s.timedOut n tid x.req.dst) := by
  have hfix : (s.timedOut n tid x.req.dst).injectWaiting = s.timedOut n tid x.req.dst := State.injectWaiting_of_none hw
  rw [State.timedOut] at hfix
  simp only [execFairwayTimeout, hx, hd]
  exact congrArg Host.Outcome.next hfix

/-! ### The statement -/

section
variable (s : State) (p : FwPacket)

theorem fairwayRequest_unlisted (hf : s.rbit Reg.fairwayFence p.src = false) (hw : s.fw.waiting = []) (ht : (fwTargets p.src).contains p.dst = false)
    (hk : p.kind = 1 ∨ p.kind = 2) : ∃ t, exec (.fairwayRequest p [] []) s = .next t ∧
      t.fw.last = some { node := p.src, tid := p.tid, status := 1, data := [] } ∧ t.regs = s.regs := by
  have htr := State.travel_of_inject_none (by omega) (State.inject_unlisted hf ht) []
  refine ⟨_, congrArg Host.Outcome.next ((congrArg State.injectWaiting htr).trans (State.injectWaiting_of_none hw)), rfl, rfl⟩

theorem fairwayRequest_served (hf : s.rbit Reg.fairwayFence p.src = false) (ht : (fwTargets p.src).contains p.dst = true) (hn : p.tid < fwTids p.src)
    (hfree : Store.find? s.fw.tids (256 * p.src + p.tid) = none) (hq : s.fw.quarantine.contains (p.src, p.tid) = false)
    (hk : p.kind = 1 ∨ p.kind = 2) (hsp : s.reserved p.src + FwPacket.reserve p ≤ fwBuffer p.src) (q : FwPacket) (u : State)
    (hqq : q = { p with qos := s.fwQos p, epoch := s.epoch p.src, status := 0, allowNs := 0 })
    (hu : u = { s with fw := { s.fw with tids := Store.insert s.fw.tids (256 * p.src + p.tid) { req := q } } }.capture q) :
    exec (.fairwayRequest p [] []) s = .next
      ({ u with fw := { u.fw with arrived := (arrivals [q]).map fun (x : Nat × Nat × Nat) => (p.src, x.2) } }.serveRequest q []).injectWaiting := by
  have hkq : q.kind < 8 := by subst hqq; show p.kind < 8; omega
  have hsrc : q.src = p.src := by subst hqq; rfl
  have htr := State.travel_of_inject (by omega) hkq (State.inject_free hf ht hn hfree hq hsp hqq) []
  rw [hsrc, ← hu] at htr
  exact congrArg (fun t => Host.Outcome.next (State.injectWaiting t)) htr

theorem fairwayRequest_waits (hf : s.rbit Reg.fairwayFence p.src = false) (hw : s.fw.waiting = []) (ht : (fwTargets p.src).contains p.dst = true)
    (hn : p.tid < fwTids p.src) (hfree : Store.find? s.fw.tids (256 * p.src + p.tid) = none) (hq : s.fw.quarantine.contains (p.src, p.tid) = false)
    (hk : p.kind = 1) (hsp : fwBuffer p.src < s.reserved p.src + FwPacket.reserve p) :
    ∃ t, exec (.fairwayRequest p [] []) s = .next t ∧ t.fw.waiting = [p] ∧ t.fw.tids = s.fw.tids ∧ t.regs = s.regs := by
  have hwaits : ∀ t : State, t.fw.waiting = [] → t.fw.tids = s.fw.tids → t.fw.quarantine = s.fw.quarantine → t.regs = s.regs →
      t.travel [p] [] = { t with fw := { t.fw with waiting := [p], arrived := [] } } := fun t h1 h2 h3 h4 => by
    have hreg : t.rbit Reg.fairwayFence p.src = false := by rw [State.rbit, State.reg, h4]; exact hf
    have hin := State.inject_full (s := t) hreg ht hn (by rw [h2]; exact hfree) (by rw [h3]; exact hq) (by rw [State.reserved, h2]; exact hsp)
    rw [State.travel_of_inject_none (by omega) hin, h1]
    rfl
  have h1 := hwaits s hw rfl rfl rfl
  have h2 : (s.travel [p] []).injectWaiting = { s with fw := { s.fw with waiting := [p], arrived := [] } } := by
    rw [h1, State.injectWaiting]
    exact hwaits { s with fw := { s.fw with waiting := [], arrived := [] } } rfl rfl rfl rfl
  exact ⟨_, congrArg Host.Outcome.next h2, rfl, rfl, rfl⟩

theorem fairwayResponse_completes (x : FwTid) (hd : p.dst < 16) (hh : p.headUe = false) (hp : p.poisoned = false) (hc : p.crcBad = false)
    (hf : s.rbit Reg.fairwayFence p.dst = false) (hs : p.status = 0) (hk : p.kind ≠ 0xA) (hw : s.fw.waiting = []) (hcor : p.corrected = [])
    (ho : s.outstanding p = some x) : ∃ t, exec (.fairwayResponse p) s = .next t ∧
      t.fw.last = some { node := p.dst, tid := p.tid, status := 0, data := p.data } ∧ Store.find? t.fw.tids (256 * p.dst + p.tid) = none := by
  obtain ⟨tr, n, hcap⟩ := (s.takeRsp p).capture_eq p
  have hres := State.takeResponse_completes hd hh hp hc hf hs hk hcor ho
  rw [hcap] at hres
  exact ⟨_, congrArg Host.Outcome.next ((congrArg State.injectWaiting hres).trans (State.injectWaiting_of_none hw)), rfl, Store.find?_erase_self _ _⟩

theorem waking_extends (x : FwTid) (ho : s.outstanding p = some x) : ∃ t, exec (.waking p) s = .next t ∧
    Store.find? t.fw.tids (256 * p.dst + p.tid) = some { x with extNs := x.extNs + p.allowNs } ∧ t.regs = s.regs := by
  have ho' : (s.takeRsp p).outstanding p = some x := ho
  refine ⟨(s.takeRsp p).setTid p { x with extNs := x.extNs + p.allowNs }, ?_, Store.find?_insert_self _ _ _, rfl⟩
  show Host.Outcome.next ((s.takeRsp p).takeWaking p) = _
  rw [State.takeWaking, ho']

theorem wakeRetry_serves (x : FwTid) (ho : s.outstanding p = some x) (hr : 1 ≤ x.retries) :
    exec (.wakeRetry p) s = .next ((s.capture x.req).serveRequest x.req []) := by
  show execWakeRetry p s = _
  simp only [execWakeRetry, ho, if_neg (Nat.ne_of_gt hr)]
end

section
variable (s : State) (n tid : Nat)

theorem fairwayTimeout_completes (x : FwTid) (hx : Store.find? s.fw.tids (256 * n + tid) = some x) (hd : endpointDomain x.req.dst = none)
    (hw : s.fw.waiting = []) : ∃ t, exec (.fairwayTimeout n tid) s = .next t ∧
      t.fw.last = some { node := n, tid := tid, status := 7, data := [] } ∧ Store.find? t.fw.tids (256 * n + tid) = none ∧
      (n, tid) ∈ t.fw.quarantine ∧ t.epoch n = (s.epoch n + 1) % 16 ∧ t.rbit Reg.fairwayEvents 4 = true := by
  refine ⟨_, execFairwayTimeout_of_open hx hd hw, rfl, Store.find?_erase_self _ _, List.mem_append_right _ (List.mem_singleton.mpr rfl),
    State.epoch_timedOut s n tid _, ?_⟩
  rw [State.timedOut, State.fwEvent, State.rbit, State.reg_setReg_ne _ _ (by decide)]
  exact State.rbit_setRbit_self _ _ _ _ (by decide)

theorem tidQuarantineEnd_frees : ∃ t, exec (.tidQuarantineEnd n tid) s = .next t ∧ (n, tid) ∉ t.fw.quarantine ∧
    ∀ y, y ≠ (n, tid) → (y ∈ t.fw.quarantine ↔ y ∈ s.fw.quarantine) := by
  refine ⟨_, rfl, ?_, fun y hy => ?_⟩
  · simp
  · simp [hy]

theorem fairwayTraceRead_takes (who : Initiator) (h : List Word) (l : List (List Word)) (hr : s.Reaches who Reg.fairwayTraceData)
    (htr : s.fw.trace = h :: l) : ∃ t, exec (.fairwayTraceRead who) s = .next t ∧ t.bus.data = leBytes 4 (h.getD s.fw.tracePos 0).toNat ∧
      (3 ≤ s.fw.tracePos → t.fw.trace = l ∧ t.fw.tracePos = 0) ∧
      (s.fw.tracePos < 3 → t.fw.trace = h :: l ∧ t.fw.tracePos = s.fw.tracePos + 1) := by
  refine ⟨_, congrArg Host.Outcome.next (State.toBlock_reaches hr _), ?_⟩
  have htr' : (s.busAnswer who .ok).fw.trace = h :: l := htr
  simp only [State.traceRead, htr']
  refine ⟨rfl, fun hge => ?_, fun hlt => ?_⟩
  · rw [if_pos (show (s.busAnswer who .ok).fw.tracePos ≥ 3 from hge)]
    exact ⟨rfl, rfl⟩
  · rw [if_neg (show ¬ (s.busAnswer who .ok).fw.tracePos ≥ 3 from Nat.not_le_of_lt hlt)]
    exact ⟨rfl, rfl⟩
end

/-- Settles O36: a request alone arrives alone, a response completes the transaction that it names, and what a packet's way records never reaches
FAIRWAY_FENCE. -/
theorem fairwayCompletes : Obligations.FairwayCompletes := by
  refine ⟨fun s p hs hd => ⟨fun hf hw => ⟨fairwayRequest_unlisted s p hf hw, fun ht hn hfree hq hk hsp q u => fairwayRequest_served s p hf ht hn hfree hq hk hsp q u,
    fairwayRequest_waits s p hf hw⟩, arrivals_read hs hd, fun x hh hp hc hf hst hk hw hcor ho => fairwayResponse_completes s p x hd hh hp hc hf hst hk hw hcor ho,
    waking_extends s p, wakeRetry_serves s p⟩, fun s n tid _ _ => ⟨fairwayTimeout_completes s n tid, tidQuarantineEnd_frees s n tid,
    fun who h l => fairwayTraceRead_takes s who h l⟩, fun s p hh hr hk => ⟨fun hf => ?_, fun hf hp => ?_, fun hf hp hb hc => ?_⟩⟩
  · rw [s.serveRequest_fenced p hh hr hk hf []]
    exact ⟨_, refusalOf p 5, rfl, by rw [← s.fw_onTheWay p]; rfl, rfl, rfl, rfl, s.mem_onTheWay p, s.bus_onTheWay p⟩
  · rw [s.serveRequest_poisoned p hh hr hk hf hp []]
    exact ⟨_, refusalOf p 3, rfl, by rw [← s.fw_onTheWay p]; rfl, rfl, rfl, rfl, s.mem_onTheWay p, s.bus_onTheWay p⟩
  · rw [s.serveRequest_crcBad p hh hr hk hf hp hb hc []]
    exact ⟨_, refusalOf p 4, rfl, by rw [← s.fw_onTheWay p]; rfl, rfl, rfl, rfl, s.mem_onTheWay p, s.bus_onTheWay p⟩

end Sys2Proof.Machine
end

section
/-! SUPPORT. Micro-words: what their operations leave of the Pilot, the sum in an element, and the statement MicroWordsComplete (SPEC chapter 13). -/

namespace Sys2Proof.Machine

/-! ### What a micro-word's operations leave of the Pilot -/

/-- The Pilot of a state is another's but for its trap information. -/
def State.InfoApart (s t : State) : Prop := ∃ info, t.pilot = { s.pilot with info := info }

theorem State.InfoApart.refl (s : State) : s.InfoApart s := ⟨s.pilot.info, rfl⟩

theorem State.InfoApart.trans {s t u : State} (h : s.InfoApart t) (g : t.InfoApart u) : s.InfoApart u := by
  obtain ⟨i, hi⟩ := h
  obtain ⟨j, hj⟩ := g
  exact ⟨j, by rw [hj, hi]⟩

theorem State.infoApart_of_pilot {s t : State} (h : t.pilot = s.pilot) : s.InfoApart t := ⟨s.pilot.info, h⟩

theorem State.infoApart_requestTrap (s : State) (code : Nat) (info : Word) : s.InfoApart (s.requestTrap code info) := ⟨_, rfl⟩

theorem State.infoApart_noteCe (s : State) (key : Nat) : s.InfoApart (s.noteCe key) := by
  unfold State.noteCe
  dsimp only
  split
  · exact State.infoApart_of_pilot rfl
  · split
    · exact State.infoApart_of_pilot rfl
    · exact State.infoApart_of_pilot rfl

theorem State.infoApart_noteUe (s : State) (group addr : Nat) : s.InfoApart (s.noteUe group addr) := by
  unfold State.noteUe
  dsimp only
  refine State.InfoApart.trans (State.infoApart_of_pilot ?_) (State.infoApart_requestTrap _ _ _)
  split <;> rfl

theorem State.infoApart_eccAccess (s : State) (outs : List (Nat × ElemOut)) : s.InfoApart (s.eccAccess outs) := by
  refine List.foldlRecOn (motive := fun t : State => s.InfoApart t) _ _ (State.InfoApart.refl s) fun t ht e _ => ht.trans ?_
  have hnote : t.InfoApart (if e.2 = 1 then t.noteCe e.1 else t.noteUe (e.1 / 8192) (e.1 % 8192)) := by
    split
    · exact t.infoApart_noteCe _
    · exact t.infoApart_noteUe _ _
  dsimp only
  split
  · split
    · exact State.InfoApart.trans hnote (State.infoApart_of_pilot rfl)
    · exact State.infoApart_of_pilot rfl
  · split
    · exact hnote
    · exact State.InfoApart.refl t

theorem State.infoApart_elemStep (s : State) (outs : List (Nat × ElemOut)) : s.InfoApart (s.elemStep outs) := s.infoApart_eccAccess outs

theorem State.infoApart_microElems (s : State) (w : BitVec 112) : s.InfoApart (s.microElems w) := by
  unfold State.microElems
  extract_lets u p msel act reg pa pb src idx mode ab useA dz step outs t0 t1 t2 bad
  have h0 : s.InfoApart t0 := State.InfoApart.trans (State.infoApart_of_pilot rfl) (u.infoApart_elemStep outs)
  have h1 : s.InfoApart t1 := by
    simp only [t1]
    split
    · exact h0.trans (State.infoApart_elemStep _ _)
    · exact h0
  have h2 : s.InfoApart t2 := by
    simp only [t2]
    split
    · exact h1
    · exact h1
  split
  · exact h2.trans (State.infoApart_requestTrap _ _ _)
  · exact h2

/-- The work in hand: the micro-address and the save slots. -/
def Pilot.work (p : Pilot) : Nat × List (List Word) := (p.upc, p.slots)

theorem State.InfoApart.work {s t : State} (h : s.InfoApart t) : t.pilot.work = s.pilot.work := by
  obtain ⟨i, hi⟩ := h
  rw [hi]
  rfl

theorem State.work_plainCycles (s : State) (n : Nat) : (s.plainCycles n).pilot.work = s.pilot.work := by
  unfold State.plainCycles
  dsimp only
  split <;> rfl

theorem State.work_sop (s : State) (op sd ss imm : Nat) : (s.sop op sd ss imm).pilot.work = s.pilot.work := by
  unfold State.sop
  dsimp only
  split
  · rfl
  · rfl
  · rfl
  · split <;> rfl
  · split <;> rfl
  · rfl
  · rfl
  · rfl

theorem State.work_note (s : State) (w : BitVec 112) : (s.note w).pilot.work = s.pilot.work := by
  unfold State.note
  split
  · dsimp only
    split <;> rfl
  · rfl
  · rfl

theorem Pilot.work_lcOp (p : Pilot) (w : BitVec 112) : (p.lcOp w).work = p.work := by
  unfold Pilot.lcOp
  dsimp only
  split <;> rfl

theorem State.work_tack (s : State) : s.tack.pilot.work = s.pilot.work := rfl

/-- A micro-word's operations leave the work in hand. -/
theorem State.work_microBody (s : State) (w : BitVec 112) (act : Bool) : (s.microBody w act).pilot.work = s.pilot.work := by
  unfold State.microBody
  extract_lets t0 t1 t2 t3 t4
  have h0 : t0.pilot.work = s.pilot.work := by
    simp only [t0]
    split
    · exact (s.infoApart_microElems w).work
    · rfl
  have h1 : t1.pilot.work = s.pilot.work := (State.work_note _ w).trans ((State.work_sop _ _ _ _ _).trans h0)
  have h2 : t2.pilot.work = s.pilot.work := (Pilot.work_lcOp _ w).trans h1
  have h3 : t3.pilot.work = s.pilot.work := by
    simp only [t3]
    split
    · exact h2
    · exact h2
  exact (State.work_plainCycles _ _).trans h3

theorem Pilot.upc_of_work {p q : Pilot} (h : p.work = q.work) : p.upc = q.upc := congrArg Prod.fst h

theorem Pilot.slots_of_work {p q : Pilot} (h : p.work = q.work) : p.slots = q.slots := congrArg Prod.snd h

/-! ### The next address -/

/-- Going on at an address changes the micro-address, or halts. -/
theorem State.goto_pilot (s : State) (a : Nat) : ∃ st upc, (s.goto a).pilot = { s.pilot with st := st, upc := upc } := by
  unfold State.goto
  split
  · exact ⟨_, _, rfl⟩
  · exact ⟨_, _, rfl⟩
  · exact ⟨_, _, rfl⟩

/-- Patch RAM is never matched (R511). -/
theorem State.goto_patch (s : State) {a : Nat} (h : 0x4000 ≤ a) (h2 : a < 32768) : (s.goto a).pilot.upc = a := by
  have hm : s.matches a = [] := if_pos h
  rw [State.goto, hm]
  exact Nat.mod_eq_of_lt h2

theorem State.plain_goto (s : State) (a : Nat) : (s.goto a).plain = s.plain := by
  unfold State.goto
  split <;> rfl

/-- Plain cycles move DL_LEFT, the condition latch and the trap information on. -/
theorem State.plainCycles_pilot (s : State) (n : Nat) :
    ∃ dl hist info, (s.plainCycles n).pilot = { s.pilot with dlLeft := dl, history := hist, info := info } := by
  unfold State.plainCycles
  dsimp only
  split
  · exact ⟨_, _, _, rfl⟩
  · exact ⟨_, _, _, rfl⟩

theorem State.plain_plainCycles (s : State) (n : Nat) : (s.plainCycles n).plain = s.plain := by
  unfold State.plainCycles
  dsimp only
  split <;> rfl

theorem State.slots_lc_gotoCycles (s : State) (a n : Nat) :
    ((s.goto a).plainCycles n).pilot.slots = s.pilot.slots ∧ ((s.goto a).plainCycles n).pilot.lc = s.pilot.lc := by
  obtain ⟨dl, hist, info, hp⟩ := (s.goto a).plainCycles_pilot n
  obtain ⟨st, upc, hg⟩ := s.goto_pilot a
  rw [hp, hg]
  exact ⟨rfl, rfl⟩

theorem State.tret_restores {s : State} {x : List Word} (hx : s.pilot.slots.getLast? = some x) : s.tret.pilot.slots = s.pilot.slots.dropLast ∧
    s.tret.pilot.lc = [bits (x.getD 1 0) 15 0, bits (x.getD 1 0) 31 16, bits (x.getD 2 0) 15 0, bits (x.getD 2 0) 31 16] := by
  unfold State.tret
  rw [hx]
  exact State.slots_lc_gotoCycles _ _ _

/-- A micro-word that runs within the mask stack. -/
theorem State.micro_runs {s : State} {w : BitVec 112} {d : Nat} (hr : s.pilotRuns = true) (hd : maskDepth (mbits w 73 71) s.pilot.depth = some d)
    (next : State → State) : s.micro w next =
      next { s.microBody w true with pilot := { (s.microBody w true).pilot with depth := d, inWait := false } } := by
  simp only [State.micro, hr, hd, Bool.not_true, Bool.false_eq_true, if_false]

theorem State.micro_overflows {s : State} {w : BitVec 112} (hr : s.pilotRuns = true) (hd : maskDepth (mbits w 73 71) s.pilot.depth = none)
    (next : State → State) : s.micro w next = s.pilotOverflow 2 := by
  simp only [State.micro, hr, hd, Bool.not_true, Bool.false_eq_true, if_false]

/-! ### Sequencing -/

section
variable {s : State} {w : BitVec 112} {d : Nat} (hr : s.pilotRuns = true) (hd : maskDepth (mbits w 73 71) s.pilot.depth = some d)
include hr hd

theorem microDispatch_takes {m : MacroInstr} {r : List MacroInstr} (hq : s.pilot.queue = m :: r) : ∃ u, exec (.microDispatch w) s = .next u ∧
    u.pilot.queue = r ∧ u.pilot.opcode = macroField m 7 0 ∧ u.pilot.width = macroField m 13 8 + 1 ∧ u.pilot.dst = macroField m 26 14 ∧
    u.pilot.src1 = macroField m 39 27 ∧ u.pilot.src2 = macroField m 52 40 ∧ u.pilot.mode = macroField m 63 53 ∧ u.pilot.depth = 0 := by
  have he : exec (.microDispatch w) s = .next (s.micro w fun t =>
      ({ t with pilot := { t.pilot with queue := r } }.dispatch m).goto (16 * macroField m 7 0)) := by
    show execMicroDispatch w s = _
    simp only [execMicroDispatch, hq]
  rw [State.micro_runs hr hd] at he
  refine ⟨_, he, ?_⟩
  obtain ⟨st, upc, hg⟩ := State.goto_pilot (({ s.microBody w true with pilot :=
    { (s.microBody w true).pilot with depth := d, inWait := false, queue := r } } : State).dispatch m) (16 * macroField m 7 0)
  rw [hg]
  exact ⟨rfl, rfl, rfl, rfl, rfl, rfl, rfl, rfl⟩

theorem execMicroWait_runs : ∃ t : State, t.pilot.upc = s.pilot.upc ∧ execMicroWait w s = .next
    (if s.cond (mbits w 25 21) % 2 = 0 then { t with pilot := { t.pilot with inWait := true } }
      else { t with pilot := { t.pilot with inWait := false } }.goto (mbits w 14 0)) := by
  have hupc : (s.microBody w (!s.pilot.inWait)).pilot.upc = s.pilot.upc := Pilot.upc_of_work (s.work_microBody w _)
  simp only [execMicroWait, hr, hd, Bool.not_true, Bool.false_eq_true, if_false]
  refine ⟨_, ?_, rfl⟩
  split
  · exact hupc
  · exact hupc

theorem microWait_stays (hc : s.cond (mbits w 25 21) % 2 = 0) :
    ∃ u, exec (.microWait w) s = .next u ∧ u.pilot.inWait = true ∧ u.pilot.upc = s.pilot.upc := by
  obtain ⟨t, ht, he⟩ := execMicroWait_runs hr hd
  rw [if_pos hc] at he
  exact ⟨_, he, rfl, ht⟩

theorem microWait_ends (hc : s.cond (mbits w 25 21) % 2 = 1) : ∃ u, exec (.microWait w) s = .next u ∧ u.pilot.inWait = false := by
  obtain ⟨t, _, he⟩ := execMicroWait_runs hr hd
  rw [if_neg (by omega)] at he
  obtain ⟨st, upc, hg⟩ := State.goto_pilot ({ t with pilot := { t.pilot with inWait := false } } : State) (mbits w 14 0)
  exact ⟨_, he, by rw [hg]⟩

theorem microTret_restores {x : List Word} (hx : s.pilot.slots.getLast? = some x) : ∃ u, exec (.microTret w) s = .next u ∧
    u.pilot.slots = s.pilot.slots.dropLast ∧
    u.pilot.lc = [bits (x.getD 1 0) 15 0, bits (x.getD 1 0) 31 16, bits (x.getD 2 0) 15 0, bits (x.getD 2 0) 31 16] := by
  have hs : (s.microBody w true).pilot.slots = s.pilot.slots := Pilot.slots_of_work (s.work_microBody w true)
  refine ⟨_, congrArg Host.Outcome.next (State.micro_runs hr hd _), ?_⟩
  obtain ⟨hsl, hlc⟩ := State.tret_restores (s := { s.microBody w true with pilot := { (s.microBody w true).pilot with depth := d, inWait := false } })
    (by rw [← hx, ← hs])
  exact ⟨hsl.trans (congrArg List.dropLast hs), hlc⟩

/-- After its operations a micro-word goes on as it says. -/
theorem microWord_sequencing {b t : State} (hb : b = s.microBody w true) (ht : t = { b with pilot := { b.pilot with depth := d, inWait := false } }) :
    exec (.microJump w) s = .next (t.goto (s.target w)) ∧
    (t.pilot.calls.length < 8 →
      exec (.microCall w) s = .next ({ t with pilot := { t.pilot with calls := (s.pilot.upc + 1) :: t.pilot.calls } }.goto (s.target w))) ∧
    (∀ a r, t.pilot.calls = a :: r → exec (.microReturn w) s = .next ({ t with pilot := { t.pilot with calls := r } }.goto a)) ∧
    (t.pilot.calls = [] → exec (.microReturn w) s = .next (t.pilotOverflow 1)) ∧
    (∀ i, i = mbits w 27 26 →
      (s.pilot.lc.getD i 0 ≠ 0 → exec (.microLoop w) s = .next
        ({ t with pilot := { t.pilot with lc := t.pilot.lc.set i (s.pilot.lc.getD i 0 - 1) } }.goto (s.target w))) ∧
      (s.pilot.lc.getD i 0 = 0 → exec (.microLoop w) s = .next (t.goto (s.pilot.upc + 1)))) := by
  subst hb
  have hnext : ∀ next : State → State, (Host.Outcome.next (s.micro w next) : Out) = .next (next t) := fun next => by rw [State.micro_runs hr hd, ht]
  refine ⟨hnext _, fun hl => (hnext _).trans ?_, fun a r hc => (hnext _).trans ?_, fun hc => (hnext _).trans ?_, fun i hi => ⟨fun hn => ?_, fun hn => ?_⟩⟩
  · rw [if_neg (Nat.not_le_of_lt hl)]
  · simp only [hc]
  · simp only [hc]
  · subst hi
    exact (hnext _).trans (by rw [if_pos hn])
  · subst hi
    exact (hnext _).trans (by rw [if_neg (not_not_intro hn)])
end

/-! ### A sum in an element (Table PLT-2) -/

theorem Plain.left_settle (p : Plain) : p.settle.left = none := by
  unfold Plain.settle
  split
  · assumption
  · rfl

theorem Plain.foldl_setElem_keeps {α : Type} (f : Plain → α) (hf : ∀ p n e, f (Plain.setElem p n e) = f p) (l : List Nat) (g : Plain → Nat → Elem) (p : Plain) :
    f (l.foldl (fun q n => q.setElem n (g q n)) p) = f p :=
  List.foldlRecOn (motive := fun q => f q = f p) _ _ rfl fun q hq n _ => (hf q n _).trans hq

theorem Plain.mem_settle (p : Plain) : p.settle.mem = p.mem := by
  unfold Plain.settle
  split
  · rfl
  · exact Plain.foldl_setElem_keeps Plain.mem (fun _ _ _ => rfl) _ _ _

theorem Plain.power_settle (p : Plain) : p.settle.power = p.power := by
  unfold Plain.settle
  split
  · rfl
  · exact Plain.foldl_setElem_keeps Plain.power (fun _ _ _ => rfl) _ _ _

theorem Plain.onElems_congr {p q : Plain} (h : p.power = q.power) : p.onElems = q.onElems := by
  unfold Plain.onElems
  rw [show p.on = q.on from funext fun f => by rw [Plain.on, Plain.on, h]]

/-- A step that reads and writes no plane sets the registers of its elements. -/
theorem Plain.elems_foldl_steps (l : List Nat) (g : Nat → Elem) (p : Plain) : (l.map fun n => (n, ({ elem := g n } : ElemOut))).foldl
      (fun q o => o.2.writes.foldl (fun q w => q.putBits o.1 w.1 w.2.1 w.2.2) (q.setElem o.1 o.2.elem)) p =
    l.foldl (fun q n => q.setElem n (g n)) p := by
  rw [List.foldl_map]
  rfl

theorem Plain.get_foldl_setElem (l : List Nat) (g : Nat → Elem) (p : Plain) {n : Nat} (h : n ∈ l) :
    Store.get (l.foldl (fun q n => q.setElem n (g n)) p).elems n {} = g n := by
  induction l using list_snoc_induction with
  | nil => cases h
  | append_singleton l k ih =>
    rw [List.foldl_append, List.foldl_cons, List.foldl_nil]
    by_cases hk : n = k
    · subst hk
      exact Store.get_set_self _ _ _ _
    · refine (Store.get_set_ne _ _ _ _ hk).trans (ih ?_)
      rcases List.mem_append.mp h with hl | hl
      · exact hl
      · exact absurd (List.mem_singleton.mp hl) hk

/-- An access that names no plane meets no group row in error. -/
theorem State.eccAccess_none (s : State) (l : List Nat) (g : Nat → Elem) : s.eccAccess (l.map fun n => (n, ({ elem := g n } : ElemOut))) = s := by
  refine List.foldlRecOn (motive := fun t : State => t = s) _ _ rfl fun t ht e _ => ?_
  have hread : ∀ f : Nat × ElemOut → Bool, (((l.map fun n => (n, ({ elem := g n } : ElemOut))).filter f).any fun o =>
      s.plain.covers o.2.reads (e.1 % 8192)) = false := fun f => by
    rw [List.any_eq_false]
    intro o ho
    obtain ⟨n, _, rfl⟩ := List.mem_map.mp (List.mem_filter.mp ho).1
    exact Bool.false_ne_true
  have hwrite : ∀ f : Nat × ElemOut → Bool, (((l.map fun n => (n, ({ elem := g n } : ElemOut))).filter f).filter fun o =>
      s.plain.covers (o.2.writes.map fun w => (w.1, w.2.1)) (e.1 % 8192)) = [] := fun f => by
    rw [List.filter_eq_nil_iff]
    intro o ho
    obtain ⟨n, _, rfl⟩ := List.mem_map.mp (List.mem_filter.mp ho).1
    exact Bool.false_ne_true
  subst ht
  dsimp only
  rw [hread, hwrite]
  simp

/-- Registers set one by one are the same Plain but for its registers. -/
theorem Plain.foldl_setElem_eq (l : List Nat) (g : Nat → Elem) (p : Plain) :
    ∃ el, l.foldl (fun q n => q.setElem n (g n)) p = { p with elems := el } :=
  List.foldlRecOn (motive := fun q : Plain => ∃ el, q = { p with elems := el }) _ _ ⟨p.elems, rfl⟩ fun q hq n _ => by
    obtain ⟨el, rfl⟩ := hq
    exact ⟨_, rfl⟩

theorem State.elemStep_regs (s : State) (l : List Nat) (g : Nat → Elem) : s.elemStep (l.map fun n => (n, ({ elem := g n } : ElemOut))) =
    { s with plain := l.foldl (fun q n => q.setElem n (g n)) s.plain } := by
  obtain ⟨el, hel⟩ := Plain.foldl_setElem_eq l g s.plain
  rw [State.elemStep, State.eccAccess_none, Plain.elems_foldl_steps, hel]

/-- What SUM and MAJ leave in an element. -/
def Elem.summed (e : Elem) : Elem := { e with x := (e.x != e.y) != e.c, c := maj e.x e.y e.c }

/-- The Plain with the sum in every element of every ON field. -/
def Plain.summed (p : Plain) : Plain := p.onElems.foldl (fun q n => q.setElem n (p.elem n).summed) p

theorem Elem.summed_adds (e : Elem) : e.summed.x.toNat + 2 * e.summed.c.toNat = e.x.toNat + e.y.toNat + e.c.toNat := by
  obtain ⟨x, y, c, m, stack, f, t, nb, ix, dz⟩ := e
  cases x <;> cases y <;> cases c <;> rfl

section
variable {s : State} {w : BitVec 112} (ha : mbits w 32 30 = 0) (hb : mbits w 36 35 = 0) (hsrc : mbits w 41 39 = 0) (hx : mbits w 53 50 = 6)
  (hc : mbits w 56 54 = 1) (hf : mbits w 59 57 = 0) (ht : mbits w 61 60 = 0) (hnb : mbits w 63 62 = 0) (hm : mbits w 70 69 = 0)
  (hmask : mbits w 73 71 = 0) (hdz : mbits w 75 74 = 0)
include ha hb hsrc hx hc hf ht hnb hm hmask hdz

theorem State.microElems_sum : s.microElems w = { s with plain := s.plain.settle.summed } := by
  unfold State.microElems
  extract_lets u p msel act reg pa pb src idx mode ab useA dz step outs t0 t1 t2 bad
  have hpa : pa = 0 := ha
  have hpb : pb = 0 := hb
  have hsrc' : src = 0 := hsrc
  have hdz' : dz = 0 := hdz
  have huse : useA = false := by simp only [useA, hpa]; decide
  have hact : act = s.plain.settle.onElems := by
    have hmsel : msel = 0 := hm
    simp only [act, hmsel, p, u, Plain.active]
    simp
  have hstep : step = fun n => (n, ({ elem := (s.plain.settle.elem n).summed } : ElemOut)) := by
    funext n
    simp only [step, huse, hpb, hsrc', hdz', hx, hc, hf, ht, hnb]
    rfl
  have ht0 : t0 = { s with plain := s.plain.settle.summed } := by
    simp only [t0, outs, hact, hstep]
    exact State.elemStep_regs u _ _
  have ht2 : t2 = t0 := by
    simp only [t2, t1, hpa, hmask]
    rfl
  rw [if_neg (show ¬ (mbits w 75 74 = 1 && bad != 0) = true by rw [hdz]; simp), ht2, ht0]
end

theorem State.plain_sop (s : State) (op sd ss imm : Nat) : (s.sop op sd ss imm).plain = s.plain := by
  unfold State.sop
  dsimp only
  split
  · rfl
  · rfl
  · rfl
  · split <;> rfl
  · split <;> rfl
  · rfl
  · rfl
  · rfl

theorem State.plain_note (s : State) (w : BitVec 112) : (s.note w).plain = s.plain := by
  unfold State.note
  split
  · dsimp only
    split <;> rfl
  · rfl
  · rfl

/-- Of a micro-word only its element operations touch the Plain. -/
theorem State.plain_microBody (s : State) (w : BitVec 112) : (s.microBody w true).plain = (s.microElems w).plain := by
  unfold State.microBody
  extract_lets t0 t1 t2 t3 t4
  have h1 : t1.plain = (s.microElems w).plain := (State.plain_note _ w).trans (State.plain_sop _ _ _ _ _)
  have h3 : t3.plain = (s.microElems w).plain := by
    simp only [t3]
    split
    · exact h1
    · exact h1
  exact (State.plain_plainCycles _ _).trans h3

theorem Plain.elem_of_settled {p : Plain} (h : p.left = none) (n : Nat) : p.elem n = Store.get p.elems n {} := by
  simp only [Plain.elem, h]

theorem Plain.elem_summed {p : Plain} (hl : p.left = none) {n : Nat} (hn : n ∈ p.onElems) : p.summed.elem n = (p.elem n).summed := by
  have hl' : p.summed.left = none := (Plain.foldl_setElem_keeps Plain.left (fun _ _ _ => rfl) _ (fun _ n => (p.elem n).summed) p).trans hl
  rw [Plain.elem_of_settled hl']
  exact Plain.get_foldl_setElem _ _ _ hn

theorem Plain.mem_summed (p : Plain) : p.summed.mem = p.mem := Plain.foldl_setElem_keeps Plain.mem (fun _ _ _ => rfl) _ (fun _ n => (p.elem n).summed) p

/-- Settles O37: a micro-word's operations leave the micro-address and the save slots, and the sum acts on each ON element's own registers. -/
theorem microWordsComplete : Obligations.MicroWordsComplete := by
  refine ⟨fun s w hr => ⟨fun hd => congrArg Host.Outcome.next (State.micro_overflows hr hd _), fun d b t hd hb ht => ?_, fun a ha hlt => s.goto_patch ha hlt⟩,
    fun s w n hr ha hb hsrc hx hc hf ht hnb hm hmask hdz hn => ?_⟩
  · obtain ⟨hjump, hcall, hret, hover, hloop⟩ := microWord_sequencing hr hd hb ht
    refine ⟨hjump, hcall, hret, hover, hloop, fun m r hq => microDispatch_takes hr hd hq, microWait_stays hr hd, microWait_ends hr hd, ?_,
      fun x hx => microTret_restores hr hd hx⟩
    subst ht hb
    exact ⟨_, congrArg Host.Outcome.next (State.micro_runs hr hd _), rfl, rfl⟩
  · have hd : maskDepth (mbits w 73 71) s.pilot.depth = some s.pilot.depth := by rw [hmask]; rfl
    have hon : n ∈ s.plain.settle.onElems := by rwa [Plain.onElems_congr s.plain.power_settle]
    have hplain : (s.microBody w true).plain = s.plain.settle.summed := by
      rw [State.plain_microBody, State.microElems_sum ha hb hsrc hx hc hf ht hnb hm hmask hdz]
    obtain ⟨t, he, htp⟩ : ∃ t, exec (.microJump w) s = .next t ∧ t.plain = s.plain.settle.summed :=
      ⟨_, congrArg Host.Outcome.next (State.micro_runs hr hd _), (State.plain_goto _ _).trans hplain⟩
    refine ⟨t, s.plain.settle.elem n, _, he, rfl, rfl, ?_⟩
    rw [htp, Plain.elem_summed s.plain.left_settle hon]
    exact ⟨Elem.summed_adds _, rfl, (Plain.mem_summed _).trans s.plain.mem_settle⟩

end Sys2Proof.Machine
end

section
/-! SUPPORT. A micro-trap that comes while the handler of HOST_BREAK runs in a patch that has since been disabled returns to HALTED_BREAK (R529), not to
the state that it interrupted, which refutes the statement HarbourHandlerReturnsOrAbandons: it has STATE restored in every case. -/

namespace Sys2Proof.Machine

/-- The Pilot in the handler of HOST_BREAK, with ECC_UE requested and no match register enabled. -/
def breakHandler : State :=
  ({ pilot := { st := .trap, slots := [[BitVec.ofNat 32 (32768 * 6)]] } } : State).setReg Reg.pilotTrapPend 8

/-- The trap's return leaves the Pilot halted. -/
theorem execMicroTrap_breakHandler : ∃ t, execMicroTrap breakHandler = .next t ∧ t.pilot.st = .haltedBreak :=
  ⟨_, rfl, by decide +kernel⟩

/-- Refutes O38: STATE is TRAP before the micro-trap and HALTED_BREAK after it. -/
theorem not_harbourHandlerReturnsOrAbandons : ¬ Obligations.HarbourHandlerReturnsOrAbandons := by
  intro h
  obtain ⟨u, hu, -, -, -, -, -, -, -, hst, -⟩ := h.1 breakHandler 3 (by decide +kernel) (by decide +kernel) (by decide +kernel) (Or.inl rfl)
    (by decide +kernel) (by decide +kernel) (by decide +kernel) (by decide +kernel) (by decide +kernel) (fun _ => rfl) (by decide +kernel)
    (by decide +kernel) (by decide +kernel) (by decide +kernel) (by decide +kernel) (by decide +kernel) (by decide +kernel)
  obtain ⟨t, ht, hbreak⟩ := execMicroTrap_breakHandler
  rw [← Host.Outcome.next.inj (ht.symm.trans hu), hbreak] at hst
  exact absurd hst (by decide +kernel)

end Sys2Proof.Machine
end

section
/-! SUPPORT. The Pilot's control commands and the statement PilotCommandsComplete (SPEC chapter 13). -/

namespace Sys2Proof.Machine

/-! ### Micro-trap requests (R518) -/

theorem State.rbit_requestTrap_self (s : State) (code : Nat) (info : Word) (h : code < 32) : (s.requestTrap code info).rbit Reg.pilotTrapPend code = true := by
  have hbit : bit (BitVec.ofNat 32 (2 ^ code)) code = true := by
    rw [bit, BitVec.getLsbD_ofNat, Nat.testBit_two_pow_self, decide_eq_true h]
    rfl
  show (s.orReg Reg.pilotTrapPend (BitVec.ofNat 32 (2 ^ code))).rbit Reg.pilotTrapPend code = true
  rw [State.rbit_orReg, hbit, Bool.or_true]

theorem State.st_requestTrap (s : State) (code : Nat) (info : Word) : (s.requestTrap code info).pilot.st = s.pilot.st := rfl

/-! ### The commands -/

section
variable (s : State)

theorem sagwarnRequest_asks (hw : s.warning = true) (hh : s.boot.held = false) (ha : s.sagAsked = false) : ∃ t, exec .sagwarnRequest s = .next t ∧
    t.rbit Reg.pilotTrapPend 0 = true ∧ t.pilot.st = s.pilot.st ∧ t.sagAsked = true ∧
    t.pilot.sagFor = (if s.wc.running = true ∧ s.wc.stopPending = false ∧ s.wc.ended = false then some s.wc.cycle else none) := by
  have hgo : ¬ (!s.warning || s.sagAsked || s.boot.held) = true := by rw [hw, ha, hh]; decide
  refine ⟨_, congrArg Host.Outcome.next (if_neg hgo), s.rbit_requestTrap_self 0 0 (by decide), rfl, rfl, ?_⟩
  show (if (s.wc.running && !s.wc.stopPending && !s.wc.ended) = true then some s.wc.cycle else none) = _
  simp only [Bool.and_eq_true, Bool.not_eq_true', and_assoc]

theorem sagwarnRequest_done (h : s.warning = false ∨ s.sagAsked = true) : exec .sagwarnRequest s = .next s := by
  refine congrArg Host.Outcome.next (if_pos ?_)
  rcases h with h | h
  · rw [h]
    rfl
  · rw [h, Bool.or_true, Bool.true_or]

theorem cycleDeadline_asks (hu : s.pilot.unloadDone = false) (hd : s.fld Reg.pilotDeadline 17 0 ≠ 0) : ∃ t, exec .cycleDeadline s = .next t ∧
    t.rbit Reg.pilotTrapPend 1 = true ∧ t.pilot.deadlinePassed = true ∧ t.pilot.ackPending = true ∧ t.pilot.dlLeft = 0 := by
  have hgo : ¬ (s.pilot.unloadDone || decide (s.fld Reg.pilotDeadline 17 0 = 0)) = true := by
    rw [hu, decide_eq_false hd]
    decide
  have he : exec .cycleDeadline s = .next { s.requestTrap 1 0 with pilot :=
      { (s.requestTrap 1 0).pilot with deadlinePassed := true, ackPending := true, dlLeft := 0 } } := by
    show execCycleDeadline s = _
    unfold execCycleDeadline
    rw [if_neg (by simpa using hgo)]
  exact ⟨_, he, s.rbit_requestTrap_self 1 0 (by decide), rfl, rfl, rfl⟩

theorem ackTimeout_resets (h : s.pilot.ackPending = true) : exec .ackTimeout s = .next
    ((s.setRbit Reg.pilotFault 3 true).faultB 0x024 4 0x02 (BitVec.ofNat 32 (s.pilot.upc % 32768))).arrReset :=
  congrArg Host.Outcome.next (if_neg (by rw [h]; decide))

theorem pilotMarkArrival_loads (h : s.arrUp = true) : ∃ t, exec .pilotMarkArrival s = .next t ∧ t.pilot.mark = true ∧ t.pilot.waitMark = false ∧
    t.pilot.dlLeft = s.fld Reg.pilotDeadline 17 0 * s.arrMhz ∧ t.pilot.deadlinePassed = false :=
  ⟨_, congrArg Host.Outcome.next (if_neg (by rw [h]; decide)), rfl, rfl, rfl, rfl⟩

theorem pilotStart_runs (hi : s.pilot.st = .idle) (h : s.arrUp = true) : ∃ t, exec .pilotStart s = .next t ∧
    t.pilot.mpc = s.fld Reg.pilotProgBase 17 0 / 8 * 8 ∧ t.pilot.queue = [] ∧ t.pilot.st = (if s.inWindow then .foreground else .ebb) :=
  ⟨_, congrArg Host.Outcome.next (if_neg (by simp [hi, h])), rfl, rfl, rfl⟩

/-- The word that the write of DATA3 stores in patch RAM. -/
def State.pramWord (v : Word) : BitVec 112 :=
  BitVec.ofNat 112 ((s.reg Reg.pilotPramData).toNat + 2 ^ 32 * (s.reg (Reg.pilotPramData + 4)).toNat + 2 ^ 64 * (s.reg (Reg.pilotPramData + 8)).toNat +
    2 ^ 96 * (v.toNat % 65536))

/-- Patch RAM after the write of DATA3. -/
def State.pramStored (v : Word) : Store (BitVec 112) := Store.set s.pilot.pram (s.fld Reg.pilotPramAddr 8 0) (s.pramWord v) 0

theorem pilotPramWrite_stores (v : Word) (hi : s.pilot.st = .idle) (hm : ∀ i : Nat, i < 32 → s.rbit (Reg.pilotMatch + 4 * i) 31 = false) :
    ∃ t, exec (.pilotPramWrite v) s = .next t ∧
      Store.get t.pilot.pram (s.fld Reg.pilotPramAddr 8 0) 0 = BitVec.ofNat 112 ((s.reg Reg.pilotPramData).toNat +
        2 ^ 32 * (s.reg (Reg.pilotPramData + 4)).toNat + 2 ^ 64 * (s.reg (Reg.pilotPramData + 8)).toNat + 2 ^ 96 * (v.toNat % 65536)) ∧
      t.fld Reg.pilotPramAddr 8 0 = (s.fld Reg.pilotPramAddr 8 0 + 1) % 512 := by
  obtain ⟨u, hu⟩ : ∃ u, u = s.setReg (Reg.pilotPramData + 12) (v &&& 0xFFFF) := ⟨_, rfl⟩
  have hreg : ∀ a, a ≠ Reg.pilotPramData + 12 → u.reg a = s.reg a := fun a ha => by rw [hu, State.reg_setReg_ne s _ ha]
  have hbusy : ((List.range 32).any fun i => u.rbit (Reg.pilotMatch + 4 * i) 31) = false := by
    rw [List.any_eq_false]
    intro i hmem
    have hlt := List.mem_range.mp hmem
    have hfree := hm i hlt
    rw [State.rbit] at hfree ⊢
    rw [hreg _ (by simp only [Reg.pilotMatch, Reg.pilotPramData]; omega), hfree]
    decide
  have he : execPilotPramWrite v s = .next (if (decide (s.pilot.st ≠ .idle) || false) = true then u.setRbit Reg.pilotFault 6 true
      else ({ u with pilot := { s.pilot with pram := s.pramStored v } } : State).setFld Reg.pilotPramAddr 8 0 ((s.fld Reg.pilotPramAddr 8 0 + 1) % 512)) := by
    unfold execPilotPramWrite
    dsimp only
    rw [← hu, hbusy, hreg _ (by decide), hreg _ (by decide), hreg _ (by decide)]
    subst hu
    rfl
  rw [if_neg (by simp [hi])] at he
  refine ⟨_, he, Store.get_set_self _ _ _ _, ?_⟩
  rw [State.fld_setFld_self _ _ _ _ _ (by decide) (by decide)]
  exact Nat.mod_eq_of_lt (Nat.mod_lt _ (by decide))

theorem pilotMboxWrite_takes (n : Nat) (v : Word) (h : n < 2) : ∃ t, exec (.pilotMboxWrite n v) s = .next t ∧ t.reg (Reg.pilotMboxHm + 4 * n) = v ∧
    (n = 0 → t.pilot.mboxNew = true) := by
  refine ⟨_, congrArg Host.Outcome.next (if_neg (Nat.not_le_of_lt h)), ?_, fun h0 => ?_⟩
  · split
    · exact State.reg_setReg_self s _ _
    · exact State.reg_setReg_self s _ _
  · rw [if_pos h0]

theorem macroFetch_queues (hr : s.pilotRuns = true) (hq : s.pilot.queue.length < 32) (hb : s.basinState 1 = 0) (hw : s.basinWaking 1 = false) (o : Nat)
    (ho : o = (s.pilot.mpc + 8 * s.pilot.queue.length) % 262144) (he : Store.get s.memErr (0x21000000 + o) 0 ≠ 2) :
    ∃ t, exec .macroFetch s = .next t ∧ t.pilot.queue = s.pilot.queue ++ [BitVec.ofNat 64 (ofLe (Memory.readBytes s.mem (0x21000000 + o) 8))] := by
  subst ho
  have hx : execMacroFetch s = .next { s with pilot := { s.pilot with queue := s.pilot.queue ++
      [s.basin1Word ((s.pilot.mpc + 8 * s.pilot.queue.length) % 262144)] } } := by
    unfold execMacroFetch
    dsimp only
    rw [hr, hb, hw, if_neg (by simp [hq]), if_neg (by decide), if_neg (by decide), if_neg he]
  exact ⟨_, hx, rfl⟩
end

/-- Settles O39. -/
theorem pilotCommandsComplete : Obligations.PilotCommandsComplete := fun s =>
  ⟨sagwarnRequest_asks s, sagwarnRequest_done s, ⟨_, rfl, s.rbit_requestTrap_self 6 0 (by decide), rfl⟩, cycleDeadline_asks s, ackTimeout_resets s,
    pilotMarkArrival_loads s, pilotStart_runs s, fun h => congrArg Host.Outcome.next (if_pos h), pilotPramWrite_stores s, pilotMboxWrite_takes s,
    macroFetch_queues s⟩

end Sys2Proof.Machine
end

section
/-! SUPPORT. The Plain: bits, operands and elements after an access, and what a Plain instruction leaves of the rest (SPEC chapters 12 and 14). -/

namespace Sys2Proof.Machine

/-! ### Physical bits (R463, R465, R486) -/

theorem Plain.phys_lt (p : Plain) (a : Nat) : p.phys a < 8192 := by
  unfold Plain.phys
  dsimp only
  split
  · next h =>
    have h4 : a % 8192 < 2 ^ 12 := by simp only [Bool.and_eq_true, decide_eq_true_eq] at h; exact h.1
    exact Nat.lt_trans (Nat.xor_lt_two_pow h4 (by decide)) (by decide)
  · exact Nat.mod_lt _ (by decide)

theorem Plain.phys_congr {p q : Plain} (h : p.half = q.half) : p.phys = q.phys := by
  funext a
  rw [Plain.phys, Plain.phys, h]

theorem xor_left_cancel {a b c : Nat} (h : a ^^^ c = b ^^^ c) : a = b :=
  calc a = a ^^^ c ^^^ c := by rw [Nat.xor_assoc, Nat.xor_self, Nat.xor_zero]
    _ = b := by rw [h, Nat.xor_assoc, Nat.xor_self, Nat.xor_zero]

/-- Two logical addresses less than 8,192 apart are two physical ones. -/
theorem Plain.phys_inj (p : Plain) {a b : Nat} (h : p.phys a = p.phys b) : a % 8192 = b % 8192 := by
  unfold Plain.phys at h
  dsimp only at h
  have hlow : ∀ x, x < 4096 → x ^^^ 2048 < 4096 := fun x hx => Nat.xor_lt_two_pow (n := 12) hx (by decide)
  split at h
  · next ha =>
    split at h
    · exact xor_left_cancel h
    · next hb =>
      simp only [Bool.and_eq_true, decide_eq_true_eq, not_and] at ha hb
      have := hlow _ ha.1
      exact absurd ha.2 (hb (by omega))
  · next ha =>
    split at h
    · next hb =>
      simp only [Bool.and_eq_true, decide_eq_true_eq, not_and] at ha hb
      have := hlow _ hb.1
      exact absurd hb.2 (ha (by omega))
    · exact h

theorem getLsbD_setBit (old : Byte) (i j : Nat) (b : Bool) (hj : j < 8) :
    (if b then old ||| BitVec.ofNat 8 (2 ^ i) else old &&& ~~~ BitVec.ofNat 8 (2 ^ i)).getLsbD j = if j = i then b else old.getLsbD j := by
  have hm : (BitVec.ofNat 8 (2 ^ i)).getLsbD j = decide (i = j) := by
    rw [BitVec.getLsbD_ofNat, Nat.testBit_two_pow, decide_eq_true hj, Bool.true_and]
  cases b with
  | true =>
    rw [if_pos rfl, BitVec.getLsbD_or, hm]
    by_cases h : j = i
    · simp [h]
    · simp [h, Ne.symm h]
  | false =>
    rw [if_neg Bool.false_ne_true, BitVec.getLsbD_and, BitVec.getLsbD_not, hm]
    by_cases h : j = i
    · simp [h]
    · simp [h, Ne.symm h, hj]

theorem Plain.bitAt_setBit (p : Plain) (n a : Nat) (b : Bool) {k c : Nat} (ha : a < 8192) (hc : c < 8192) :
    (p.setBit n a b).bitAt k c = if k = n ∧ c = a then b else p.bitAt k c := by
  unfold Plain.bitAt Plain.setBit
  dsimp only
  by_cases hkey : k * 1024 + c / 8 = n * 1024 + a / 8
  · rw [hkey, Store.get_set_self, getLsbD_setBit _ _ _ _ (Nat.mod_lt _ (by decide))]
    by_cases h : c % 8 = a % 8
    · rw [if_pos h, if_pos (by omega)]
    · rw [if_neg h, if_neg (by omega)]
  · rw [Store.get_set_ne _ _ _ _ hkey, if_neg (by rintro ⟨rfl, rfl⟩; exact hkey rfl)]

/-! ### Operands (R534) -/

theorem Plain.phys_setBit (p : Plain) (n a : Nat) (b : Bool) : (p.setBit n a b).phys = p.phys := rfl

theorem Plain.half_putBits (p : Plain) (n a w v : Nat) : (p.putBits n a w v).half = p.half := by
  induction w generalizing p a v with
  | zero => rfl
  | succ w ih => exact ih _ _ _

/-- A write changes the planes of its operand in its element only. -/
theorem Plain.bitAt_putBits_apart (p : Plain) (n a w v : Nat) {k c : Nat} (hc : c < 8192) (h : k ≠ n ∨ ∀ i, i < w → p.phys (a + i) ≠ c) :
    (p.putBits n a w v).bitAt k c = p.bitAt k c := by
  induction w generalizing p a v with
  | zero => rfl
  | succ w ih =>
    have hstep : (p.setBit n (p.phys a) (v % 2 == 1)).bitAt k c = p.bitAt k c := by
      rw [p.bitAt_setBit _ _ _ (p.phys_lt a) hc, if_neg]
      rintro ⟨rfl, rfl⟩
      rcases h with h | h
      · exact h rfl
      · exact h 0 (Nat.succ_pos w) rfl
    refine (ih _ _ _ ?_).trans hstep
    rcases h with h | h
    · exact Or.inl h
    · refine Or.inr fun i hi => ?_
      rw [Plain.phys_setBit, Nat.add_assoc, Nat.add_comm 1 i]
      exact h (i + 1) (Nat.succ_lt_succ hi)

theorem Plain.bitAt_putBits_self (p : Plain) (n a w v : Nat) (hw : w ≤ 8192) {i : Nat} (hi : i < w) :
    (p.putBits n a w v).bitAt n (p.phys (a + i)) = v.testBit i := by
  induction w generalizing p a v i with
  | zero => exact absurd hi (Nat.not_lt_zero i)
  | succ w ih =>
    rw [Plain.putBits]
    cases i with
    | zero =>
      rw [Plain.bitAt_putBits_apart _ _ _ _ _ (p.phys_lt _), p.bitAt_setBit _ _ _ (p.phys_lt _) (p.phys_lt _), if_pos ⟨rfl, rfl⟩, Nat.testBit_zero]
      · cases Nat.mod_two_eq_zero_or_one v with
        | inl h => rw [h]; rfl
        | inr h => rw [h]; rfl
      · refine Or.inr fun j hj he => ?_
        rw [Plain.phys_setBit] at he
        have := p.phys_inj he
        omega
    | succ i =>
      have hnext := ih (p.setBit n (p.phys a) (v % 2 == 1)) (a + 1) (v / 2) (Nat.le_of_succ_le hw) (Nat.lt_of_succ_lt_succ hi)
      rw [Plain.phys_setBit, Nat.add_assoc, Nat.add_comm 1 i] at hnext
      rw [hnext, Nat.testBit_succ]

theorem Plain.bits_lt (p : Plain) (n a w : Nat) : p.bits n a w < 2 ^ w := by
  induction w with
  | zero => exact Nat.one_pos
  | succ w ih =>
    rw [Plain.bits, Nat.pow_succ]
    cases p.bitAt n (p.phys (a + w))
    · simp only [Bool.toNat_false]; omega
    · simp only [Bool.toNat_true]; omega

theorem Plain.testBit_bits (p : Plain) (n a w i : Nat) : (p.bits n a w).testBit i = (decide (i < w) && p.bitAt n (p.phys (a + i))) := by
  induction w with
  | zero => simp [Plain.bits]
  | succ w ih =>
    rw [Plain.bits, Nat.add_comm, Nat.mul_comm, Nat.testBit_two_pow_mul_add _ (p.bits_lt n a w), ih]
    by_cases h : i < w
    · simp [h, Nat.lt_succ_of_lt h]
    · rw [if_neg h]
      by_cases he : i = w
      · subst he
        cases p.bitAt n (p.phys (a + i)) <;> simp
      · have hlt : 0 < i - w := by omega
        have hz : (p.bitAt n (p.phys (a + w))).toNat.testBit (i - w) = false := by
          refine Nat.testBit_lt_two_pow (Nat.lt_of_lt_of_le (Bool.toNat_lt _) ?_)
          calc 2 = 2 ^ 1 := rfl
            _ ≤ 2 ^ (i - w) := Nat.pow_le_pow_right (by decide) hlt
        rw [hz, decide_eq_false (by omega), Bool.false_and]

/-- An operand reads the planes that it covers. -/
theorem Plain.bits_congr {p q : Plain} {n a w : Nat} (hh : p.half = q.half) (h : ∀ i, i < w → p.bitAt n (p.phys (a + i)) = q.bitAt n (p.phys (a + i))) :
    p.bits n a w = q.bits n a w := by
  refine Nat.eq_of_testBit_eq fun i => ?_
  rw [Plain.testBit_bits, Plain.testBit_bits, ← Plain.phys_congr hh]
  by_cases hi : i < w
  · rw [h i hi]
  · rw [decide_eq_false hi, Bool.false_and, Bool.false_and]

theorem Plain.bits_of_mem {p q : Plain} (hm : p.mem = q.mem) (hh : p.half = q.half) (n a w : Nat) : p.bits n a w = q.bits n a w :=
  Plain.bits_congr hh fun i _ => by rw [Plain.bitAt, Plain.bitAt, hm]

/-- A written operand reads back the low bits of its value. -/
theorem Plain.bits_putBits_self (p : Plain) (n a w v : Nat) (hw : w ≤ 8192) : (p.putBits n a w v).bits n a w = v % 2 ^ w := by
  refine Nat.eq_of_testBit_eq fun i => ?_
  rw [Plain.testBit_bits, Plain.phys_congr (p.half_putBits n a w v), Nat.testBit_mod_two_pow]
  by_cases hi : i < w
  · rw [p.bitAt_putBits_self n a w v hw hi]
  · rw [decide_eq_false hi, Bool.false_and, Bool.false_and]

/-! ### Geometry (R453, R454) -/

theorem elemOfRing_lt {f j : Nat} (hf : f < 16) (hj : j < 1024) : elemOfRing f j < 16384 := by
  simp only [elemOfRing, elemAt]
  split <;> omega

theorem fieldOf_elemOfRing {f j : Nat} (hj : j < 1024) : fieldOf (elemOfRing f j) = f := by
  simp only [elemOfRing, elemAt, fieldOf]
  split <;> omega

theorem ringOf_lt (n : Nat) : ringOf n < 1024 := by
  simp only [ringOf]
  split <;> omega

theorem elemOfRing_ringOf (n : Nat) : elemOfRing (fieldOf n) (ringOf n) = n := by
  simp only [elemOfRing, elemAt, fieldOf, ringOf]
  split
  · rw [if_pos (by omega)]; omega
  · rw [if_neg (by omega)]; omega

theorem mem_fieldElems {n f : Nat} (hf : f < 16) : n ∈ fieldElems f ↔ n < 16384 ∧ fieldOf n = f := by
  unfold fieldElems
  rw [List.mem_map]
  constructor
  · rintro ⟨j, hj, rfl⟩
    exact ⟨elemOfRing_lt hf (List.mem_range.mp hj), fieldOf_elemOfRing (List.mem_range.mp hj)⟩
  · rintro ⟨hn, rfl⟩
    exact ⟨ringOf n, List.mem_range.mpr (ringOf_lt n), elemOfRing_ringOf n⟩

theorem fieldOf_lt {n : Nat} (h : n < 16384) : fieldOf n < 16 := by
  simp only [fieldOf]
  omega

/-- The elements of the ON fields. -/
theorem Plain.mem_onElems (p : Plain) (n : Nat) : n ∈ p.onElems ↔ n < 16384 ∧ p.on (fieldOf n) = true := by
  unfold Plain.onElems
  rw [List.mem_flatMap]
  constructor
  · rintro ⟨f, hf, hn⟩
    obtain ⟨hr, hon⟩ := List.mem_filter.mp hf
    obtain ⟨hlt, rfl⟩ := (mem_fieldElems (List.mem_range.mp hr)).mp hn
    exact ⟨hlt, hon⟩
  · rintro ⟨hlt, hon⟩
    exact ⟨fieldOf n, List.mem_filter.mpr ⟨List.mem_range.mpr (fieldOf_lt hlt), hon⟩, (mem_fieldElems (fieldOf_lt hlt)).mpr ⟨hlt, rfl⟩⟩

/-! ### The accesses of elements (R456) -/

/-- One element's access. -/
def Plain.act1 (q : Plain) (o : Nat × ElemOut) : Plain := o.2.writes.foldl (fun q w => q.putBits o.1 w.1 w.2.1 w.2.2) (q.setElem o.1 o.2.elem)

/-- The Plain is another's but for its memory and its element registers. -/
def Plain.Beside (p q : Plain) : Prop := ∃ mem elems, q = { p with mem := mem, elems := elems }

theorem Plain.Beside.refl (p : Plain) : p.Beside p := ⟨p.mem, p.elems, rfl⟩

theorem Plain.Beside.trans {p q r : Plain} (h : p.Beside q) (g : q.Beside r) : p.Beside r := by
  obtain ⟨_, _, rfl⟩ := h
  obtain ⟨_, _, rfl⟩ := g
  exact ⟨_, _, rfl⟩

theorem Plain.Beside.half {p q : Plain} (h : p.Beside q) : q.half = p.half := by
  obtain ⟨_, _, rfl⟩ := h
  rfl

theorem Plain.beside_putBits (p : Plain) (n a w v : Nat) : p.Beside (p.putBits n a w v) := by
  induction w generalizing p a v with
  | zero => exact Plain.Beside.refl p
  | succ w ih => exact Plain.Beside.trans ⟨_, p.elems, rfl⟩ (ih _ _ _)

theorem Plain.elems_putBits (p : Plain) (n a w v : Nat) : (p.putBits n a w v).elems = p.elems := by
  induction w generalizing p a v with
  | zero => rfl
  | succ w ih => exact ih _ _ _

/-- The writes of one element. -/
def Plain.puts (q : Plain) (n : Nat) (l : List (Nat × Nat × Nat)) : Plain := l.foldl (fun q w => q.putBits n w.1 w.2.1 w.2.2) q

theorem Plain.act1_eq (q : Plain) (o : Nat × ElemOut) : q.act1 o = (q.setElem o.1 o.2.elem).puts o.1 o.2.writes := rfl

theorem Plain.beside_puts (q : Plain) (n : Nat) (l : List (Nat × Nat × Nat)) : q.Beside (q.puts n l) :=
  List.foldlRecOn (motive := fun r => q.Beside r) _ _ (Plain.Beside.refl q) fun _ hr _ _ => hr.trans (Plain.beside_putBits _ _ _ _ _)

theorem Plain.elems_puts (q : Plain) (n : Nat) (l : List (Nat × Nat × Nat)) : (q.puts n l).elems = q.elems :=
  List.foldlRecOn (motive := fun r : Plain => r.elems = q.elems) _ _ rfl fun _ hr _ _ => (Plain.elems_putBits _ _ _ _ _).trans hr

theorem Plain.bitAt_puts_apart (q : Plain) (n : Nat) (l : List (Nat × Nat × Nat)) {k c : Nat} (hc : c < 8192)
    (h : k ≠ n ∨ ∀ w ∈ l, ∀ i, i < w.2.1 → q.phys (w.1 + i) ≠ c) : (q.puts n l).bitAt k c = q.bitAt k c := by
  refine (List.foldlRecOn (motive := fun r : Plain => q.Beside r ∧ r.bitAt k c = q.bitAt k c) _ _ ⟨Plain.Beside.refl q, rfl⟩ fun r hr w hw => ?_).2
  obtain ⟨hb, he⟩ := hr
  refine ⟨hb.trans (Plain.beside_putBits _ _ _ _ _), (Plain.bitAt_putBits_apart _ _ _ _ _ hc ?_).trans he⟩
  rw [Plain.phys_congr hb.half]
  exact h.imp_right fun h => h w hw

/-- The last write of an element stands. -/
theorem Plain.bits_puts_last (q : Plain) (n : Nat) (l : List (Nat × Nat × Nat)) (a w v : Nat) (hw : w ≤ 8192) :
    (q.puts n (l ++ [(a, w, v)])).bits n a w = v % 2 ^ w := by
  rw [Plain.puts, List.foldl_append]
  exact Plain.bits_putBits_self _ _ _ _ _ hw

/-- All accesses of an instruction. -/
def Plain.acted (p : Plain) (l : List Nat) (g : Nat → ElemOut) : Plain := (l.map fun n => (n, g n)).foldl Plain.act1 p

theorem Plain.acted_snoc (p : Plain) (l : List Nat) (k : Nat) (g : Nat → ElemOut) :
    p.acted (l ++ [k]) g = ((p.acted l g).setElem k (g k).elem).puts k (g k).writes := by
  rw [Plain.acted, List.map_append, List.foldl_append]
  rfl

theorem Plain.beside_acted (p : Plain) (l : List Nat) (g : Nat → ElemOut) : p.Beside (p.acted l g) := by
  induction l using list_snoc_induction with
  | nil => exact Plain.Beside.refl p
  | append_singleton l k ih =>
    rw [Plain.acted_snoc]
    exact (ih.trans ⟨(p.acted l g).mem, _, rfl⟩).trans (Plain.beside_puts _ _ _)

theorem Plain.get_elems_acted (p : Plain) (l : List Nat) (g : Nat → ElemOut) {n : Nat} (h : n ∈ l) :
    Store.get (p.acted l g).elems n {} = (g n).elem := by
  induction l using list_snoc_induction with
  | nil => cases h
  | append_singleton l k ih =>
    rw [Plain.acted_snoc, Plain.elems_puts]
    by_cases hk : n = k
    · subst hk
      exact Store.get_set_self _ _ _ _
    · refine (Store.get_set_ne _ _ _ _ hk).trans (ih ?_)
      rcases List.mem_append.mp h with hl | hl
      · exact hl
      · exact absurd (List.mem_singleton.mp hl) hk

theorem Plain.bits_acted (p : Plain) (l : List Nat) (g : Nat → ElemOut) {n : Nat} (h : n ∈ l) {ws : List (Nat × Nat × Nat)} {a w v : Nat}
    (hg : (g n).writes = ws ++ [(a, w, v)]) (hw : w ≤ 8192) : (p.acted l g).bits n a w = v % 2 ^ w := by
  induction l using list_snoc_induction with
  | nil => cases h
  | append_singleton l k ih =>
    rw [Plain.acted_snoc]
    by_cases hk : n = k
    · subst hk
      rw [hg, Plain.bits_puts_last _ _ _ _ _ _ hw]
    · have hl : n ∈ l := by
        rcases List.mem_append.mp h with hl | hl
        · exact hl
        · exact absurd (List.mem_singleton.mp hl) hk
      have hset : ((p.acted l g).setElem k (g k).elem).bits n a w = (p.acted l g).bits n a w :=
        Plain.bits_of_mem (p := (p.acted l g).setElem k (g k).elem) (q := p.acted l g) rfl rfl n a w
      refine (Plain.bits_congr (Plain.beside_puts _ _ _).half fun i _ => ?_).trans (hset.trans (ih hl))
      exact Plain.bitAt_puts_apart _ _ _ (Plain.phys_lt _ _) (Or.inl hk)

theorem Plain.bitAt_acted_apart (p : Plain) (l : List Nat) (g : Nat → ElemOut) {n c : Nat} (hc : c < 8192)
    (h : n ∉ l ∨ ∀ w ∈ (g n).writes, ∀ i, i < w.2.1 → p.phys (w.1 + i) ≠ c) : (p.acted l g).bitAt n c = p.bitAt n c := by
  induction l using list_snoc_induction with
  | nil => rfl
  | append_singleton l k ih =>
    rw [Plain.acted_snoc]
    have hl : n ∉ l ∨ ∀ w ∈ (g n).writes, ∀ i, i < w.2.1 → p.phys (w.1 + i) ≠ c := h.imp_left fun h hm => h (List.mem_append_left _ hm)
    refine (Plain.bitAt_puts_apart _ _ _ hc ?_).trans (ih hl)
    by_cases hk : n = k
    · subst hk
      rcases h with h | h
      · exact absurd (List.mem_append_right _ (List.mem_singleton.mpr rfl)) h
      · refine Or.inr fun w hw i hi => ?_
        rw [show ((p.acted l g).setElem n (g n).elem).phys = p.phys from Plain.phys_congr (p.beside_acted l g).half]
        exact h w hw i hi
    · exact Or.inl hk

/-- Without a write the memory stays. -/
theorem Plain.mem_acted_of_no_write (p : Plain) (l : List Nat) (g : Nat → ElemOut) (h : ∀ n, (g n).writes = []) : (p.acted l g).mem = p.mem := by
  induction l using list_snoc_induction with
  | nil => rfl
  | append_singleton l k ih =>
    rw [Plain.acted_snoc, h k]
    exact ih

end Sys2Proof.Machine
end

section
/-! SUPPORT. A Plain instruction's dispatch, mask and effect on an element (SPEC chapter 14), and the statement PlainMovesComparesAndLogicComplete. -/

namespace Sys2Proof.Machine

/-! ### Element registers: X, Y, C, T and NB may be left over, the others are as they stand (R537) -/

theorem Store.find?_mapKV {α β : Type} (m : Store α) (f : Nat → α → β) (k : Nat) : Store.find? (Store.mapKV m f) k = (Store.find? m k).map (f k) := by
  induction m with
  | nil => rfl
  | cons x r ih =>
    obtain ⟨a, v⟩ := x
    simp only [Store.mapKV, List.map_cons, Store.find?] at ih ⊢
    split
    · next h => rw [h]; rfl
    · exact ih

theorem Plain.ix_elem (p : Plain) (n : Nat) : (p.elem n).ix = (Store.get p.elems n {}).ix := by
  unfold Plain.elem
  split
  · rfl
  · dsimp only
    split <;> rfl

theorem Plain.f_elem (p : Plain) (n : Nat) : (p.elem n).f = (Store.get p.elems n {}).f := by
  unfold Plain.elem
  split
  · rfl
  · dsimp only
    split <;> rfl

theorem Plain.dz_elem (p : Plain) (n : Nat) : (p.elem n).dz = (Store.get p.elems n {}).dz := by
  unfold Plain.elem
  split
  · rfl
  · dsimp only
    split <;> rfl

theorem Plain.m_elem (p : Plain) (n : Nat) : (p.elem n).m = (Store.get p.elems n {}).m := by
  unfold Plain.elem
  split
  · rfl
  · dsimp only
    split <;> rfl

/-- The registers of an element that an instruction's operands depend on: IX, F and DZ. -/
def Elem.lasting (e : Elem) : Nat × Bool × Bool := (e.ix, e.f, e.dz)

theorem Plain.lasting_elem (p : Plain) (n : Nat) : (p.elem n).lasting = (Store.get p.elems n {}).lasting := by
  rw [Elem.lasting, Elem.lasting, p.ix_elem, p.f_elem, p.dz_elem]

theorem Elem.ix_of_lasting {e f : Elem} (h : e.lasting = f.lasting) : e.ix = f.ix := congrArg Prod.fst h

theorem Elem.f_of_lasting {e f : Elem} (h : e.lasting = f.lasting) : e.f = f.f := congrArg (fun x => x.2.1) h

theorem Elem.dz_of_lasting {e f : Elem} (h : e.lasting = f.lasting) : e.dz = f.dz := congrArg (fun x => x.2.2) h

/-- Another Plain with the same planes and power, and in every element the same IX, F and DZ. -/
def Plain.Lasting (p q : Plain) : Prop := (∃ el, q = { p with elems := el }) ∧ ∀ n, (q.elem n).lasting = (p.elem n).lasting

theorem Plain.Lasting.refl (p : Plain) : p.Lasting p := ⟨⟨p.elems, rfl⟩, fun _ => rfl⟩

theorem Plain.Lasting.trans {p q r : Plain} (h : p.Lasting q) (g : q.Lasting r) : p.Lasting r := by
  obtain ⟨⟨_, rfl⟩, h2⟩ := h
  obtain ⟨⟨_, rfl⟩, g2⟩ := g
  exact ⟨⟨_, rfl⟩, fun n => (g2 n).trans (h2 n)⟩

theorem Plain.lasting_setElem (p : Plain) (n : Nat) (e : Elem) (h : e.lasting = (p.elem n).lasting) : p.Lasting (p.setElem n e) := by
  refine ⟨⟨_, rfl⟩, fun k => ?_⟩
  rw [Plain.lasting_elem]
  by_cases hk : k = n
  · subst hk
    rw [show Store.get (p.setElem k e).elems k {} = e from Store.get_set_self _ _ _ _, h]
  · rw [show Store.get (p.setElem n e).elems k {} = Store.get p.elems k {} from Store.get_set_ne _ _ _ _ hk, ← Plain.lasting_elem]

/-! ### Dispatch and mask (R496, R538) -/

/-- The state in which a Plain instruction takes effect. -/
def State.prep (s : State) (m : MacroInstr) : State :=
  let q := match s.pilot.queue with
    | x :: r => if x = m then r else s.pilot.queue
    | [] => []
  (({ s with pilot := { s.pilot with queue := q } } : State).dispatch m).loadMask m

/-- What dispatch does in an element: M := 1 where its field is ON (R496). -/
def Plain.unmasked (p : Plain) (n : Nat) (e : Elem) : Elem := if p.on (fieldOf n) then { e with m := true } else e

theorem Plain.lasting_unmasked (p : Plain) (n : Nat) (e : Elem) : (p.unmasked n e).lasting = e.lasting := by
  unfold Plain.unmasked
  split <;> rfl

theorem State.elems_dispatch (s : State) (m : MacroInstr) : (s.dispatch m).plain.elems = Store.mapKV s.plain.elems s.plain.unmasked := rfl

theorem State.lasting_dispatch (s : State) (m : MacroInstr) : s.plain.Lasting (s.dispatch m).plain := by
  refine ⟨⟨_, rfl⟩, fun n => ?_⟩
  rw [Plain.lasting_elem, Plain.lasting_elem, State.elems_dispatch, Store.get, Store.get, Store.find?_mapKV]
  cases Store.find? s.plain.elems n with
  | none => rfl
  | some e => exact Plain.lasting_unmasked _ _ _

/-- Masks loaded one by one. -/
def Plain.masked (p : Plain) (l : List Nat) (b : Nat → Bool) : Plain := l.foldl (fun q n => q.setElem n { q.elem n with m := b n }) p

theorem Plain.lasting_masked (p : Plain) (l : List Nat) (b : Nat → Bool) : p.Lasting (p.masked l b) :=
  List.foldlRecOn (motive := fun q => p.Lasting q) _ _ (Plain.Lasting.refl p) fun _ hq _ _ => hq.trans (Plain.lasting_setElem _ _ _ rfl)

theorem Plain.m_masked (p : Plain) (l : List Nat) (b : Nat → Bool) {n : Nat} (h : n ∈ l) : ((p.masked l b).elem n).m = b n := by
  rw [Plain.m_elem]
  induction l using list_snoc_induction with
  | nil => cases h
  | append_singleton l k ih =>
    rw [Plain.masked, List.foldl_append]
    by_cases hk : n = k
    · subst hk
      exact congrArg Elem.m (Store.get_set_self _ _ _ _)
    · refine (congrArg Elem.m (Store.get_set_ne _ _ _ _ hk)).trans (ih ?_)
      rcases List.mem_append.mp h with hl | hl
      · exact hl
      · exact absurd (List.mem_singleton.mp hl) hk

theorem State.loadMask_eq (s : State) (m : MacroInstr) :
    s.loadMask m = if mMsel m = 0 then s else { s with plain := s.plain.masked s.plain.onElems (s.plain.mask s.pilot.maskD) } := rfl

theorem State.lasting_loadMask (s : State) (m : MacroInstr) : s.plain.Lasting (s.loadMask m).plain := by
  rw [State.loadMask_eq]
  split
  · exact Plain.Lasting.refl _
  · exact Plain.lasting_masked _ _ _

theorem State.lasting_prep (s : State) (m : MacroInstr) : s.plain.Lasting (s.prep m).plain :=
  Plain.Lasting.trans (State.lasting_dispatch _ m) (State.lasting_loadMask _ m)

theorem State.prep_loads (s : State) (m : MacroInstr) : ∃ u : State, s.prep m = u.loadMask m ∧ u.plain.power = s.plain.power ∧
    u.plain.mask u.pilot.maskD = s.plain.mask s.pilot.maskD := ⟨_, rfl, rfl, rfl⟩

theorem Plain.active_zero (p : Plain) : p.active 0 = p.onElems := List.filter_eq_self.mpr fun _ _ => rfl

/-- An instruction acts on the elements that its MSEL selects by the current mask. -/
theorem State.macroActive_prep (s : State) (m : MacroInstr) : (s.prep m).macroActive m = s.acts m := by
  obtain ⟨⟨el, hel⟩, -⟩ := s.lasting_prep m
  have hon : (s.prep m).plain.onElems = s.plain.onElems := Plain.onElems_congr (by rw [hel])
  unfold State.macroActive State.acts
  by_cases h0 : mMsel m = 0
  · rw [h0, if_neg (by decide), Plain.active_zero, hon]
    exact (List.filter_eq_self.mpr fun _ _ => rfl).symm
  by_cases h3 : mMsel m = 3
  · rw [h3, if_pos rfl, Plain.active_zero, hon]
    exact (List.filter_eq_self.mpr fun _ _ => rfl).symm
  rw [if_neg h3, Plain.active, hon]
  refine List.filter_congr fun n hn => ?_
  have hm : ((s.prep m).plain.elem n).m = s.plain.mask s.pilot.maskD n := by
    obtain ⟨u, hu, hpower, hmask⟩ := s.prep_loads m
    rw [hu, State.loadMask_eq, if_neg h0, ← hmask]
    exact Plain.m_masked _ _ _ (by rwa [Plain.onElems_congr hpower])
  rw [hm]
  have h3' : (mMsel m == 3) = false := beq_eq_false_iff_ne.mpr h3
  rw [h3', Bool.or_false]

section
variable (s : State) (m : MacroInstr) (n : Nat)

theorem State.ix_prep : ((s.prep m).plain.elem n).ix = (s.plain.elem n).ix := Elem.ix_of_lasting ((s.lasting_prep m).2 n)

theorem State.f_prep : ((s.prep m).plain.elem n).f = (s.plain.elem n).f := Elem.f_of_lasting ((s.lasting_prep m).2 n)

theorem State.bits_prep (a w : Nat) : (s.prep m).plain.bits n a w = s.plain.bits n a w := by
  obtain ⟨⟨el, hel⟩, -⟩ := s.lasting_prep m
  exact Plain.bits_of_mem (by rw [hel]) (by rw [hel]) n a w

theorem State.opAddr_prep (which base : Nat) : opAddr m ((s.prep m).plain.elem n) which base = opAddr m (s.plain.elem n) which base := by
  rw [opAddr, opAddr, State.ix_prep]

theorem State.src1Of_prep (w : Nat) : src1Of m (s.prep m).plain n ((s.prep m).plain.elem n) w = s.plain.bits n (s.src1At m n) w := by
  rw [src1Of, State.bits_prep, State.opAddr_prep]
  rfl

theorem State.src2Of_prep (w : Nat) : src2Of m (s.prep m).plain n ((s.prep m).plain.elem n) w = s.plain.bits n (s.src2At m n) w := by
  rw [src2Of, State.bits_prep, State.opAddr_prep]
  rfl
end

/-! ### The end of a Plain instruction -/

theorem State.plain_loopBack (s : State) (a : Nat) : (s.loopBack a).plain = s.plain := by
  unfold State.loopBack
  split
  · rfl
  · split
    · rfl
    · dsimp only
      split
      · exact State.plain_plainCycles _ _
      · rfl

/-- The effect of a Plain instruction on the Plain, whose left-over registers are free values (R537). -/
theorem State.plain_plainOp {s : State} (hr : s.pilotRuns = true) (m : MacroInstr) (cost : Nat) (spent : State → Nat) (eff : State → State) :
    ∃ k, (s.plainOp m cost spent eff).plain = { (eff (s.prep m)).plain with left := some k } := by
  unfold State.plainOp
  rw [hr]
  exact ⟨(eff (s.prep m)).freeCtr, (State.plain_loopBack _ _).trans ((State.plain_loopBack _ _).trans (State.plain_plainCycles _ _))⟩

/-- What an instruction leaves in its element: the operand that it writes, and F. -/
theorem State.plainOp_leaves {s : State} (hr : s.pilotRuns = true) (m : MacroInstr) (cost : Nat) (spent : State → Nat) (eff : State → State) (n a w : Nat) :
    (s.plainOp m cost spent eff).plain.bits n a w = (eff (s.prep m)).plain.bits n a w ∧
    ((s.plainOp m cost spent eff).plain.elem n).lasting = ((eff (s.prep m)).plain.elem n).lasting := by
  obtain ⟨k, hk⟩ := State.plain_plainOp hr m cost spent eff
  rw [hk]
  exact ⟨Plain.bits_of_mem (p := { (eff (s.prep m)).plain with left := some k }) (q := (eff (s.prep m)).plain) rfl rfl n a w, (Plain.lasting_elem _ n).trans (Plain.lasting_elem (eff (s.prep m)).plain n).symm⟩

/-! ### Element-wise effects -/

/-- The accesses of an element-wise effect. -/
theorem State.plain_elemStep (s : State) (l : List Nat) (g : Nat → ElemOut) :
    ∃ ecc rep cor ue, (s.elemStep (l.map fun n => (n, g n))).plain =
      { s.plain.acted l g with ecc := ecc, repair := rep, corrected := cor, ueFirst := ue } := ⟨_, _, _, _, rfl⟩

section
variable (s : State) (l : List Nat) (g : Nat → ElemOut)

theorem State.bits_elemStep {n : Nat} (h : n ∈ l) {ws : List (Nat × Nat × Nat)} {a w v : Nat} (hg : (g n).writes = ws ++ [(a, w, v)]) (hw : w ≤ 8192) :
    (s.elemStep (l.map fun n => (n, g n))).plain.bits n a w = v % 2 ^ w :=
  (Plain.bits_of_mem (p := (s.elemStep (l.map fun n => (n, g n))).plain) (q := s.plain.acted l g) rfl rfl n a w).trans (Plain.bits_acted _ _ _ h hg hw)

theorem State.lasting_elemStep {n : Nat} (h : n ∈ l) : ((s.elemStep (l.map fun n => (n, g n))).plain.elem n).lasting = (g n).elem.lasting := by
  rw [Plain.lasting_elem]
  exact congrArg Elem.lasting (Plain.get_elems_acted _ _ _ h)

theorem State.half_elemStep : (s.elemStep (l.map fun n => (n, g n))).plain.half = s.plain.half := (Plain.beside_acted s.plain l g).half
end

theorem mW_le (m : MacroInstr) : mW m ≤ 64 := Nat.mod_lt _ (by decide)

section
variable {s : State} {m : MacroInstr} {n : Nat} (hr : s.pilotRuns = true) (hn : n ∈ s.acts m)
include hr hn

/-- What an element-wise effect leaves in an element on which it acts. -/
theorem State.plainEff_leaves (cost : Nat) (spent : State → Nat) (eff : State → State) (f : Plain → Nat → Elem → ElemOut)
    (heff : eff (s.prep m) = (s.prep m).plainMap m f) {ws : List (Nat × Nat × Nat)} {a w v : Nat}
    (hws : (f (s.prep m).plain n ((s.prep m).plain.elem n)).writes = ws ++ [(a, w, v)]) (hw : w ≤ 8192) :
    (s.plainOp m cost spent eff).plain.bits n a w = v % 2 ^ w ∧
    ((s.plainOp m cost spent eff).plain.elem n).lasting = (f (s.prep m).plain n ((s.prep m).plain.elem n)).elem.lasting := by
  obtain ⟨hb, hl⟩ := State.plainOp_leaves hr m cost spent eff n a w
  rw [hb, hl, heff, State.plainMap, State.macroActive_prep]
  exact ⟨State.bits_elemStep _ _ (fun n => f (s.prep m).plain n ((s.prep m).plain.elem n)) hn hws hw,
    State.lasting_elemStep _ _ (fun n => f (s.prep m).plain n ((s.prep m).plain.elem n)) hn⟩

/-- What an element-wise instruction leaves in an element on which it acts. -/
theorem State.plainMap_leaves (cost : Nat) (spent : State → Nat) (f : Plain → Nat → Elem → ElemOut) {o : ElemOut}
    (ho : f (s.prep m).plain n ((s.prep m).plain.elem n) = o) {ws : List (Nat × Nat × Nat)} {a w v : Nat} (hws : o.writes = ws ++ [(a, w, v)]) (hw : w ≤ 8192) :
    (s.plainOp m cost spent fun t => t.plainMap m f).plain.bits n a w = v % 2 ^ w ∧
    ((s.plainOp m cost spent fun t => t.plainMap m f).plain.elem n).lasting = o.elem.lasting := by
  subst ho
  exact State.plainEff_leaves hr hn cost spent (fun t => t.plainMap m f) f rfl hws hw

/-- A unary instruction writes the function of SRC1. -/
theorem State.unary_wrote (cost : Nat) (spent : State → Nat) (ws : Nat) (f : Nat → Nat) :
    s.Wrote (s.plainOp m cost spent fun t => t.plainMap m (unary m ws fun v _ => f v)) m n (mW m) (f (s.plain.bits n (s.src1At m n) ws)) := by
  have hw : mW m ≤ 8192 := Nat.le_trans (mW_le m) (by decide)
  have ho : (unary m ws (fun v _ => f v) (s.prep m).plain n ((s.prep m).plain.elem n)).writes =
      [] ++ [(s.dstAt m n, mW m, f (s.plain.bits n (s.src1At m n) ws))] := by
    rw [unary, State.src1Of_prep, State.opAddr_prep, State.opAddr_prep]
    rfl
  exact (State.plainMap_leaves hr hn cost spent _ rfl ho hw).1

/-- A binary instruction writes the function of SRC1, SRC2 and the element, and leaves the F that it says. -/
theorem State.binary_wrote (cost : Nat) (spent : State → Nat) (f : Nat → Nat → Elem → Nat × Elem) (wd : Nat) (hw : wd ≤ 128) {e : Elem} {v : Nat} {b : Bool}
    (he : e = (s.prep m).plain.elem n) (hv : (f (s.plain.bits n (s.src1At m n) (mW m)) (s.plain.bits n (s.src2At m n) (mW m)) e).1 = v)
    (hb : (f (s.plain.bits n (s.src1At m n) (mW m)) (s.plain.bits n (s.src2At m n) (mW m)) e).2.f = b) :
    s.WroteF (s.plainOp m cost spent fun t => t.plainMap m (binary m f wd)) m n wd v b := by
  have ho : (binary m f wd (s.prep m).plain n ((s.prep m).plain.elem n)).writes = [] ++ [(s.dstAt m n, wd, v)] := by
    rw [binary, State.src1Of_prep, State.src2Of_prep, State.opAddr_prep, State.opAddr_prep, State.opAddr_prep, ← he, hv]
    rfl
  obtain ⟨hbits, hlast⟩ := State.plainMap_leaves hr hn cost spent _ rfl ho (Nat.le_trans hw (by decide))
  refine ⟨hbits, (Elem.f_of_lasting hlast).trans ?_⟩
  rw [binary, State.src1Of_prep, State.src2Of_prep, ← he]
  exact hb
end

/-! ### The statement -/

theorem State.compare_eq (s : State) (m : MacroInstr) (rel : Int → Int → Bool) : s.compare m rel =
    s.plainOp m (mW m + 3 + addCost m false) (fun _ => mW m + 3 + addCost m false) fun t => t.plainMap m
      (binary m (fun a b e => ((rel (reading (mSign m) (mW m) a) (reading (mSign m) (mW m) b)).toNat,
        { e with f := rel (reading (mSign m) (mW m) a) (reading (mSign m) (mW m) b) })) 1) := rfl

theorem State.bitwise_eq (s : State) (m : MacroInstr) (f : Nat → Nat → Nat) : s.bitwise m f =
    s.plainOp m (mW m + 1 + addCost m false) (fun _ => mW m + 1 + addCost m false) fun t => t.plainMap m (binary m (fun a b e => (f a b, e)) (mW m)) := rfl

theorem State.extreme_eq (s : State) (m : MacroInstr) (first : Int → Int → Bool) : s.extreme m first =
    s.plainOp m (2 * mW m + 4 + addCost m false) (fun _ => 2 * mW m + 4 + addCost m false) fun t => t.plainMap m
      (binary m (fun a b e => (if first (reading (mSign m) (mW m) a) (reading (mSign m) (mW m) b) then a else b,
        { e with f := first (reading (mSign m) (mW m) a) (reading (mSign m) (mW m) b) })) (mW m)) := rfl

theorem State.mem_plainOp {s : State} (hr : s.pilotRuns = true) (m : MacroInstr) (cost : Nat) (spent : State → Nat) (eff : State → State)
    (h : (eff (s.prep m)).plain.mem = (s.prep m).plain.mem) : (s.plainOp m cost spent eff).plain.mem = s.plain.mem := by
  obtain ⟨k, hk⟩ := State.plain_plainOp hr m cost spent eff
  obtain ⟨⟨el, hel⟩, -⟩ := s.lasting_prep m
  rw [hk]
  exact h.trans (by rw [hel])

section
variable {s : State} {m : MacroInstr} {n : Nat} (hr : s.pilotRuns = true) (hn : n ∈ s.acts m)
include hr

theorem plainNop_leaves : ∃ t, exec (.plainNop m) s = .next t ∧ t.plain.mem = s.plain.mem ∧ (t.plain.elem n).ix = (s.plain.elem n).ix :=
  ⟨_, rfl, State.mem_plainOp hr m _ _ _ rfl, (Elem.ix_of_lasting (State.plainOp_leaves hr m _ _ id n 0 0).2).trans (s.ix_prep m n)⟩

include hn

theorem plainLdi_writes : ∃ t, exec (.plainLdi m) s = .next t ∧ s.Wrote t m n (mW m) (narrow false (mSign m) (mW m) (reading (mSign m) 26 (mImm26 m))) := by
  have ho : [(opAddr m ((s.prep m).plain.elem n) 2 (mDst m), mW m, narrow false (mSign m) (mW m) (reading (mSign m) 26 (mImm26 m)))] =
      [] ++ [(s.dstAt m n, mW m, narrow false (mSign m) (mW m) (reading (mSign m) 26 (mImm26 m)))] := by
    rw [State.opAddr_prep]
    rfl
  exact ⟨_, rfl, (State.plainMap_leaves hr hn _ _ _ rfl ho (Nat.le_trans (mW_le m) (by decide))).1⟩

theorem plainStix_writes : ∃ t, exec (.plainStix m) s = .next t ∧ t.plain.bits n (mDst m) (mW m) = (s.plain.elem n).ix % 2 ^ mW m := by
  refine ⟨_, rfl, ?_⟩
  rw [← s.ix_prep m n]
  exact (State.plainMap_leaves hr hn _ _ _ rfl (ws := []) rfl (Nat.le_trans (mW_le m) (by decide))).1

theorem plainLdix_takes : ∃ t, exec (.plainLdix m) s = .next t ∧ (t.plain.elem n).ix = s.plain.bits n (mSrc1 m) (mW m) % 8192 ∧
    t.plain.mem = s.plain.mem := by
  refine ⟨_, rfl, ?_, State.mem_plainOp hr m _ _ _ ?_⟩
  · refine (Elem.ix_of_lasting (State.plainOp_leaves hr m _ _ _ n 0 0).2).trans ?_
    rw [State.plainMap, State.macroActive_prep]
    refine (Elem.ix_of_lasting (State.lasting_elemStep _ _ (fun n => _) hn)).trans ?_
    exact congrArg (· % 8192) (s.bits_prep m n _ _)
  · exact Plain.mem_acted_of_no_write (s.prep m).plain ((s.prep m).macroActive m) (fun n => _) fun _ => rfl

theorem compare_leaves (rel : Int → Int → Bool) {v : Nat} {b : Bool}
    (hb : rel (reading (mSign m) (mW m) (s.plain.bits n (s.src1At m n) (mW m))) (reading (mSign m) (mW m) (s.plain.bits n (s.src2At m n) (mW m))) = b)
    (hv : v = b.toNat) : s.WroteF (s.compare m rel) m n 1 v b := by
  rw [State.compare_eq]
  exact State.binary_wrote hr hn _ _ _ 1 (by decide) rfl (by rw [hv, ← hb]) hb

theorem bitwise_writes (f : Nat → Nat → Nat) :
    s.Wrote (s.bitwise m f) m n (mW m) (f (s.plain.bits n (s.src1At m n) (mW m)) (s.plain.bits n (s.src2At m n) (mW m))) := by
  rw [State.bitwise_eq]
  exact (State.binary_wrote hr hn _ _ _ _ (Nat.le_trans (mW_le m) (by decide)) rfl rfl rfl).1

theorem extreme_leaves (first : Int → Int → Bool) {c : Prop} [Decidable c] (hc : first (reading (mSign m) (mW m) (s.plain.bits n (s.src1At m n) (mW m)))
      (reading (mSign m) (mW m) (s.plain.bits n (s.src2At m n) (mW m))) = decide c) :
    s.WroteF (s.extreme m first) m n (mW m) (if c then s.plain.bits n (s.src1At m n) (mW m) else s.plain.bits n (s.src2At m n) (mW m)) (decide c) := by
  rw [State.extreme_eq]
  exact State.binary_wrote hr hn _ _ _ _ (Nat.le_trans (mW_le m) (by decide)) rfl (by simp only [hc, decide_eq_true_eq]) hc

theorem plainSel_writes : ∃ t, exec (.plainSel m) s = .next t ∧ s.Wrote t m n (mW m)
    (if (s.plain.elem n).f then s.plain.bits n (s.src1At m n) (mW m) else s.plain.bits n (s.src2At m n) (mW m)) := by
  refine ⟨_, rfl, (State.binary_wrote hr hn _ _ (fun a b e => (if e.f then a else b, e)) _ (Nat.le_trans (mW_le m) (by decide)) rfl ?_ rfl).1⟩
  simp only [State.f_prep]
end

/-- Settles O40. -/
theorem plainMovesComparesAndLogicComplete : Obligations.PlainMovesComparesAndLogicComplete := by
  refine ⟨fun s m n w hr hn hw => ?_, fun s m n w a b rd hr hn hw ha hb hrd => ?_⟩
  · subst hw
    exact ⟨⟨_, rfl, State.unary_wrote hr hn _ _ _ id⟩,
      ⟨_, rfl, State.unary_wrote hr hn _ _ _ fun v => narrow (mSat m) (mSign m) (mW m) (reading (mSign m) (mSrc2 m % 64 + 1) v)⟩,
      plainLdi_writes hr hn, plainStix_writes hr hn, plainLdix_takes hr hn, plainNop_leaves hr⟩
  · subst hw ha hb hrd
    exact ⟨⟨_, rfl, compare_leaves hr hn _ rfl rfl⟩, ⟨_, rfl, compare_leaves hr hn _ decide_not.symm rfl⟩,
      ⟨_, rfl, compare_leaves hr hn _ rfl rfl⟩, ⟨_, rfl, compare_leaves hr hn _ rfl rfl⟩, ⟨_, rfl, compare_leaves hr hn _ rfl rfl⟩,
      ⟨_, rfl, compare_leaves hr hn _ rfl rfl⟩, ⟨_, rfl, bitwise_writes hr hn _⟩, ⟨_, rfl, bitwise_writes hr hn _⟩, ⟨_, rfl, bitwise_writes hr hn _⟩,
      ⟨_, rfl, bitwise_writes hr hn _⟩, ⟨_, rfl, State.unary_wrote hr hn _ _ _ fun v => 2 ^ mW m - 1 - v⟩, plainSel_writes hr hn,
      ⟨_, rfl, extreme_leaves hr hn _ rfl⟩, ⟨_, rfl, extreme_leaves hr hn _ rfl⟩⟩

end Sys2Proof.Machine
end

section
/-! SUPPORT. Instructions that clear F after their effect, neighbour shifts, and the statement PlainArithmeticAndShiftsComplete (SPEC chapter 14). -/

namespace Sys2Proof.Machine

/-! ### F cleared in every element of every ON field -/

/-- F cleared one by one. -/
def Plain.cleared (p : Plain) (l : List Nat) : Plain := l.foldl (fun q n => q.setElem n { q.elem n with f := false }) p

theorem State.clearF_eq (s : State) : s.clearF = { s with plain := s.plain.cleared s.plain.onElems } := rfl

theorem Plain.beside_cleared (p : Plain) (l : List Nat) : p.Beside (p.cleared l) :=
  List.foldlRecOn (motive := fun q => p.Beside q) _ _ (Plain.Beside.refl p) fun _ hq _ _ => hq.trans ⟨_, _, rfl⟩

theorem Plain.mem_cleared (p : Plain) (l : List Nat) : (p.cleared l).mem = p.mem :=
  Plain.foldl_setElem_keeps Plain.mem (fun _ _ _ => rfl) l (fun q n => { q.elem n with f := false }) p

theorem Plain.f_cleared (p : Plain) (l : List Nat) {n : Nat} (h : n ∈ l) : ((p.cleared l).elem n).f = false := by
  rw [Plain.f_elem]
  induction l using list_snoc_induction with
  | nil => cases h
  | append_singleton l k ih =>
    rw [Plain.cleared, List.foldl_append]
    by_cases hk : n = k
    · subst hk
      exact congrArg Elem.f (Store.get_set_self _ _ _ _)
    · refine (congrArg Elem.f (Store.get_set_ne _ _ _ _ hk)).trans (ih ?_)
      rcases List.mem_append.mp h with hl | hl
      · exact hl
      · exact absurd (List.mem_singleton.mp hl) hk

/-- A register that is neither F nor left over stays. -/
theorem Plain.keeps_cleared {α : Type} (k : Elem → α) (hk : ∀ (p : Plain) (n : Nat), k (p.elem n) = k (Store.get p.elems n {}))
    (hf : ∀ e : Elem, k { e with f := false } = k e) (p : Plain) (l : List Nat) (n : Nat) : k ((p.cleared l).elem n) = k (p.elem n) := by
  refine List.foldlRecOn (motive := fun q : Plain => k (q.elem n) = k (p.elem n)) _ _ rfl fun q hq j _ => ?_
  rw [hk]
  by_cases hj : n = j
  · subst hj
    exact (congrArg k (Store.get_set_self _ _ _ _)).trans ((hf _).trans hq)
  · exact (congrArg k (Store.get_set_ne _ _ _ _ hj)).trans ((hk q n).symm.trans hq)

theorem Plain.dz_cleared (p : Plain) (l : List Nat) (n : Nat) : ((p.cleared l).elem n).dz = (p.elem n).dz :=
  Plain.keeps_cleared Elem.dz Plain.dz_elem (fun _ => rfl) p l n

theorem State.plain_arith (s : State) (l : List Nat) : (s.arith l).plain = s.plain := by
  unfold State.arith
  split <;> rfl

theorem State.onElems_elemStep (s : State) (outs : List (Nat × ElemOut)) (l : List Nat) (g : Nat → ElemOut) (h : outs = l.map fun n => (n, g n)) :
    (s.elemStep outs).plain.onElems = s.plain.onElems := by
  subst h
  refine Plain.onElems_congr ?_
  obtain ⟨mem, el, hb⟩ := s.plain.beside_acted l g
  obtain ⟨ecc, rep, cor, ue, hp⟩ := s.plain_elemStep l g
  rw [hp, hb]

/-- The operands and the destination of a binary instruction. -/
theorem State.writes_binary (s : State) (m : MacroInstr) (n : Nat) (f : Nat → Nat → Elem → Nat × Elem) (wd : Nat) {v : Nat}
    (hv : (f (s.plain.bits n (s.src1At m n) (mW m)) (s.plain.bits n (s.src2At m n) (mW m)) ((s.prep m).plain.elem n)).1 = v) :
    (binary m f wd (s.prep m).plain n ((s.prep m).plain.elem n)).writes = [(s.dstAt m n, wd, v)] := by
  rw [binary, State.src1Of_prep, State.src2Of_prep, State.opAddr_prep, State.opAddr_prep, State.opAddr_prep, hv]
  rfl

section
variable {s : State} {m : MacroInstr} {n : Nat} (hr : s.pilotRuns = true) (hn : n ∈ s.acts m)
include hr hn

/-- What an instruction that clears F leaves in an element on which it acts. -/
theorem State.cleared_leaves (cost : Nat) (spent : State → Nat) {eff : State → State} (f : Plain → Nat → Elem → ElemOut)
    (heff : (eff (s.prep m)).plain = ((s.prep m).plainMap m f).clearF.plain) {ws : List (Nat × Nat × Nat)} {a w v : Nat}
    (hws : (f (s.prep m).plain n ((s.prep m).plain.elem n)).writes = ws ++ [(a, w, v)]) (hw : w ≤ 8192) :
    (s.plainOp m cost spent eff).plain.bits n a w = v % 2 ^ w ∧ ((s.plainOp m cost spent eff).plain.elem n).f = false ∧
    ((s.plainOp m cost spent eff).plain.elem n).dz = (f (s.prep m).plain n ((s.prep m).plain.elem n)).elem.dz := by
  obtain ⟨hb, hl⟩ := State.plainOp_leaves hr m cost spent eff n a w
  have hon : n ∈ (s.prep m).plain.onElems := by
    obtain ⟨⟨el, hel⟩, -⟩ := s.lasting_prep m
    rw [Plain.onElems_congr (q := s.plain) (by rw [hel])]
    exact (List.mem_filter.mp hn).1
  have hstep : (s.prep m).plainMap m f = (s.prep m).elemStep ((s.acts m).map fun n => (n, f (s.prep m).plain n ((s.prep m).plain.elem n))) := by
    rw [State.plainMap, State.macroActive_prep]
  rw [hb, Elem.f_of_lasting hl, Elem.dz_of_lasting hl, heff, State.clearF_eq, hstep]
  refine ⟨?_, Plain.f_cleared _ _ ?_, (Plain.dz_cleared _ _ _).trans ?_⟩
  · exact (Plain.bits_of_mem (Plain.mem_cleared _ _) (Plain.beside_cleared _ _).half n a w).trans
      (State.bits_elemStep _ _ (fun n => f (s.prep m).plain n ((s.prep m).plain.elem n)) hn hws hw)
  · rw [State.onElems_elemStep _ _ _ (fun n => f (s.prep m).plain n ((s.prep m).plain.elem n)) rfl]
    exact hon
  · exact Elem.dz_of_lasting (State.lasting_elemStep _ _ (fun n => f (s.prep m).plain n ((s.prep m).plain.elem n)) hn)

theorem plainMul_leaves : ∃ t, exec (.plainMul m) s = .next t ∧ s.WroteF t m n (mW m)
    (narrow false true (mW m) (reading (mSign m) (mW m) (s.plain.bits n (s.src1At m n) (mW m)) * s.plain.bits n (s.src2At m n) (mW m))) false := by
  obtain ⟨hb, hf, -⟩ := State.cleared_leaves hr hn (mW m * (mW m + 3) + addCost m false) (fun t => mulCycles (mW m) (t.multipliers m false) + addCost m false)
    (eff := fun t => (t.plainMap m (binary m (fun a b e => (narrow false true (mW m) (reading (mSign m) (mW m) a * b), e)) (mW m))).clearF) _ rfl
    (ws := []) (State.writes_binary s m n _ _ rfl) (Nat.le_trans (mW_le m) (by decide))
  exact ⟨_, rfl, hb, hf⟩

theorem plainMulw_leaves : ∃ t, exec (.plainMulw m) s = .next t ∧ s.WroteF t m n (2 * mW m)
    (narrow false true (2 * mW m) (reading (mSign m) (mW m) (s.plain.bits n (s.src1At m n) (mW m)) * s.plain.bits n (s.src2At m n) (mW m))) false := by
  have hw := mW_le m
  obtain ⟨hb, hf, -⟩ := State.cleared_leaves hr hn (mW m * (mW m + 3) + addCost m false) (fun t => mulCycles (mW m) (t.multipliers m false) + addCost m false)
    (eff := fun t => (t.plainMap m (binary m (fun a b e => (narrow false true (2 * mW m) (reading (mSign m) (mW m) a * b), e)) (2 * mW m))).clearF) _ rfl
    (ws := []) (State.writes_binary s m n _ _ rfl) (by omega)
  exact ⟨_, rfl, hb, hf⟩

theorem plainSmul_leaves : ∃ t, exec (.plainSmul m) s = .next t ∧ s.WroteF t m n (mW m)
    (narrow false true (mW m) (toSigned (mW m) (s.plain.bits n (s.src1At m n) (mW m)) * toSigned (mW m) (s.plain.bits n (s.src2At m n) (mW m)))) false := by
  obtain ⟨hb, hf, -⟩ := State.cleared_leaves hr hn (smulCost (mW m) + addCost m false)
    (fun t => mulCycles (mW m) (t.multipliers m true) + 2 * mW m + 6 + addCost m false)
    (eff := fun t => (t.plainMap m fun p n e => scratch t.freeCtr n
      (binary m (fun a b e => (narrow false true (mW m) (toSigned (mW m) a * toSigned (mW m) b), e)) (mW m) p n e)).clearF) _ rfl
    (ws := [(0x1D80, 380, _)]) (congrArg (List.cons _) (State.writes_binary s m n _ _ rfl)) (Nat.le_trans (mW_le m) (by decide))
  exact ⟨_, rfl, hb, hf⟩

/-- DIV and REM: the quotient or remainder in DST, F 0, and DZ where the divisor is 0. -/
theorem divide_leaves (c : Nat) (rem : Bool) {r : Int × Int × Bool}
    (hdiv : plainDiv (mSign m) (mW m) (s.plain.bits n (s.src1At m n) (mW m)) (s.plain.bits n (s.src2At m n) (mW m)) = r) :
    s.WroteF (s.plainOp m c (freeSpent c) fun t => t.divide m rem) m n (mW m) (narrow false true (mW m) (if rem then r.2.1 else r.1)) false ∧
    (r.2.2 = true → ((s.plainOp m c (freeSpent c) fun t => t.divide m rem).plain.elem n).dz = true) := by
  subst hdiv
  have heff : ((s.prep m).divide m rem).plain = ((s.prep m).plainMap m fun p n e => scratch (s.prep m).freeCtr n (binary m (fun a b e =>
      (narrow false true (mW m) (if rem then (plainDiv (mSign m) (mW m) a b).2.1 else (plainDiv (mSign m) (mW m) a b).1),
        { e with dz := e.dz || (plainDiv (mSign m) (mW m) a b).2.2, ix := (Config.plainIx (s.prep m).freeCtr n).toNat })) (mW m) p n e)).clearF.plain :=
    State.plain_arith _ _
  obtain ⟨hb, hf, hdz⟩ := State.cleared_leaves hr hn c (freeSpent c) (eff := fun t => t.divide m rem) _ heff
    (ws := [(0x1D80, 380, _)]) (congrArg (List.cons _) (State.writes_binary s m n _ _ rfl)) (Nat.le_trans (mW_le m) (by decide))
  refine ⟨⟨hb, hf⟩, fun hz => hdz.trans ?_⟩
  simp only [scratch, binary, State.src1Of_prep, State.src2Of_prep, hz, Bool.or_true]
end

/-! ### Quotients (R544) -/

/-- The low bits of an operand's reading are the operand. -/
theorem narrow_reading (sign : Bool) (w a : Nat) : narrow false true w (reading sign w a) = a % 2 ^ w := by
  cases sign with
  | true => exact (congrArg BitVec.toNat (BitVec.ofInt_toInt (x := BitVec.ofNat w a))).trans (BitVec.toNat_ofNat a w)
  | false => exact (congrArg BitVec.toNat (BitVec.ofInt_natCast w a)).trans (BitVec.toNat_ofNat a w)

section
variable {sign : Bool} {w a b : Nat}

theorem plainDiv_zero (h : reading sign w b = 0) : plainDiv sign w a b =
    ((if sign then (if reading sign w a ≥ 0 then 2 ^ (w - 1) - 1 else -(2 ^ (w - 1))) else 2 ^ w - 1), reading sign w a, true) := by
  simp only [plainDiv, h, if_true]
  cases sign <;> rfl

theorem plainDiv_overflow (hs : sign = true) (ha : reading sign w a = -(2 ^ (w - 1))) (hb : reading sign w b = -1) :
    plainDiv sign w a b = (2 ^ (w - 1) - 1, 0, false) := by
  rw [plainDiv, ha, hb, hs]
  simp

theorem plainDiv_exact (h0 : reading sign w b ≠ 0) (hn : ¬ (sign = true ∧ reading sign w a = -(2 ^ (w - 1)) ∧ reading sign w b = -1)) :
    plainDiv sign w a b = (Int.tdiv (reading sign w a) (reading sign w b), Int.tmod (reading sign w a) (reading sign w b), false) := by
  simp only [plainDiv, if_neg h0, Bool.and_eq_true, decide_eq_true_eq, and_assoc, if_neg hn]
end

/-! ### Neighbour shifts (R467, R548) -/

theorem elemAt_lt {r c : Nat} (hr : r < 128) (hc : c < 128) : elemAt r c < 16384 := by
  simp only [elemAt]
  omega

theorem chainOf_lt {n : Nat} (h : n < 16384) : chainOf n < 16384 := by
  have := ringOf_lt n
  have := fieldOf_lt h
  simp only [chainOf]
  omega

theorem elemOfChain_lt {i : Nat} (h : i < 16384) : elemOfChain i < 16384 := elemOfRing_lt (by omega) (Nat.mod_lt _ (by decide))

/-- A neighbour is an element. -/
theorem neighbour_lt {dir mode n k : Nat} {split : Bool} (hn : n < 16384) (h : neighbour dir mode split n = some k) : k < 16384 := by
  have hring := fieldOf_lt hn
  have hchain := chainOf_lt hn
  unfold neighbour at h
  dsimp only at h
  split at h
  · split at h
    · obtain rfl := Option.some.inj h
      refine elemAt_lt ?_ (Nat.mod_lt _ (by decide))
      cases split <;> simp only [Bool.false_eq_true, if_true, if_false] <;> split <;> omega
    · split at h
      · split at h
        · cases h
        · split at h
          · cases h
          · obtain rfl := Option.some.inj h
            exact elemAt_lt (by omega) (Nat.mod_lt _ (by decide))
      · split at h
        · cases h
        · next hedge =>
          split at h
          · cases h
          · obtain rfl := Option.some.inj h
            simp only [Bool.or_eq_true, beq_iff_eq, not_or] at hedge
            exact elemAt_lt (by omega) (Nat.mod_lt _ (by decide))
  · split at h
    · split at h
      · split at h
        · cases h
        · obtain rfl := Option.some.inj h
          omega
      · split at h
        · cases h
        · obtain rfl := Option.some.inj h
          omega
    · split at h
      · obtain rfl := Option.some.inj h
        refine elemAt_lt (by omega) ?_
        split <;> exact Nat.mod_lt _ (by decide)
      · split at h
        · split at h
          · split at h
            · cases h
            · obtain rfl := Option.some.inj h
              exact elemOfChain_lt (by omega)
          · split at h
            · cases h
            · next hlast =>
              obtain rfl := Option.some.inj h
              simp only [Bool.or_eq_true, beq_iff_eq, not_or] at hlast
              exact elemOfChain_lt (by omega)
        · obtain rfl := Option.some.inj h
          refine elemOfRing_lt hring ?_
          split <;> exact Nat.mod_lt _ (by decide)

/-- Values inserted one by one. -/
theorem find?_foldl_insert (l : List Nat) (f : Nat → Nat) (v : Store Nat) {n : Nat} (h : n ∈ l) :
    Store.find? (l.foldl (fun v n => Store.insert v n (f n)) v) n = some (f n) := by
  induction l using list_snoc_induction with
  | nil => cases h
  | append_singleton l k ih =>
    rw [List.foldl_append, List.foldl_cons, List.foldl_nil]
    by_cases hk : n = k
    · subst hk
      exact Store.find?_insert_self _ _ _
    · rw [Store.find?_insert_ne _ _ hk]
      rcases List.mem_append.mp h with hl | hl
      · exact ih hl
      · exact absurd (List.mem_singleton.mp hl) hk

/-- What an element takes from its neighbour in one hop. -/
def Plain.fromLink (p : Plain) (dir mode : Nat) (vals : Store Nat) (n : Nat) : Nat :=
  match neighbour dir mode (p.mirrorPairs % 256 != 0) n with
  | some src => if p.on (fieldOf src) then Store.get vals src 0 else 0
  | none => 0

theorem Plain.get_hop (p : Plain) (dir mode : Nat) {act : List Nat} {vals : Store Nat} {n v : Nat} (hn : n ∈ act) (hv : Store.find? vals n = some v) :
    Store.get (p.hop dir mode act vals) n 0 = p.fromLink dir mode vals n := by
  rw [Plain.hop, Store.get, Store.find?_mapKV, hv, Option.map_some, Option.getD_some, if_pos (List.contains_iff_mem.mpr hn)]
  rfl

section
variable {s : State} {m : MacroInstr} {n : Nat} (hr : s.pilotRuns = true) (hn : n ∈ s.acts m)

/-- SRC1 of every element of the ON fields, as a neighbour shift starts from it: an element that does not act shows its NB latch. -/
def State.shiftStart (s : State) (m : MacroInstr) : Store Nat :=
  s.plain.onElems.foldl (fun v n => Store.insert v n (if (s.macroActive m).contains n then src1Of m s.plain n (s.plain.elem n) (mW m)
    else if (s.plain.elem n).nb then 2 ^ mW m - 1 else 0)) ([] : Store Nat)

theorem State.shiftLink_eq (s : State) (m : MacroInstr) (dir : Nat) : s.shiftLink m dir =
    s.plainOp m (mW m * (mSrc2 m + 1) + 2 + addCost m false) (fun _ => mW m * (mSrc2 m + 1) + 2 + addCost m false) fun t => t.plainMap m fun _ n e =>
      { elem := e, reads := [(opAddr m e 1 (mSrc1 m), mW m)],
        writes := [(opAddr m e 2 (mDst m), mW m, Store.get (t.plain.hops dir (mEdge m) (t.macroActive m) (mSrc2 m) (t.shiftStart m)) n 0)] } := rfl

theorem State.find?_shiftStart (h0 : mMsel m = 0) {k : Nat} (hk : k ∈ s.plain.onElems) :
    Store.find? ((s.prep m).shiftStart m) k = some (s.plain.bits k (s.src1At m k) (mW m)) := by
  obtain ⟨⟨el, hel⟩, -⟩ := s.lasting_prep m
  have hacts : k ∈ s.acts m := List.mem_filter.mpr ⟨hk, by rw [h0]; rfl⟩
  have hon : k ∈ (s.prep m).plain.onElems := by rwa [Plain.onElems_congr (q := s.plain) (by rw [hel])]
  rw [State.shiftStart, find?_foldl_insert _ _ _ hon, State.macroActive_prep, if_pos (List.contains_iff_mem.mpr hacts), State.src1Of_prep]

/-- SRC1 of an element's neighbour, or 0. -/
def State.linked (s : State) (m : MacroInstr) (dir n : Nat) : Nat :=
  match neighbour dir (mEdge m) (s.plain.mirrorPairs % 256 != 0) n with
  | some k => if s.plain.on (fieldOf k) then s.plain.bits k (s.src1At m k) (mW m) else 0
  | none => 0

include hr hn

/-- A shift of one hop brings SRC1 of the neighbour. -/
theorem State.shiftLink_wrote (h0 : mMsel m = 0) (h1 : mSrc2 m = 1) (dir : Nat) :
    s.Wrote (s.shiftLink m dir) m n (mW m) (s.linked m dir n) := by
  obtain ⟨⟨el, hel⟩, -⟩ := s.lasting_prep m
  have hpairs : (s.prep m).plain.mirrorPairs = s.plain.mirrorPairs := by rw [hel]
  have hpow : (s.prep m).plain.on = s.plain.on := by rw [hel]; rfl
  have hnon := (List.mem_filter.mp hn).1
  have hval : Store.get ((s.prep m).plain.hops dir (mEdge m) ((s.prep m).macroActive m) (mSrc2 m) ((s.prep m).shiftStart m)) n 0 =
      s.linked m dir n := by
    rw [h1, State.macroActive_prep]
    refine (Plain.get_hop _ _ _ hn (State.find?_shiftStart h0 hnon)).trans ?_
    rw [Plain.fromLink, State.linked, hpairs, hpow]
    cases hk : neighbour dir (mEdge m) (s.plain.mirrorPairs % 256 != 0) n with
    | none => rfl
    | some k =>
      dsimp only
      by_cases ho : s.plain.on (fieldOf k) = true
      · rw [if_pos ho, if_pos ho, Store.get, State.find?_shiftStart h0 ((s.plain.mem_onElems k).mpr ⟨neighbour_lt ((s.plain.mem_onElems n).mp hnon).1 hk, ho⟩)]
        rfl
      · rw [if_neg ho, if_neg ho]
  rw [State.shiftLink_eq, ← hval]
  have ho : opAddr m ((s.prep m).plain.elem n) 2 (mDst m) = s.dstAt m n := State.opAddr_prep _ _ _ _ _
  refine (State.plainEff_leaves hr hn _ _ _ (fun _ n e => { elem := e, reads := [(opAddr m e 1 (mSrc1 m), mW m)], writes := [(opAddr m e 2 (mDst m), mW m,
    Store.get ((s.prep m).plain.hops dir (mEdge m) ((s.prep m).macroActive m) (mSrc2 m) ((s.prep m).shiftStart m)) n 0)] }) rfl (ws := []) ?_
    (Nat.le_trans (mW_le m) (by decide))).1
  rw [← ho]
  rfl
end

/-! ### The statement -/

theorem State.plainSum_eq (s : State) (m : MacroInstr) (cost : Nat) (f : Int → Int → Int) : (s.plainFix m cost fun t => t.plainMap m (plainSum m f)) =
    s.plainOp m cost (fun _ => cost) fun t => t.plainMap m (binary m
      (fun a b e => (narrow (mSat m) (mSign m) (mW m) (f (reading (mSign m) (mW m) a) (reading (mSign m) (mW m) b)), e)) (mW m)) := rfl

section
variable {s : State} {m : MacroInstr} {n w a b : Nat} {rd : Nat → Int} (hr : s.pilotRuns = true) (hn : n ∈ s.acts m) (hw : w = mW m)
  (ha : a = s.plain.bits n (s.src1At m n) w) (hb : b = s.plain.bits n (s.src2At m n) w) (hrd : rd = reading (mSign m) w)
include hr hn hw ha hb hrd

theorem plainSum_wrote (cost : Nat) (f : Int → Int → Int) :
    s.Wrote (s.plainFix m cost fun t => t.plainMap m (plainSum m f)) m n w (narrow (mSat m) (mSign m) w (f (rd a) (rd b))) := by
  subst hw ha hb hrd
  rw [State.plainSum_eq]
  exact (State.binary_wrote hr hn _ _ _ _ (Nat.le_trans (mW_le m) (by decide)) rfl rfl rfl).1

theorem plainDiv_exact_leaves (h0 : rd b ≠ 0) (hov : ¬ (mSign m = true ∧ rd a = -(2 ^ (w - 1)) ∧ rd b = -1)) :
    (∃ t, exec (.plainDiv m) s = .next t ∧ s.WroteF t m n w (narrow false true w (Int.tdiv (rd a) (rd b))) false) ∧
    (∃ t, exec (.plainRem m) s = .next t ∧ s.WroteF t m n w (narrow false true w (Int.tmod (rd a) (rd b))) false) := by
  subst hw ha hb hrd
  have hdiv := plainDiv_exact h0 hov
  exact ⟨⟨_, rfl, (divide_leaves hr hn _ false hdiv).1⟩, ⟨_, rfl, (divide_leaves hr hn _ true hdiv).1⟩⟩

theorem plainDiv_overflow_leaves (hs : mSign m = true) (hmin : rd a = -(2 ^ (w - 1))) (hm1 : rd b = -1) :
    (∃ t, exec (.plainDiv m) s = .next t ∧ s.WroteF t m n w (narrow false true w (2 ^ (w - 1) - 1)) false) ∧
    (∃ t, exec (.plainRem m) s = .next t ∧ s.WroteF t m n w 0 false) := by
  subst hw ha hb hrd
  have hdiv := plainDiv_overflow hs hmin hm1
  refine ⟨⟨_, rfl, (divide_leaves hr hn _ false hdiv).1⟩, ⟨_, rfl, ?_⟩⟩
  have hz : narrow false true (mW m) 0 = 0 := congrArg BitVec.toNat (BitVec.ofInt_natCast (mW m) 0)
  rw [← hz]
  exact (divide_leaves hr hn _ true hdiv).1

theorem plainDiv_zero_leaves (h0 : rd b = 0) :
    (∃ t, exec (.plainDiv m) s = .next t ∧ s.WroteF t m n w (narrow false true w
      (if mSign m then (if rd a ≥ 0 then 2 ^ (w - 1) - 1 else -(2 ^ (w - 1))) else 2 ^ w - 1)) false) ∧
    (∃ t, exec (.plainRem m) s = .next t ∧ s.WroteF t m n w a false) ∧ ∃ t, exec (.plainDiv m) s = .next t ∧ (t.plain.elem n).dz = true := by
  subst hw ha hb hrd
  have hdiv := plainDiv_zero (a := s.plain.bits n (s.src1At m n) (mW m)) h0
  refine ⟨⟨_, rfl, (divide_leaves hr hn _ false hdiv).1⟩, ⟨_, rfl, ?_⟩, ⟨_, rfl, (divide_leaves hr hn _ false hdiv).2 rfl⟩⟩
  obtain ⟨hbits, hf⟩ := (divide_leaves hr hn (divCost (mW m) (mSign m) + addCost m false) true hdiv).1
  refine ⟨hbits.trans ?_, hf⟩
  rw [if_pos rfl, narrow_reading, Nat.mod_mod]
end

/-- Settles O41. -/
theorem plainArithmeticAndShiftsComplete : Obligations.PlainArithmeticAndShiftsComplete := by
  refine ⟨fun s m n w a b rd hr hn hw ha hb hrd => ⟨⟨_, rfl, plainSum_wrote hr hn hw ha hb hrd _ fun x y => x + y⟩,
    ⟨_, rfl, plainSum_wrote hr hn hw ha hb hrd _ fun x y => x - y⟩, ?_, ?_, ?_, ?_, ?_, ?_, plainDiv_exact_leaves hr hn hw ha hb hrd,
    plainDiv_overflow_leaves hr hn hw ha hb hrd, plainDiv_zero_leaves hr hn hw ha hb hrd⟩, fun s m n w a rd hr hn hw ha hrd => ?_⟩
  · subst hw ha hrd
    exact ⟨_, rfl, State.unary_wrote hr hn _ _ _ fun v => narrow (mSat m) (mSign m) (mW m) (reading (mSign m) (mW m) v + reading (mSign m) 13 (mSrc2 m))⟩
  · subst hw ha hrd
    exact ⟨_, rfl, State.unary_wrote hr hn _ _ _ fun v => narrow (mSat m) (mSign m) (mW m) (-(reading (mSign m) (mW m) v))⟩
  · subst hw ha hrd
    exact ⟨_, rfl, State.unary_wrote hr hn _ _ _ fun v => narrow (mSat m) (mSign m) (mW m) (Int.natAbs (reading (mSign m) (mW m) v))⟩
  · subst hw ha hb hrd
    exact plainMul_leaves hr hn
  · subst hw ha hb hrd
    exact plainMulw_leaves hr hn
  · subst hw ha hb hrd
    exact plainSmul_leaves hr hn
  · subst hw ha hrd
    refine ⟨⟨_, rfl, State.unary_wrote hr hn _ _ _ fun v => narrow (mSat m) (mSign m) (mW m) (reading (mSign m) (mW m) v * 2 ^ (mSrc2 m % 64))⟩,
      ⟨_, rfl, State.unary_wrote hr hn _ _ _ fun v => narrow false (mSign m) (mW m) (asr (reading (mSign m) (mW m) v) (mSrc2 m % 64))⟩,
      fun k hk => ?_, ⟨_, rfl, State.unary_wrote hr hn _ _ _ fun v => narrow true (mSign m) (mW m) (reading (mSign m) (mSrc2 m % 64 + 1) v)⟩,
      fun h0 h1 dir v hv => ?_⟩
    · subst hk
      exact ⟨_, rfl, State.unary_wrote hr hn _ _ _ fun v => narrow (mSat m) (mSign m) (mW m) (if toSigned 13 (mSrc2 m) ≥ 0
        then reading (mSign m) (mW m) v * 2 ^ (toSigned 13 (mSrc2 m)).toNat else roundShift (reading (mSign m) (mW m) v) (-(toSigned 13 (mSrc2 m))).toNat)⟩
    · have hshift := State.shiftLink_wrote hr hn h0 h1 dir
      rw [show s.linked m dir n = v from hv.symm] at hshift
      refine ⟨fun hd => ⟨_, rfl, hd ▸ hshift⟩, fun hd => ⟨_, rfl, hd ▸ hshift⟩, fun hd => ⟨_, rfl, hd ▸ hshift⟩, fun hd => ⟨_, rfl, hd ▸ hshift⟩⟩

end Sys2Proof.Machine
end

section
/-! SUPPORT. What a Plain instruction leaves as it was, and the statement PlainInstructionsFrame (SPEC chapter 14). -/

namespace Sys2Proof.Machine

/-! ### What the Plain's work leaves as it was -/

/-- Outside the planes, the element registers and the Pilot's own work, nothing differs but the trap requests and error notes. -/
structure State.PlainKeeps (s t : State) : Prop where
  mem : t.mem = s.mem
  chans : t.chans = s.chans
  wc : t.wc = s.wc
  omx : t.omx = s.omx
  tl : t.tl = s.tl
  time : t.time = s.time
  bbr : t.bbr = s.bbr
  scalars : ∀ k, k < 13 → t.pilot.s.getD k 0 = s.pilot.s.getD k 0
  regs : ∀ a, a ≠ Reg.pilotTrapPend → a ≠ Reg.pilotUeAddr → a ≠ Reg.scrubEvents → (∀ k, k < 8 → a ≠ Reg.pilotUeVec + 4 * k) → t.reg a = s.reg a
  power : t.plain.power = s.plain.power
  half : t.plain.half = s.plain.half

theorem State.PlainKeeps.refl (s : State) : s.PlainKeeps s := ⟨rfl, rfl, rfl, rfl, rfl, rfl, rfl, fun _ _ => rfl, fun _ _ _ _ _ => rfl, rfl, rfl⟩

theorem State.PlainKeeps.trans {s t u : State} (h : s.PlainKeeps t) (g : t.PlainKeeps u) : s.PlainKeeps u :=
  ⟨g.mem.trans h.mem, g.chans.trans h.chans, g.wc.trans h.wc, g.omx.trans h.omx, g.tl.trans h.tl, g.time.trans h.time, g.bbr.trans h.bbr,
    fun k hk => (g.scalars k hk).trans (h.scalars k hk), fun a h1 h2 h3 h4 => (g.regs a h1 h2 h3 h4).trans (h.regs a h1 h2 h3 h4),
    g.power.trans h.power, g.half.trans h.half⟩

/-- A change of the Plain that leaves power and HALF. -/
theorem State.keeps_plain (s : State) (p : Plain) (hp : p.power = s.plain.power) (hh : p.half = s.plain.half) : s.PlainKeeps { s with plain := p } :=
  ⟨rfl, rfl, rfl, rfl, rfl, rfl, rfl, fun _ _ => rfl, fun _ _ _ _ _ => rfl, hp, hh⟩

theorem State.keeps_of_plain {s t : State} (h : t = { s with plain := t.plain }) (hp : t.plain.power = s.plain.power) (hh : t.plain.half = s.plain.half) :
    s.PlainKeeps t := by
  rw [h]
  exact State.keeps_plain s t.plain hp hh

/-- A change of the Pilot that leaves S0 to S12. -/
theorem State.keeps_pilot (s : State) (p : Pilot) (h : ∀ k, k < 13 → p.s.getD k 0 = s.pilot.s.getD k 0) : s.PlainKeeps { s with pilot := p } :=
  ⟨rfl, rfl, rfl, rfl, rfl, rfl, rfl, h, fun _ _ _ _ _ => rfl, rfl, rfl⟩

theorem State.keeps_of_pilot {s t : State} (h : t = { s with pilot := t.pilot }) (hs : ∀ k, k < 13 → t.pilot.s.getD k 0 = s.pilot.s.getD k 0) :
    s.PlainKeeps t := by
  rw [h]
  exact State.keeps_pilot s t.pilot hs

theorem Plain.Beside.power {p q : Plain} (h : p.Beside q) : q.power = p.power := by
  obtain ⟨_, _, rfl⟩ := h
  rfl

/-- A trap request or error note. -/
theorem State.keeps_setReg (s : State) {a : Nat} (v : Word)
    (h : a = Reg.pilotTrapPend ∨ a = Reg.pilotUeAddr ∨ a = Reg.scrubEvents ∨ ∃ k, k < 8 ∧ a = Reg.pilotUeVec + 4 * k) : s.PlainKeeps (s.setReg a v) := by
  refine ⟨rfl, rfl, rfl, rfl, rfl, rfl, rfl, fun _ _ => rfl, fun b h1 h2 h3 h4 => State.reg_setReg_ne s v ?_, rfl, rfl⟩
  rcases h with rfl | rfl | rfl | ⟨k, hk, rfl⟩
  · exact h1
  · exact h2
  · exact h3
  · exact h4 k hk

theorem State.keeps_requestTrap (s : State) (code : Nat) (info : Word) : s.PlainKeeps (s.requestTrap code info) :=
  State.PlainKeeps.trans (State.keeps_setReg s _ (Or.inl rfl)) (State.keeps_pilot _ _ fun _ _ => rfl)

theorem State.keeps_noteCe (s : State) (key : Nat) : s.PlainKeeps (s.noteCe key) := by
  unfold State.noteCe
  dsimp only
  split
  · exact State.keeps_plain s _ rfl rfl
  · split
    · exact State.keeps_plain s _ rfl rfl
    · refine State.PlainKeeps.trans ?_ (State.keeps_setReg _ _ (Or.inr (Or.inr (Or.inl rfl))))
      exact State.keeps_of_plain rfl rfl rfl

theorem State.keeps_noteUe (s : State) {group : Nat} (addr : Nat) (h : group < 256) : s.PlainKeeps (s.noteUe group addr) := by
  unfold State.noteUe
  extract_lets f empty p first u t0 t1
  have hu : s.PlainKeeps u := State.keeps_of_plain rfl rfl rfl
  have h0 : s.PlainKeeps t0 := hu.trans (State.keeps_setReg u _ (Or.inr (Or.inr (Or.inr ⟨f / 2, by simp only [f]; omega, rfl⟩))))
  have h1 : s.PlainKeeps t1 := by
    simp only [t1]
    split
    · exact h0.trans (State.keeps_setReg _ _ (Or.inr (Or.inl rfl)))
    · exact h0
  exact h1.trans (State.keeps_requestTrap _ _ _)

theorem groupOf_lt {n : Nat} (h : n < 16384) : groupOf n < 256 := by
  have := fieldOf_lt h
  simp only [groupOf]
  omega

/-- An error is noted of a group row only where an element of the group takes part. -/
theorem State.keeps_eccAccess (s : State) {outs : List (Nat × ElemOut)} (h : ∀ o ∈ outs, o.1 < 16384) : s.PlainKeeps (s.eccAccess outs) := by
  refine List.foldlRecOn (motive := fun t : State => s.PlainKeeps t) _ _ (State.PlainKeeps.refl s) fun t ht e _ => ht.trans ?_
  have hlt : ∀ f : Nat × ElemOut → Bool, ∀ o ∈ (outs.filter fun o => groupOf o.1 == e.1 / 8192).filter f, e.1 / 8192 < 256 := fun f o ho => by
    obtain ⟨hout, hgroup⟩ := List.mem_filter.mp (List.mem_filter.mp ho).1
    rw [← beq_iff_eq.mp hgroup]
    exact groupOf_lt (h o hout)
  dsimp only
  generalize hread : ((outs.filter fun o => groupOf o.1 == e.1 / 8192).any fun o => s.plain.covers o.2.reads (e.1 % 8192)) = read
  generalize hwrote : ((outs.filter fun o => groupOf o.1 == e.1 / 8192).filter fun o =>
    s.plain.covers (o.2.writes.map fun w => (w.1, w.2.1)) (e.1 % 8192)) = wrote
  have hnote : t.PlainKeeps (if (read || (decide (0 < wrote.length) && decide (wrote.length < 64))) = true
      then (if e.2 = 1 then t.noteCe e.1 else t.noteUe (e.1 / 8192) (e.1 % 8192)) else t) := by
    split
    · next hc =>
      have hgroup : e.1 / 8192 < 256 := by
        rcases Bool.or_eq_true _ _ ▸ hc with hr | hw
        · rw [hr] at hread
          obtain ⟨o, ho, hcov⟩ := List.any_eq_true.mp hread
          exact hlt (fun o => s.plain.covers o.2.reads (e.1 % 8192)) o (List.mem_filter.mpr ⟨ho, hcov⟩)
        · simp only [Bool.and_eq_true, decide_eq_true_eq] at hw
          obtain ⟨o, ho⟩ := List.exists_mem_of_length_pos hw.1
          rw [← hwrote] at ho
          exact hlt _ o ho
      split
      · exact t.keeps_noteCe _
      · exact t.keeps_noteUe _ hgroup
    · exact State.PlainKeeps.refl t
  split
  · exact hnote.trans (State.keeps_plain _ _ rfl rfl)
  · exact hnote

theorem State.keeps_elemStep (s : State) (l : List Nat) (g : Nat → ElemOut) (h : ∀ n ∈ l, n < 16384) : s.PlainKeeps (s.elemStep (l.map fun n => (n, g n))) := by
  have hlt : ∀ o ∈ (l.map fun n => (n, g n)), o.1 < 16384 := fun o ho => by
    obtain ⟨n, hn, rfl⟩ := List.mem_map.mp ho
    exact h n hn
  have hb := s.plain.beside_acted l g
  have hacc := s.keeps_eccAccess hlt
  have hp : (s.eccAccess (l.map fun n => (n, g n))).PlainKeeps (s.elemStep (l.map fun n => (n, g n))) := by
    refine State.keeps_plain _ _ ?_ ?_
    · exact hb.power.trans hacc.power.symm
    · exact hb.half.trans hacc.half.symm
  exact hacc.trans hp

theorem State.keeps_clearF (s : State) : s.PlainKeeps s.clearF := by
  have hb := s.plain.beside_cleared s.plain.onElems
  exact State.keeps_of_plain (s := s) (t := s.clearF) rfl hb.power hb.half

theorem State.keeps_arith (s : State) (l : List Nat) : s.PlainKeeps (s.arith l) := by
  unfold State.arith
  split
  · exact State.PlainKeeps.refl s
  · exact s.keeps_requestTrap _ _

theorem State.keeps_plainCycles (s : State) (n : Nat) : s.PlainKeeps (s.plainCycles n) := by
  unfold State.plainCycles
  dsimp only
  split
  · refine State.PlainKeeps.trans ?_ (State.keeps_requestTrap _ _ _)
    exact State.keeps_of_pilot rfl fun _ _ => rfl
  · exact State.keeps_pilot s _ fun _ _ => rfl

theorem getD_set_of_lt (l : List Word) {i k : Nat} (v : Word) (h : k < i) : (l.set i v).getD k 0 = l.getD k 0 := by
  rw [List.getD_eq_getElem?_getD, List.getD_eq_getElem?_getD, List.getElem?_set_ne (Nat.ne_of_gt h)]

theorem State.keeps_charge (s : State) (cost spent : Nat) : s.PlainKeeps (s.charge cost spent) :=
  State.PlainKeeps.trans (State.keeps_pilot s _ fun _ hk => getD_set_of_lt _ _ (Nat.lt_succ_of_lt hk)) (State.keeps_plainCycles _ _)

theorem State.keeps_loopBack (s : State) (a : Nat) : s.PlainKeeps (s.loopBack a) := by
  unfold State.loopBack
  split
  · exact State.PlainKeeps.refl s
  · split
    · exact State.PlainKeeps.refl s
    · dsimp only
      split
      · refine State.PlainKeeps.trans ?_ (State.keeps_charge _ _ _)
        exact State.keeps_of_pilot rfl fun _ _ => rfl
      · exact State.keeps_pilot s _ fun _ _ => rfl

theorem Plain.Lasting.beside {p q : Plain} (h : p.Lasting q) : p.Beside q := by
  obtain ⟨⟨_, rfl⟩, -⟩ := h
  exact ⟨_, _, rfl⟩

theorem State.keeps_loadMask (s : State) (m : MacroInstr) : s.PlainKeeps (s.loadMask m) := by
  rw [State.loadMask_eq]
  split
  · exact State.PlainKeeps.refl s
  · have hb := (s.plain.lasting_masked s.plain.onElems (s.plain.mask s.pilot.maskD)).beside
    exact State.keeps_plain s _ hb.power hb.half

theorem State.keeps_prep (s : State) (m : MacroInstr) : s.PlainKeeps (s.prep m) := by
  unfold State.prep
  refine State.PlainKeeps.trans ?_ (State.keeps_loadMask _ m)
  exact ⟨rfl, rfl, rfl, rfl, rfl, rfl, rfl, fun _ _ => rfl, fun _ _ _ _ _ => rfl, rfl, rfl⟩

theorem State.keeps_plainOp {s : State} (hr : s.pilotRuns = true) (m : MacroInstr) (cost : Nat) (spent : State → Nat) {eff : State → State}
    (h : (s.prep m).PlainKeeps (eff (s.prep m))) : s.PlainKeeps (s.plainOp m cost spent eff) := by
  have hend : (eff (s.prep m)).PlainKeeps (s.plainOp m cost spent eff) := by
    unfold State.plainOp
    rw [hr]
    refine State.PlainKeeps.trans (State.PlainKeeps.trans (State.PlainKeeps.trans ?_ (State.keeps_charge _ _ _)) (State.keeps_loopBack _ _))
      (State.keeps_loopBack _ _)
    exact ⟨rfl, rfl, rfl, rfl, rfl, rfl, rfl, fun _ _ => rfl, fun _ _ _ _ _ => rfl, rfl, rfl⟩
  exact ((s.keeps_prep m).trans h).trans hend

/-! ### Planes (R534) -/

/-- Of the planes only `wd` from `at_ n` and `sc` scratch planes of the elements of `l` may differ. -/
def Plain.PlanesStay (p q : Plain) (l : List Nat) (wd sc : Nat) (at_ : Nat → Nat) : Prop :=
  ∀ n a, a < 8192 → (n ∉ l ∨ (∀ k, k < wd → p.phys (at_ n + k) ≠ a) ∧ (∀ k, k < sc → p.phys (0x1D80 + k) ≠ a)) → q.bitAt n a = p.bitAt n a

theorem Plain.planesStay_of_mem {p q : Plain} (h : q.mem = p.mem) (l : List Nat) (wd sc : Nat) (at_ : Nat → Nat) : p.PlanesStay q l wd sc at_ :=
  fun n a _ _ => by rw [Plain.bitAt, Plain.bitAt, h]

/-- The frame of a Plain instruction. -/
def State.Framed (s t : State) (l : List Nat) (wd sc : Nat) (at_ : Nat → Nat) : Prop := s.plain.PlanesStay t.plain l wd sc at_ ∧ s.PlainKeeps t

section
variable {s : State} {m : MacroInstr} (hr : s.pilotRuns = true)
include hr

theorem State.framed_plainOp (cost : Nat) (spent : State → Nat) {eff : State → State} {l : List Nat} {wd sc : Nat} {at_ : Nat → Nat}
    (hk : (s.prep m).PlainKeeps (eff (s.prep m))) (hb : (s.prep m).plain.PlanesStay (eff (s.prep m)).plain l wd sc at_) :
    s.Framed (s.plainOp m cost spent eff) l wd sc at_ := by
  refine ⟨fun n a ha h => ?_, State.keeps_plainOp hr m cost spent hk⟩
  obtain ⟨k, hleft⟩ := State.plain_plainOp hr m cost spent eff
  obtain ⟨⟨el, hel⟩, -⟩ := s.lasting_prep m
  have hphys : (s.prep m).plain.phys = s.plain.phys := Plain.phys_congr (by rw [hel])
  have hprep : (s.prep m).plain.bitAt n a = s.plain.bitAt n a := by rw [Plain.bitAt, Plain.bitAt, hel]
  have hend : (s.plainOp m cost spent eff).plain.bitAt n a = (eff (s.prep m)).plain.bitAt n a := by rw [Plain.bitAt, Plain.bitAt, hleft]
  rw [hend, ← hprep]
  exact hb n a ha (by rwa [hphys])

/-- An instruction that writes no plane. -/
theorem State.framed_still (cost : Nat) (spent : State → Nat) {eff : State → State} {l : List Nat} {wd sc : Nat} {at_ : Nat → Nat}
    (hk : (s.prep m).PlainKeeps (eff (s.prep m))) (hm : (eff (s.prep m)).plain.mem = (s.prep m).plain.mem) :
    s.Framed (s.plainOp m cost spent eff) l wd sc at_ := State.framed_plainOp hr cost spent hk (Plain.planesStay_of_mem hm l wd sc at_)
end

/-- The writes of an element are the operand and, perhaps, the scratch planes. -/
def WritesOnly (ws : List (Nat × Nat × Nat)) (a wd sc : Nat) : Prop := ∀ w ∈ ws, w.1 = a ∧ w.2.1 = wd ∨ w.1 = 0x1D80 ∧ w.2.1 = sc

theorem writesOnly_one (a wd sc v : Nat) : WritesOnly [(a, wd, v)] a wd sc := fun w hw => by
  obtain rfl := List.mem_singleton.mp hw
  exact Or.inl ⟨rfl, rfl⟩

theorem writesOnly_scratch (a wd v x : Nat) : WritesOnly [(0x1D80, 380, x), (a, wd, v)] a wd 380 := fun w hw => by
  rcases List.mem_cons.mp hw with rfl | hw
  · exact Or.inr ⟨rfl, rfl⟩
  · exact writesOnly_one a wd 380 v w hw

theorem Plain.planesStay_acted (p : Plain) (l : List Nat) (g : Nat → ElemOut) {wd sc : Nat} {at_ : Nat → Nat}
    (h : ∀ n ∈ l, WritesOnly (g n).writes (at_ n) wd sc) : p.PlanesStay (p.acted l g) l wd sc at_ := fun n a ha hn => by
  by_cases hl : n ∈ l
  · refine Plain.bitAt_acted_apart p l g ha (Or.inr fun w hw i hi => ?_)
    obtain ⟨hdst, hscratch⟩ := hn.resolve_left (not_not_intro hl)
    rcases h n hl w hw with ⟨h1, h2⟩ | ⟨h1, h2⟩
    · rw [h1]
      exact hdst i (h2 ▸ hi)
    · rw [h1]
      exact hscratch i (h2 ▸ hi)
  · exact Plain.bitAt_acted_apart p l g ha (Or.inl hl)

theorem State.writesOnly_binary (s : State) (m : MacroInstr) (f : Nat → Nat → Elem → Nat × Elem) (wd sc n : Nat) :
    WritesOnly (binary m f wd (s.prep m).plain n ((s.prep m).plain.elem n)).writes (s.dstAt m n) wd sc := by
  rw [State.writes_binary s m n f wd rfl]
  exact writesOnly_one _ _ _ _

section
variable {s : State} {m : MacroInstr} (hr : s.pilotRuns = true)

theorem State.acts_lt {n : Nat} (h : n ∈ s.acts m) : n < 16384 := ((s.plain.mem_onElems n).mp (List.mem_filter.mp h).1).1

include hr

/-- An element-wise instruction. -/
theorem State.framed_map (cost : Nat) (spent : State → Nat) {eff : State → State} (f : Plain → Nat → Elem → ElemOut) {wd sc : Nat} {at_ : Nat → Nat}
    (heff : eff (s.prep m) = (s.prep m).plainMap m f)
    (h : ∀ n ∈ s.acts m, WritesOnly (f (s.prep m).plain n ((s.prep m).plain.elem n)).writes (at_ n) wd sc) :
    s.Framed (s.plainOp m cost spent eff) (s.acts m) wd sc at_ := by
  have hmap : eff (s.prep m) = (s.prep m).elemStep ((s.acts m).map fun n => (n, f (s.prep m).plain n ((s.prep m).plain.elem n))) := by
    rw [heff, State.plainMap, State.macroActive_prep]
  refine State.framed_plainOp hr cost spent ?_ ?_
  · rw [hmap]
    exact State.keeps_elemStep _ _ _ fun n hn => State.acts_lt hn
  · rw [hmap]
    exact Plain.planesStay_acted _ _ (fun n => f (s.prep m).plain n ((s.prep m).plain.elem n)) h

/-- An element-wise instruction that then clears F and notes the fields of zero divisors. -/
theorem State.framed_cleared (cost : Nat) (spent : State → Nat) {eff : State → State} (f : Plain → Nat → Elem → ElemOut) {zero : List Nat} {wd sc : Nat}
    {at_ : Nat → Nat} (heff : eff (s.prep m) = ((s.prep m).plainMap m f).clearF.arith zero)
    (h : ∀ n ∈ s.acts m, WritesOnly (f (s.prep m).plain n ((s.prep m).plain.elem n)).writes (at_ n) wd sc) :
    s.Framed (s.plainOp m cost spent eff) (s.acts m) wd sc at_ := by
  have hmap : (s.prep m).plainMap m f = (s.prep m).elemStep ((s.acts m).map fun n => (n, f (s.prep m).plain n ((s.prep m).plain.elem n))) := by
    rw [State.plainMap, State.macroActive_prep]
  refine State.framed_plainOp hr cost spent ?_ ?_
  · rw [heff, hmap]
    exact State.PlainKeeps.trans (State.PlainKeeps.trans (State.keeps_elemStep _ _ _ fun n hn => State.acts_lt hn) (State.keeps_clearF _)) (State.keeps_arith _ _)
  · rw [heff, State.plain_arith, State.clearF_eq, hmap]
    intro n a ha hn
    have hmem : ∀ p : Plain, (p.cleared p.onElems).bitAt n a = p.bitAt n a := fun p => by rw [Plain.bitAt, Plain.bitAt, Plain.mem_cleared]
    exact (hmem _).trans (Plain.planesStay_acted _ _ (fun n => f (s.prep m).plain n ((s.prep m).plain.elem n)) h n a ha hn)

theorem State.framed_unary (cost : Nat) (spent : State → Nat) (ws : Nat) (f : Nat → Elem → Nat) :
    s.Framed (s.plainOp m cost spent fun t => t.plainMap m (unary m ws f)) (s.acts m) (mW m) 0 (s.dstAt m) :=
  State.framed_map hr cost spent _ rfl fun n _ => by
    rw [← show opAddr m ((s.prep m).plain.elem n) 2 (mDst m) = s.dstAt m n from State.opAddr_prep _ _ _ _ _]
    exact writesOnly_one _ _ _ _

theorem State.framed_binary (cost : Nat) (spent : State → Nat) (f : Nat → Nat → Elem → Nat × Elem) (wd : Nat) :
    s.Framed (s.plainOp m cost spent fun t => t.plainMap m (binary m f wd)) (s.acts m) wd 0 (s.dstAt m) :=
  State.framed_map hr cost spent _ rfl fun n _ => s.writesOnly_binary m f wd 0 n
end

/-! ### The instructions -/

/-- What a scan leaves in an element. -/
def State.scanned (s : State) (m : MacroInstr) (op : Int → Int → Int) (inclusive : Bool) (n : Nat) : Nat :=
  let i := (chainPos (mEdge m == 3) n).1
  let lo := i / 2 ^ min (mSrc2 m) 14 * 2 ^ min (mSrc2 m) 14
  narrow false true (mW m) ((s.accumulate m op (chainPos (mEdge m == 3) n).2 (s.macroActive m) lo (i - lo + inclusive.toNat)).getD 0)

theorem State.scanOp_eq (s : State) (m : MacroInstr) (cost : Nat) (op : Int → Int → Int) (inclusive : Bool) : s.scanOp m cost op inclusive =
    s.plainOp m (cost + addCost m false) (fun _ => cost + addCost m false) fun t => t.plainMap m fun _ n e =>
      { elem := e, reads := [(opAddr m e 1 (mSrc1 m), mW m)], writes := [(opAddr m e 2 (mDst m), mW m, t.scanned m op inclusive n)] } := rfl

/-- The effect of a global extreme. -/
def State.globalEff (m : MacroInstr) (pick : Int → Int → Int) (t : State) : State :=
  match (t.macroActive m).map fun n => reading (mSign m) (mW m) (src1Of m t.plain n (t.plain.elem n) (mW m)) with
  | [] => t.clearF
  | v :: r => t.clearF.plainMap m fun _ n e =>
      { elem := { e with f := reading (mSign m) (mW m) (src1Of m t.plain n (t.plain.elem n) (mW m)) == r.foldl pick v },
        reads := [(opAddr m e 1 (mSrc1 m), mW m)], writes := [(opAddr m e 2 (mDst m), mW m, narrow false true (mW m) (r.foldl pick v))] }

theorem State.globalExtreme_eq (s : State) (m : MacroInstr) (pick : Int → Int → Int) : s.globalExtreme m pick =
    s.plainOp m (7 * mW m + 6 + addCost m false) (fun _ => 7 * mW m + 6 + addCost m false) (State.globalEff m pick) := rfl

theorem State.macroActive_clearF (s : State) (m : MacroInstr) : s.clearF.macroActive m = s.macroActive m := by
  have hb := s.plain.beside_cleared s.plain.onElems
  unfold State.macroActive Plain.active
  rw [State.clearF_eq, Plain.onElems_congr hb.power]
  refine List.filter_congr fun n _ => ?_
  rw [Plain.keeps_cleared Elem.m Plain.m_elem fun _ => rfl]

section
variable {s : State} {m : MacroInstr} (hr : s.pilotRuns = true)
include hr

/-- A write of DST and nothing else. -/
theorem State.framed_write (cost : Nat) (spent : State → Nat) {eff : State → State} (f : Plain → Nat → Elem → ElemOut)
    (heff : eff (s.prep m) = (s.prep m).plainMap m f) (h : ∀ p n e, ∃ v, (f p n e).writes = [(opAddr m e 2 (mDst m), mW m, v)]) :
    s.Framed (s.plainOp m cost spent eff) (s.acts m) (mW m) 0 (s.dstAt m) :=
  State.framed_map hr cost spent f heff fun n _ => by
    obtain ⟨v, hv⟩ := h (s.prep m).plain n ((s.prep m).plain.elem n)
    rw [hv, show opAddr m ((s.prep m).plain.elem n) 2 (mDst m) = s.dstAt m n from State.opAddr_prep _ _ _ _ _]
    exact writesOnly_one _ _ _ _

theorem State.framed_sum (cost : Nat) (f : Int → Int → Int) :
    s.Framed (s.plainFix m cost fun t => t.plainMap m (plainSum m f)) (s.acts m) (mW m) 0 (s.dstAt m) := by
  rw [State.plainSum_eq]
  exact State.framed_binary hr _ _ _ _

theorem State.framed_bitwise (f : Nat → Nat → Nat) : s.Framed (s.bitwise m f) (s.acts m) (mW m) 0 (s.dstAt m) := by
  rw [State.bitwise_eq]
  exact State.framed_binary hr _ _ _ _

theorem State.framed_extreme (first : Int → Int → Bool) : s.Framed (s.extreme m first) (s.acts m) (mW m) 0 (s.dstAt m) := by
  rw [State.extreme_eq]
  exact State.framed_binary hr _ _ _ _

theorem State.framed_compare (rel : Int → Int → Bool) : s.Framed (s.compare m rel) (s.acts m) 1 0 (s.dstAt m) := by
  rw [State.compare_eq]
  exact State.framed_binary hr _ _ _ _

theorem State.framed_shiftLink (dir : Nat) : s.Framed (s.shiftLink m dir) (s.acts m) (mW m) 0 (s.dstAt m) := by
  rw [State.shiftLink_eq]
  exact State.framed_write hr _ _ _ rfl fun _ _ _ => ⟨_, rfl⟩

theorem State.framed_scanOp (cost : Nat) (op : Int → Int → Int) (inclusive : Bool) :
    s.Framed (s.scanOp m cost op inclusive) (s.acts m) (mW m) 0 (s.dstAt m) := by
  rw [State.scanOp_eq]
  exact State.framed_write hr _ _ _ rfl fun _ _ _ => ⟨_, rfl⟩

/-- A product of `wd` bits. -/
theorem State.framed_product (cost : Nat) (spent : State → Nat) (f : Nat → Nat → Elem → Nat × Elem) (wd : Nat) :
    s.Framed (s.plainOp m cost spent fun t => (t.plainMap m (binary m f wd)).clearF) (s.acts m) wd 0 (s.dstAt m) :=
  State.framed_cleared hr cost spent (binary m f wd) (zero := []) rfl fun n _ => s.writesOnly_binary m f wd 0 n

/-- A routine that also uses the scratch planes. -/
theorem State.framed_scratch (cost : Nat) (spent : State → Nat) {eff : State → State} (k : Nat) (f : Nat → Nat → Nat → Elem → Nat × Elem) {zero : List Nat}
    (heff : eff (s.prep m) = ((s.prep m).plainMap m fun p n e => scratch k n (binary m (f n) (mW m) p n e)).clearF.arith zero) :
    s.Framed (s.plainOp m cost spent eff) (s.acts m) (mW m) 380 (s.dstAt m) :=
  State.framed_cleared hr cost spent _ heff fun n _ => by
    show WritesOnly ((0x1D80, 380, (Config.plainScratch k n).toNat) :: (binary m (f n) (mW m) (s.prep m).plain n ((s.prep m).plain.elem n)).writes) _ _ _
    rw [State.writes_binary s m n (f n) (mW m) rfl]
    exact writesOnly_scratch _ _ _ _

/-- A global extreme acts after F is cleared. -/
theorem State.framed_globalExtreme (pick : Int → Int → Int) : s.Framed (s.globalExtreme m pick) (s.acts m) (mW m) 0 (s.dstAt m) := by
  rw [State.globalExtreme_eq]
  have hmem : (s.prep m).clearF.plain.mem = (s.prep m).plain.mem := Plain.mem_cleared _ _
  refine State.framed_plainOp hr _ _ ?_ ?_
  · unfold State.globalEff
    split
    · exact State.keeps_clearF _
    · refine (State.keeps_clearF _).trans ?_
      rw [State.plainMap, State.macroActive_clearF, State.macroActive_prep]
      exact State.keeps_elemStep _ _ _ fun n hn => State.acts_lt hn
  · unfold State.globalEff
    split
    · exact Plain.planesStay_of_mem hmem _ _ _ _
    · next v r _ =>
      intro n a ha hn
      rw [State.plainMap, State.macroActive_clearF, State.macroActive_prep]
      have hclear : (s.prep m).clearF.plain.bitAt n a = (s.prep m).plain.bitAt n a := by rw [Plain.bitAt, Plain.bitAt, hmem]
      have hphys : (s.prep m).clearF.plain.phys = (s.prep m).plain.phys := Plain.phys_congr (State.keeps_clearF _).half
      refine (Plain.planesStay_acted (s.prep m).clearF.plain (s.acts m) (at_ := s.dstAt m) (wd := mW m) (sc := 0) (fun n => _) (fun k _ => ?_) n a ha
        (by rwa [hphys])).trans hclear
      have haddr : opAddr m ((s.prep m).clearF.plain.elem k) 2 (mDst m) = s.dstAt m k := by
        rw [opAddr, State.clearF_eq, Plain.keeps_cleared Elem.ix Plain.ix_elem fun _ => rfl]
        exact State.opAddr_prep s m k 2 (mDst m)
      rw [← haddr]
      exact writesOnly_one _ _ _ _
end

theorem State.divide_eq (s : State) (m : MacroInstr) (rem : Bool) : s.divide m rem = (s.plainMap m fun p n e => scratch s.freeCtr n
    (binary m (fun a b e => (narrow false true (mW m) (if rem then (plainDiv (mSign m) (mW m) a b).2.1 else (plainDiv (mSign m) (mW m) a b).1),
      { e with dz := e.dz || (plainDiv (mSign m) (mW m) a b).2.2, ix := (Config.plainIx s.freeCtr n).toNat })) (mW m) p n e)).clearF.arith
        ((s.macroActive m).filter fun n => src2Of m s.plain n (s.plain.elem n) (mW m) == 0) := rfl

theorem State.scalars_prep (s : State) (m : MacroInstr) : (s.prep m).pilot.s = s.pilot.s := by
  unfold State.prep
  rw [State.loadMask_eq]
  split <;> rfl

theorem State.maskD_prep (s : State) (m : MacroInstr) : (s.prep m).pilot.maskD = s.pilot.maskD := by
  rw [Pilot.maskD, Pilot.maskD, State.scalars_prep]

theorem State.onElems_prep (s : State) (m : MacroInstr) : (s.prep m).plain.onElems = s.plain.onElems := Plain.onElems_congr (s.lasting_prep m).beside.power

theorem State.keeps_setMaskD (s : State) (d : Nat) : s.PlainKeeps (s.setMaskD d) := State.keeps_pilot s _ fun _ hk => getD_set_of_lt _ _ hk

theorem State.keeps_putMask (s : State) (d : Nat) (f : Nat → Bool) : s.PlainKeeps (s.putMask d f) :=
  State.keeps_elemStep s s.plain.onElems (fun n => { elem := s.plain.elem n, writes := [(0x1EFC + d, 1, (f n).toNat)] })
    fun n hn => ((s.plain.mem_onElems n).mp hn).1

theorem State.planesStay_putMask (s : State) (d : Nat) (f : Nat → Bool) :
    s.plain.PlanesStay (s.putMask d f).plain s.plain.onElems 1 0 fun _ => 0x1EFC + d :=
  Plain.planesStay_acted _ _ (fun n => { elem := s.plain.elem n, writes := [(0x1EFC + d, 1, (f n).toNat)] }) fun _ _ => writesOnly_one _ _ _ _

section
variable {s : State} {m : MacroInstr} (hr : s.pilotRuns = true)
include hr

/-- A mask push that the stack has room for. -/
theorem State.framed_maskPush (hd : s.pilot.maskD ≤ 3) (cost : Nat) (cond : State → Nat → Bool) :
    s.Framed (s.plainGuarded m cost (decide (s.pilot.maskD ≥ 4)) 2 fun t => t.maskPush cond) s.plain.onElems 1 0 fun _ => 0x1EFC + s.pilot.maskD := by
  have hgo : ¬ (s.pilotRuns && decide (s.pilot.maskD ≥ 4)) = true := by
    rw [decide_eq_false (by omega), Bool.and_false]
    decide
  rw [State.plainGuarded, if_neg hgo]
  refine State.framed_plainOp hr cost _ ((State.keeps_putMask _ _ _).trans (State.keeps_setMaskD _ _)) ?_
  have hput := (s.prep m).planesStay_putMask (s.prep m).pilot.maskD fun n => (s.prep m).plain.mask (s.prep m).pilot.maskD n && cond (s.prep m) n
  rw [State.onElems_prep, s.maskD_prep m] at hput
  have heff : ((s.prep m).maskPush cond).plain =
      ((s.prep m).putMask s.pilot.maskD fun n => (s.prep m).plain.mask s.pilot.maskD n && cond (s.prep m) n).plain := by
    rw [← s.maskD_prep m]
    rfl
  rw [heff]
  exact hput

theorem State.framed_melse (h1 : 1 ≤ s.pilot.maskD) :
    ∃ u, exec (.plainMelse m) s = .next u ∧ s.Framed u s.plain.onElems 1 0 fun _ => 0x1EFC + s.pilot.maskD - 1 := by
  have hgo : ¬ (s.pilotRuns && decide (s.pilot.maskD = 0)) = true := by
    rw [decide_eq_false (by omega), Bool.and_false]
    decide
  have hput := (s.prep m).planesStay_putMask ((s.prep m).pilot.maskD - 1) fun n => (s.prep m).plain.mask ((s.prep m).pilot.maskD - 1) n &&
    !(s.prep m).plain.mask (s.prep m).pilot.maskD n
  rw [State.onElems_prep, s.maskD_prep m, ← Nat.add_sub_assoc h1, ← s.maskD_prep m] at hput
  refine ⟨_, congrArg Host.Outcome.next (if_neg hgo), State.framed_plainOp hr 4 _ (State.keeps_putMask _ _ _) ?_⟩
  rw [← s.maskD_prep m]
  exact hput

theorem State.framed_mpop (h1 : 1 ≤ s.pilot.maskD) (at_ : Nat → Nat) : ∃ u, exec (.plainMpop m) s = .next u ∧ s.Framed u [] 0 0 at_ := by
  have hgo : ¬ (s.pilotRuns && decide (s.pilot.maskD = 0)) = true := by
    rw [decide_eq_false (by omega), Bool.and_false]
    decide
  exact ⟨_, congrArg Host.Outcome.next (if_neg hgo), State.framed_still hr 2 _ (State.keeps_setMaskD _ _) rfl⟩

/-- An element-wise instruction that writes no plane. -/
theorem State.framed_registers (cost : Nat) (spent : State → Nat) {eff : State → State} (f : Plain → Nat → Elem → ElemOut)
    (heff : eff (s.prep m) = (s.prep m).plainMap m f ∨ eff (s.prep m) = ((s.prep m).plainMap m f).clearF) (h : ∀ p n e, (f p n e).writes = [])
    (at_ : Nat → Nat) : s.Framed (s.plainOp m cost spent eff) [] 0 0 at_ := by
  have hmap : (s.prep m).plainMap m f = (s.prep m).elemStep ((s.acts m).map fun n => (n, f (s.prep m).plain n ((s.prep m).plain.elem n))) := by
    rw [State.plainMap, State.macroActive_prep]
  have hkeep : (s.prep m).PlainKeeps ((s.prep m).plainMap m f) := by
    rw [hmap]
    exact State.keeps_elemStep _ _ _ fun n hn => State.acts_lt hn
  have hmem : ((s.prep m).plainMap m f).plain.mem = (s.prep m).plain.mem := by
    rw [hmap]
    exact Plain.mem_acted_of_no_write _ _ (fun n => f (s.prep m).plain n ((s.prep m).plain.elem n)) fun n => h _ _ _
  rcases heff with heff | heff
  · exact State.framed_still hr cost spent (by rw [heff]; exact hkeep) (by rw [heff, hmem])
  · exact State.framed_still hr cost spent (by rw [heff]; exact hkeep.trans (State.keeps_clearF _))
      (by rw [heff, State.clearF_eq]; exact (Plain.mem_cleared _ _).trans hmem)

/-- An instruction that works on the Pilot alone. -/
theorem State.framed_pilot (cost : Nat) (spent : State → Nat) {eff : State → State}
    (heff : eff (s.prep m) = { s.prep m with pilot := (eff (s.prep m)).pilot } ∧ (eff (s.prep m)).pilot.s = (s.prep m).pilot.s) (at_ : Nat → Nat) :
    s.Framed (s.plainOp m cost spent eff) [] 0 0 at_ := by
  obtain ⟨hp, hs⟩ := heff
  exact State.framed_still hr cost spent (State.keeps_of_pilot hp fun k _ => by rw [hs]) (by rw [hp])

theorem State.framed_branch (c : State → Bool) (at_ : Nat → Nat) : s.Framed (s.branch m c) [] 0 0 at_ := by
  refine State.framed_pilot hr 16 _ ?_ at_
  split
  · exact ⟨rfl, rfl⟩
  · exact ⟨rfl, rfl⟩

theorem State.framed_tlerp : ∃ u, exec (.plainTlerp m) s = .next u ∧ s.Framed u (s.acts m) (mW m) 380 fun _ => mDst m :=
  ⟨_, rfl, State.framed_cleared hr _ _ _ rfl fun _ _ => writesOnly_scratch _ _ _ _⟩

theorem State.framed_divide (c : Nat) (rem : Bool) : s.Framed (s.plainOp m c (freeSpent c) fun t => t.divide m rem) (s.acts m) (mW m) 380 (s.dstAt m) :=
  State.framed_scratch hr c (freeSpent c) (eff := fun t => t.divide m rem) (s.prep m).freeCtr _ (State.divide_eq (s.prep m) m rem)

/-- The instructions that write DST. -/
theorem framed_dst : ∀ i ∈ [Instr.plainMov m, .plainMovx m, .plainLdi m, .plainAdd m, .plainSub m, .plainAddi m, .plainNeg m, .plainAbs m, .plainMul m,
      .plainAnd m, .plainOr m, .plainXor m, .plainAndn m, .plainNot m, .plainSel m, .plainMin m, .plainMax m, .plainShl m, .plainShr m, .plainScl m,
      .plainSatn m, .plainNshn m, .plainNshe m, .plainNshs m, .plainNshw m, .plainPsum m, .plainPsumx m, .plainRmax m, .plainRmin m, .plainGmax m,
      .plainGmin m], ∃ u, exec i s = .next u ∧ s.Framed u (s.acts m) (mW m) 0 (s.dstAt m) := by
  simp only [List.forall_mem_cons]
  exact ⟨⟨_, rfl, State.framed_unary hr _ _ _ _⟩, ⟨_, rfl, State.framed_unary hr _ _ _ _⟩,
    ⟨_, rfl, State.framed_write hr _ _ _ rfl fun _ _ _ => ⟨_, rfl⟩⟩, ⟨_, rfl, State.framed_sum hr _ _⟩, ⟨_, rfl, State.framed_sum hr _ _⟩,
    ⟨_, rfl, State.framed_unary hr _ _ _ _⟩, ⟨_, rfl, State.framed_unary hr _ _ _ _⟩, ⟨_, rfl, State.framed_unary hr _ _ _ _⟩,
    ⟨_, rfl, State.framed_product hr _ _ _ _⟩, ⟨_, rfl, State.framed_bitwise hr _⟩, ⟨_, rfl, State.framed_bitwise hr _⟩,
    ⟨_, rfl, State.framed_bitwise hr _⟩, ⟨_, rfl, State.framed_bitwise hr _⟩, ⟨_, rfl, State.framed_unary hr _ _ _ _⟩,
    ⟨_, rfl, State.framed_binary hr _ _ _ _⟩, ⟨_, rfl, State.framed_extreme hr _⟩, ⟨_, rfl, State.framed_extreme hr _⟩,
    ⟨_, rfl, State.framed_unary hr _ _ _ _⟩, ⟨_, rfl, State.framed_unary hr _ _ _ _⟩, ⟨_, rfl, State.framed_unary hr _ _ _ _⟩,
    ⟨_, rfl, State.framed_unary hr _ _ _ _⟩, ⟨_, rfl, State.framed_shiftLink hr _⟩, ⟨_, rfl, State.framed_shiftLink hr _⟩,
    ⟨_, rfl, State.framed_shiftLink hr _⟩, ⟨_, rfl, State.framed_shiftLink hr _⟩, ⟨_, rfl, State.framed_scanOp hr _ _ _⟩,
    ⟨_, rfl, State.framed_scanOp hr _ _ _⟩, ⟨_, rfl, State.framed_scanOp hr _ _ _⟩, ⟨_, rfl, State.framed_scanOp hr _ _ _⟩,
    ⟨_, rfl, State.framed_globalExtreme hr _⟩, ⟨_, rfl, State.framed_globalExtreme hr _⟩, List.forall_mem_nil _⟩

/-- The routines with scratch planes that write DST. -/
theorem framed_dst_scratch : ∀ i ∈ [Instr.plainSmul m, .plainDiv m, .plainRem m],
    ∃ u, exec i s = .next u ∧ s.Framed u (s.acts m) (mW m) 380 (s.dstAt m) := by
  simp only [List.forall_mem_cons]
  exact ⟨⟨_, rfl, State.framed_scratch hr _ _ _ (fun _ a b e => (narrow false true (mW m) (toSigned (mW m) a * toSigned (mW m) b), e)) (zero := []) rfl⟩,
    ⟨_, rfl, State.framed_divide hr _ _⟩, ⟨_, rfl, State.framed_divide hr _ _⟩, List.forall_mem_nil _⟩

theorem framed_compares : ∀ i ∈ [Instr.plainCeq m, .plainCne m, .plainClt m, .plainCle m, .plainCgt m, .plainCge m],
    ∃ u, exec i s = .next u ∧ s.Framed u (s.acts m) 1 0 (s.dstAt m) := by
  simp only [List.forall_mem_cons]
  exact ⟨⟨_, rfl, State.framed_compare hr _⟩, ⟨_, rfl, State.framed_compare hr _⟩, ⟨_, rfl, State.framed_compare hr _⟩,
    ⟨_, rfl, State.framed_compare hr _⟩, ⟨_, rfl, State.framed_compare hr _⟩, ⟨_, rfl, State.framed_compare hr _⟩, List.forall_mem_nil _⟩

theorem framed_stix : ∃ u, exec (.plainStix m) s = .next u ∧ s.Framed u (s.acts m) (mW m) 0 fun _ => mDst m :=
  ⟨_, rfl, State.framed_map hr _ _ _ rfl fun _ _ => writesOnly_one _ _ _ _⟩

theorem framed_pushes (hd : s.pilot.maskD ≤ 3) : ∀ i ∈ [Instr.plainMpush m, .plainMpushf m],
    ∃ u, exec i s = .next u ∧ s.Framed u s.plain.onElems 1 0 fun _ => 0x1EFC + s.pilot.maskD := by
  simp only [List.forall_mem_cons]
  exact ⟨⟨_, rfl, State.framed_maskPush hr hd _ _⟩, ⟨_, rfl, State.framed_maskPush hr hd _ _⟩, List.forall_mem_nil _⟩

/-- The instructions that write no plane. -/
theorem framed_none (at_ : Nat → Nat) : ∀ i ∈ [Instr.plainNop m, .plainLdix m, .plainTsrch m, .plainFclr m, .plainDzclr m, .plainBr m, .plainBrgor m,
      .plainBrngor m, .plainBrfor m, .plainLoop m, .plainWaitm m, .plainEnd m], ∃ u, exec i s = .next u ∧ s.Framed u [] 0 0 at_ := by
  simp only [List.forall_mem_cons]
  exact ⟨⟨_, rfl, State.framed_pilot hr _ _ ⟨rfl, rfl⟩ at_⟩, ⟨_, rfl, State.framed_registers hr _ _ _ (Or.inl rfl) (fun _ _ _ => rfl) at_⟩,
    ⟨_, rfl, State.framed_registers hr _ _ _ (Or.inr rfl) (fun _ _ _ => rfl) at_⟩,
    ⟨_, rfl, State.framed_still hr _ _ (State.keeps_clearF _) (Plain.mem_cleared _ _)⟩,
    ⟨_, rfl, State.framed_registers hr _ _ _ (Or.inl rfl) (fun _ _ _ => rfl) at_⟩, ⟨_, rfl, State.framed_pilot hr _ _ ⟨rfl, rfl⟩ at_⟩,
    ⟨_, rfl, State.framed_branch hr _ at_⟩, ⟨_, rfl, State.framed_branch hr _ at_⟩, ⟨_, rfl, State.framed_branch hr _ at_⟩,
    ⟨_, rfl, State.framed_pilot hr _ _ ⟨rfl, rfl⟩ at_⟩, ⟨_, rfl, State.framed_pilot hr _ _ ⟨rfl, rfl⟩ at_⟩,
    ⟨_, rfl, State.framed_pilot hr _ _ ⟨rfl, rfl⟩ at_⟩, List.forall_mem_nil _⟩
end

/-- Settles O44: an instruction writes its operands by element-wise accesses, and nothing on its way writes another register than those of traps and errors. -/
theorem plainInstructionsFrame : Obligations.PlainInstructionsFrame := by
  intro s t m i l wd sc at_ hr hd hi he
  have hframed : ∃ u, exec i s = .next u ∧ s.Framed u l wd sc at_ := by
    rcases hi with ⟨rfl, rfl, rfl, rfl, hi⟩ | ⟨rfl, rfl, rfl, rfl, hi⟩ | ⟨rfl, rfl, rfl, rfl, rfl⟩ | ⟨rfl, rfl, rfl, rfl, rfl⟩ | ⟨rfl, rfl, rfl, rfl, rfl⟩ |
      ⟨rfl, rfl, rfl, rfl, hi⟩ | ⟨rfl, rfl, rfl, rfl, hi⟩ | ⟨rfl, rfl, rfl, rfl, h1, rfl⟩ | ⟨rfl, rfl, rfl, h1, rfl⟩ | ⟨rfl, rfl, rfl, hi⟩
    · exact framed_dst hr i hi
    · exact framed_dst_scratch hr i hi
    · exact State.framed_tlerp hr
    · exact framed_stix hr
    · exact ⟨_, rfl, State.framed_product hr _ _ _ _⟩
    · exact framed_compares hr i hi
    · exact framed_pushes hr hd i hi
    · exact State.framed_melse hr h1
    · exact State.framed_mpop hr h1 at_
    · exact framed_none hr at_ i hi
  obtain ⟨u, hu, hplanes, hkeeps⟩ := hframed
  obtain rfl := Host.Outcome.next.inj (hu.symm.trans he)
  exact ⟨hplanes, hkeeps.power, hkeeps.half, hkeeps.mem, hkeeps.chans, hkeeps.wc, hkeeps.omx, hkeeps.tl, hkeeps.time, hkeeps.bbr, hkeeps.scalars, hkeeps.regs⟩

end Sys2Proof.Machine
end

section
/-! SUPPORT. Traps and interrupts of the Harbourmaster, and the statement HmTrapsAndInterruptsEnter (SPEC chapter 16). -/

namespace Sys2Proof.Machine

/-! ### WVM -/

theorem getLsbD_setBit8 (v : BitVec 8) (w : Nat) (b : Bool) {k : Nat} (hk : k < 8) : (setBit8 v w b).getLsbD k = if k = w % 8 then b else v.getLsbD k := by
  have hm : (BitVec.ofNat 8 (2 ^ (w % 8))).getLsbD k = decide (w % 8 = k) := by
    rw [BitVec.getLsbD_ofNat, Nat.testBit_two_pow, decide_eq_true hk, Bool.true_and]
  unfold setBit8
  cases b with
  | true =>
    rw [if_pos rfl, BitVec.getLsbD_or, hm]
    by_cases h : k = w % 8
    · simp [h]
    · simp [h, Ne.symm h]
  | false =>
    rw [if_neg Bool.false_ne_true, BitVec.getLsbD_and, BitVec.getLsbD_not, hm]
    by_cases h : k = w % 8
    · simp [h]
    · simp [h, Ne.symm h, hk]

/-! ### HSR of a trap entry -/

/-- HSR as a trap entry leaves it: CWP one down, ET 0. -/
def trapHsr (v : Word) : Word := putBit (putBits v 2 0 ((bits v 2 0 + 7) % 8)) 3 false

theorem cwp_trapHsr (v : Word) : bits (trapHsr v) 2 0 = (bits v 2 0 + 7) % 8 := by
  rw [trapHsr, putBit, bits_putBits_apart _ _ _ _ _ _ (by decide) (Or.inl (by decide)), bits_putBits_self _ _ _ _ (by decide) (by decide)]
  exact Nat.mod_mod _ _

theorem et_trapHsr (v : Word) : bit (trapHsr v) 3 = false := bit_putBit_self _ _ _ (by decide)

theorem upper_trapHsr (v : Word) : bits (trapHsr v) 31 4 = bits v 31 4 := by
  rw [trapHsr, putBit, bits_putBits_apart _ _ _ _ _ _ (by decide) (Or.inr (by decide)), bits_putBits_apart _ _ _ _ _ _ (by decide) (Or.inr (by decide))]

theorem Hm.hsr_enter (h : Hm) (cause vec : Nat) : (h.enter cause vec).hsr = trapHsr h.hsr := rfl

theorem Hm.wvm_enter (h : Hm) (cause vec : Nat) : (h.enter cause vec).wvm.getLsbD ((bits h.hsr 2 0 + 7) % 8) = true := by
  have hlt : (bits h.hsr 2 0 + 7) % 8 < 8 := Nat.mod_lt _ (by decide)
  show (setBit8 h.wvm ((bits h.hsr 2 0 + 7) % 8) true).getLsbD _ = true
  rw [getLsbD_setBit8 _ _ _ hlt, if_pos (Nat.mod_eq_of_lt hlt).symm]

/-! ### Traps (R604, R607) -/

theorem State.errorMode_halts (s : State) (vec : Nat) : (s.errorMode vec).rbit Reg.reclaimStatus 2 = true ∧ (s.errorMode vec).hm = s.hm := by
  have htells : ((s.setRbit Reg.reclaimStatus 2 true).lastFence 1 8 0).Tells (s.errorMode vec) :=
    (State.faultB_tells _ _ _ _ _ _).trans (State.faultB_tells _ _ _ _ _ _)
  refine ⟨?_, htells.hm⟩
  rw [htells.rbit (by decide), State.rbit, State.reg_lastFence_ne _ (by decide)]
  exact State.rbit_setRbit_self s _ _ _ (by decide)

/-- A zero divisor traps, and its handler reports it. -/
theorem State.divTrap_tells (s : State) : (s.trap 9).Tells s.divTrap := by
  unfold State.divTrap
  dsimp only
  split
  · exact State.faultF_tells _ _ _ _ _
  · exact State.Tells.refl _

section
variable {u t : State} {vec : Nat} (h : (u.trap vec).Tells t)
include h

/-- A trap with ET 1 enters at its vector. -/
theorem State.trap_enters (he : u.hm.et = true) : t.hm.estat = u.hm.hsr ∧ t.hm.epc = u.hm.pc ∧ t.hm.ecause = BitVec.ofNat 32 vec ∧
    bits t.hm.hsr 2 0 = (bits u.hm.hsr 2 0 + 7) % 8 ∧ bit t.hm.hsr 3 = false ∧ bits t.hm.hsr 31 4 = bits u.hm.hsr 31 4 ∧
    t.hm.wvm.getLsbD ((bits u.hm.hsr 2 0 + 7) % 8) = true ∧ t.hm.pc = u.hm.tvec + BitVec.ofNat 32 (32 * vec) ∧
    t.hm.g = u.hm.g ∧ t.hm.l = u.hm.l ∧ t.hm.h = u.hm.h := by
  have hm : t.hm = u.hm.enter vec vec := by rw [h.hm, State.trap, if_pos he]
  rw [hm, Hm.hsr_enter]
  exact ⟨rfl, rfl, rfl, cwp_trapHsr _, et_trapHsr _, upper_trapHsr _, u.hm.wvm_enter vec vec, rfl, rfl, rfl, rfl⟩

/-- A trap with ET 0 enters error mode. -/
theorem State.trap_halts (he : u.hm.et = false) : t.rbit Reg.reclaimStatus 2 = true ∧ t.hm.pc = u.hm.pc ∧ t.hm.l = u.hm.l ∧ t.hm.hsr = u.hm.hsr := by
  obtain ⟨hbit, hm⟩ := u.errorMode_halts vec
  have htrap : u.trap vec = u.errorMode vec := if_neg (by rw [he]; decide)
  rw [htrap] at h
  rw [h.rbit (by decide), h.hm, hm]
  exact ⟨hbit, rfl, rfl, rfl⟩
end

/-- What the statement asks of a trap, from the state that the instruction leaves. -/
theorem traps_of_tells {s u : State} {i : Instr} {vec : Nat} {t : State} (he : exec i s = .next t) (h : (u.trap vec).Tells t) :
    (u.hm.et = true → ∃ t, exec i s = .next t ∧ t.hm.estat = u.hm.hsr ∧ t.hm.epc = u.hm.pc ∧ t.hm.ecause = BitVec.ofNat 32 vec ∧
      bits t.hm.hsr 2 0 = (bits u.hm.hsr 2 0 + 7) % 8 ∧ bit t.hm.hsr 3 = false ∧ bits t.hm.hsr 31 4 = bits u.hm.hsr 31 4 ∧
      t.hm.wvm.getLsbD ((bits u.hm.hsr 2 0 + 7) % 8) = true ∧ t.hm.pc = u.hm.tvec + BitVec.ofNat 32 (32 * vec) ∧
      t.hm.g = u.hm.g ∧ t.hm.l = u.hm.l ∧ t.hm.h = u.hm.h) ∧
    (u.hm.et = false → ∃ t, exec i s = .next t ∧ t.rbit Reg.reclaimStatus 2 = true ∧ t.hm.pc = u.hm.pc ∧ t.hm.l = u.hm.l ∧ t.hm.hsr = u.hm.hsr) :=
  ⟨fun het => ⟨t, he, State.trap_enters h het⟩, fun het => ⟨t, he, State.trap_halts h het⟩⟩

/-! ### The instructions that trap -/

theorem windowRegs_lt {rd rs1 : Nat} {imm : BitVec 10} (h1 : rd < 24) (h2 : rs1 < 24) (h3 : imm.getLsbD 9 = true ∨ imm.toNat % 32 < 24) :
    ∀ r ∈ windowRegs rd rs1 imm, r < 24 := by
  unfold windowRegs
  split
  · simp [h1, h2]
  · next h =>
    simp [h1, h2, h3.resolve_left h]

section
variable {s u : State} (hf : s.Fetches u)
include hf

/-- A register number of 24 or more is illegal (R596). -/
theorem State.instrR_illegal {l : List Nat} (h : ∃ r ∈ l, 24 ≤ r) (body : State → State) : s.instrR l body = .next (u.trap 3) := by
  obtain ⟨r, hr, hge⟩ := h
  have hany : (l.any fun r => decide (r ≥ 24)) = true := List.any_eq_true.mpr ⟨r, hr, decide_eq_true hge⟩
  unfold State.instrR
  rw [State.instr_fetches hf, hany]
  rfl

theorem execMulwS_badPair {rd rs1 rs2 : Nat} (h1 : rd < 24) (h2 : rs1 < 24) (h3 : rs2 < 24) (hbad : rd % 2 = 1 ∨ rd = 0) :
    exec (.mulwS rd rs1 rs2) s = .next (u.trap 3) := by
  have hpair : pairOk rd = false := by
    unfold pairOk
    rcases hbad with h | h
    · rw [h]; rfl
    · subst h; rfl
  refine (State.instrR_fetches hf [rd, rs1, rs2] (by simp [h1, h2, h3]) _).trans ?_
  rw [hpair]
  rfl

theorem execDivU_zero {rd rs1 rs2 : Nat} (h1 : rd < 24) (h2 : rs1 < 24) (h3 : rs2 < 24) (h0 : u.r rs2 = 0) :
    exec (.divU rd rs1 rs2) s = .next u.divTrap := by
  refine (State.instrR_fetches hf [rd, rs1, rs2] (by simp [h1, h2, h3]) _).trans ?_
  rw [if_pos h0]

theorem execHmLoadStore_misaligned {op : HmMemOp} {rd rs1 : Nat} {imm : Word} (h1 : rd < 24) (h2 : rs1 < 24)
    (hmis : (u.r rs1 + imm).toNat % HmMemOp.size op ≠ 0) : exec (.hmLoadStore op rd rs1 imm) s = .next (u.trap 7) := by
  refine (State.instrR_fetches hf [rd, rs1] (by simp [h1, h2]) _).trans ?_
  dsimp only
  rw [if_pos hmis]

theorem execEret_enabled {skip : Bool} (het : u.hm.et = true) : exec (.eret skip) s = .next (u.trap 3) := by
  refine (State.instr_fetches hf _).trans ?_
  rw [if_pos het]
  rfl

theorem execEnter_resident {rd rs1 : Nat} {imm : BitVec 10} (h1 : rd < 24) (h2 : rs1 < 24) (h3 : imm.getLsbD 9 = true ∨ imm.toNat % 32 < 24)
    (hw : u.hm.wvm.getLsbD ((bits u.hm.hsr 2 0 + 6) % 8) = true) : exec (.enter rd rs1 imm) s = .next (u.trap 5) := by
  refine (State.instrR_fetches hf _ (windowRegs_lt h1 h2 h3) _).trans ?_
  rw [if_pos (show u.hm.resident (u.hm.cwp + 6) = true from hw)]

theorem execLeave_absent {rd rs1 : Nat} {imm : BitVec 10} (h1 : rd < 24) (h2 : rs1 < 24) (h3 : imm.getLsbD 9 = true ∨ imm.toNat % 32 < 24)
    (hw : u.hm.wvm.getLsbD ((bits u.hm.hsr 2 0 + 1) % 8) = false) : exec (.leave rd rs1 imm) s = .next (u.trap 6) := by
  refine (State.instrR_fetches hf _ (windowRegs_lt h1 h2 h3) _).trans ?_
  have hres : u.hm.resident ((u.hm.cwp + 1) % 8) = false := by
    rw [Hm.resident, Nat.mod_mod]
    exact hw
  dsimp only
  rw [hres]
  rfl
end

/-! ### Interrupts (R604, R608 to R610) -/

section
variable {s : State} {n lv : Nat} (hr : s.hmRuns = true) (hh : s.dbg.halted = false) (hq : s.qualifies = some n)
include hr hh hq

theorem execInterruptTaken_eq : execInterruptTaken s = .next (if !s.hm.et then { s with hm := { s.hm with waiting := false } }
    else { s.serve n with hm := { (s.serve n).hm.enter (0x0F + s.irqLevel n + 256 * n) (0x0F + s.irqLevel n) with
      hsr := putBits ((s.serve n).hm.enter (0x0F + s.irqLevel n + 256 * n) (0x0F + s.irqLevel n)).hsr 10 8 (min (s.irqLevel n) 7), taken := n } }) := by
  unfold execInterruptTaken
  rw [hr, hh, hq]
  rfl

theorem interruptTaken_enters (hlv : lv = s.irqLevel n) (het : s.hm.et = true) : ∃ t, exec .interruptTaken s = .next t ∧
    t.hm.pc = s.hm.tvec + BitVec.ofNat 32 (32 * (15 + lv)) ∧ t.hm.epc = s.hm.pc ∧ t.hm.estat = s.hm.hsr ∧
    t.hm.ecause = BitVec.ofNat 32 (15 + lv + 256 * n) ∧ bits t.hm.hsr 10 8 = min lv 7 ∧ bit t.hm.hsr 3 = false ∧
    bits t.hm.hsr 2 0 = (bits s.hm.hsr 2 0 + 7) % 8 ∧ t.hm.taken = n ∧ t.hm.waiting = false ∧ t = { s.serve n with hm := t.hm } := by
  subst hlv
  have he := execInterruptTaken_eq hr hh hq
  rw [if_neg (by rw [het]; decide)] at he
  refine ⟨_, he, rfl, rfl, rfl, rfl, ?_, ?_, ?_, rfl, rfl, rfl⟩
  · refine (bits_putBits_self _ _ _ _ (by decide) (by decide)).trans (Nat.mod_eq_of_lt ?_)
    exact Nat.lt_of_le_of_lt (Nat.min_le_right _ _) (by decide)
  · refine Eq.trans ?_ (et_trapHsr s.hm.hsr)
    unfold bit
    rw [getLsbD_putBits _ _ _ _ _ (by decide), if_neg (by decide)]
    rfl
  · exact (bits_putBits_apart _ _ _ _ _ _ (by decide) (Or.inl (by decide))).trans (cwp_trapHsr s.hm.hsr)

theorem interruptTaken_wakes (het : s.hm.et = false) : exec .interruptTaken s = .next { s with hm := { s.hm with waiting := false } } := by
  refine (execInterruptTaken_eq hr hh hq).trans ?_
  rw [if_pos (by rw [het]; rfl)]
end

/-- Settles O47: each trap is the entry of R604, or error mode, in the state that the fetch leaves. -/
theorem hmTrapsAndInterruptsEnter : Obligations.HmTrapsAndInterruptsEnter := by
  refine ⟨fun s u Traps hf hT => ?_, fun s n lv hr hh hq hlv => ⟨interruptTaken_enters hr hh hq hlv, interruptTaken_wakes hr hh hq⟩⟩
  subst hT
  exact ⟨fun w => traps_of_tells (State.instr_fetches hf _) (State.Tells.refl _), fun imm => traps_of_tells (State.instr_fetches hf _) (State.Tells.refl _),
    fun rd rs1 rs2 h => traps_of_tells (State.instrR_illegal hf ⟨rd, List.mem_cons_self, h⟩ _) (State.Tells.refl _),
    fun rd rs1 rs2 h1 h2 h3 hbad => traps_of_tells (execMulwS_badPair hf h1 h2 h3 hbad) (State.Tells.refl _),
    fun rd rs1 rs2 h1 h2 h3 h0 => traps_of_tells (execDivU_zero hf h1 h2 h3 h0) u.divTrap_tells,
    fun op rd rs1 imm h1 h2 hmis => traps_of_tells (execHmLoadStore_misaligned hf h1 h2 hmis) (State.Tells.refl _),
    fun skip het => traps_of_tells (execEret_enabled hf het) (State.Tells.refl _),
    fun rd rs1 imm h1 h2 h3 hw => traps_of_tells (execEnter_resident hf h1 h2 h3 hw) (State.Tells.refl _),
    fun rd rs1 imm h1 h2 h3 hw => traps_of_tells (execLeave_absent hf h1 h2 h3 hw) (State.Tells.refl _)⟩

end Sys2Proof.Machine
end

section
/-! SUPPORT. System instructions of the Harbourmaster, and the statement HmSystemInstructionsComplete (SPEC chapter 16, Table HMC-6). -/

namespace Sys2Proof.Machine

/-! ### Window moves (R598) -/

/-- The registers as a window move leaves them, before its destination is written. -/
def Hm.moved (h : Hm) (w cleared : Nat) (resident : Bool) : Hm :=
  { h.setCwp w with wvm := setBit8 h.wvm cleared resident, pc := h.pc + 4 }

theorem Hm.cwp_moved (h : Hm) (w k : Nat) (b : Bool) : bits (h.moved (w % 8) k b).hsr 2 0 = w % 8 := by
  refine (bits_putBits_self _ _ _ _ (by decide) (by decide)).trans ?_
  exact (Nat.mod_mod _ _).trans (Nat.mod_mod _ _)

theorem Hm.upper_moved (h : Hm) (w k : Nat) (b : Bool) : bits (h.moved w k b).hsr 31 3 = bits h.hsr 31 3 :=
  bits_putBits_apart _ _ _ _ _ _ (by decide) (Or.inr (by decide))

theorem Hm.wvm_moved (h : Hm) (w k : Nat) (b : Bool) (hk : k < 8) : (h.moved w k b).wvm.getLsbD k = b := by
  refine (getLsbD_setBit8 _ _ _ hk).trans ?_
  rw [if_pos (Nat.mod_eq_of_lt hk).symm]

/-- A register write and the step of the pc commute. -/
theorem State.pcNext_setRegIn (s : State) (h : Hm) (w r : Nat) (v : Word) :
    ({ s with hm := h.setRegIn w r v } : State).pcNext = { s with hm := ({ h with pc := h.pc + 4 } : Hm).setRegIn w r v } := by
  unfold State.pcNext Hm.setRegIn
  (repeat' split) <;> rfl

section
variable {s u : State} (hf : s.Fetches u)
include hf

theorem execEnter_moves {rd rs1 : Nat} {imm : BitVec 10} (h1 : rd < 24) (h2 : rs1 < 24) (h3 : imm.getLsbD 9 = true ∨ imm.toNat % 32 < 24)
    (hw : u.hm.wvm.getLsbD ((bits u.hm.hsr 2 0 + 6) % 8) = false) : exec (.enter rd rs1 imm) s =
      .next { u with hm := (u.hm.moved ((u.hm.cwp + 7) % 8) ((u.hm.cwp + 7) % 8) true).setRegIn ((u.hm.cwp + 7) % 8) rd (u.r rs1 + u.windowOperand imm) } := by
  refine (State.instrR_fetches hf _ (windowRegs_lt h1 h2 h3) _).trans ?_
  rw [if_neg (show ¬ u.hm.resident (u.hm.cwp + 6) = true from by rw [Hm.resident]; rw [show u.hm.cwp = bits u.hm.hsr 2 0 from rfl, hw]; decide)]
  exact congrArg Host.Outcome.next (State.pcNext_setRegIn u _ _ _ _)

theorem execLeave_moves {rd rs1 : Nat} {imm : BitVec 10} (h1 : rd < 24) (h2 : rs1 < 24) (h3 : imm.getLsbD 9 = true ∨ imm.toNat % 32 < 24)
    (hw : u.hm.wvm.getLsbD ((bits u.hm.hsr 2 0 + 1) % 8) = true) : exec (.leave rd rs1 imm) s =
      .next { u with hm := (u.hm.moved ((u.hm.cwp + 1) % 8) u.hm.cwp false).setRegIn ((u.hm.cwp + 1) % 8) rd (u.r rs1 + u.windowOperand imm) } := by
  refine (State.instrR_fetches hf _ (windowRegs_lt h1 h2 h3) _).trans ?_
  have hres : u.hm.resident ((u.hm.cwp + 1) % 8) = true := by
    rw [Hm.resident, Nat.mod_mod]
    exact hw
  dsimp only
  rw [hres, if_neg (by decide)]
  exact congrArg Host.Outcome.next (State.pcNext_setRegIn u _ _ _ _)
end

/-! ### WVM (R599) -/

/-- Setting a bit keeps WVM legal unless it would set the bit of CWP − 1 while ET is 1. -/
theorem Hm.wvmOk_set (h : Hm) (w : Nat) (hw : h.et = true → h.wvm.getLsbD ((h.cwp + 7) % 8) = false → w % 8 ≠ (h.cwp + 7) % 8) :
    h.wvmOk (setBit8 h.wvm w true) = true := by
  have hc : h.cwp < 8 := Nat.mod_lt _ (by decide)
  have hp : (h.cwp + 7) % 8 < 8 := Nat.mod_lt _ (by decide)
  unfold Hm.wvmOk Hm.resident
  rw [getLsbD_setBit8 _ _ _ hc, getLsbD_setBit8 _ _ _ hp, Nat.mod_eq_of_lt hc]
  have hkeep : h.wvm.getLsbD h.cwp = true → (if h.cwp = w % 8 then true else h.wvm.getLsbD h.cwp) = true := fun hr => by
    split
    · rfl
    · exact hr
  have hprev : h.et = true → h.wvm.getLsbD ((h.cwp + 7) % 8) = false →
      (if (h.cwp + 7) % 8 = w % 8 then true else h.wvm.getLsbD ((h.cwp + 7) % 8)) = false := fun het hr => by
    rw [if_neg fun he => hw het hr he.symm, hr]
  revert hkeep hprev
  generalize (if h.cwp = w % 8 then true else h.wvm.getLsbD h.cwp) = x
  generalize (if (h.cwp + 7) % 8 = w % 8 then true else h.wvm.getLsbD ((h.cwp + 7) % 8)) = y
  generalize h.wvm.getLsbD h.cwp = p, h.wvm.getLsbD ((h.cwp + 7) % 8) = q, h.et = e
  revert x y p q e
  decide

/-- Clearing a bit keeps WVM legal unless it would clear the bit of CWP. -/
theorem Hm.wvmOk_clear (h : Hm) (w : Nat) (hw : w % 8 = h.cwp → h.wvm.getLsbD h.cwp = false) : h.wvmOk (setBit8 h.wvm w false) = true := by
  have hc : h.cwp < 8 := Nat.mod_lt _ (by decide)
  have hp : (h.cwp + 7) % 8 < 8 := Nat.mod_lt _ (by decide)
  unfold Hm.wvmOk Hm.resident
  rw [getLsbD_setBit8 _ _ _ hc, getLsbD_setBit8 _ _ _ hp, Nat.mod_eq_of_lt hc]
  have hkeep : h.wvm.getLsbD h.cwp = true → (if h.cwp = w % 8 then false else h.wvm.getLsbD h.cwp) = true := fun hr => by
    rw [if_neg fun he => Bool.false_ne_true ((hw he.symm).symm.trans hr), hr]
  have hprev : h.wvm.getLsbD ((h.cwp + 7) % 8) = false →
      (if (h.cwp + 7) % 8 = w % 8 then false else h.wvm.getLsbD ((h.cwp + 7) % 8)) = false := fun hr => by
    rw [hr, ite_self]
  revert hkeep hprev
  generalize (if h.cwp = w % 8 then false else h.wvm.getLsbD h.cwp) = x
  generalize (if (h.cwp + 7) % 8 = w % 8 then false else h.wvm.getLsbD ((h.cwp + 7) % 8)) = y
  generalize h.wvm.getLsbD h.cwp = p, h.wvm.getLsbD ((h.cwp + 7) % 8) = q, h.et = e
  revert x y p q e
  decide

theorem State.writeWvm_ok (u : State) {v : BitVec 8} (h : u.hm.wvmOk v = true) :
    u.writeWvm v = { u with hm := { u.hm with wvm := v, pc := u.hm.pc + 4 } } := if_pos h

/-! ### The system instructions -/

section
variable {s u : State} {c : Nat} (hf : s.Fetches u) (hc : c = bits u.hm.hsr 2 0)
include hf hc

/-- ENTER and LEAVE as the statement has them. -/
theorem windowMoves_complete (rd rs1 : Nat) (imm : BitVec 10) (v : Word) (h1 : rd < 24) (h2 : rs1 < 24) (h3 : imm.getLsbD 9 = true ∨ imm.toNat % 32 < 24)
    (hv : v = u.r rs1 + (if imm.getLsbD 9 then (imm.setWidth 9).signExtend 32 else u.r (imm.toNat % 32))) :
    (u.hm.wvm.getLsbD ((c + 6) % 8) = false → ∃ (t : State) (h : Hm), exec (.enter rd rs1 imm) s = .next t ∧ t = { u with hm := t.hm } ∧
      t.hm = h.setRegIn ((c + 7) % 8) rd v ∧ bits h.hsr 2 0 = (c + 7) % 8 ∧ bits h.hsr 31 3 = bits u.hm.hsr 31 3 ∧
      h.wvm.getLsbD ((c + 7) % 8) = true ∧ h.pc = u.hm.pc + 4 ∧ h = { u.hm with hsr := h.hsr, wvm := h.wvm, pc := h.pc }) ∧
    (u.hm.wvm.getLsbD ((c + 1) % 8) = true → ∃ (t : State) (h : Hm), exec (.leave rd rs1 imm) s = .next t ∧ t = { u with hm := t.hm } ∧
      t.hm = h.setRegIn ((c + 1) % 8) rd v ∧ bits h.hsr 2 0 = (c + 1) % 8 ∧ bits h.hsr 31 3 = bits u.hm.hsr 31 3 ∧
      h.wvm.getLsbD c = false ∧ h.pc = u.hm.pc + 4 ∧ h = { u.hm with hsr := h.hsr, wvm := h.wvm, pc := h.pc }) := by
  subst hc hv
  exact ⟨fun hw => ⟨_, _, execEnter_moves hf h1 h2 h3 hw, rfl, rfl, u.hm.cwp_moved _ _ _, u.hm.upper_moved _ _ _,
      u.hm.wvm_moved _ _ _ (Nat.mod_lt _ (by decide)), rfl, rfl⟩,
    fun hw => ⟨_, _, execLeave_moves hf h1 h2 h3 hw, rfl, rfl, u.hm.cwp_moved _ _ _, u.hm.upper_moved _ _ _,
      u.hm.wvm_moved _ _ _ (Nat.mod_lt _ (by decide)), rfl, rfl⟩⟩

/-- WVMSET and WVMCLR as the statement has them. -/
theorem wvmWrites_complete (b w : Nat) (hw : w = (c + b % 8) % 8) :
    ((u.hm.et = true → u.hm.wvm.getLsbD ((c + 7) % 8) = false → w ≠ (c + 7) % 8) → ∃ t, exec (.wvmset b) s = .next t ∧
      t = { u with hm := { u.hm with wvm := t.hm.wvm, pc := u.hm.pc + 4 } } ∧ t.hm.wvm.getLsbD w = true ∧
      ∀ k, k < 8 → k ≠ w → t.hm.wvm.getLsbD k = u.hm.wvm.getLsbD k) ∧
    ((w = c → u.hm.wvm.getLsbD c = false) → ∃ t, exec (.wvmclr b) s = .next t ∧
      t = { u with hm := { u.hm with wvm := t.hm.wvm, pc := u.hm.pc + 4 } } ∧ t.hm.wvm.getLsbD w = false ∧
      ∀ k, k < 8 → k ≠ w → t.hm.wvm.getLsbD k = u.hm.wvm.getLsbD k) := by
  subst hc hw
  have hlt : (bits u.hm.hsr 2 0 + b % 8) % 8 < 8 := Nat.mod_lt _ (by decide)
  have hbits : ∀ x : Bool, (setBit8 u.hm.wvm (u.hm.cwp + b % 8) x).getLsbD ((bits u.hm.hsr 2 0 + b % 8) % 8) = x ∧
      ∀ k, k < 8 → k ≠ (bits u.hm.hsr 2 0 + b % 8) % 8 → (setBit8 u.hm.wvm (u.hm.cwp + b % 8) x).getLsbD k = u.hm.wvm.getLsbD k := fun x =>
    ⟨(getLsbD_setBit8 _ _ _ hlt).trans (if_pos rfl), fun k hk hne => (getLsbD_setBit8 _ _ _ hk).trans (if_neg hne)⟩
  exact ⟨fun h => ⟨_, (State.instr_fetches hf _).trans (congrArg _ (u.writeWvm_ok (u.hm.wvmOk_set _ h))), rfl, hbits true⟩,
    fun h => ⟨_, (State.instr_fetches hf _).trans (congrArg _ (u.writeWvm_ok (u.hm.wvmOk_clear _ h))), rfl, hbits false⟩⟩

omit hc in
/-- RDSYS as the statement has it. -/
theorem rdsys_complete {rd : Nat} (h : rd < 24) {i : Nat} (hi : i < 16) : exec (.rdsys rd i) s = .next (u.ret rd
    ([u.hm.hsr, u.hm.wvm.setWidth 32, u.hm.tvec, u.hm.estat, u.hm.epc, u.hm.ecause, 0x00003201].getD i 0)) := by
  refine (State.instrR_fetches hf [rd] (by simp [h]) _).trans (congrArg (fun v => Host.Outcome.next (u.ret rd v)) ?_)
  match i, hi with
  | 0, _ | 1, _ | 2, _ | 3, _ | 4, _ | 5, _ | 6, _ | 7, _ | 8, _ | 9, _ | 10, _ | 11, _ | 12, _ | 13, _ | 14, _ | 15, _ => rfl
  | k + 16, h16 => exact absurd h16 (by omega)

/-- ERET as the statement has it (R606). -/
theorem eret_complete (het : u.hm.et = false) (skip : Bool) : ∃ t, exec (.eret skip) s = .next t ∧ t.hm.hsr = u.hm.estat ∧
    t.hm.wvm.getLsbD c = false ∧ t.hm.pc = (if skip then u.hm.epc + 4 else u.hm.epc) ∧
    t = { u with hm := { u.hm with hsr := t.hm.hsr, wvm := t.hm.wvm, pc := t.hm.pc } } := by
  have hlt : bits u.hm.hsr 2 0 < 8 := Nat.mod_lt _ (by decide)
  refine ⟨_, (State.instr_fetches hf _).trans (congrArg _ (if_neg (by rw [het]; decide))), rfl, ?_, rfl, rfl⟩
  subst hc
  exact (getLsbD_setBit8 _ _ _ hlt).trans (if_pos (Nat.mod_eq_of_lt hlt).symm)
end

/-- A trap at an instruction that takes no register. -/
theorem traps_enter {s u : State} (het : u.hm.et = true) {i : Instr} {vec : Nat} (he : exec i s = .next (u.trap vec)) :
    ∃ t, exec i s = .next t ∧ t.hm.pc = u.hm.tvec + BitVec.ofNat 32 (32 * vec) ∧ t.hm.epc = u.hm.pc ∧ t.hm.estat = u.hm.hsr ∧
      t.hm.ecause = BitVec.ofNat 32 vec := by
  obtain ⟨hestat, hepc, hcause, -, -, -, -, hpc, -⟩ := State.trap_enters (State.Tells.refl (u.trap vec)) het
  exact ⟨_, he, hpc, hepc, hestat, hcause⟩

/-- Settles O48: each instruction is its effect on the state that the fetch leaves. -/
theorem hmSystemInstructionsComplete : Obligations.HmSystemInstructionsComplete := by
  intro s u c hf hc
  refine ⟨windowMoves_complete hf hc, wvmWrites_complete hf hc, fun rd h i hi => rdsys_complete hf h hi, fun rs v h hv => ?_,
    fun het imm => traps_enter het (i := .syscall imm) (vec := 0x20 + imm.toNat % 32) (State.instr_fetches hf _), fun het w => traps_enter het (i := .hmUndefinedEncoding w) (vec := 3) (State.instr_fetches hf _), eret_complete hf hc,
    fun rd h => ⟨State.instrR_fetches hf [rd] (by simp [h]) _, State.instrR_fetches hf [rd] (by simp [h]) _⟩,
    State.instr_fetches hf _, State.instr_fetches hf _, State.instr_fetches hf _⟩
  subst hv
  exact ⟨State.instrR_fetches hf [rs] (by simp [h]) _, State.instrR_fetches hf [rs] (by simp [h]) _,
    State.instrR_fetches hf [rs] (by simp [h]) _, State.instrR_fetches hf [rs] (by simp [h]) _⟩

end Sys2Proof.Machine
end

section
/-! SUPPORT. Loads, stores, frames, cache instructions and branches, and the statement HmMemoryInstructionsComplete (SPEC chapter 16, Table HMC-6). -/

namespace Sys2Proof.Machine

/-! ### A frame's registers (R597, R602) -/

theorem Hm.pc_setRegIn (h : Hm) (w r : Nat) (v : Word) : (h.setRegIn w r v).pc = h.pc := by
  unfold Hm.setRegIn
  (repeat' split) <;> rfl

/-- A register number of 8 or more is none of the global registers. -/
theorem Hm.g_setRegIn (h : Hm) (w : Nat) {r : Nat} (v : Word) (hr : 8 ≤ r) : (h.setRegIn w r v).g = h.g := by
  rw [Hm.setRegIn, if_neg (by omega), if_neg (by omega)]
  (repeat' split) <;> rfl

/-- P0 to P3, written. -/
theorem Hm.setRegIn_passIn (h : Hm) (w i : Nat) (v : Word) (hi : i < 4) : h.setRegIn w (8 + i) v = { h with h := h.h.set (4 * ((w + 1) % 8) + i) v } := by
  rw [Hm.setRegIn, if_neg (by omega), if_neg (by omega), if_pos (by omega), Nat.add_sub_cancel_left, Nat.mul_comm]

/-- L0 to L7, written. -/
theorem Hm.setRegIn_local (h : Hm) (w i : Nat) (v : Word) (hi : i < 8) : h.setRegIn w (16 + i) v = { h with l := h.l.set (8 * (w % 8) + i) v } := by
  rw [Hm.setRegIn, if_neg (by omega), if_neg (by omega), if_neg (by omega), if_neg (by omega), if_pos (by omega), Nat.add_sub_cancel_left,
    Nat.mul_comm]

/-- Words put at consecutive places of a register file. -/
def putRun (f : List Word) (at' : Nat) : List Word → List Word
  | [] => f
  | v :: r => putRun (f.set at' v) (at' + 1) r

theorem length_putRun (f : List Word) (p : Nat) (l : List Word) : (putRun f p l).length = f.length := by
  induction l generalizing f p with
  | nil => rfl
  | cons v r ih => rw [putRun, ih, List.length_set]

theorem getD_putRun_below (f : List Word) (p k : Nat) (l : List Word) (h : k < p) : (putRun f p l).getD k 0 = f.getD k 0 := by
  induction l generalizing f p with
  | nil => rfl
  | cons v r ih =>
    rw [putRun, ih _ _ (by omega), List.getD_eq_getElem?_getD, List.getElem?_set_ne (by omega), ← List.getD_eq_getElem?_getD]

theorem getD_putRun (f : List Word) (p i : Nat) (l : List Word) (hi : i < l.length) (hp : p + i < f.length) : (putRun f p l).getD (p + i) 0 = l.getD i 0 := by
  induction l generalizing f p i with
  | nil => exact absurd hi (Nat.not_lt_zero _)
  | cons v r ih =>
    cases i with
    | zero =>
      rw [Nat.add_zero, putRun, getD_putRun_below _ _ _ _ (Nat.lt_succ_self p), List.getD_eq_getElem?_getD, List.getElem?_set_self (by omega)]
      rfl
    | succ i =>
      rw [putRun, show p + (i + 1) = p + 1 + i from by omega, ih _ _ _ (Nat.lt_of_succ_lt_succ hi) (by rw [List.length_set]; omega)]
      rfl

/-- The registers as LDWIN loads a frame of twelve words into a window. -/
def Hm.loadFrame (h : Hm) (w : Nat) (l : List Word) : Hm := (frameRegs.zip l).foldl (fun (h : Hm) x => h.setRegIn w x.1 x.2) h

theorem Hm.loadFrame_keeps (h : Hm) (w : Nat) (l : List Word) : (h.loadFrame w l).pc = h.pc ∧ (h.loadFrame w l).g = h.g := by
  have hg : ∀ (rs : List (Nat × Word)), (∀ x ∈ rs, 8 ≤ x.1) → ∀ h : Hm,
      (rs.foldl (fun (h : Hm) x => h.setRegIn w x.1 x.2) h).pc = h.pc ∧ (rs.foldl (fun (h : Hm) x => h.setRegIn w x.1 x.2) h).g = h.g := by
    intro rs
    induction rs with
    | nil => exact fun _ _ => ⟨rfl, rfl⟩
    | cons x rs ih =>
      intro hx h
      have hstep : (h.setRegIn w x.1 x.2).g = h.g := h.g_setRegIn w x.2 (hx x List.mem_cons_self)
      obtain ⟨hpc, hg⟩ := ih (fun y hy => hx y (List.mem_cons_of_mem _ hy)) (h.setRegIn w x.1 x.2)
      exact ⟨hpc.trans (h.pc_setRegIn _ _ _), hg.trans hstep⟩
  refine hg _ (fun x hx => ?_) h
  have hframe : ∀ r ∈ frameRegs, 8 ≤ r := by decide
  exact hframe _ (List.of_mem_zip hx).1

/-- Twelve words go to the local registers, then to the parameters. -/
theorem Hm.loadFrame_files (h : Hm) (w : Nat) (l : List Word) (hl : l.length = 12) :
    (h.loadFrame w l).l = putRun h.l (8 * (w % 8)) (l.take 8) ∧ (h.loadFrame w l).h = putRun h.h (4 * ((w + 1) % 8)) (l.drop 8) := by
  match l, hl with
  | [a0, a1, a2, a3, a4, a5, a6, a7, b0, b1, b2, b3], _ =>
    unfold Hm.loadFrame frameRegs
    simp only [List.zip_cons_cons, List.zip_nil_right, List.foldl_cons, List.foldl_nil]
    rw [h.setRegIn_local w 0 a0 (by decide), Hm.setRegIn_local _ w 1 a1 (by decide), Hm.setRegIn_local _ w 2 a2 (by decide),
      Hm.setRegIn_local _ w 3 a3 (by decide), Hm.setRegIn_local _ w 4 a4 (by decide), Hm.setRegIn_local _ w 5 a5 (by decide),
      Hm.setRegIn_local _ w 6 a6 (by decide), Hm.setRegIn_local _ w 7 a7 (by decide), Hm.setRegIn_passIn _ w 0 b0 (by decide),
      Hm.setRegIn_passIn _ w 1 b1 (by decide), Hm.setRegIn_passIn _ w 2 b2 (by decide), Hm.setRegIn_passIn _ w 3 b3 (by decide)]
    exact ⟨rfl, rfl⟩

theorem State.hm_watch (s : State) (a n : Nat) : (s.watch a n).hm = s.hm := by
  unfold State.watch
  split <;> rfl

/-! ### The instructions -/

section
variable {s u : State} (hf : s.Fetches u)
include hf

/-- HM_LOAD_STORE as the statement has it. -/
theorem hmLoadStore_complete (op : HmMemOp) (rd rs1 : Nat) (imm : Word) (a n : Nat) (t : State) :
    rd < 24 → rs1 < 24 → a = (u.r rs1 + imm).toNat → n = HmMemOp.size op → a % n = 0 →
    (op = .load8s ∨ op = .load8u ∨ op = .load16s ∨ op = .load16u ∨ op = .load32 → t = u.dataRead a n → t.bus.status = .ok →
      exec (.hmLoadStore op rd rs1 imm) s = .next ((t.watch a n).ret rd
        (match op with
         | .load8s => (BitVec.ofNat 8 (ofLe t.bus.data)).signExtend 32
         | .load16s => (BitVec.ofNat 16 (ofLe t.bus.data)).signExtend 32
         | _ => BitVec.ofNat 32 (ofLe t.bus.data)))) ∧
    (op = .store8 ∨ op = .store16 ∨ op = .store32 → t = u.dataWrite a (leBytes n (u.r rd).toNat) → t.bus.status = .ok →
      exec (.hmLoadStore op rd rs1 imm) s = .next (t.watch a n).pcNext) := by
  intro h1 h2 ha hn hal
  have hexec : exec (.hmLoadStore op rd rs1 imm) s = _ := State.instrR_fetches hf [rd, rs1] (by simp [h1, h2]) (fun t =>
    if (t.r rs1 + imm).toNat % HmMemOp.size op ≠ 0 then t.trap 0x07
    else if HmMemOp.stores op then
      if (t.dataWrite (t.r rs1 + imm).toNat (leBytes (HmMemOp.size op) (t.r rd).toNat)).bus.status = .ok then
        ((t.dataWrite (t.r rs1 + imm).toNat (leBytes (HmMemOp.size op) (t.r rd).toNat)).watch (t.r rs1 + imm).toNat (HmMemOp.size op)).pcNext
      else t.dataFault (t.dataWrite (t.r rs1 + imm).toNat (leBytes (HmMemOp.size op) (t.r rd).toNat)) (t.r rs1 + imm).toNat
    else if (t.dataRead (t.r rs1 + imm).toNat (HmMemOp.size op)).bus.status = .ok then
      ((t.dataRead (t.r rs1 + imm).toNat (HmMemOp.size op)).watch (t.r rs1 + imm).toNat (HmMemOp.size op)).ret rd
        (HmMemOp.value op (t.dataRead (t.r rs1 + imm).toNat (HmMemOp.size op)).bus.data)
    else t.dataFault (t.dataRead (t.r rs1 + imm).toNat (HmMemOp.size op)) (t.r rs1 + imm).toNat)
  rw [← ha, ← hn, if_neg (by rw [hal]; decide)] at hexec
  refine ⟨fun hop ht hok => hexec.trans ?_, fun hop ht hok => hexec.trans ?_⟩
  · have hload : HmMemOp.stores op = false := by rcases hop with h | h | h | h | h <;> rw [h] <;> rfl
    rw [hload, if_neg (by decide), ← ht, if_pos hok]
    rfl
  · have hstore : HmMemOp.stores op = true := by rcases hop with h | h | h <;> rw [h] <;> rfl
    rw [hstore, if_pos rfl, ← ht, if_pos hok]

/-- STWIN and LDWIN as the statement has them. -/
theorem windowFrames_complete (rs b a w : Nat) (t : State) (h1 : rs < 24) (hb : b % 8 ≠ 0) (hw : w = (bits u.hm.hsr 2 0 + b) % 8) (ha : a = (u.r rs).toNat)
    (hal : a % 4 = 0) :
    (u.storeWords a ((List.range 8).map (fun i => u.hm.regIn w (16 + i)) ++ (List.range 4).map (fun i => u.hm.regIn w (8 + i))) = (t, none) →
      exec (.stwin b rs) s = .next (t.watch a 48).pcNext) ∧
    (∀ l, u.loadWords a 12 [] = (t, none, l) → ∃ v, exec (.ldwin b rs) s = .next v ∧ v.hm.pc = t.hm.pc + 4 ∧ v.hm.g = t.hm.g ∧
      (t.hm.l.length = 64 → l.length = 12 → ∀ i, i < 8 → v.hm.regIn w (16 + i) = l.getD i 0) ∧
      (t.hm.h.length = 32 → l.length = 12 → ∀ i, i < 4 → v.hm.regIn w (8 + i) = l.getD (8 + i) 0)) := by
  subst ha
  refine ⟨fun h => ?_, fun l h => ?_⟩
  · refine (State.instrR_fetches hf [rs] (by simp [h1]) _).trans ?_
    dsimp only
    rw [if_neg hb, if_neg (by rw [hal]; decide), show (u.hm.cwp + b) % 8 = w from hw.symm]
    rw [show frameRegs.map (fun r => u.hm.regIn w r) = (List.range 8).map (fun i => u.hm.regIn w (16 + i)) ++
      (List.range 4).map (fun i => u.hm.regIn w (8 + i)) from rfl, h]
  · have hexec : exec (.ldwin b rs) s = .next ({ t with hm := t.hm.loadFrame w l }.watch (u.r rs).toNat 48).pcNext := by
      refine (State.instrR_fetches hf [rs] (by simp [h1]) _).trans ?_
      dsimp only
      rw [if_neg hb, if_neg (by rw [hal]; decide), show (u.hm.cwp + b) % 8 = w from hw.symm, h]
      rfl
    obtain ⟨hpc, hg⟩ := t.hm.loadFrame_keeps w l
    have hhm : (({ t with hm := t.hm.loadFrame w l }.watch (u.r rs).toNat 48).pcNext).hm = { t.hm.loadFrame w l with pc := t.hm.pc + 4 } := by
      rw [State.pcNext]
      dsimp only
      rw [State.hm_watch, hpc]
    have hlt : w < 8 := by rw [hw]; exact Nat.mod_lt _ (by decide)
    refine ⟨_, hexec, congrArg Hm.pc hhm, (congrArg Hm.g hhm).trans hg, fun hfile hl i hi => ?_, fun hfile hl i hi => ?_⟩
    · obtain ⟨hlocal, -⟩ := t.hm.loadFrame_files w l hl
      rw [hhm, Hm.regIn_local _ _ hi]
      dsimp only
      rw [hlocal, Nat.mod_eq_of_lt hlt, getD_putRun _ _ _ _ (by rw [List.length_take]; omega) (by omega), List.getD_eq_getElem?_getD,
        List.getElem?_take_of_lt hi, ← List.getD_eq_getElem?_getD]
    · obtain ⟨-, hparam⟩ := t.hm.loadFrame_files w l hl
      rw [hhm, Hm.regIn_passIn _ _ hi]
      dsimp only
      rw [hparam, getD_putRun _ _ _ _ (by rw [List.length_drop]; omega) (by omega), List.getD_eq_getElem?_getD, List.getElem?_drop,
        ← List.getD_eq_getElem?_getD]

/-- The cache instructions as the statement has them. -/
theorem cacheInstructions_complete (rs : Nat) (imm : BitVec 10) (line : Nat) (h1 : rs < 24) (hl : line = (u.r rs + imm.setWidth 32).toNat / 32 * 32) :
    exec (.cinv rs imm) s = .next (u.dropLine line).pcNext ∧
    (∀ t, t = u.writeBack line → t.bus.status = .ok → exec (.cwb rs imm) s = .next t.pcNext ∧
      exec (.cwbinv rs imm) s = .next (t.dropLine line).pcNext) := by
  subst hl
  refine ⟨State.instrR_fetches hf [rs] (by simp [h1]) _, fun t ht hok => ?_⟩
  subst ht
  exact ⟨(State.instrR_fetches hf [rs] (by simp [h1]) _).trans (congrArg _ (if_pos hok)),
    (State.instrR_fetches hf [rs] (by simp [h1]) _).trans (congrArg _ (if_pos hok))⟩

omit hf in
theorem State.jump_aligned (u : State) {target : Word} (h : target.toNat % 4 = 0) : u.jump target = { u with hm := { u.hm with pc := target } } :=
  if_neg (by rw [h]; decide)

/-- The branches as the statement has them. -/
theorem hmBranch_complete (rd rs1 rs2 : Nat) (imm target : Word) (h1 : rd < 24) (h2 : rs1 < 24) (ht : target = u.hm.pc + 4 * (imm + Config.branchBase)) :
    (target.toNat % 4 = 0 →
      exec (.hmBranch .jump rd rs1 rs2 imm) s = .next { u with hm := { u.hm with pc := target } } ∧
      (∃ t, exec (.hmBranch .call rd rs1 rs2 imm) s = .next t ∧ t.hm.pc = target ∧
        t = { u.setR rd (u.hm.pc + 4) with hm := { (u.setR rd (u.hm.pc + 4)).hm with pc := target } }) ∧
      (∀ c, exec (.hmBranch (.cond c) rd rs1 rs2 imm) s = .next
        (if Config.hmCond c u.hm.hsr then { u with hm := { u.hm with pc := target } } else u.pcNext))) ∧
    ((u.r rs1 + imm).toNat % 4 = 0 → ∃ t, exec (.hmBranch .jumpReg rd rs1 rs2 imm) s = .next t ∧ t.hm.pc = u.r rs1 + imm ∧
      t = { u.setR rd (u.hm.pc + 4) with hm := { (u.setR rd (u.hm.pc + 4)).hm with pc := u.r rs1 + imm } }) := by
  subst ht
  refine ⟨fun hal => ⟨?_, ⟨_, ?_, rfl, rfl⟩, fun c => ?_⟩, fun hal => ⟨_, ?_, rfl, rfl⟩⟩
  · exact (State.instrR_fetches hf [] (by simp) _).trans (congrArg _ (u.jump_aligned hal))
  · exact (State.instrR_fetches hf [rd] (by simp [h1]) _).trans (congrArg _ ((u.setR rd (u.hm.pc + 4)).jump_aligned hal))
  · refine (State.instrR_fetches hf [] (by simp) _).trans ?_
    dsimp only
    rw [State.branchTarget, u.jump_aligned hal]
  · refine (State.instrR_fetches hf [rd, rs1] (by simp [h1, h2]) _).trans ?_
    dsimp only
    rw [if_neg (by rw [hal]; decide), State.jump_aligned _ hal]
end

/-- Settles O49: each instruction is its effect on the state that the fetch leaves. -/
theorem hmMemoryInstructionsComplete : Obligations.HmMemoryInstructionsComplete := fun _ _ hf =>
  ⟨hmLoadStore_complete hf, windowFrames_complete hf, cacheInstructions_complete hf, hmBranch_complete hf⟩

end Sys2Proof.Machine
end

section
/-! SUPPORT. FP instructions at issue, and the statement FpArithmeticCompletes (SPEC chapter 17, Table HMA-2). -/

namespace Sys2Proof.Machine

/-! ### Issue (R637, R648) -/

section
variable {s t : State}

/-- An FP instruction of a legal form that issues is its effect, in flight with the exceptions of its completion. -/
theorem State.fpInstr_issues {f : FpForm} (h : s.Issues t (f.uses ++ f.dest.toList) f.divider) (hlegal : f.bad = false) {body : State → State × Option Nat}
    {u : State} {exc : Nat} (hbody : body t = (u, some exc)) : s.fpInstr f body = .next (u.inFlight t f.word f.dest f.divider exc) := by
  obtain ⟨⟨v, hv, ht⟩, hquiet, hfe⟩ := h
  have hrun : ∀ k : State → State, k { v with hm := v.hm.completeN (v.hm.waitsFor (f.uses ++ f.dest.toList) f.divider) } = k t := fun k => by rw [ht]
  unfold State.fpInstr
  refine (State.instr_fetches hv _).trans (congrArg Host.Outcome.next ((hrun fun t =>
    if !t.hm.fq.isEmpty then t.fpTrap
    else if f.bad then t.illegal
    else if !t.hm.fe then t.trap 0x04
    else match body t with
      | (u, none) => u
      | (u, some exc) => { u with hm := { u.hm with flight := u.hm.flight ++
          [({ pc := t.hm.pc, instr := f.word, dest := f.dest, divider := f.divider, exc := exc } : FpOp)] } }.pcNext).trans ?_))
  rw [hquiet, hlegal, hfe, hbody]
  rfl

theorem rmBad_legal {rm : Nat} (h : rm % 8 < 6) : rmBad rm = false := decide_eq_false (by omega)

/-- A computation into an FP register. -/
theorem State.fpCompute_issues {fmt : FpFmt} {op fd fs1 fs2 rm : Nat} {uses : List Nat} {divider : Bool} (hrm : rm % 8 < 6)
    (h : s.Issues t (uses ++ [fd % 32]) divider) (body : State → FpRes) :
    s.fpCompute fmt op fd fs1 fs2 rm uses divider body = .next (t.fpWrites fmt fd (fpWord fmt op fd fs1 fs2 rm) divider (body t)) := by
  refine (State.fpInstr_issues (u := t.setF fd fmt (body t).1) (exc := (body t).2) h (rmBad_legal hrm) rfl).trans ?_
  cases fmt <;> rfl

/-- A value from integer registers into an FP register. -/
theorem State.fpFromInt_issues {fmt : FpFmt} {op fd rs1 rs2 rm : Nat} {bad : Bool} (hbad : bad = false) (h1 : rs1 < 24)
    (h : s.Issues t [fd % 32] false) (body : State → FpRes) :
    s.fpFromInt fmt op fd rs1 rs2 rm bad body = .next (t.fpWrites fmt fd (fpWord fmt op fd rs1 rs2 rm) false (body t)) := by
  have hlegal : (bad || decide (rs1 ≥ 24)) = false := by rw [hbad, decide_eq_false (by omega)]; rfl
  refine (State.fpInstr_issues (u := t.setF fd fmt (body t).1) (exc := (body t).2) h hlegal rfl).trans ?_
  cases fmt <;> rfl

/-- A move of sign bits. -/
theorem State.fpSign_issues {fmt : FpFmt} {op fd fs1 fs2 rm : Nat} (h : s.Issues t [fs1 % 32, fs2 % 32, fd % 32] false) (sign : State → Bool) :
    s.fpSign fmt op fd fs1 fs2 rm sign =
      .next (t.fpWrites fmt fd (fpWord fmt op fd fs1 fs2 rm) false (FpFmt.withSign fmt (t.f fs1) (sign t), 0)) := by
  refine (State.fpInstr_issues (u := t.setF fd fmt (FpFmt.withSign fmt (t.f fs1) (sign t))) (exc := 0) h rfl rfl).trans ?_
  cases fmt <;> rfl
end

/-! ### Signs -/

theorem FpFmt.toNat_signOf (fmt : FpFmt) (x : Nat) : (FpFmt.signOf fmt x).toNat = x / FpFmt.signBit fmt % 2 := by
  unfold FpFmt.signOf
  rcases Nat.mod_two_eq_zero_or_one (x / FpFmt.signBit fmt) with h | h <;> rw [h] <;> rfl

theorem FpFmt.toNat_not_signOf (fmt : FpFmt) (x : Nat) : (!FpFmt.signOf fmt x).toNat = 1 - x / FpFmt.signBit fmt % 2 := by
  rw [← FpFmt.toNat_signOf]
  cases FpFmt.signOf fmt x <;> rfl

/-! ### The instructions -/

section
variable {s t : State} {fmt : FpFmt} {fd fs1 fs2 rm mode : Nat} {tu : Bool} (hmode : mode = (if rm % 8 = 0 then bits t.hm.fsr 2 0 else rm % 8 - 1))
  (htu : tu = bit t.hm.fsr 9) (hrm : rm % 8 < 6)
include hmode htu hrm

/-- Sums, products, quotients, roots, the fused forms, the extremes and the conversions, with a legal rounding mode. -/
theorem fpRounding_complete :
    (s.Issues t [fs1 % 32, fs2 % 32, fd % 32] false →
      exec (.fadd fmt fd fs1 fs2 rm) s = .next (t.fpWrites fmt fd (fpWord fmt 0x00 fd fs1 fs2 rm) false (FpFmt.add fmt mode tu false (t.f fs1) (t.f fs2)))) ∧
    (s.Issues t [fs1 % 32, fs2 % 32, fd % 32] false →
      exec (.fsub fmt fd fs1 fs2 rm) s = .next (t.fpWrites fmt fd (fpWord fmt 0x01 fd fs1 fs2 rm) false (FpFmt.add fmt mode tu true (t.f fs1) (t.f fs2)))) ∧
    (s.Issues t [fs1 % 32, fs2 % 32, fd % 32] false →
      exec (.fmul fmt fd fs1 fs2 rm) s = .next (t.fpWrites fmt fd (fpWord fmt 0x02 fd fs1 fs2 rm) false (FpFmt.mul fmt mode tu (t.f fs1) (t.f fs2)))) ∧
    (s.Issues t [fs1 % 32, fs2 % 32, fd % 32] true →
      exec (.fdiv fmt fd fs1 fs2 rm) s = .next (t.fpWrites fmt fd (fpWord fmt 0x03 fd fs1 fs2 rm) true (FpFmt.div fmt mode tu (t.f fs1) (t.f fs2)))) ∧
    (s.Issues t [fs1 % 32, fd % 32] true →
      exec (.fsqrt fmt fd fs1 rm) s = .next (t.fpWrites fmt fd (fpWord fmt 0x04 fd fs1 0 rm) true (FpFmt.sqrt fmt mode tu (t.f fs1)))) ∧
    (s.Issues t [fs1 % 32, fs2 % 32, fd % 32] false →
      exec (.fmac fmt fd fs1 fs2 rm) s = .next (t.fpWrites fmt fd (fpWord fmt 0x05 fd fs1 fs2 rm) false (FpFmt.fma fmt mode tu false false (t.f fs1) (t.f fs2) (t.f fd)))) ∧
    (s.Issues t [fs1 % 32, fs2 % 32, fd % 32] false →
      exec (.fmsc fmt fd fs1 fs2 rm) s = .next (t.fpWrites fmt fd (fpWord fmt 0x06 fd fs1 fs2 rm) false (FpFmt.fma fmt mode tu true false (t.f fs1) (t.f fs2) (t.f fd)))) ∧
    (s.Issues t [fs1 % 32, fs2 % 32, fd % 32] false →
      exec (.fnmac fmt fd fs1 fs2 rm) s = .next (t.fpWrites fmt fd (fpWord fmt 0x07 fd fs1 fs2 rm) false (FpFmt.fma fmt mode tu false true (t.f fs1) (t.f fs2) (t.f fd)))) ∧
    (s.Issues t [fs1 % 32, fs2 % 32, fd % 32] false →
      exec (.fminn fmt fd fs1 fs2 rm) s = .next (t.fpWrites fmt fd (fpWord fmt 0x08 fd fs1 fs2 rm) false (FpFmt.minmax fmt false (t.f fs1) (t.f fs2)))) ∧
    (s.Issues t [fs1 % 32, fs2 % 32, fd % 32] false →
      exec (.fmaxn fmt fd fs1 fs2 rm) s = .next (t.fpWrites fmt fd (fpWord fmt 0x09 fd fs1 fs2 rm) false (FpFmt.minmax fmt true (t.f fs1) (t.f fs2)))) ∧
    (fs1 < 24 → (s.Issues t [fd % 32] false →
      exec (.itof fmt fd fs1 rm) s = .next (t.fpWrites fmt fd (fpWord fmt 0x0F fd fs1 0 rm) false (FpFmt.ofInt fmt mode tu (t.r fs1).toInt)))) ∧
    (fs1 < 24 → (s.Issues t [fd % 32] false →
      exec (.utof fmt fd fs1 rm) s = .next (t.fpWrites fmt fd (fpWord fmt 0x10 fd fs1 0 rm) false (FpFmt.ofInt fmt mode tu (t.r fs1).toNat)))) ∧
    (s.Issues t [fs1 % 32, fd % 32] false →
      exec (.ftof fmt fd fs1 rm) s = .next (t.fpWrites fmt fd (fpWord fmt 0x11 fd fs1 0 rm) false (FpFmt.convert fmt mode tu (t.f fs1)))) := by
  have hm : mode = t.mode rm := hmode
  have hu : tu = t.trapUf := htu
  subst hm hu
  refine ⟨fun h => ?_, fun h => ?_, fun h => ?_, fun h => ?_, fun h => ?_, fun h => ?_, fun h => ?_, fun h => ?_, fun h => ?_, fun h => ?_,
    fun h1 h => ?_, fun h1 h => ?_, fun h => ?_⟩
  · show execFadd fmt fd fs1 fs2 rm s = _
    rw [execFadd, State.fpCompute_issues hrm h]
  · show execFsub fmt fd fs1 fs2 rm s = _
    rw [execFsub, State.fpCompute_issues hrm h]
  · show execFmul fmt fd fs1 fs2 rm s = _
    rw [execFmul, State.fpCompute_issues hrm h]
  · show execFdiv fmt fd fs1 fs2 rm s = _
    rw [execFdiv, State.fpCompute_issues hrm h]
  · show execFsqrt fmt fd fs1 rm s = _
    rw [execFsqrt, State.fpCompute_issues hrm h]
  · show execFmac fmt fd fs1 fs2 rm s = _
    rw [execFmac, State.fused, State.fpCompute_issues hrm h]
  · show execFmsc fmt fd fs1 fs2 rm s = _
    rw [execFmsc, State.fused, State.fpCompute_issues hrm h]
  · show execFnmac fmt fd fs1 fs2 rm s = _
    rw [execFnmac, State.fused, State.fpCompute_issues hrm h]
  · show execFminn fmt fd fs1 fs2 rm s = _
    rw [execFminn, State.fpCompute_issues hrm h]
  · show execFmaxn fmt fd fs1 fs2 rm s = _
    rw [execFmaxn, State.fpCompute_issues hrm h]
  · show execItof fmt fd fs1 rm s = _
    rw [execItof, State.fpFromInt_issues (rmBad_legal hrm) h1 h]
  · show execUtof fmt fd fs1 rm s = _
    rw [execUtof, State.fpFromInt_issues (rmBad_legal hrm) h1 h]
  · show execFtof fmt fd fs1 rm s = _
    rw [execFtof, State.fpCompute_issues hrm h]
end

section
variable {s t : State} {fmt : FpFmt} {fd fs1 fs2 rm : Nat}

/-- The sign moves. -/
theorem fpSigns_complete {sign : Nat} (hsign : sign = FpFmt.signBit fmt) :
    (s.Issues t [fs1 % 32, fs2 % 32, fd % 32] false →
      exec (.fcpys fmt fd fs1 fs2 rm) s = .next (t.fpWrites fmt fd (fpWord fmt 0x12 fd fs1 fs2 rm) false (t.f fs1 % sign + t.f fs2 / sign % 2 * sign, 0))) ∧
    (s.Issues t [fs1 % 32, fs1 % 32, fd % 32] false →
      exec (.fneg fmt fd fs1 rm) s = .next (t.fpWrites fmt fd (fpWord fmt 0x13 fd fs1 fs1 rm) false (t.f fs1 % sign + (1 - t.f fs1 / sign % 2) * sign, 0))) ∧
    (s.Issues t [fs1 % 32, fs1 % 32, fd % 32] false →
      exec (.fabs fmt fd fs1 rm) s = .next (t.fpWrites fmt fd (fpWord fmt 0x14 fd fs1 fs1 rm) false (t.f fs1 % sign, 0))) := by
  subst hsign
  refine ⟨fun h => ?_, fun h => ?_, fun h => ?_⟩
  · rw [← FpFmt.toNat_signOf]
    show execFcpys fmt fd fs1 fs2 rm s = _
    rw [execFcpys, State.fpSign_issues h, FpFmt.withSign]
  · rw [← FpFmt.toNat_not_signOf]
    show execFneg fmt fd fs1 rm s = _
    rw [execFneg, State.fpSign_issues h, FpFmt.withSign]
  · have hzero : t.f fs1 % FpFmt.signBit fmt = FpFmt.withSign fmt (t.f fs1) false := by
      rw [FpFmt.withSign, Bool.toNat_false, Nat.zero_mul, Nat.add_zero]
    rw [hzero]
    show execFabs fmt fd fs1 rm s = _
    rw [execFabs, State.fpSign_issues h]

theorem fput_complete (h1 : fs1 < 24) (h2 : fmt = .d → fs2 < 24) (h : s.Issues t [fd % 32] false) :
    exec (.fput fmt fd fs1 fs2 rm) s = .next (t.fpWrites fmt fd (fpWord fmt 0x15 fd fs1 fs2 rm) false ((t.r fs1).toNat + (match fmt with
      | .s => 0
      | .d => 2 ^ 32 * (t.r fs2).toNat), 0)) := by
  have hlegal : (fmt == FpFmt.d && decide (fs2 ≥ 24)) = false := by
    cases fmt with
    | s => rfl
    | d => rw [decide_eq_false (Nat.not_le.mpr (h2 rfl)), Bool.and_false]
  show execFput fmt fd fs1 fs2 rm s = _
  rw [execFput, State.fpFromInt_issues hlegal h1 h]
  cases fmt <;> rfl
end

/-- Settles O50: each instruction is its computation at issue. -/
theorem fpArithmeticCompletes : Obligations.FpArithmeticCompletes := by
  intro s t fmt fd fs1 fs2 rm mode tu hmode htu
  refine ⟨fpRounding_complete hmode htu, fun sign hsign => fpSigns_complete (hsign.trans ?_), fput_complete⟩
  cases fmt <;> rfl

end Sys2Proof.Machine
end

section
/-! SUPPORT. FP moves, loads, stores and state, and the statement FpMovesAndStateComplete (SPEC chapter 17, Table HMA-2). -/

namespace Sys2Proof.Machine

/-! ### FSR (R647) -/

theorem bits_defined (v : Word) (hi lo : Nat) (h : hi < 18) : bits (v &&& 0x0003FFFF) hi lo = bits v hi lo := by
  have hmask : (v &&& 0x0003FFFF).toNat = v.toNat % 2 ^ 18 := (BitVec.toNat_and ..).trans (Nat.and_two_pow_sub_one_eq_mod _ 18)
  apply Nat.eq_of_testBit_eq
  intro i
  unfold bits
  rw [hmask, Nat.testBit_mod_two_pow, Nat.testBit_mod_two_pow, Nat.testBit_shiftRight, Nat.testBit_shiftRight, Nat.testBit_mod_two_pow]
  by_cases hi' : i < hi + 1 - lo
  · rw [decide_eq_true (show lo + i < 18 by omega), Bool.true_and]
  · simp [hi']

theorem bits_reserved (v : Word) : bits (v &&& 0x0003FFFF) 31 18 = 0 := by
  have hmask : (v &&& 0x0003FFFF).toNat = v.toNat % 2 ^ 18 := (BitVec.toNat_and ..).trans (Nat.and_two_pow_sub_one_eq_mod _ 18)
  rw [bits, hmask, Nat.shiftRight_eq_div_pow, Nat.div_eq_of_lt (Nat.mod_lt _ (by decide)), Nat.zero_mod]

/-- What a write leaves in FSR: the defined bits, and rounding mode 0 for the modes that there are not. -/
theorem fsrWritten_fields (v : Word) : bits (fsrWritten v) 17 3 = bits v 17 3 ∧ bits (fsrWritten v) 31 18 = 0 ∧
    bits (fsrWritten v) 2 0 = (if bits v 2 0 < 5 then bits v 2 0 else 0) := by
  unfold fsrWritten
  dsimp only
  rw [bits_defined v 2 0 (by decide)]
  split
  · next h =>
    rw [if_neg (Nat.not_lt.mpr h), bits_putBits_apart _ _ _ _ _ _ (by decide) (Or.inr (by decide)), bits_defined v 17 3 (by decide),
      bits_putBits_apart _ _ _ _ _ _ (by decide) (Or.inr (by decide)), bits_reserved, bits_putBits_self _ _ _ _ (by decide) (by decide)]
    exact ⟨rfl, rfl, rfl⟩
  · next h =>
    rw [if_pos (Nat.not_le.mp h), bits_defined v 17 3 (by decide), bits_defined v 2 0 (by decide), bits_reserved]
    exact ⟨rfl, rfl, rfl⟩

/-- FSR as it is read. -/
theorem Hm.fsrWord_fields (h : Hm) (hq : h.fq.length ≤ 4) : bits h.fsrWord 17 0 = bits h.fsr 17 0 ∧ bits h.fsrWord 20 18 = h.fq.length ∧
    bit h.fsrWord 21 = !h.fq.isEmpty := by
  refine ⟨?_, ?_, bit_putBit_self _ _ _ (by decide)⟩
  · rw [Hm.fsrWord, putBit, bits_putBits_apart _ _ _ _ _ _ (by decide) (Or.inl (by decide)), bits_putBits_apart _ _ _ _ _ _ (by decide) (Or.inl (by decide))]
  · rw [Hm.fsrWord, putBit, bits_putBits_apart _ _ _ _ _ _ (by decide) (Or.inl (by decide)), bits_putBits_self _ _ _ _ (by decide) (by decide)]
    exact Nat.mod_eq_of_lt (by omega)

/-! ### Completions in flight (R648) -/

theorem Hm.completeOne_keeps (h : Hm) : h.completeOne.flight = h.flight.drop 1 ∧ h.completeOne.pc = h.pc := by
  unfold Hm.completeOne
  split
  · next he => exact ⟨by rw [he]; rfl, rfl⟩
  · next he => exact ⟨by rw [he]; rfl, rfl⟩

theorem Hm.completeN_keeps (h : Hm) (n : Nat) : (h.completeN n).flight = h.flight.drop n ∧ (h.completeN n).pc = h.pc := by
  induction n generalizing h with
  | zero => exact ⟨rfl, rfl⟩
  | succ n ih =>
    obtain ⟨hflight, hpc⟩ := ih h.completeOne
    obtain ⟨hflight1, hpc1⟩ := h.completeOne_keeps
    exact ⟨hflight.trans (by rw [hflight1, List.drop_drop, Nat.add_comm]), hpc.trans hpc1⟩

theorem Hm.completeAll_keeps (h : Hm) : h.completeAll.flight = [] ∧ h.completeAll.pc = h.pc := by
  obtain ⟨hflight, hpc⟩ := h.completeN_keeps h.flight.length
  exact ⟨hflight.trans (List.drop_length), hpc⟩

/-- FP_INSTRUCTION_COMPLETE as the statement has it. -/
theorem fpInstructionComplete_complete {s : State} (hh : s.boot.held = false) (op : FpOp) (r : List FpOp) (hf : s.hm.flight = op :: r) (he : op.exc < 32) :
    ∃ v, exec .fpInstructionComplete s = .next v ∧ v.hm.flight = r ∧
      bits v.hm.fsr 17 13 = op.exc ∧ bits v.hm.fsr 7 3 = bits s.hm.fsr 7 3 ||| op.exc ∧ bits v.hm.fsr 12 8 = bits s.hm.fsr 12 8 ∧
      bits v.hm.fsr 2 0 = bits s.hm.fsr 2 0 ∧ v.hm.fq = (if bits s.hm.fsr 12 8 &&& op.exc ≠ 0 ∨ s.hm.fq ≠ [] then
        s.hm.fq ++ [{ pc := op.pc, instr := op.instr, exc := op.exc }] else s.hm.fq) := by
  have hexec : exec .fpInstructionComplete s = .next { s with hm := s.hm.completeOne } := by
    show execFpInstructionComplete s = _
    rw [execFpInstructionComplete, hh, if_neg (by decide)]
  have hone : s.hm.completeOne = { s.hm with
      flight := r
      fsr := putBits (putBits s.hm.fsr 17 13 op.exc) 7 3 (bits s.hm.fsr 7 3 ||| op.exc)
      fq := if (bits s.hm.fsr 12 8 &&& op.exc) != 0 || !s.hm.fq.isEmpty then
        s.hm.fq ++ [{ pc := op.pc, instr := op.instr, exc := op.exc }] else s.hm.fq } := by
    rw [Hm.completeOne, hf]
  rw [hone] at hexec
  have hor : bits s.hm.fsr 7 3 ||| op.exc < 2 ^ 5 := Nat.or_lt_two_pow (Nat.mod_lt _ (by decide)) he
  refine ⟨_, hexec, rfl, ?_, ?_, ?_, ?_, ?_⟩
  · exact (bits_putBits_apart _ _ _ _ _ _ (by decide) (Or.inr (by decide))).trans ((bits_putBits_self _ _ _ _ (by decide) (by decide)).trans
      (Nat.mod_eq_of_lt he))
  · exact (bits_putBits_self _ _ _ _ (by decide) (by decide)).trans (Nat.mod_eq_of_lt hor)
  · exact (bits_putBits_apart _ _ _ _ _ _ (by decide) (Or.inr (by decide))).trans (bits_putBits_apart _ _ _ _ _ _ (by decide) (Or.inl (by decide)))
  · exact (bits_putBits_apart _ _ _ _ _ _ (by decide) (Or.inl (by decide))).trans (bits_putBits_apart _ _ _ _ _ _ (by decide) (Or.inl (by decide)))
  · dsimp only
    congr 1
    simp

/-! ### FP state instructions (R649, R650) -/

section
variable {s u : State} (hf : s.Fetches u)
include hf

theorem fbar_complete (hq : u.hm.completeAll.fq = []) : exec .fbar s = .next { u with hm := u.hm.completeAll }.pcNext := by
  show execFbar s = _
  rw [execFbar, State.instr_fetches hf]
  dsimp only
  rw [hq, List.isEmpty_nil, if_neg (by decide)]

theorem State.fpState_enabled (hfe : bit u.hm.hsr 4 = true) {reg : Nat} (hr : reg < 24) (body : State → State) : s.fpState reg body = .next (body u) := by
  rw [State.fpState, State.instrR_fetches hf [reg] (by simp [hr])]
  rw [show u.hm.fe = true from hfe, if_neg (by decide)]

/-- The FP state instructions as the statement has them. -/
theorem fpStates_complete {rd : Nat} (hrd : rd < 24) (hfe : bit u.hm.hsr 4 = true) :
    (u.hm.fq.length ≤ 4 → ∃ v, exec (.rdfsr rd) s = .next (u.ret rd v) ∧ bits v 17 0 = bits u.hm.fsr 17 0 ∧ bits v 20 18 = u.hm.fq.length ∧
      bit v 21 = !u.hm.fq.isEmpty) ∧
    (∀ (rs : Nat) (imm : BitVec 10) (v : Word), rs < 24 → v = u.r rs ^^^ imm.signExtend 32 → ∃ x, exec (.wrfsr rs imm) s = .next x ∧
      x.hm.flight = [] ∧ x.hm.pc = u.hm.pc + 4 ∧ bits x.hm.fsr 17 3 = bits v 17 3 ∧ bits x.hm.fsr 31 18 = 0 ∧
      bits x.hm.fsr 2 0 = (if bits v 2 0 < 5 then bits v 2 0 else 0)) ∧
    (∀ code, code < 4 → (u.hm.fq = [] → exec (.rdfq rd code) s = .next (u.ret rd 0)) ∧
      (∀ e r, u.hm.fq = e :: r →
        (code < 3 → exec (.rdfq rd code) s = .next (u.ret rd ([e.pc, e.instr, BitVec.ofNat 32 e.exc].getD code 0))) ∧
        (code = 3 → exec (.rdfq rd code) s = .next ({ u with hm := { u.hm with fq := r } }.ret rd (BitVec.ofNat 32 r.length))))) := by
  refine ⟨fun hq => ⟨u.hm.fsrWord, State.fpState_enabled hf hfe hrd _, u.hm.fsrWord_fields hq⟩, fun rs imm v hrs hv => ?_, fun code hcode => ?_⟩
  · subst hv
    obtain ⟨hflight, hpc⟩ := u.hm.completeAll_keeps
    exact ⟨_, State.fpState_enabled hf hfe hrs _, hflight, congrArg (· + 4) hpc, fsrWritten_fields _⟩
  · show (_ → execRdfq rd code s = _) ∧ ∀ e r, _ → (_ → execRdfq rd code s = _) ∧ (_ → execRdfq rd code s = _)
    rw [execRdfq, State.fpState_enabled hf hfe hrd]
    refine ⟨fun hq => ?_, fun e r hq => ⟨fun hlt => ?_, fun heq => ?_⟩⟩
    · have hsame : u = { u with hm := { u.hm with fq := [] } } := by rw [← hq]
      rw [hq]
      have hcases : code = 0 ∨ code = 1 ∨ code = 2 ∨ code = 3 := by omega
      rcases hcases with rfl | rfl | rfl | rfl
      · rfl
      · rfl
      · rfl
      · exact congrArg (fun x : State => Host.Outcome.next (x.ret rd 0)) hsame.symm
    · rw [hq]
      have hcases : code = 0 ∨ code = 1 ∨ code = 2 := by omega
      rcases hcases with rfl | rfl | rfl <;> rfl
    · rw [hq, heq]
      rfl
end

/-! ### Integer destinations, loads and stores -/

section
variable {s t : State} {fmt : FpFmt} {rd fs1 fs2 rm : Nat}

/-- A computation into an integer register. -/
theorem State.fpToInt_issues {op : Nat} (hrd : rd < 24) (hrm : rm % 8 < 6) (h : s.Issues t [fs1 % 32, fs2 % 32] false) (body : State → FpRes) :
    s.fpToInt fmt op rd fs1 fs2 rm body = .next (t.fpGives rd (fpWord fmt op rd fs1 fs2 rm) (body t)) := by
  have hlegal : (rmBad rm || decide (rd ≥ 24)) = false := by rw [rmBad_legal hrm, decide_eq_false (by omega)]; rfl
  exact State.fpInstr_issues (u := t.setR rd (BitVec.ofNat 32 (body t).1)) (exc := (body t).2) h hlegal rfl

/-- Compares and conversions to an integer register. -/
theorem fpToIntegers_complete {mode : Nat} (hrd : rd < 24) (hmode : mode = (if rm % 8 = 0 then bits t.hm.fsr 2 0 else rm % 8 - 1)) (hrm : rm % 8 < 6)
    (x y : Nat) (hx : x = t.f fs1) (hy : y = t.f fs2) :
    (s.Issues t [fs1 % 32, fs2 % 32] false →
      exec (.fcmpeq fmt rd fs1 fs2 rm) s = .next (t.fpGives rd (fpWord fmt 0x0A rd fs1 fs2 rm) (FpFmt.compare fmt 0 x y))) ∧
    (s.Issues t [fs1 % 32, fs2 % 32] false →
      exec (.fcmplt fmt rd fs1 fs2 rm) s = .next (t.fpGives rd (fpWord fmt 0x0B rd fs1 fs2 rm) (FpFmt.compare fmt 1 x y))) ∧
    (s.Issues t [fs1 % 32, fs2 % 32] false →
      exec (.fcmple fmt rd fs1 fs2 rm) s = .next (t.fpGives rd (fpWord fmt 0x0C rd fs1 fs2 rm) (FpFmt.compare fmt 2 x y))) ∧
    (s.Issues t [fs1 % 32, fs1 % 32] false →
      exec (.ftoi fmt rd fs1 rm) s = .next (t.fpGives rd (fpWord fmt 0x0D rd fs1 fs1 rm) (FpFmt.toInt fmt mode (-(2 ^ 31)) (2 ^ 31 - 1) x))) ∧
    (s.Issues t [fs1 % 32, fs1 % 32] false →
      exec (.ftou fmt rd fs1 rm) s = .next (t.fpGives rd (fpWord fmt 0x0E rd fs1 fs1 rm) (FpFmt.toInt fmt mode 0 (2 ^ 32 - 1) x))) := by
  have hm : mode = t.mode rm := hmode
  subst hm hx hy
  refine ⟨fun h => ?_, fun h => ?_, fun h => ?_, fun h => ?_, fun h => ?_⟩
  · show execFcmpeq fmt rd fs1 fs2 rm s = _
    rw [execFcmpeq, State.fpToInt_issues hrd hrm h]
  · show execFcmplt fmt rd fs1 fs2 rm s = _
    rw [execFcmplt, State.fpToInt_issues hrd hrm h]
  · show execFcmple fmt rd fs1 fs2 rm s = _
    rw [execFcmple, State.fpToInt_issues hrd hrm h]
  · show execFtoi fmt rd fs1 rm s = _
    rw [execFtoi, State.fpToInt_issues hrd hrm h, show (-(2 ^ 31) : Int) = -2147483648 from rfl,
      show (2 ^ 31 - 1 : Int) = 2147483647 from rfl]
  · show execFtou fmt rd fs1 rm s = _
    rw [execFtou, State.fpToInt_issues hrd hrm h, show (2 ^ 32 - 1 : Int) = 4294967295 from rfl]

theorem fget_complete (hrd : rd < 24) (h : s.Issues t [fs1 % 32] false) : exec (.fget fmt rd fs1 rm) s =
    .next (t.fpGives rd (fpWord fmt 0x16 rd fs1 0 rm) (if fmt = .d ∧ rm % 8 = 1 then t.f fs1 / 2 ^ 32 else t.f fs1 % 2 ^ 32, 0)) := by
  show execFget fmt rd fs1 rm s = _
  rw [execFget, State.fpInstr_issues h (decide_eq_false (by omega)) rfl]
  dsimp only
  by_cases hhigh : fmt = .d ∧ rm % 8 = 1
  · obtain ⟨rfl, hrm⟩ := hhigh
    rw [hrm]
    rfl
  · have hlow : (fmt == FpFmt.d && rm % 8 == 1) = false := by
      cases fmt with
      | s => rfl
      | d => exact beq_false_of_ne fun hrm => hhigh ⟨rfl, hrm⟩
    rw [hlow, if_neg hhigh]
    rfl

/-- A load into an FP register. -/
theorem State.fload_issues {f rs a n : Nat} {imm : Word} {u : State} (hrs : rs < 24) (ha : a = (t.r rs + imm).toNat) (h : s.Issues t [f % 32] false)
    (hal : a % n = 0) (hu : u = t.dataRead a n) (hok : u.bus.status = .ok) : s.fload fmt n f rs imm =
      .next (((u.watch a n).setF f fmt (ofLe u.bus.data)).inFlight t (fpMemWord 0x16 f rs imm) (some (f % 32)) false 0) := by
  subst ha hu
  rw [State.fload]
  refine State.fpInstr_issues h (decide_eq_false (by omega)) ?_
  dsimp only
  rw [if_neg (by rw [hal]; decide), if_pos hok]

/-- A store of an FP register. -/
theorem State.fstore_issues {f rs a n : Nat} {imm : Word} {u : State} (hrs : rs < 24) (ha : a = (t.r rs + imm).toNat) (h : s.Issues t [f % 32] false)
    (hal : a % n = 0) (hu : u = t.dataWrite a (leBytes n (t.f f))) (hok : u.bus.status = .ok) : s.fstore n f rs imm =
      .next ((u.watch a n).inFlight t (fpMemWord 0x17 f rs imm) none false 0) := by
  subst ha hu
  rw [State.fstore]
  refine State.fpInstr_issues h (decide_eq_false (by omega)) ?_
  dsimp only
  rw [if_neg (by rw [hal]; decide), if_pos hok]

/-- The FP loads and stores as the statement has them. -/
theorem fpMemory_complete (f rs a : Nat) (imm : Word) (u : State) (hrs : rs < 24) (ha : a = (t.r rs + imm).toNat) (h : s.Issues t [f % 32] false) :
    (a % 4 = 0 → u = t.dataRead a 4 → u.bus.status = .ok → exec (.floadS f rs imm) s = .next
      (((u.watch a 4).setF f .s (ofLe u.bus.data)).inFlight t (fpMemWord 0x16 f rs imm) (some (f % 32)) false 0)) ∧
    (a % 8 = 0 → u = t.dataRead a 8 → u.bus.status = .ok → exec (.floadD f rs imm) s = .next
      (((u.watch a 8).setF f .d (ofLe u.bus.data)).inFlight t (fpMemWord 0x16 f rs imm) (some (f % 32)) false 0)) ∧
    (a % 4 = 0 → u = t.dataWrite a (leBytes 4 (t.f f)) → u.bus.status = .ok → exec (.fstoreS f rs imm) s = .next
      ((u.watch a 4).inFlight t (fpMemWord 0x17 f rs imm) none false 0)) ∧
    (a % 8 = 0 → u = t.dataWrite a (leBytes 8 (t.f f)) → u.bus.status = .ok → exec (.fstoreD f rs imm) s = .next
      ((u.watch a 8).inFlight t (fpMemWord 0x17 f rs imm) none false 0)) :=
  ⟨State.fload_issues hrs ha h, State.fload_issues hrs ha h, State.fstore_issues hrs ha h, State.fstore_issues hrs ha h⟩
end

/-- Settles O51: each instruction is its effect at issue, and a completion its entry in FSR and FQ. -/
theorem fpMovesAndStateComplete : Obligations.FpMovesAndStateComplete := fun _ _ _ _ _ _ _ _ hrd hmode =>
  ⟨fpToIntegers_complete hrd hmode, fget_complete hrd, fpMemory_complete, fun _ => fbar_complete, fun _ hf => fpStates_complete hf hrd,
    fpInstructionComplete_complete⟩

end Sys2Proof.Machine
end

section
/-! SUPPORT. CAN controllers and the end of a flash operation, and the statement CanAndFlashComplete (SPEC chapters 3 and 21). -/

namespace Sys2Proof.Machine

/-! ### What the CAN's operations leave -/

section
variable (s : State)

@[simp] theorem State.canPort_setCan (n : Nat) (x : Can) : (s.setCan n x).canPort n = x := Store.get_set_self ..

/-- A lost link changes a station's record and is told. -/
theorem State.linkLost_tells (id : Nat) : ∃ st, ({ s with tl := { s.tl with stations := st } } : State).Tells (s.linkLost id) := by
  have hgone : (s.station id).state ≠ .lost → ∃ st, ({ s with tl := { s.tl with stations := st } } : State).Tells (s.stationTo id .lost 2) := fun h =>
    ⟨_, s.stationTo_tells 2 h⟩
  unfold State.linkLost
  split
  · next h => exact hgone (by rw [h]; decide)
  · next h => exact hgone (by rw [h]; decide)
  · next h => exact hgone (by rw [h]; decide)
  · exact ⟨s.tl.stations, State.Tells.refl s⟩

/-- A point of a frame writes the image and its station's record. -/
structure State.TakesPoints (s t : State) (id : Nat) : Prop where
  eq : t = { s with mem := t.mem, tl := { s.tl with stations := t.tl.stations } }
  nDone : (t.station id).nDone = (s.station id).nDone

theorem State.TakesPoints.trans {s t u : State} {id : Nat} (h : s.TakesPoints t id) (h' : t.TakesPoints u id) : s.TakesPoints u id where
  eq := by rw [h'.eq, h.eq]
  nDone := h'.nDone.trans h.nDone

theorem State.TakesPoints.cans {s t : State} {id : Nat} (h : s.TakesPoints t id) : t.cans = s.cans := by rw [h.eq]
theorem State.TakesPoints.regs {s t : State} {id : Nat} (h : s.TakesPoints t id) : t.regs = s.regs := by rw [h.eq]

theorem State.putPoint_takes (id point : Nat) (q : Byte) (v : Int) : s.TakesPoints (s.putPoint id point q v) id := by
  unfold State.putPoint
  split
  · exact ⟨rfl, rfl⟩
  · exact ⟨rfl, by rw [State.station_setStation_self]; rfl⟩

theorem State.canPoint_takes (id : Nat) (c data : Bytes) (x : Nat × Bool × Nat) : s.TakesPoints (s.canPoint id c data x) id := by
  unfold State.canPoint
  dsimp only
  split
  · exact ⟨rfl, rfl⟩
  · exact s.putPoint_takes ..

theorem State.canPoints_take (id : Nat) (c data : Bytes) (l : List (Nat × Bool × Nat)) :
    s.TakesPoints (l.foldl (fun (t : State) x => t.canPoint id c data x) s) id := by
  induction l generalizing s with
  | nil => exact ⟨rfl, rfl⟩
  | cons x l ih => exact (s.canPoint_takes id c data x).trans (ih _)

/-- A completed exchange of outputs writes the station's record only. -/
theorem State.writesDone_eq (id k : Nat) : ∃ st, s.writesDone id k = { s with tl := { s.tl with stations := st } } := by
  unfold State.writesDone
  split
  · exact ⟨_, rfl⟩
  · exact ⟨s.tl.stations, rfl⟩
end

theorem testBit_raised (m n : Nat) : (m ||| 2 ^ n).testBit n = true := by
  rw [Nat.testBit_or, Nat.testBit_two_pow_self, Bool.or_true]

/-- The state after transmit frame `f` is acknowledged and the frames `r` wait. -/
def State.canSent (s : State) (n f : Nat) (r : List Nat) : State :=
  (s.setCan n { s.canPort n with txQueue := r, sent := (s.canPort n).sent ++
    [(canTxId (s.station (120 + n)).config f, canFrameBytes (120 + n) (s.station (120 + n)) f)] }).raiseIrq (30 + n)

/-! ### The CAN commands (R773 to R778, R791) -/

section
variable {s : State} {n : Nat}

section
variable (hserves : s.canServes n = true)
include hserves

theorem canTxDone_complete (hlisten : s.rbit (Reg.canCtrl + 256 * n) 1 = false) (f : Nat) (r : List Nat) (hq : (s.canPort n).txQueue = f :: r) :
    ∃ t, exec (.canTxDone n) s = .next t ∧ (t.canPort n).txQueue = r ∧ (t.canPort n).sent = (s.canPort n).sent ++
      [(canTxId (s.station (120 + n)).config f, canFrameBytes (120 + n) (s.station (120 + n)) f)] ∧ t.pulses.testBit (30 + n) = true ∧
      t.mem = s.mem ∧ t.regs = s.regs := by
  have hexec : exec (.canTxDone n) s = .next (match (s.canPort n).txCycle with
      | some k => if r.isEmpty then (s.canSent n f r).writesDone (120 + n) k else s.canSent n f r
      | none => s.canSent n f r) := by
    show execCanTxDone n s = _
    unfold execCanTxDone
    dsimp only
    rw [hserves, hlisten, if_neg (by decide), hq]
    rfl
  have hport := s.canPort_setCan n { s.canPort n with txQueue := r, sent := (s.canPort n).sent ++
    [(canTxId (s.station (120 + n)).config f, canFrameBytes (120 + n) (s.station (120 + n)) f)] }
  have hsent : ∀ st, (({ s.canSent n f r with tl := { s.tl with stations := st } } : State).canPort n).txQueue = r ∧
      (({ s.canSent n f r with tl := { s.tl with stations := st } } : State).canPort n).sent = (s.canPort n).sent ++
        [(canTxId (s.station (120 + n)).config f, canFrameBytes (120 + n) (s.station (120 + n)) f)] ∧
      (s.canSent n f r).pulses.testBit (30 + n) = true ∧ (s.canSent n f r).mem = s.mem ∧ (s.canSent n f r).regs = s.regs := fun _ =>
    ⟨congrArg Can.txQueue hport, congrArg Can.sent hport, testBit_raised _ _, rfl, rfl⟩
  refine ⟨_, hexec, ?_⟩
  split
  · next k _ =>
    obtain ⟨st, hst⟩ := (s.canSent n f r).writesDone_eq (120 + n) k
    split
    · rw [hst]
      exact hsent st
    · exact hsent s.tl.stations
  · exact hsent s.tl.stations

theorem canFrameReceived_complete (i : Nat) (x : Bool) (d : Bytes)
    (hmapped : (stationPoints (120 + n) (s.station (120 + n)).config).any (fun p => !p.2.1 && u32 (s.station (120 + n)).config p.2.2 % 2 ^ 29 == i &&
      (u32 (s.station (120 + n)).config p.2.2).testBit 29 == x) = true) : ∃ t, exec (.canFrameReceived n i x d) s = .next t ∧
    Store.find? (t.canPort n).heard i = some s.nowUs ∧ (t.station (120 + n)).nDone = (s.station (120 + n)).nDone + 1 ∧
    t.pulses.testBit (30 + n) = true ∧ t.regs = s.regs := by
  generalize hpts : (stationPoints (120 + n) (s.station (120 + n)).config).filter (fun p => !p.2.1 && u32 (s.station (120 + n)).config p.2.2 % 536870912 == i &&
    (u32 (s.station (120 + n)).config p.2.2).testBit 29 == x) = pts
  have hsome : pts.isEmpty = false := by
    rw [← hpts, List.isEmpty_eq_false_iff]
    obtain ⟨p, hp, htest⟩ := List.any_eq_true.mp hmapped
    exact List.ne_nil_of_mem (List.mem_filter.mpr ⟨hp, htest⟩)
  have hexec : exec (.canFrameReceived n i x d) s = .next (((pts.foldl (fun (t : State) p => t.canPoint (120 + n) (s.station (120 + n)).config d p)
      (s.setCan n { s.canPort n with heard := Store.insert (s.canPort n).heard i s.nowUs })).portDone (120 + n)).raiseIrq (30 + n)) := by
    show execCanFrameReceived n i x d s = _
    unfold execCanFrameReceived
    dsimp only
    rw [hpts, hserves, hsome]
    rfl
  have htakes := State.canPoints_take (s.setCan n { s.canPort n with heard := Store.insert (s.canPort n).heard i s.nowUs }) (120 + n)
    (s.station (120 + n)).config d pts
  generalize hu : pts.foldl (fun (t : State) p => t.canPoint (120 + n) (s.station (120 + n)).config d p)
    (s.setCan n { s.canPort n with heard := Store.insert (s.canPort n).heard i s.nowUs }) = u at hexec htakes
  have hcans : u.canPort n = { s.canPort n with heard := Store.insert (s.canPort n).heard i s.nowUs } := by
    rw [State.canPort, htakes.cans]
    exact s.canPort_setCan n _
  refine ⟨_, hexec, ?_, ?_, testBit_raised _ _, ?_⟩
  · exact (congrArg (fun c : Can => Store.find? c.heard i) hcans).trans (Store.find?_insert_self _ _ _)
  · refine (congrArg Station.nDone (State.station_setStation_self u (120 + n) _)).trans ?_
    exact congrArg (· + 1) htakes.nDone
  · exact htakes.regs

theorem canRxTimeout_complete : ∃ t, exec (.canRxTimeout n) s = .next t ∧ (t.station (120 + n)).failed = true ∧ t.pulses.testBit (30 + n) = true ∧
    t.mem = s.mem ∧ t.regs = s.regs :=
  ⟨_, congrArg Host.Outcome.next (if_pos hserves), congrArg Station.failed (State.station_setStation_self s (120 + n) _), testBit_raised _ _, rfl, rfl⟩

theorem canBusOff_complete (hn : n < 4) : ∃ t, exec (.canBusOff n) s = .next t ∧ t.rbit (Reg.canCtrl + 256 * n) 2 = true ∧ (t.canPort n).txQueue = [] ∧
    t.pulses.testBit (30 + n) = true ∧ t.mem = s.mem := by
  have hexec : exec (.canBusOff n) s = .next ((((s.setRbit (Reg.canCtrl + 256 * n) 2 true).setCan n
      { s.canPort n with txQueue := [], txCycle := none }).linkLost (120 + n)).raiseIrq (30 + n)) := by
    show execCanBusOff n s = _
    unfold execCanBusOff
    rw [hserves]
    rfl
  obtain ⟨st, htells⟩ := State.linkLost_tells ((s.setRbit (Reg.canCtrl + 256 * n) 2 true).setCan n { s.canPort n with txQueue := [], txCycle := none })
    (120 + n)
  have htold : told (Reg.canCtrl + 256 * n) = false := (show ∀ k, k < 4 → told (Reg.canCtrl + 256 * k) = false by decide) n hn
  have hcans := congrArg State.cans htells.eq
  refine ⟨_, hexec, ?_, ?_, testBit_raised _ _, htells.mem⟩
  · exact (htells.rbit htold 2).trans (State.rbit_setRbit_self s _ _ _ (by decide))
  · refine (congrArg (fun c : Store Can => (Store.get c n {}).txQueue) hcans).trans ?_
    exact congrArg Can.txQueue (State.canPort_setCan _ n _)
end

theorem canBusOffRecovery_complete (hn : n < 4) (hoff : s.rbit (Reg.canCtrl + 256 * n) 2 = true) : ∃ t, exec (.canBusOffRecovery n) s = .next t ∧
    t.rbit (Reg.canCtrl + 256 * n) 2 = false ∧ (t.station (120 + n)).willMoor = true ∧ t.mem = s.mem ∧ t.omx = s.omx := by
  have hexec : exec (.canBusOffRecovery n) s = .next ((s.setRbit (Reg.canCtrl + 256 * n) 2 false).setStation (120 + n)
      { (s.setRbit (Reg.canCtrl + 256 * n) 2 false).station (120 + n) with willMoor := true }) := by
    show execCanBusOffRecovery n s = _
    unfold execCanBusOffRecovery
    rw [hoff, if_neg (by simp [hn])]
  exact ⟨_, hexec, State.rbit_setRbit_self s _ _ _ (by decide), congrArg Station.willMoor (State.station_setStation_self _ _ _), rfl, rfl⟩
end

/-! ### The end of a flash operation (R89 to R91) -/

theorem Flash.get_erase (f : Flash) (a b : Nat) : Store.get (f.erase a).cs0 b 0xFF = if b / 65536 = a / 65536 then 0xFF else Store.get f.cs0 b 0xFF := by
  show (Store.find? (f.cs0.filter fun x => x.1 / 65536 != a / 65536) b).getD 0xFF = _
  rw [Store.find?_filter_keys f.cs0 (fun k => k / 65536 != a / 65536) b]
  by_cases h : b / 65536 = a / 65536
  · rw [if_pos h, if_neg (by simp [h])]
    rfl
  · rw [if_neg h, if_pos (by simp [h])]
    rfl

theorem Flash.get_program_apart (f : Flash) (a b : Nat) (d : Bytes) (h : b < a ∨ a + d.length ≤ b) :
    Store.get (f.program a d).cs0 b 0xFF = Store.get f.cs0 b 0xFF := by
  induction d generalizing f a with
  | nil => rfl
  | cons x d ih =>
    rw [List.length_cons] at h
    rw [Flash.program, ih _ _ (by omega)]
    exact Store.get_set_ne _ _ _ _ (by omega)

theorem Flash.get_program (f : Flash) (a i : Nat) (d : Bytes) (h : i < d.length) :
    Store.get (f.program a d).cs0 (a + i) 0xFF = Store.get f.cs0 (a + i) 0xFF &&& d.getD i 0 := by
  induction d generalizing f a i with
  | nil => exact absurd h (Nat.not_lt_zero i)
  | cons x d ih =>
    cases i with
    | zero =>
      rw [Nat.add_zero, Flash.program, Flash.get_program_apart _ _ _ _ (Or.inl (Nat.lt_succ_self a))]
      exact Store.get_set_self ..
    | succ i =>
      rw [Flash.program, show a + (i + 1) = a + 1 + i by omega, ih _ _ _ (Nat.lt_of_succ_lt_succ h)]
      exact congrArg (· &&& d.getD i 0) (Store.get_set_ne _ _ _ _ (by omega))

/-- Values that wait never change a bit that no Q field of the register holds. -/
theorem bit_mergeQ_busy (w v : Word) : bit (mergeQ Reg.qspiCtrl w v) 7 = bit w 7 := by
  have hrow : regRow? Reg.qspiCtrl =
      some ⟨Reg.qspiCtrl, 1, 0x4, [⟨1, 0, .rw, .q, 0⟩, ⟨5, 2, .rw, .q, 6⟩, ⟨6, 6, .rw, .q, 0⟩, ⟨7, 7, .ro, .i, 0⟩, ⟨15, 8, .ro, .i, 0⟩]⟩ := by
    decide +kernel
  rw [mergeQ, hrow]
  unfold bit
  simp only [List.foldl_cons, List.foldl_nil]
  rw [if_neg (by decide), if_neg (by decide), if_pos (by decide), if_pos (by decide), if_pos (by decide),
    getLsbD_putBits _ _ _ _ _ (by decide), if_neg (by decide), getLsbD_putBits _ _ _ _ _ (by decide), if_neg (by decide),
    getLsbD_putBits _ _ _ _ _ (by decide), if_neg (by decide)]

/-- The release of the values that wait leaves the busy bit, the flash and the queue. -/
theorem State.releaseDeferred_flash (s : State) (block : Nat) : (s.releaseDeferred block).rbit Reg.qspiCtrl 7 = s.rbit Reg.qspiCtrl 7 ∧
    s.releaseDeferred block = { s with regs := (s.releaseDeferred block).regs, deferred := (s.releaseDeferred block).deferred } := by
  have hfold : ∀ (l : List (Nat × Word)) (t : State), (l.foldl (fun (t : State) d => if blockOf d.1 = block then
      t.setReg d.1 (mergeQ d.1 (t.reg d.1) d.2) else t) t).rbit Reg.qspiCtrl 7 = t.rbit Reg.qspiCtrl 7 ∧
      ∃ r, l.foldl (fun (t : State) d => if blockOf d.1 = block then t.setReg d.1 (mergeQ d.1 (t.reg d.1) d.2) else t) t = { t with regs := r } := by
    intro l
    induction l with
    | nil => exact fun t => ⟨rfl, t.regs, rfl⟩
    | cons d l ih =>
      intro t
      rw [List.foldl_cons]
      split
      · obtain ⟨hbit, r, hr⟩ := ih (t.setReg d.1 (mergeQ d.1 (t.reg d.1) d.2))
        refine ⟨hbit.trans ?_, r, hr⟩
        by_cases ha : Reg.qspiCtrl = d.1
        · rw [← ha, State.rbit, State.reg_setReg_self, bit_mergeQ_busy]
          rfl
        · rw [State.rbit, State.reg_setReg_ne _ _ ha]
          rfl
      · exact ih t
  obtain ⟨hbit, r, hr⟩ := hfold s.deferred s
  refine ⟨hbit, ?_⟩
  unfold State.releaseDeferred
  rw [hr]

/-- The flash's contents when the next operation is fed to it; where none waits, nothing changes. -/
theorem State.feedFlash_keeps (s : State) : s.feedFlash.flash.cs0 = s.flash.cs0 ∧
    (s.flash.ops = [] → s.omx.background = [] → s.feedFlash = s) := by
  unfold State.feedFlash
  split
  · exact ⟨rfl, fun _ _ => rfl⟩
  split
  · next h => exact ⟨rfl, fun hops => absurd h (by rw [hops]; decide)⟩
  split
  · exact ⟨rfl, fun _ _ => rfl⟩
  · next h => exact ⟨rfl, fun _ hb => absurd (h.symm.trans hb) (List.cons_ne_nil _ _)⟩

/-- The end of the only operation in progress, of a kind that no task of the queue waits for. -/
theorem qspiCommandDone_complete {s : State} (hbusy : s.rbit Reg.qspiCtrl 7 = true) {o : FlashOp} (hops : s.flash.ops = [o])
    {f : Flash} (heff : ({ s with flash := { s.flash with ops := [] } } : State).flashEffect o = { s with flash := f }) (hft : f.task = none)
    (hfo : f.ops = []) : ∃ t, exec .qspiCommandDone s = .next t ∧
      (s.omx.background = [] → t.rbit Reg.qspiCtrl 7 = false ∧ t.flash.ops = []) ∧ t.flash.cs0 = f.cs0 := by
  have hexec : exec .qspiCommandDone s = .next ((((({ s with flash := f } : State).setRbit Reg.qspiCtrl 7 false).releaseDeferred 14).raiseIrq 45).feedFlash) := by
    show execQspiCommandDone s = _
    unfold execQspiCommandDone
    rw [hbusy, hops]
    dsimp only
    rw [heff]
    dsimp only [State.setRbit, State.setReg]
    rw [hft]
    rfl
  obtain ⟨hbit, heq⟩ := (({ s with flash := f } : State).setRbit Reg.qspiCtrl 7 false).releaseDeferred_flash 14
  generalize (({ s with flash := f } : State).setRbit Reg.qspiCtrl 7 false).releaseDeferred 14 = u at hexec hbit heq
  have hflash : u.flash = f := congrArg State.flash heq
  obtain ⟨hcs0, hidle⟩ := (u.raiseIrq 45).feedFlash_keeps
  refine ⟨_, hexec, fun hb => ?_, hcs0.trans (congrArg Flash.cs0 hflash)⟩
  rw [hidle (by rw [← hfo, ← hflash]; rfl) ((congrArg (fun x : State => x.omx.background) heq).trans hb)]
  exact ⟨hbit.trans (State.rbit_setRbit_self _ _ _ _ (by decide)), (congrArg Flash.ops hflash).trans hfo⟩

theorem Flash.program_keeps (f : Flash) (a : Nat) (d : Bytes) : (f.program a d).task = f.task ∧ (f.program a d).ops = f.ops := by
  induction d generalizing f a with
  | nil => exact ⟨rfl, rfl⟩
  | cons x d ih => exact ih _ _

/-- Settles O55: each CAN command touches its controller and its station, and a finished operation the bytes that it names. -/
theorem canAndFlashComplete : Obligations.CanAndFlashComplete := by
  intro s n hn
  refine ⟨fun h => ⟨canTxDone_complete h, canFrameReceived_complete h, canRxTimeout_complete h, canBusOff_complete h hn⟩, canBusOffRecovery_complete hn,
    fun hbusy htask => ⟨fun a hops => ?_, fun a d hops => ?_⟩⟩
  · obtain ⟨t, hexec, hidle, hcs0⟩ := qspiCommandDone_complete hbusy hops (f := ({ s.flash with ops := [] } : Flash).erase a) rfl htask rfl
    refine ⟨t, hexec, hidle, fun b hb => ?_, fun b hb => ?_⟩
    · rw [hcs0, Flash.get_erase, if_pos hb]
    · rw [hcs0, Flash.get_erase, if_neg hb]
  · obtain ⟨hptask, hpops⟩ := ({ s.flash with ops := [] } : Flash).program_keeps a d
    obtain ⟨t, hexec, hidle, hcs0⟩ := qspiCommandDone_complete hbusy hops (f := ({ s.flash with ops := [] } : Flash).program a d) rfl
      (hptask.trans htask) hpops
    refine ⟨t, hexec, hidle, fun i hi => ?_, fun b hb => ?_⟩
    · rw [hcs0, Flash.get_program _ _ _ _ hi]
    · rw [hcs0, Flash.get_program_apart _ _ _ _ hb]

end Sys2Proof.Machine
end

section
/-! SUPPORT. Duty rotation, the checks, calibration and drift, and the statement RotationAndCalibrationComplete (SPEC chapter 23). -/

namespace Sys2Proof.Machine

/-! ### Duty groups (R842, R843) -/

section
variable (s : State)

/-- A setpoint step of a member is handed to the channels or waits. -/
theorem State.memberStep_keeps (h : Nat) (v : Int) : (s.memberStep h v).duty = s.duty ∧ (s.memberStep h v).mem = s.mem := by
  unfold State.memberStep State.change
  split
  · exact ⟨rfl, rfl⟩
  · exact ⟨rfl, rfl⟩

/-- So are those of a list of members. -/
theorem State.memberSteps_keep (l : List (Nat × Int)) (f : State → Nat × Int → State)
    (hf : ∀ t x, (f t x).duty = t.duty ∧ (f t x).mem = t.mem) : (l.foldl f s).duty = s.duty ∧ (l.foldl f s).mem = s.mem := by
  induction l generalizing s with
  | nil => exact ⟨rfl, rfl⟩
  | cons x l ih =>
    obtain ⟨hduty, hmem⟩ := ih (f s x)
    obtain ⟨hduty1, hmem1⟩ := hf s x
    exact ⟨hduty.trans hduty1, hmem.trans hmem1⟩

/-- A record for the journal goes to its buffer. -/
theorem State.journalPut_eq (kind key : Nat) (payload : Bytes) :
    s.journalPut kind key payload = { s with journal := (s.journalPut kind key payload).journal } := by
  unfold State.journalPut
  extract_lets j p last
  by_cases h : last = some p
  · simp only [if_pos h]
  · simp only [if_neg h]

theorem State.journalPut_keeps (kind key : Nat) (payload : Bytes) : (s.journalPut kind key payload).duty = s.duty ∧
    (s.journalPut kind key payload).mem = s.mem ∧ (s.journalPut kind key payload).cal = s.cal ∧ (s.journalPut kind key payload).chans = s.chans := by
  rw [s.journalPut_eq kind key payload]
  exact ⟨rfl, rfl, rfl, rfl⟩
end

theorem State.Tells.duty {s t : State} (h : s.Tells t) : t.duty = s.duty := by rw [h.eq]

/-- The check of a group that is not automatic only counts the time of its rank 0. -/
theorem dutyRotationCheck_counts {s : State} (hm : s.stepMay = true) (hr : s.wc.running = true) (g : Nat) (d : DutyGroup) (hd : s.duty = [(g, d)])
    (hmode : d.mode ≠ 1) : ∃ n, exec .dutyRotationCheck s = .next { s with duty := [(g, { d with ran := n })] } ∧ n ≤ d.ran + 1 ∧
      (∀ c, s.member (d.members.headD 0) = some c → n = d.ran + (s.runningIn c).toNat) := by
  have hexec : exec .dutyRotationCheck s = .next (s.dutyCheck g d) := by
    show execDutyRotationCheck s = _
    unfold execDutyRotationCheck
    rw [hm, hr, hd]
    rfl
  have hone : ∀ e, Store.insert s.duty g e = [(g, e)] := fun e => by
    rw [hd, Store.insert, if_neg (Nat.lt_irrefl g), if_pos rfl]
  cases hc : s.member (d.members.headD 0) with
  | none =>
    refine ⟨d.ran, hexec.trans ?_, Nat.le_succ _, fun c h => absurd h (by simp)⟩
    unfold State.dutyCheck
    rw [hc]
    dsimp only
    rw [hone, decide_eq_false hmode, Bool.false_and, Bool.false_and, Bool.false_and, if_neg Bool.false_ne_true, if_neg Bool.false_ne_true]
  | some c =>
    refine ⟨if s.runningIn c then d.ran + 1 else d.ran, hexec.trans ?_, by split <;> omega, fun x hx => ?_⟩
    · unfold State.dutyCheck
      rw [hc]
      dsimp only
      rw [hone, decide_eq_false hmode, Bool.false_and, Bool.false_and, Bool.false_and, if_neg Bool.false_ne_true]
    · rw [← Option.some.inj hx]
      cases s.runningIn c <;> rfl

/-- A changeover is confirmed where the members of the running ranks run, and an aborted one restores the ranks. -/
theorem dutyChangeover_complete {s : State} (g : Nat) (d : DutyGroup) (m : List Nat) (sp : List Int) (hd : Store.find? s.duty g = some d)
    (hb : d.before = some (m, sp)) :
    (s.rankUp d sp = false → exec (.dutyChangeoverConfirm g) s = .next s) ∧
    (s.rankUp d sp = true → ∃ t, exec (.dutyChangeoverConfirm g) s = .next t ∧ Store.find? t.duty g = some { d with before := none } ∧ t.mem = s.mem) ∧
    (∃ t, exec (.dutyAbort g) s = .next t ∧ Store.find? t.duty g = some { d with members := m, before := none, ran := d.rotateS } ∧ t.mem = s.mem) := by
  have hconfirm : exec (.dutyChangeoverConfirm g) s = .next (if !s.rankUp d sp then s else (d.members.zip sp).foldl (fun (u : State) x =>
      if x.2 = 0 then u.memberStep x.1 0 else u) { s with duty := Store.insert s.duty g { d with before := none } }) := by
    show execDutyChangeoverConfirm g s = _
    rw [execDutyChangeoverConfirm, hd]
    dsimp only
    rw [hb]
  refine ⟨fun hup => hconfirm.trans ?_, fun hup => ?_, ?_⟩
  · rw [hup]
    rfl
  · rw [hup, if_neg (by decide)] at hconfirm
    obtain ⟨hduty, hmem⟩ := State.memberSteps_keep { s with duty := Store.insert s.duty g { d with before := none } } (d.members.zip sp)
      (fun (u : State) x => if x.2 = 0 then u.memberStep x.1 0 else u) fun t x => by
        split
        · exact t.memberStep_keeps _ _
        · exact ⟨rfl, rfl⟩
    exact ⟨_, hconfirm, by rw [hduty]; exact Store.find?_insert_self _ _ _, hmem⟩
  · generalize he : ({ d with members := m, before := none, ran := d.rotateS } : DutyGroup) = e
    have habort : exec (.dutyAbort g) s = .next (((m.zip sp).foldl (fun (u : State) x => u.memberStep x.1 x.2)
        (({ s with duty := Store.insert s.duty g e } : State).journalDuty g e)).faultF 0x082 2 0x15 (BitVec.ofNat 32 (g % 32))) := by
      show execDutyAbort g s = _
      rw [execDutyAbort, hd, ← he]
      dsimp only
      rw [hb]
    obtain ⟨hjduty, hjmem, -, -⟩ := ({ s with duty := Store.insert s.duty g e } : State).journalPut_keeps 4 0
      (leBytes 2 g ++ leBytes 1 e.members.length ++ zeros 1 ++ e.members.flatMap fun h => leBytes 2 h)
    obtain ⟨hduty, hmem⟩ := State.memberSteps_keep (({ s with duty := Store.insert s.duty g e } : State).journalDuty g e) (m.zip sp)
      (fun (u : State) x => u.memberStep x.1 x.2) fun t x => t.memberStep_keeps _ _
    generalize (m.zip sp).foldl (fun (u : State) x => u.memberStep x.1 x.2) (({ s with duty := Store.insert s.duty g e } : State).journalDuty g e) = u
      at habort hduty hmem
    have htells : u.Tells (u.faultF 0x082 2 0x15 (BitVec.ofNat 32 (g % 32))) := State.faultF_tells _ _ _ _ _
    refine ⟨_, habort, ?_, htells.mem.trans (hmem.trans hjmem)⟩
    rw [htells.duty, hduty, State.journalDuty, hjduty]
    exact Store.find?_insert_self _ _ _

/-! ### Plausibility (R838) -/

/-- What an evaluation of the checks leaves: all but the watches and what tells. -/
structure State.Evaluates (s t : State) : Prop where
  chans : t.chans = s.chans
  mem : t.mem = s.mem
  wc : t.wc = s.wc
  tl : t.tl = s.tl

theorem State.Evaluates.trans {s t u : State} (h : s.Evaluates t) (h' : t.Evaluates u) : s.Evaluates u :=
  ⟨h'.chans.trans h.chans, h'.mem.trans h.mem, h'.wc.trans h.wc, h'.tl.trans h.tl⟩

theorem State.Tells.evaluates {s t : State} (h : s.Tells t) : s.Evaluates t := ⟨h.chans, h.mem, h.wc, h.tl⟩

theorem State.foldl_evaluates {α : Type} (f : State → α → State) (hf : ∀ (t : State) x, t.Evaluates (f t x)) (l : List α) (s : State) : s.Evaluates (l.foldl f s) := by
  induction l generalizing s with
  | nil => exact ⟨rfl, rfl, rfl, rfl⟩
  | cons x l ih => exact (hf s x).trans (ih _)

theorem State.plausStep_evaluates (s : State) (slot : Nat) (c : Channel) (code : Nat) : s.Evaluates (s.plausStep slot c code) := by
  unfold State.plausStep
  extract_lets k p hold run pay flip t
  have ht : s.Evaluates t := ⟨rfl, rfl, rfl, rfl⟩
  split
  · exact ht
  split
  · exact ht.trans (State.faultF_tells _ _ _ _ _).evaluates
  · exact ht.trans (State.bbrA_tells _ _ _ _ _ _ _).evaluates

theorem plausibilityCheck_keeps {s : State} (hm : s.stepMay = true) (hr : s.wc.running = true) (hp : s.pausedWork = false) :
    ∃ t, exec .plausibilityCheck s = .next t ∧ t.chans = s.chans ∧ t.mem = s.mem ∧ t.wc = s.wc ∧ t.tl = s.tl := by
  have hexec : exec .plausibilityCheck s = .next (s.chans.foldl (fun (t : State) (x : Nat × Channel) =>
      if !plausOn x.2 then t else [1, 2, 3].foldl (fun (u : State) code => u.plausStep x.1 x.2 code) (t.plausWatch x.1 x.2)) s) := by
    show execPlausibilityCheck s = _
    rw [execPlausibilityCheck, hm, hr, hp]
    rfl
  obtain ⟨hchans, hmem, hwc, htl⟩ := State.foldl_evaluates (fun (t : State) (x : Nat × Channel) =>
      if !plausOn x.2 then t else [1, 2, 3].foldl (fun (u : State) code => u.plausStep x.1 x.2 code) (t.plausWatch x.1 x.2)) (fun t x => by
    split
    · exact ⟨rfl, rfl, rfl, rfl⟩
    · have hwatch : t.Evaluates (t.plausWatch x.1 x.2) := ⟨rfl, rfl, rfl, rfl⟩
      exact hwatch.trans (State.foldl_evaluates _ (fun u code => u.plausStep_evaluates _ _ code) _ _)) s.chans s
  exact ⟨_, hexec, hchans, hmem, hwc, htl⟩

/-! ### Calibration of the temperature (R837) -/

section
variable {s : State} (hm : s.stepMay = true) {r : CalRun} (hruns : s.cal.runs = [(3, r)])
include hm hruns

/-- The run of KIND 3 takes its sample. -/
theorem calibrationSample_temp : exec .calibrationSample s = .next (s.calSample 3 r) := by
  show execCalibrationSample s = _
  unfold execCalibrationSample
  dsimp only
  rw [hm, hruns]
  rfl

theorem calibrationSample_goesOn (hc : r.count < 63) : exec .calibrationSample s = .next { s with cal := { s.cal with runs := [(3, { r with
    count := r.count + 1, sum := r.sum + toSigned 16 (s.fld Reg.tempSensor 15 0) })] } } := by
  have hone : ∀ q, Store.insert s.cal.runs 3 q = [(3, q)] := fun q => by
    rw [hruns, Store.insert, if_neg (by decide), if_pos rfl]
  rw [calibrationSample_temp hm hruns, State.calSample]
  dsimp only
  rw [if_neg (by omega), hone]
  rfl

theorem calibrationSample_ends (hc : r.count = 63) (hn : r.notify = none) (change : Int)
    (hchange : change = r.reference - 10 * Int.tdiv (r.sum + toSigned 16 (s.fld Reg.tempSensor 15 0)) 64) :
    ∃ t e, exec .calibrationSample s = .next t ∧ t.cal.runs = [] ∧ Store.find? t.cal.results 3 = some e ∧
      e.result = (if Int.natAbs change > 3000 then 1 else 0) ∧ e.cycle = s.wc.cycle ∧ t.chans = s.chans := by
  generalize hq : ({ r with count := r.count + 1, sum := r.sum + toSigned 16 (s.fld Reg.tempSensor 15 0) } : CalRun) = q
  have hexec : exec .calibrationSample s = .next (s.calFinish 3 q (s.calTemp q)) := by
    rw [calibrationSample_temp hm hruns, State.calSample]
    dsimp only
    rw [if_pos (by omega), if_pos rfl, if_pos rfl, hq]
  have hresult : (s.calTemp q).result.result = if Int.natAbs change > 3000 then 1 else 0 := by
    rw [hchange, ← hq]
    rfl
  have happly : ∀ t, ∃ v : State, (s.calTemp q).apply t = v ∧ v.cal = t.cal ∧ v.chans = t.chans := fun t =>
    have hkeeps := (t.setFld Reg.tempOffset 15 0 (BitVec.ofInt 16 (satS 16 (toSigned 16 (s.fld Reg.tempOffset 15 0) +
      tdiv (q.reference - 10 * tdiv q.sum 64) 10))).toNat).journalPut_keeps 2 3
      (leInt 4 (satS 16 (toSigned 16 (s.fld Reg.tempOffset 15 0) + tdiv (q.reference - 10 * tdiv q.sum 64) 10)))
    ⟨_, rfl, hkeeps.2.2⟩
  have hnone : q.notify = none := by rw [← hq]; exact hn
  have herase : Store.erase s.cal.runs 3 = [] := by rw [hruns]; rfl
  have hfinish : (s.calFinish 3 q (s.calTemp q)).cal = { s.cal with
      runs := []
      results := Store.insert s.cal.results 3 { (s.calTemp q).result with cycle := s.wc.cycle } } ∧
      (s.calFinish 3 q (s.calTemp q)).chans = s.chans := by
    unfold State.calFinish
    dsimp only
    rw [hnone, herase]
    dsimp only
    split
    · obtain ⟨v, hv, hcal, hchans⟩ := happly { s with cal := { s.cal with
        runs := [], results := Store.insert s.cal.results 3 { (s.calTemp q).result with cycle := s.wc.cycle } } }
      rw [hv]
      exact ⟨hcal, hchans⟩
    · exact ⟨rfl, rfl⟩
  obtain ⟨hcal, hchans⟩ := hfinish
  exact ⟨_, { (s.calTemp q).result with cycle := s.wc.cycle }, hexec, by rw [hcal], by rw [hcal]; exact Store.find?_insert_self _ _ _, hresult, rfl, hchans⟩
end

/-! ### Drift (R840) -/

/-- The drift with a sample of the holdover addend, where there is one. -/
def Drift.sampled (d : Drift) (v : Option Int) : Drift :=
  match v with
  | some v => { d with sum := d.sum - d.mean + v }
  | none => d

theorem driftTracking_counts {s : State} (hm : s.stepMay = true) : ∃ t, exec .driftTracking s = .next t ∧
    t.drift.samples = (if 3600 ≤ s.drift.samples + 1 then 0 else s.drift.samples + 1) ∧ t.drift.applied = s.rbit Reg.clkgenStatus 3 ∧ t.mem = s.mem ∧
    t.chans = s.chans ∧ (s.holdoverAddend = none → t.drift.sum = s.drift.sum) ∧
    (∀ v, s.holdoverAddend = some v → t.drift.sum = s.drift.sum - Int.tdiv s.drift.sum 3600 + v) := by
  generalize hd : s.drift.sampled s.holdoverAddend = d
  have hsamples : d.samples = s.drift.samples := by
    rw [← hd]
    cases s.holdoverAddend <;> rfl
  have hsum : (s.holdoverAddend = none → d.sum = s.drift.sum) ∧ (∀ v, s.holdoverAddend = some v → d.sum = s.drift.sum - Int.tdiv s.drift.sum 3600 + v) := by
    rw [← hd]
    exact ⟨fun h => by rw [h]; rfl, fun v h => by rw [h]; rfl⟩
  generalize hu : ({ s with drift := { d with
    samples := if d.samples + 1 ≥ 3600 then 0 else d.samples + 1, applied := s.rbit Reg.clkgenStatus 3 } } : State) = u
  generalize hj : (if d.samples + 1 ≥ 3600 then u.journalPut 3 0 (leInt 4 d.mean) else u) = j
  have hjournal : j = { u with journal := j.journal } := by
    rw [← hj]
    split
    · exact u.journalPut_eq 3 0 _
    · rfl
  have hexec : exec .driftTracking s = .next (if s.rbit Reg.clkgenStatus 3 && !d.applied then
      j.setReg Reg.ptpAddend (j.readBack Reg.ptpAddend 0 (BitVec.ofInt 32 d.mean)) else j) := by
    show execDriftTracking s = _
    unfold execDriftTracking
    rw [hm]
    subst hd hu hj
    rfl
  refine ⟨_, hexec, ?_⟩
  have hkeeps : ∀ v : Word, (∀ t : State, t = j ∨ t = j.setReg Reg.ptpAddend v → t.drift = u.drift ∧ t.mem = s.mem ∧ t.chans = s.chans) := by
    intro v t ht
    rw [hjournal, ← hu] at ht
    rw [← hu]
    rcases ht with rfl | rfl <;> exact ⟨rfl, rfl, rfl⟩
  obtain ⟨hdrift, hmem, hchans⟩ := hkeeps (j.readBack Reg.ptpAddend 0 (BitVec.ofInt 32 d.mean)) (if s.rbit Reg.clkgenStatus 3 && !d.applied then
      j.setReg Reg.ptpAddend (j.readBack Reg.ptpAddend 0 (BitVec.ofInt 32 d.mean)) else j) (by
    split
    · exact Or.inr rfl
    · exact Or.inl rfl)
  rw [hdrift, hmem, hchans, ← hu]
  exact ⟨by rw [← hsamples], rfl, rfl, rfl, hsum⟩

/-- Settles O58: each of the background steps changes its own records. -/
theorem rotationAndCalibrationComplete : Obligations.RotationAndCalibrationComplete := by
  intro s
  refine ⟨dutyRotationCheck_counts, fun hm hr hd => ?_, dutyChangeover_complete, plausibilityCheck_keeps, fun hm r hruns =>
    ⟨calibrationSample_goesOn hm hruns, calibrationSample_ends hm hruns⟩, driftTracking_counts⟩
  show execDutyRotationCheck s = _
  rw [execDutyRotationCheck, hm, hr, hd]
  rfl

end Sys2Proof.Machine
end

section
/-! SUPPORT. The canonical form of the Basin memory, for the statement MemoryCanonicalKept: what it means that an operation leaves the memory as
it is or keeps it canonical, and how folds, branches and writes of the memory do. The parts after this one say it of the model's operations, in the
order of the model: `_mem` where an operation leaves the memory, `_wf` where it may write it. -/

namespace Sys2Proof.Machine

/-! ### Operations, outcomes and replies -/

/-- An operation that leaves the Basin memory as it is. -/
def SameMem (g : State → State) : Prop := ∀ t, (g t).mem = t.mem

/-- The same, of an operation for each item of a list. -/
def SameMemEach {β : Type} (g : State → β → State) : Prop := ∀ t x, (g t x).mem = t.mem

/-- An operation that keeps the Basin memory canonical. -/
def KeepsWf (g : State → State) : Prop := ∀ t, Memory.wf t.mem = true → Memory.wf (g t).mem = true

/-- The same, of an operation for each item of a list. -/
def KeepsWfEach {β : Type} (g : State → β → State) : Prop := ∀ t x, Memory.wf t.mem = true → Memory.wf (g t x).mem = true

/-- The outcome's state, where there is one, has a canonical Basin memory. -/
def Out.Wf (o : Out) : Prop := ∀ t, o = .next t → Memory.wf t.mem = true

/-- A command's state, before and after what follows its reply, has a canonical Basin memory. -/
def Rep.Wf (r : Rep) : Prop := Memory.wf r.state.mem = true ∧ KeepsWf r.after

@[simp] theorem sameMem_iff (g : State → State) : SameMem g ↔ ∀ t, (g t).mem = t.mem := Iff.rfl

@[simp] theorem sameMemEach_iff {β : Type} (g : State → β → State) : SameMemEach g ↔ ∀ t x, (g t x).mem = t.mem := Iff.rfl

@[simp] theorem keepsWf_iff (g : State → State) : KeepsWf g ↔ ∀ t, Memory.wf t.mem = true → Memory.wf (g t).mem = true := Iff.rfl

@[simp] theorem keepsWfEach_iff {β : Type} (g : State → β → State) :
    KeepsWfEach g ↔ ∀ t x, Memory.wf t.mem = true → Memory.wf (g t x).mem = true := Iff.rfl

@[simp] theorem Rep.wf_mk (s : State) (st : Nat) (p : Bytes) (hd : Nat) (a : State → State) :
    Rep.Wf { state := s, status := st, payload := p, handle := hd, after := a } ↔ Memory.wf s.mem = true ∧ KeepsWf a := Iff.rfl

@[simp] theorem Out.wf_next (s : State) : Out.Wf (.next s) ↔ Memory.wf s.mem = true :=
  ⟨fun h => h s rfl, fun h t e => by rw [← Host.Outcome.next.inj e]; exact h⟩

@[simp] theorem Out.wf_fault (f : Fault) : Out.Wf (.fault f) := fun _ e => nomatch e

@[simp] theorem Out.wf_refused (f : Refusal) : Out.Wf (.refused f) := fun _ e => nomatch e

@[simp] theorem foldl_mem {β : Type} (l : List β) (g : State → β → State) (s : State) (h : SameMemEach g) : (l.foldl g s).mem = s.mem := by
  induction l generalizing s with
  | nil => rfl
  | cons x r ih => exact (ih _).trans (h s x)

@[simp] theorem foldl_wf {β : Type} (l : List β) (g : State → β → State) (s : State) (h : KeepsWfEach g) (hs : Memory.wf s.mem = true) :
    Memory.wf (l.foldl g s).mem = true := by
  induction l generalizing s with
  | nil => exact hs
  | cons x r ih => exact ih _ (h s x hs)

@[simp] theorem ite_mem (c : Prop) [Decidable c] (a b : State) : (if c then a else b).mem = if c then a.mem else b.mem := apply_ite ..

@[simp] theorem wf_ite (c : Prop) [Decidable c] (a b : Memory) :
    Memory.wf (if c then a else b) = true ↔ (c → Memory.wf a = true) ∧ (¬ c → Memory.wf b = true) := by
  split <;> simp [*]

theorem State.ite_wf {c : Prop} [Decidable c] {a b : State} (ha : Memory.wf a.mem = true) (hb : Memory.wf b.mem = true) :
    Memory.wf (if c then a else b).mem = true := by
  split
  · exact ha
  · exact hb

@[simp] theorem Out.wf_ite (c : Prop) [Decidable c] (a b : Out) : Out.Wf (if c then a else b) ↔ (c → Out.Wf a) ∧ (¬ c → Out.Wf b) := by
  split <;> simp [*]

@[simp] theorem Rep.wf_ite (c : Prop) [Decidable c] (a b : Rep) : Rep.Wf (if c then a else b) ↔ (c → Rep.Wf a) ∧ (¬ c → Rep.Wf b) := by
  split <;> simp [*]

@[simp] theorem wf_write (m : Memory) (a : Nat) (b : Byte) (h : Memory.wf m = true) : Memory.wf (Memory.write m a b) = true := Memory.wf_write m a b h

@[simp] theorem wf_writeBytes (m : Memory) (a : Nat) (l : Bytes) (h : Memory.wf m = true) : Memory.wf (Memory.writeBytes m a l) = true :=
  Memory.wf_writeBytes m a l h

@[simp] theorem wf_clear (m : Memory) (lo n : Nat) (h : Memory.wf m = true) : Memory.wf (Memory.clear m lo n) = true := Memory.wf_clear m lo n h

/-- An operation on the memory itself, for each item of a list, that keeps it canonical. -/
def MemKeptEach {β : Type} (g : Memory → β → Memory) : Prop := ∀ m x, Memory.wf m = true → Memory.wf (g m x) = true

@[simp] theorem memKeptEach_iff {β : Type} (g : Memory → β → Memory) :
    MemKeptEach g ↔ ∀ m x, Memory.wf m = true → Memory.wf (g m x) = true := Iff.rfl

@[simp] theorem wf_foldl {β : Type} (l : List β) (g : Memory → β → Memory) (m : Memory) (hg : MemKeptEach g) (h : Memory.wf m = true) :
    Memory.wf (l.foldl g m) = true :=
  List.foldlRecOn l g h fun m hm x _ => hg m x hm

@[simp] theorem wf_nil : Memory.wf [] = true := by decide

@[simp] theorem stateOf_wf (o : Out) (s : State) (ho : Out.Wf o) (h : Memory.wf s.mem = true) : Memory.wf (stateOf o s).mem = true := by
  unfold stateOf
  split
  · exact ho _ rfl
  · exact h

@[simp] theorem reset_mem : State.reset.mem = [] := rfl

theorem State.setSlip_mem (s : State) (x : Slipway) : ({ s with slip := x } : State).mem = s.mem := rfl

theorem State.setSlip_wf (s : State) (x : Slipway) (h : Memory.wf s.mem = true) : Memory.wf ({ s with slip := x } : State).mem = true := h

theorem State.setBoot_wf (s : State) (b : Boot) (h : Memory.wf s.mem = true) : Memory.wf ({ s with boot := b } : State).mem = true := h

theorem State.setWcTl_mem (s : State) (w : WatchCycle) (l : Tideline) : ({ s with wc := w, tl := l } : State).mem = s.mem := rfl

theorem State.setChanges_mem (s : State) (l : List Pending) : ({ s with changes := l } : State).mem = s.mem := rfl

end Sys2Proof.Machine
end

section
/-! SUPPORT. The Basin memory under the model's operations, from "Channels, stations and other keyed parts" to "Micro-traps (R517 to R523)". -/

namespace Sys2Proof.Machine

/-! ### Channels, stations and other keyed parts -/

@[simp] theorem State.dcqDrop_mem (s : State) (n : Nat) : (State.dcqDrop s n).mem = s.mem := rfl

/-! ### The MACs' counters and what they are handed (R744, R747) -/

@[simp] theorem State.setMac_mem (s : State) (port : Nat) (m : Mac) : (State.setMac s port m).mem = s.mem := rfl

@[simp] theorem State.ethCount_mem (s : State) (port i n : Nat) : (State.ethCount s port i n).mem = s.mem := rfl

@[simp] theorem State.ethEvent_mem (s : State) (port i : Nat) : (State.ethEvent s port i).mem = s.mem := rfl

@[simp] theorem State.queueTx_mem (s : State) (port q : Nat) (item : List TxItem) (put : State → State) (h : SameMem put) :
    (State.queueTx s port q item put).mem = s.mem := by
  unfold State.queueTx
  split
  · exact h s
  · simp

@[simp] theorem State.setAddend_mem (s : State) (v : Word) : (State.setAddend s v).mem = s.mem := by simp [State.setAddend]

@[simp] theorem State.monitor_mem (s : State) (i : Nat) (on : Bool) : (State.monitor s i on).mem = s.mem := by simp [State.monitor]

@[simp] theorem State.sampleMark_mem (s : State) (i : Nat) : (State.sampleMark s i).mem = s.mem := rfl

/-! ### Sessions -/

@[simp] theorem State.updSession_mem (s : State) (n : Nat) (f : Session → Session) : (State.updSession s n f).mem = s.mem := rfl

/-! ### MSI-X vectors and replies -/

@[simp] theorem State.raiseVector_mem (s : State) (v : Nat) : (State.raiseVector s v).mem = s.mem := rfl

@[simp] theorem State.setBox_mem (s : State) (n : Nat) (b : Mailbox) : (State.setBox s n b).mem = s.mem := rfl

@[simp] theorem State.send_mem (s : State) (ep : Endpoint) (p : Packet) : (State.send s ep p).mem = s.mem := by
  unfold State.send
  split <;> simp

/-! ### Events (R233, R234, R237) -/

@[simp] theorem State.emitTo_mem (s : State) (n code handle : Nat) (payload : Bytes) : (State.emitTo s n code handle payload).mem = s.mem := by
  unfold State.emitTo
  dsimp only
  (repeat' split) <;> simp

@[simp] theorem State.emitAll_mem (s : State) (code handle : Nat) (payload : Bytes) :
    (State.emitAll s code handle payload).mem = s.mem := by simp [State.emitAll]

@[simp] theorem State.emitFault_mem (s : State) (severity source event : Nat) (payload : Word) :
    (State.emitFault s severity source event payload).mem = s.mem := by simp [State.emitFault]

@[simp] theorem State.faultA_mem (s : State) (event severity source : Nat) (payload : Word) :
    (State.faultA s event severity source payload).mem = s.mem := by simp [State.faultA]

@[simp] theorem State.emitCompletion_mem (s : State) (n : Notify) (status : Nat) (cycle : Word) :
    (State.emitCompletion s n status cycle).mem = s.mem := by simp [State.emitCompletion]

/-! ### The control token and the end of a session -/

@[simp] theorem State.dropStaging_mem (s : State) : (State.dropStaging s).mem = s.mem := rfl

@[simp] theorem State.dropEvents_mem (s : State) (ep : Endpoint) : (State.dropEvents s ep).mem = s.mem := by
  unfold State.dropEvents
  split <;> simp

@[simp] theorem State.endSession_mem (s : State) (n : Nat) : (State.endSession s n).mem = s.mem := by
  unfold State.endSession
  split <;> simp

/-! ### Replies -/

@[simp] theorem State.unconsumed_mem (s : State) (n : Nat) (ep : Endpoint) : (State.unconsumed s n ep).mem = s.mem := rfl

@[simp] theorem State.noteAuth_mem (s : State) (q : Packet) (proved : Bool) (status : Nat) :
    (State.noteAuth s q proved status).mem = s.mem := by simp [State.noteAuth]

@[simp] theorem State.reply_mem (s : State) (ep : Endpoint) (q : Packet) (status handle : Nat) (payload : Bytes) (cont : optParam Bool false) :
    (State.reply s ep q status handle payload cont).mem = s.mem := by simp [State.reply]

@[simp] theorem State.replyBare_mem (s : State) (ep : Endpoint) (q : Packet) (status : Nat) (payload : Bytes) :
    (State.replyBare s ep q status payload).mem = s.mem := by simp [State.replyBare]

@[simp] theorem State.countDiscard_mem (s : State) : (State.countDiscard s).mem = s.mem := rfl

@[simp] theorem State.dropOtherAssembly_mem (s : State) (q : Packet) : (State.dropOtherAssembly s q).mem = s.mem := rfl

@[simp] theorem State.answer_mem (s : State) (q : Req) (v : Verdict) : (State.answer s q v).mem = s.mem := by
  unfold State.answer
  split <;> simp

/-! ### Execution -/

@[simp] theorem refuse_wf (s : State) (status : Nat) (payload : Bytes) (handle : Nat) (h : Memory.wf s.mem = true) :
    Rep.Wf (refuse s status payload handle) := by simp [refuse, h]

@[simp] theorem refuseAt_wf (s : State) (status off handle : Nat) (h : Memory.wf s.mem = true) :
    Rep.Wf (refuseAt s status off handle) := by simp [refuseAt, h]

@[simp] theorem refuseLen_wf (s : State) (handle : Nat) (h : Memory.wf s.mem = true) : Rep.Wf (refuseLen s handle) := by simp [refuseLen, h]

@[simp] theorem failInside_wf (s : State) (q : Packet) (payload : Bytes) (h : Memory.wf s.mem = true) :
    Rep.Wf (failInside s q payload) := by simp [failInside, h]

@[simp] theorem State.fragment_mem (s : State) (q : Req) : (State.fragment s q).mem = s.mem := by simp [State.fragment]

@[simp] theorem State.accept_mem (s : State) (q : Req) : (State.accept s q).mem = s.mem := by simp [State.accept]

theorem State.releaseOne_mem (s t : State) (n : Nat) (h : State.releaseOne s n = some t) : t.mem = s.mem := by
  unfold State.releaseOne at h
  split at h
  · exact absurd h (by simp)
  split at h
  · exact absurd h (by simp)
  dsimp only at h
  split at h
  · exact absurd h (by simp)
  · rw [← Option.some.inj h]
    simp
  · rw [← Option.some.inj h]
    simp

@[simp] theorem State.settle_mem (s : State) (n fuel : Nat) : (State.settle s n fuel).mem = s.mem := by
  induction fuel generalizing s with
  | zero => rfl
  | succ fuel ih =>
    unfold State.settle
    split
    · split
      · simp [ih]
      · split
        · next h => rw [ih, State.releaseOne_mem _ _ _ h]
        · rfl
    · split
      · next h => rw [ih, State.releaseOne_mem _ _ _ h]
      · rfl

@[simp] theorem State.arrive_mem (s : State) (q : Req) : (State.arrive s q).mem = s.mem := by
  unfold State.arrive
  split <;> simp

@[simp] theorem State.bodyState_mem (s : State) (p : Packet) : (State.bodyState s p).mem = s.mem := rfl

@[simp] theorem Rep.finish_wf (r : Rep) (q : Req) (h : Rep.Wf r) : Memory.wf (Rep.finish r q).mem = true := by
  unfold Rep.finish
  obtain ⟨hs, ha⟩ := h
  rw [State.settle_mem]
  exact ha _ (by simp [hs])

/-- A body that keeps the memory canonical. -/
def BodyWf (b : Body) : Prop := ∀ ep q s, Memory.wf s.mem = true → Rep.Wf (b ep q s)

@[simp] theorem bodyWf_iff (b : Body) : BodyWf b ↔ ∀ ep q s, Memory.wf s.mem = true → Rep.Wf (b ep q s) := Iff.rfl

@[simp] theorem State.runBody_wf (s : State) (q : Req) (body : Body) (h : Memory.wf s.mem = true) (hb : BodyWf body) :
    Memory.wf (State.runBody s q body).mem = true := by
  unfold State.runBody
  extract_lets full u r
  have hu : Memory.wf u.mem = true := by simp [u, h]
  apply Rep.finish_wf
  unfold r
  split
  · simp [hu]
  split
  · simp [hu]
  · exact hb _ _ _ hu

@[simp] theorem State.heard_mem (s : State) (q : Req) : (State.heard s q).mem = s.mem := by simp [State.heard]

@[simp] theorem State.runCommand_wf (s : State) (q : Req) (body : Body) (h : Memory.wf s.mem = true) (hb : BodyWf body) :
    Out.Wf (State.runCommand s q body) := by
  have hrun : ∀ t : State, Memory.wf t.mem = true → Memory.wf (State.runBody t q body).mem = true := fun t ht => State.runBody_wf t q body ht hb
  unfold State.runCommand
  dsimp only
  (repeat' split) <;> simp [h, hrun]

/-! ### Admission (R27 to R31) -/

@[simp] theorem State.setDeadline_mem (s : State) : (State.setDeadline s).mem = s.mem := rfl

@[simp] theorem State.admitView_mem (s : State) : (State.admitView s).mem = s.mem := by
  unfold State.admitView
  refine foldl_mem _ _ _ fun t x => ?_
  dsimp only
  (repeat' split) <;> simp

/-! ### The cycle in which a change takes part (R26, R267, R319) -/

@[simp] theorem State.pend_mem (s : State) (e : Effect) (c : Change) (n : Option Notify) : (State.pend s e c n).mem = s.mem := rfl

/-! ### System commands (Table OPC-4) -/

@[simp] theorem bodyPing_wf (ep : Endpoint) (q : Packet) (s : State) (h : Memory.wf s.mem = true) : Rep.Wf (bodyPing ep q s) := by simp [bodyPing, h]

@[simp] theorem bodyInfo_wf (ep : Endpoint) (q : Packet) (s : State) (h : Memory.wf s.mem = true) : Rep.Wf (bodyInfo ep q s) := by simp [bodyInfo, h]

@[simp] theorem State.supplyEventTo_mem (s : State) (n : Nat) (warn : Bool) (monitors : Nat) :
    (State.supplyEventTo s n warn monitors).mem = s.mem := by simp [State.supplyEventTo]

@[simp] theorem State.firstEvents_mem (s : State) (n : Nat) : (State.firstEvents s n).mem = s.mem := by
  unfold State.firstEvents
  split <;> simp

@[simp] theorem bodySessionOpen_wf (ep : Endpoint) (q : Packet) (s : State) (h : Memory.wf s.mem = true) : Rep.Wf (bodySessionOpen ep q s) := by
  unfold bodySessionOpen
  (repeat' split) <;> simp [h]

@[simp] theorem bodySessionClose_wf (ep : Endpoint) (q : Packet) (s : State) (h : Memory.wf s.mem = true) :
    Rep.Wf (bodySessionClose ep q s) := by simp [bodySessionClose, h]

@[simp] theorem bodyCtrlTake_wf (ep : Endpoint) (q : Packet) (s : State) (h : Memory.wf s.mem = true) : Rep.Wf (bodyCtrlTake ep q s) := by
  unfold bodyCtrlTake
  (repeat' split) <;> simp [h]

@[simp] theorem bodyCtrlRelease_wf (ep : Endpoint) (q : Packet) (s : State) (h : Memory.wf s.mem = true) :
    Rep.Wf (bodyCtrlRelease ep q s) := by simp [bodyCtrlRelease, h]

@[simp] theorem bodyTimeGet_wf (ep : Endpoint) (q : Packet) (s : State) (h : Memory.wf s.mem = true) :
    Rep.Wf (bodyTimeGet ep q s) := by simp [bodyTimeGet, h]

@[simp] theorem bodyResetDevice_wf (ep : Endpoint) (q : Packet) (s : State) (h : Memory.wf s.mem = true) : Rep.Wf (bodyResetDevice ep q s) := by
  unfold bodyResetDevice
  (repeat' split) <;> simp [h]

@[simp] theorem bodyAuthChallenge_wf (ep : Endpoint) (q : Packet) (s : State) (h : Memory.wf s.mem = true) :
    Rep.Wf (bodyAuthChallenge ep q s) := by simp [bodyAuthChallenge, h]

@[simp] theorem bodyAuthResponse_wf (ep : Endpoint) (q : Packet) (s : State) (h : Memory.wf s.mem = true) : Rep.Wf (bodyAuthResponse ep q s) := by
  unfold bodyAuthResponse
  (repeat' split) <;> simp [h]

/-! ### Cycle commands (Table OPC-5) -/

@[simp] theorem bodyCycleSet_wf (ep : Endpoint) (q : Packet) (s : State) (h : Memory.wf s.mem = true) : Rep.Wf (bodyCycleSet ep q s) := by
  unfold bodyCycleSet
  lift_lets
  extract_lets
  (repeat' split) <;> simp +zetaDelta [h]

@[simp] theorem bodyCycleStart_wf (ep : Endpoint) (q : Packet) (s : State) (h : Memory.wf s.mem = true) :
    Rep.Wf (bodyCycleStart ep q s) := by simp [bodyCycleStart, h]

@[simp] theorem bodyCycleStop_wf (ep : Endpoint) (q : Packet) (s : State) (h : Memory.wf s.mem = true) :
    Rep.Wf (bodyCycleStop ep q s) := by simp [bodyCycleStop, h]

@[simp] theorem bodyCycleStatus_wf (ep : Endpoint) (q : Packet) (s : State) (h : Memory.wf s.mem = true) :
    Rep.Wf (bodyCycleStatus ep q s) := by simp [bodyCycleStatus, h]

/-! ### The rows -/

@[simp] theorem execPing_wf (q : Req) (s : State) (h : Memory.wf s.mem = true) : Out.Wf (execPing q s) := by
  simp +contextual [execPing, h]

@[simp] theorem execInfo_wf (q : Req) (s : State) (h : Memory.wf s.mem = true) : Out.Wf (execInfo q s) := by
  simp +contextual [execInfo, h]

@[simp] theorem execSessionOpen_wf (q : Req) (s : State) (h : Memory.wf s.mem = true) : Out.Wf (execSessionOpen q s) := by
  simp +contextual [execSessionOpen, h]

@[simp] theorem execSessionClose_wf (q : Req) (s : State) (h : Memory.wf s.mem = true) : Out.Wf (execSessionClose q s) := by
  simp +contextual [execSessionClose, h]

@[simp] theorem execCtrlTake_wf (q : Req) (s : State) (h : Memory.wf s.mem = true) : Out.Wf (execCtrlTake q s) := by
  simp +contextual [execCtrlTake, h]

@[simp] theorem execCtrlRelease_wf (q : Req) (s : State) (h : Memory.wf s.mem = true) : Out.Wf (execCtrlRelease q s) := by
  simp +contextual [execCtrlRelease, h]

@[simp] theorem execTimeGet_wf (q : Req) (s : State) (h : Memory.wf s.mem = true) : Out.Wf (execTimeGet q s) := by
  simp +contextual [execTimeGet, h]

@[simp] theorem execResetDevice_wf (q : Req) (s : State) (h : Memory.wf s.mem = true) : Out.Wf (execResetDevice q s) := by
  simp +contextual [execResetDevice, h]

@[simp] theorem execAuthChallenge_wf (q : Req) (s : State) (h : Memory.wf s.mem = true) : Out.Wf (execAuthChallenge q s) := by
  simp +contextual [execAuthChallenge, h]

@[simp] theorem execAuthResponse_wf (q : Req) (s : State) (h : Memory.wf s.mem = true) : Out.Wf (execAuthResponse q s) := by
  simp +contextual [execAuthResponse, h]

@[simp] theorem execCycleSet_wf (q : Req) (s : State) (h : Memory.wf s.mem = true) : Out.Wf (execCycleSet q s) := by
  simp +contextual [execCycleSet, h]

@[simp] theorem execCycleStart_wf (q : Req) (s : State) (h : Memory.wf s.mem = true) : Out.Wf (execCycleStart q s) := by
  simp +contextual [execCycleStart, h]

@[simp] theorem execCycleStop_wf (q : Req) (s : State) (h : Memory.wf s.mem = true) : Out.Wf (execCycleStop q s) := by
  simp +contextual [execCycleStop, h]

@[simp] theorem execCycleStatus_wf (q : Req) (s : State) (h : Memory.wf s.mem = true) : Out.Wf (execCycleStatus q s) := by
  simp +contextual [execCycleStatus, h]

@[simp] theorem State.feedFlash_mem (s : State) : (State.feedFlash s).mem = s.mem := by
  unfold State.feedFlash
  (repeat' split) <;> simp

@[simp] theorem State.queueWrite_mem (s : State) (t : BgTask) : (State.queueWrite s t).mem = s.mem := by simp [State.queueWrite]

/-! ### The journal (R844, R845) -/

@[simp] theorem State.journalPut_mem (s : State) (kind key : Nat) (payload : Bytes) :
    (State.journalPut s kind key payload).mem = s.mem := by simp [State.journalPut]

@[simp] theorem State.queueOps_mem (s : State) (l : List FlashOp) : (State.queueOps s l).mem = s.mem := by simp [State.queueOps]

@[simp] theorem State.journalPage_mem (s : State) (recs : List Bytes) : (State.journalPage s recs).mem = s.mem := by simp [State.journalPage]

@[simp] theorem State.journalPages_mem (n : Nat) (l : List Bytes) (s : State) : (State.journalPages n l s).mem = s.mem := by
  induction n generalizing l s with
  | zero => rfl
  | succ n ih =>
    unfold State.journalPages
    split
    · rfl
    · rw [ih, State.journalPage_mem]

/-! ### Destroy (R280, R281, R325) -/

@[simp] theorem State.freeSlot_mem (s : State) (slot : Nat) : (State.freeSlot s slot).mem = s.mem := rfl

@[simp] theorem State.chanStateEvent_mem (s : State) (slot old new cause : Nat) :
    (State.chanStateEvent s slot old new cause).mem = s.mem := by simp [State.chanStateEvent]

@[simp] theorem State.emitCh_mem (s : State) (e : ChEvent) : (State.emitCh s e).mem = s.mem := by
  unfold State.emitCh
  split <;> simp

@[simp] theorem State.changeChan_mem (s : State) (slot : Nat) (f : Channel → Channel) : (State.changeChan s slot f).mem = s.mem := by
  unfold State.changeChan
  split <;> simp

@[simp] theorem State.destroyChan_mem (s : State) (slot : Nat) : (State.destroyChan s slot).mem = s.mem := by simp [State.destroyChan]

/-! ### Limits (R295, R440, R441) -/

@[simp] theorem State.crossEvents_mem (s : State) (l : List ((Nat × Nat) × Bool × Int × Int)) :
    (State.crossEvents s l).mem = s.mem := by simp [State.crossEvents]

@[simp] theorem State.recheckLimits_mem (s : State) : (State.recheckLimits s).mem = s.mem := by
  unfold State.recheckLimits
  split <;> simp

@[simp] theorem State.installModel_mem (s : State) (id : Nat) (persist : Bool) (model : VesselModel) :
    (State.installModel s id persist model).mem = s.mem := by simp [State.installModel]

@[simp] theorem State.stationTo_mem (s : State) (id : Nat) (new : StState) (cause : Nat) :
    (State.stationTo s id new cause).mem = s.mem := by simp [State.stationTo]

@[simp] theorem State.sendTl_mem (s : State) (f : TxTl) : (State.sendTl s f).mem = s.mem := by simp [State.sendTl]

@[simp] theorem State.releaseStation_mem (s : State) (id reason : Nat) :
    (State.releaseStation s id reason).mem = s.mem := by simp [State.releaseStation]

@[simp] theorem State.applyMirror_mem (s : State) (pairs : Nat) : (State.applyMirror s pairs).mem = s.mem := rfl

@[simp] theorem State.replaceProgram_mem (s : State) (id : Nat) (img : Bytes) (cost : Nat) (persist : Bool) :
    (State.replaceProgram s id img cost persist).mem = s.mem := rfl

@[simp] theorem State.freeLeaving_mem (s : State) : (State.freeLeaving s).mem = s.mem := by simp [State.freeLeaving]

@[simp] theorem State.applyStopped_mem (s : State) (c : Change) : (State.applyStopped s c).mem = s.mem := by
  unfold State.applyStopped
  split <;> simp

@[simp] theorem State.change_mem (s : State) (e : Effect) (c : Change) (n : Option Notify) : (State.change s e c n).1.mem = s.mem := by
  unfold State.change
  split <;> simp

theorem State.change_after_mem (s : State) (e : Effect) (c : Change) (n : Option Notify) : SameMem (State.change s e c n).2.2 := by
  unfold State.change
  (repeat' split) <;> simp

/-! ### The conditions of a rotation (R843, R850) -/

@[simp] theorem State.setpointTarget_mem (s : State) (h' : Nat) (v : Int) : (State.setpointTarget s h' v).1.mem = s.mem := by
  unfold State.setpointTarget
  (repeat' split) <;> simp

@[simp] theorem whileDestroyed_wf (s : State) (r : Rep) (h : Memory.wf s.mem = true) (hr : Rep.Wf r) : Rep.Wf (whileDestroyed s r) := by
  simp [whileDestroyed, h, hr]

/-- What is done with a named channel keeps the memory canonical. -/
def NamedWf (k : Nat → Channel → Rep) : Prop := ∀ n c, Rep.Wf (k n c)

@[simp] theorem namedWf_iff (k : Nat → Channel → Rep) : NamedWf k ↔ ∀ n c, Rep.Wf (k n c) := Iff.rfl

@[simp] theorem State.named_wf (s : State) (q : Packet) (k : Nat → Channel → Rep) (h : Memory.wf s.mem = true) (hk : NamedWf k) :
    Rep.Wf (State.named s q k) := by
  unfold State.named
  split
  · simp [h]
  · simp [h, hk _ _]

@[simp] theorem bodyChCreate_wf (ep : Endpoint) (q : Packet) (s : State) (h : Memory.wf s.mem = true) : Rep.Wf (bodyChCreate ep q s) := by
  unfold bodyChCreate
  dsimp only
  (repeat' split) <;> simp [h]

@[simp] theorem bodyChDestroy_wf (ep : Endpoint) (q : Packet) (s : State) (h : Memory.wf s.mem = true) : Rep.Wf (bodyChDestroy ep q s) := by
  unfold bodyChDestroy
  dsimp only
  (repeat' split) <;> simp +contextual [h]

@[simp] theorem changeRep_wf (s : State) (q : Packet) (e : Effect) (c : Change) (tail : Bytes) (h : Memory.wf s.mem = true) :
    Rep.Wf (changeRep s q e c tail) :=
  ⟨(congrArg Memory.wf (State.change_mem ..)).trans h, fun t ht => (congrArg Memory.wf (State.change_after_mem _ _ _ _ t)).trans ht⟩

@[simp] theorem restRep_wf (s : State) (q : Packet) (slot : Nat) (c : Channel) (x : Change) (h : Memory.wf s.mem = true) :
    Rep.Wf (restRep s q slot c x) := by simp [restRep, h]

@[simp] theorem bodyChConfig_wf (ep : Endpoint) (q : Packet) (s : State) (h : Memory.wf s.mem = true) : Rep.Wf (bodyChConfig ep q s) := by
  unfold bodyChConfig
  refine State.named_wf _ _ _ h fun slot c => ?_
  lift_lets
  extract_lets
  (repeat' split) <;> simp [h]

@[simp] theorem bodyChBind_wf (ep : Endpoint) (q : Packet) (s : State) (h : Memory.wf s.mem = true) : Rep.Wf (bodyChBind ep q s) := by
  unfold bodyChBind
  refine State.named_wf _ _ _ h fun slot c => ?_
  dsimp only
  (repeat' split) <;> simp [h]

@[simp] theorem bodyChArm_wf (ep : Endpoint) (q : Packet) (s : State) (h : Memory.wf s.mem = true) : Rep.Wf (bodyChArm ep q s) := by
  unfold bodyChArm
  (repeat' split) <;> simp +contextual [h]

@[simp] theorem bodyChDisarm_wf (ep : Endpoint) (q : Packet) (s : State) (h : Memory.wf s.mem = true) : Rep.Wf (bodyChDisarm ep q s) := by
  unfold bodyChDisarm
  (repeat' split) <;> simp +contextual [h]

@[simp] theorem bodyChSetpoint_wf (ep : Endpoint) (q : Packet) (s : State) (h : Memory.wf s.mem = true) : Rep.Wf (bodyChSetpoint ep q s) := by
  unfold bodyChSetpoint
  dsimp only
  (repeat' split) <;> simp +contextual [h]

@[simp] theorem bodyChRead_wf (ep : Endpoint) (q : Packet) (s : State) (h : Memory.wf s.mem = true) : Rep.Wf (bodyChRead ep q s) := by
  unfold bodyChRead
  (repeat' split) <;> simp [h]

@[simp] theorem bodyChList_wf (ep : Endpoint) (q : Packet) (s : State) (h : Memory.wf s.mem = true) :
    Rep.Wf (bodyChList ep q s) := by simp [bodyChList, h]

@[simp] theorem bodyChDepend_wf (ep : Endpoint) (q : Packet) (s : State) (h : Memory.wf s.mem = true) : Rep.Wf (bodyChDepend ep q s) := by
  unfold bodyChDepend
  refine State.named_wf _ _ _ h fun slot c => ?_
  dsimp only
  (repeat' split) <;> simp [h]

@[simp] theorem modelLayout_wf (s : State) (q : Packet) (write : Bool) (k : Rep) (h : Memory.wf s.mem = true) (hk : Rep.Wf k) :
    Rep.Wf (modelLayout s q write k) := by
  unfold modelLayout
  dsimp only
  (repeat' split) <;> simp [h, hk]

@[simp] theorem modelRead_wf (s : State) (c : Channel) (h : Memory.wf s.mem = true) : Rep.Wf (modelRead s c) := by simp [modelRead, h]

@[simp] theorem modelWrite_wf (s : State) (q : Packet) (slot : Nat) (c : Channel) (h : Memory.wf s.mem = true) : Rep.Wf (modelWrite s q slot c) := by
  unfold modelWrite
  dsimp only
  (repeat' split) <;> simp [h]

@[simp] theorem modelTrimOn_wf (s : State) (q : Packet) (slot : Nat) (h : Memory.wf s.mem = true) :
    Rep.Wf (modelTrimOn s q slot) := by simp [modelTrimOn, h]

@[simp] theorem modelTrimOff_wf (s : State) (q : Packet) (slot : Nat) (h : Memory.wf s.mem = true) :
    Rep.Wf (modelTrimOff s q slot) := by simp [modelTrimOff, h]

@[simp] theorem modelRestore_wf (s : State) (q : Packet) (slot : Nat) (h : Memory.wf s.mem = true) :
    Rep.Wf (modelRestore s q slot) := by simp [modelRestore, h]

@[simp] theorem bodyChModel_wf (ep : Endpoint) (q : Packet) (s : State) (h : Memory.wf s.mem = true) : Rep.Wf (bodyChModel ep q s) := by
  unfold bodyChModel
  refine State.named_wf _ _ _ h fun slot c => modelLayout_wf _ _ _ _ h ?_
  split <;> simp [h]

@[simp] theorem bodyChSafe_wf (ep : Endpoint) (q : Packet) (s : State) (h : Memory.wf s.mem = true) : Rep.Wf (bodyChSafe ep q s) := by
  unfold bodyChSafe
  (repeat' split) <;> simp +contextual [h]

@[simp] theorem execChCreate_wf (q : Req) (s : State) (h : Memory.wf s.mem = true) : Out.Wf (execChCreate q s) := by
  simp +contextual [execChCreate, h]

@[simp] theorem execChDestroy_wf (q : Req) (s : State) (h : Memory.wf s.mem = true) : Out.Wf (execChDestroy q s) := by
  simp +contextual [execChDestroy, h]

@[simp] theorem execChConfig_wf (q : Req) (s : State) (h : Memory.wf s.mem = true) : Out.Wf (execChConfig q s) := by
  simp +contextual [execChConfig, h]

@[simp] theorem execChBind_wf (q : Req) (s : State) (h : Memory.wf s.mem = true) : Out.Wf (execChBind q s) := by
  simp +contextual [execChBind, h]

@[simp] theorem execChArm_wf (q : Req) (s : State) (h : Memory.wf s.mem = true) : Out.Wf (execChArm q s) := by
  simp +contextual [execChArm, h]

@[simp] theorem execChDisarm_wf (q : Req) (s : State) (h : Memory.wf s.mem = true) : Out.Wf (execChDisarm q s) := by
  simp +contextual [execChDisarm, h]

@[simp] theorem execChSetpoint_wf (q : Req) (s : State) (h : Memory.wf s.mem = true) : Out.Wf (execChSetpoint q s) := by
  simp +contextual [execChSetpoint, h]

@[simp] theorem execChRead_wf (q : Req) (s : State) (h : Memory.wf s.mem = true) : Out.Wf (execChRead q s) := by
  simp +contextual [execChRead, h]

@[simp] theorem execChList_wf (q : Req) (s : State) (h : Memory.wf s.mem = true) : Out.Wf (execChList q s) := by
  simp +contextual [execChList, h]

@[simp] theorem execChDepend_wf (q : Req) (s : State) (h : Memory.wf s.mem = true) : Out.Wf (execChDepend q s) := by
  simp +contextual [execChDepend, h]

@[simp] theorem execChModelRead_wf (q : Req) (s : State) (h : Memory.wf s.mem = true) : Out.Wf (execChModelRead q s) := by
  simp +contextual [execChModelRead, h]

@[simp] theorem execChModelWrite_wf (q : Req) (s : State) (h : Memory.wf s.mem = true) : Out.Wf (execChModelWrite q s) := by
  simp +contextual [execChModelWrite, h]

@[simp] theorem execChModelTrimOn_wf (q : Req) (s : State) (h : Memory.wf s.mem = true) : Out.Wf (execChModelTrimOn q s) := by
  simp +contextual [execChModelTrimOn, h]

@[simp] theorem execChModelTrimOff_wf (q : Req) (s : State) (h : Memory.wf s.mem = true) : Out.Wf (execChModelTrimOff q s) := by
  simp +contextual [execChModelTrimOff, h]

@[simp] theorem execChModelRestore_wf (q : Req) (s : State) (h : Memory.wf s.mem = true) : Out.Wf (execChModelRestore q s) := by
  simp +contextual [execChModelRestore, h]

@[simp] theorem execChSafe_wf (q : Req) (s : State) (h : Memory.wf s.mem = true) : Out.Wf (execChSafe q s) := by
  simp +contextual [execChSafe, h]

@[simp] theorem bodyStList_wf (ep : Endpoint) (q : Packet) (s : State) (h : Memory.wf s.mem = true) : Rep.Wf (bodyStList ep q s) := by
  unfold bodyStList
  dsimp only
  (repeat' split) <;> simp [h]

@[simp] theorem State.setPort_mem (s : State) (id : Nat) : (State.setPort s id).mem = s.mem := by simp [State.setPort]

@[simp] theorem State.stopPort_mem (s : State) (id : Nat) : (State.stopPort s id).mem = s.mem := by simp [State.stopPort]

@[simp] theorem bodyStAdmit_wf (ep : Endpoint) (q : Packet) (s : State) (h : Memory.wf s.mem = true) : Rep.Wf (bodyStAdmit ep q s) := by
  unfold bodyStAdmit
  lift_lets
  extract_lets
  (repeat' split) <;> simp +zetaDelta [h]

@[simp] theorem State.sendFallback_mem (s : State) (id : Nat) (p : Bytes) (n : Option Notify) :
    (State.sendFallback s id p n).mem = s.mem := by simp [State.sendFallback]

@[simp] theorem bodyStFallback_wf (ep : Endpoint) (q : Packet) (s : State) (h : Memory.wf s.mem = true) : Rep.Wf (bodyStFallback ep q s) := by
  unfold bodyStFallback
  dsimp only
  (repeat' split) <;> simp [h]

@[simp] theorem bodyStRelease_wf (ep : Endpoint) (q : Packet) (s : State) (h : Memory.wf s.mem = true) : Rep.Wf (bodyStRelease ep q s) := by
  unfold bodyStRelease
  dsimp only
  (repeat' split) <;> simp [h]

@[simp] theorem bodyStStatus_wf (ep : Endpoint) (q : Packet) (s : State) (h : Memory.wf s.mem = true) : Rep.Wf (bodyStStatus ep q s) := by
  unfold bodyStStatus
  (repeat' split) <;> simp [h]

/-! ### Vessel commands -/

@[simp] theorem stage_wf (s : State) (m : VesselModel) (r : Rep) (h : Memory.wf s.mem = true) (hr : Rep.Wf r) : Rep.Wf (stage s m r) := by
  unfold stage
  split
  · simp [h]
  · exact ⟨h, hr.2⟩

@[simp] theorem bodyVslLoad_wf (ep : Endpoint) (q : Packet) (s : State) (h : Memory.wf s.mem = true) :
    Rep.Wf (bodyVslLoad ep q s) := by simp [bodyVslLoad, h]

@[simp] theorem bodyVslCommit_wf (ep : Endpoint) (q : Packet) (s : State) (h : Memory.wf s.mem = true) : Rep.Wf (bodyVslCommit ep q s) := by
  unfold bodyVslCommit
  lift_lets
  extract_lets p m v cost a src u
  have hu : Memory.wf u.mem = true := h
  clear_value cost a u v m
  split
  · simp [h]
  split
  · simp [h]
  split
  · simp [h]
  split
  · simp [h]
  split
  · refine ⟨h, ?_⟩
    dsimp only
    split <;> simp
  split
  · simp [h]
  split
  · simp [h]
  · exact ⟨(congrArg Memory.wf (State.change_mem ..)).trans hu, fun t ht => (congrArg Memory.wf (State.change_after_mem _ _ _ _ t)).trans ht⟩

@[simp] theorem bodyTankDefine_wf (ep : Endpoint) (q : Packet) (s : State) (h : Memory.wf s.mem = true) :
    Rep.Wf (bodyTankDefine ep q s) := by simp [bodyTankDefine, h]

@[simp] theorem bodySectionDefine_wf (ep : Endpoint) (q : Packet) (s : State) (h : Memory.wf s.mem = true) : Rep.Wf (bodySectionDefine ep q s) := by
  unfold bodySectionDefine
  dsimp only
  (repeat' split) <;> simp [h]

@[simp] theorem bodyLimitsSet_wf (ep : Endpoint) (q : Packet) (s : State) (h : Memory.wf s.mem = true) : Rep.Wf (bodyLimitsSet ep q s) := by
  unfold bodyLimitsSet
  dsimp only
  (repeat' split) <;> simp [h]

@[simp] theorem bodyCondRead_wf (ep : Endpoint) (q : Packet) (s : State) (h : Memory.wf s.mem = true) : Rep.Wf (bodyCondRead ep q s) := by
  unfold bodyCondRead
  (repeat' split) <;> simp [h]

@[simp] theorem bodyStrengthRead_wf (ep : Endpoint) (q : Packet) (s : State) (h : Memory.wf s.mem = true) : Rep.Wf (bodyStrengthRead ep q s) := by
  unfold bodyStrengthRead
  dsimp only
  (repeat' split) <;> simp [h]

@[simp] theorem execStList_wf (q : Req) (s : State) (h : Memory.wf s.mem = true) : Out.Wf (execStList q s) := by
  simp +contextual [execStList, h]

@[simp] theorem execStAdmit_wf (q : Req) (s : State) (h : Memory.wf s.mem = true) : Out.Wf (execStAdmit q s) := by
  simp +contextual [execStAdmit, h]

@[simp] theorem execStFallback_wf (q : Req) (s : State) (h : Memory.wf s.mem = true) : Out.Wf (execStFallback q s) := by
  simp +contextual [execStFallback, h]

@[simp] theorem execStRelease_wf (q : Req) (s : State) (h : Memory.wf s.mem = true) : Out.Wf (execStRelease q s) := by
  simp +contextual [execStRelease, h]

@[simp] theorem execStStatus_wf (q : Req) (s : State) (h : Memory.wf s.mem = true) : Out.Wf (execStStatus q s) := by
  simp +contextual [execStStatus, h]

@[simp] theorem execVslLoad_wf (q : Req) (s : State) (h : Memory.wf s.mem = true) : Out.Wf (execVslLoad q s) := by
  simp +contextual [execVslLoad, h]

@[simp] theorem execVslCommit_wf (q : Req) (s : State) (h : Memory.wf s.mem = true) : Out.Wf (execVslCommit q s) := by
  simp +contextual [execVslCommit, h]

@[simp] theorem execTankDefine_wf (q : Req) (s : State) (h : Memory.wf s.mem = true) : Out.Wf (execTankDefine q s) := by
  simp +contextual [execTankDefine, h]

@[simp] theorem execSectionDefine_wf (q : Req) (s : State) (h : Memory.wf s.mem = true) : Out.Wf (execSectionDefine q s) := by
  simp +contextual [execSectionDefine, h]

@[simp] theorem execLimitsSet_wf (q : Req) (s : State) (h : Memory.wf s.mem = true) : Out.Wf (execLimitsSet q s) := by
  simp +contextual [execLimitsSet, h]

@[simp] theorem execCondRead_wf (q : Req) (s : State) (h : Memory.wf s.mem = true) : Out.Wf (execCondRead q s) := by
  simp +contextual [execCondRead, h]

@[simp] theorem execStrengthRead_wf (q : Req) (s : State) (h : Memory.wf s.mem = true) : Out.Wf (execStrengthRead q s) := by
  simp +contextual [execStrengthRead, h]

/-! ### Entries of the Reclaim controller -/

@[simp] theorem State.faultB_mem (s : State) (event severity source : Nat) (payload : Word) (flags : Nat) :
    (State.faultB s event severity source payload flags).mem = s.mem := by simp [State.faultB]

@[simp] theorem State.faultF_mem (s : State) (event severity source : Nat) (payload : Word) :
    (State.faultF s event severity source payload).mem = s.mem := by simp [State.faultF]

@[simp] theorem State.lastFence_mem (s : State) (d lease res : Nat) : (State.lastFence s d lease res).mem = s.mem := rfl

/-! ### Causes -/

@[simp] theorem State.latchCause_mem (s : State) (l : List Nat) : (State.latchCause s l).mem = s.mem := by simp [State.latchCause]

/-! ### What a reset keeps -/

@[simp] theorem State.cleared_wf (s : State) : Memory.wf (State.cleared s).mem = true := wf_nil

@[simp] theorem State.deviceResets_wf (s : State) (l : List Nat) (h : Memory.wf s.mem = true) :
    Memory.wf (State.deviceResets s l).mem = true := by simp [State.deviceResets, h]

@[simp] theorem State.deviceReset_wf (s : State) (cause : Nat) (h : Memory.wf s.mem = true) :
    Memory.wf (State.deviceReset s cause).mem = true := by simp [State.deviceReset, h]

@[simp] theorem State.raiseIrq_mem (s : State) (n : Nat) : (State.raiseIrq s n).mem = s.mem := rfl

@[simp] theorem State.answerWake_mem (s : State) (node : Nat) (p : FwPacket) (status : Nat) : (State.answerWake s node p status).mem = s.mem := rfl

@[simp] theorem State.dropControl_mem (s : State) (status : Nat) : (State.dropControl s status).mem = s.mem := by
  unfold State.dropControl
  refine foldl_mem _ _ _ fun t n => ?_
  split
  · exact State.answerWake_mem ..
  · rfl

@[simp] theorem State.dropWindow_mem (s : State) (status : Nat) : (State.dropWindow s status).mem = s.mem := by
  unfold State.dropWindow
  dsimp only
  (repeat' split) <;> simp

@[simp] theorem State.cycleEntry_mem (s : State) (o : CycleOutcome) : (State.cycleEntry s o).mem = s.mem := by simp [State.cycleEntry]

@[simp] theorem State.raiseLate_mem (s : State) (reason : Nat) : (State.raiseLate s reason).mem = s.mem := by simp [State.raiseLate]

@[simp] theorem State.escalateLate_mem (s : State) : (State.escalateLate s).mem = s.mem := by simp [State.escalateLate]

@[simp] theorem State.endCycle_mem (s : State) (cause : CycleOutcome) : (State.endCycle s cause).mem = s.mem := by simp [State.endCycle]

@[simp] theorem State.countCommit_mem (s : State) : (State.countCommit s).mem = s.mem := by simp [State.countCommit]

/-! ### Micro-trap requests and uncorrectable errors (R483, R518) -/

@[simp] theorem State.requestTrap_mem (s : State) (code : Nat) (info : Word) : (State.requestTrap s code info).mem = s.mem := rfl

@[simp] theorem State.noteUe_mem (s : State) (group addr : Nat) : (State.noteUe s group addr).mem = s.mem := by simp [State.noteUe]

@[simp] theorem State.noteCe_mem (s : State) (key : Nat) : (State.noteCe s key).mem = s.mem := by simp [State.noteCe]

@[simp] theorem State.eccAccess_mem (s : State) (outs : List (Nat × ElemOut)) : (State.eccAccess s outs).mem = s.mem := by simp [State.eccAccess]

@[simp] theorem State.elemStep_mem (s : State) (outs : List (Nat × ElemOut)) : (State.elemStep s outs).mem = s.mem := by simp [State.elemStep]

/-! ### Field power (R77, R472 to R475) -/

@[simp] theorem State.wakeOne_mem (s : State) (f : Nat) : (State.wakeOne s f).mem = s.mem := by
  unfold State.wakeOne
  split <;> simp

@[simp] theorem State.wakeField_mem (s : State) (f : Nat) : (State.wakeField s f).mem = s.mem := by simp [State.wakeField]

@[simp] theorem State.fieldUp_mem (s : State) (field : Nat) (fromOff : Bool) : (State.fieldUp s field fromOff).mem = s.mem := rfl

@[simp] theorem State.wakeNow_mem (s : State) (f : Nat) : (State.wakeNow s f).mem = s.mem := by simp [State.wakeNow]

@[simp] theorem State.fieldDown_mem (s : State) (field : Nat) (off : Bool) : (State.fieldDown s field off).mem = s.mem := by simp [State.fieldDown]

@[simp] theorem State.sleepField_mem (s : State) (r : Nat × Bool) : (State.sleepField s r).mem = s.mem := by simp [State.sleepField]

@[simp] theorem State.takeSleeps_mem (s : State) : (State.takeSleeps s).mem = s.mem := by simp [State.takeSleeps]

@[simp] theorem execFieldSleep_wf (field : Nat) (off : Bool) (s : State) (h : Memory.wf s.mem = true) :
    Out.Wf (execFieldSleep field off s) := by simp [execFieldSleep, h]

/-! ### ARR domain reset (R489, R528, R864) -/

@[simp] theorem State.arrReset_wf (s : State) (h : Memory.wf s.mem = true) : Memory.wf (State.arrReset s).mem = true := by
  unfold State.arrReset
  extract_lets plain reclaim t u v w
  have hw : Memory.wf w.mem = true := by simp [w, v, u, t, h]
  clear_value w
  exact State.ite_wf (by simp [hw]) hw

/-! ### Halts (R495, R509, R512, R520) -/

@[simp] theorem State.pilotHalt_mem (s : State) (bit : Nat) : (State.pilotHalt s bit).mem = s.mem := rfl

@[simp] theorem State.pilotOverflow_wf (s : State) (bit : Nat) (h : Memory.wf s.mem = true) :
    Memory.wf (State.pilotOverflow s bit).mem = true := by simp [State.pilotOverflow, h]

/-! ### Next address and patch matches (R510 to R512) -/

@[simp] theorem State.goto_mem (s : State) (a : Nat) : (State.goto s a).mem = s.mem := by
  unfold State.goto
  split <;> simp

/-! ### Plain cycles -/

@[simp] theorem State.plainCycles_mem (s : State) (n : Nat) : (State.plainCycles s n).mem = s.mem := by simp [State.plainCycles]

/-! ### Scalar operations (Table PLT-5) -/

@[simp] theorem State.sop_mem (s : State) (op sd ss imm : Nat) : (State.sop s op sd ss imm).mem = s.mem := by
  unfold State.sop
  (repeat' split) <;> simp

/-! ### Element operations (R498, Table PLT-2) -/

@[simp] theorem State.compareStep_mem (s : State) (a : Nat) : (State.compareStep s a).mem = s.mem := by simp [State.compareStep]

@[simp] theorem State.microElems_mem (s : State) (w : BitVec 112) : (State.microElems s w).mem = s.mem := by simp [State.microElems]

@[simp] theorem State.note_mem (s : State) (w : BitVec 112) : (State.note s w).mem = s.mem := by
  unfold State.note
  split <;> simp

@[simp] theorem State.tack_mem (s : State) : (State.tack s).mem = s.mem := rfl

@[simp] theorem State.microBody_mem (s : State) (w : BitVec 112) (act : Bool) : (State.microBody s w act).mem = s.mem := by simp [State.microBody]

@[simp] theorem State.micro_wf (s : State) (w : BitVec 112) (next : State → State) (h : Memory.wf s.mem = true) (hn : KeepsWf next) :
    Memory.wf (State.micro s w next).mem = true := by
  unfold State.micro
  split
  · exact h
  split
  · simp [h]
  · exact hn _ (by simp [h])

@[simp] theorem execMicroJump_wf (word : BitVec 112) (s : State) (h : Memory.wf s.mem = true) : Out.Wf (execMicroJump word s) := by
  simp +contextual [execMicroJump, h]

@[simp] theorem execMicroCall_wf (word : BitVec 112) (s : State) (h : Memory.wf s.mem = true) : Out.Wf (execMicroCall word s) := by
  simp +contextual [execMicroCall, h]

@[simp] theorem execMicroReturn_wf (word : BitVec 112) (s : State) (h : Memory.wf s.mem = true) : Out.Wf (execMicroReturn word s) := by
  refine (Out.wf_next _).2 (State.micro_wf _ _ _ h fun t ht => ?_)
  split <;> simp [ht]

@[simp] theorem execMicroLoop_wf (word : BitVec 112) (s : State) (h : Memory.wf s.mem = true) : Out.Wf (execMicroLoop word s) := by
  simp +contextual [execMicroLoop, h]

@[simp] theorem State.dispatch_mem (s : State) (m : MacroInstr) : (State.dispatch s m).mem = s.mem := rfl

@[simp] theorem execMicroDispatch_wf (word : BitVec 112) (s : State) (h : Memory.wf s.mem = true) : Out.Wf (execMicroDispatch word s) := by
  unfold execMicroDispatch
  split <;> simp +contextual [h]

@[simp] theorem execMicroWait_wf (word : BitVec 112) (s : State) (h : Memory.wf s.mem = true) : Out.Wf (execMicroWait word s) := by
  unfold execMicroWait
  (repeat' split) <;> simp [h]

@[simp] theorem execMicroIdle_wf (word : BitVec 112) (s : State) (h : Memory.wf s.mem = true) : Out.Wf (execMicroIdle word s) := by
  simp +contextual [execMicroIdle, h]

/-! ### Micro-traps (R517 to R523) -/

@[simp] theorem State.tret_mem (s : State) : (State.tret s).mem = s.mem := by
  unfold State.tret
  split <;> simp

@[simp] theorem execMicroTret_wf (word : BitVec 112) (s : State) (h : Memory.wf s.mem = true) : Out.Wf (execMicroTret word s) := by
  simp +contextual [execMicroTret, h]

@[simp] theorem State.abandon_mem (s : State) (o : CycleOutcome) : (State.abandon s o).mem = s.mem := by simp [State.abandon]

@[simp] theorem State.takeTrap_mem (s : State) (code : Nat) : (State.takeTrap s code).mem = s.mem := by simp [State.takeTrap]

@[simp] theorem State.harbourHandler_mem (s : State) (code : Nat) : (State.harbourHandler s code).mem = s.mem := by
  unfold State.harbourHandler
  split <;> simp

@[simp] theorem execMicroTrap_wf (s : State) (h : Memory.wf s.mem = true) : Out.Wf (execMicroTrap s) := by
  unfold execMicroTrap
  (repeat' split) <;> simp [h]

end Sys2Proof.Machine
end

section
/-! SUPPORT. The Basin memory under the model's operations, from "Requests" to "Black box". -/

namespace Sys2Proof.Machine

/-! ### Requests -/

@[simp] theorem execSagwarnRequest_wf (s : State) (h : Memory.wf s.mem = true) : Out.Wf (execSagwarnRequest s) := by simp [execSagwarnRequest, h]

@[simp] theorem execCycleDeadline_wf (s : State) (h : Memory.wf s.mem = true) : Out.Wf (execCycleDeadline s) := by simp [execCycleDeadline, h]

@[simp] theorem execAckTimeout_wf (s : State) (h : Memory.wf s.mem = true) : Out.Wf (execAckTimeout s) := by simp [execAckTimeout, h]

@[simp] theorem execPilotMarkArrival_wf (s : State) (h : Memory.wf s.mem = true) :
    Out.Wf (execPilotMarkArrival s) := by simp [execPilotMarkArrival, h]

@[simp] theorem execPilotStart_wf (s : State) (h : Memory.wf s.mem = true) : Out.Wf (execPilotStart s) := by simp [execPilotStart, h]

@[simp] theorem execPilotBreak_wf (s : State) (h : Memory.wf s.mem = true) : Out.Wf (execPilotBreak s) := by simp [execPilotBreak, h]

@[simp] theorem execPilotResume_wf (s : State) (h : Memory.wf s.mem = true) : Out.Wf (execPilotResume s) := by simp [execPilotResume, h]

@[simp] theorem execPilotPramWrite_wf (data3 : Word) (s : State) (h : Memory.wf s.mem = true) :
    Out.Wf (execPilotPramWrite data3 s) := by simp [execPilotPramWrite, h]

@[simp] theorem execPilotMboxWrite_wf (n : Nat) (data : Word) (s : State) (h : Memory.wf s.mem = true) :
    Out.Wf (execPilotMboxWrite n data s) := by simp [execPilotMboxWrite, h]

/-! ### Fetch (R494, R495) -/

@[simp] theorem State.wakeBasin_mem (s : State) (b : Nat) : (State.wakeBasin s b).mem = s.mem := rfl

@[simp] theorem execMacroFetch_wf (s : State) (h : Memory.wf s.mem = true) : Out.Wf (execMacroFetch s) := by simp [execMacroFetch, h]

/-! ### The kernel mask (R538) -/

@[simp] theorem State.loadMask_mem (s : State) (m : MacroInstr) : (State.loadMask s m).mem = s.mem := by simp [State.loadMask]

/-! ### One instruction of the Plain -/

@[simp] theorem State.charge_mem (s : State) (admitted spent : Nat) : (State.charge s admitted spent).mem = s.mem := by simp [State.charge]

@[simp] theorem State.loopBack_mem (s : State) (at_ : Nat) : (State.loopBack s at_).mem = s.mem := by
  unfold State.loopBack
  split <;> simp

@[simp] theorem State.plainOp_wf (s : State) (m : MacroInstr) (cost : Nat) (spent : State → Nat) (eff : State → State) (h : Memory.wf s.mem = true)
    (he : KeepsWf eff) : Memory.wf (State.plainOp s m cost spent eff).mem = true := by
  unfold State.plainOp
  split
  · exact h
  dsimp only
  rw [State.loopBack_mem, State.loopBack_mem, State.charge_mem]
  refine he _ ?_
  rw [State.loadMask_mem, State.dispatch_mem]
  exact h

@[simp] theorem State.plainFix_wf (s : State) (m : MacroInstr) (cost : Nat) (eff : State → State) (h : Memory.wf s.mem = true) (he : KeepsWf eff) :
    Memory.wf (State.plainFix s m cost eff).mem = true := State.plainOp_wf s m cost _ eff h he

@[simp] theorem State.plainMap_mem (s : State) (m : MacroInstr) (f : Plain → Nat → Elem → ElemOut) :
    (State.plainMap s m f).mem = s.mem := by simp [State.plainMap]

@[simp] theorem State.clearF_mem (s : State) : (State.clearF s).mem = s.mem := rfl

/-! ### Moves (0x00 to 0x05) -/

@[simp] theorem execPlainNop_wf (m : MacroInstr) (s : State) (h : Memory.wf s.mem = true) : Out.Wf (execPlainNop m s) := by
  simp +contextual [execPlainNop, h]

@[simp] theorem execPlainMov_wf (m : MacroInstr) (s : State) (h : Memory.wf s.mem = true) : Out.Wf (execPlainMov m s) := by
  simp +contextual [execPlainMov, h]

@[simp] theorem execPlainMovx_wf (m : MacroInstr) (s : State) (h : Memory.wf s.mem = true) : Out.Wf (execPlainMovx m s) := by
  simp +contextual [execPlainMovx, h]

@[simp] theorem execPlainLdi_wf (m : MacroInstr) (s : State) (h : Memory.wf s.mem = true) : Out.Wf (execPlainLdi m s) := by
  simp +contextual [execPlainLdi, h]

@[simp] theorem execPlainLdix_wf (m : MacroInstr) (s : State) (h : Memory.wf s.mem = true) : Out.Wf (execPlainLdix m s) := by
  simp +contextual [execPlainLdix, h]

@[simp] theorem execPlainStix_wf (m : MacroInstr) (s : State) (h : Memory.wf s.mem = true) : Out.Wf (execPlainStix m s) := by
  simp +contextual [execPlainStix, h]

/-! ### Addition (0x10 to 0x14) -/

@[simp] theorem execPlainAdd_wf (m : MacroInstr) (s : State) (h : Memory.wf s.mem = true) : Out.Wf (execPlainAdd m s) := by
  simp +contextual [execPlainAdd, h]

@[simp] theorem execPlainSub_wf (m : MacroInstr) (s : State) (h : Memory.wf s.mem = true) : Out.Wf (execPlainSub m s) := by
  simp +contextual [execPlainSub, h]

@[simp] theorem execPlainAddi_wf (m : MacroInstr) (s : State) (h : Memory.wf s.mem = true) : Out.Wf (execPlainAddi m s) := by
  simp +contextual [execPlainAddi, h]

@[simp] theorem execPlainNeg_wf (m : MacroInstr) (s : State) (h : Memory.wf s.mem = true) : Out.Wf (execPlainNeg m s) := by
  simp +contextual [execPlainNeg, h]

@[simp] theorem execPlainAbs_wf (m : MacroInstr) (s : State) (h : Memory.wf s.mem = true) : Out.Wf (execPlainAbs m s) := by
  simp +contextual [execPlainAbs, h]

/-! ### Multiplication and division (0x18 to 0x1D) -/

@[simp] theorem execPlainMul_wf (m : MacroInstr) (s : State) (h : Memory.wf s.mem = true) : Out.Wf (execPlainMul m s) := by
  simp +contextual [execPlainMul, h]

@[simp] theorem execPlainMulw_wf (m : MacroInstr) (s : State) (h : Memory.wf s.mem = true) : Out.Wf (execPlainMulw m s) := by
  simp +contextual [execPlainMulw, h]

@[simp] theorem execPlainSmul_wf (m : MacroInstr) (s : State) (h : Memory.wf s.mem = true) : Out.Wf (execPlainSmul m s) := by
  simp +contextual [execPlainSmul, h]

@[simp] theorem State.arith_mem (s : State) (l : List Nat) : (State.arith s l).mem = s.mem := by simp [State.arith]

@[simp] theorem State.divide_mem (s : State) (m : MacroInstr) (rem : Bool) : (State.divide s m rem).mem = s.mem := by simp [State.divide]

@[simp] theorem execPlainDiv_wf (m : MacroInstr) (s : State) (h : Memory.wf s.mem = true) : Out.Wf (execPlainDiv m s) := by
  simp +contextual [execPlainDiv, h]

@[simp] theorem execPlainRem_wf (m : MacroInstr) (s : State) (h : Memory.wf s.mem = true) : Out.Wf (execPlainRem m s) := by
  simp +contextual [execPlainRem, h]

/-! ### Compares (0x20 to 0x25) -/

@[simp] theorem State.compare_wf (s : State) (m : MacroInstr) (rel : Int → Int → Bool) (h : Memory.wf s.mem = true) :
    Memory.wf (State.compare s m rel).mem = true := by
  simp +contextual [State.compare, h]

@[simp] theorem execPlainCeq_wf (m : MacroInstr) (s : State) (h : Memory.wf s.mem = true) : Out.Wf (execPlainCeq m s) := by simp [execPlainCeq, h]

@[simp] theorem execPlainCne_wf (m : MacroInstr) (s : State) (h : Memory.wf s.mem = true) : Out.Wf (execPlainCne m s) := by simp [execPlainCne, h]

@[simp] theorem execPlainClt_wf (m : MacroInstr) (s : State) (h : Memory.wf s.mem = true) : Out.Wf (execPlainClt m s) := by simp [execPlainClt, h]

@[simp] theorem execPlainCle_wf (m : MacroInstr) (s : State) (h : Memory.wf s.mem = true) : Out.Wf (execPlainCle m s) := by simp [execPlainCle, h]

@[simp] theorem execPlainCgt_wf (m : MacroInstr) (s : State) (h : Memory.wf s.mem = true) : Out.Wf (execPlainCgt m s) := by simp [execPlainCgt, h]

@[simp] theorem execPlainCge_wf (m : MacroInstr) (s : State) (h : Memory.wf s.mem = true) : Out.Wf (execPlainCge m s) := by simp [execPlainCge, h]

/-! ### Logic and selection (0x28 to 0x32) -/

@[simp] theorem State.bitwise_wf (s : State) (m : MacroInstr) (f : Nat → Nat → Nat) (h : Memory.wf s.mem = true) :
    Memory.wf (State.bitwise s m f).mem = true := by
  simp +contextual [State.bitwise, h]

@[simp] theorem execPlainAnd_wf (m : MacroInstr) (s : State) (h : Memory.wf s.mem = true) : Out.Wf (execPlainAnd m s) := by simp [execPlainAnd, h]

@[simp] theorem execPlainOr_wf (m : MacroInstr) (s : State) (h : Memory.wf s.mem = true) : Out.Wf (execPlainOr m s) := by simp [execPlainOr, h]

@[simp] theorem execPlainXor_wf (m : MacroInstr) (s : State) (h : Memory.wf s.mem = true) : Out.Wf (execPlainXor m s) := by simp [execPlainXor, h]

@[simp] theorem execPlainAndn_wf (m : MacroInstr) (s : State) (h : Memory.wf s.mem = true) : Out.Wf (execPlainAndn m s) := by simp [execPlainAndn, h]

@[simp] theorem execPlainNot_wf (m : MacroInstr) (s : State) (h : Memory.wf s.mem = true) : Out.Wf (execPlainNot m s) := by
  simp +contextual [execPlainNot, h]

@[simp] theorem execPlainSel_wf (m : MacroInstr) (s : State) (h : Memory.wf s.mem = true) : Out.Wf (execPlainSel m s) := by
  simp +contextual [execPlainSel, h]

@[simp] theorem State.extreme_wf (s : State) (m : MacroInstr) (first : Int → Int → Bool) (h : Memory.wf s.mem = true) :
    Memory.wf (State.extreme s m first).mem = true := by
  simp +contextual [State.extreme, h]

@[simp] theorem execPlainMin_wf (m : MacroInstr) (s : State) (h : Memory.wf s.mem = true) : Out.Wf (execPlainMin m s) := by simp [execPlainMin, h]

@[simp] theorem execPlainMax_wf (m : MacroInstr) (s : State) (h : Memory.wf s.mem = true) : Out.Wf (execPlainMax m s) := by simp [execPlainMax, h]

/-! ### Shifts (0x38 to 0x3B) -/

@[simp] theorem execPlainShl_wf (m : MacroInstr) (s : State) (h : Memory.wf s.mem = true) : Out.Wf (execPlainShl m s) := by
  simp +contextual [execPlainShl, h]

@[simp] theorem execPlainShr_wf (m : MacroInstr) (s : State) (h : Memory.wf s.mem = true) : Out.Wf (execPlainShr m s) := by
  simp +contextual [execPlainShr, h]

@[simp] theorem execPlainScl_wf (m : MacroInstr) (s : State) (h : Memory.wf s.mem = true) : Out.Wf (execPlainScl m s) := by
  simp +contextual [execPlainScl, h]

@[simp] theorem execPlainSatn_wf (m : MacroInstr) (s : State) (h : Memory.wf s.mem = true) : Out.Wf (execPlainSatn m s) := by
  simp +contextual [execPlainSatn, h]

/-! ### Neighbour shifts (R548) -/

@[simp] theorem State.shiftLink_wf (s : State) (m : MacroInstr) (dir : Nat) (h : Memory.wf s.mem = true) :
    Memory.wf (State.shiftLink s m dir).mem = true := by
  simp +contextual [State.shiftLink, h]

@[simp] theorem execPlainNshn_wf (m : MacroInstr) (s : State) (h : Memory.wf s.mem = true) : Out.Wf (execPlainNshn m s) := by simp [execPlainNshn, h]

@[simp] theorem execPlainNshe_wf (m : MacroInstr) (s : State) (h : Memory.wf s.mem = true) : Out.Wf (execPlainNshe m s) := by simp [execPlainNshe, h]

@[simp] theorem execPlainNshs_wf (m : MacroInstr) (s : State) (h : Memory.wf s.mem = true) : Out.Wf (execPlainNshs m s) := by simp [execPlainNshs, h]

@[simp] theorem execPlainNshw_wf (m : MacroInstr) (s : State) (h : Memory.wf s.mem = true) : Out.Wf (execPlainNshw m s) := by simp [execPlainNshw, h]

/-! ### Prefix sums and segment extremes (R546) -/

@[simp] theorem State.scanOp_wf (s : State) (m : MacroInstr) (cost : Nat) (op : Int → Int → Int) (inclusive : Bool) (h : Memory.wf s.mem = true) :
    Memory.wf (State.scanOp s m cost op inclusive).mem = true := by
  simp +contextual [State.scanOp, h]

@[simp] theorem execPlainPsum_wf (m : MacroInstr) (s : State) (h : Memory.wf s.mem = true) : Out.Wf (execPlainPsum m s) := by simp [execPlainPsum, h]

@[simp] theorem execPlainPsumx_wf (m : MacroInstr) (s : State) (h : Memory.wf s.mem = true) :
    Out.Wf (execPlainPsumx m s) := by simp [execPlainPsumx, h]

@[simp] theorem execPlainRmax_wf (m : MacroInstr) (s : State) (h : Memory.wf s.mem = true) : Out.Wf (execPlainRmax m s) := by simp [execPlainRmax, h]

@[simp] theorem execPlainRmin_wf (m : MacroInstr) (s : State) (h : Memory.wf s.mem = true) : Out.Wf (execPlainRmin m s) := by simp [execPlainRmin, h]

/-! ### Global extremes (R547) -/

@[simp] theorem State.globalExtreme_wf (s : State) (m : MacroInstr) (pick : Int → Int → Int) (h : Memory.wf s.mem = true) :
    Memory.wf (State.globalExtreme s m pick).mem = true := by
  refine State.plainFix_wf _ _ _ _ h fun t ht => ?_
  dsimp only
  split <;> simp [ht]

@[simp] theorem execPlainGmax_wf (m : MacroInstr) (s : State) (h : Memory.wf s.mem = true) : Out.Wf (execPlainGmax m s) := by simp [execPlainGmax, h]

@[simp] theorem execPlainGmin_wf (m : MacroInstr) (s : State) (h : Memory.wf s.mem = true) : Out.Wf (execPlainGmin m s) := by simp [execPlainGmin, h]

/-! ### Masks (R538) -/

@[simp] theorem State.putMask_mem (s : State) (d : Nat) (f : Nat → Bool) : (State.putMask s d f).mem = s.mem := by simp [State.putMask]

@[simp] theorem State.setMaskD_mem (s : State) (d : Nat) : (State.setMaskD s d).mem = s.mem := rfl

@[simp] theorem State.plainGuarded_wf (s : State) (m : MacroInstr) (cost : Nat) (bad : Bool) (bit : Nat) (eff : State → State)
    (h : Memory.wf s.mem = true)
    (he : KeepsWf eff) : Memory.wf (State.plainGuarded s m cost bad bit eff).mem = true := by
  unfold State.plainGuarded
  split
  · simp [h]
  · exact State.plainFix_wf _ _ _ _ h he

@[simp] theorem State.maskPush_mem (s : State) (cond : State → Nat → Bool) : (State.maskPush s cond).mem = s.mem := by
  simp [State.maskPush]

@[simp] theorem execPlainMpush_wf (m : MacroInstr) (s : State) (h : Memory.wf s.mem = true) : Out.Wf (execPlainMpush m s) := by
  simp +contextual [execPlainMpush, h]

@[simp] theorem execPlainMpushf_wf (m : MacroInstr) (s : State) (h : Memory.wf s.mem = true) : Out.Wf (execPlainMpushf m s) := by
  simp +contextual [execPlainMpushf, h]

@[simp] theorem execPlainMpop_wf (m : MacroInstr) (s : State) (h : Memory.wf s.mem = true) : Out.Wf (execPlainMpop m s) := by
  simp +contextual [execPlainMpop, h]

@[simp] theorem execPlainMelse_wf (m : MacroInstr) (s : State) (h : Memory.wf s.mem = true) : Out.Wf (execPlainMelse m s) := by
  simp +contextual [execPlainMelse, h]

/-! ### Tables (R545) -/

@[simp] theorem execPlainTsrch_wf (m : MacroInstr) (s : State) (h : Memory.wf s.mem = true) : Out.Wf (execPlainTsrch m s) := by
  simp +contextual [execPlainTsrch, h]

@[simp] theorem execPlainTlerp_wf (m : MacroInstr) (s : State) (h : Memory.wf s.mem = true) : Out.Wf (execPlainTlerp m s) := by
  simp +contextual [execPlainTlerp, h]

/-! ### Control flow (R549 to R551) -/

@[simp] theorem State.jumpBy_mem (s : State) (off : Int) : (State.jumpBy s off).mem = s.mem := rfl

@[simp] theorem State.branch_wf (s : State) (m : MacroInstr) (c : State → Bool) (h : Memory.wf s.mem = true) :
    Memory.wf (State.branch s m c).mem = true := by
  unfold State.branch
  refine State.plainOp_wf _ _ _ _ _ h fun t ht => ?_
  split <;> simp [ht]

@[simp] theorem execPlainBr_wf (m : MacroInstr) (s : State) (h : Memory.wf s.mem = true) : Out.Wf (execPlainBr m s) := by
  simp +contextual [execPlainBr, h]

@[simp] theorem execPlainBrgor_wf (m : MacroInstr) (s : State) (h : Memory.wf s.mem = true) : Out.Wf (execPlainBrgor m s) := by
  simp +contextual [execPlainBrgor, h]

@[simp] theorem execPlainBrngor_wf (m : MacroInstr) (s : State) (h : Memory.wf s.mem = true) : Out.Wf (execPlainBrngor m s) := by
  simp +contextual [execPlainBrngor, h]

@[simp] theorem execPlainBrfor_wf (m : MacroInstr) (s : State) (h : Memory.wf s.mem = true) : Out.Wf (execPlainBrfor m s) := by
  simp +contextual [execPlainBrfor, h]

@[simp] theorem execPlainLoop_wf (m : MacroInstr) (s : State) (h : Memory.wf s.mem = true) : Out.Wf (execPlainLoop m s) := by
  simp +contextual [execPlainLoop, h]

@[simp] theorem execPlainCall_wf (m : MacroInstr) (s : State) (h : Memory.wf s.mem = true) : Out.Wf (execPlainCall m s) := by
  simp +contextual [execPlainCall, h]

@[simp] theorem execPlainRet_wf (m : MacroInstr) (s : State) (h : Memory.wf s.mem = true) : Out.Wf (execPlainRet m s) := by
  simp +contextual [execPlainRet, h]

@[simp] theorem execPlainWaitm_wf (m : MacroInstr) (s : State) (h : Memory.wf s.mem = true) : Out.Wf (execPlainWaitm m s) := by
  simp +contextual [execPlainWaitm, h]

@[simp] theorem execPlainEnd_wf (m : MacroInstr) (s : State) (h : Memory.wf s.mem = true) : Out.Wf (execPlainEnd m s) := by
  simp +contextual [execPlainEnd, h]

@[simp] theorem execPlainFclr_wf (m : MacroInstr) (s : State) (h : Memory.wf s.mem = true) : Out.Wf (execPlainFclr m s) := by
  simp +contextual [execPlainFclr, h]

@[simp] theorem execPlainDzclr_wf (m : MacroInstr) (s : State) (h : Memory.wf s.mem = true) : Out.Wf (execPlainDzclr m s) := by
  simp +contextual [execPlainDzclr, h]

@[simp] theorem execPlainIllegal_wf (m : MacroInstr) (s : State) (h : Memory.wf s.mem = true) :
    Out.Wf (execPlainIllegal m s) := by simp [execPlainIllegal, h]

@[simp] theorem runMacroOut_wf (m : MacroInstr) (s : State) (h : Memory.wf s.mem = true) : Out.Wf (runMacroOut m s) := by
  unfold runMacroOut
  split <;> simp [h]

@[simp] theorem runMacro_wf (m : MacroInstr) (s : State) (h : Memory.wf s.mem = true) : Memory.wf (runMacro m s).mem = true := by
  have hm := runMacroOut_wf m s h
  unfold runMacro
  split
  · next he => exact hm _ he
  · exact h

@[simp] theorem State.runCode_wf (code : List MacroInstr) (n : Nat) (s : State) (h : Memory.wf s.mem = true) :
    Memory.wf (State.runCode code n s).mem = true := by
  induction n generalizing s with
  | zero => exact h
  | succ n ih =>
    unfold State.runCode
    split
    · exact h
    split
    · exact h
    · exact ih _ (runMacro_wf _ _ h)

@[simp] theorem State.putOperand_mem (s : State) (n a w v : Nat) : (State.putOperand s n a w v).mem = s.mem := rfl

@[simp] theorem State.putUser_mem (s : State) (l : List Nat) (user : Bytes) : (State.putUser s l user).mem = s.mem := by simp [State.putUser]

@[simp] theorem State.putTables_mem (s : State) (l : List Nat) (img : Bytes) : (State.putTables s l img).mem = s.mem := by simp [State.putTables]

@[simp] theorem State.putInputs_mem (s : State) (e : Env) (c : Channel) (sp : Int) (l : List Nat) :
    (State.putInputs s e c sp l).mem = s.mem := by simp [State.putInputs]

@[simp] theorem State.kernelEntry_mem (s : State) (l : List Nat) : (State.kernelEntry s l).mem = s.mem := by simp [State.kernelEntry]

@[simp] theorem State.runKernel_wf (s : State) (e : Env) (slot : Nat) (c : Channel) (g : Program) (h : Memory.wf s.mem = true) :
    Memory.wf (State.runKernel s e slot c g).1.mem = true := by simp [State.runKernel, h]

@[simp] theorem State.runKernels_wf (s : State) (e : Env) (tab : Store Channel) (h : Memory.wf s.mem = true) :
    Memory.wf (State.runKernels s e tab).1.mem = true := by
  unfold State.runKernels
  refine List.foldlRecOn (motive := fun x : State × Store KernelRun => Memory.wf x.1.mem = true) _ _ h fun r hr x _ => ?_
  split
  · exact State.runKernel_wf _ _ _ _ _ hr
  · exact hr

/-! ### SLIP_LOAD (R300, R301, R811) -/

@[simp] theorem State.slipFail_mem (s : State) (status verified : Nat) (close : Bool) : (State.slipFail s status verified close).mem = s.mem := rfl

@[simp] theorem slipRefuse_wf (s : State) (status off : Nat) (h : Memory.wf s.mem = true) :
    Rep.Wf (slipRefuse s status off) := by simp [slipRefuse, h]

@[simp] theorem State.slipPlace_wf (s : State) (off : Nat) (data : Bytes) (h : Memory.wf s.mem = true) :
    Memory.wf (State.slipPlace s off data).mem = true := by
  simp +contextual [State.slipPlace, h]

theorem slipFields_wf (s : State) (p : Bytes) (begin : Bool) (r : Rep)
    (h : Memory.wf s.mem = true) (hr : slipFields s p begin = some r) : Rep.Wf r := by
  unfold slipFields at hr
  (repeat' split at hr) <;> simp only [reduceCtorEq, Option.some.injEq] at hr <;> subst hr <;> simp [h]

@[simp] theorem State.slipTake_wf (s : State) (owner total : Nat) (before data : Bytes) (h : Memory.wf s.mem = true) :
    Rep.Wf (State.slipTake s owner total before data) := by
  unfold State.slipTake
  dsimp only
  (repeat' split) <;> simp [h]

@[simp] theorem slipBegin_wf (s : State) (q : Packet) (h : Memory.wf s.mem = true) : Rep.Wf (slipBegin s q) := by
  unfold slipBegin
  dsimp only
  (repeat' split) <;> simp [h]

@[simp] theorem slipData_wf (s : State) (q : Packet) (h : Memory.wf s.mem = true) : Rep.Wf (slipData s q) := by
  unfold slipData
  split <;> simp [h]

@[simp] theorem slipApply_wf (s : State) (q : Packet) (h : Memory.wf s.mem = true) : Rep.Wf (slipApply s q) := by
  unfold slipApply
  (repeat' split) <;> simp [h]

@[simp] theorem slipAbort_wf (s : State) (q : Packet) (h : Memory.wf s.mem = true) : Rep.Wf (slipAbort s q) := by
  unfold slipAbort
  split <;> simp [h]

@[simp] theorem bodySlipLoad_wf (ep : Endpoint) (q : Packet) (s : State) (h : Memory.wf s.mem = true) : Rep.Wf (bodySlipLoad ep q s) := by
  unfold bodySlipLoad
  split
  · next hr => exact slipFields_wf _ _ _ _ h hr
  · split <;> simp [h]

/-! ### SLIP_STATUS, SLIP_CAPTURE, SLIP_READBACK -/

@[simp] theorem bodySlipStatus_wf (ep : Endpoint) (q : Packet) (s : State) (h : Memory.wf s.mem = true) :
    Rep.Wf (bodySlipStatus ep q s) := by simp [bodySlipStatus, h]

@[simp] theorem State.takeCapture_mem (s : State) : (State.takeCapture s).mem = s.mem := rfl

@[simp] theorem bodySlipCapture_wf (ep : Endpoint) (q : Packet) (s : State) (h : Memory.wf s.mem = true) : Rep.Wf (bodySlipCapture ep q s) := by
  unfold bodySlipCapture
  dsimp only
  (repeat' split) <;> simp [h]

@[simp] theorem bodySlipReadback_wf (ep : Endpoint) (q : Packet) (s : State) (h : Memory.wf s.mem = true) : Rep.Wf (bodySlipReadback ep q s) := by
  unfold bodySlipReadback
  dsimp only
  (repeat' split) <;> simp [h]

@[simp] theorem execSlipLoadBegin_wf (q : Req) (s : State) (h : Memory.wf s.mem = true) : Out.Wf (execSlipLoadBegin q s) := by
  simp +contextual [execSlipLoadBegin, h]

@[simp] theorem execSlipLoadData_wf (q : Req) (s : State) (h : Memory.wf s.mem = true) : Out.Wf (execSlipLoadData q s) := by
  simp +contextual [execSlipLoadData, h]

@[simp] theorem execSlipLoadApply_wf (q : Req) (s : State) (h : Memory.wf s.mem = true) : Out.Wf (execSlipLoadApply q s) := by
  simp +contextual [execSlipLoadApply, h]

@[simp] theorem execSlipLoadAbort_wf (q : Req) (s : State) (h : Memory.wf s.mem = true) : Out.Wf (execSlipLoadAbort q s) := by
  simp +contextual [execSlipLoadAbort, h]

@[simp] theorem execSlipStatus_wf (q : Req) (s : State) (h : Memory.wf s.mem = true) : Out.Wf (execSlipStatus q s) := by
  simp +contextual [execSlipStatus, h]

@[simp] theorem execSlipCapture_wf (q : Req) (s : State) (h : Memory.wf s.mem = true) : Out.Wf (execSlipCapture q s) := by
  simp +contextual [execSlipCapture, h]

@[simp] theorem execSlipReadback_wf (q : Req) (s : State) (h : Memory.wf s.mem = true) : Out.Wf (execSlipReadback q s) := by
  simp +contextual [execSlipReadback, h]

/-! ### Pilot patches (Tables PLT-7, R515) -/

@[simp] theorem State.installPatch_mem (s : State) (b : Bytes) : (State.installPatch s b).mem = s.mem := rfl

@[simp] theorem bodyPatchLoad_wf (ep : Endpoint) (q : Packet) (s : State) (h : Memory.wf s.mem = true) :
    Rep.Wf (bodyPatchLoad ep q s) := by simp [bodyPatchLoad, h]

/-! ### FW_UPDATE (R310, R311) -/

theorem fwFields_wf (s : State) (p : Bytes) (begin : Bool) (r : Rep) (h : Memory.wf s.mem = true) (hr : fwFields s p begin = some r) : Rep.Wf r := by
  unfold fwFields at hr
  (repeat' split at hr) <;> simp only [reduceCtorEq, Option.some.injEq] at hr <;> subst hr <;> simp [h]

@[simp] theorem State.setFw_mem (s : State) (g : Option Staging) : (State.setFw s g).mem = s.mem := rfl

@[simp] theorem fwBegin_wf (s : State) (q : Packet) (h : Memory.wf s.mem = true) : Rep.Wf (fwBegin s q) := by simp [fwBegin, h]

@[simp] theorem fwData_wf (s : State) (q : Packet) (h : Memory.wf s.mem = true) : Rep.Wf (fwData s q) := by
  unfold fwData
  split <;> simp [h]

@[simp] theorem fwCommit_wf (s : State) (q : Packet) (h : Memory.wf s.mem = true) : Rep.Wf (fwCommit s q) := by
  unfold fwCommit
  split <;> simp [h]

@[simp] theorem fwAbort_wf (s : State) (q : Packet) (h : Memory.wf s.mem = true) : Rep.Wf (fwAbort s q) := by
  unfold fwAbort
  split <;> simp [h]

@[simp] theorem bodyFwUpdate_wf (ep : Endpoint) (q : Packet) (s : State) (h : Memory.wf s.mem = true) : Rep.Wf (bodyFwUpdate ep q s) := by
  unfold bodyFwUpdate
  split
  · next hr => exact fwFields_wf _ _ _ _ h hr
  · split <;> simp [h]

/-! ### OTP_PROGRAM (R313, R314) -/

@[simp] theorem bodyOtpProgram_wf (ep : Endpoint) (q : Packet) (s : State) (h : Memory.wf s.mem = true) : Rep.Wf (bodyOtpProgram ep q s) := by
  unfold bodyOtpProgram
  dsimp only
  (repeat' split) <;> simp [h]

/-! ### Kernel programs (R297, R298, R554 to R557) -/

@[simp] theorem bodyProgLoad_wf (ep : Endpoint) (q : Packet) (s : State) (h : Memory.wf s.mem = true) : Rep.Wf (bodyProgLoad ep q s) := by
  unfold bodyProgLoad
  lift_lets
  extract_lets p img id persist replace old used prog t bg src v body
  have ht : Memory.wf t.mem = true := h
  have hbg : ∀ u : State, (bg u).mem = u.mem := fun u => by
    unfold bg
    split <;> simp
  clear_value t bg v
  split
  · simp [h]
  split
  · simp [h]
  split
  · simp [h]
  split
  · simp [h]
  split
  · simp [h]
  split
  · simp [h]
  split
  · simp [h]
  split
  · simp [h]
  split
  · simp [h]
  split
  · simp [h]
  split
  · exact ⟨by rw [hbg]; exact (congrArg Memory.wf (State.change_mem ..)).trans h, fun t ht =>
      (congrArg Memory.wf (State.change_after_mem _ _ _ _ t)).trans ht⟩
  · refine ⟨by rw [hbg]; exact ht, ?_⟩
    dsimp only
    split <;> simp

@[simp] theorem bodyProgUnload_wf (ep : Endpoint) (q : Packet) (s : State) (h : Memory.wf s.mem = true) : Rep.Wf (bodyProgUnload ep q s) := by
  unfold bodyProgUnload
  dsimp only
  (repeat' split) <;> simp [h]

@[simp] theorem bodyProgInfo_wf (ep : Endpoint) (q : Packet) (s : State) (h : Memory.wf s.mem = true) : Rep.Wf (bodyProgInfo ep q s) := by
  unfold bodyProgInfo
  dsimp only
  (repeat' split) <;> simp [h]

@[simp] theorem execProgLoad_wf (q : Req) (s : State) (h : Memory.wf s.mem = true) : Out.Wf (execProgLoad q s) := by
  simp +contextual [execProgLoad, h]

@[simp] theorem execProgUnload_wf (q : Req) (s : State) (h : Memory.wf s.mem = true) : Out.Wf (execProgUnload q s) := by
  simp +contextual [execProgUnload, h]

@[simp] theorem execProgInfo_wf (q : Req) (s : State) (h : Memory.wf s.mem = true) : Out.Wf (execProgInfo q s) := by
  simp +contextual [execProgInfo, h]

@[simp] theorem execFwUpdateBegin_wf (q : Req) (s : State) (h : Memory.wf s.mem = true) : Out.Wf (execFwUpdateBegin q s) := by
  simp +contextual [execFwUpdateBegin, h]

@[simp] theorem execFwUpdateData_wf (q : Req) (s : State) (h : Memory.wf s.mem = true) : Out.Wf (execFwUpdateData q s) := by
  simp +contextual [execFwUpdateData, h]

@[simp] theorem execFwUpdateCommit_wf (q : Req) (s : State) (h : Memory.wf s.mem = true) : Out.Wf (execFwUpdateCommit q s) := by
  simp +contextual [execFwUpdateCommit, h]

@[simp] theorem execFwUpdateAbort_wf (q : Req) (s : State) (h : Memory.wf s.mem = true) : Out.Wf (execFwUpdateAbort q s) := by
  simp +contextual [execFwUpdateAbort, h]

@[simp] theorem execPatchLoad_wf (q : Req) (s : State) (h : Memory.wf s.mem = true) : Out.Wf (execPatchLoad q s) := by
  simp +contextual [execPatchLoad, h]

@[simp] theorem execOtpProgramKeyHash_wf (q : Req) (s : State) (h : Memory.wf s.mem = true) : Out.Wf (execOtpProgramKeyHash q s) := by
  simp +contextual [execOtpProgramKeyHash, h]

@[simp] theorem execOtpProgramRevoke_wf (q : Req) (s : State) (h : Memory.wf s.mem = true) : Out.Wf (execOtpProgramRevoke q s) := by
  simp +contextual [execOtpProgramRevoke, h]

@[simp] theorem execOtpProgramRollback_wf (q : Req) (s : State) (h : Memory.wf s.mem = true) : Out.Wf (execOtpProgramRollback q s) := by
  simp +contextual [execOtpProgramRollback, h]

@[simp] theorem execOtpProgramOpenFw_wf (q : Req) (s : State) (h : Memory.wf s.mem = true) : Out.Wf (execOtpProgramOpenFw q s) := by
  simp +contextual [execOtpProgramOpenFw, h]

@[simp] theorem execOtpProgramJtagLock_wf (q : Req) (s : State) (h : Memory.wf s.mem = true) : Out.Wf (execOtpProgramJtagLock q s) := by
  simp +contextual [execOtpProgramJtagLock, h]

@[simp] theorem execOtpProgramSlipSignReq_wf (q : Req) (s : State) (h : Memory.wf s.mem = true) : Out.Wf (execOtpProgramSlipSignReq q s) := by
  simp +contextual [execOtpProgramSlipSignReq, h]

@[simp] theorem execOtpProgramCustomerKey_wf (q : Req) (s : State) (h : Memory.wf s.mem = true) : Out.Wf (execOtpProgramCustomerKey q s) := by
  simp +contextual [execOtpProgramCustomerKey, h]

/-! ### Rings in Basin 2 -/

@[simp] theorem State.txCloseAt_wf (s : State) (port q h' n : Nat) (sent : Bool) (h : Memory.wf s.mem = true) :
    Memory.wf (State.txCloseAt s port q h' n sent).mem = true := by
  unfold State.txCloseAt
  refine (congrArg Memory.wf (State.ethEvent_mem ..)).trans (Memory.wf_writeBytes _ _ _ ?_)
  exact wf_foldl _ _ _ (fun m x hm => Memory.wf_writeBytes _ _ _ hm) h

@[simp] theorem State.txMove_mem (s : State) (port q h fuel : Nat) : (State.txMove s port q h fuel).mem = s.mem := by
  induction fuel generalizing s h with
  | zero => rfl
  | succ fuel ih =>
    unfold State.txMove
    dsimp only
    split <;> simp [ih]

@[simp] theorem State.txClose_wf (s : State) (port q n : Nat) (sent : Bool) (h : Memory.wf s.mem = true) :
    Memory.wf (State.txClose s port q n sent).mem = true := by simp [State.txClose, h]

@[simp] theorem State.txAbort_wf (s : State) (port q counter fuel : Nat) (h : Memory.wf s.mem = true) :
    Memory.wf (State.txAbort s port q counter fuel).mem = true := by
  induction fuel generalizing s with
  | zero => exact h
  | succ fuel ih =>
    unfold State.txAbort
    dsimp only
    split
    · exact h
    · exact ih _ (by simp [h])

@[simp] theorem State.flushRing_wf (s : State) (port h' fuel : Nat) (h : Memory.wf s.mem = true) :
    Memory.wf (State.flushRing s port h' fuel).mem = true := by
  have hend : ∀ t : State, Memory.wf t.mem = true → Memory.wf (t.txMove port 3 (t.txHead port 3) 257).mem = true :=
    fun t ht => by rwa [State.txMove_mem]
  induction fuel generalizing s h' with
  | zero =>
    unfold State.flushRing
    exact hend s h
  | succ fuel ih =>
    unfold State.flushRing
    refine State.ite_wf (hend s h) (State.ite_wf ?_ (ih _ _ h))
    have ht : Memory.wf (s.txCloseAt port 3 h' (s.txReadyAt port 3 h') false).mem = true := State.txCloseAt_wf _ _ _ _ _ _ h
    exact ih _ _ (by simp [ht])

/-! ### Frames of the firmware (Table ETH-4) -/

@[simp] theorem State.txNext_mem (s : State) (port : Nat) : (State.txNext s port).mem = s.mem := rfl

@[simp] theorem State.txStart_mem (s : State) (port : Nat) : (State.txStart s port).mem = s.mem := rfl

@[simp] theorem State.txUnlist_mem (s : State) (port : Nat) (i : TxItem) : (State.txUnlist s port i).mem = s.mem := rfl

@[simp] theorem State.txRemove_wf (s : State) (port q : Nat) (f : TxFrame) (sent : Bool) (h : Memory.wf s.mem = true) :
    Memory.wf (State.txRemove s port q f sent).mem = true := by
  unfold State.txRemove
  split <;> simp [h]

@[simp] theorem State.txFlush_wf (s : State) (port : Nat) (h : Memory.wf s.mem = true) : Memory.wf (State.txFlush s port).mem = true := by
  unfold State.txFlush
  refine State.ite_wf h (foldl_wf _ _ _ (fun u q hu => State.txAbort_wf _ _ _ _ _ hu) ?_)
  rw [State.setMac_mem, State.ethCount_mem]
  exact h

/-! ### Answers (Table REG-1) -/

@[simp] theorem State.busAnswer_mem (s : State) (who : Initiator) (st : BusStatus) (data : Bytes) : (State.busAnswer s who st data).mem = s.mem := rfl

@[simp] theorem State.matrixErr_mem (s : State) (who : Initiator) (kind target addr : Nat) :
    (State.matrixErr s who kind target addr).mem = s.mem := by simp [State.matrixErr]

@[simp] theorem State.toBlock_wf (s : State) (who : Initiator) (addr : Nat) (act : State → State) (h : Memory.wf s.mem = true) (ha : KeepsWf act) :
    Memory.wf (State.toBlock s who addr act).mem = true := by
  have hact := ha (s.busAnswer who .ok) (by simp [h])
  simp [State.toBlock, h, hact]

/-! ### The guard (R183 to R188) -/

@[simp] theorem State.guardDeny_mem (s : State) (block : Nat) (who : Initiator) : (State.guardDeny s block who).mem = s.mem := rfl

@[simp] theorem State.guardUse_mem (s : State) (block : Nat) : (State.guardUse s block).mem = s.mem := rfl

@[simp] theorem State.guardedWrite_wf (s : State) (who : Initiator) (addr : Nat) (act : State → State)
    (h : Memory.wf s.mem = true) (ha : KeepsWf act) :
    Memory.wf (State.guardedWrite s who addr act).mem = true := by
  unfold State.guardedWrite
  refine State.toBlock_wf _ _ _ _ h fun t ht => ?_
  split
  · exact ha _ (by simp [ht])
  · simp [ht]

@[simp] theorem State.guardWrite_mem (s : State) (who : Initiator) (block : Nat) (v : Word) :
    (State.guardWrite s who block v).mem = s.mem := by simp [State.guardWrite]

@[simp] theorem State.guardAccess_wf (s : State) (who : Initiator) (block : Nat) (v : Word) (h : Memory.wf s.mem = true) :
    Memory.wf (State.guardAccess s who block v).mem = true := by
  simp +contextual [State.guardAccess, h]

@[simp] theorem execGuardKey_wf (who : Initiator) (block : Nat) (s : State) (h : Memory.wf s.mem = true) :
    Out.Wf (execGuardKey who block s) := by simp [execGuardKey, h]

@[simp] theorem execGuardWrongKey_wf (who : Initiator) (block : Nat) (key : BitVec 16) (s : State) (h : Memory.wf s.mem = true) :
    Out.Wf (execGuardWrongKey who block key s) := by simp [execGuardWrongKey, h]

@[simp] theorem execGuardClearFlags_wf (who : Initiator) (block : Nat) (value : Word) (s : State) (h : Memory.wf s.mem = true) :
    Out.Wf (execGuardClearFlags who block value s) := by simp [execGuardClearFlags, h]

@[simp] theorem execGuardExpiry_wf (block : Nat) (s : State) (h : Memory.wf s.mem = true) :
    Out.Wf (execGuardExpiry block s) := by simp [execGuardExpiry, h]

/-! ### Units of work (R192 to R194, Table REG-2) -/

@[simp] theorem State.rxAbort_mem (s : State) (port : Nat) : (State.rxAbort s port).mem = s.mem := by simp [State.rxAbort]

@[simp] theorem State.abortUnit_mem (s : State) (a : Nat) : (State.abortUnit s a).mem = s.mem := by
  unfold State.abortUnit
  split <;> simp

@[simp] theorem State.noteAbort_mem (s : State) (block : Nat) : (State.noteAbort s block).mem = s.mem := rfl

/-! ### Writes of registers without an action -/

@[simp] theorem State.ringStop_mem (s : State) (port r : Nat) (b : Bool) : (State.ringStop s port r b).mem = s.mem := rfl

@[simp] theorem State.ethTransient_wf (s : State) (port : Nat) (h : Memory.wf s.mem = true) : Memory.wf (State.ethTransient s port).mem = true := by
  unfold State.ethTransient
  dsimp only
  (repeat' split) <;> simp [h]

@[simp] theorem State.afterWrite_wf (s : State) (a : Nat) (old : Word) (h : Memory.wf s.mem = true) :
    Memory.wf (State.afterWrite s a old).mem = true := by
  unfold State.afterWrite
  dsimp only
  split
  · simp [h]
  split
  · exact h
  split
  · exact h
  split
  · (repeat' split) <;> simp [h]
  split
  · exact h
  split
  · simp [h]
  split
  · simp [h]
  split
  · simp [h]
  split
  · simp [h]
  · exact h

@[simp] theorem State.storeRow_wf (s : State) (who : Initiator) (a : Nat) (r : RegRow) (v : Word) (h : Memory.wf s.mem = true) :
    Memory.wf (State.storeRow s who a r v).mem = true := by simp [State.storeRow, h]

@[simp] theorem State.releaseDeferred_mem (s : State) (block : Nat) : (State.releaseDeferred s block).mem = s.mem := by simp [State.releaseDeferred]

@[simp] theorem State.plainWrite_wf (s : State) (who : Initiator) (a : Nat) (v : Word) (h : Memory.wf s.mem = true) :
    Memory.wf (State.plainWrite s who a v).mem = true := by
  unfold State.plainWrite
  split <;> simp +contextual [h]

/-! ### Clears and read actions (R178, R198) -/

@[simp] theorem execTimerSyscntLatch_wf (who : Initiator) (s : State) (h : Memory.wf s.mem = true) : Out.Wf (execTimerSyscntLatch who s) := by
  simp +contextual [execTimerSyscntLatch, h]

@[simp] theorem execDcqDropClear_wf (who : Initiator) (s : State) (h : Memory.wf s.mem = true) : Out.Wf (execDcqDropClear who s) := by
  simp +contextual [execDcqDropClear, h]

@[simp] theorem execQuayBusyClear_wf (who : Initiator) (s : State) (h : Memory.wf s.mem = true) : Out.Wf (execQuayBusyClear who s) := by
  simp +contextual [execQuayBusyClear, h]

@[simp] theorem State.zeroRegs_mem (s : State) (base n stride : Nat) : (State.zeroRegs s base n stride).mem = s.mem := by simp [State.zeroRegs]

@[simp] theorem State.clearColl_mem (s : State) : (State.clearColl s).mem = s.mem := rfl

@[simp] theorem State.clearEcc_mem (s : State) : (State.clearEcc s).mem = s.mem := rfl

@[simp] theorem execClrColl_wf (who : Initiator) (s : State) (h : Memory.wf s.mem = true) : Out.Wf (execClrColl who s) := by
  simp +contextual [execClrColl, h]

@[simp] theorem execClrEcc_wf (who : Initiator) (s : State) (h : Memory.wf s.mem = true) : Out.Wf (execClrEcc who s) := by
  simp +contextual [execClrEcc, h]

@[simp] theorem State.clearFairway_mem (s : State) : (State.clearFairway s).mem = s.mem := by simp [State.clearFairway]

@[simp] theorem execClrCounts_wf (who : Initiator) (s : State) (h : Memory.wf s.mem = true) : Out.Wf (execClrCounts who s) := by
  simp +contextual [execClrCounts, h]

@[simp] theorem State.clearScrub_mem (s : State) : (State.clearScrub s).mem = s.mem := rfl

@[simp] theorem execScrubClr_wf (who : Initiator) (s : State) (h : Memory.wf s.mem = true) : Out.Wf (execScrubClr who s) := by
  simp +contextual [execScrubClr, h]

@[simp] theorem State.clearEthCnt_mem (s : State) (port : Nat) : (State.clearEthCnt s port).mem = s.mem := by simp [State.clearEthCnt]

@[simp] theorem execEthCntClear_wf (who : Initiator) (port : Nat) (s : State) (h : Memory.wf s.mem = true) : Out.Wf (execEthCntClear who port s) := by
  simp +contextual [execEthCntClear, h]

/-! ### Interrupts (R608 to R611, Table HMC-4) -/

@[simp] theorem State.serve_mem (s : State) (n : Nat) : (State.serve s n).mem = s.mem := rfl

@[simp] theorem State.endService_mem (s : State) (n : Nat) : (State.endService s n).mem = s.mem := rfl

@[simp] theorem State.claim_mem (s : State) (who : Initiator) : (State.claim s who).mem = s.mem := by
  unfold State.claim
  split <;> simp

@[simp] theorem execIntcClaim_wf (who : Initiator) (s : State) (h : Memory.wf s.mem = true) : Out.Wf (execIntcClaim who s) := by
  simp +contextual [execIntcClaim, h]

@[simp] theorem execIntcComplete_wf (who : Initiator) (source : Nat) (s : State) (h : Memory.wf s.mem = true) :
    Out.Wf (execIntcComplete who source s) := by
  simp +contextual [execIntcComplete, h]

@[simp] theorem execIntcEndService_wf (who : Initiator) (index : Nat) (mask : Word) (s : State) (h : Memory.wf s.mem = true) :
    Out.Wf (execIntcEndService who index mask s) := by simp [execIntcEndService, h]

/-! ### The window watchdog (R612 to R615) -/

@[simp] theorem State.wdtExpire_wf (s : State) (also : optParam (List Nat) []) (h : Memory.wf s.mem = true) :
    Memory.wf (State.wdtExpire s also).mem = true := by simp [State.wdtExpire, h]

@[simp] theorem State.wdtServe_wf (s : State) (v : Word) (h : Memory.wf s.mem = true) :
    Memory.wf (State.wdtServe s v).mem = true := by simp [State.wdtServe, h]

@[simp] theorem execWdtService_wf (who : Initiator) (value : Word) (s : State) (h : Memory.wf s.mem = true) :
    Out.Wf (execWdtService who value s) := by
  simp +contextual [execWdtService, h]

@[simp] theorem execWdtPrewarn_wf (s : State) (h : Memory.wf s.mem = true) : Out.Wf (execWdtPrewarn s) := by simp [execWdtPrewarn, h]

@[simp] theorem execWdtExpiry_wf (also : List Nat) (s : State) (h : Memory.wf s.mem = true) :
    Out.Wf (execWdtExpiry also s) := by simp [execWdtExpiry, h]

@[simp] theorem execMarkCompare_wf (n : Nat) (s : State) (h : Memory.wf s.mem = true) : Out.Wf (execMarkCompare n s) := by simp [execMarkCompare, h]

/-! ### OTP words (chapter 05, R90) -/

@[simp] theorem State.otpGo_mem (s : State) (v : Word) : (State.otpGo s v).mem = s.mem := by simp [State.otpGo]

@[simp] theorem execOtpProgCmd_wf (who : Initiator) (value : Word) (s : State) (h : Memory.wf s.mem = true) :
    Out.Wf (execOtpProgCmd who value s) := by
  simp +contextual [execOtpProgCmd, h]

@[simp] theorem execOtpProgDone_wf (verified : Bool) (s : State) (h : Memory.wf s.mem = true) :
    Out.Wf (execOtpProgDone verified s) := by simp [execOtpProgDone, h]

/-! ### Black box -/

@[simp] theorem bodyBbStatus_wf (ep : Endpoint) (q : Packet) (s : State) (h : Memory.wf s.mem = true) :
    Rep.Wf (bodyBbStatus ep q s) := by simp [bodyBbStatus, h]

@[simp] theorem bodyBbRead_wf (ep : Endpoint) (q : Packet) (s : State) (h : Memory.wf s.mem = true) :
    Rep.Wf (bodyBbRead ep q s) := by simp [bodyBbRead, h]

@[simp] theorem bodyBbMark_wf (ep : Endpoint) (q : Packet) (s : State) (h : Memory.wf s.mem = true) : Rep.Wf (bodyBbMark ep q s) := by
  unfold bodyBbMark
  dsimp only
  (repeat' split) <;> simp [h]

@[simp] theorem State.releaseRing_mem (s : State) (session : Nat) : (State.releaseRing s session).mem = s.mem := by simp [State.releaseRing]

@[simp] theorem bodyBbRelease_wf (ep : Endpoint) (q : Packet) (s : State) (h : Memory.wf s.mem = true) :
    Rep.Wf (bodyBbRelease ep q s) := by simp [bodyBbRelease, h]

end Sys2Proof.Machine
end

section
/-! SUPPORT. The Basin memory under the model's operations, from "Telemetry" to "The supply warning (R83 to R93)". -/

namespace Sys2Proof.Machine

/-! ### Telemetry -/

@[simp] theorem bodyTmSubscribe_wf (ep : Endpoint) (q : Packet) (s : State) (h : Memory.wf s.mem = true) : Rep.Wf (bodyTmSubscribe ep q s) := by
  unfold bodyTmSubscribe
  dsimp only
  (repeat' split) <;> simp [h]

@[simp] theorem bodyTmCancel_wf (ep : Endpoint) (q : Packet) (s : State) (h : Memory.wf s.mem = true) : Rep.Wf (bodyTmCancel ep q s) := by
  unfold bodyTmCancel
  dsimp only
  (repeat' split) <;> simp [h]

@[simp] theorem execBbStatus_wf (q : Req) (s : State) (h : Memory.wf s.mem = true) : Out.Wf (execBbStatus q s) := by
  simp +contextual [execBbStatus, h]

@[simp] theorem execBbRead_wf (q : Req) (s : State) (h : Memory.wf s.mem = true) : Out.Wf (execBbRead q s) := by
  simp +contextual [execBbRead, h]

@[simp] theorem execBbMark_wf (q : Req) (s : State) (h : Memory.wf s.mem = true) : Out.Wf (execBbMark q s) := by
  simp +contextual [execBbMark, h]

@[simp] theorem execBbRelease_wf (q : Req) (s : State) (h : Memory.wf s.mem = true) : Out.Wf (execBbRelease q s) := by
  simp +contextual [execBbRelease, h]

@[simp] theorem execTmSubscribe_wf (q : Req) (s : State) (h : Memory.wf s.mem = true) : Out.Wf (execTmSubscribe q s) := by
  simp +contextual [execTmSubscribe, h]

@[simp] theorem execTmCancel_wf (q : Req) (s : State) (h : Memory.wf s.mem = true) : Out.Wf (execTmCancel q s) := by
  simp +contextual [execTmCancel, h]

@[simp] theorem bodyWearRead_wf (ep : Endpoint) (q : Packet) (s : State) (h : Memory.wf s.mem = true) :
    Rep.Wf (bodyWearRead ep q s) := by simp [bodyWearRead, h]

@[simp] theorem bodyWearReset_wf (ep : Endpoint) (q : Packet) (s : State) (h : Memory.wf s.mem = true) : Rep.Wf (bodyWearReset ep q s) := by
  unfold bodyWearReset
  dsimp only
  (repeat' split) <;> simp +contextual [h]

@[simp] theorem calRun_wf (s : State) (q : Packet) (h : Memory.wf s.mem = true) : Rep.Wf (calRun s q) := by
  unfold calRun
  dsimp only
  (repeat' split) <;> simp [h]

@[simp] theorem bodyCalRun_wf (ep : Endpoint) (q : Packet) (s : State) (h : Memory.wf s.mem = true) :
    Rep.Wf (bodyCalRun ep q s) := by simp [bodyCalRun, h]

@[simp] theorem bodyCalRead_wf (ep : Endpoint) (q : Packet) (s : State) (h : Memory.wf s.mem = true) : Rep.Wf (bodyCalRead ep q s) := by
  unfold bodyCalRead
  dsimp only
  (repeat' split) <;> simp [h]

@[simp] theorem bodyDutySet_wf (ep : Endpoint) (q : Packet) (s : State) (h : Memory.wf s.mem = true) : Rep.Wf (bodyDutySet ep q s) := by
  unfold bodyDutySet
  dsimp only
  (repeat' split) <;> simp [h]

@[simp] theorem bodyMirrorSet_wf (ep : Endpoint) (q : Packet) (s : State) (h : Memory.wf s.mem = true) : Rep.Wf (bodyMirrorSet ep q s) := by
  unfold bodyMirrorSet
  dsimp only
  (repeat' split) <;> simp [h]

@[simp] theorem execWearRead_wf (q : Req) (s : State) (h : Memory.wf s.mem = true) : Out.Wf (execWearRead q s) := by
  simp +contextual [execWearRead, h]

@[simp] theorem execWearReset_wf (q : Req) (s : State) (h : Memory.wf s.mem = true) : Out.Wf (execWearReset q s) := by
  simp +contextual [execWearReset, h]

@[simp] theorem execCalRunSensorZero_wf (q : Req) (s : State) (h : Memory.wf s.mem = true) : Out.Wf (execCalRunSensorZero q s) := by
  simp +contextual [execCalRunSensorZero, h]

@[simp] theorem execCalRunSensorSpan_wf (q : Req) (s : State) (h : Memory.wf s.mem = true) : Out.Wf (execCalRunSensorSpan q s) := by
  simp +contextual [execCalRunSensorSpan, h]

@[simp] theorem execCalRunTemp_wf (q : Req) (s : State) (h : Memory.wf s.mem = true) : Out.Wf (execCalRunTemp q s) := by
  simp +contextual [execCalRunTemp, h]

@[simp] theorem execCalRunSupmon_wf (q : Req) (s : State) (h : Memory.wf s.mem = true) : Out.Wf (execCalRunSupmon q s) := by
  simp +contextual [execCalRunSupmon, h]

@[simp] theorem execCalRunPlausibility_wf (q : Req) (s : State) (h : Memory.wf s.mem = true) : Out.Wf (execCalRunPlausibility q s) := by
  simp +contextual [execCalRunPlausibility, h]

@[simp] theorem execCalRead_wf (q : Req) (s : State) (h : Memory.wf s.mem = true) : Out.Wf (execCalRead q s) := by
  simp +contextual [execCalRead, h]

@[simp] theorem execDutySet_wf (q : Req) (s : State) (h : Memory.wf s.mem = true) : Out.Wf (execDutySet q s) := by
  simp +contextual [execDutySet, h]

@[simp] theorem execMirrorSet_wf (q : Req) (s : State) (h : Memory.wf s.mem = true) : Out.Wf (execMirrorSet q s) := by
  simp +contextual [execMirrorSet, h]

/-! ### A received unit: checks 1 to 3, then 4 to 10 (Table CMD-3) -/

@[simp] theorem State.receive_mem (s : State) (ep : Endpoint) (unit : Bytes) (peer : optParam Peer { mac := 0, tci := none }) :
    (State.receive s ep unit peer).mem = s.mem := by simp [State.receive]

@[simp] theorem execContFragment_wf (q : Req) (s : State) (h : Memory.wf s.mem = true) :
    Out.Wf (execContFragment q s) := by simp [execContFragment, h]

/-! ### Timers of sessions -/

@[simp] theorem execAssemblyTimeout_wf (sess : Nat) (s : State) (h : Memory.wf s.mem = true) :
    Out.Wf (execAssemblyTimeout sess s) := by simp [execAssemblyTimeout, h]

@[simp] theorem execSessionLivenessExpiry_wf (sess : Nat) (s : State) (h : Memory.wf s.mem = true) :
    Out.Wf (execSessionLivenessExpiry sess s) := by simp [execSessionLivenessExpiry, h]

@[simp] theorem execUdpGapExpiry_wf (sess : Nat) (s : State) (h : Memory.wf s.mem = true) :
    Out.Wf (execUdpGapExpiry sess s) := by simp [execUdpGapExpiry, h]

@[simp] theorem execAuthNonceExpiry_wf (sess : Nat) (s : State) (h : Memory.wf s.mem = true) :
    Out.Wf (execAuthNonceExpiry sess s) := by simp [execAuthNonceExpiry, h]

@[simp] theorem execAuthLockoutExpiry_wf (s : State) (h : Memory.wf s.mem = true) :
    Out.Wf (execAuthLockoutExpiry s) := by simp [execAuthLockoutExpiry, h]

/-! ### PCIe mailboxes and host registers (R235 to R238, R763, R764) -/

@[simp] theorem State.hostDiscard_mem (s : State) : (State.hostDiscard s).mem = s.mem := rfl

@[simp] theorem State.bar0Write_wf (s : State) (oneDword : Bool) (f : State → State) (h : Memory.wf s.mem = true) (hf : KeepsWf f) :
    Memory.wf (State.bar0Write s oneDword f).mem = true := by
  have := hf s h
  simp [State.bar0Write, h, this]

@[simp] theorem State.reqDoorbell_mem (s : State) (pair : Nat) (buffer : Bytes) (count : Nat) :
    (State.reqDoorbell s pair buffer count).mem = s.mem := by simp [State.reqDoorbell]

@[simp] theorem execPcieReplyDoorbell_wf (pair : Nat) (oneDword : Bool) (s : State) (h : Memory.wf s.mem = true) :
    Out.Wf (execPcieReplyDoorbell pair oneDword s) := by
  unfold execPcieReplyDoorbell
  refine (Out.wf_next _).2 (State.bar0Write_wf _ _ _ h fun t ht => State.ite_wf (by simp [ht]) ?_)
  split <;> simp [ht]

@[simp] theorem execPcieEvtCons_wf (pair index : Nat) (oneDword : Bool) (s : State) (h : Memory.wf s.mem = true) :
    Out.Wf (execPcieEvtCons pair index oneDword s) := by
  simp +contextual [execPcieEvtCons, h]

@[simp] theorem execHostIrqStatusClear_wf (mask : Word) (oneDword : Bool) (s : State) (h : Memory.wf s.mem = true) :
    Out.Wf (execHostIrqStatusClear mask oneDword s) := by
  simp +contextual [execHostIrqStatusClear, h]

/-! ### Configuration space (R159, R761) -/

@[simp] theorem State.configWrite_mem (s : State) (off : Nat) (v : Word) : (State.configWrite s off v).mem = s.mem := by
  unfold State.configWrite
  split <;> simp

@[simp] theorem execPcieConfigRequest_wf (write : Bool) (offset : Nat) (value : Word) (s : State) (h : Memory.wf s.mem = true) :
    Out.Wf (execPcieConfigRequest write offset value s) := by simp [execPcieConfigRequest, h]

/-! ### Endpoint resets and the link (R65, R223, R765) -/

@[simp] theorem State.vanishPcie_mem (s : State) : (State.vanishPcie s).mem = s.mem := by
  unfold State.vanishPcie
  refine foldl_mem _ _ _ fun t p => ?_
  split
  · exact State.endSession_mem ..
  · rfl

@[simp] theorem State.resetEndpoint_mem (s : State) : (State.resetEndpoint s).mem = s.mem := by simp [State.resetEndpoint]

@[simp] theorem execPerstNAssert_wf (s : State) (h : Memory.wf s.mem = true) : Out.Wf (execPerstNAssert s) := by simp [execPerstNAssert, h]

@[simp] theorem execPerstNDeassert_wf (s : State) (h : Memory.wf s.mem = true) : Out.Wf (execPerstNDeassert s) := by simp [execPerstNDeassert, h]

@[simp] theorem execFunctionLevelReset_wf (s : State) (h : Memory.wf s.mem = true) :
    Out.Wf (execFunctionLevelReset s) := by simp [execFunctionLevelReset, h]

@[simp] theorem execPcieLinkDownExpiry_wf (s : State) (h : Memory.wf s.mem = true) :
    Out.Wf (execPcieLinkDownExpiry s) := by simp [execPcieLinkDownExpiry, h]

@[simp] theorem execPcieLinkStateChange_wf (up : Bool) (gen width : Nat) (s : State) (h : Memory.wf s.mem = true) :
    Out.Wf (execPcieLinkStateChange up gen width s) := by simp [execPcieLinkStateChange, h]

/-! ### Host SPI (R243 to R246, R768, R769) -/

@[simp] theorem State.hspiFraming_mem (s : State) : (State.hspiFraming s).mem = s.mem := rfl

@[simp] theorem execHspiReadStatus_wf (command : Word) (clocked : Nat) (s : State) (h : Memory.wf s.mem = true) :
    Out.Wf (execHspiReadStatus command clocked s) := by simp [execHspiReadStatus, h]

@[simp] theorem State.hspiPop_mem (s : State) : (State.hspiPop s).mem = s.mem := by
  unfold State.hspiPop
  split <;> simp

@[simp] theorem execHspiReadPacket_wf (command : Word) (clocked : Nat) (s : State) (h : Memory.wf s.mem = true) :
    Out.Wf (execHspiReadPacket command clocked s) := by
  unfold execHspiReadPacket
  (repeat' split) <;> simp [h]

/-! ### Stations behind a lost link -/

@[simp] theorem State.linkLost_mem (s : State) (id : Nat) : (State.linkLost s id).mem = s.mem := by
  unfold State.linkLost
  split <;> simp

@[simp] theorem State.linksLost_mem (s : State) (p : Nat → Station → Bool) : (State.linksLost s p).mem = s.mem := by simp [State.linksLost]

@[simp] theorem State.portLost_mem (s : State) (port : Nat) : (State.portLost s port).mem = s.mem := by simp [State.portLost]

/-! ### Fairway nodes under a fence (R717 to R719) -/

@[simp] theorem State.nextEpoch_mem (s : State) (node : Nat) : (State.nextEpoch s node).mem = s.mem := rfl

@[simp] theorem State.fenceInitiator_mem (s : State) (node : Nat) : (State.fenceInitiator s node).mem = s.mem := rfl

@[simp] theorem State.fenceEndpoint_mem (s : State) (node : Nat) : (State.fenceEndpoint s node).mem = s.mem := by
  unfold State.fenceEndpoint
  dsimp only
  (repeat' split) <;> simp

@[simp] theorem State.fenceNodes_mem (s : State) (d : Nat) : (State.fenceNodes s d).mem = s.mem := by simp [State.fenceNodes]

@[simp] theorem State.unfenceNodes_mem (s : State) (d : Nat) : (State.unfenceNodes s d).mem = s.mem := by simp [State.unfenceNodes]

/-! ### What a domain reset clears (Table FLT-2) -/

@[simp] theorem State.stopDma_mem (s : State) : (State.stopDma s).mem = s.mem := by simp [State.stopDma]

@[simp] theorem State.resetQuay_mem (s : State) : (State.resetQuay s).mem = s.mem := by simp [State.resetQuay]

@[simp] theorem State.resetMac_mem (s : State) (port : Nat) : (State.resetMac s port).mem = s.mem := rfl

@[simp] theorem State.resetCluster_mem (s : State) : (State.resetCluster s).mem = s.mem := by simp [State.resetCluster]

@[simp] theorem State.reinit_mem (s : State) (d : Nat) : (State.reinit s d).mem = s.mem := by simp [State.reinit]

@[simp] theorem State.fenceQc_mem (s : State) (n : Nat) : (State.fenceQc s n).mem = s.mem := rfl

@[simp] theorem State.domainReset_wf (s : State) (d : Nat) (h : Memory.wf s.mem = true) : Memory.wf (State.domainReset s d).mem = true := by
  unfold State.domainReset
  split <;> simp [h]

/-! ### The fence sequence (R858 to R865) -/

@[simp] theorem State.fenceEntry_mem (s : State) (d lease res low severity : Nat) :
    (State.fenceEntry s d lease res low severity).mem = s.mem := by simp [State.fenceEntry]

@[simp] theorem State.escalate_wf (s : State) (h : Memory.wf s.mem = true) : Memory.wf (State.escalate s).mem = true := by simp [State.escalate, h]

@[simp] theorem State.stormHolds_mem (s : State) (d : Nat) : (State.stormHolds s d).mem = s.mem := rfl

@[simp] theorem State.fenceHm_wf (s : State) (lease port low : Nat) (h : Memory.wf s.mem = true) :
    Memory.wf (State.fenceHm s lease port low).mem = true := by simp [State.fenceHm, h]

@[simp] theorem State.fence_wf (s : State) (domain lease resource low : Nat) (h : Memory.wf s.mem = true) :
    Memory.wf (State.fence s domain lease resource low).mem = true := by simp [State.fence, h]

@[simp] theorem State.unfence_mem (s : State) (d : Nat) : (State.unfence s d).mem = s.mem := by simp [State.unfence]

@[simp] theorem State.autoLift_mem (s : State) (d : Nat) : (State.autoLift s d).mem = s.mem := by simp [State.autoLift]

@[simp] theorem execReclaimUnfence_wf (who : Initiator) (domain : Nat) (s : State) (h : Memory.wf s.mem = true) :
    Out.Wf (execReclaimUnfence who domain s) := by
  simp +contextual [execReclaimUnfence, h]

@[simp] theorem execHmFenceLift_wf (port : Nat) (s : State) (h : Memory.wf s.mem = true) :
    Out.Wf (execHmFenceLift port s) := by simp [execHmFenceLift, h]

@[simp] theorem execTapTestLogicReset_wf (s : State) (h : Memory.wf s.mem = true) :
    Out.Wf (execTapTestLogicReset s) := by simp [execTapTestLogicReset, h]

/-! ### Lease expiries (Table FLT-3) -/

@[simp] theorem execInjectionLeaseExpiry_wf (node tid : Nat) (s : State) (h : Memory.wf s.mem = true) :
    Out.Wf (execInjectionLeaseExpiry node tid s) := by simp [execInjectionLeaseExpiry, h]

@[simp] theorem execQuayPassTimeout_wf (s : State) (h : Memory.wf s.mem = true) : Out.Wf (execQuayPassTimeout s) := by simp [execQuayPassTimeout, h]

/-! ### Resets with a cause of their own (R133, Table BOT-1) -/

@[simp] theorem execPinReset_wf (also : List Nat) (s : State) (h : Memory.wf s.mem = true) : Out.Wf (execPinReset also s) := by simp [execPinReset, h]

@[simp] theorem execJtagSysreset_wf (also : List Nat) (s : State) (h : Memory.wf s.mem = true) :
    Out.Wf (execJtagSysreset also s) := by simp [execJtagSysreset, h]

@[simp] theorem execSysctlSwreset_wf (who : Initiator) (s : State) (h : Memory.wf s.mem = true) : Out.Wf (execSysctlSwreset who s) := by
  simp +contextual [execSysctlSwreset, h]

@[simp] theorem execDoubleTrap_wf (also : List Nat) (s : State) (h : Memory.wf s.mem = true) :
    Out.Wf (execDoubleTrap also s) := by simp [execDoubleTrap, h]

/-! ### The thermal governor (R839, R870) -/

@[simp] theorem State.sense_mem (s : State) (i : Nat) (r : Option Int) : (State.sense s i r).mem = s.mem := by simp [State.sense]

@[simp] theorem State.formMax_mem (s : State) : (State.formMax s).mem = s.mem := by
  unfold State.formMax
  dsimp only
  (repeat' split) <;> simp

@[simp] theorem execTempSample_wf (readings : List (Option Int)) (s : State) (h : Memory.wf s.mem = true) :
    Out.Wf (execTempSample readings s) := by simp [execTempSample, h]

@[simp] theorem State.thermStep_mem (s : State) (n : Nat) : (State.thermStep s n).mem = s.mem := rfl

@[simp] theorem State.thermStep2_mem (s : State) : (State.thermStep2 s).mem = s.mem := by simp [State.thermStep2]

@[simp] theorem execThermalStep1_wf (s : State) (h : Memory.wf s.mem = true) : Out.Wf (execThermalStep1 s) := by simp [execThermalStep1, h]

@[simp] theorem execThermalStep2_wf (s : State) (h : Memory.wf s.mem = true) : Out.Wf (execThermalStep2 s) := by simp [execThermalStep2, h]

@[simp] theorem execThermalClear_wf (s : State) (h : Memory.wf s.mem = true) : Out.Wf (execThermalClear s) := by
  unfold execThermalClear
  split <;> simp [h]

@[simp] theorem execThermalShutdown_wf (also : List Nat) (s : State) (h : Memory.wf s.mem = true) :
    Out.Wf (execThermalShutdown also s) := by simp [execThermalShutdown, h]

/-! ### Images of built-in stations (Table QUY-2, R568, R772) -/

@[simp] theorem State.putStatus_wf (s : State) (id : Nat) (h : Memory.wf s.mem = true) : Memory.wf (State.putStatus s id).mem = true := by
  simp +contextual [State.putStatus, h]

@[simp] theorem State.putPoint_wf (s : State) (id point : Nat) (q : Byte) (v : Int) (h : Memory.wf s.mem = true) :
    Memory.wf (State.putPoint s id point q v).mem = true := by
  unfold State.putPoint
  split <;> simp +contextual [h]

/-! ### The blank state (R814) -/

@[simp] theorem State.setVst_mem (s : State) (v : Nat) (x : VStation) : (State.setVst s v x).mem = s.mem := rfl

@[simp] theorem State.qcsOff_mem (s : State) : (State.qcsOff s).mem = s.mem := by simp [State.qcsOff]

@[simp] theorem State.dropVirtual_mem (s : State) : (State.dropVirtual s).mem = s.mem := by simp [State.dropVirtual]

@[simp] theorem State.blank_mem (s : State) (fabric : Nat) : (State.blank s fabric).mem = s.mem := by
  refine (State.setSlip_mem _ _).trans ?_
  rw [State.setFld_mem, State.qcsOff_mem, State.dropVirtual_mem]
  exact foldl_mem _ _ _ fun t n => State.monitor_mem ..

/-! ### Applies (R301, R812, R819) -/

@[simp] theorem State.imageMode_mem (s : State) (d : Design) : (State.imageMode s d).mem = s.mem := by simp [State.imageMode]

@[simp] theorem State.runDesign_mem (s : State) (img : Bytes) : (State.runDesign s img).mem = s.mem := by simp [State.runDesign]

@[simp] theorem State.applyBegin_mem (s : State) (w : SlipApply) : (State.applyBegin s w).mem = s.mem := by
  refine (State.setSlip_mem _ _).trans ?_
  rw [State.setRbit_mem, State.blank_mem]

@[simp] theorem State.applyGo_mem (s : State) : (State.applyGo s).mem = s.mem := by
  unfold State.applyGo
  split
  · rfl
  split <;> exact State.applyBegin_mem _ _

@[simp] theorem execSlipctlApplyGo_wf (who : Initiator) (s : State) (h : Memory.wf s.mem = true) : Out.Wf (execSlipctlApplyGo who s) := by
  simp +contextual [execSlipctlApplyGo, h]

/-! ### Shadow captures (R815, R816) -/

@[simp] theorem State.armCapture_mem (s : State) (clock : Nat) : (State.armCapture s clock).mem = s.mem := rfl

@[simp] theorem execSlipctlCaptureGo_wf (who : Initiator) (clock : BitVec 2) (s : State) (h : Memory.wf s.mem = true) :
    Out.Wf (execSlipctlCaptureGo who clock s) := by
  simp +contextual [execSlipctlCaptureGo, h]

@[simp] theorem execShadowCapture_wf (clock : BitVec 2) (s : State) (h : Memory.wf s.mem = true) :
    Out.Wf (execShadowCapture clock s) := by simp [execShadowCapture, h]

@[simp] theorem State.readShadow_mem (s : State) (who : Initiator) : (State.readShadow s who).mem = s.mem := by
  unfold State.readShadow
  split <;> simp

@[simp] theorem execShadowDataRead_wf (who : Initiator) (s : State) (h : Memory.wf s.mem = true) : Out.Wf (execShadowDataRead who s) := by
  simp +contextual [execShadowDataRead, h]

/-! ### Queue controllers (R798 to R801) -/

@[simp] theorem State.setQc_mem (s : State) (n : Nat) (q : Qc) : (State.setQc s n q).mem = s.mem := rfl

/-! ### Virtual stations (R802 to R807) -/

@[simp] theorem execVsPost_wf (n : Nat) (entries : List (Nat × Nat × Int)) (lastApplied : Nat) (s : State) (h : Memory.wf s.mem = true) :
    Out.Wf (execVsPost n entries lastApplied s) := by
  refine (Out.wf_next _).2 (State.ite_wf h ?_)
  extract_lets id x st t
  have ht : Memory.wf t.mem = true := by simp [t, h]
  clear_value t
  have hp : Memory.wf (entries.foldl (fun (u : State) e => u.putPoint id e.1 (BitVec.ofNat 8 e.2.1) e.2.2) t).mem = true :=
    foldl_wf _ _ _ (fun u e hu => State.putPoint_wf _ _ _ _ _ hu) ht
  simp [hp]

@[simp] theorem execVsPresentRise_wf (n : Nat) (s : State) (h : Memory.wf s.mem = true) :
    Out.Wf (execVsPresentRise n s) := by simp [execVsPresentRise, h]

@[simp] theorem execVsPresentFall_wf (n : Nat) (s : State) (h : Memory.wf s.mem = true) :
    Out.Wf (execVsPresentFall n s) := by simp [execVsPresentFall, h]

/-! ### Banks, lanes, the window (R797, R808, R824, Table REG-3) -/

@[simp] theorem execBankLow_wf (bank : Nat) (s : State) (h : Memory.wf s.mem = true) : Out.Wf (execBankLow bank s) := by simp [execBankLow, h]

@[simp] theorem execBankRestored_wf (bank : Nat) (s : State) (h : Memory.wf s.mem = true) :
    Out.Wf (execBankRestored bank s) := by simp [execBankRestored, h]

@[simp] theorem execLaneLost_wf (lane dropped : Nat) (s : State) (h : Memory.wf s.mem = true) :
    Out.Wf (execLaneLost lane dropped s) := by simp [execLaneLost, h]

@[simp] theorem execLaneLockRegained_wf (lane : Nat) (s : State) (h : Memory.wf s.mem = true) :
    Out.Wf (execLaneLockRegained lane s) := by simp [execLaneLockRegained, h]

@[simp] theorem State.windowTimeout_mem (s : State) (who : Initiator) : (State.windowTimeout s who).mem = s.mem := rfl

@[simp] theorem execSlipWindowAccess_wf (who : Initiator) (write : Bool) (offset : Nat) (v answer : Word) (s : State) (h : Memory.wf s.mem = true) :
    Out.Wf (execSlipWindowAccess who write offset v answer s) := by simp [execSlipWindowAccess, h]

@[simp] theorem execWinTimeout_wf (who : Initiator) (s : State) (h : Memory.wf s.mem = true) :
    Out.Wf (execWinTimeout who s) := by simp [execWinTimeout, h]

/-! ### Receive rings (R734 to R743) -/

@[simp] theorem State.closeDesc_wf (s : State) (port : Nat) (f : RxFill) (i n : Nat) (first last trunc dmaErr : Bool) (h : Memory.wf s.mem = true) :
    Memory.wf (State.closeDesc s port f i n first last trunc dmaErr).mem = true := by
  simp +contextual [State.closeDesc, h]

@[simp] theorem State.ringFail_mem (s : State) (port r : Nat) : (State.ringFail s port r).mem = s.mem := rfl

@[simp] theorem State.closeFrame_wf (s : State) (port : Nat) (f : RxFill) (trunc dmaErr : Bool) (h : Memory.wf s.mem = true) :
    Memory.wf (State.closeFrame s port f trunc dmaErr).mem = true := by
  unfold State.closeFrame
  split
  · exact h
  split
  · simp [h]
  extract_lets lastIx t u v
  have ht : Memory.wf t.mem = true := foldl_wf _ _ _ (fun u x hu => State.closeDesc_wf _ _ _ _ _ _ _ _ _ hu) h
  have hu : Memory.wf u.mem = true := by simp [u, ht]
  have hv : Memory.wf v.mem = true := by simp [v, hu]
  clear_value v u
  (repeat' split) <;> simp [hu, hv]

@[simp] theorem State.fillOne_wf (s : State) (port : Nat) (f : RxFill) (h : Memory.wf s.mem = true) :
    Memory.wf (State.fillOne s port f).1.mem = true := by
  unfold State.fillOne
  lift_lets
  extract_lets
  (repeat' split) <;> simp +zetaDelta [h]

@[simp] theorem State.rxRun_wf (s : State) (port fuel : Nat) (h : Memory.wf s.mem = true) : Memory.wf (State.rxRun s port fuel).mem = true := by
  induction fuel generalizing s with
  | zero => exact h
  | succ fuel ih =>
    unfold State.rxRun
    dsimp only
    split
    · exact h
    next f rest hf =>
    have hfill := State.fillOne_wf s port f h
    split
    · exact ih _ (by simp [h])
    split
    · exact h
    split
    · next he =>
      rw [he] at hfill
      exact ih _ (by simp [hfill])
    · next he =>
      rw [he] at hfill
      split
      · exact ih _ (by simp [hfill])
      · exact ih _ (by simp [hfill])

@[simp] theorem State.rxAll_wf (s : State) (port : Nat) (h : Memory.wf s.mem = true) :
    Memory.wf (State.rxAll s port).mem = true := by simp [State.rxAll, h]

@[simp] theorem State.rxGiveUp_wf (s : State) (port counter : Nat) (h : Memory.wf s.mem = true) :
    Memory.wf (State.rxGiveUp s port counter).mem = true := by
  unfold State.rxGiveUp
  dsimp only
  (repeat' split) <;> simp [h]

@[simp] theorem State.rxPush_wf (s : State) (port : Nat) (f : RxFill) (h : Memory.wf s.mem = true) :
    Memory.wf (State.rxPush s port f).mem = true := by simp [State.rxPush, h]

@[simp] theorem State.passRx_mem (s : State) (port ring : Nat) (d : Nat × Nat) : (State.passRx s port ring d).mem = s.mem := rfl

@[simp] theorem State.handBack_wf (s : State) (port ring : Nat) (d : Nat × Nat) (h : Memory.wf s.mem = true) :
    Memory.wf (State.handBack s port ring d).mem = true := by
  simp +contextual [State.handBack, h]

@[simp] theorem State.tidyRing_wf (s : State) (port ring fuel : Nat) (h : Memory.wf s.mem = true) :
    Memory.wf (State.tidyRing s port ring fuel).mem = true := by
  induction fuel generalizing s with
  | zero => exact h
  | succ fuel ih =>
    unfold State.tidyRing
    split
    · exact h
    split
    · exact ih _ (by simp [h])
    · exact h

@[simp] theorem State.returnRx_wf (s : State) (port ring : Nat) (h : Memory.wf s.mem = true) : Memory.wf (State.returnRx s port ring).mem = true := by
  unfold State.returnRx
  split <;> simp [h]

@[simp] theorem State.takeDatagram_wf (s : State) (port : Nat) (tci : Option Nat) (frame : Bytes) (h : Memory.wf s.mem = true) :
    Memory.wf (State.takeDatagram s port tci frame).mem = true := by simp [State.takeDatagram, h]

@[simp] theorem State.takeInbox_wf (s : State) (port : Nat) (h : Memory.wf s.mem = true) : Memory.wf (State.takeInbox s port).mem = true := by
  unfold State.takeInbox
  refine foldl_wf _ _ _ (fun t r ht => State.tidyRing_wf _ _ _ _ ht) ?_
  exact foldl_wf _ _ _ (fun t x ht => State.takeDatagram_wf _ _ _ _ ht) (by simp [h])

@[simp] theorem execEthRxFrame_wf (port : Nat) (frame : RxFrame) (s : State) (h : Memory.wf s.mem = true) : Out.Wf (execEthRxFrame port frame s) := by
  unfold execEthRxFrame
  dsimp only
  (repeat' split) <;> simp [h]

@[simp] theorem execRxDescriptorRetry_wf (port ring : Nat) (s : State) (h : Memory.wf s.mem = true) : Out.Wf (execRxDescriptorRetry port ring s) := by
  unfold execRxDescriptorRetry
  split <;> simp [h]

@[simp] theorem execDescriptorWaitExpiry_wf (port ring : Nat) (s : State) (h : Memory.wf s.mem = true) :
    Out.Wf (execDescriptorWaitExpiry port ring s) := by
  refine (Out.wf_next _).2 ?_
  split
  · exact State.ite_wf (State.takeInbox_wf _ _ (State.rxAll_wf _ _ (by simp [h]))) h
  · exact h

@[simp] theorem execEthRxKick_wf (who : Initiator) (port ring : Nat) (s : State) (h : Memory.wf s.mem = true) :
    Out.Wf (execEthRxKick who port ring s) := by
  have hact : KeepsWf fun t => (t.rxAll port).takeInbox port := fun t ht => State.takeInbox_wf _ _ (State.rxAll_wf _ _ ht)
  have := State.toBlock_wf s who (rxBase port ring + 8) _ h hact
  unfold execEthRxKick
  split
  · simp [h]
  · exact (Out.wf_next _).2 this

/-! ### Transmit queues (R744 to R747) -/

@[simp] theorem State.txSent_mem (s : State) (port queue : Nat) (octets : Bytes) : (State.txSent s port queue octets).mem = s.mem := rfl

@[simp] theorem execEthTxDone_wf (port queue : Nat) (s : State) (h : Memory.wf s.mem = true) : Out.Wf (execEthTxDone port queue s) := by
  unfold execEthTxDone
  (repeat' split) <;> simp [h]

@[simp] theorem execEthTxKick_wf (who : Initiator) (port queue : Nat) (s : State) (h : Memory.wf s.mem = true) :
    Out.Wf (execEthTxKick who port queue s) := by
  simp +contextual [execEthTxKick, h]

@[simp] theorem execMacMarkArrival_wf (port : Nat) (s : State) (h : Memory.wf s.mem = true) : Out.Wf (execMacMarkArrival port s) := by
  unfold execMacMarkArrival
  dsimp only
  (repeat' split) <;> simp [h]

/-! ### MDIO and the link (R727, R728) -/

@[simp] theorem State.mdioGo_mem (s : State) (port : Nat) (v : Word) : (State.mdioGo s port v).mem = s.mem := rfl

@[simp] theorem execMdioCommand_wf (who : Initiator) (port : Nat) (value : Word) (s : State) (h : Memory.wf s.mem = true) :
    Out.Wf (execMdioCommand who port value s) := by
  simp +contextual [execMdioCommand, h]

@[simp] theorem execMdioDone_wf (port : Nat) (data : BitVec 16) (s : State) (h : Memory.wf s.mem = true) :
    Out.Wf (execMdioDone port data s) := by simp [execMdioDone, h]

@[simp] theorem State.linkDown_wf (s : State) (port : Nat) (h : Memory.wf s.mem = true) :
    Memory.wf (State.linkDown s port).mem = true := by simp [State.linkDown, h]

@[simp] theorem State.linkRises_wf (s : State) (port : Nat) (full : Bool) (speed : Nat) (h : Memory.wf s.mem = true) :
    Memory.wf (State.linkRises s port full speed).mem = true := by simp [State.linkRises, h]

@[simp] theorem execMdioPoll_wf (port : Nat) (linkGood fullDuplex : Bool) (speed : BitVec 2) (s : State) (h : Memory.wf s.mem = true) :
    Out.Wf (execMdioPoll port linkGood fullDuplex speed s) := by simp [execMdioPoll, h]

/-! ### The TIME base (R748, R749) -/

@[simp] theorem State.stepTime_mem (s : State) (ns : Int) : (State.stepTime s ns).mem = s.mem := rfl

@[simp] theorem State.ptpStepGo_mem (s : State) : (State.ptpStepGo s).mem = s.mem := by simp [State.ptpStepGo]

@[simp] theorem execPtpStep_wf (who : Initiator) (s : State) (h : Memory.wf s.mem = true) : Out.Wf (execPtpStep who s) := by
  simp +contextual [execPtpStep, h]

@[simp] theorem execTimeBaseSecond_wf (s : State) (h : Memory.wf s.mem = true) : Out.Wf (execTimeBaseSecond s) := by simp [execTimeBaseSecond, h]

@[simp] theorem State.snapTime_mem (s : State) (who : Initiator) : (State.snapTime s who).mem = s.mem := rfl

@[simp] theorem execPtpTimeSnapshot_wf (who : Initiator) (s : State) (h : Memory.wf s.mem = true) : Out.Wf (execPtpTimeSnapshot who s) := by
  simp +contextual [execPtpTimeSnapshot, h]

/-! ### ARP and ICMP (R733) -/

@[simp] theorem State.sendNet_mem (s : State) (l : List NetTx) : (State.sendNet s l).mem = s.mem := by simp [State.sendNet]

@[simp] theorem execArpRequest_wf (port srcMac srcIp targetIp : Nat) (s : State) (h : Memory.wf s.mem = true) :
    Out.Wf (execArpRequest port srcMac srcIp targetIp s) := by simp [execArpRequest, h]

@[simp] theorem execIcmpEchoRequest_wf (port srcMac srcIp dstIp echo : Nat) (data : Bytes) (s : State) (h : Memory.wf s.mem = true) :
    Out.Wf (execIcmpEchoRequest port srcMac srcIp dstIp echo data s) := by simp [execIcmpEchoRequest, h]

/-! ### PTP (R751 to R753) -/

@[simp] theorem State.setPtp_mem (s : State) (port : Nat) (p : PtpPort) : (State.setPtp s port p).mem = s.mem := rfl

@[simp] theorem execPtpAnnounce_wf (port : Nat) (m : PtpMsg) (s : State) (h : Memory.wf s.mem = true) :
    Out.Wf (execPtpAnnounce port m s) := by simp [execPtpAnnounce, h]

@[simp] theorem State.syncDone_mem (s : State) (port : Nat) (rx tx corr : Int) :
    (State.syncDone s port rx tx corr).mem = s.mem := by simp [State.syncDone]

@[simp] theorem execPtpSync_wf (port : Nat) (m : PtpMsg) (s : State) (h : Memory.wf s.mem = true) :
    Out.Wf (execPtpSync port m s) := by simp [execPtpSync, h]

@[simp] theorem execPtpFollowUp_wf (port : Nat) (m : PtpMsg) (s : State) (h : Memory.wf s.mem = true) : Out.Wf (execPtpFollowUp port m s) := by
  unfold execPtpFollowUp
  dsimp only
  (repeat' split) <;> simp [h]

@[simp] theorem execPtpDelayReq_wf (port : Nat) (m : PtpMsg) (s : State) (h : Memory.wf s.mem = true) :
    Out.Wf (execPtpDelayReq port m s) := by simp [execPtpDelayReq, h]

@[simp] theorem execPtpDelayResp_wf (port : Nat) (m : PtpMsg) (s : State) (h : Memory.wf s.mem = true) : Out.Wf (execPtpDelayResp port m s) := by
  unfold execPtpDelayResp
  dsimp only
  (repeat' split) <;> simp [h]

@[simp] theorem execPtpAnnounceReceiptTimeout_wf (port : Nat) (s : State) (h : Memory.wf s.mem = true) :
    Out.Wf (execPtpAnnounceReceiptTimeout port s) := by simp [execPtpAnnounceReceiptTimeout, h]

@[simp] theorem execPtpMessageInterval_wf (port kind : Nat) (s : State) (h : Memory.wf s.mem = true) :
    Out.Wf (execPtpMessageInterval port kind s) := by simp [execPtpMessageInterval, h]

/-! ### ANNOUNCE (R163, R380, R381) -/

@[simp] theorem State.announceAll_mem (s : State) : (State.announceAll s).mem = s.mem := by simp [State.announceAll]

@[simp] theorem execAnnounce_wf (s : State) (h : Memory.wf s.mem = true) : Out.Wf (execAnnounce s) := by simp [execAnnounce, h]

/-! ### Clocks (R115 to R132, Table CLK-6) -/

@[simp] theorem State.clkStatus_mem (s : State) (code : Nat) (b : Bool) : (State.clkStatus s code b).mem = s.mem := by
  unfold State.clkStatus
  split <;> simp

@[simp] theorem State.rxCut_wf (s : State) (port : Nat) (h : Memory.wf s.mem = true) : Memory.wf (State.rxCut s port).mem = true := by
  unfold State.rxCut
  split <;> simp [h]

@[simp] theorem State.clockConsequence_wf (s : State) (code : Nat) (h : Memory.wf s.mem = true) :
    Memory.wf (State.clockConsequence s code).mem = true := by
  unfold State.clockConsequence
  split <;> simp [h]

@[simp] theorem State.declareLost_mem (s : State) (clock : Nat) : (State.declareLost s clock).mem = s.mem := by simp [State.declareLost]

@[simp] theorem execClockLost_wf (clocks : List Nat) (s : State) (h : Memory.wf s.mem = true) : Out.Wf (execClockLost clocks s) := by
  unfold execClockLost
  extract_lets l t
  have ht : Memory.wf t.mem = true := by simp [t, h]
  clear_value t
  exact (Out.wf_next _).2 (State.ite_wf (State.escalate_wf _ ht) (foldl_wf _ _ _ (fun u c hu => State.clockConsequence_wf _ _ hu) ht))

@[simp] theorem State.emptyBoundary_mem (s : State) (code : Nat) : (State.emptyBoundary s code).mem = s.mem := by
  unfold State.emptyBoundary
  split <;> simp

@[simp] theorem State.clockGood_mem (s : State) (code : Nat) : (State.clockGood s code).mem = s.mem := by simp [State.clockGood]

@[simp] theorem execClockGood_wf (clock : Nat) (s : State) (h : Memory.wf s.mem = true) : Out.Wf (execClockGood clock s) := by simp [execClockGood, h]

@[simp] theorem execPllLock_wf (pll : Nat) (s : State) (h : Memory.wf s.mem = true) : Out.Wf (execPllLock pll s) := by
  unfold execPllLock
  split <;> simp [h]

@[simp] theorem execTimeFreqCheck_wf (ppm : BitVec 16) (s : State) (h : Memory.wf s.mem = true) :
    Out.Wf (execTimeFreqCheck ppm s) := by simp [execTimeFreqCheck, h]

@[simp] theorem execTimeHoldoverEntry_wf (s : State) (h : Memory.wf s.mem = true) :
    Out.Wf (execTimeHoldoverEntry s) := by simp [execTimeHoldoverEntry, h]

@[simp] theorem execTimeHoldoverExit_wf (s : State) (h : Memory.wf s.mem = true) :
    Out.Wf (execTimeHoldoverExit s) := by simp [execTimeHoldoverExit, h]

@[simp] theorem execArrHalfWrite_wf (who : Initiator) (half : Bool) (s : State) (h : Memory.wf s.mem = true) :
    Out.Wf (execArrHalfWrite who half s) := by
  simp +contextual [execArrHalfWrite, h]

@[simp] theorem execArrHalfChange_wf (s : State) (h : Memory.wf s.mem = true) : Out.Wf (execArrHalfChange s) := by simp [execArrHalfChange, h]

/-! ### Power-on reset (R72, R82, R136) -/

@[simp] theorem State.aonLost_mem (s : State) : (State.aonLost s).mem = s.mem := rfl

@[simp] theorem State.vbatEntry_mem (s : State) : (State.vbatEntry s).mem = s.mem := by simp [State.vbatEntry]

@[simp] theorem execPorRelease_wf (vbatGood : Bool) (s : State) (h : Memory.wf s.mem = true) :
    Out.Wf (execPorRelease vbatGood s) := by simp [execPorRelease, h]

/-! ### The boot ROM (Table BOT-3) -/

@[simp] theorem State.startWdt_mem (s : State) : (State.startWdt s).mem = s.mem := rfl

@[simp] theorem execInternalResetRelease_wf (bootMode : BitVec 2) (testN : Bool) (s : State) (h : Memory.wf s.mem = true) :
    Out.Wf (execInternalResetRelease bootMode testN s) := by simp [execInternalResetRelease, h]

/-! ### Image slots (R148 to R153) -/

@[simp] theorem State.setSlotResult_mem (s : State) (slot code : Nat) : (State.setSlotResult s slot code).mem = s.mem := rfl

@[simp] theorem execFlashHeaderRetry_wf (slot : Nat) (retryFailed : Bool) (s : State) (h : Memory.wf s.mem = true) :
    Out.Wf (execFlashHeaderRetry slot retryFailed s) := by simp [execFlashHeaderRetry, h]

/-! ### The configuration record (R729, R735, R789) -/

@[simp] theorem State.layRing_wf (s : State) (port r off size buf : Nat) (h : Memory.wf s.mem = true) :
    Memory.wf (State.layRing s port r off size buf).1.mem = true := by
  simp +contextual [State.layRing, h]

@[simp] theorem State.layRings_wf (s : State) (port : Nat) (r : Option Bytes) (h : Memory.wf s.mem = true) :
    Memory.wf (State.layRings s port r).mem = true := by
  unfold State.layRings
  refine List.foldlRecOn (motive := fun x : State × Nat => Memory.wf x.1.mem = true) _ _ h fun x hx y _ => ?_
  simp [hx]

@[simp] theorem State.setUpPort_wf (s : State) (port : Nat) (r : Option Bytes) (h : Memory.wf s.mem = true) :
    Memory.wf (State.setUpPort s port r).mem = true := by
  unfold State.setUpPort
  dsimp only
  rw [State.monitor_mem, State.setRbit_mem, State.setRbit_mem]
  refine State.layRings_wf _ _ _ ?_
  split <;> simp [h]

@[simp] theorem State.oneSlave_mem (s : State) : (State.oneSlave s).mem = s.mem := by simp [State.oneSlave]

@[simp] theorem State.restore_mem (s : State) : (State.restore s).mem = s.mem := rfl

@[simp] theorem State.restoreJournal_mem (s : State) : (State.restoreJournal s).mem = s.mem := by
  unfold State.restoreJournal
  dsimp only
  (repeat' split) <;> simp

@[simp] theorem State.startFirmware_wf (s : State) (h : Memory.wf s.mem = true) : Memory.wf (State.startFirmware s).mem = true := by
  unfold State.startFirmware
  dsimp only
  rw [State.setRbit_mem, State.restoreJournal_mem, State.restore_mem, State.oneSlave_mem]
  refine State.setUpPort_wf _ _ _ (State.setUpPort_wf _ _ _ ?_)
  split <;> exact h

/-! ### Handover (R146, R151 to R153) -/

@[simp] theorem State.bootPatch_mem (s : State) : (State.bootPatch s).mem = s.mem := by simp [State.bootPatch]

@[simp] theorem State.placeBody_wf (s : State) (img : Bytes) (h : Memory.wf s.mem = true) : Memory.wf (State.placeBody s img).mem = true := by
  simp +contextual [State.placeBody, h]

@[simp] theorem State.rejected_wf (s : State) (img : Bytes) (code : Nat) (h : Memory.wf s.mem = true) :
    Memory.wf (State.rejected s img code).mem = true := by simp [State.rejected, h]

@[simp] theorem State.handOver_wf (s : State) (img : Bytes) (used : Nat) (h : Memory.wf s.mem = true) :
    Memory.wf (State.handOver s img used).mem = true := by
  unfold State.handOver
  extract_lets t u src v
  have hu : Memory.wf u.mem = true := by simp [u, t, h]
  have hv : Memory.wf v.mem = true := hu
  clear_value v
  split
  · exact hv
  · simp [hv]

@[simp] theorem State.noImage_wf (s : State) (h : Memory.wf s.mem = true) : Memory.wf (State.noImage s).mem = true := by simp [State.noImage, h]

@[simp] theorem State.recordSlots_mem (s : State) : (State.recordSlots s).mem = s.mem := by simp [State.recordSlots]

@[simp] theorem State.countTry_mem (s : State) (slot : Nat) : (State.countTry s slot).mem = s.mem := rfl

@[simp] theorem execBootImageChecked_wf (slot : Nat) (s : State) (h : Memory.wf s.mem = true) : Out.Wf (execBootImageChecked slot s) := by
  refine (Out.wf_next _).2 (State.ite_wf h ?_)
  have ht : Memory.wf s.recordSlots.mem = true := by simp [h]
  dsimp only
  split
  · exact State.noImage_wf _ ht
  next c rest _ =>
  have hgood : ∀ img : Bytes, Memory.wf
      (((rest.foldl (fun (u : State) i => u.setSlotResult i 13) (s.recordSlots.setSlotResult c 1)).countTry c).handOver img c).mem = true :=
    fun img => State.handOver_wf _ _ _ (by simp [h])
  have hbad : ∀ (img : Bytes) (r : Nat), Memory.wf ((s.recordSlots.setSlotResult c r).rejected img r).mem = true :=
    fun img r => State.rejected_wf _ _ _ (by simp [h])
  split
  · exact h
  split
  · exact hgood _
  split
  · exact State.noImage_wf _ (State.setBoot_wf _ _ (hbad _ _))
  · exact State.setBoot_wf _ _ (hbad _ _)

/-! ### Load chunks (R770, R771) -/

@[simp] theorem State.bootReport_mem (s : State) (ep : Endpoint) (r : Nat) : (State.bootReport s ep r).mem = s.mem := by
  unfold State.bootReport
  split <;> simp

@[simp] theorem State.loadChunk_wf (s : State) (ep : Endpoint) (offset total : Nat) (data : Bytes) (h : Memory.wf s.mem = true) :
    Memory.wf (State.loadChunk s ep offset total data).mem = true := by
  unfold State.loadChunk
  extract_lets right
  clear_value right
  split
  · exact h
  split
  · split
    · simp [h]
    · exact h
  split
  split
  · rw [State.bootReport_mem]
    exact h
  split
  · rw [State.bootReport_mem]
    exact State.handOver_wf _ _ _ h
  · rw [State.bootReport_mem]
    exact State.rejected_wf _ _ _ h

@[simp] theorem execLoadChunk_wf (ep : Endpoint) (offset total : Nat) (data : Bytes) (s : State) (h : Memory.wf s.mem = true) :
    Out.Wf (execLoadChunk ep offset total data s) := by simp [execLoadChunk, h]

@[simp] theorem State.loadUnit_wf (s : State) (ep : Endpoint) (unit : Bytes) (h : Memory.wf s.mem = true) :
    Memory.wf (State.loadUnit s ep unit).mem = true := by simp [State.loadUnit, h]

@[simp] theorem execPcieReqDoorbell_wf (pair : Nat) (buffer : Bytes) (count : Nat) (oneDword : Bool) (s : State) (h : Memory.wf s.mem = true) :
    Out.Wf (execPcieReqDoorbell pair buffer count oneDword s) := by
  simp +contextual [execPcieReqDoorbell, h]

@[simp] theorem execHspiWritePacket_wf (command : Word) (clocked : Bytes) (s : State) (h : Memory.wf s.mem = true) :
    Out.Wf (execHspiWritePacket command clocked s) := by simp [execHspiWritePacket, h]

/-! ### The Plain self-test (R155 to R157) -/

@[simp] theorem execPlainSelfTestDone_wf (failed : BitVec 16) (s : State) (h : Memory.wf s.mem = true) :
    Out.Wf (execPlainSelfTestDone failed s) := by simp [execPlainSelfTestDone, h]

/-! ### Harbour Open (R163, R97, R411, R773 and R813) -/

@[simp] theorem State.openPorts_mem (s : State) : (State.openPorts s).mem = s.mem := by simp [State.openPorts]

@[simp] theorem State.bootFabric_mem (s : State) : (State.bootFabric s).mem = s.mem := by
  unfold State.bootFabric
  split <;> simp

@[simp] theorem State.bootDone_mem (s : State) : (State.bootDone s).mem = s.mem := by simp [State.bootDone]

@[simp] theorem State.newEpoch_mem (s : State) : (State.newEpoch s).mem = s.mem := rfl

@[simp] theorem State.reportConfig_mem (s : State) : (State.reportConfig s).mem = s.mem := by simp [State.reportConfig]

@[simp] theorem execHarbourOpen_wf (s : State) (h : Memory.wf s.mem = true) : Out.Wf (execHarbourOpen s) := by simp [execHarbourOpen, h]

/-! ### The supply warning (R83 to R93) -/

@[simp] theorem execWarningAssert_wf (sense io33 : Bool) (s : State) (h : Memory.wf s.mem = true) :
    Out.Wf (execWarningAssert sense io33 s) := by simp [execWarningAssert, h]

@[simp] theorem State.brace_mem (s : State) (on : Bool) : (State.brace s on).mem = s.mem := by simp [State.brace]

@[simp] theorem State.tellSupply_mem (s : State) (warn : Bool) (mon : Nat) : (State.tellSupply s warn mon).mem = s.mem := by simp [State.tellSupply]

@[simp] theorem execWarningIrq_wf (s : State) (h : Memory.wf s.mem = true) : Out.Wf (execWarningIrq s) := by simp [execWarningIrq, h]

@[simp] theorem execWarningRecoveryStart_wf (s : State) (h : Memory.wf s.mem = true) :
    Out.Wf (execWarningRecoveryStart s) := by simp [execWarningRecoveryStart, h]

@[simp] theorem execWarningClear_wf (s : State) (h : Memory.wf s.mem = true) : Out.Wf (execWarningClear s) := by simp [execWarningClear, h]

end Sys2Proof.Machine
end

section
/-! SUPPORT. The Basin memory under the operations from "Sag resets, monitors, the AON supply" to "Endpoints". -/

namespace Sys2Proof.Machine

/-! ### Sag resets, monitors, the AON supply (R79 to R81, R84, R85, R94, R95) -/

@[simp] theorem execSagReset_wf (io33 core plain : Bool) (also : List Nat) (s : State) (h : Memory.wf s.mem = true) :
    Out.Wf (execSagReset io33 core plain also s) := by simp [execSagReset, h]

@[simp] theorem execSagResetRelease_wf (s : State) (h : Memory.wf s.mem = true) : Out.Wf (execSagResetRelease s) := by simp [execSagResetRelease, h]

@[simp] theorem execSenseConversion_wf (mv : Nat) (s : State) (h : Memory.wf s.mem = true) :
    Out.Wf (execSenseConversion mv s) := by simp [execSenseConversion, h]

@[simp] theorem execSupmonCrossing_wf (monitor : Nat) (low : Bool) (s : State) (h : Memory.wf s.mem = true) :
    Out.Wf (execSupmonCrossing monitor low s) := by simp [execSupmonCrossing, h]

@[simp] theorem execVbatLow_wf (s : State) (h : Memory.wf s.mem = true) : Out.Wf (execVbatLow s) := by simp [execVbatLow, h]

@[simp] theorem execVbatRecovered_wf (s : State) (h : Memory.wf s.mem = true) : Out.Wf (execVbatRecovered s) := by simp [execVbatRecovered, h]

@[simp] theorem execAonSupplySwitch_wf (onVbat : Bool) (s : State) (h : Memory.wf s.mem = true) :
    Out.Wf (execAonSupplySwitch onVbat s) := by simp [execAonSupplySwitch, h]

/-! ### The end of a domain reset (Table FLT-4, step 6) -/

@[simp] theorem State.rebuildPort_wf (s : State) (port : Nat) (h : Memory.wf s.mem = true) : Memory.wf (State.rebuildPort s port).mem = true := by
  unfold State.rebuildPort
  refine State.ite_wf h ((congrArg Memory.wf (foldl_mem _ _ _ fun u r => State.ringStop_mem ..)).trans ?_)
  rw [State.setMac_mem]
  exact State.layRings_wf _ _ _ h

@[simp] theorem execDomainResetRelease_wf (domain : Nat) (s : State) (h : Memory.wf s.mem = true) :
    Out.Wf (execDomainResetRelease domain s) := by simp [execDomainResetRelease, h]

/-! ### WATCH_MARK (R13, R21, R22, R112) -/

@[simp] theorem State.beginCycle_mem (s : State) (m : Nat) : (State.beginCycle s m).mem = s.mem := rfl

@[simp] theorem State.loadMark_mem (s : State) (m : Nat) : (State.loadMark s m).mem = s.mem := rfl

@[simp] theorem execWatchMark_wf (s : State) (h : Memory.wf s.mem = true) : Out.Wf (execWatchMark s) := by
  unfold execWatchMark
  (repeat' split) <;> simp [h]

/-! ### WATCH_MARK_IRQ (R22, R26, R410, R773, R805, Table STN-5) -/

@[simp] theorem State.moorBuiltIns_mem (s : State) : (State.moorBuiltIns s).mem = s.mem := by simp [State.moorBuiltIns]

@[simp] theorem State.issueWrites_mem (s : State) (id k : Nat) : (State.issueWrites s id k).mem = s.mem := by simp [State.issueWrites]

@[simp] theorem State.markVirtual_mem (s : State) (v : Nat) : (State.markVirtual s v).mem = s.mem := by
  unfold State.markVirtual
  (repeat' split) <;> simp

@[simp] theorem State.markBuiltIns_mem (s : State) : (State.markBuiltIns s).mem = s.mem := by
  unfold State.markBuiltIns
  refine (foldl_mem _ _ _ fun u v => State.markVirtual_mem _ _).trans ((foldl_mem _ _ _ fun t i => ?_).trans (foldl_mem _ _ _ fun t i => ?_))
  · dsimp only
    split <;> simp
  · dsimp only
    (repeat' split) <;> simp

@[simp] theorem State.takeOver_mem (s : State) (d : PeerDevice) : (State.takeOver s d).mem = s.mem := by simp [State.takeOver]

@[simp] theorem State.standbyCheck_mem (s : State) : (State.standbyCheck s).mem = s.mem := by
  unfold State.standbyCheck
  split <;> simp

@[simp] theorem State.finishStop_mem (s : State) : (State.finishStop s).mem = s.mem := by
  unfold State.finishStop
  refine (State.setChanges_mem _ _).trans ((foldl_mem _ _ _ fun u p => ?_).trans ((State.setWcTl_mem _ _ _).trans (State.brace_mem s true)))
  dsimp only
  split <;> simp

@[simp] theorem State.takeBoundary_mem (s : State) : (State.takeBoundary s).mem = s.mem := rfl

@[simp] theorem State.writeSetpoints_wf (s : State) (h : Memory.wf s.mem = true) : Memory.wf (State.writeSetpoints s).mem = true := by
  simp +contextual [State.writeSetpoints, h]

@[simp] theorem execWatchMarkIrq_wf (s : State) (h : Memory.wf s.mem = true) : Out.Wf (execWatchMarkIrq s) := by simp [execWatchMarkIrq, h]

/-! ### JOIN and admission (R165, R166, R382, R383, R420) -/

@[simp] theorem State.sendWait_mem (s : State) (port mac id pos reason : Nat) :
    (State.sendWait s port mac id pos reason).mem = s.mem := by simp [State.sendWait]

@[simp] theorem State.lostByMac_mem (s : State) (mac : Nat) : (State.lostByMac s mac).mem = s.mem := by simp [State.lostByMac]

@[simp] theorem State.tlDiscard_mem (s : State) (port : Nat) : (State.tlDiscard s port).mem = s.mem := rfl

@[simp] theorem State.forgetJoin_mem (s : State) (id : Nat) : (State.forgetJoin s id).mem = s.mem := by
  unfold State.forgetJoin
  dsimp only
  (repeat' split) <;> simp

@[simp] theorem State.handleJoin_mem (s : State) (f : TlFrame) : (State.handleJoin s f).mem = s.mem := by simp [State.handleJoin]

@[simp] theorem execJoin_wf (f : TlFrame) (s : State) (h : Memory.wf s.mem = true) : Out.Wf (execJoin f s) := by simp [execJoin, h]

@[simp] theorem execJoinForget_wf (station : Nat) (s : State) (h : Memory.wf s.mem = true) :
    Out.Wf (execJoinForget station s) := by simp [execJoinForget, h]

@[simp] theorem State.sendConfig_mem (s : State) (id : Nat) : (State.sendConfig s id).mem = s.mem := by simp [State.sendConfig]

@[simp] theorem State.admitJoin_mem (s : State) (id : Nat) (j : PendingJoin) : (State.admitJoin s id j).mem = s.mem := by simp [State.admitJoin]

@[simp] theorem State.roundOne_mem (s : State) (n id : Nat) (j : PendingJoin) : (State.roundOne s n id j).1.mem = s.mem := by
  unfold State.roundOne
  dsimp only
  (repeat' split) <;> simp

@[simp] theorem execAdmissionRound_wf (s : State) (h : Memory.wf s.mem = true) : Out.Wf (execAdmissionRound s) := by
  refine (Out.wf_next _).2 (State.ite_wf h ?_)
  refine List.foldlRecOn (motive := fun x : State × Nat => Memory.wf x.1.mem = true) _ _ h fun x hx p _ => ?_
  rw [State.roundOne_mem]
  exact hx

/-! ### CONFIG and CONFIG_ACK (R384 to R387) -/

@[simp] theorem State.tellAll_mem (s : State) (l : List (Option Notify)) (status : Nat) :
    (State.tellAll s l status).mem = s.mem := by simp [State.tellAll]

@[simp] theorem State.tellFallback_mem (s : State) (id status : Nat) : (State.tellFallback s id status).mem = s.mem := by simp [State.tellFallback]

@[simp] theorem State.tellWaiting_mem (s : State) (id status : Nat) : (State.tellWaiting s id status).mem = s.mem := by simp [State.tellWaiting]

@[simp] theorem State.configFails_mem (s : State) (id result : Nat) : (State.configFails s id result).mem = s.mem := by simp [State.configFails]

@[simp] theorem State.fallbackFails_mem (s : State) (id status : Nat) : (State.fallbackFails s id status).mem = s.mem := by simp [State.fallbackFails]

@[simp] theorem execConfigResend_wf (station : Nat) (s : State) (h : Memory.wf s.mem = true) :
    Out.Wf (execConfigResend station s) := by simp [execConfigResend, h]

@[simp] theorem State.moorStation_mem (s : State) (id : Nat) : (State.moorStation s id).mem = s.mem := by simp [State.moorStation]

@[simp] theorem State.newFallback_mem (s : State) (id : Nat) : (State.newFallback s id).mem = s.mem := by simp [State.newFallback]

@[simp] theorem State.handleAck_mem (s : State) (id result : Nat) : (State.handleAck s id result).mem = s.mem := by simp [State.handleAck]

@[simp] theorem State.lateAck_mem (s : State) (id seq result : Nat) : (State.lateAck s id seq result).mem = s.mem := by
  unfold State.lateAck
  dsimp only
  (repeat' split) <;> simp

@[simp] theorem execConfigAck_wf (f : TlFrame) (s : State) (h : Memory.wf s.mem = true) : Out.Wf (execConfigAck f s) := by simp [execConfigAck, h]

/-! ### INPUT (R377, R379, R414, R416, R417) -/

@[simp] theorem State.takeInput_mem (s : State) (f : TlFrame) : (State.takeInput s f).mem = s.mem := by simp [State.takeInput]

@[simp] theorem State.keepInput_mem (s : State) (f : TlFrame) : (State.keepInput s f).mem = s.mem := by
  unfold State.keepInput
  split <;> simp

@[simp] theorem State.releaseInputs_wf (s : State) (h : Memory.wf s.mem = true) : Memory.wf (State.releaseInputs s).mem = true := by
  unfold State.releaseInputs
  refine foldl_wf _ _ _ (fun t x ht => State.ite_wf ?_ ht) h
  exact foldl_wf _ _ _ (fun u d hu => State.handBack_wf _ _ _ _ hu) (by rwa [State.setStation_mem])

@[simp] theorem execInput_wf (f : TlFrame) (s : State) (h : Memory.wf s.mem = true) : Out.Wf (execInput f s) := by simp [execInput, h]

/-! ### The gather deadline (R394, R395, R423, R568, R772, R774, R793, R806) -/

@[simp] theorem State.miss_mem (s : State) (id : Nat) : (State.miss s id).mem = s.mem := by simp [State.miss]

@[simp] theorem State.confirm_mem (s : State) (id : Nat) : (State.confirm s id).mem = s.mem := by simp [State.confirm]

@[simp] theorem State.gatherPoints_mem (s : State) (id : Nat) : (State.gatherPoints s id).mem = s.mem := by simp [State.gatherPoints]

@[simp] theorem State.gatherNetwork_mem (s : State) (id : Nat) : (State.gatherNetwork s id).mem = s.mem := by simp [State.gatherNetwork]

@[simp] theorem State.swapImage_wf (s : State) (id : Nat) (h : Memory.wf s.mem = true) : Memory.wf (State.swapImage s id).mem = true := by
  simp +contextual [State.swapImage, h]

@[simp] theorem State.takeBlock_wf (s : State) (id : Nat) (c : Bytes) (h : Memory.wf s.mem = true) :
    Memory.wf (State.takeBlock s id c).mem = true := by
  simp +contextual [State.takeBlock, h]

@[simp] theorem State.gatherPort_mem (s : State) (id : Nat) : (State.gatherPort s id).mem = s.mem := by
  unfold State.gatherPort
  dsimp only
  (repeat' split) <;> simp

@[simp] theorem State.gatherVirtual_mem (s : State) (v : Nat) : (State.gatherVirtual s v).mem = s.mem := by
  unfold State.gatherVirtual
  dsimp only
  (repeat' split) <;> simp

@[simp] theorem State.gatherBuiltIn_wf (s : State) (id : Nat) (h : Memory.wf s.mem = true) : Memory.wf (State.gatherBuiltIn s id).mem = true := by
  unfold State.gatherBuiltIn
  dsimp only
  (repeat' split) <;> simp [h]

@[simp] theorem State.openWindow_mem (s : State) : (State.openWindow s).mem = s.mem := rfl

@[simp] theorem execGatherDeadline_wf (s : State) (h : Memory.wf s.mem = true) : Out.Wf (execGatherDeadline s) := by
  refine (Out.wf_next _).2 (State.ite_wf h ?_)
  extract_lets ids t u v
  have hu : Memory.wf u.mem = true := foldl_wf _ _ _ (fun u i hu => State.gatherBuiltIn_wf _ _ hu) (by simp [t, h])
  have hv : Memory.wf v.mem = true := State.ite_wf (by rwa [State.unfence_mem]) hu
  rw [State.openWindow_mem]
  exact hv

/-! ### Two devices on one network (R407 to R411) -/

@[simp] theorem State.loseAll_mem (s : State) : (State.loseAll s).mem = s.mem := by simp [State.loseAll]

@[simp] theorem State.yieldClaim_mem (s : State) (epoch : Nat) : (State.yieldClaim s epoch).mem = s.mem := by simp [State.yieldClaim]

@[simp] theorem State.hearPeer_mem (s : State) (p : PeerDevice) : (State.hearPeer s p).mem = s.mem := rfl

@[simp] theorem execAnnounceReceived_wf (f : TlFrame) (s : State) (h : Memory.wf s.mem = true) :
    Out.Wf (execAnnounceReceived f s) := by simp [execAnnounceReceived, h]

@[simp] theorem execCommitReceived_wf (f : TlFrame) (s : State) (h : Memory.wf s.mem = true) : Out.Wf (execCommitReceived f s) := by
  unfold execCommitReceived
  dsimp only
  (repeat' split) <;> simp [h]

/-! ### The channels (R340 to R371) -/

@[simp] theorem State.withPrograms_mem (s : State) (l : List Change) : (State.withPrograms s l).mem = s.mem := by
  unfold State.withPrograms
  refine foldl_mem _ _ _ fun t c => ?_
  split
  · exact State.replaceProgram_mem ..
  · rfl

@[simp] theorem State.putResult_mem (s : State) (e : Env) (slot : Nat) (c d : Channel) :
    (State.putResult s e slot c d).mem = s.mem := by simp [State.putResult]

@[simp] theorem State.computeCycle_wf (s : State) (h : Memory.wf s.mem = true) :
    Memory.wf (State.computeCycle s).mem = true := by simp [State.computeCycle, h]

/-! ### Uncorrectable errors (R368, R484, Table PLN-5) -/

@[simp] theorem State.faultSlot_mem (s : State) (slot : Nat) : (State.faultSlot s slot).mem = s.mem := by
  unfold State.faultSlot
  split <;> simp

@[simp] theorem State.faultHydro_mem (s : State) (g : Nat) : (State.faultHydro s g).mem = s.mem := by simp [State.faultHydro]

@[simp] theorem State.ueAct_mem (s : State) (g : Nat) : (State.ueAct s g).mem = s.mem := by simp [State.ueAct]

@[simp] theorem State.ueHandle_mem (s : State) : (State.ueHandle s).mem = s.mem := by simp [State.ueHandle]

/-! ### Outputs (R340, R389, R575) -/

@[simp] theorem State.setOutputs_mem (s : State) (tab : Store Channel) : (State.setOutputs s tab).mem = s.mem := rfl

@[simp] theorem State.writeOutImages_wf (s : State) (h : Memory.wf s.mem = true) : Memory.wf (State.writeOutImages s).mem = true := by
  simp +contextual [State.writeOutImages, h]

/-! ### COMMIT (R24, R389, R773) -/

@[simp] theorem State.sendOutputs_mem (s : State) (l : List Nat) : (State.sendOutputs s l).mem = s.mem := by simp [State.sendOutputs]

@[simp] theorem State.commitFrames_mem (s : State) (due : List Nat) : (State.commitFrames s due).mem = s.mem := by simp [State.commitFrames]

@[simp] theorem State.noteCommit_mem (s : State) (due : List Nat) : (State.noteCommit s due).mem = s.mem := rfl

@[simp] theorem State.flip_wf (s : State) (h : Memory.wf s.mem = true) : Memory.wf (State.flip s).mem = true := by
  simp +contextual [State.flip, h]

@[simp] theorem State.keepImages_mem (s : State) : (State.keepImages s).mem = s.mem := rfl

@[simp] theorem State.consume_mem (s : State) (p : Pending) : (State.consume s p).mem = s.mem := by
  unfold State.consume
  (repeat' split) <;> simp

@[simp] theorem State.hydroFaults_mem (s : State) (pub : Bool) : (State.hydroFaults s pub).mem = s.mem := by
  unfold State.hydroFaults
  split <;> simp

@[simp] theorem State.commitCycle_wf (s : State) (h : Memory.wf s.mem = true) :
    Memory.wf (State.commitCycle s).mem = true := by simp [State.commitCycle, h]

@[simp] theorem execCommitFlip_wf (s : State) (h : Memory.wf s.mem = true) : Out.Wf (execCommitFlip s) := by simp [execCommitFlip, h]

@[simp] theorem State.lateOutputs_mem (s : State) : (State.lateOutputs s).mem = s.mem := by simp [State.lateOutputs]

@[simp] theorem execCommitDeadline_wf (s : State) (h : Memory.wf s.mem = true) : Out.Wf (execCommitDeadline s) := by simp [execCommitDeadline, h]

/-! ### A cycle that the Pilot abandoned (R481, R519) -/

@[simp] theorem State.mismatch_mem (s : State) (forVec pair : Nat) : (State.mismatch s forVec pair).mem = s.mem := by simp [State.mismatch]

@[simp] theorem State.mismatches_mem (s : State) : (State.mismatches s).mem = s.mem := by simp [State.mismatches]

@[simp] theorem execCycleAbandoned_wf (s : State) (h : Memory.wf s.mem = true) : Out.Wf (execCycleAbandoned s) := by simp [execCycleAbandoned, h]

/-! ### Descriptors (R573 to R577) -/

@[simp] theorem State.wakePass_mem (s : State) (ptr : Nat) : (State.wakePass s ptr).mem = s.mem := by simp [State.wakePass]

@[simp] theorem State.quayFault_mem (s : State) (e : QuayFault) : (State.quayFault s e).mem = s.mem := by simp [State.quayFault]

@[simp] theorem State.quayTime_mem (s : State) (a : Nat) : (State.quayTime s a).mem = s.mem := rfl

/-! ### LOAD (R564 to R566, R574) -/

@[simp] theorem State.writeStaging_mem (s : State) (f : Nat) (pts : Store (Nat × Byte)) (armed period sp : Nat) :
    (State.writeStaging s f pts armed period sp).mem = s.mem := by simp [State.writeStaging]

theorem State.loadField_mem {s : State} {base entries period sp : Nat} {r : QuayField} {t : State}
    (h : s.loadField base entries period sp r = .ok t) :
    t.mem = s.mem := by
  unfold State.loadField at h
  split at h
  · exact nomatch h
  split at h
  · exact nomatch h
  split at h
  · exact nomatch h
  · rw [← Except.ok.inj h]
    split <;> simp

/-- A step over a field of a Quay pass that leaves the memory as it is. -/
def FieldMem (step : State → QuayField → Except QuayFault State) : Prop := ∀ s r t, step s r = .ok t → t.mem = s.mem

theorem runFields_mem (step : State → QuayField → Except QuayFault State) (l : List QuayField) (s : State) (h : FieldMem step) :
    (runFields step l s).1.mem = s.mem := by
  induction l generalizing s with
  | nil => rfl
  | cons r l ih =>
    unfold runFields
    split
    · rfl
    · next he => exact (ih _).trans (h _ _ _ he)

@[simp] theorem State.loadPass_mem (s : State) : (State.loadPass s).1.mem = s.mem := by
  unfold State.loadPass
  extract_lets ptr b
  split
  · rfl
  split
  · rfl
  split
  · rfl
  · exact runFields_mem _ _ _ fun _ _ _ => State.loadField_mem

/-! ### Mirror pairs (R469, R477 to R482) -/

@[simp] theorem State.loadMirror_mem (s : State) : (State.loadMirror s).mem = s.mem := by
  unfold State.loadMirror
  split <;> simp

/-! ### LD_GO and the end of LOAD (R34, R566, R578, R588) -/

@[simp] theorem State.quayOverrun_mem (s : State) : (State.quayOverrun s).mem = s.mem := rfl

@[simp] theorem State.ldGo_mem (s : State) : (State.ldGo s).mem = s.mem := by simp [State.ldGo]

@[simp] theorem execQuayLdGo_wf (s : State) (h : Memory.wf s.mem = true) : Out.Wf (execQuayLdGo s) := by simp [execQuayLdGo, h]

@[simp] theorem State.quayMbox_mem (s : State) : (State.quayMbox s).mem = s.mem := rfl

@[simp] theorem State.startCompute_wf (s : State) (h : Memory.wf s.mem = true) :
    Memory.wf (State.startCompute s).mem = true := by simp [State.startCompute, h]

@[simp] theorem execLoadDone_wf (s : State) (h : Memory.wf s.mem = true) : Out.Wf (execLoadDone s) := by
  refine (Out.wf_next _).2 (State.ite_wf h ?_)
  extract_lets cyc t
  have ht : Memory.wf t.loadPass.1.mem = true := by
    rw [State.loadPass_mem]
    exact State.ite_wf (by rwa [State.loadMirror_mem]) h
  clear_value t
  split
  · next he =>
    rw [he] at ht
    simpa using ht
  · next he =>
    rw [he] at ht
    split <;> simp [show Memory.wf _ = true from ht]

/-! ### The compare point (R479 to R481) -/

@[simp] theorem State.comparePoint_mem (s : State) : (State.comparePoint s).mem = s.mem := rfl

/-! ### UNLOAD (R575, R576, R586) -/

@[simp] theorem State.unloadEcc_mem (s : State) (f : Nat) : (State.unloadEcc s f).mem = s.mem := by simp [State.unloadEcc]

@[simp] theorem State.quayWrite_wf (s : State) (a : Nat) (b : Bytes) (h : Memory.wf s.mem = true) :
    Memory.wf (State.quayWrite s a b).1.mem = true := by
  simp +contextual [State.quayWrite, h]

theorem State.unloadEntry_wf {s : State} {r : QuayField} {outs i : Nat} {x : State × Bool} (h : Memory.wf s.mem = true)
    (hx : s.unloadEntry r outs i = .ok x) : Memory.wf x.1.mem = true := by
  unfold State.unloadEntry at hx
  dsimp only at hx
  split at hx
  · exact nomatch hx
  split at hx
  · exact nomatch hx
  split at hx
  · exact nomatch hx
  split at hx
  · exact nomatch hx
  split at hx
  · exact nomatch hx
  split at hx
  · exact nomatch hx
  · rw [← Except.ok.inj hx]
    exact State.quayWrite_wf _ _ _ h

theorem unloadEntries_wf {r : QuayField} {outs k i : Nat} {x y : State × Bool} (h : Memory.wf x.1.mem = true)
    (hy : unloadEntries r outs k i x = .ok y) : Memory.wf y.1.mem = true := by
  induction k generalizing i x with
  | zero =>
    rw [← Except.ok.inj hy]
    exact h
  | succ k ih =>
    unfold unloadEntries at hy
    split at hy
    · exact nomatch hy
    · next z he => exact ih (x := (z.1, x.2 || z.2)) (show Memory.wf z.1.mem = true from State.unloadEntry_wf h he) hy

theorem State.unloadField_wf {s : State} {recBase outs cycle : Nat} {r : QuayField} {t : State} (h : Memory.wf s.mem = true)
    (ht : s.unloadField recBase outs cycle r = .ok t) : Memory.wf t.mem = true := by
  unfold State.unloadField at ht
  split at ht
  · exact nomatch ht
  split at ht
  · exact nomatch ht
  dsimp only at ht
  split at ht
  · exact nomatch ht
  next he =>
  rw [← Except.ok.inj ht]
  have hu := unloadEntries_wf (x := (_, _)) (by
    refine List.foldlRecOn (motive := fun x : State × Bool => Memory.wf x.1.mem = true) _ _ ?_ fun x hx b _ => State.quayWrite_wf _ _ _ hx
    exact (congrArg Memory.wf (State.unloadEcc_mem ..)).trans h) he
  refine State.ite_wf ?_ hu
  rwa [State.endCycle_mem]

/-- A step over a field of a Quay pass that keeps the memory canonical. -/
def FieldWf (step : State → QuayField → Except QuayFault State) : Prop :=
  ∀ s r t, Memory.wf s.mem = true → step s r = .ok t → Memory.wf t.mem = true

theorem runFields_wf (step : State → QuayField → Except QuayFault State) (l : List QuayField) (s : State) (h : Memory.wf s.mem = true)
    (hstep : FieldWf step) : Memory.wf (runFields step l s).1.mem = true := by
  induction l generalizing s with
  | nil => exact h
  | cons r l ih =>
    unfold runFields
    split
    · exact h
    · next he => exact ih _ (hstep _ _ _ h he)

@[simp] theorem State.unloadPass_wf (s : State) (h : Memory.wf s.mem = true) : Memory.wf (State.unloadPass s).1.mem = true := by
  unfold State.unloadPass
  extract_lets ptr b
  split
  · exact h
  split
  · exact h
  split
  · exact h
  · exact runFields_wf _ _ _ h fun _ _ _ => State.unloadField_wf

@[simp] theorem State.startUnload_mem (s : State) : (State.startUnload s).mem = s.mem := by simp [State.startUnload]

@[simp] theorem State.ulGo_mem (s : State) : (State.ulGo s).mem = s.mem := by simp [State.ulGo]

@[simp] theorem execQuayUlGo_wf (s : State) (h : Memory.wf s.mem = true) : Out.Wf (execQuayUlGo s) := by simp [execQuayUlGo, h]

@[simp] theorem State.endForeground_mem (s : State) : (State.endForeground s).mem = s.mem := rfl

@[simp] theorem execUnloadDone_wf (s : State) (h : Memory.wf s.mem = true) : Out.Wf (execUnloadDone s) := by
  refine (Out.wf_next _).2 (State.ite_wf h ?_)
  have hp := State.unloadPass_wf s h
  extract_lets cyc
  split
  · next he =>
    rw [he] at hp
    simpa using hp
  · next u he =>
    rw [he] at hp
    extract_lets u' v w src
    have hu : Memory.wf u'.mem = true := by simpa [u'] using hp
    clear_value u'
    have hw : Memory.wf w.mem = true := by simp [w, v, hu]
    clear_value w
    split
    · simp [hu]
    · rw [State.takeSleeps_mem]
      exact hw

@[simp] theorem State.quayAbortGo_mem (s : State) : (State.quayAbortGo s).mem = s.mem := by simp [State.quayAbortGo]

@[simp] theorem execQuayAbort_wf (s : State) (h : Memory.wf s.mem = true) : Out.Wf (execQuayAbort s) := by simp [execQuayAbort, h]

/-! ### The Plain window (R486 to R488) -/

@[simp] theorem State.windowDo_mem (s : State) (r : BusReq) : (State.windowDo s r).mem = s.mem := by simp [State.windowDo]

@[simp] theorem State.windowAccess_mem (s : State) (r : BusReq) : (State.windowAccess s r).mem = s.mem := by simp [State.windowAccess]

@[simp] theorem execPlainWindowAccess_wf (r : BusReq) (s : State) (h : Memory.wf s.mem = true) :
    Out.Wf (execPlainWindowAccess r s) := by simp [execPlainWindowAccess, h]

@[simp] theorem State.serveWindow_mem (s : State) : (State.serveWindow s).mem = s.mem := by simp [State.serveWindow]

/-! ### Copy jobs (R584) -/

@[simp] theorem State.runJob_wf (s : State) (j : Bytes) (h : Memory.wf s.mem = true) : Memory.wf (State.runJob s j).mem = true := by
  simp +contextual [State.runJob, h]

@[simp] theorem State.nextJob_wf (s : State) (h : Memory.wf s.mem = true) : Memory.wf (State.nextJob s).mem = true := by simp [State.nextJob, h]

@[simp] theorem State.quaySlot_wf (s : State) (h : Memory.wf s.mem = true) : Memory.wf (State.quaySlot s).mem = true := by simp [State.quaySlot, h]

/-! ### Port A (R882) -/

@[simp] theorem State.appendDrop_mem (s : State) : (State.appendDrop s).mem = s.mem := rfl

@[simp] theorem State.portA_mem (s : State) (beats : Nat) (low payload : Word) :
    (State.portA s beats low payload).mem = s.mem := by simp [State.portA]

@[simp] theorem State.toRing_wf (s : State) (who : Initiator) (act : State → State) (h : Memory.wf s.mem = true) (ha : KeepsWf act) :
    Memory.wf (State.toRing s who act).mem = true := by
  have hact := ha (s.busAnswer who .ok) (by simp [h])
  simp [State.toRing, h, hact]

@[simp] theorem execBbrAppend_wf (who : Initiator) (beats : Nat) (low payload : Word) (s : State) (h : Memory.wf s.mem = true) :
    Out.Wf (execBbrAppend who beats low payload s) := by
  simp +contextual [execBbrAppend, h]

/-! ### Release and the real-time counter -/

@[simp] theorem execBbrRelease_wf (who : Initiator) (index : Nat) (s : State) (h : Memory.wf s.mem = true) : Out.Wf (execBbrRelease who index s) := by
  simp +contextual [execBbrRelease, h]

@[simp] theorem execRtcSet_wf (who : Initiator) (seconds : Word) (s : State) (h : Memory.wf s.mem = true) : Out.Wf (execRtcSet who seconds s) := by
  simp +contextual [execRtcSet, h]

/-! ### The lease of port A (R855, R864, R882) -/

@[simp] theorem execBbrPortLeaseExpiry_wf (master : Nat) (burst : Bool) (s : State) (h : Memory.wf s.mem = true) :
    Out.Wf (execBbrPortLeaseExpiry master burst s) := by simp [execBbrPortLeaseExpiry, h]

/-! ### Ticks and the stamp (R120, R881, R887, R891) -/

@[simp] theorem execAnchor_wf (s : State) (h : Memory.wf s.mem = true) : Out.Wf (execAnchor s) := by simp [execAnchor, h]

@[simp] theorem execBbrStampUpdate_wf (s : State) (h : Memory.wf s.mem = true) : Out.Wf (execBbrStampUpdate s) := by
  unfold execBbrStampUpdate
  dsimp only
  (repeat' split) <;> simp [h]

/-! ### Basins (R674 to R687) -/

@[simp] theorem State.basinCe_mem (s : State) (b : Nat) : (State.basinCe s b).mem = s.mem := rfl

@[simp] theorem State.basinUe_mem (s : State) (b a : Nat) : (State.basinUe s b a).mem = s.mem := by simp [State.basinUe]

@[simp] theorem State.basinRead_mem (s : State) (who : Initiator) (b a n : Nat) :
    (State.basinRead s who b a n).mem = s.mem := by simp [State.basinRead]

@[simp] theorem State.basinWrite_wf (s : State) (who : Initiator) (a : Nat) (d : Bytes) (h : Memory.wf s.mem = true) :
    Memory.wf (State.basinWrite s who a d).mem = true := by
  simp +contextual [State.basinWrite, h]

@[simp] theorem State.basinDo_wf (s : State) (r : BusReq) (b a : Nat) (h : Memory.wf s.mem = true) :
    Memory.wf (State.basinDo s r b a).mem = true := by simp [State.basinDo, h]

@[simp] theorem State.basinAccess_wf (s : State) (r : BusReq) (b a : Nat) (h : Memory.wf s.mem = true) :
    Memory.wf (State.basinAccess s r b a).mem = true := by simp [State.basinAccess, h]

@[simp] theorem State.setBasin_wf (s : State) (b v : Nat) (h : Memory.wf s.mem = true) : Memory.wf (State.setBasin s b v).mem = true := by
  simp +contextual [State.setBasin, h]

@[simp] theorem State.basinDown_wf (s : State) (b v : Nat) (h : Memory.wf s.mem = true) :
    Memory.wf (State.basinDown s b v).mem = true := by simp [State.basinDown, h]

@[simp] theorem State.basinPower_wf (s : State) (b v : Nat) (h : Memory.wf s.mem = true) :
    Memory.wf (State.basinPower s b v).mem = true := by simp [State.basinPower, h]

@[simp] theorem State.writePower_wf (s : State) (v : Word) (h : Memory.wf s.mem = true) : Memory.wf (State.writePower s v).mem = true :=
  foldl_wf _ _ _ (fun _ _ ht => State.basinPower_wf _ _ _ ht) h

@[simp] theorem execBasinPowerWrite_wf (who : Initiator) (value : Word) (s : State) (h : Memory.wf s.mem = true) :
    Out.Wf (execBasinPowerWrite who value s) := by
  simp +contextual [execBasinPowerWrite, h]

@[simp] theorem execEccWriteBack_wf (addr : Nat) (s : State) (h : Memory.wf s.mem = true) :
    Out.Wf (execEccWriteBack addr s) := by simp [execEccWriteBack, h]

/-! ### Register reads (R174 to R178) -/

@[simp] theorem State.traceRead_mem (s : State) (who : Initiator) : (State.traceRead s who).mem = s.mem := by
  unfold State.traceRead
  split <;> simp

@[simp] theorem execFairwayTraceRead_wf (who : Initiator) (s : State) (h : Memory.wf s.mem = true) : Out.Wf (execFairwayTraceRead who s) := by
  simp +contextual [execFairwayTraceRead, h]

@[simp] theorem State.readReg_wf (s : State) (who : Initiator) (a : Nat) (h : Memory.wf s.mem = true) :
    Memory.wf (State.readReg s who a).mem = true := by
  simp +contextual [State.readReg, h]

/-! ### Register writes with an action -/

@[simp] theorem State.pilotCtrl_wf (s : State) (v : Word) (h : Memory.wf s.mem = true) : Memory.wf (State.pilotCtrl s v).mem = true := by
  unfold State.pilotCtrl
  extract_lets t u
  have ht : Memory.wf t.mem = true := by simp [t, h]
  have hu : Memory.wf u.mem = true := by simp [u, ht]
  simp [hu]

@[simp] theorem State.quayCtrl_mem (s : State) (v : Word) : (State.quayCtrl s v).mem = s.mem := by simp [State.quayCtrl]

@[simp] theorem State.basinClear_mem (s : State) (v : Word) : (State.basinClear s v).mem = s.mem := by simp [State.basinClear]

@[simp] theorem State.dmaStart_mem (s : State) (n : Nat) : (State.dmaStart s n).mem = s.mem := rfl

@[simp] theorem execDmaGo_wf (who : Initiator) (channel : Nat) (s : State) (h : Memory.wf s.mem = true) : Out.Wf (execDmaGo who channel s) := by
  simp +contextual [execDmaGo, h]

@[simp] theorem State.clusterOff_mem (s t : State) (a : Nat) : (State.clusterOff s t a).mem = t.mem := by
  unfold State.clusterOff
  (repeat' split) <;> simp

@[simp] theorem State.writeEth_wf (s : State) (who : Initiator) (p a : Nat) (v : Word) (h : Memory.wf s.mem = true) :
    Memory.wf (State.writeEth s who p a v).mem = true := by
  unfold State.writeEth
  (repeat' split) <;> simp +contextual [h]

theorem stateOf_toBlock_wf (s : State) (who : Initiator) (a : Nat) (f : State → Out) (h : Memory.wf s.mem = true)
    (hf : ∀ t, Memory.wf t.mem = true → Out.Wf (f t)) : Memory.wf (s.toBlock who a fun t => stateOf (f t) t).mem = true :=
  State.toBlock_wf _ _ _ _ h fun t ht => stateOf_wf _ _ (hf t ht) ht

@[simp] theorem State.writeReg_wf (s : State) (who : Initiator) (a : Nat) (v : Word) (h : Memory.wf s.mem = true) :
    Memory.wf (State.writeReg s who a v).mem = true := by
  have hst : ∀ o : Out, Out.Wf o → Memory.wf (stateOf o s).mem = true := fun o ho => stateOf_wf _ _ ho h
  have hp := State.plainWrite_wf s who a v h
  unfold State.writeReg
  refine State.ite_wf (hp) ?_
  refine State.ite_wf (State.guardAccess_wf _ _ _ _ h) ?_
  refine State.ite_wf (hst _ (execSysctlSwreset_wf _ _ h)) ?_
  refine State.ite_wf (hst _ (execArrHalfWrite_wf _ _ _ h)) ?_
  refine State.ite_wf (hst _ (execDcqDropClear_wf _ _ h)) ?_
  refine State.ite_wf (State.toBlock_wf _ _ _ _ h fun t ht => State.pilotCtrl_wf t v ht) ?_
  refine State.ite_wf (stateOf_toBlock_wf _ _ _ _ h fun t ht => execPilotMboxWrite_wf _ _ _ ht) ?_
  refine State.ite_wf (stateOf_toBlock_wf _ _ _ _ h fun t ht => execPilotMboxWrite_wf _ _ _ ht) ?_
  refine State.ite_wf (stateOf_toBlock_wf _ _ _ _ h fun t ht => execPilotPramWrite_wf _ _ ht) ?_
  refine State.ite_wf (State.toBlock_wf _ _ _ _ h fun t ht => by simp [ht]) ?_
  refine State.ite_wf (hst _ (execQuayBusyClear_wf _ _ h)) ?_
  refine State.ite_wf (hst _ (execClrCounts_wf _ _ h)) ?_
  refine State.ite_wf (hst _ (execDmaGo_wf _ _ _ hp)) ?_
  refine State.ite_wf (hst _ (execBasinPowerWrite_wf _ _ _ h)) ?_
  refine State.ite_wf (State.toBlock_wf _ _ _ _ h fun t ht => by simp [ht]) ?_
  refine State.ite_wf (State.writeEth_wf _ _ _ _ _ h) ?_
  refine State.ite_wf (State.writeEth_wf _ _ _ _ _ h) ?_
  refine State.ite_wf (hst _ (execPtpStep_wf _ _ h)) ?_
  refine State.ite_wf (hst _ (execSlipctlApplyGo_wf _ _ h)) ?_
  refine State.ite_wf (hst _ (execSlipctlCaptureGo_wf _ _ _ h)) ?_
  refine State.ite_wf (hst _ (execScrubClr_wf _ _ h)) ?_
  refine State.ite_wf (hst _ (execWdtService_wf _ _ _ h)) ?_
  refine State.ite_wf (hst _ (execIntcComplete_wf _ _ _ h)) ?_
  refine State.ite_wf (hst _ (execOtpProgCmd_wf _ _ _ h)) ?_
  refine State.ite_wf (hst _ (execReclaimUnfence_wf _ _ _ h)) ?_
  refine State.ite_wf (hst _ (execBbrRelease_wf _ _ _ h)) ?_
  refine State.ite_wf (hst _ (execRtcSet_wf _ _ _ h)) ?_
  exact (congrArg Memory.wf (State.clusterOff_mem ..)).trans hp

@[simp] theorem execRegisterWrite_wf (who : Initiator) (addr : Nat) (value : Word) (s : State) (h : Memory.wf s.mem = true) :
    Out.Wf (execRegisterWrite who addr value s) := by simp [execRegisterWrite, h]

/-! ### Targets T0, T5 and T6 -/

@[simp] theorem State.xipRead_mem (s : State) (who : Initiator) (off n : Nat) : (State.xipRead s who off n).mem = s.mem := by simp [State.xipRead]

@[simp] theorem State.slipWindow_mem (s : State) (r : BusReq) : (State.slipWindow s r).mem = s.mem := by
  unfold State.slipWindow
  dsimp only
  (repeat' split) <;> simp

@[simp] theorem State.outbound_mem (s : State) (r : BusReq) : (State.outbound s r).mem = s.mem := by simp [State.outbound]

@[simp] theorem State.atFairway_wf (s : State) (r : BusReq) (h : Memory.wf s.mem = true) :
    Memory.wf (State.atFairway s r).mem = true := by simp [State.atFairway, h]

/-! ### A request at the matrix (R658 to R670) -/

@[simp] theorem State.atTarget_wf (s : State) (t : Nat) (r : BusReq) (h : Memory.wf s.mem = true) : Memory.wf (State.atTarget s t r).mem = true := by
  unfold State.atTarget
  split
  · exact h
  · split
    · exact State.writeReg_wf _ _ _ _ h
    · exact State.readReg_wf _ _ _ h
  · exact State.atFairway_wf _ _ h
  · exact (congrArg Memory.wf (State.xipRead_mem ..)).trans h
  · split
    · exact State.basinAccess_wf _ _ _ _ h
    · exact h

@[simp] theorem State.matrix_wf (s : State) (r : BusReq) (h : Memory.wf s.mem = true) : Memory.wf (State.matrix s r).mem = true := by
  unfold State.matrix
  extract_lets r' m
  clear_value r' m
  split
  · exact h
  split
  · exact h
  split
  · split <;> simp [h]
  split
  · simp [h]
  split
  · simp [h]
  split
  · exact h
  split
  · simp [h]
  · exact State.atTarget_wf _ _ _ h

@[simp] theorem execXipRead_wf (who : Initiator) (offset : Nat) (s : State) (h : Memory.wf s.mem = true) :
    Out.Wf (execXipRead who offset s) := by simp [execXipRead, h]

@[simp] theorem State.basinUp_wf (s : State) (b : Nat) (h : Memory.wf s.mem = true) : Memory.wf (State.basinUp s b).mem = true := by
  unfold State.basinUp
  split
  · exact h
  extract_lets off t u l v w x
  have hu : Memory.wf u.mem = true := by simp [u, t, h]
  have hx : Memory.wf x.mem = true := foldl_wf _ _ _ (fun t r ht => State.matrix_wf _ _ ht) hu
  clear_value x
  split
  · split <;> simp [hx]
  · exact hx

@[simp] theorem State.zeroBasins_wf (s : State) : Memory.wf (State.zeroBasins s).mem = true := wf_nil

@[simp] theorem State.basinsClear_wf (s : State) : Memory.wf (State.basinsClear s).mem = true :=
  foldl_wf _ _ _ (fun _ _ ht => State.matrix_wf _ _ ht) (State.zeroBasins_wf s)

theorem State.wakes_wf (t : State) (b : Nat) (h : Memory.wf t.mem = true) :
    Memory.wf (if t.basinState b = 1 then (t.wakeBasin b).basinUp b else t).mem = true := by
  split
  · exact State.basinUp_wf _ _ (by simp [h])
  · exact h

@[simp] theorem State.busNow_wf (s : State) (r : BusReq) (h : Memory.wf s.mem = true) : Memory.wf (State.busNow s r).mem = true := by
  have hclear : ∀ b : Nat, Memory.wf (if b < 4 && !s.boot.basins then s.basinsClear else s).mem = true := fun b => by
    split <;> simp [h]
  unfold State.busNow
  refine State.matrix_wf _ _ ?_
  split
  · exact State.wakes_wf _ _ (hclear _)
  · split
    · dsimp only
      split <;> simp [h]
    · exact h

@[simp] theorem State.readWords_wf (s : State) (who : Initiator) (a n : Nat) (acc : Bytes) (h : Memory.wf s.mem = true) :
    Memory.wf (State.readWords s who a n acc).1.mem = true := by
  induction n generalizing s a acc with
  | zero => exact h
  | succ n ih =>
    unfold State.readWords
    dsimp only
    split
    · exact ih _ _ _ (by simp [h])
    · simp [h]

/-! ### General DMA (R671 to R673) -/

@[simp] theorem State.dmaBurst_wf (s : State) (src dst size beats : Nat) (h : Memory.wf s.mem = true) :
    Memory.wf (State.dmaBurst s src dst size beats).1.mem = true := by
  unfold State.dmaBurst
  dsimp only
  (repeat' split) <;> simp [h]

@[simp] theorem State.dmaCopy_wf (s : State) (src dst left fuel : Nat) (h : Memory.wf s.mem = true) :
    Memory.wf (State.dmaCopy s src dst left fuel).1.mem = true := by
  induction fuel generalizing s src dst left with
  | zero => exact h
  | succ fuel ih =>
    unfold State.dmaCopy
    dsimp only
    split
    · exact h
    generalize (if isPeripheral src || isPeripheral dst then (4, 1)
      else (8, max 1 (min (min 64 (left / 8)) (min ((4096 - src % 4096) / 8) ((4096 - dst % 4096) / 8))))) = b
    obtain ⟨size, n⟩ := b
    dsimp only
    have hb := State.dmaBurst_wf s src dst size n h
    split
    · next he =>
      rw [he] at hb
      exact hb
    · next he =>
      rw [he] at hb
      exact ih _ _ _ _ hb

@[simp] theorem State.dmaFail_mem (s : State) (n addr : Nat) : (State.dmaFail s n addr).mem = s.mem := rfl

@[simp] theorem execDmaDone_wf (channel : Nat) (s : State) (h : Memory.wf s.mem = true) : Out.Wf (execDmaDone channel s) := by
  refine (Out.wf_next _).2 (State.ite_wf h ?_)
  have hc := State.dmaCopy_wf s (s.dmaSrc channel) (s.dmaDst channel) (s.dmaLen channel) (s.dmaLen channel / 4) h
  split
  · next he =>
    rw [he] at hc
    simpa using hc
  · next he =>
    rw [he] at hc
    simpa using hc

@[simp] theorem execDmaError_wf (channel addr : Nat) (s : State) (h : Memory.wf s.mem = true) : Out.Wf (execDmaError channel addr s) := by
  refine (Out.wf_next _).2 (State.ite_wf h ?_)
  have hc := State.dmaCopy_wf s (s.dmaSrc channel) (s.dmaDst channel) (s.dmaBefore channel addr) (s.dmaBefore channel addr / 4) h
  dsimp only
  split
  · next he =>
    rw [he] at hc
    simpa using hc
  · next he =>
    rw [he] at hc
    simpa using hc

/-! ### PCIe BAR 2 (R201, R202, R767) -/

@[simp] theorem State.complete_mem (s : State) (c : Completion) : (State.complete s c).mem = s.mem := rfl

@[simp] theorem execPcieBar2Read_wf (offset : Nat) (oneDword : Bool) (s : State) (h : Memory.wf s.mem = true) :
    Out.Wf (execPcieBar2Read offset oneDword s) := by simp [execPcieBar2Read, h]

@[simp] theorem execPcieBar2Write_wf (n : Nat) (v : Word) (s : State) (h : Memory.wf s.mem = true) :
    Out.Wf (execPcieBar2Write n v s) := by simp [execPcieBar2Write, h]

/-! ### The debug unit (R620, R621) -/

@[simp] theorem State.debugBus_wf (s : State) (a : Nat) (w : Option Word) (h : Memory.wf s.mem = true) :
    Memory.wf (State.debugBus s a w).mem = true := by simp [State.debugBus, h]

@[simp] theorem execDebugAccess_wf (a : DebugAction) (s : State) (h : Memory.wf s.mem = true) : Out.Wf (execDebugAccess a s) := by
  unfold execDebugAccess
  (repeat' split) <;> simp [h]

@[simp] theorem State.writeLine_wf (s : State) (a : Nat) (bytes : Bytes) (h : Memory.wf s.mem = true) :
    Memory.wf (State.writeLine s a bytes).mem = true := by simp [State.writeLine, h]

@[simp] theorem State.flushDcache_wf (s : State) (h : Memory.wf s.mem = true) : Memory.wf (State.flushDcache s).mem = true := by
  unfold State.flushDcache
  exact foldl_wf _ _ _ (fun t x ht => State.writeLine_wf _ _ _ ht) h

@[simp] theorem execDbgFlush_wf (s : State) (h : Memory.wf s.mem = true) : Out.Wf (execDbgFlush s) := by simp [execDbgFlush, h]

/-! ### DIAG (R203, R315) -/

@[simp] theorem diagBody_wf (act : Packet → State → Rep) (ep : Endpoint) (q : Packet) (s : State)
    (h : Memory.wf s.mem = true) (ha : Rep.Wf (act q s)) :
    Rep.Wf (diagBody act ep q s) := by
  unfold diagBody
  dsimp only
  (repeat' split) <;> simp [h, ha]

@[simp] theorem diagRep_wf (s : State) (w : Word) (h : Memory.wf s.mem = true) : Rep.Wf (diagRep s w) := by simp [diagRep, h]

@[simp] theorem diagRegRead_wf (q : Packet) (s : State) (h : Memory.wf s.mem = true) : Rep.Wf (diagRegRead q s) := by simp [diagRegRead, h]

@[simp] theorem diagRegWrite_wf (q : Packet) (s : State) (h : Memory.wf s.mem = true) : Rep.Wf (diagRegWrite q s) := by
  unfold diagRegWrite
  lift_lets
  extract_lets a t u bad v w
  have ht : Memory.wf t.mem = true := by simp [t, h]
  have hu : Memory.wf u.mem = true := by simp [u, ht]
  have hv : Memory.wf v.mem = true := by simp [v, hu]
  have hw : Memory.wf w.mem = true := by simp [w, hv]
  clear_value w v
  split
  · simp [h]
  split
  · simp [hv]
  · simp [hw]

@[simp] theorem diagMemRead_wf (q : Packet) (s : State) (h : Memory.wf s.mem = true) : Rep.Wf (diagMemRead q s) := by
  unfold diagMemRead
  have hr := State.readWords_wf s hmData (u32 q.payload 4) (u16 q.payload 2 / 8) [] h
  dsimp only
  split
  · next he =>
    rw [he] at hr
    simpa using hr
  · next he =>
    rw [he] at hr
    exact failInside_wf _ _ _ hr

@[simp] theorem diagBar2_wf (on : Bool) (s : State) (h : Memory.wf s.mem = true) : Rep.Wf (diagBar2 on s) := by simp [diagBar2, h]

@[simp] theorem bodyDiag_wf (ep : Endpoint) (q : Packet) (s : State) (h : Memory.wf s.mem = true) : Rep.Wf (bodyDiag ep q s) := by
  unfold bodyDiag
  refine diagBody_wf _ _ _ _ h ?_
  split
  · exact diagRegRead_wf _ _ h
  · exact diagRegWrite_wf _ _ h
  · exact diagMemRead_wf _ _ h
  · exact diagBar2_wf _ _ h
  · exact diagBar2_wf _ _ h

@[simp] theorem execDiagRegRead_wf (q : Req) (s : State) (h : Memory.wf s.mem = true) : Out.Wf (execDiagRegRead q s) := by
  simp +contextual [execDiagRegRead, h]

@[simp] theorem execDiagRegWrite_wf (q : Req) (s : State) (h : Memory.wf s.mem = true) : Out.Wf (execDiagRegWrite q s) := by
  simp +contextual [execDiagRegWrite, h]

@[simp] theorem execDiagMemRead_wf (q : Req) (s : State) (h : Memory.wf s.mem = true) : Out.Wf (execDiagMemRead q s) := by
  simp +contextual [execDiagMemRead, h]

@[simp] theorem execDiagBar2On_wf (q : Req) (s : State) (h : Memory.wf s.mem = true) : Out.Wf (execDiagBar2On q s) := by
  simp +contextual [execDiagBar2On, h]

@[simp] theorem execDiagBar2Off_wf (q : Req) (s : State) (h : Memory.wf s.mem = true) : Out.Wf (execDiagBar2Off q s) := by
  simp +contextual [execDiagBar2Off, h]

/-! ### Dual-port collisions (R678 to R682) -/

@[simp] theorem State.collide_mem (s : State) (b : Nat) (rw : Bool) : (State.collide s b rw).mem = s.mem := by simp [State.collide]

@[simp] theorem State.quayBusy_mem (s : State) (b : Nat) (again : Bool) : (State.quayBusy s b again).mem = s.mem := by simp [State.quayBusy]

@[simp] theorem State.otherPort_wf (s : State) (b : Nat) (p : PortUse) (h : Memory.wf s.mem = true) :
    Memory.wf (State.otherPort s b p).mem = true := by
  simp +contextual [State.otherPort, h]

@[simp] theorem State.meet_wf (s : State) (r : BusReq) (b : Nat) (act : State → State) (l : List PortUse)
    (h : Memory.wf s.mem = true) (ha : KeepsWf act) :
    Memory.wf (State.meet s r b act l).1.mem = true := by
  induction l generalizing s with
  | nil => exact ha s h
  | cons p l ih =>
    have hact : ∀ t, Memory.wf t.mem = true → Memory.wf (act t).mem = true := ha
    unfold State.meet
    split
    · exact hact _ (by simp [h])
    split
    · exact ih _ (by simp [h])
    split
    · simp [h, hact]
    dsimp only
    split
    · simp [h, hact]
    · exact hact _ (by simp [h])

@[simp] theorem State.restOfPorts_wf (s : State) (l : List PortUse) (h : Memory.wf s.mem = true) : Memory.wf (State.restOfPorts s l).mem = true := by
  unfold State.restOfPorts
  refine foldl_wf _ _ _ (fun t p ht => ?_) h
  split
  · exact State.otherPort_wf _ _ _ ht
  · exact ht

/-! ### Arbitration (R662, R664, R692) -/

@[simp] theorem State.perform1_wf (s : State) (r : BusReq) (l : List PortUse) (h : Memory.wf s.mem = true) :
    Memory.wf (State.perform1 s r l).1.mem = true := by
  unfold State.perform1
  dsimp only
  split
  · exact State.meet_wf _ _ _ _ _ h fun u hu => State.matrix_wf _ _ hu
  · exact State.matrix_wf _ _ h

@[simp] theorem State.answer1_mem (s : State) (place : Nat) (r : BusResp) : (State.answer1 s place r).mem = s.mem := rfl

@[simp] theorem State.arbitrate_wf (s : State) (q : List Arb) (l : List PortUse) (n : Nat) (h : Memory.wf s.mem = true) :
    Memory.wf (State.arbitrate s q l n).mem = true := by
  induction n generalizing s q l with
  | zero => exact State.restOfPorts_wf _ _ h
  | succ n ih =>
    unfold State.arbitrate
    split
    · exact State.restOfPorts_wf _ _ h
    next x hx =>
    extract_lets rest t u
    split
    · exact ih _ _ _ h
    split
    · exact ih _ _ _ h
    split
    next now later hg =>
    extract_lets rest'
    have hp := State.perform1_wf u now l h
    split
    · next he =>
      rw [he] at hp
      exact ih _ _ _ hp
    · next he =>
      rw [he] at hp
      dsimp only
      split
      · exact ih _ _ _ hp
      · exact ih _ _ _ (by simpa using hp)

@[simp] theorem State.retryPorts_wf (s : State) (h : Memory.wf s.mem = true) : Memory.wf (State.retryPorts s).mem = true :=
  foldl_wf _ _ _ (fun _ _ ht => State.arbitrate_wf _ _ _ _ ht) h

@[simp] theorem execMatrixRequest_wf (r : BusReq) (also : List BusReq) (other : List PortUse) (s : State) (h : Memory.wf s.mem = true) :
    Out.Wf (execMatrixRequest r also other s) := by simp [execMatrixRequest, h]

@[simp] theorem execHoldLeaseExpiry_wf (master port addr : Nat) (s : State) (h : Memory.wf s.mem = true) :
    Out.Wf (execHoldLeaseExpiry master port addr s) := by simp [execHoldLeaseExpiry, h]

@[simp] theorem execBasinClearDone_wf (otpOk : Bool) (s : State) (h : Memory.wf s.mem = true) :
    Out.Wf (execBasinClearDone otpOk s) := by simp [execBasinClearDone, h]

/-! ### Nodes (Table FWY-1) -/

@[simp] theorem State.capture_mem (s : State) (p : FwPacket) : (State.capture s p).mem = s.mem := by simp [State.capture]

@[simp] theorem State.fwEvent_mem (s : State) (bitNo node dst status tid : Nat) : (State.fwEvent s bitNo node dst status tid).mem = s.mem := rfl

@[simp] theorem State.fwCount_mem (s : State) (node word : Nat) (high : Bool) :
    (State.fwCount s node word high).mem = s.mem := by simp [State.fwCount]

@[simp] theorem State.fwComplete_mem (s : State) (node tid status : Nat) (data : Bytes) : (State.fwComplete s node tid status data).mem = s.mem := rfl

@[simp] theorem State.respond_mem (s : State) (p : FwPacket) (kind status : Nat) (data : Bytes) (allow : Nat) :
    (State.respond s p kind status data allow).mem = s.mem := rfl

/-! ### Endpoints -/

@[simp] theorem State.respondBus_mem (s : State) (p : FwPacket) : (State.respondBus s p).mem = s.mem := by
  unfold State.respondBus
  split <;> simp

@[simp] theorem State.nodeBasin_wf (s : State) (p : FwPacket) (b : Nat) (other : List PortUse) (h : Memory.wf s.mem = true) :
    Memory.wf (State.nodeBasin s p b other).mem = true := by
  have hm : Memory.wf (s.meet (fwBus { master := 3, node := p.src } p) b
      (fun u => u.basinDo (fwBus { master := 3, node := p.src } p) b p.addr) other).1.mem = true :=
    State.meet_wf _ _ _ _ _ h fun u hu => State.basinDo_wf _ _ _ _ hu
  unfold State.nodeBasin
  refine State.ite_wf (by simp [h]) (State.ite_wf (by simp [h]) (State.restOfPorts_wf _ _ ?_))
  rw [State.respondBus_mem]
  exact hm

@[simp] theorem State.lostTarget_mem (s : State) (p : FwPacket) : (State.lostTarget s p).mem = s.mem := by simp [State.lostTarget]

@[simp] theorem State.perform_wf (s : State) (p : FwPacket) (other : List PortUse) (h : Memory.wf s.mem = true) :
    Memory.wf (State.perform s p other).mem = true := by simp [State.perform, h]

theorem State.fieldAsleep_mem {s : State} {f : Nat} {x : Nat × State} (h : s.fieldAsleep f = some x) : x.2.mem = s.mem := by
  unfold State.fieldAsleep at h
  (repeat' split at h) <;> simp only [reduceCtorEq, Option.some.injEq] at h <;> subst h <;> simp

theorem State.asleep_mem {s : State} {p : FwPacket} {x : Nat × State} (h : s.asleep p = some x) : x.2.mem = s.mem := by
  unfold State.asleep at h
  split at h
  · split at h
    · split at h
      · rw [← Option.some.inj h]
        exact State.wakeBasin_mem ..
      · exact nomatch h
    · split at h
      · exact State.fieldAsleep_mem h
      · exact nomatch h
  · split at h
    · exact State.fieldAsleep_mem h
    · exact nomatch h

@[simp] theorem State.onTheWay_mem (s : State) (p : FwPacket) : (State.onTheWay s p).mem = s.mem := by simp [State.onTheWay]

@[simp] theorem State.serveRequest_wf (s0 : State) (p : FwPacket) (other : List PortUse) (h : Memory.wf s0.mem = true) :
    Memory.wf (State.serveRequest s0 p other).mem = true := by
  have hs : Memory.wf (s0.onTheWay p).mem = true := by rwa [State.onTheWay_mem]
  unfold State.serveRequest
  dsimp only
  generalize s0.onTheWay p = s at hs
  have hr : ∀ kind status, Memory.wf (s.respond p kind status).mem = true := fun kind status => by rwa [State.respond_mem]
  refine State.ite_wf hs (State.ite_wf (hr _ _) (State.ite_wf (by simp [hs]) (State.ite_wf (hr _ _) ?_)))
  refine State.ite_wf (by simp [hs]) (State.ite_wf hs ?_)
  split
  · exact State.perform_wf _ _ _ hs
  next he =>
  have ht := (congrArg Memory.wf (State.asleep_mem he)).trans hs
  exact State.ite_wf (by simpa using ht) (by simpa using ht)

@[simp] theorem State.serveWake_wf (s : State) (node : Nat) (h : Memory.wf s.mem = true) : Memory.wf (State.serveWake s node).mem = true := by
  unfold State.serveWake
  split <;> simp [h]

@[simp] theorem State.inject_mem (s : State) (p : FwPacket) : (State.inject s p).1.mem = s.mem := by
  unfold State.inject
  dsimp only
  (repeat' split) <;> simp

end Sys2Proof.Machine
end

section
/-! SUPPORT. The Basin memory under the operations from "Initiators" to "FBAR and the FP state instructions". -/

namespace Sys2Proof.Machine

/-! ### Initiators (R704, R709 to R715) -/

@[simp] theorem State.setTid_mem (s : State) (p : FwPacket) (x : FwTid) : (State.setTid s p x).mem = s.mem := rfl

@[simp] theorem State.takeWaking_mem (s : State) (p : FwPacket) : (State.takeWaking s p).mem = s.mem := by
  unfold State.takeWaking
  split <;> simp

@[simp] theorem State.takeRsp_mem (s : State) (p : FwPacket) : (State.takeRsp s p).mem = s.mem := rfl

@[simp] theorem State.takeResponse_mem (s : State) (p : FwPacket) : (State.takeResponse s p).mem = s.mem := by
  unfold State.takeResponse
  dsimp only
  (repeat' split) <;> simp

@[simp] theorem State.arrive1_wf (s : State) (p : FwPacket) (other : List PortUse) (h : Memory.wf s.mem = true) :
    Memory.wf (State.arrive1 s p other).mem = true := by simp [State.arrive1, h]

@[simp] theorem State.travel_wf (s : State) (l : List FwPacket) (other : List PortUse) (h : Memory.wf s.mem = true) :
    Memory.wf (State.travel s l other).mem = true := by
  have hin : ∀ (g : State × List FwPacket → FwPacket → State × List FwPacket), (∀ x p, (g x p).1.mem = x.1.mem) →
      (l.foldl g (s, [])).1.mem = s.mem := fun g hg =>
    List.foldlRecOn (motive := fun x : State × List FwPacket => x.1.mem = s.mem) _ _ rfl fun x hx p _ => (hg x p).trans hx
  unfold State.travel
  dsimp only
  refine List.foldlRecOn (motive := fun x : State × List PortUse => Memory.wf x.1.mem = true) _ _ ?_ fun x hx o _ => ?_
  · refine (congrArg Memory.wf (hin _ fun x p => ?_)).trans h
    split
    · rfl
    have hi := State.inject_mem x.1 p
    split <;>
      next he =>
        rw [he] at hi
        exact hi
  · split
    · exact State.arrive1_wf _ _ _ hx
    · exact hx

@[simp] theorem State.injectWaiting_wf (s : State) (h : Memory.wf s.mem = true) : Memory.wf (State.injectWaiting s).mem = true :=
  foldl_wf _ _ _ (fun _ _ ht => State.travel_wf _ _ _ ht) h

@[simp] theorem execFairwayRequest_wf (p : FwPacket) (also : List FwPacket) (other : List PortUse) (s : State) (h : Memory.wf s.mem = true) :
    Out.Wf (execFairwayRequest p also other s) := by simp [execFairwayRequest, h]

@[simp] theorem execFairwayResponse_wf (p : FwPacket) (s : State) (h : Memory.wf s.mem = true) :
    Out.Wf (execFairwayResponse p s) := by simp [execFairwayResponse, h]

@[simp] theorem execWaking_wf (p : FwPacket) (s : State) (h : Memory.wf s.mem = true) : Out.Wf (execWaking p s) := by simp [execWaking, h]

@[simp] theorem execWakeRetry_wf (p : FwPacket) (s : State) (h : Memory.wf s.mem = true) : Out.Wf (execWakeRetry p s) := by
  unfold execWakeRetry
  split <;> simp [h]

@[simp] theorem execFairwayTimeout_wf (node tid : Nat) (s : State) (h : Memory.wf s.mem = true) : Out.Wf (execFairwayTimeout node tid s) := by
  unfold execFairwayTimeout
  (repeat' split) <;> simp [h]

@[simp] theorem execTidQuarantineEnd_wf (node tid : Nat) (s : State) (h : Memory.wf s.mem = true) :
    Out.Wf (execTidQuarantineEnd node tid s) := by simp [execTidQuarantineEnd, h]

/-! ### Wakes that Fairway requests wait for -/

@[simp] theorem execBasinWakeDone_wf (basin : Nat) (s : State) (h : Memory.wf s.mem = true) : Out.Wf (execBasinWakeDone basin s) :=
  (Out.wf_next _).2 (State.ite_wf h (State.serveWake_wf _ _ (State.serveWake_wf _ _ (State.retryPorts_wf _ (State.basinUp_wf _ _ h)))))

@[simp] theorem execFieldWakeDone_wf (field : Nat) (s : State) (h : Memory.wf s.mem = true) : Out.Wf (execFieldWakeDone field s) := by
  refine (Out.wf_next _).2 ?_
  split
  · exact h
  · exact State.ite_wf (foldl_wf _ _ _ (fun t n ht => State.serveWake_wf _ _ ht) (by simp [h])) h

@[simp] theorem execQuaySlot_wf (s : State) (h : Memory.wf s.mem = true) : Out.Wf (execQuaySlot s) :=
  (Out.wf_next _).2 (State.ite_wf h (State.serveWake_wf _ _ (State.retryPorts_wf _ (State.quaySlot_wf _ h))))

/-! ### Access of one queue controller (R799, R800) -/

@[simp] theorem State.portB_wf (s : State) (write : Bool) (a : Nat) (data : Bytes) (l : List PortUse) (h : Memory.wf s.mem = true) :
    Memory.wf (State.portB s write a data l).1.mem = true := by
  simp +contextual [State.portB, h]

@[simp] theorem State.qcMove_wf (s : State) (qc : Nat) (words : List DWord) (l : List PortUse) (h : Memory.wf s.mem = true) :
    Memory.wf (State.qcMove s qc words l).1.mem = true := by
  unfold State.qcMove
  split
  · exact h
  extract_lets q from_ at_ next x got t
  have hx : Memory.wf x.1.mem = true :=
    List.foldlRecOn (motive := fun x : State × List PortUse × List DWord => Memory.wf x.1.mem = true) _ _ h
      fun x hx w _ => State.portB_wf _ _ _ _ _ hx
  have ht : Memory.wf t.mem = true := hx
  clear_value t
  exact State.ite_wf (by simpa using ht) ht

@[simp] theorem State.qcAnswer_mem (s : State) (qc : Nat) (error busy : Bool) (word : DWord) :
    (State.qcAnswer s qc error busy word).mem = s.mem := rfl

@[simp] theorem State.qcRaw_wf (s : State) (qc : Nat) (write : Bool) (offset : Nat) (data : DWord) (locked : Bool) (l : List PortUse)
    (h : Memory.wf s.mem = true) : Memory.wf (State.qcRaw s qc write offset data locked l).1.mem = true := by
  unfold State.qcRaw
  dsimp only
  (repeat' split) <;> simp [h]

@[simp] theorem State.qcLost_mem (s : State) (qc n : Nat) : (State.qcLost s qc n).mem = s.mem := rfl

@[simp] theorem State.qcServe_wf (s : State) (x : QcAccess) (l : List PortUse) (h : Memory.wf s.mem = true) :
    Memory.wf (State.qcServe s x l).1.mem = true := by
  unfold State.qcServe
  (repeat' split) <;> simp [h]

/-! ### The order at port B (R798) -/

@[simp] theorem State.portRun_wf (s : State) (q : List QcAccess) (l : List PortUse) (n : Nat) (h : Memory.wf s.mem = true) :
    Memory.wf (State.portRun s q l n).mem = true := by
  induction n generalizing s q l with
  | zero => exact State.restOfPorts_wf _ _ h
  | succ n ih =>
    unfold State.portRun
    split
    · exact State.restOfPorts_wf _ _ h
    · exact State.ite_wf (ih _ _ _ (State.setSlip_wf _ _ h)) (ih _ _ _ (State.qcServe_wf _ _ _ (State.setSlip_wf _ _ h)))

@[simp] theorem State.freePort_wf (s : State) (h : Memory.wf s.mem = true) : Memory.wf (State.freePort s).mem = true := by
  unfold State.freePort
  refine State.ite_wf h (State.retryPorts_wf _ (State.portRun_wf _ _ _ _ (State.setSlip_wf _ _ ?_)))
  exact foldl_wf _ _ _ (fun u p hu => State.perform_wf _ _ _ hu) h

@[simp] theorem State.portAsk_wf (s : State) (q : List QcAccess) (l : List PortUse) (h : Memory.wf s.mem = true) :
    Memory.wf (State.portAsk s q l).mem = true := by simp [State.portAsk, h]

@[simp] theorem execQcTransfer_wf (qc : Nat) (words : List DWord) (also : List QcAccess) (other : List PortUse) (s : State)
    (h : Memory.wf s.mem = true) : Out.Wf (execQcTransfer qc words also other s) := by simp [execQcTransfer, h]

@[simp] theorem execQcRawAccess_wf (qc : Nat) (write : Bool) (offset : Nat) (data : DWord) (locked : Bool) (also : List QcAccess) (other : List PortUse)
    (s : State) (h : Memory.wf s.mem = true) : Out.Wf (execQcRawAccess qc write offset data locked also other s) := by simp [execQcRawAccess, h]

/-! ### Commands that end a lock -/

@[simp] theorem execSlipApplyStart_wf (s : State) (h : Memory.wf s.mem = true) : Out.Wf (execSlipApplyStart s) := by
  unfold execSlipApplyStart
  (repeat' split) <;> simp [h]

@[simp] theorem execSlipApplyDone_wf (ok : Bool) (s : State) (h : Memory.wf s.mem = true) : Out.Wf (execSlipApplyDone ok s) := by
  refine (Out.wf_next _).2 ?_
  split
  · exact h
  next w _ =>
  extract_lets good slip t u v x
  have hu : u.mem = s.mem := by
    unfold u
    split
    · rw [State.setRbit_mem, State.runDesign_mem]
    · rw [State.setRbit_mem, State.blank_mem]
  have hv : v.mem = s.mem := by
    unfold v
    split
    · rw [State.queueWrite_mem, hu]
    · exact hu
  have hx : Memory.wf x.mem = true := by
    unfold x
    split
    · rwa [State.emitCompletion_mem, hv]
    · rwa [hv]
  clear_value x
  exact State.freePort_wf _ (by rwa [State.releaseDeferred_mem])

@[simp] theorem execQcPortLeaseExpiry_wf (qc : Nat) (s : State) (h : Memory.wf s.mem = true) :
    Out.Wf (execQcPortLeaseExpiry qc s) := by simp [execQcPortLeaseExpiry, h]

@[simp] theorem execFenceSequence_wf (domain lease resource low : Nat) (s : State) (h : Memory.wf s.mem = true) :
    Out.Wf (execFenceSequence domain lease resource low s) := by simp [execFenceSequence, h]

/-! ### Points of serial and CAN stations -/

@[simp] theorem State.stalePorts_wf (s : State) (id : Nat) (pts : List Nat) (h : Memory.wf s.mem = true) :
    Memory.wf (State.stalePorts s id pts).mem = true := by
  unfold State.stalePorts
  refine foldl_wf _ _ _ (fun t p ht => ?_) h
  rw [State.setStation_mem]
  exact State.putPoint_wf _ _ _ _ _ ht

@[simp] theorem State.portDone_wf (s : State) (id : Nat) (h : Memory.wf s.mem = true) :
    Memory.wf (State.portDone s id).mem = true := by simp [State.portDone, h]

@[simp] theorem State.portFailed_mem (s : State) (id : Nat) : (State.portFailed s id).mem = s.mem := rfl

@[simp] theorem State.writesDone_mem (s : State) (id k : Nat) : (State.writesDone s id k).mem = s.mem := by simp [State.writesDone]

/-! ### Modbus RTU (R781 to R783, R792) -/

@[simp] theorem State.setUart_mem (s : State) (n : Nat) (u : Uart) : (State.setUart s n u).mem = s.mem := rfl

@[simp] theorem execModbusPollStart_wf (uart : Nat) (s : State) (h : Memory.wf s.mem = true) : Out.Wf (execModbusPollStart uart s) := by
  unfold execModbusPollStart
  dsimp only
  (repeat' split) <;> simp [h]

@[simp] theorem State.pollEnd_mem (s : State) (uart : Nat) (x : Nat × Nat × Nat) (ok : Bool) : (State.pollEnd s uart x ok).mem = s.mem := by
  unfold State.pollEnd
  dsimp only
  (repeat' split) <;> simp

@[simp] theorem State.pollFail_wf (s : State) (uart : Nat) (x : Nat × Nat × Nat) (h : Memory.wf s.mem = true) :
    Memory.wf (State.pollFail s uart x).mem = true := by simp [State.pollFail, h]

@[simp] theorem State.pollComplete_wf (s : State) (uart : Nat) (x : Nat × Nat × Nat) (f : Bytes) (h : Memory.wf s.mem = true) :
    Memory.wf (State.pollComplete s uart x f).mem = true := by
  unfold State.pollComplete
  extract_lets id c pts t
  have ht : Memory.wf t.mem = true := foldl_wf _ _ _ (fun u y hu => State.putPoint_wf _ _ _ _ _ hu) h
  clear_value t
  simp [ht]

@[simp] theorem execModbusResponse_wf (uart : Nat) (frame : Bytes) (lineOk : Bool) (s : State) (h : Memory.wf s.mem = true) :
    Out.Wf (execModbusResponse uart frame lineOk s) := by
  unfold execModbusResponse
  (repeat' split) <;> simp [h]

@[simp] theorem execModbusTimeout_wf (uart : Nat) (s : State) (h : Memory.wf s.mem = true) : Out.Wf (execModbusTimeout uart s) := by
  unfold execModbusTimeout
  (repeat' split) <;> simp [h]

/-! ### NMEA 0183 (R784) -/

@[simp] theorem State.nmeaPoint_wf (s : State) (id : Nat) (c : Bytes) (fields : List Bytes) (x : Nat × Bool × Nat) (h : Memory.wf s.mem = true) :
    Memory.wf (State.nmeaPoint s id c fields x).mem = true := by
  unfold State.nmeaPoint
  split <;> simp [h]

@[simp] theorem State.sentenceFail_mem (s : State) (uart : Nat) (framing : Bool) :
    (State.sentenceFail s uart framing).mem = s.mem := by simp [State.sentenceFail]

@[simp] theorem execNmeaSentence_wf (uart : Nat) (sentence : Bytes) (s : State) (h : Memory.wf s.mem = true) :
    Out.Wf (execNmeaSentence uart sentence s) := by
  refine (Out.wf_next _).2 (State.ite_wf h ?_)
  split
  · simp [h]
  split
  · simp [h]
  extract_lets id c pts
  have ht : ∀ fields, Memory.wf (pts.foldl (fun (t : State) x => t.nmeaPoint id c fields x) s).mem = true := fun fields =>
    foldl_wf _ _ _ (fun u y hu => State.nmeaPoint_wf _ _ _ _ _ hu) h
  exact State.ite_wf h (by simp [ht])

/-! ### CAN FD (R773 to R778, R791) -/

@[simp] theorem State.setCan_mem (s : State) (n : Nat) (x : Can) : (State.setCan s n x).mem = s.mem := rfl

@[simp] theorem State.canPoint_wf (s : State) (id : Nat) (c data : Bytes) (x : Nat × Bool × Nat) (h : Memory.wf s.mem = true) :
    Memory.wf (State.canPoint s id c data x).mem = true := by simp [State.canPoint, h]

@[simp] theorem execCanFrameReceived_wf (can ident : Nat) (extended : Bool) (data : Bytes) (s : State) (h : Memory.wf s.mem = true) :
    Out.Wf (execCanFrameReceived can ident extended data s) := by
  unfold execCanFrameReceived
  extract_lets id c pts port t
  refine (Out.wf_next _).2 (State.ite_wf h ?_)
  have ht : Memory.wf t.mem = true := by simp [t, h]
  clear_value t
  have hp : Memory.wf (pts.foldl (fun (t : State) x => t.canPoint id c data x) t).mem = true :=
    foldl_wf _ _ _ (fun u y hu => State.canPoint_wf _ _ _ _ _ hu) ht
  simp [hp]

@[simp] theorem execCanTxDone_wf (can : Nat) (s : State) (h : Memory.wf s.mem = true) : Out.Wf (execCanTxDone can s) := by
  unfold execCanTxDone
  dsimp only
  (repeat' split) <;> simp [h]

@[simp] theorem execCanRxTimeout_wf (can : Nat) (s : State) (h : Memory.wf s.mem = true) :
    Out.Wf (execCanRxTimeout can s) := by simp [execCanRxTimeout, h]

@[simp] theorem execCanBusOff_wf (can : Nat) (s : State) (h : Memory.wf s.mem = true) : Out.Wf (execCanBusOff can s) := by simp [execCanBusOff, h]

@[simp] theorem execCanBusOffRecovery_wf (can : Nat) (s : State) (h : Memory.wf s.mem = true) :
    Out.Wf (execCanBusOffRecovery can s) := by simp [execCanBusOffRecovery, h]

/-! ### Age (R777, R783, R784) -/

@[simp] theorem execPointAgeExpiry_wf (station point : Nat) (s : State) (h : Memory.wf s.mem = true) :
    Out.Wf (execPointAgeExpiry station point s) := by simp [execPointAgeExpiry, h]

/-! ### The end of a flash operation (R89 to R91, R311, R788, R794) -/

@[simp] theorem State.keepRecord_mem (s : State) (t : BgTask) : (State.keepRecord s t).mem = s.mem := by
  unfold State.keepRecord
  split <;> simp

@[simp] theorem State.flashEffect_mem (s : State) (op : FlashOp) : (State.flashEffect s op).mem = s.mem := by
  unfold State.flashEffect
  split <;> simp

@[simp] theorem State.taskDone_mem (s : State) (t : BgTask) : (State.taskDone s t).mem = s.mem := by
  unfold State.taskDone
  (repeat' split) <;> simp

@[simp] theorem execQspiCommandDone_wf (s : State) (h : Memory.wf s.mem = true) : Out.Wf (execQspiCommandDone s) := by
  unfold execQspiCommandDone
  dsimp only
  (repeat' split) <;> simp [h]

/-! ### The Pilot's Ebb order (R33, R34, R826) -/

@[simp] theorem State.rewriteRow_mem (s : State) (key row : Nat) : (State.rewriteRow s key row).mem = s.mem := by simp [State.rewriteRow]

@[simp] theorem State.rewriteGroups_mem (s : State) : (State.rewriteGroups s).mem = s.mem := by simp [State.rewriteGroups]

@[simp] theorem State.scrubUe_mem (s : State) (event target off : Nat) : (State.scrubUe s event target off).mem = s.mem := by simp [State.scrubUe]

@[simp] theorem State.sweepDone_mem (s : State) (target : Nat) : (State.sweepDone s target).mem = s.mem := rfl

@[simp] theorem State.checkTables_mem (s : State) : (State.checkTables s).mem = s.mem := rfl

@[simp] theorem State.scrubRow_mem (s : State) (e : Nat × Nat) : (State.scrubRow s e).mem = s.mem := by simp [State.scrubRow]

@[simp] theorem State.scrubSlice_mem (s : State) : (State.scrubSlice s).mem = s.mem := by simp [State.scrubSlice]

@[simp] theorem State.sliceTime_mem (s : State) : (State.sliceTime s).mem = s.mem := by simp [State.sliceTime]

@[simp] theorem execEbbSlice_wf (s : State) (h : Memory.wf s.mem = true) : Out.Wf (execEbbSlice s) := by simp [execEbbSlice, h]

@[simp] theorem execPlainScrubSlice_wf (s : State) (h : Memory.wf s.mem = true) : Out.Wf (execPlainScrubSlice s) := by simp [execPlainScrubSlice, h]

/-! ### The scrub engine (R829 to R831, R817, R818) -/

@[simp] theorem execBasinScrubRead_wf (basin : Nat) (s : State) (h : Memory.wf s.mem = true) : Out.Wf (execBasinScrubRead basin s) := by
  unfold execBasinScrubRead
  dsimp only
  (repeat' split) <;> simp [h]

@[simp] theorem State.configUe_mem (s : State) (off : Nat) : (State.configUe s off).mem = s.mem := by simp [State.configUe]

@[simp] theorem execSlipConfigScrubRead_wf (offset errorBits : Nat) (s : State) (h : Memory.wf s.mem = true) :
    Out.Wf (execSlipConfigScrubRead offset errorBits s) := by simp [execSlipConfigScrubRead, h]

/-! ### Telemetry (R305, R306, R317, R846) -/

@[simp] theorem State.tmSend_mem (s : State) (n id : Nat) (x : Session) (sub : Subscription) :
    (State.tmSend s n id x sub).mem = s.mem := by simp [State.tmSend]

@[simp] theorem execTelemetryBuild_wf (s : State) (h : Memory.wf s.mem = true) : Out.Wf (execTelemetryBuild s) := by simp [execTelemetryBuild, h]

/-! ### Wear (R363, R841) -/

@[simp] theorem execWearCounting_wf (s : State) (h : Memory.wf s.mem = true) : Out.Wf (execWearCounting s) := by simp [execWearCounting, h]

/-! ### Model trim (R832 to R834) -/

@[simp] theorem State.takeTrim_mem (s : State) (k : Nat) : (State.takeTrim s k).mem = s.mem := by
  unfold State.takeTrim
  dsimp only
  (repeat' split) <;> simp

@[simp] theorem execTrimSample_wf (s : State) (h : Memory.wf s.mem = true) : Out.Wf (execTrimSample s) := by simp [execTrimSample, h]

@[simp] theorem execTrimReplay_wf (slot : Nat) (s : State) (h : Memory.wf s.mem = true) : Out.Wf (execTrimReplay slot s) := by
  unfold execTrimReplay
  (repeat' split) <;> simp [h]

/-! ### Duty rotation (R842, R843) -/

@[simp] theorem State.memberStep_mem (s : State) (h' : Nat) (v : Int) : (State.memberStep s h' v).mem = s.mem := by simp [State.memberStep]

@[simp] theorem State.journalDuty_mem (s : State) (g : Nat) (d : DutyGroup) : (State.journalDuty s g d).mem = s.mem := by simp [State.journalDuty]

@[simp] theorem State.rotate_mem (s : State) (g : Nat) (d : DutyGroup) : (State.rotate s g d).mem = s.mem := by simp [State.rotate]

@[simp] theorem State.dutyCheck_mem (s : State) (g : Nat) (d : DutyGroup) : (State.dutyCheck s g d).mem = s.mem := by simp [State.dutyCheck]

@[simp] theorem execDutyRotationCheck_wf (s : State) (h : Memory.wf s.mem = true) :
    Out.Wf (execDutyRotationCheck s) := by simp [execDutyRotationCheck, h]

@[simp] theorem execDutyChangeoverConfirm_wf (group : Nat) (s : State) (h : Memory.wf s.mem = true) : Out.Wf (execDutyChangeoverConfirm group s) := by
  unfold execDutyChangeoverConfirm
  (repeat' split) <;> simp [h]

@[simp] theorem execDutyAbort_wf (group : Nat) (s : State) (h : Memory.wf s.mem = true) : Out.Wf (execDutyAbort group s) := by
  unfold execDutyAbort
  (repeat' split) <;> simp [h]

/-! ### Plausibility (R838, Table EBB-3) -/

@[simp] theorem State.plausWatch_mem (s : State) (slot : Nat) (c : Channel) : (State.plausWatch s slot c).mem = s.mem := rfl

@[simp] theorem State.plausStep_mem (s : State) (slot : Nat) (c : Channel) (code : Nat) :
    (State.plausStep s slot c code).mem = s.mem := by simp [State.plausStep]

@[simp] theorem execPlausibilityCheck_wf (s : State) (h : Memory.wf s.mem = true) :
    Out.Wf (execPlausibilityCheck s) := by simp [execPlausibilityCheck, h]

/-! ### Calibration (R835 to R838) -/

@[simp] theorem State.calFinish_mem (s : State) (kind : Nat) (r : CalRun) (e : CalEnd) (he : SameMem e.apply) :
    (State.calFinish s kind r e).mem = s.mem := by
  unfold State.calFinish
  extract_lets cal res t u
  have hu : u.mem = s.mem := by
    unfold u
    split
    · exact he t
    · rfl
  clear_value u
  split
  · rw [State.emitCompletion_mem, hu]
  · exact hu

theorem State.calSensor_apply_mem (s : State) (kind : Nat) (c : Channel) (r : CalRun) : SameMem (s.calSensor kind c r).apply := by
  intro t
  refine (State.change_mem ..).trans ?_
  (repeat' split) <;> rfl

@[simp] theorem State.calCycle_mem (s : State) (kind : Nat) (r : CalRun) : (State.calCycle s kind r).mem = s.mem := by
  unfold State.calCycle
  extract_lets fail
  split
  · exact State.calFinish_mem _ _ _ _ fun _ => rfl
  split
  · rfl
  extract_lets take v q
  split
  · exact State.calFinish_mem _ _ _ _ (State.calSensor_apply_mem _ _ _ _)
  split
  · exact State.calFinish_mem _ _ _ _ fun _ => rfl
  · rfl

theorem State.calTemp_apply_mem (s : State) (r : CalRun) : SameMem (s.calTemp r).apply := fun t => by
  rw [State.calTemp]
  exact (State.journalPut_mem ..).trans (State.setFld_mem ..)

theorem calSupmon_apply_mem (r : CalRun) : SameMem (calSupmon r).apply := fun _ => State.journalPut_mem ..

@[simp] theorem State.calSample_mem (s : State) (kind : Nat) (r : CalRun) : (State.calSample s kind r).mem = s.mem := by
  unfold State.calSample
  extract_lets v q
  split
  · refine State.calFinish_mem _ _ _ _ ?_
    split
    · exact State.calTemp_apply_mem _ _
    · exact calSupmon_apply_mem _
  · rfl

@[simp] theorem State.calPlaus_mem (s : State) (r : CalRun) : (State.calPlaus s r).mem = s.mem := by simp [State.calPlaus]

@[simp] theorem execCalibrationSample_wf (s : State) (h : Memory.wf s.mem = true) :
    Out.Wf (execCalibrationSample s) := by simp [execCalibrationSample, h]

/-! ### Drift (R840) -/

@[simp] theorem execDriftTracking_wf (s : State) (h : Memory.wf s.mem = true) : Out.Wf (execDriftTracking s) := by simp [execDriftTracking, h]

/-! ### The journal (R844, R845) -/

@[simp] theorem State.journalWear_mem (s : State) : (State.journalWear s).mem = s.mem := by simp [State.journalWear]

@[simp] theorem execJournalFlush_wf (s : State) (h : Memory.wf s.mem = true) : Out.Wf (execJournalFlush s) := by simp [execJournalFlush, h]

@[simp] theorem execJournalCompaction_wf (s : State) (h : Memory.wf s.mem = true) :
    Out.Wf (execJournalCompaction s) := by simp [execJournalCompaction, h]

/-! ### HSR and the register windows (R596 to R600, Table HMC-7) -/

@[simp] theorem State.setR_mem (s : State) (n : Nat) (v : Word) : (State.setR s n v).mem = s.mem := rfl

@[simp] theorem State.pcNext_mem (s : State) : (State.pcNext s).mem = s.mem := rfl

@[simp] theorem State.ret_mem (s : State) (rd : Nat) (v : Word) : (State.ret s rd v).mem = s.mem := rfl

/-! ### Traps (R603 to R607) -/

@[simp] theorem State.errorMode_mem (s : State) (vec : Nat) : (State.errorMode s vec).mem = s.mem := by simp [State.errorMode]

@[simp] theorem State.trap_mem (s : State) (vec : Nat) : (State.trap s vec).mem = s.mem := by simp [State.trap]

@[simp] theorem State.divTrap_mem (s : State) : (State.divTrap s).mem = s.mem := by simp [State.divTrap]

@[simp] theorem State.faultTrap_mem (s : State) (vec cause : Nat) (addr : Word) :
    (State.faultTrap s vec cause addr).mem = s.mem := by simp [State.faultTrap]

@[simp] theorem State.illegal_mem (s : State) : (State.illegal s).mem = s.mem := by simp [State.illegal]

/-! ### Caches (R593, R594) -/

@[simp] theorem State.fetch_wf (s : State) (h : Memory.wf s.mem = true) : Memory.wf (State.fetch s).1.mem = true := by
  unfold State.fetch
  dsimp only
  (repeat' split) <;> simp [h]

@[simp] theorem State.writeBack_wf (s : State) (line : Nat) (h : Memory.wf s.mem = true) : Memory.wf (State.writeBack s line).mem = true := by
  unfold State.writeBack
  split <;> simp [h]

@[simp] theorem State.dropLine_mem (s : State) (line : Nat) : (State.dropLine s line).mem = s.mem := rfl

@[simp] theorem State.fillNew_wf (s : State) (line : Nat) (h : Memory.wf s.mem = true) : Memory.wf (State.fillNew s line).mem = true := by
  unfold State.fillNew
  dsimp only
  (repeat' split) <;> simp [h]

@[simp] theorem State.fill_wf (s : State) (line : Nat) (h : Memory.wf s.mem = true) : Memory.wf (State.fill s line).mem = true := by
  unfold State.fill
  split <;> simp [h]

@[simp] theorem State.dataRead_wf (s : State) (a n : Nat) (h : Memory.wf s.mem = true) : Memory.wf (State.dataRead s a n).mem = true := by
  unfold State.dataRead
  dsimp only
  (repeat' split) <;> simp [h]

@[simp] theorem State.dataWrite_wf (s : State) (a : Nat) (d : Bytes) (h : Memory.wf s.mem = true) : Memory.wf (State.dataWrite s a d).mem = true := by
  unfold State.dataWrite
  dsimp only
  (repeat' split) <;> simp [h]

@[simp] theorem State.watch_mem (s : State) (a n : Nat) : (State.watch s a n).mem = s.mem := by simp [State.watch]

/-! ### One instruction (R591, R592) -/

@[simp] theorem State.instr_wf (s : State) (body : State → State) (h : Memory.wf s.mem = true) (hb : KeepsWf body) : Out.Wf (State.instr s body) := by
  unfold State.instr
  rw [Out.wf_next]
  split
  · exact h
  split
  · exact h
  have hu : ∀ u c, State.fetch { s with hm := { s.hm with waiting := false }, dbg := { s.dbg with stepping := false } } = (u, c) →
      Memory.wf u.mem = true :=
    fun u c he => by
      have := State.fetch_wf { s with hm := { s.hm with waiting := false }, dbg := { s.dbg with stepping := false } } h
      rwa [he] at this
  dsimp only
  split
  · next he => exact hb _ (hu _ _ he)
  · next he => simp [hu _ _ he]

@[simp] theorem State.instrR_wf (s : State) (regs : List Nat) (body : State → State) (h : Memory.wf s.mem = true) (hb : KeepsWf body) :
    Out.Wf (State.instrR s regs body) := by
  unfold State.instrR
  refine State.instr_wf _ _ h fun t ht => ?_
  split
  · simp [ht]
  · exact hb t ht

/-! ### Windows (R598, R599) -/

@[simp] theorem execEnter_wf (rd rs1 : Nat) (imm : BitVec 10) (s : State) (h : Memory.wf s.mem = true) : Out.Wf (execEnter rd rs1 imm s) := by
  simp +contextual [execEnter, h]

@[simp] theorem execLeave_wf (rd rs1 : Nat) (imm : BitVec 10) (s : State) (h : Memory.wf s.mem = true) : Out.Wf (execLeave rd rs1 imm s) := by
  simp +contextual [execLeave, h]

@[simp] theorem State.writeWvm_mem (s : State) (v : BitVec 8) : (State.writeWvm s v).mem = s.mem := by simp [State.writeWvm]

@[simp] theorem execWvmset_wf (bank : Nat) (s : State) (h : Memory.wf s.mem = true) : Out.Wf (execWvmset bank s) := by
  simp +contextual [execWvmset, h]

@[simp] theorem execWvmclr_wf (bank : Nat) (s : State) (h : Memory.wf s.mem = true) : Out.Wf (execWvmclr bank s) := by
  simp +contextual [execWvmclr, h]

@[simp] theorem State.dataFault_mem (s u : State) (a : Nat) : (State.dataFault s u a).mem = s.mem := by
  unfold State.dataFault
  rw [State.faultTrap_mem]

@[simp] theorem State.storeWords_wf (s : State) (a : Nat) (l : List Word) (h : Memory.wf s.mem = true) :
    Memory.wf (State.storeWords s a l).1.mem = true := by
  induction l generalizing s a with
  | nil => exact h
  | cons w r ih =>
    have ht : Memory.wf (s.dataWrite a (leBytes 4 w.toNat)).mem = true := State.dataWrite_wf _ _ _ h
    unfold State.storeWords
    dsimp only
    split
    · exact ih _ _ ht
    · exact ht

@[simp] theorem State.loadWords_wf (s : State) (a n : Nat) (acc : List Word) (h : Memory.wf s.mem = true) :
    Memory.wf (State.loadWords s a n acc).1.mem = true := by
  induction n generalizing s a acc with
  | zero => exact h
  | succ n ih =>
    have ht : Memory.wf (s.dataRead a 4).mem = true := State.dataRead_wf _ _ _ h
    unfold State.loadWords
    dsimp only
    split
    · exact ih _ _ _ ht
    · exact ht

@[simp] theorem execStwin_wf (window rs : Nat) (s : State) (h : Memory.wf s.mem = true) : Out.Wf (execStwin window rs s) := by
  refine State.instrR_wf _ _ _ h fun t ht => State.ite_wf (by simp [ht]) (State.ite_wf (by simp [ht]) ?_)
  have hw := State.storeWords_wf t (t.r rs).toNat (frameRegs.map fun r => t.hm.regIn ((t.hm.cwp + window) % 8) r) ht
  split
  · next he =>
    rw [he] at hw
    simpa using hw
  · simp [ht]

@[simp] theorem execLdwin_wf (window rs : Nat) (s : State) (h : Memory.wf s.mem = true) : Out.Wf (execLdwin window rs s) := by
  refine State.instrR_wf _ _ _ h fun t ht => State.ite_wf (by simp [ht]) (State.ite_wf (by simp [ht]) ?_)
  have hw := State.loadWords_wf t (t.r rs).toNat 12 [] ht
  split
  · next he =>
    rw [he] at hw
    simpa using hw
  · simp [ht]

/-! ### System registers (R618, R619) -/

@[simp] theorem execRdsys_wf (rd sys : Nat) (s : State) (h : Memory.wf s.mem = true) : Out.Wf (execRdsys rd sys s) := by
  simp +contextual [execRdsys, h]

@[simp] theorem execWrsys_wf (sys rs : Nat) (s : State) (h : Memory.wf s.mem = true) : Out.Wf (execWrsys sys rs s) := by
  unfold execWrsys
  split <;> simp +contextual [h]

@[simp] theorem execSyscall_wf (imm : BitVec 10) (s : State) (h : Memory.wf s.mem = true) : Out.Wf (execSyscall imm s) := by
  simp +contextual [execSyscall, h]

@[simp] theorem execEret_wf (skip : Bool) (s : State) (h : Memory.wf s.mem = true) : Out.Wf (execEret skip s) := by
  simp +contextual [execEret, h]

@[simp] theorem execRdflt_wf (rd code : Nat) (s : State) (h : Memory.wf s.mem = true) : Out.Wf (execRdflt rd code s) := by
  simp +contextual [execRdflt, h]

@[simp] theorem execWfi_wf (s : State) (h : Memory.wf s.mem = true) : Out.Wf (execWfi s) := by
  simp +contextual [execWfi, h]

/-! ### Cache instructions and MEMBAR -/

@[simp] theorem State.backThen_wf (s : State) (line : Nat) (k : State → State) (h : Memory.wf s.mem = true) (hk : KeepsWf k) :
    Memory.wf (State.backThen s line k).mem = true := by
  have ht : Memory.wf (s.writeBack line).mem = true := by simp [h]
  have hkt := hk _ ht
  simp [State.backThen, h, hkt]

@[simp] theorem execCwb_wf (rs : Nat) (imm : BitVec 10) (s : State) (h : Memory.wf s.mem = true) : Out.Wf (execCwb rs imm s) := by
  simp +contextual [execCwb, h]

@[simp] theorem execCinv_wf (rs : Nat) (imm : BitVec 10) (s : State) (h : Memory.wf s.mem = true) : Out.Wf (execCinv rs imm s) := by
  simp +contextual [execCinv, h]

@[simp] theorem execCwbinv_wf (rs : Nat) (imm : BitVec 10) (s : State) (h : Memory.wf s.mem = true) : Out.Wf (execCwbinv rs imm s) := by
  simp +contextual [execCwbinv, h]

@[simp] theorem execFlushi_wf (s : State) (h : Memory.wf s.mem = true) : Out.Wf (execFlushi s) := by
  simp +contextual [execFlushi, h]

@[simp] theorem execMembar_wf (s : State) (h : Memory.wf s.mem = true) : Out.Wf (execMembar s) := by
  simp +contextual [execMembar, h]

/-! ### Loads, stores, branches, ordinary instructions -/

@[simp] theorem execHmLoadStore_wf (op : HmMemOp) (rd rs1 : Nat) (imm : Word) (s : State) (h : Memory.wf s.mem = true) :
    Out.Wf (execHmLoadStore op rd rs1 imm s) := by
  simp +contextual [execHmLoadStore, h]

@[simp] theorem State.jump_mem (s : State) (target : Word) : (State.jump s target).mem = s.mem := by simp [State.jump]

@[simp] theorem execHmBranch_wf (op : HmBranchOp) (rd rs1 n : Nat) (imm : Word) (s : State) (h : Memory.wf s.mem = true) :
    Out.Wf (execHmBranch op rd rs1 n imm s) := by
  unfold execHmBranch
  split <;> simp +contextual [h]

@[simp] theorem execHmIntegerInstruction_wf (op : HmIntOp) (rd rs1 rs2 : Nat) (imm : Word) (s : State) (h : Memory.wf s.mem = true) :
    Out.Wf (execHmIntegerInstruction op rd rs1 rs2 imm s) := by
  unfold execHmIntegerInstruction
  split <;> simp +contextual [h]

@[simp] theorem execHmUndefinedEncoding_wf (v : Word) (s : State) (h : Memory.wf s.mem = true) : Out.Wf (execHmUndefinedEncoding v s) := by
  simp +contextual [execHmUndefinedEncoding, h]

/-! ### Interrupts (R604, R608 to R610) -/

@[simp] theorem execInterruptTaken_wf (s : State) (h : Memory.wf s.mem = true) : Out.Wf (execInterruptTaken s) := by
  unfold execInterruptTaken
  (repeat' split) <;> simp [h]

/-! ### Integer arithmetic (R627 to R636) -/

@[simp] theorem State.alu_wf (s : State) (rd rs1 rs2 : Nat) (f : Word → Word → Word) (h : Memory.wf s.mem = true) :
    Out.Wf (State.alu s rd rs1 rs2 f) := by
  simp +contextual [State.alu, h]

@[simp] theorem execMulLo_wf (rd rs1 rs2 : Nat) (s : State) (h : Memory.wf s.mem = true) : Out.Wf (execMulLo rd rs1 rs2 s) := by simp [execMulLo, h]

@[simp] theorem execMulHs_wf (rd rs1 rs2 : Nat) (s : State) (h : Memory.wf s.mem = true) : Out.Wf (execMulHs rd rs1 rs2 s) := by simp [execMulHs, h]

@[simp] theorem execMulHu_wf (rd rs1 rs2 : Nat) (s : State) (h : Memory.wf s.mem = true) : Out.Wf (execMulHu rd rs1 rs2 s) := by simp [execMulHu, h]

@[simp] theorem State.mulw_wf (s : State) (rd rs1 rs2 : Nat) (f : Word → Word → DWord) (h : Memory.wf s.mem = true) :
    Out.Wf (State.mulw s rd rs1 rs2 f) := by
  simp +contextual [State.mulw, h]

@[simp] theorem execMulwS_wf (rd rs1 rs2 : Nat) (s : State) (h : Memory.wf s.mem = true) : Out.Wf (execMulwS rd rs1 rs2 s) := by simp [execMulwS, h]

@[simp] theorem execMulwU_wf (rd rs1 rs2 : Nat) (s : State) (h : Memory.wf s.mem = true) : Out.Wf (execMulwU rd rs1 rs2 s) := by simp [execMulwU, h]

@[simp] theorem State.addFlags_wf (s : State) (rd rs1 rs2 : Nat) (chain : Bool) (h : Memory.wf s.mem = true) :
    Out.Wf (State.addFlags s rd rs1 rs2 chain) := by
  simp +contextual [State.addFlags, h]

@[simp] theorem State.subFlags_wf (s : State) (rd rs1 rs2 : Nat) (chain : Bool) (h : Memory.wf s.mem = true) :
    Out.Wf (State.subFlags s rd rs1 rs2 chain) := by
  simp +contextual [State.subFlags, h]

@[simp] theorem execAddf_wf (rd rs1 rs2 : Nat) (s : State) (h : Memory.wf s.mem = true) : Out.Wf (execAddf rd rs1 rs2 s) := by simp [execAddf, h]

@[simp] theorem execAddcf_wf (rd rs1 rs2 : Nat) (s : State) (h : Memory.wf s.mem = true) : Out.Wf (execAddcf rd rs1 rs2 s) := by simp [execAddcf, h]

@[simp] theorem execSubf_wf (rd rs1 rs2 : Nat) (s : State) (h : Memory.wf s.mem = true) : Out.Wf (execSubf rd rs1 rs2 s) := by simp [execSubf, h]

@[simp] theorem execSubbf_wf (rd rs1 rs2 : Nat) (s : State) (h : Memory.wf s.mem = true) : Out.Wf (execSubbf rd rs1 rs2 s) := by simp [execSubbf, h]

@[simp] theorem State.hmDivide_wf (s : State) (rd rs1 rs2 : Nat) (f : Word → Word → Word) (h : Memory.wf s.mem = true) :
    Out.Wf (State.hmDivide s rd rs1 rs2 f) := by
  simp +contextual [State.hmDivide, h]

@[simp] theorem execDivS_wf (rd rs1 rs2 : Nat) (s : State) (h : Memory.wf s.mem = true) : Out.Wf (execDivS rd rs1 rs2 s) := by simp [execDivS, h]

@[simp] theorem execDivU_wf (rd rs1 rs2 : Nat) (s : State) (h : Memory.wf s.mem = true) : Out.Wf (execDivU rd rs1 rs2 s) := by simp [execDivU, h]

@[simp] theorem execRemS_wf (rd rs1 rs2 : Nat) (s : State) (h : Memory.wf s.mem = true) : Out.Wf (execRemS rd rs1 rs2 s) := by simp [execRemS, h]

@[simp] theorem execRemU_wf (rd rs1 rs2 : Nat) (s : State) (h : Memory.wf s.mem = true) : Out.Wf (execRemU rd rs1 rs2 s) := by simp [execRemU, h]

@[simp] theorem execDivlU_wf (rd rs2 : Nat) (s : State) (h : Memory.wf s.mem = true) : Out.Wf (execDivlU rd rs2 s) := by
  simp +contextual [execDivlU, h]

@[simp] theorem execClz_wf (rd rs1 : Nat) (s : State) (h : Memory.wf s.mem = true) : Out.Wf (execClz rd rs1 s) := by
  simp +contextual [execClz, h]

/-! ### FSR, FQ and the instructions in flight (R647 to R650) -/

@[simp] theorem execFpInstructionComplete_wf (s : State) (h : Memory.wf s.mem = true) :
    Out.Wf (execFpInstructionComplete s) := by simp [execFpInstructionComplete, h]

@[simp] theorem State.fpTrap_mem (s : State) : (State.fpTrap s).mem = s.mem := by simp [State.fpTrap]

/-- An effect of an FP instruction that keeps the memory canonical. -/
def FpBodyWf (b : State → State × Option Nat) : Prop := ∀ t, Memory.wf t.mem = true → Memory.wf (b t).1.mem = true

@[simp] theorem fpBodyWf_iff (b : State → State × Option Nat) :
    FpBodyWf b ↔ ∀ t, Memory.wf t.mem = true → Memory.wf (b t).1.mem = true := Iff.rfl

@[simp] theorem State.fpInstr_wf (s : State) (f : FpForm) (body : State → State × Option Nat) (h : Memory.wf s.mem = true) (hb : FpBodyWf body) :
    Out.Wf (State.fpInstr s f body) := by
  unfold State.fpInstr
  refine State.instr_wf _ _ h fun u hu => ?_
  extract_lets t
  have ht : Memory.wf t.mem = true := hu
  clear_value t
  have hbody := hb t ht
  split
  · simp [ht]
  split
  · simp [ht]
  split
  · simp [ht]
  split
  · next he => rw [he] at hbody; exact hbody
  · next he => rw [he] at hbody; simpa using hbody

/-! ### Encodings and operands (R638) -/

@[simp] theorem State.setF_mem (s : State) (n : Nat) (fmt : FpFmt) (v : Nat) : (State.setF s n fmt v).mem = s.mem := rfl

@[simp] theorem State.fpCompute_wf (s : State) (fmt : FpFmt) (op fd fs1 fs2 rm : Nat) (uses : List Nat) (divider : Bool) (body : State → FpRes)
    (h : Memory.wf s.mem = true) : Out.Wf (State.fpCompute s fmt op fd fs1 fs2 rm uses divider body) :=
  State.fpInstr_wf _ _ _ h fun t ht => by simp [ht]

@[simp] theorem State.fpToInt_wf (s : State) (fmt : FpFmt) (op rd fs1 fs2 rm : Nat) (body : State → FpRes) (h : Memory.wf s.mem = true) :
    Out.Wf (State.fpToInt s fmt op rd fs1 fs2 rm body) :=
  State.fpInstr_wf _ _ _ h fun t ht => by simp [ht]

/-! ### The instructions of Table HMA-2 -/

@[simp] theorem execFadd_wf (fmt : FpFmt) (fd fs1 fs2 rm : Nat) (s : State) (h : Memory.wf s.mem = true) : Out.Wf (execFadd fmt fd fs1 fs2 rm s) := by
  simp +contextual [execFadd, h]

@[simp] theorem execFsub_wf (fmt : FpFmt) (fd fs1 fs2 rm : Nat) (s : State) (h : Memory.wf s.mem = true) : Out.Wf (execFsub fmt fd fs1 fs2 rm s) := by
  simp +contextual [execFsub, h]

@[simp] theorem execFmul_wf (fmt : FpFmt) (fd fs1 fs2 rm : Nat) (s : State) (h : Memory.wf s.mem = true) : Out.Wf (execFmul fmt fd fs1 fs2 rm s) := by
  simp +contextual [execFmul, h]

@[simp] theorem execFdiv_wf (fmt : FpFmt) (fd fs1 fs2 rm : Nat) (s : State) (h : Memory.wf s.mem = true) : Out.Wf (execFdiv fmt fd fs1 fs2 rm s) := by
  simp +contextual [execFdiv, h]

@[simp] theorem execFsqrt_wf (fmt : FpFmt) (fd fs1 rm : Nat) (s : State) (h : Memory.wf s.mem = true) : Out.Wf (execFsqrt fmt fd fs1 rm s) := by
  simp +contextual [execFsqrt, h]

@[simp] theorem State.fused_wf (s : State) (fmt : FpFmt) (op fd fs1 fs2 rm : Nat) (sub neg : Bool) (h : Memory.wf s.mem = true) :
    Out.Wf (State.fused s fmt op fd fs1 fs2 rm sub neg) := by
  simp +contextual [State.fused, h]

@[simp] theorem execFmac_wf (fmt : FpFmt) (fd fs1 fs2 rm : Nat) (s : State) (h : Memory.wf s.mem = true) :
    Out.Wf (execFmac fmt fd fs1 fs2 rm s) := by simp [execFmac, h]

@[simp] theorem execFmsc_wf (fmt : FpFmt) (fd fs1 fs2 rm : Nat) (s : State) (h : Memory.wf s.mem = true) :
    Out.Wf (execFmsc fmt fd fs1 fs2 rm s) := by simp [execFmsc, h]

@[simp] theorem execFnmac_wf (fmt : FpFmt) (fd fs1 fs2 rm : Nat) (s : State) (h : Memory.wf s.mem = true) :
    Out.Wf (execFnmac fmt fd fs1 fs2 rm s) := by simp [execFnmac, h]

@[simp] theorem execFminn_wf (fmt : FpFmt) (fd fs1 fs2 rm : Nat) (s : State) (h : Memory.wf s.mem = true) :
    Out.Wf (execFminn fmt fd fs1 fs2 rm s) := by
  simp +contextual [execFminn, h]

@[simp] theorem execFmaxn_wf (fmt : FpFmt) (fd fs1 fs2 rm : Nat) (s : State) (h : Memory.wf s.mem = true) :
    Out.Wf (execFmaxn fmt fd fs1 fs2 rm s) := by
  simp +contextual [execFmaxn, h]

@[simp] theorem execFcmpeq_wf (fmt : FpFmt) (rd fs1 fs2 rm : Nat) (s : State) (h : Memory.wf s.mem = true) :
    Out.Wf (execFcmpeq fmt rd fs1 fs2 rm s) := by
  simp +contextual [execFcmpeq, h]

@[simp] theorem execFcmplt_wf (fmt : FpFmt) (rd fs1 fs2 rm : Nat) (s : State) (h : Memory.wf s.mem = true) :
    Out.Wf (execFcmplt fmt rd fs1 fs2 rm s) := by
  simp +contextual [execFcmplt, h]

@[simp] theorem execFcmple_wf (fmt : FpFmt) (rd fs1 fs2 rm : Nat) (s : State) (h : Memory.wf s.mem = true) :
    Out.Wf (execFcmple fmt rd fs1 fs2 rm s) := by
  simp +contextual [execFcmple, h]

@[simp] theorem execFtoi_wf (fmt : FpFmt) (rd fs1 rm : Nat) (s : State) (h : Memory.wf s.mem = true) : Out.Wf (execFtoi fmt rd fs1 rm s) := by
  simp +contextual [execFtoi, h]

@[simp] theorem execFtou_wf (fmt : FpFmt) (rd fs1 rm : Nat) (s : State) (h : Memory.wf s.mem = true) : Out.Wf (execFtou fmt rd fs1 rm s) := by
  simp +contextual [execFtou, h]

@[simp] theorem State.fpFromInt_wf (s : State) (fmt : FpFmt) (op fd rs1 rs2 rm : Nat) (bad : Bool) (body : State → FpRes)
    (h : Memory.wf s.mem = true) :
    Out.Wf (State.fpFromInt s fmt op fd rs1 rs2 rm bad body) :=
  State.fpInstr_wf _ _ _ h fun t ht => by simp [ht]

@[simp] theorem execItof_wf (fmt : FpFmt) (fd rs1 rm : Nat) (s : State) (h : Memory.wf s.mem = true) : Out.Wf (execItof fmt fd rs1 rm s) := by
  simp +contextual [execItof, h]

@[simp] theorem execUtof_wf (fmt : FpFmt) (fd rs1 rm : Nat) (s : State) (h : Memory.wf s.mem = true) : Out.Wf (execUtof fmt fd rs1 rm s) := by
  simp +contextual [execUtof, h]

@[simp] theorem execFtof_wf (fmt : FpFmt) (fd fs1 rm : Nat) (s : State) (h : Memory.wf s.mem = true) : Out.Wf (execFtof fmt fd fs1 rm s) := by
  simp +contextual [execFtof, h]

@[simp] theorem State.fpSign_wf (s : State) (fmt : FpFmt) (op fd fs1 fs2 rm : Nat) (sign : State → Bool) (h : Memory.wf s.mem = true) :
    Out.Wf (State.fpSign s fmt op fd fs1 fs2 rm sign) :=
  State.fpInstr_wf _ _ _ h fun t ht => by simp [ht]

@[simp] theorem execFcpys_wf (fmt : FpFmt) (fd fs1 fs2 rm : Nat) (s : State) (h : Memory.wf s.mem = true) :
    Out.Wf (execFcpys fmt fd fs1 fs2 rm s) := by
  simp +contextual [execFcpys, h]

@[simp] theorem execFneg_wf (fmt : FpFmt) (fd fs1 rm : Nat) (s : State) (h : Memory.wf s.mem = true) : Out.Wf (execFneg fmt fd fs1 rm s) := by
  simp +contextual [execFneg, h]

@[simp] theorem execFabs_wf (fmt : FpFmt) (fd fs1 rm : Nat) (s : State) (h : Memory.wf s.mem = true) : Out.Wf (execFabs fmt fd fs1 rm s) := by
  simp +contextual [execFabs, h]

@[simp] theorem execFput_wf (fmt : FpFmt) (fd rs1 rs2 rm : Nat) (s : State) (h : Memory.wf s.mem = true) : Out.Wf (execFput fmt fd rs1 rs2 rm s) := by
  simp +contextual [execFput, h]

@[simp] theorem execFget_wf (fmt : FpFmt) (rd fs1 rm : Nat) (s : State) (h : Memory.wf s.mem = true) : Out.Wf (execFget fmt rd fs1 rm s) := by
  simp +contextual [execFget, h]

/-! ### FP loads and stores -/

@[simp] theorem State.fload_wf (s : State) (fmt : FpFmt) (n f rs : Nat) (imm : Word) (h : Memory.wf s.mem = true) :
    Out.Wf (State.fload s fmt n f rs imm) := by
  refine State.fpInstr_wf _ _ _ h fun t ht => ?_
  dsimp only
  (repeat' split) <;> simp [ht]

@[simp] theorem State.fstore_wf (s : State) (n f rs : Nat) (imm : Word) (h : Memory.wf s.mem = true) : Out.Wf (State.fstore s n f rs imm) := by
  refine State.fpInstr_wf _ _ _ h fun t ht => ?_
  dsimp only
  (repeat' split) <;> simp [ht]

@[simp] theorem execFloadS_wf (f rs : Nat) (imm : Word) (s : State) (h : Memory.wf s.mem = true) :
    Out.Wf (execFloadS f rs imm s) := by simp [execFloadS, h]

@[simp] theorem execFloadD_wf (f rs : Nat) (imm : Word) (s : State) (h : Memory.wf s.mem = true) :
    Out.Wf (execFloadD f rs imm s) := by simp [execFloadD, h]

@[simp] theorem execFstoreS_wf (f rs : Nat) (imm : Word) (s : State) (h : Memory.wf s.mem = true) :
    Out.Wf (execFstoreS f rs imm s) := by simp [execFstoreS, h]

@[simp] theorem execFstoreD_wf (f rs : Nat) (imm : Word) (s : State) (h : Memory.wf s.mem = true) :
    Out.Wf (execFstoreD f rs imm s) := by simp [execFstoreD, h]

/-! ### FBAR and the FP state instructions (R649, R650) -/

@[simp] theorem execFbar_wf (s : State) (h : Memory.wf s.mem = true) : Out.Wf (execFbar s) := by
  simp +contextual [execFbar, h]

@[simp] theorem State.fpState_wf (s : State) (reg : Nat) (body : State → State) (h : Memory.wf s.mem = true) (hb : KeepsWf body) :
    Out.Wf (State.fpState s reg body) := by
  unfold State.fpState
  refine State.instrR_wf _ _ _ h fun t ht => ?_
  split
  · simp [ht]
  · exact hb t ht

@[simp] theorem execRdfsr_wf (rd : Nat) (s : State) (h : Memory.wf s.mem = true) : Out.Wf (execRdfsr rd s) := by
  simp +contextual [execRdfsr, h]

@[simp] theorem execWrfsr_wf (rs : Nat) (imm : BitVec 10) (s : State) (h : Memory.wf s.mem = true) : Out.Wf (execWrfsr rs imm s) := by
  simp +contextual [execWrfsr, h]

@[simp] theorem execRdfq_wf (rd code : Nat) (s : State) (h : Memory.wf s.mem = true) : Out.Wf (execRdfq rd code s) := by
  unfold execRdfq
  refine State.fpState_wf _ _ _ h fun t ht => ?_
  (repeat' split) <;> simp [ht]

end Sys2Proof.Machine
end

section
/-! SUPPORT. Every instruction keeps the canonical form of the Basin memory, and the statement MemoryCanonicalKept. -/

namespace Sys2Proof.Machine

/-- Each instruction by the lemma about its own effect. -/
theorem exec_wf (i : Instr) (s : State) (h : Memory.wf s.mem = true) : Out.Wf (exec i s) := by
  cases i with
  | ping q => exact execPing_wf q s h
  | info q => exact execInfo_wf q s h
  | sessionOpen q => exact execSessionOpen_wf q s h
  | sessionClose q => exact execSessionClose_wf q s h
  | ctrlTake q => exact execCtrlTake_wf q s h
  | ctrlRelease q => exact execCtrlRelease_wf q s h
  | timeGet q => exact execTimeGet_wf q s h
  | resetDevice q => exact execResetDevice_wf q s h
  | authChallenge q => exact execAuthChallenge_wf q s h
  | authResponse q => exact execAuthResponse_wf q s h
  | cycleSet q => exact execCycleSet_wf q s h
  | cycleStart q => exact execCycleStart_wf q s h
  | cycleStop q => exact execCycleStop_wf q s h
  | cycleStatus q => exact execCycleStatus_wf q s h
  | chCreate q => exact execChCreate_wf q s h
  | chDestroy q => exact execChDestroy_wf q s h
  | chConfig q => exact execChConfig_wf q s h
  | chBind q => exact execChBind_wf q s h
  | chArm q => exact execChArm_wf q s h
  | chDisarm q => exact execChDisarm_wf q s h
  | chSetpoint q => exact execChSetpoint_wf q s h
  | chRead q => exact execChRead_wf q s h
  | chList q => exact execChList_wf q s h
  | chDepend q => exact execChDepend_wf q s h
  | chModelRead q => exact execChModelRead_wf q s h
  | chModelWrite q => exact execChModelWrite_wf q s h
  | chModelTrimOn q => exact execChModelTrimOn_wf q s h
  | chModelTrimOff q => exact execChModelTrimOff_wf q s h
  | chModelRestore q => exact execChModelRestore_wf q s h
  | chSafe q => exact execChSafe_wf q s h
  | stList q => exact execStList_wf q s h
  | stAdmit q => exact execStAdmit_wf q s h
  | stFallback q => exact execStFallback_wf q s h
  | stRelease q => exact execStRelease_wf q s h
  | stStatus q => exact execStStatus_wf q s h
  | vslLoad q => exact execVslLoad_wf q s h
  | vslCommit q => exact execVslCommit_wf q s h
  | tankDefine q => exact execTankDefine_wf q s h
  | sectionDefine q => exact execSectionDefine_wf q s h
  | limitsSet q => exact execLimitsSet_wf q s h
  | condRead q => exact execCondRead_wf q s h
  | strengthRead q => exact execStrengthRead_wf q s h
  | progLoad q => exact execProgLoad_wf q s h
  | progUnload q => exact execProgUnload_wf q s h
  | progInfo q => exact execProgInfo_wf q s h
  | slipLoadBegin q => exact execSlipLoadBegin_wf q s h
  | slipLoadData q => exact execSlipLoadData_wf q s h
  | slipLoadApply q => exact execSlipLoadApply_wf q s h
  | slipLoadAbort q => exact execSlipLoadAbort_wf q s h
  | slipStatus q => exact execSlipStatus_wf q s h
  | slipCapture q => exact execSlipCapture_wf q s h
  | slipReadback q => exact execSlipReadback_wf q s h
  | bbStatus q => exact execBbStatus_wf q s h
  | bbRead q => exact execBbRead_wf q s h
  | bbMark q => exact execBbMark_wf q s h
  | bbRelease q => exact execBbRelease_wf q s h
  | tmSubscribe q => exact execTmSubscribe_wf q s h
  | tmCancel q => exact execTmCancel_wf q s h
  | wearRead q => exact execWearRead_wf q s h
  | wearReset q => exact execWearReset_wf q s h
  | calRunSensorZero q => exact execCalRunSensorZero_wf q s h
  | calRunSensorSpan q => exact execCalRunSensorSpan_wf q s h
  | calRunTemp q => exact execCalRunTemp_wf q s h
  | calRunSupmon q => exact execCalRunSupmon_wf q s h
  | calRunPlausibility q => exact execCalRunPlausibility_wf q s h
  | calRead q => exact execCalRead_wf q s h
  | dutySet q => exact execDutySet_wf q s h
  | mirrorSet q => exact execMirrorSet_wf q s h
  | fwUpdateBegin q => exact execFwUpdateBegin_wf q s h
  | fwUpdateData q => exact execFwUpdateData_wf q s h
  | fwUpdateCommit q => exact execFwUpdateCommit_wf q s h
  | fwUpdateAbort q => exact execFwUpdateAbort_wf q s h
  | patchLoad q => exact execPatchLoad_wf q s h
  | otpProgramKeyHash q => exact execOtpProgramKeyHash_wf q s h
  | otpProgramRevoke q => exact execOtpProgramRevoke_wf q s h
  | otpProgramRollback q => exact execOtpProgramRollback_wf q s h
  | otpProgramOpenFw q => exact execOtpProgramOpenFw_wf q s h
  | otpProgramJtagLock q => exact execOtpProgramJtagLock_wf q s h
  | otpProgramSlipSignReq q => exact execOtpProgramSlipSignReq_wf q s h
  | otpProgramCustomerKey q => exact execOtpProgramCustomerKey_wf q s h
  | diagRegRead q => exact execDiagRegRead_wf q s h
  | diagRegWrite q => exact execDiagRegWrite_wf q s h
  | diagMemRead q => exact execDiagMemRead_wf q s h
  | diagBar2On q => exact execDiagBar2On_wf q s h
  | diagBar2Off q => exact execDiagBar2Off_wf q s h
  | contFragment q => exact execContFragment_wf q s h
  | assemblyTimeout sess => exact execAssemblyTimeout_wf sess s h
  | sessionLivenessExpiry sess => exact execSessionLivenessExpiry_wf sess s h
  | udpGapExpiry sess => exact execUdpGapExpiry_wf sess s h
  | authNonceExpiry sess => exact execAuthNonceExpiry_wf sess s h
  | authLockoutExpiry => exact execAuthLockoutExpiry_wf s h
  | pcieReqDoorbell pair buffer count oneDword => exact execPcieReqDoorbell_wf pair buffer count oneDword s h
  | pcieReplyDoorbell pair oneDword => exact execPcieReplyDoorbell_wf pair oneDword s h
  | pcieEvtCons pair index oneDword => exact execPcieEvtCons_wf pair index oneDword s h
  | hostIrqStatusClear mask oneDword => exact execHostIrqStatusClear_wf mask oneDword s h
  | pcieConfigRequest write offset value => exact execPcieConfigRequest_wf write offset value s h
  | pcieBar2Read offset oneDword => exact execPcieBar2Read_wf offset oneDword s h
  | pcieBar2Write offset value => exact execPcieBar2Write_wf offset value s h
  | perstNAssert => exact execPerstNAssert_wf s h
  | perstNDeassert => exact execPerstNDeassert_wf s h
  | functionLevelReset => exact execFunctionLevelReset_wf s h
  | pcieLinkDownExpiry => exact execPcieLinkDownExpiry_wf s h
  | hspiWritePacket command clocked => exact execHspiWritePacket_wf command clocked s h
  | hspiReadStatus command clocked => exact execHspiReadStatus_wf command clocked s h
  | hspiReadPacket command clocked => exact execHspiReadPacket_wf command clocked s h
  | loadChunk ep offset total data => exact execLoadChunk_wf ep offset total data s h
  | porRelease vbatGood => exact execPorRelease_wf vbatGood s h
  | internalResetRelease bootMode testN => exact execInternalResetRelease_wf bootMode testN s h
  | basinClearDone otpOk => exact execBasinClearDone_wf otpOk s h
  | flashHeaderRetry slot retryFailed => exact execFlashHeaderRetry_wf slot retryFailed s h
  | bootImageChecked slot => exact execBootImageChecked_wf slot s h
  | plainSelfTestDone failed => exact execPlainSelfTestDone_wf failed s h
  | harbourOpen => exact execHarbourOpen_wf s h
  | warningAssert sense io33 => exact execWarningAssert_wf sense io33 s h
  | warningIrq => exact execWarningIrq_wf s h
  | warningRecoveryStart => exact execWarningRecoveryStart_wf s h
  | warningClear => exact execWarningClear_wf s h
  | sagReset io33 core plain also => exact execSagReset_wf io33 core plain also s h
  | sagResetRelease => exact execSagResetRelease_wf s h
  | senseConversion mv => exact execSenseConversion_wf mv s h
  | vbatLow => exact execVbatLow_wf s h
  | aonSupplySwitch onVbat => exact execAonSupplySwitch_wf onVbat s h
  | pinReset also => exact execPinReset_wf also s h
  | jtagSysreset also => exact execJtagSysreset_wf also s h
  | sysctlSwreset who => exact execSysctlSwreset_wf who s h
  | doubleTrap also => exact execDoubleTrap_wf also s h
  | pllLock pll => exact execPllLock_wf pll s h
  | clockLost clocks => exact execClockLost_wf clocks s h
  | clockGood clock => exact execClockGood_wf clock s h
  | timeFreqCheck ppm => exact execTimeFreqCheck_wf ppm s h
  | timeHoldoverEntry => exact execTimeHoldoverEntry_wf s h
  | timeHoldoverExit => exact execTimeHoldoverExit_wf s h
  | arrHalfChange => exact execArrHalfChange_wf s h
  | watchMark => exact execWatchMark_wf s h
  | pilotMarkArrival => exact execPilotMarkArrival_wf s h
  | watchMarkIrq => exact execWatchMarkIrq_wf s h
  | macMarkArrival port => exact execMacMarkArrival_wf port s h
  | admissionRound => exact execAdmissionRound_wf s h
  | configResend station => exact execConfigResend_wf station s h
  | joinForget station => exact execJoinForget_wf station s h
  | announce => exact execAnnounce_wf s h
  | gatherDeadline => exact execGatherDeadline_wf s h
  | markCompare n => exact execMarkCompare_wf n s h
  | quayLdGo => exact execQuayLdGo_wf s h
  | loadDone => exact execLoadDone_wf s h
  | quayUlGo => exact execQuayUlGo_wf s h
  | unloadDone => exact execUnloadDone_wf s h
  | quayAbort => exact execQuayAbort_wf s h
  | commitFlip => exact execCommitFlip_wf s h
  | commitDeadline => exact execCommitDeadline_wf s h
  | cycleDeadline => exact execCycleDeadline_wf s h
  | cycleAbandoned => exact execCycleAbandoned_wf s h
  | sagwarnRequest => exact execSagwarnRequest_wf s h
  | microTrap => exact execMicroTrap_wf s h
  | ackTimeout => exact execAckTimeout_wf s h
  | pilotStart => exact execPilotStart_wf s h
  | pilotBreak => exact execPilotBreak_wf s h
  | pilotResume => exact execPilotResume_wf s h
  | pilotPramWrite data3 => exact execPilotPramWrite_wf data3 s h
  | pilotMboxWrite n data => exact execPilotMboxWrite_wf n data s h
  | macroFetch => exact execMacroFetch_wf s h
  | microJump word => exact execMicroJump_wf word s h
  | microCall word => exact execMicroCall_wf word s h
  | microReturn word => exact execMicroReturn_wf word s h
  | microLoop word => exact execMicroLoop_wf word s h
  | microDispatch word => exact execMicroDispatch_wf word s h
  | microWait word => exact execMicroWait_wf word s h
  | microTret word => exact execMicroTret_wf word s h
  | microIdle word => exact execMicroIdle_wf word s h
  | plainIllegal m => exact execPlainIllegal_wf m s h
  | plainNop m => exact execPlainNop_wf m s h
  | plainMov m => exact execPlainMov_wf m s h
  | plainMovx m => exact execPlainMovx_wf m s h
  | plainLdi m => exact execPlainLdi_wf m s h
  | plainLdix m => exact execPlainLdix_wf m s h
  | plainStix m => exact execPlainStix_wf m s h
  | plainAdd m => exact execPlainAdd_wf m s h
  | plainSub m => exact execPlainSub_wf m s h
  | plainAddi m => exact execPlainAddi_wf m s h
  | plainNeg m => exact execPlainNeg_wf m s h
  | plainAbs m => exact execPlainAbs_wf m s h
  | plainMul m => exact execPlainMul_wf m s h
  | plainMulw m => exact execPlainMulw_wf m s h
  | plainSmul m => exact execPlainSmul_wf m s h
  | plainDiv m => exact execPlainDiv_wf m s h
  | plainRem m => exact execPlainRem_wf m s h
  | plainCeq m => exact execPlainCeq_wf m s h
  | plainCne m => exact execPlainCne_wf m s h
  | plainClt m => exact execPlainClt_wf m s h
  | plainCle m => exact execPlainCle_wf m s h
  | plainCgt m => exact execPlainCgt_wf m s h
  | plainCge m => exact execPlainCge_wf m s h
  | plainAnd m => exact execPlainAnd_wf m s h
  | plainOr m => exact execPlainOr_wf m s h
  | plainXor m => exact execPlainXor_wf m s h
  | plainAndn m => exact execPlainAndn_wf m s h
  | plainNot m => exact execPlainNot_wf m s h
  | plainSel m => exact execPlainSel_wf m s h
  | plainMin m => exact execPlainMin_wf m s h
  | plainMax m => exact execPlainMax_wf m s h
  | plainShl m => exact execPlainShl_wf m s h
  | plainShr m => exact execPlainShr_wf m s h
  | plainScl m => exact execPlainScl_wf m s h
  | plainSatn m => exact execPlainSatn_wf m s h
  | plainNshn m => exact execPlainNshn_wf m s h
  | plainNshe m => exact execPlainNshe_wf m s h
  | plainNshs m => exact execPlainNshs_wf m s h
  | plainNshw m => exact execPlainNshw_wf m s h
  | plainPsum m => exact execPlainPsum_wf m s h
  | plainPsumx m => exact execPlainPsumx_wf m s h
  | plainRmax m => exact execPlainRmax_wf m s h
  | plainRmin m => exact execPlainRmin_wf m s h
  | plainGmax m => exact execPlainGmax_wf m s h
  | plainGmin m => exact execPlainGmin_wf m s h
  | plainMpush m => exact execPlainMpush_wf m s h
  | plainMpushf m => exact execPlainMpushf_wf m s h
  | plainMpop m => exact execPlainMpop_wf m s h
  | plainMelse m => exact execPlainMelse_wf m s h
  | plainTsrch m => exact execPlainTsrch_wf m s h
  | plainTlerp m => exact execPlainTlerp_wf m s h
  | plainBr m => exact execPlainBr_wf m s h
  | plainBrgor m => exact execPlainBrgor_wf m s h
  | plainBrngor m => exact execPlainBrngor_wf m s h
  | plainBrfor m => exact execPlainBrfor_wf m s h
  | plainLoop m => exact execPlainLoop_wf m s h
  | plainCall m => exact execPlainCall_wf m s h
  | plainRet m => exact execPlainRet_wf m s h
  | plainWaitm m => exact execPlainWaitm_wf m s h
  | plainEnd m => exact execPlainEnd_wf m s h
  | plainFclr m => exact execPlainFclr_wf m s h
  | plainDzclr m => exact execPlainDzclr_wf m s h
  | enter rd rs1 imm => exact execEnter_wf rd rs1 imm s h
  | leave rd rs1 imm => exact execLeave_wf rd rs1 imm s h
  | syscall imm => exact execSyscall_wf imm s h
  | eret skip => exact execEret_wf skip s h
  | rdsys rd sys => exact execRdsys_wf rd sys s h
  | wrsys sys rs => exact execWrsys_wf sys rs s h
  | wvmset bank => exact execWvmset_wf bank s h
  | wvmclr bank => exact execWvmclr_wf bank s h
  | stwin window rs => exact execStwin_wf window rs s h
  | ldwin window rs => exact execLdwin_wf window rs s h
  | cwb rs imm => exact execCwb_wf rs imm s h
  | cinv rs imm => exact execCinv_wf rs imm s h
  | cwbinv rs imm => exact execCwbinv_wf rs imm s h
  | flushi => exact execFlushi_wf s h
  | membar => exact execMembar_wf s h
  | rdflt rd code => exact execRdflt_wf rd code s h
  | wfi => exact execWfi_wf s h
  | fbar => exact execFbar_wf s h
  | rdfsr rd => exact execRdfsr_wf rd s h
  | wrfsr rs imm => exact execWrfsr_wf rs imm s h
  | rdfq rd code => exact execRdfq_wf rd code s h
  | mulLo rd rs1 rs2 => exact execMulLo_wf rd rs1 rs2 s h
  | mulHs rd rs1 rs2 => exact execMulHs_wf rd rs1 rs2 s h
  | mulHu rd rs1 rs2 => exact execMulHu_wf rd rs1 rs2 s h
  | mulwS rd rs1 rs2 => exact execMulwS_wf rd rs1 rs2 s h
  | mulwU rd rs1 rs2 => exact execMulwU_wf rd rs1 rs2 s h
  | addf rd rs1 rs2 => exact execAddf_wf rd rs1 rs2 s h
  | addcf rd rs1 rs2 => exact execAddcf_wf rd rs1 rs2 s h
  | subf rd rs1 rs2 => exact execSubf_wf rd rs1 rs2 s h
  | subbf rd rs1 rs2 => exact execSubbf_wf rd rs1 rs2 s h
  | divS rd rs1 rs2 => exact execDivS_wf rd rs1 rs2 s h
  | divU rd rs1 rs2 => exact execDivU_wf rd rs1 rs2 s h
  | remS rd rs1 rs2 => exact execRemS_wf rd rs1 rs2 s h
  | remU rd rs1 rs2 => exact execRemU_wf rd rs1 rs2 s h
  | divlU rd rs2 => exact execDivlU_wf rd rs2 s h
  | clz rd rs1 => exact execClz_wf rd rs1 s h
  | fadd fmt fd fs1 fs2 rm => exact execFadd_wf fmt fd fs1 fs2 rm s h
  | fsub fmt fd fs1 fs2 rm => exact execFsub_wf fmt fd fs1 fs2 rm s h
  | fmul fmt fd fs1 fs2 rm => exact execFmul_wf fmt fd fs1 fs2 rm s h
  | fdiv fmt fd fs1 fs2 rm => exact execFdiv_wf fmt fd fs1 fs2 rm s h
  | fsqrt fmt fd fs1 rm => exact execFsqrt_wf fmt fd fs1 rm s h
  | fmac fmt fd fs1 fs2 rm => exact execFmac_wf fmt fd fs1 fs2 rm s h
  | fmsc fmt fd fs1 fs2 rm => exact execFmsc_wf fmt fd fs1 fs2 rm s h
  | fnmac fmt fd fs1 fs2 rm => exact execFnmac_wf fmt fd fs1 fs2 rm s h
  | fminn fmt fd fs1 fs2 rm => exact execFminn_wf fmt fd fs1 fs2 rm s h
  | fmaxn fmt fd fs1 fs2 rm => exact execFmaxn_wf fmt fd fs1 fs2 rm s h
  | fcmpeq fmt rd fs1 fs2 rm => exact execFcmpeq_wf fmt rd fs1 fs2 rm s h
  | fcmplt fmt rd fs1 fs2 rm => exact execFcmplt_wf fmt rd fs1 fs2 rm s h
  | fcmple fmt rd fs1 fs2 rm => exact execFcmple_wf fmt rd fs1 fs2 rm s h
  | ftoi fmt rd fs1 rm => exact execFtoi_wf fmt rd fs1 rm s h
  | ftou fmt rd fs1 rm => exact execFtou_wf fmt rd fs1 rm s h
  | itof fmt fd rs1 rm => exact execItof_wf fmt fd rs1 rm s h
  | utof fmt fd rs1 rm => exact execUtof_wf fmt fd rs1 rm s h
  | ftof fmt fd fs1 rm => exact execFtof_wf fmt fd fs1 rm s h
  | fcpys fmt fd fs1 fs2 rm => exact execFcpys_wf fmt fd fs1 fs2 rm s h
  | fneg fmt fd fs1 rm => exact execFneg_wf fmt fd fs1 rm s h
  | fabs fmt fd fs1 rm => exact execFabs_wf fmt fd fs1 rm s h
  | fput fmt fd rs1 rs2 rm => exact execFput_wf fmt fd rs1 rs2 rm s h
  | fget fmt rd fs1 rm => exact execFget_wf fmt rd fs1 rm s h
  | floadS f rs imm => exact execFloadS_wf f rs imm s h
  | floadD f rs imm => exact execFloadD_wf f rs imm s h
  | fstoreS f rs imm => exact execFstoreS_wf f rs imm s h
  | fstoreD f rs imm => exact execFstoreD_wf f rs imm s h
  | interruptTaken => exact execInterruptTaken_wf s h
  | intcClaim who => exact execIntcClaim_wf who s h
  | intcComplete who source => exact execIntcComplete_wf who source s h
  | intcEndService who index mask => exact execIntcEndService_wf who index mask s h
  | debugAccess a => exact execDebugAccess_wf a s h
  | dbgFlush => exact execDbgFlush_wf s h
  | tapTestLogicReset => exact execTapTestLogicReset_wf s h
  | registerWrite who addr value => exact execRegisterWrite_wf who addr value s h
  | guardKey who block => exact execGuardKey_wf who block s h
  | guardWrongKey who block key => exact execGuardWrongKey_wf who block key s h
  | guardClearFlags who block value => exact execGuardClearFlags_wf who block value s h
  | guardExpiry block => exact execGuardExpiry_wf block s h
  | otpProgCmd who value => exact execOtpProgCmd_wf who value s h
  | otpProgDone verified => exact execOtpProgDone_wf verified s h
  | wdtService who value => exact execWdtService_wf who value s h
  | wdtPrewarn => exact execWdtPrewarn_wf s h
  | wdtExpiry also => exact execWdtExpiry_wf also s h
  | timerSyscntLatch who => exact execTimerSyscntLatch_wf who s h
  | ptpTimeSnapshot who => exact execPtpTimeSnapshot_wf who s h
  | fairwayTraceRead who => exact execFairwayTraceRead_wf who s h
  | shadowDataRead who => exact execShadowDataRead_wf who s h
  | dcqDropClear who => exact execDcqDropClear_wf who s h
  | quayBusyClear who => exact execQuayBusyClear_wf who s h
  | clrColl who => exact execClrColl_wf who s h
  | clrEcc who => exact execClrEcc_wf who s h
  | clrCounts who => exact execClrCounts_wf who s h
  | scrubClr who => exact execScrubClr_wf who s h
  | ethCntClear who port => exact execEthCntClear_wf who port s h
  | ethRxKick who port ring => exact execEthRxKick_wf who port ring s h
  | ethTxKick who port ring => exact execEthTxKick_wf who port ring s h
  | mdioCommand who port value => exact execMdioCommand_wf who port value s h
  | mdioDone port data => exact execMdioDone_wf port data s h
  | mdioPoll port linkGood fullDuplex speed => exact execMdioPoll_wf port linkGood fullDuplex speed s h
  | ptpStep who => exact execPtpStep_wf who s h
  | dmaGo who channel => exact execDmaGo_wf who channel s h
  | dmaDone channel => exact execDmaDone_wf channel s h
  | dmaError channel addr => exact execDmaError_wf channel addr s h
  | matrixRequest r also other => exact execMatrixRequest_wf r also other s h
  | eccWriteBack addr => exact execEccWriteBack_wf addr s h
  | basinPowerWrite who value => exact execBasinPowerWrite_wf who value s h
  | basinWakeDone basin => exact execBasinWakeDone_wf basin s h
  | arrHalfWrite who half => exact execArrHalfWrite_wf who half s h
  | slipctlApplyGo who => exact execSlipctlApplyGo_wf who s h
  | slipctlCaptureGo who clock => exact execSlipctlCaptureGo_wf who clock s h
  | shadowCapture clock => exact execShadowCapture_wf clock s h
  | reclaimUnfence who domain => exact execReclaimUnfence_wf who domain s h
  | bbrRelease who index => exact execBbrRelease_wf who index s h
  | rtcSet who seconds => exact execRtcSet_wf who seconds s h
  | bbrAppend who beats low payload => exact execBbrAppend_wf who beats low payload s h
  | anchor => exact execAnchor_wf s h
  | fairwayRequest p also other => exact execFairwayRequest_wf p also other s h
  | fairwayResponse p => exact execFairwayResponse_wf p s h
  | waking p => exact execWaking_wf p s h
  | wakeRetry p => exact execWakeRetry_wf p s h
  | fairwayTimeout node tid => exact execFairwayTimeout_wf node tid s h
  | tidQuarantineEnd node tid => exact execTidQuarantineEnd_wf node tid s h
  | holdLeaseExpiry master port addr => exact execHoldLeaseExpiry_wf master port addr s h
  | injectionLeaseExpiry node tid => exact execInjectionLeaseExpiry_wf node tid s h
  | qcPortLeaseExpiry qc => exact execQcPortLeaseExpiry_wf qc s h
  | bbrPortLeaseExpiry master burst => exact execBbrPortLeaseExpiry_wf master burst s h
  | quayPassTimeout => exact execQuayPassTimeout_wf s h
  | fenceSequence domain lease resource low => exact execFenceSequence_wf domain lease resource low s h
  | domainResetRelease domain => exact execDomainResetRelease_wf domain s h
  | hmFenceLift port => exact execHmFenceLift_wf port s h
  | ethRxFrame port frame => exact execEthRxFrame_wf port frame s h
  | rxDescriptorRetry port ring => exact execRxDescriptorRetry_wf port ring s h
  | descriptorWaitExpiry port ring => exact execDescriptorWaitExpiry_wf port ring s h
  | ethTxDone port queue => exact execEthTxDone_wf port queue s h
  | join f => exact execJoin_wf f s h
  | configAck f => exact execConfigAck_wf f s h
  | input f => exact execInput_wf f s h
  | announceReceived f => exact execAnnounceReceived_wf f s h
  | commitReceived f => exact execCommitReceived_wf f s h
  | arpRequest port srcMac srcIp targetIp => exact execArpRequest_wf port srcMac srcIp targetIp s h
  | icmpEchoRequest port srcMac srcIp dstIp echo data => exact execIcmpEchoRequest_wf port srcMac srcIp dstIp echo data s h
  | ptpSync port m => exact execPtpSync_wf port m s h
  | ptpFollowUp port m => exact execPtpFollowUp_wf port m s h
  | ptpDelayReq port m => exact execPtpDelayReq_wf port m s h
  | ptpDelayResp port m => exact execPtpDelayResp_wf port m s h
  | ptpAnnounce port m => exact execPtpAnnounce_wf port m s h
  | modbusPollStart uart => exact execModbusPollStart_wf uart s h
  | modbusResponse uart frame lineOk => exact execModbusResponse_wf uart frame lineOk s h
  | modbusTimeout uart => exact execModbusTimeout_wf uart s h
  | nmeaSentence uart sentence => exact execNmeaSentence_wf uart sentence s h
  | canFrameReceived can id extended data => exact execCanFrameReceived_wf can id extended data s h
  | canTxDone can => exact execCanTxDone_wf can s h
  | canRxTimeout can => exact execCanRxTimeout_wf can s h
  | pointAgeExpiry station point => exact execPointAgeExpiry_wf station point s h
  | canBusOff can => exact execCanBusOff_wf can s h
  | canBusOffRecovery can => exact execCanBusOffRecovery_wf can s h
  | vsPost n entries lastApplied => exact execVsPost_wf n entries lastApplied s h
  | vsPresentRise n => exact execVsPresentRise_wf n s h
  | vsPresentFall n => exact execVsPresentFall_wf n s h
  | qcTransfer qc words also other => exact execQcTransfer_wf qc words also other s h
  | qcRawAccess qc write offset data locked also other => exact execQcRawAccess_wf qc write offset data locked also other s h
  | bankLow bank => exact execBankLow_wf bank s h
  | bankRestored bank => exact execBankRestored_wf bank s h
  | laneLost lane dropped => exact execLaneLost_wf lane dropped s h
  | slipWindowAccess who write offset data answer => exact execSlipWindowAccess_wf who write offset data answer s h
  | winTimeout who => exact execWinTimeout_wf who s h
  | slipApplyStart => exact execSlipApplyStart_wf s h
  | slipApplyDone ok => exact execSlipApplyDone_wf ok s h
  | ebbSlice => exact execEbbSlice_wf s h
  | quaySlot => exact execQuaySlot_wf s h
  | plainWindowAccess r => exact execPlainWindowAccess_wf r s h
  | fieldWakeDone field => exact execFieldWakeDone_wf field s h
  | fieldSleep field off => exact execFieldSleep_wf field off s h
  | plainScrubSlice => exact execPlainScrubSlice_wf s h
  | basinScrubRead basin => exact execBasinScrubRead_wf basin s h
  | slipConfigScrubRead offset errorBits => exact execSlipConfigScrubRead_wf offset errorBits s h
  | telemetryBuild => exact execTelemetryBuild_wf s h
  | wearCounting => exact execWearCounting_wf s h
  | trimSample => exact execTrimSample_wf s h
  | trimReplay slot => exact execTrimReplay_wf slot s h
  | dutyRotationCheck => exact execDutyRotationCheck_wf s h
  | dutyChangeoverConfirm group => exact execDutyChangeoverConfirm_wf group s h
  | dutyAbort group => exact execDutyAbort_wf group s h
  | calibrationSample => exact execCalibrationSample_wf s h
  | plausibilityCheck => exact execPlausibilityCheck_wf s h
  | driftTracking => exact execDriftTracking_wf s h
  | journalFlush => exact execJournalFlush_wf s h
  | journalCompaction => exact execJournalCompaction_wf s h
  | qspiCommandDone => exact execQspiCommandDone_wf s h
  | xipRead who offset => exact execXipRead_wf who offset s h
  | tempSample readings => exact execTempSample_wf readings s h
  | thermalStep1 => exact execThermalStep1_wf s h
  | thermalStep2 => exact execThermalStep2_wf s h
  | thermalClear => exact execThermalClear_wf s h
  | thermalShutdown also => exact execThermalShutdown_wf also s h
  | pcieLinkStateChange up gen width => exact execPcieLinkStateChange_wf up gen width s h
  | hmLoadStore op rd rs1 imm => exact execHmLoadStore_wf op rd rs1 imm s h
  | hmBranch op rd rs1 rs2 imm => exact execHmBranch_wf op rd rs1 rs2 imm s h
  | hmIntegerInstruction op rd rs1 rs2 imm => exact execHmIntegerInstruction_wf op rd rs1 rs2 imm s h
  | hmUndefinedEncoding word => exact execHmUndefinedEncoding_wf word s h
  | fpInstructionComplete => exact execFpInstructionComplete_wf s h
  | ptpAnnounceReceiptTimeout port => exact execPtpAnnounceReceiptTimeout_wf port s h
  | ptpMessageInterval port kind => exact execPtpMessageInterval_wf port kind s h
  | bbrStampUpdate => exact execBbrStampUpdate_wf s h
  | timeBaseSecond => exact execTimeBaseSecond_wf s h
  | supmonCrossing monitor low => exact execSupmonCrossing_wf monitor low s h
  | laneLockRegained lane => exact execLaneLockRegained_wf lane s h
  | vbatRecovered => exact execVbatRecovered_wf s h

/-- Settles O4: a step is an instruction's effect or leaves the state, and each instruction keeps the form. -/
theorem memoryCanonicalKept : Obligations.MemoryCanonicalKept := by
  intro s t h hstep
  cases hp : s.pending with
  | nil =>
    rw [step_of_pending_nil hp] at hstep
    rw [← Host.Outcome.next.inj hstep]
    exact h
  | cons c r =>
    rw [step_of_pending_cons hp] at hstep
    exact exec_wf c { s with pending := r } h t hstep

end Sys2Proof.Machine
end

section
/-! SUPPORT. The scrub slices and reads, and on what the statement ScrubbingCompletes (O56) turns: its clause for an uncorrectable configuration error
fails where a request waits for port B of Basin 2, which the error frees, but it asks only about the words that `Config.slipLastWord` says are not the
last. That constant has no value in the model, so that neither the statement nor its negation follows from it. -/

namespace Sys2Proof.Machine

section
variable (s : State)

/-! ### A slice of the Plain's scrub (R828, R830, R831) -/

/-- What a scrub of the Plain keeps: the planes, memory, channels and the rows that are not in error. -/
structure State.ScrubKeeps (s t : State) : Prop where
  mem : t.mem = s.mem
  chans : t.chans = s.chans
  planes : t.plain.mem = s.plain.mem
  good : ∀ k, Store.find? s.plain.ecc k = none → Store.find? t.plain.ecc k = none

variable {s} in
theorem State.ScrubKeeps.trans {t u : State} (h : s.ScrubKeeps t) (g : t.ScrubKeeps u) : s.ScrubKeeps u :=
  ⟨g.mem.trans h.mem, g.chans.trans h.chans, g.planes.trans h.planes, fun k hk => g.good k (h.good k hk)⟩

theorem State.noteUe_keeps (group addr : Nat) : s.ScrubKeeps (s.noteUe group addr) := by
  have hplain : ∃ p, (s.noteUe group addr).plain = { s.plain with ueFirst := p } := by
    unfold State.noteUe State.requestTrap
    dsimp only
    split <;> exact ⟨_, rfl⟩
  have hchans : (s.noteUe group addr).chans = s.chans := by
    unfold State.noteUe State.requestTrap
    dsimp only
    split <;> rfl
  obtain ⟨p, hp⟩ := hplain
  exact ⟨s.noteUe_mem _ _, hchans, by rw [hp], fun k hk => by rw [hp]; exact hk⟩

theorem State.scrubUe_tells (event target off : Nat) : (s.setRbit Reg.scrubEvents event true).Tells (s.scrubUe event target off) :=
  State.faultB_tells _ _ _ _ _ _

theorem State.scrubUe_keeps (event target off : Nat) : s.ScrubKeeps (s.scrubUe event target off) := by
  have h := s.scrubUe_tells event target off
  exact ⟨h.mem, h.chans, congrArg Plain.mem h.plain, fun k hk => by rw [h.plain]; exact hk⟩

theorem State.scrubRow_correctable {e : Nat × Nat} (he : e.2 = 1) :
    s.ScrubKeeps (s.scrubRow e) ∧ Store.find? (s.scrubRow e).plain.ecc e.1 = none := by
  have hecc : (s.scrubRow e).plain.ecc = Store.erase s.plain.ecc e.1 ∧ (s.scrubRow e).plain.mem = s.plain.mem ∧ (s.scrubRow e).chans = s.chans := by
    simp only [State.scrubRow, he, if_true]
    exact ⟨rfl, rfl, rfl⟩
  obtain ⟨hecc, hplanes, hchans⟩ := hecc
  refine ⟨⟨s.scrubRow_mem e, hchans, hplanes, fun k hk => ?_⟩, by rw [hecc, Store.find?_erase_self]⟩
  by_cases heq : k = e.1
  · rw [hecc, heq, Store.find?_erase_self]
  · rw [hecc, Store.find?_erase_ne _ heq, hk]

theorem State.scrubRow_keeps (e : Nat × Nat) : s.ScrubKeeps (s.scrubRow e) := by
  by_cases he : e.2 = 1
  · exact (s.scrubRow_correctable he).1
  · simp only [State.scrubRow, he, if_false]
    have hcount : s.ScrubKeeps (State.addFld { s with plain := { s.plain with repair := s.plain.repair.filter fun k => k != e.1 } }
        Reg.scrubPlainCnt 31 16 1) := ⟨rfl, rfl, rfl, fun _ hk => hk⟩
    have hue := hcount.trans (State.scrubUe_keeps _ 0 0 (e.1 % 8192))
    split
    · exact hue
    · exact hue.trans (State.noteUe_keeps _ _ _)

theorem State.scrubRows_keeps (l : List (Nat × Nat)) : s.ScrubKeeps (l.foldl (fun (t : State) e => t.scrubRow e) s) :=
  List.foldlRecOn (motive := s.ScrubKeeps) _ _ ⟨rfl, rfl, rfl, fun _ hk => hk⟩ fun t ht e _ => ht.trans (t.scrubRow_keeps e)

/-- Every correctable row among those that are scrubbed is written back. -/
theorem State.scrubRows_corrects {l : List (Nat × Nat)} {e : Nat × Nat} (hl : e ∈ l) (he : e.2 = 1) :
    Store.find? (l.foldl (fun (t : State) e => t.scrubRow e) s).plain.ecc e.1 = none := by
  induction l generalizing s with
  | nil => cases hl
  | cons x l ih =>
    rw [List.foldl_cons]
    rcases List.mem_cons.mp hl with rfl | hl
    · exact (State.scrubRows_keeps _ l).good _ (s.scrubRow_correctable he).2
    · exact ih _ hl

/-- The registers of a sweep's end are the counts of sweeps and SCRUB_EVENTS. -/
theorem State.reg_sweepDone {target a : Nat} (ha : a ≠ Reg.scrubSweeps + 4 * (target / 2)) (he : a ≠ Reg.scrubEvents) :
    (s.sweepDone target).reg a = s.reg a := by
  unfold State.sweepDone
  exact (State.reg_setRbit_ne _ _ _ he).trans (State.reg_addFld_ne _ _ _ _ ha)

/-- A sweep's end is counted where a position starts again. -/
def State.swept (s : State) (c : Prop) [Decidable c] (target : Nat) : State := if c then s.sweepDone target else s

theorem State.swept_eq (c : Prop) [Decidable c] (target : Nat) : s.swept c target = { s with regs := (s.swept c target).regs } := by
  unfold State.swept
  split <;> rfl

theorem State.swept_keeps (c : Prop) [Decidable c] (target : Nat) : (s.swept c target).plain = s.plain ∧ (s.swept c target).scrub = s.scrub ∧
    (s.swept c target).mem = s.mem ∧ (s.swept c target).chans = s.chans := by
  unfold State.swept
  split <;> exact ⟨rfl, rfl, rfl, rfl⟩

theorem State.reg_swept (c : Prop) [Decidable c] {target a : Nat} (ha : a ≠ Reg.scrubSweeps + 4 * (target / 2)) (he : a ≠ Reg.scrubEvents) :
    (s.swept c target).reg a = s.reg a := by
  unfold State.swept
  split
  · exact s.reg_sweepDone ha he
  · rfl

theorem State.rbit_swept_events (c : Prop) [Decidable c] {target : Nat} (ht : target < 12) {i : Nat} (hi : i ≠ 3) :
    (s.swept c target).rbit Reg.scrubEvents i = s.rbit Reg.scrubEvents i := by
  have hne : Reg.scrubEvents ≠ Reg.scrubSweeps + 4 * (target / 2) := by
    unfold Reg.scrubEvents Reg.scrubSweeps
    omega
  unfold State.swept State.sweepDone
  split
  · exact (State.rbit_setRbit_apart _ _ _ (by decide) hi).trans (congrArg (bit · i) (State.reg_addFld_ne _ _ _ _ hne))
  · rfl

/-- The time of a slice moves the Pilot and its trap requests on. -/
theorem State.sliceTime_eq : s.sliceTime = { s with pilot := s.sliceTime.pilot, regs := s.sliceTime.regs } := by
  unfold State.sliceTime State.plainCycles
  dsimp only
  split <;> split <;> rfl

theorem State.reg_sliceTime {a : Nat} (ha : a ≠ Reg.pilotTrapPend) : s.sliceTime.reg a = s.reg a := by
  unfold State.sliceTime State.plainCycles
  dsimp only
  split <;> split
  · exact State.reg_orReg_ne _ _ ha
  · rfl
  · exact State.reg_orReg_ne _ _ ha
  · rfl

/-- The rows that a slice reads. -/
def State.sliceRows (s : State) : List (Nat × Nat) := s.plain.ecc.filter fun (e : Nat × Nat) => s.scrubbed (e.1 / 8192 / 16) &&
  (s.plain.repair.contains e.1 || (decide (s.fld Reg.scrubPlainPos 12 0 ≤ e.1 % 8192) && decide (e.1 % 8192 < s.fld Reg.scrubPlainPos 12 0 + 2048)))

theorem State.mem_sliceRows {row : Nat} (he : Store.find? s.plain.ecc row = some 1) (hp : s.scrubbed (row / 8192 / 16) = true)
    (hr : row ∈ s.plain.repair ∨ s.fld Reg.scrubPlainPos 12 0 ≤ row % 8192 ∧ row % 8192 < s.fld Reg.scrubPlainPos 12 0 + 2048) :
    (row, 1) ∈ s.sliceRows := by
  refine List.mem_filter.mpr ⟨Store.mem_of_find? he, ?_⟩
  rw [hp, Bool.true_and, Bool.or_eq_true, Bool.and_eq_true, decide_eq_true_eq, decide_eq_true_eq, List.contains_iff_mem]
  exact hr

/-- A slice: its rows, the queue emptied, and the position and the slice counted. -/
theorem State.scrubSlice_leaves : s.scrubSlice.fld Reg.scrubPlainPos 12 0 = (s.fld Reg.scrubPlainPos 12 0 + 2048) % 8192 ∧
    s.scrubSlice.plain.repair = [] ∧ s.scrubSlice.scrub.slices = s.slicesDone + 1 ∧ s.ScrubKeeps s.scrubSlice ∧
    s.scrubSlice.plain.ecc = (s.sliceRows.foldl (fun (t : State) e => t.scrubRow e) s).plain.ecc := by
  have hrows := s.scrubRows_keeps s.sliceRows
  generalize hu : s.sliceRows.foldl (fun (t : State) e => t.scrubRow e) s = u at hrows ⊢
  have heq : s.scrubSlice = State.swept (State.setFld { u with
        plain := { u.plain with repair := [] }
        scrub := { u.scrub with cycle := s.wc.cycle, slices := s.slicesDone + 1 } } Reg.scrubPlainPos 12 0 ((s.fld Reg.scrubPlainPos 12 0 + 2048) % 8192))
      (s.fld Reg.scrubPlainPos 12 0 + 2048 ≥ 8192) 0 := by
    rw [← hu]
    rfl
  generalize hv : State.setFld _ _ _ _ _ = v at heq
  have hat : v.fld Reg.scrubPlainPos 12 0 = (s.fld Reg.scrubPlainPos 12 0 + 2048) % 8192 := by
    rw [← hv, State.fld_setFld_self _ _ _ _ _ (by decide) (by decide)]
    exact Nat.mod_mod _ _
  have hplain : v.plain = { u.plain with repair := [] } := by rw [← hv]; rfl
  have hslices : v.scrub.slices = s.slicesDone + 1 := by rw [← hv]; rfl
  have hkeeps : u.ScrubKeeps v := by rw [← hv]; exact ⟨rfl, rfl, rfl, fun _ hk => hk⟩
  obtain ⟨hsplain, hsscrub, hsmem, hschans⟩ := v.swept_keeps (s.fld Reg.scrubPlainPos 12 0 + 2048 ≥ 8192) 0
  have hsfld := congrArg (bits · 12 0) (v.reg_swept (s.fld Reg.scrubPlainPos 12 0 + 2048 ≥ 8192) (target := 0) (a := Reg.scrubPlainPos) (by decide) (by decide))
  have hswept : v.ScrubKeeps (v.swept (s.fld Reg.scrubPlainPos 12 0 + 2048 ≥ 8192) 0) :=
    ⟨hsmem, hschans, congrArg Plain.mem hsplain, fun k hk => by rw [hsplain]; exact hk⟩
  rw [heq]
  exact ⟨hsfld.trans hat, by rw [hsplain, hplain], by rw [hsscrub, hslices], hrows.trans (hkeeps.trans hswept), by rw [hsplain, hplain]⟩

/-- PLAIN_SCRUB_SLICE as the statement has it. -/
theorem plainScrubSlice_complete (hmay : s.sliceMay = true) (hon : s.rbit Reg.scrubCtrl 0 = true) : ∃ t, exec .plainScrubSlice s = .next t ∧
    t.fld Reg.scrubPlainPos 12 0 = (s.fld Reg.scrubPlainPos 12 0 + 2048) % 8192 ∧ t.plain.repair = [] ∧ t.scrub.slices = s.slicesDone + 1 ∧
    t.mem = s.mem ∧ t.chans = s.chans ∧ t.plain.mem = s.plain.mem ∧
    ∀ row, Store.find? s.plain.ecc row = some 1 → s.scrubbed (row / 8192 / 16) = true →
      (row ∈ s.plain.repair ∨ s.fld Reg.scrubPlainPos 12 0 ≤ row % 8192 ∧ row % 8192 < s.fld Reg.scrubPlainPos 12 0 + 2048) →
      Store.find? t.plain.ecc row = none := by
  have hexec : exec .plainScrubSlice s = .next s.sliceTime.scrubSlice := congrArg Host.Outcome.next (if_pos (by rw [hmay, hon]; rfl))
  have hplain : s.sliceTime.plain = s.plain := by rw [s.sliceTime_eq]
  have hscrubbed : s.sliceTime.scrubbed = s.scrubbed := by
    unfold State.scrubbed
    rw [hplain]
  have hdone : s.sliceTime.slicesDone = s.slicesDone := by rw [s.sliceTime_eq]; rfl
  have hchans : s.sliceTime.chans = s.chans := by rw [s.sliceTime_eq]
  have hpos : s.sliceTime.fld Reg.scrubPlainPos 12 0 = s.fld Reg.scrubPlainPos 12 0 := congrArg (bits · 12 0) (s.reg_sliceTime (by decide))
  obtain ⟨hat, hrepair, hslices, hkeeps, hecc⟩ := s.sliceTime.scrubSlice_leaves
  refine ⟨_, hexec, by rw [hat, hpos], hrepair, by rw [hslices, hdone], hkeeps.mem.trans s.sliceTime_mem, hkeeps.chans.trans hchans,
    hkeeps.planes.trans (congrArg Plain.mem hplain), fun row he hp hr => ?_⟩
  rw [hecc]
  refine State.scrubRows_corrects _ (e := (row, 1)) (State.mem_sliceRows _ ?_ ?_ ?_) rfl
  · rw [hplain]
    exact he
  · rw [hscrubbed]
    exact hp
  · rw [hplain, hpos]
    exact hr

/-- EBB_SLICE, where the scrub slice is the first task that applies. -/
theorem execEbbSlice_of_scrub (hmay : s.sliceMay = true) (hw : s.windowWaits = false) (hr : s.plain.rewrite = []) (hdue : s.scrubDue = true) :
    execEbbSlice s = .next s.sliceTime.scrubSlice := by
  simp only [execEbbSlice, hmay, hw, hr, hdue, Bool.not_true, Bool.false_eq_true, Bool.and_false, List.isEmpty_nil, if_true, if_false]

theorem execEbbSlice_of_none (hmay : s.sliceMay = true) (hw : s.windowWaits = false) (hr : s.plain.rewrite = []) (hdue : s.scrubDue = false)
    (hj : s.quay.jobs = false) (hc : s.wc.checkPosted = false) : execEbbSlice s = .next s := by
  simp only [execEbbSlice, hmay, hw, hr, hdue, hj, hc, Bool.not_true, Bool.false_eq_true, Bool.and_false, List.isEmpty_nil, if_false]

theorem State.scrubDue_of_on (hon : s.rbit Reg.scrubCtrl 0 = true)
    (h : s.plain.repair ≠ [] ∨ s.wc.running = false ∨ s.slicesDone < s.fld Reg.scrubPlainCfg 3 0) : s.scrubDue = true := by
  rw [State.scrubDue, hon, Bool.true_and, Bool.or_eq_true, Bool.or_eq_true, Bool.not_eq_true', Bool.not_eq_true', decide_eq_true_eq,
    List.isEmpty_eq_false_iff, or_assoc]
  exact h

/-! ### A word of a Basin's scrub (R829) -/

/-- What the Basin does with the word that the engine reads. -/
def State.basinWord (s : State) (b off : Nat) : State :=
  match Store.find? s.memErr (basinBase b + off) with
  | some k => if k = 1 then State.basinCe { s with memErr := Store.erase s.memErr (basinBase b + off) } b
    else (s.basinUe b (basinBase b + off)).scrubUe 1 (1 + b) off
  | none => s

/-- The engine goes on to the next word. -/
def State.nextWord (s : State) (b off : Nat) : State :=
  State.swept { s with scrub := { s.scrub with basinPos := s.scrub.basinPos.set b ((off + 8) % basinSize b) } } ((off + 8) % basinSize b = 0) (1 + b)

variable {b : Nat}

theorem execBasinScrubRead_of_on (hb : b < 5) (hf : s.domainFenced 11 = false) (hr : s.rbit Reg.scrubCtrl (1 + b) = true) (hs : s.basinState b = 0) :
    exec (.basinScrubRead b) s = .next ((s.basinWord b (s.scrub.basinPos.getD b 0)).nextWord b (s.scrub.basinPos.getD b 0)) := by
  have hgo : ¬ (decide (b ≥ 5) || s.domainFenced 11 || !s.rbit Reg.scrubCtrl (1 + b) || s.basinState b != 0) = true := by
    rw [hf, hr, hs, decide_eq_false (Nat.not_le.mpr hb)]
    decide
  exact congrArg Host.Outcome.next (if_neg hgo)

theorem State.nextWord_leaves (hb : b < 5) (off : Nat) (h : s.scrub.basinPos.length = 5) :
    (s.nextWord b off).scrub.basinPos.getD b 0 = (off + 8) % basinSize b ∧ (s.nextWord b off).mem = s.mem ∧ (s.nextWord b off).memErr = s.memErr ∧
    (∀ a, a < Reg.scrubCtrl → (s.nextWord b off).reg a = s.reg a) ∧ (s.nextWord b off).rbit Reg.scrubEvents 1 = s.rbit Reg.scrubEvents 1 := by
  have hreg : ∀ a, a < Reg.scrubCtrl → (s.nextWord b off).reg a = s.reg a := fun a ha => by
    refine State.reg_swept _ _ (fun heq => ?_) (fun heq => ?_)
    · unfold Reg.scrubSweeps at heq
      unfold Reg.scrubCtrl at ha
      omega
    · exact absurd (heq ▸ ha) (by decide)
  have hat : (s.nextWord b off).scrub.basinPos.getD b 0 = (off + 8) % basinSize b := by
    unfold State.nextWord
    rw [State.swept_eq]
    dsimp only
    rw [List.getD_eq_getElem?_getD, List.getElem?_set_self (by rw [h]; exact hb), Option.getD_some]
  refine ⟨hat, ?_, ?_, hreg, State.rbit_swept_events _ _ (by omega) (by decide)⟩
  · unfold State.nextWord
    rw [State.swept_eq]
  · unfold State.nextWord
    rw [State.swept_eq]

theorem State.basinWord_of_good {off : Nat} (h : Store.find? s.memErr (basinBase b + off) = none) : s.basinWord b off = s := by
  unfold State.basinWord
  rw [h]

theorem State.basinWord_of_ce {off : Nat} (h : Store.find? s.memErr (basinBase b + off) = some 1) :
    s.basinWord b off = State.basinCe { s with memErr := Store.erase s.memErr (basinBase b + off) } b := by
  unfold State.basinWord
  rw [h]
  exact if_pos rfl

theorem State.basinWord_of_ue {off : Nat} (h : Store.find? s.memErr (basinBase b + off) = some 2) :
    s.basinWord b off = (s.basinUe b (basinBase b + off)).scrubUe 1 (1 + b) off := by
  unfold State.basinWord
  rw [h]
  exact if_neg (by decide)

theorem State.fld_basinCe (b : Nat) :
    (s.basinCe b).fld (Reg.basinctlEcc + 4 * b) 15 0 = min 0xFFFF (s.fld (Reg.basinctlEcc + 4 * b) 15 0 + 1) := by
  refine (State.fld_setFld_self _ _ _ _ _ (by decide) (by decide)).trans ?_
  have hsat : satU (15 + 1 - 0) (s.fld (Reg.basinctlEcc + 4 * b) 15 0 + 1) = min 0xFFFF (s.fld (Reg.basinctlEcc + 4 * b) 15 0 + 1) := Nat.min_comm _ _
  rw [hsat]
  exact Nat.mod_eq_of_lt (Nat.lt_of_le_of_lt (Nat.min_le_left _ _) (by decide))

theorem State.memErr_basinUe (b a : Nat) : (s.basinUe b a).memErr = s.memErr := by
  unfold State.basinUe
  dsimp only
  split <;> rfl

/-- An uncorrectable word is counted and reported, and stays. -/
theorem State.ueWord_leaves (hb : b < 5) (a target off : Nat) : ((s.basinUe b a).scrubUe 1 target off).mem = s.mem ∧
    ((s.basinUe b a).scrubUe 1 target off).memErr = s.memErr ∧ ((s.basinUe b a).scrubUe 1 target off).scrub = s.scrub ∧
    ((s.basinUe b a).scrubUe 1 target off).rbit Reg.scrubEvents 1 = true ∧
    ((s.basinUe b a).scrubUe 1 target off).rbit Reg.basinctlEvents b = true := by
  have h := (s.basinUe b a).scrubUe_tells 1 target off
  have hmemErr : ((s.basinUe b a).scrubUe 1 target off).memErr = (s.basinUe b a).memErr := by rw [h.eq]; rfl
  have hscrub : ((s.basinUe b a).scrubUe 1 target off).scrub = (s.basinUe b a).scrub := by rw [h.eq]; rfl
  have hkept : (s.basinUe b a).scrub = s.scrub := by
    unfold State.basinUe
    dsimp only
    split <;> rfl
  refine ⟨h.mem.trans (s.basinUe_mem b a), hmemErr.trans (s.memErr_basinUe b a), hscrub.trans hkept, ?_, ?_⟩
  · exact (h.rbit (by decide) 1).trans (State.rbit_setRbit_self _ _ _ _ (by decide))
  · exact (h.rbit (told_of_lt (by decide)) b).trans ((State.rbit_setRbit_ne _ _ (by decide)).trans
      (State.rbit_setRbit_self _ _ _ _ (Nat.lt_trans hb (by decide))))

/-- BASIN_SCRUB_READ as the statement has it. -/
theorem basinScrubRead_complete {off : Nat} (hb : b < 5) (hf : s.domainFenced 11 = false) (hr : s.rbit Reg.scrubCtrl (1 + b) = true)
    (hs : s.basinState b = 0) (hoff : off = s.scrub.basinPos.getD b 0) (hlen : s.scrub.basinPos.length = 5) :
    (Store.find? s.memErr (basinBase b + off) = none → ∃ t, exec (.basinScrubRead b) s = .next t ∧
      t.scrub.basinPos.getD b 0 = (off + 8) % basinSize b ∧ t.mem = s.mem ∧ t.memErr = s.memErr) ∧
    (Store.find? s.memErr (basinBase b + off) = some 1 → ∃ t, exec (.basinScrubRead b) s = .next t ∧
      t.scrub.basinPos.getD b 0 = (off + 8) % basinSize b ∧ t.mem = s.mem ∧ Store.find? t.memErr (basinBase b + off) = none ∧
      t.fld (Reg.basinctlEcc + 4 * b) 15 0 = min 0xFFFF (s.fld (Reg.basinctlEcc + 4 * b) 15 0 + 1)) ∧
    (Store.find? s.memErr (basinBase b + off) = some 2 → ∃ t, exec (.basinScrubRead b) s = .next t ∧
      t.scrub.basinPos.getD b 0 = (off + 8) % basinSize b ∧ t.mem = s.mem ∧ t.memErr = s.memErr ∧ t.rbit Reg.scrubEvents 1 = true ∧
      t.rbit Reg.basinctlEvents b = true) := by
  have hexec := execBasinScrubRead_of_on s hb hf hr hs
  rw [← hoff] at hexec
  refine ⟨fun h => ?_, fun h => ?_, fun h => ?_⟩
  · rw [s.basinWord_of_good h] at hexec
    obtain ⟨hat, hmem, hmemErr, -, -⟩ := s.nextWord_leaves hb off hlen
    exact ⟨_, hexec, hat, hmem, hmemErr⟩
  · rw [s.basinWord_of_ce h] at hexec
    obtain ⟨hat, hmem, hmemErr, hreg, -⟩ := State.nextWord_leaves
      (State.basinCe { s with memErr := Store.erase s.memErr (basinBase b + off) } b) hb off hlen
    have hlow : Reg.basinctlEcc + 4 * b < Reg.scrubCtrl := by
      unfold Reg.basinctlEcc Reg.scrubCtrl
      omega
    refine ⟨_, hexec, hat, hmem, ?_, (congrArg (bits · 15 0) (hreg _ hlow)).trans (State.fld_basinCe _ b)⟩
    rw [hmemErr]
    exact Store.find?_erase_self _ _
  · rw [s.basinWord_of_ue h] at hexec
    obtain ⟨hmem, hmemErr, hscrub, hevent, hbasin⟩ := s.ueWord_leaves hb (basinBase b + off) (1 + b) off
    obtain ⟨hat, hmem', hmemErr', hreg, hevent'⟩ := State.nextWord_leaves ((s.basinUe b (basinBase b + off)).scrubUe 1 (1 + b) off) hb off
      (by rw [hscrub]; exact hlen)
    exact ⟨_, hexec, hat, hmem'.trans hmem, hmemErr'.trans hmemErr, hevent'.trans hevent, (congrArg (bit · b) (hreg _ (by decide))).trans hbasin⟩

end

/-! ### A request that waits for port B (R798, R818) -/

/-- A write to Basin 2 that waits at node 1. -/
def parkedWrite : FwPacket := { dst := 1, src := 0, kind := 2, tid := 0, addr := 0x22000000, data := [7] }

theorem State.basinWrite_of_no_error (u : State) (who : Initiator) (a : Nat) (d : Bytes) (h : u.memErr = []) :
    u.basinWrite who a d = State.busAnswer { u with mem := Memory.writeBytes u.mem a d } who .ok := by
  have hwords : u.errWords a d.length = [] := by rw [State.errWords, h]; rfl
  simp only [State.basinWrite, hwords, h, List.any_nil, Bool.false_eq_true, if_false, List.filter_nil]

theorem State.nodeBasin_parkedWrite (u : State) (hon : u.basinState 2 = 0) (herr : u.memErr = []) :
    (u.nodeBasin parkedWrite 2 []).mem = Memory.write u.mem 0x22000000 7 ∧ (u.nodeBasin parkedWrite 2 []).slip = u.slip ∧
    (u.nodeBasin parkedWrite 2 []).atPort = u.atPort := by
  have hstate : ¬ u.basinState 2 = 2 := by rw [hon]; decide
  have hform : ¬ (!formOk 5 (fwBus { master := 3, node := parkedWrite.src } parkedWrite) || decide (parkedWrite.addr +
      BusReq.len (fwBus { master := 3, node := parkedWrite.src } parkedWrite) > basinBase 2 + basinSize 2)) = true := by decide
  have hdo : u.basinDo (fwBus { master := 3, node := parkedWrite.src } parkedWrite) 2 parkedWrite.addr = State.busAnswer { u with
      pwrWait := u.pwrWait.filter fun (x : Nat × Nat) => x.1 != 2
      mem := Memory.write u.mem 0x22000000 7 } { master := 3 } .ok :=
    State.basinWrite_of_no_error _ { master := 3 } 0x22000000 [7] herr
  unfold State.nodeBasin
  simp only [hstate, if_false, hform, State.meet, hdo]
  exact ⟨rfl, rfl, rfl⟩

/-- No queue controller uses port B, Basin 2 is ON and empty, and only that write waits. -/
structure State.WriteWaits (s : State) : Prop where
  qcs : s.slip.qcs = []
  portWait : s.slip.portWait = []
  parked : s.fw.parked = [parkedWrite]
  atPort : s.atPort = []
  power : s.fld Reg.basinctlPwrStatus 5 4 = 0
  memErr : s.memErr = []
  mem : s.mem = []

section
variable {s t : State} (h : s.WriteWaits)
include h

theorem State.WriteWaits.setReg {a : Nat} (v : Word) (ha : Reg.basinctlPwrStatus ≠ a) : (s.setReg a v).WriteWaits :=
  ⟨h.qcs, h.portWait, h.parked, h.atPort, (congrArg (bits · 5 4) (s.reg_setReg_ne v ha)).trans h.power, h.memErr, h.mem⟩

theorem State.WriteWaits.slip {x : Slipway} (hq : x.qcs = []) (hw : x.portWait = []) : State.WriteWaits { s with slip := x } :=
  ⟨hq, hw, h.parked, h.atPort, h.power, h.memErr, h.mem⟩

theorem State.WriteWaits.tells (ht : s.Tells t) : t.WriteWaits := by
  have hpower := (ht.fld (told_of_lt (a := Reg.basinctlPwrStatus) (by decide)) 5 4).trans h.power
  refine ⟨?_, ?_, ?_, ?_, hpower, ?_, ht.mem.trans h.mem⟩
  · rw [ht.eq]
    exact h.qcs
  · rw [ht.eq]
    exact h.portWait
  · rw [ht.eq]
    exact h.parked
  · rw [ht.eq]
    exact h.atPort
  · rw [ht.eq]
    exact h.memErr

theorem State.WriteWaits.qcsOff : s.qcsOff.WriteWaits := by
  have hregs : State.WriteWaits ((List.range 24).foldl (fun (t : State) n =>
      (t.setFld (Reg.slipctlQcCfg + 16 * n) 1 0 0).setFld (Reg.slipctlQcStatus + 16 * n) 15 1 0) s) := by
    refine List.foldlRecOn (motive := State.WriteWaits) _ _ h fun t ht n _ => ?_
    have hapart : Reg.basinctlPwrStatus ≠ Reg.slipctlQcCfg + 16 * n ∧ Reg.basinctlPwrStatus ≠ Reg.slipctlQcStatus + 16 * n := by
      unfold Reg.basinctlPwrStatus Reg.slipctlQcCfg Reg.slipctlQcStatus
      omega
    exact (ht.setReg _ hapart.1).setReg _ hapart.2
  exact hregs.slip rfl hregs.portWait

/-- The fabric of a device without the firmware and without stations becomes blank. -/
theorem State.WriteWaits.blank (hb : s.boot.imaged = false) (hs : s.tl.stations = []) : (s.blank 0).WriteWaits := by
  have hmonitor : (List.range 4).foldl (fun (t : State) n => t.monitor (3 + n) false) s = s :=
    List.foldlRecOn (motive := fun t : State => t = s) _ _ rfl fun t ht n _ => by rw [State.monitor, ht, State.firmwareRuns, hb]; rfl
  have hlinks : (s.linksLost fun id _ => decide (124 ≤ id)) = s := by rw [State.linksLost, hs]; rfl
  unfold State.blank State.dropVirtual
  rw [hmonitor, hlinks]
  have hstatus := h.setReg (putBits (s.reg Reg.slipctlStatus) 7 4 0) (a := Reg.slipctlStatus) (by decide)
  have hoff := (hstatus.slip (x := { s.slip with vs := [] }) h.qcs h.portWait).qcsOff.setReg
    (putBits (State.reg (State.qcsOff { s.setFld Reg.slipctlStatus 7 4 0 with slip := { s.slip with vs := [] } }) Reg.slipctlStatus) 1 0 0)
    (a := Reg.slipctlStatus) (by decide)
  exact hoff.slip hoff.qcs hoff.portWait

/-- The write is made when port B is free. -/
theorem State.WriteWaits.mem_freePort : s.freePort.mem = [(0x22000000, 7)] := by
  have hfree : s.portHolder = none := by rw [State.portHolder, h.qcs]; rfl
  obtain ⟨hmem, hslip, hport⟩ := State.nodeBasin_parkedWrite { s with fw := { s.fw with parked := [] } } h.power h.memErr
  have hperform : State.perform { s with fw := { s.fw with parked := [] } } parkedWrite [] =
    State.nodeBasin { s with fw := { s.fw with parked := [] } } parkedWrite 2 [] := rfl
  unfold State.freePort
  simp only [hfree, Option.isSome_none, Bool.false_eq_true, if_false, h.parked, List.foldl_cons, List.foldl_nil, hperform]
  generalize State.nodeBasin { s with fw := { s.fw with parked := [] } } parkedWrite 2 [] = w at hmem hslip hport
  simp only [hslip, h.portWait, List.length_nil, State.portRun, State.retryPorts, State.restOfPorts, List.foldl_nil, hport, h.atPort, hmem, h.mem]
  rfl

/-- An uncorrectable configuration error leaves what waits. -/
theorem State.WriteWaits.configUe (hb : s.boot.imaged = false) (hs : s.tl.stations = []) (off : Nat) : (s.configUe off).WriteWaits := by
  unfold State.configUe
  dsimp only
  have hregs : State.WriteWaits (((s.addFld Reg.slipctlCounts 31 16 1).setRbit Reg.slipctlStatus 8 true).setRbit Reg.slipctlEvents 2 true) :=
    ((h.setReg _ (by decide)).setReg _ (by decide)).setReg _ (by decide)
  have hfault := (hregs.blank hb hs).tells (State.faultF_tells _ 0x046 3 0x0A (BitVec.ofNat 32 off))
  generalize State.faultF _ 0x046 3 0x0A (BitVec.ofNat 32 off) = u at hfault
  exact ((hfault.slip (x := { u.slip with reapply := true }) hfault.qcs hfault.portWait).setReg _ (by decide)).tells (State.scrubUe_tells _ 2 6 off)

end

/-- A device that scrubs the Slipway's configuration, with that write waiting. -/
def parkedDevice : State := { regs := [(Reg.scrubCtrl, 64)], fw := { parked := [parkedWrite] } }

theorem parkedDevice_waits : parkedDevice.WriteWaits := ⟨rfl, rfl, rfl, rfl, by decide +kernel, rfl, rfl⟩

/-- O56 asks that no word of the Slipway's memory is another than its last: at another word the write that waited changes memory. -/
theorem slipLastWord_of_scrubbingCompletes (h : Obligations.ScrubbingCompletes) (off : Nat) : Config.slipLastWord off = true := by
  refine Bool.not_eq_false _ |>.mp fun hlast => ?_
  obtain ⟨-, -, -, -, hslip⟩ := h parkedDevice _ rfl
  obtain ⟨-, -, t, hexec, -, -, -, hmem, -⟩ := hslip off (by decide +kernel) (by decide +kernel) (by decide +kernel)
    (fun hrun => absurd hrun (by decide +kernel)) rfl hlast
  have hgo : exec (.slipConfigScrubRead off 2) parkedDevice = .next (parkedDevice.configUe off).freePort := by
    show execSlipConfigScrubRead off 2 parkedDevice = _
    unfold execSlipConfigScrubRead
    rw [hlast]
    rfl
  rw [hgo] at hexec
  have hsame := congrArg State.mem (Host.Outcome.next.inj hexec)
  rw [(parkedDevice_waits.configUe rfl rfl off).mem_freePort, hmem] at hsame
  exact absurd hsame (by decide)

/-- O56 is the question whether `Config.slipLastWord` holds of every word: the other clauses hold. -/
theorem scrubbingCompletes_iff : Obligations.ScrubbingCompletes ↔ ∀ off, Config.slipLastWord off = true := by
  refine ⟨slipLastWord_of_scrubbingCompletes, fun hlast s pos hpos => ?_⟩
  subst hpos
  refine ⟨fun hmay hw hr hon hdue => ?_, fun hmay hw hr hon hj hc => ?_, plainScrubSlice_complete s, fun b off hb hf hr hs hoff hlen => ?_,
    fun off _ _ _ _ _ hnot => ?_⟩
  · have hslice := execEbbSlice_of_scrub s hmay hw hr (s.scrubDue_of_on hon hdue)
    obtain ⟨t, hexec, -, -, hslices, -⟩ := plainScrubSlice_complete s hmay hon
    have hsame : exec .ebbSlice s = exec .plainScrubSlice s := hslice.trans (congrArg Host.Outcome.next (if_pos (by rw [hmay, hon]; rfl))).symm
    exact ⟨hsame, t, hsame.trans hexec, hslices⟩
  · exact execEbbSlice_of_none s hmay hw hr (by rw [State.scrubDue, hon]; rfl) hj hc
  · exact basinScrubRead_complete s hb hf hr hs hoff hlen
  · exact absurd (hlast off) (by rw [hnot]; decide)

end Sys2Proof.Machine
end

end
